-- ==== Sys2Proof/Word.lean ====
section
/-!
DEFINITION. The words of the block: bytes, 16-, 32- and 64-bit words, the sparse table every
keyed store of the machine is held in, and nothing else.
-/

namespace Sys2Proof

/-- A byte (R15). -/
abbrev Byte := BitVec 8
/-- A 16-bit word. -/
abbrev Half := BitVec 16
/-- A 32-bit register word (R15). -/
abbrev Word := BitVec 32
/-- A 64-bit word: instants of TIME_NS, 64-bit record fields. -/
abbrev DWord := BitVec 64

/-- A sparse table: keys strictly rising, and no entry equal to what an unlisted key reads as.
The canonical form is `Sys2Proof.Machine.tabWf`; the operations are in `Machine/Tab.lean`. -/
abbrev Tab (α : Type) := List (Nat × α)

end Sys2Proof
end

