-- ==== Sys2Proof/Syntax.lean ====
section
/-!
DEFINITION. The commands of the block: one constructor of `Instr` per row of spec/opcode_table.json, and the
operand types they carry.
-/

namespace Sys2Proof

/-- A host command as it lies in its command-ring slot (R383): tag, session, inline payload and, when EXT = 1,
the extended page. -/
structure HCmd where
  tag : Half
  session : Word
  payload : List Byte
  page : Option (List Byte)
  deriving DecidableEq, Repr


/-- How a frame came to an Ethernet port: the port, and the VID of its 802.1Q tag if it has one (R270). -/
structure Tagged where
  port : Nat
  vid : Option Nat
  deriving DecidableEq, Repr

/-- How a UDP datagram came: Ethernet port 0 to 3 or span 4, 5, the VID of its tag, its IPv4 addresses and its destination UDP
port (R270, R272, R282). -/
structure Via where
  port : Nat
  vid : Option Nat
  src : Nat
  dst : Nat
  udp : Nat
  deriving DecidableEq, Repr

/-- How an RTCM frame came: a UART, or a UDP datagram on an Ethernet port (R244). -/
inductive RtcmVia where
  | uart
  | udp (at_ : Tagged)
  deriving DecidableEq, Repr

/-- How a PTP message came: the VID of its tag, and whether over IEEE 802.3 (Annex E) in place of UDP/IPv4 (R270, R275). -/
structure Wire where
  vid : Option Nat
  l2 : Bool
  deriving DecidableEq, Repr

/-- What a PTP Announce carries (R275, R276). -/
structure Ann where
  port : Nat
  domain : Nat
  src : Nat
  prio1 : Nat
  cls : Nat
  acc : Nat
  variance : Nat
  prio2 : Nat
  gm : Nat
  steps : Nat
  flags : Nat
  utc : Nat
  source : Nat
  logAnn : Int
  wire : Wire
  deriving DecidableEq, Repr

/-- A Sync whose origin time is known: one-step, or completed by its Follow_Up (R277). `t2` is TIME_NS at the ball. -/
structure SyncMsg where
  port : Nat
  domain : Nat
  src : Nat
  t1 : Int
  t2 : Int
  cf : Int
  logSync : Int
  wire : Wire
  deriving DecidableEq, Repr

/-- A Delay_Resp (t4 its receive time), or a completed peer delay exchange: `t4` the request's receipt at the peer and
`t5` the response's origin (R277). -/
structure DelayMsg where
  port : Nat
  domain : Nat
  seq : Nat
  t4 : Int
  t5 : Int
  cf : Int
  wire : Wire
  deriving DecidableEq, Repr

/-- A Delay_Req or Pdelay_Req received (R275). -/
structure ReqMsg where
  port : Nat
  domain : Nat
  peer : Bool
  src : Nat
  seq : Nat
  cf : Int
  wire : Wire
  deriving DecidableEq, Repr

/-- What a channel's loops hold at a latch (R252, R253): `slips` since the last latch. -/
structure GnssMeas where
  ch : Nat
  cn0 : Nat
  tx : Nat
  adr : Int
  doppler : Int
  mp : Nat
  slips : Nat
  half : Bool
  txOk : Bool
  adrOk : Bool
  deriving DecidableEq, Repr

/-- What GTE's least squares yields for an antenna (R254, R259): position in 2^-48 semicircle and its rates, satellites and
systems used, PDOP × 100 and HDOP × 100, no residual above 5 σ, σ in mm, largest MP, b in ps with its σ in ns and its rate in ps/s. -/
structure GnssPos where
  lat : Int
  lon : Int
  latRate : Int
  lonRate : Int
  nSat : Nat
  nSys : Nat
  pdop : Nat
  hdop : Nat
  resid : Bool
  sN : Nat
  sE : Nat
  mp : Nat
  b : Int
  bSig : Nat
  bRate : Int
  deriving DecidableEq, Repr

/-- What GTE's moving baseline yields (R256): heading B32, common satellites, σ in 0.001 degree, measured length in mm,
pitch in 0.01 degree, largest MP. -/
structure GnssHdg where
  hdg : Nat
  n : Nat
  sig : Nat
  len : Int
  pitch : Int
  mp : Nat
  deriving DecidableEq, Repr

/-- A predicted satellite: system, PRN, elevation in 0.01 degree. -/
structure Sky where
  sys : Nat
  prn : Nat
  elev : Int
  deriving DecidableEq, Repr

/-- A decoded navigation message (R246, R263): what it updates, and the leap-second data: TAI - UTC, and an announced
change as the TAI second after whose record it takes effect and the new value. -/
structure NavMsg where
  sys : Nat
  prn : Nat
  alm : Bool
  eph : Bool
  healthy : Bool
  leap : Option (Nat × Option (Nat × Nat))
  deriving DecidableEq, Repr

/-- What a HARBOUR cycle yields (R267): satellites detected, latitude and longitude in 2^-31 semicircle, σ in m. -/
structure CoarseFix where
  sats : Nat
  lat : Int
  lon : Int
  sigma : Nat
  deriving DecidableEq, Repr

/-- The commands the block takes: one constructor per row of spec/opcode_table.json. Rows that happen at an instant
carry `dt`, the CLK_TS edges since the command before them. The rows without operands come last. -/
inductive Instr where
  /-- GET_INFO (R408). Command 0x0101 returns the device identity, operating state, role, CFG_HASH, PROG_ID, serial and firmware data. -/
  | getInfo (h : HCmd)
  /-- ENTER_CONFIG (R408). Command 0x0102 moves the unit into the CONFIG operating state with role NONE, where its state permits. -/
  | enterConfig (h : HCmd)
  /-- LEAVE_CONFIG (R408). Command 0x0103 leaves CONFIG for READY and closes open sessions, unless uncommitted values exist or too few engines are in service. -/
  | leaveConfig (h : HCmd)
  /-- RESET (R408). Command 0x0104 writes its response and then requests an SRST or a DRST of the named domain. -/
  | reset (h : HCmd)
  /-- SET_RTC (R408). Command 0x0105 sets the D0 RTC in CONFIG and leaves TIME_NS unchanged. -/
  | setRtc (h : HCmd)
  /-- CFG_OPEN (R393). Command 0x0201 opens a configuration session in CONFIG and returns a new random session id. -/
  | cfgOpen (h : HCmd)
  /-- CFG_ABORT (R408). Command 0x0202 closes the configuration session and discards everything staged in it. -/
  | cfgAbort (h : HCmd)
  /-- OBJ_STAGE (R406). Command 0x0203 checks one configuration object from the page and stages it, replacing any staged copy. -/
  | objStage (h : HCmd)
  /-- OBJ_READ (R408). Command 0x0204 returns an object, in force or staged, in the response page. -/
  | objRead (h : HCmd)
  /-- OBJ_UNSTAGE (R408). Command 0x0205 removes the staged copy of an object. -/
  | objUnstage (h : HCmd)
  /-- CFG_COMMIT (R395). Command 0x0206 checks the staged configuration as a whole, writes it to the inactive flash copy, makes it current and loads it at the next frame boundary. -/
  | cfgCommit (h : HCmd)
  /-- CFG_REVERT (R394). Command 0x0207 reloads every register field from the objects in force and clears UNCOMMITTED. -/
  | cfgRevert (h : HCmd)
  /-- IMG_BEGIN (R407). Command 0x0208 opens an image transfer of a given kind, slot and total size, checking pool space for logic images. -/
  | imgBegin (h : HCmd)
  /-- IMG_APPEND (R407). Command 0x0209 adds the next page of bytes to the open image transfer at the expected offset. -/
  | imgAppend (h : HCmd)
  /-- IMG_END (R407). Command 0x020A closes the transfer, checks the image by its kind and stages, loads or writes it to flash. -/
  | imgEnd (h : HCmd)
  /-- IMG_CANCEL (R407). Command 0x020B cancels the open image transfer. -/
  | imgCancel (h : HCmd)
  /-- ALIGN_COMMIT (R64). Command 0x020C, listed in the manifest, makes the refined alignment of a reference its surveyed values and re-centres the box. -/
  | alignCommit (h : HCmd)
  /-- ALIGN_REVERT (R64). Command 0x020D, listed in the manifest, restores the surveyed alignment values of a reference. -/
  | alignRevert (h : HCmd)
  /-- OVERLAY_COMMIT (R364). Command 0x020E stores the on-line logic overlay in the configuration in flash. -/
  | overlayCommit (h : HCmd)
  /-- SET_FUNCTION (R116). Command 0x0301 is listed and, in its frame, changes the DP function with capture if the preconditions hold. -/
  | setFunction (h : HCmd)
  /-- SET_POSITION (R119). Command 0x0302 is listed and sets new position and heading targets of the automatic generators. -/
  | setPosition (h : HCmd)
  /-- SET_SPEED (R114). Command 0x0303 is listed and sets the body-frame speed set-points in AUTO_HEADING. -/
  | setSpeed (h : HCmd)
  /-- SET_LIMITS (R119). Command 0x0304 is listed and sets the linear and heading VMAX, AMAX and JMAX limits. -/
  | setLimits (h : HCmd)
  /-- TRACK_LOAD (R123). Command 0x0305 is listed and replaces the track unless TRACK is in force. -/
  | trackLoad (h : HCmd)
  /-- TRACK_APPEND (R125). Command 0x0306 is listed and appends waypoints after the last one, up to 64. -/
  | trackAppend (h : HCmd)
  /-- SET_ORIGIN (R409). Command 0x0307 is listed and moves the working origin, shifting every held position and recomputing kN and kE. -/
  | setOrigin (h : HCmd)
  /-- SCEN_ENABLE (R162). Command 0x0308 is listed and enables or disables scenario slots at the snapshot. -/
  | scenEnable (h : HCmd)
  /-- THR_EXCLUDE (R163). Command 0x0309 is listed and excludes thrusters from availability at the snapshot. -/
  | thrExclude (h : HCmd)
  /-- REF_READMIT (R83). Command 0x030A is listed and re-admits a REJECTED reference at the following frame. -/
  | refReadmit (h : HCmd)
  /-- SET_AUTOREADMIT (R93). Command 0x030B is listed and changes FUS_CFG.AUTO_READMIT in force at the following frame. -/
  | setAutoreadmit (h : HCmd)
  /-- KEY_CLAIM (R192). Command 0x0401 makes the unit keystone holder as ACTIVE or SOLO with a new epoch, when no holder lease has been heard. -/
  | keyClaim (h : HCmd)
  /-- KEY_TRANSFER (R200). Command 0x0402 announces a planned transfer of the keystone to a qualified standby at a frame ahead. -/
  | keyTransfer (h : HCmd)
  /-- KEY_RELINQUISH (R199). Command 0x0403 makes the holder declare failure with reason COMMAND and become READY. -/
  | keyRelinquish (h : HCmd)
  /-- RESYNC (R206). Command 0x0404 sets RESYNC_REQ to ask the holder for a state image. -/
  | resync (h : HCmd)
  /-- DISAGREE_CLEAR (R189). Command 0x0405 clears the DISAGREE alarm. -/
  | disagreeClear (h : HCmd)
  /-- SAF_OPEN (R240). Command 0x0501 verifies the password under the lockout rules and opens a safety session. -/
  | safOpen (h : HCmd)
  /-- SAF_CLOSE (R408). Command 0x0502 closes the safety session and discards the staged safety objects. -/
  | safClose (h : HCmd)
  /-- SAF_PASSWORD (R238). Command 0x0503 sets the first password or changes it given the old one, logging the change. -/
  | safPassword (h : HCmd)
  /-- SAF_COMMIT (R240). Command 0x0504 hashes the new safety configuration in SA and SB and, if equal, logs it and puts it in force at the next boundary. -/
  | safCommit (h : HCmd)
  /-- SAF_ACK (R235). Command 0x0505 acknowledges tripped groups with their causes and makes them ARMED for ACK_WIN. -/
  | safAck (h : HCmd)
  /-- SAF_RESET (R236). Command 0x0506, with RST_SRC = 1, clears the latches of ARMED groups. -/
  | safReset (h : HCmd)
  /-- SAF_TRIP (R232). Command 0x0507 makes a HOST trip of the named groups of this unit. -/
  | safTrip (h : HCmd)
  /-- LOG_START (R363). Command 0x0601 starts a STOPPED or FAULT logic program from the next frame boundary. -/
  | logStart (h : HCmd)
  /-- LOG_STOP (R363). Command 0x0602 stops a running logic program at each task's next boundary after publication. -/
  | logStop (h : HCmd)
  /-- LOG_EXCHANGE (R368). Command 0x0603 on a qualified standby requests exchange of the running program for the pending image. -/
  | logExchange (h : HCmd)
  /-- LOG_CHANGE (R364). Command 0x0604 is listed and applies an on-line change group to one task at its cycle start. -/
  | logChange (h : HCmd)
  /-- PT_WRITE (R350). Command 0x0605 writes a HOST-class point with its value, quality and the present TIME_NS. -/
  | ptWrite (h : HCmd)
  /-- GNS_SNAP (R265). Command 0x0701 triggers a GNSS IF snapshot capture from the next frame boundary. -/
  | gnsSnap (h : HCmd)
  /-- GNS_FORGET (R408). Command 0x0702 discards the almanac, ephemerides or last position. -/
  | gnsForget (h : HCmd)
  /-- CAN_SEND (R313). Command 0x0801 submits a frame to a controller's firmware transmit queue. -/
  | canSend (h : HCmd)
  /-- UART_SEND (R317). Command 0x0802 sends bytes out of a UART transmit ball. -/
  | uartSend (h : HCmd)
  /-- SDF_START (R340). Command 0x0901 starts all channels of a mask on the same modulator edge, or none if one would be refused. -/
  | sdfStart (h : HCmd)
  /-- SDF_STOP (R340). Command 0x0902 stops the filter channels of a mask. -/
  | sdfStop (h : HCmd)
  /-- PNL_UPDATE (R494). Command 0x0A01 requests new levels for a pod, starting, queuing or replacing a queued request. -/
  | pnlUpdate (h : HCmd)
  /-- PNL_RESUME (R502). Command 0x0A02 clears CRACK, takes a new reference resistance and lets pending panel work proceed. -/
  | pnlResume (h : HCmd)
  /-- HARVEST (R468). Command 0x0B01 is a local harvest trigger with the given ID. -/
  | harvest (h : HCmd)
  /-- REC_CTRL (R477). Command 0x0B02 selects the recorder sink, taking effect at the next frame boundary. -/
  | recCtrl (h : HCmd)
  /-- REC_READ (R411). Command 0x0B03 returns bytes of the recorder ring in the response page. -/
  | recRead (h : HCmd)
  /-- LEDGER_READ (R411). Command 0x0B04 returns bytes of the D0 ledger in the response page. -/
  | ledgerRead (h : HCmd)
  /-- READMIT (R486). Command 0x0B05 re-admits a retired channel of a class, resetting its bucket level. -/
  | readmit (h : HCmd)
  /-- REPLAY_ENTER (R479). Command 0x0B06 puts the unit into REPLAY from host or flash source at a start instant. -/
  | replayEnter (h : HCmd)
  /-- REPLAY_FEED (R482). Command 0x0B07 delivers one recorder block to the replay buffer, completing when there is room. -/
  | replayFeed (h : HCmd)
  /-- REPLAY_EXIT (R483). Command 0x0B08 discards the replay area, reloads the configuration and returns to CONFIG. -/
  | replayExit (h : HCmd)
  /-- PWR_STATE (R451). Command 0x0C01 moves the unit into HIBERNATE, SLEEP or HARBOUR after closing sessions and flushing. -/
  | pwrState (h : HCmd)
  /-- DOORBELL (R381). A host write to HIF_CMD_PI announces new command entries, or is ignored out of range or before READY. -/
  | doorbell (v : Nat)
  /-- HIF_RSP_CI_WRITE (R381). A host write of the response consumer index frees response slots, or is ignored out of range. -/
  | hifRspCiWrite (v : Nat)
  /-- HIF_EVT_CI_WRITE (R389). A host write of the event consumer index frees event slots, letting an EVENTS_LOST record be written. -/
  | hifEvtCiWrite (v : Nat)
  /-- SPI_READ (R378). A host SPI READ transaction returns words from the host address space. -/
  | spiRead (quad : Bool) (addr : Nat) (n : Nat)
  /-- SPI_WRITE (R378). A host SPI WRITE transaction writes whole words into the host address space. -/
  | spiWrite (quad : Bool) (addr : Nat) (bs : List Byte)
  /-- SPI_STATUS (R379). A host SPI STATUS instruction returns the status byte and clears its ERR bit. -/
  | spiStatus (quad : Bool)
  /-- ENTER_QUAD (R378). The SPI ENTER_QUAD instruction switches the port to four data lines. -/
  | enterQuad (quad : Bool)
  /-- EXIT_QUAD (R378). The SPI EXIT_QUAD instruction returns the port to single-line mode at the rise of HSPI_CS_N. -/
  | exitQuad (quad : Bool)
  /-- REGISTER_WRITE (R16). A host write to a register field without behaviour of its own stores the value or clears or sets bits, subject to its state and range rules. -/
  | registerWrite (a : Nat) (bs : List Byte)
  /-- TIM_INC_INT_WRITE (R20). A write of TIM_INC_INT loads INT and FRAC together into INC at the next CLK_TS edge, clamped to the limits. -/
  | timIncIntWrite (v : Nat)
  /-- CONTEXT_ENABLE (R40). A write of SCX_CFG.EN from 0 to 1 enables a stream context with the held MODE, CWIDTH, TICK and HERMITE, or is ignored while TP is 0. -/
  | contextEnable (n : Nat)
  /-- CONTEXT_DISABLE (R40). A write clearing SCX_CFG.EN empties the context buffer and resets its mapping. -/
  | contextDisable (n : Nat)
  /-- SCX_STAT_READ (R54). A read of SCX_STAT returns the context status and clears its LATE and DUP counts. -/
  | scxStatRead (n : Nat)
  /-- NET_PORT_STAT_READ (R297). A read of NET_PORT_STATn returns the port status and clears its receive error count. -/
  | netPortStatRead (n : Nat)
  /-- CAN_STAT_READ (R303). A read of CAN_STAT returns the controller state and clears the last error code. -/
  | canStatRead (n : Nat)
  /-- CAN_CNT_READ (R322). A read of CAN_CNT returns and clears the overflow, drop and bus-off counts. -/
  | canCntRead (n : Nat)
  /-- CAN_UCNT_READ (R324). A read of CAN_UCNTn returns and clears the UART error counts. -/
  | canUcntRead (n : Nat)
  /-- LOG_TASK_TIME_READ (R370). A read of LOG_TASKt_TIME returns the execution times and clears the maximum. -/
  | logTaskTimeRead (n : Nat)
  /-- LOG_TASK_CNT_READ (R370). A read of LOG_TASKt_CNT returns and clears the overrun and abandoned counts. -/
  | logTaskCntRead (n : Nat)
  /-- CAN_INIT_ENTER (R302). Writing CAN_CTRL.INIT = 1 requests the controller to stop at bus idle or end of frame. -/
  | canInitEnter (n : Nat)
  /-- CAN_INIT_LEAVE (R302). Writing CAN_CTRL.INIT = 0 starts bus integration or bus-off recovery. -/
  | canInitLeave (n : Nat)
  /-- FILTER_WRITE (R308). CAN_FLT_SEL with OP WRITE replaces a filter element from the data words, or is ignored and sets ERR. -/
  | filterWrite (n : Nat) (idx : Nat)
  /-- FILTER_READ (R308). CAN_FLT_SEL with OP READ copies a filter element into the data words. -/
  | filterRead (n : Nat) (idx : Nat)
  /-- RXQ_ACK (R310). A write of N to CAN_RXQn_ACK returns the N oldest software-owned entries to the controller. -/
  | rxqAck (n : Nat) (q : Nat) (k : Nat)
  /-- TX_ABORT (R315). Writing CAN_TXBUF.ABORT empties a transmit buffer whose frame has not started arbitration. -/
  | txAbort (n : Nat) (mask : Nat)
  /-- BANK_OPEN (R331). Writing SDF_BANK_CTRL.OPEN begins loading a coefficient bank, refused while a running channel names it. -/
  | bankOpen (b : Nat) (addr : Nat)
  /-- BANK_DATA_WRITE (R331). A write of SDF_BANK_DATA stores one word at ADDR of the open bank and advances ADDR. -/
  | bankDataWrite (w : Nat)
  /-- SDF_CHANNEL_START (R340). Writing SDF_CHn_CFG.EN from 0 to 1 starts a filter channel with cleared chain, or is refused with ERR. -/
  | sdfChannelStart (n : Nat)
  /-- SDF_CHANNEL_STOP (R340). Writing EN from 1 to 0 stops a filter channel at once, deasserting its events and invalidating its point. -/
  | sdfChannelStop (n : Nat)
  /-- INPUT_SWITCH (R338). Writing a new SRC while the channel runs switches its input and starts output suppression. -/
  | inputSwitch (n : Nat) (src : Nat)
  /-- POINT_COPY (R369). A write of LOG_PT_SEL copies a process-image point into LOG_PT_D0 to D3 in one cycle. -/
  | pointCopy (n : Nat)
  /-- FRAME_BOUNDARY (R23). At the first CLK_TS edge with TIME_NS at or past k × P, frame k begins and boundary-timed work runs. -/
  | frameBoundary (dt : Nat) (meas : List GnssMeas)
  /-- SLEW_END (R22). A slew ends when exactly S ns have been added or removed, clearing SLEWING. -/
  | slewEnd (dt : Nat)
  /-- CUTOFF (R42). At CUTOFF of frame k contexts form their values, the snapshot is taken, the profile generator steps and the holder seals and sends its manifest. -/
  | cutoff (dt : Nat)
  /-- FUSION_PHASE (R82). Fusion aligns and encodes the references, decides conflicts on the support grid and forms the fix and the output record. -/
  | fusionPhase (dt : Nat)
  /-- OBSERVER_COMMIT (R103). The observer corrects its prediction with the fix, commits the state, applies listed function commands and propagates to the next boundary. -/
  | observerCommit (dt : Nat)
  /-- CONTROL_LAW (R108). Gain scheduling and the PID or MPC law form the clamped force demand handed to allocation, and the control record is written. -/
  | controlLaw (dt : Nat)
  /-- ALLOCATION_PHASE (R136). At F(k)+0.42 P the solver engines form iterate 0 of S0 and take the enabled allocation slots in order. -/
  | allocationPhase (dt : Nat)
  /-- SLOT_RETURN (R139). A solve of an allocation slot stops by convergence, the iteration cap or overflow and returns its result and status word. -/
  | slotReturn (dt : Nat) (slot : Nat)
  /-- SOLVE_DEADLINE (R143). At the first check point with TIME_NS at or past DEADLINE the solve ends with its committed iterate or the fallback. -/
  | solveDeadline (dt : Nat) (slot : Nat) (n : Option Nat) (fact : Bool)
  /-- MPC_SOLVE_STOP (R150). An MPC or scenario MPC solve stops under the convergence, overflow or deadline rules. -/
  | mpcSolveStop (dt : Nat) (which : Nat) (cut : Bool) (n : Option Nat) (fact : Bool)
  /-- MPC_COMMIT (R150). At the next CUTOFF or F(k0+M) after its stop the MPC result commits and the warm-start halves exchange. -/
  | mpcCommit (dt : Nat)
  /-- SCENARIO_MPC_DONE (R169). A scenario MPC returns and the capability margin of its slot is updated, raising CAP_LOW where low. -/
  | scenarioMpcDone (dt : Nat)
  /-- CROSS_CHECK (R226). In the cross-check window each safety channel checks SF3 plausibility of the slots and evaluates SF2, writing its comparison word. -/
  | crossCheck (dt : Nat) (chans : Nat)
  /-- SF5_COMPARE (R230). At F(k)+0.70 P each channel compares the two comparison words, passing the slots both passed or counting a mismatch. -/
  | sf5Compare (dt : Nat) (bad : Nat)
  /-- DISPATCH (R161). The trestle sends the COMMAND PDUs of the passed slot with apply-at F(k+1) plus each actuator offset. -/
  | dispatch (dt : Nat)
  /-- PHASE_LATE (R29). A phase that has not finished by the end of its window is cut off with its late outcome and flag. -/
  | phaseLate (dt : Nat) (ph : Nat)
  /-- SF4_CHECK (R228). At F(j)+0.80 P the channels count a frame without dispatch and trip the unit after three. -/
  | sf4Check (dt : Nat)
  /-- RETRO_SUPPLEMENT_SEND (R177). At F(k)+0.80 P the holder sends the retro supplement listing samples retrodicted in the slack. -/
  | retroSupplementSend (dt : Nat)
  /-- CONTROLLER_STATUS_SEND (R292). The unit sends its CONTROLLER STATUS PDU for the frame between 0.80 P and 0.85 P. -/
  | controllerStatusSend (dt : Nat)
  /-- RETRO_PASS (R49). In the slack a single pass re-runs value formation, fusion and the observer from the earliest affected checkpoint. -/
  | retroPass (dt : Nat)
  /-- RETRO_PASS_DONE (R50). A retrodiction pass that finishes by F(k+1) replaces the checkpoints and the observer's next starting state. -/
  | retroPassDone (dt : Nat)
  /-- RETRO_ABORT (R51). A retrodiction pass unfinished at F(k+1) is abandoned, leaving the checkpoints unchanged. -/
  | retroAbort (dt : Nat)
  /-- ENGINE_TEST_SLICE (R211). One engine per frame runs its test slice in the slack and is retired on a signature mismatch. -/
  | engineTestSlice (dt : Nat) (pass : Bool)
  /-- ALLOC_RECORD_WRITE (R170). At F(k+1)+0.80 P the allocation record of frame k is written to its ring. -/
  | allocRecordWrite (dt : Nat)
  /-- KEYSTONE_DECISION (R197). At F(j)+0.08 P each non-holder judges lease, dispatch, declarations and silence and takes over, isolates or applies the split policy. -/
  | keystoneDecision (dt : Nat)
  /-- TRANSFER_EXECUTE (R200). At F(AT_FRAME) of a planned transfer the successor becomes ACTIVE and the former holder STANDBY. -/
  | transferExecute (dt : Nat)
  /-- HANDBACK (R205). At F(AT_FRAME) of a handback the holder takes the next epoch and the zone piers, and the ZONE unit becomes READY. -/
  | handback (dt : Nat)
  /-- LEASE_RX (R192). A received LEASE PDU renews the lease, updates links and health and makes a holder yield to a later epoch. -/
  | leaseRx (dt : Nat) (via : Via) (bs : List Byte)
  /-- SPAN_DOWN (R176). A span with no correct LEASE from its neighbour for 3 frames goes down and counts an error. -/
  | spanDown (dt : Nat) (n : Nat)
  /-- SPAN_UP (R176). A span comes up after 20 consecutive frames with a correct LEASE. -/
  | spanUp (dt : Nat) (n : Nat)
  /-- PATH_LOSS (R199). A holder with no thruster STATUS for KEY_LEASE frames while a standby sees piers declares failure with reason PATH. -/
  | pathLoss (dt : Nat)
  /-- MANIFEST_RX (R182). A received manifest part lets a standby start following the frame and concludes the comparison of the previous frame. -/
  | manifestRx (dt : Nat) (via : Via) (bs : List Byte)
  /-- MANIFEST_TIMEOUT (R182). A main part not complete by CUTOFF + 0.05 P makes the frame unfollowable and concludes the previous comparison. -/
  | manifestTimeout (dt : Nat)
  /-- COMMAND_PDU_RX (R186). A standby observes a COMMAND PDU of the holder for comparison and for its next iterate 0. -/
  | commandPduRx (dt : Nat) (via : Via) (bs : List Byte)
  /-- STATE_IMAGE_RX (R207). A STATE_IMAGE segment is received into the image being transferred. -/
  | stateImageRx (dt : Nat) (via : Via) (bs : List Byte)
  /-- CATCH_UP_DONE (R209). A receiver that has caught up on buffered frames before CUTOFF + 0.05 P becomes current and STANDBY. -/
  | catchUpDone (dt : Nat)
  /-- RESYNC_FAIL (R209). An image not complete within 32 frames, or not current within 64 frames, is discarded and counted. -/
  | resyncFail (dt : Nat)
  /-- HEALTH_RECOMPUTE (R212). At each whole second the health score is recomputed and a health report written. -/
  | healthRecompute (dt : Nat) (ecc : Nat)
  /-- IMAGE_CRC_CHECK (R76). Once per second self-test checks the CRC of each loaded image and faults those that fail. -/
  | imageCrcCheck (dt : Nat) (bad : List (Nat × Nat))
  /-- REFINE_MINUTE (R62). At each minute boundary bounded alignment refinement steps are applied to references not frozen. -/
  | refineMinute (dt : Nat)
  /-- SAMPLE_PDU_RX (R286). A SAMPLE PDU delivers its entries to their bound stream contexts. -/
  | samplePduRx (dt : Nat) (via : Via) (bs : List Byte)
  /-- STATUS_PDU_RX (R291). A pier STATUS PDU is taken for the snapshot, lease silence and power, and may be a failure event. -/
  | statusPduRx (dt : Nat) (via : Via) (bs : List Byte)
  /-- HARVEST_PDU_RX (R294). A received HARVEST PDU requests a harvest latch at its instant. -/
  | harvestPduRx (dt : Nat) (via : Via) (bs : List Byte)
  /-- ANNOUNCE_RX (R276). A PTP Announce updates a domain's grandmaster and BMCA state. -/
  | announceRx (dt : Nat) (a : Ann)
  /-- ANNOUNCE_TIMEOUT (R276). A domain with no Announce within announceReceiptTimeout becomes ABSENT, possibly causing a switch or holdover. -/
  | announceTimeout (dt : Nat) (dom : Nat)
  /-- SYNC_RX (R278). A Sync or Follow_Up gives an offset measurement that sets, trims, slews or steps TIME_NS under the servo. -/
  | syncRx (dt : Nat) (m : SyncMsg)
  /-- DELAY_RESP_RX (R277). A Delay_Resp or peer-delay response gives a path delay measurement, gated and averaged. -/
  | delayRespRx (dt : Nat) (m : DelayMsg)
  /-- TRANSITION_END (R280). TRANSITION becomes LOCKED after TRANS_T seconds. -/
  | transitionEnd (dt : Nat)
  /-- PRIMARY_REVERT (R280). With REVERT set the servo returns to the primary domain after it has been USABLE for REVERT_T seconds. -/
  | primaryRevert (dt : Nat)
  /-- DATAGRAM_450_RX (R295). An IEC 61162-450 datagram is checked and its sentences passed to their bound parsers. -/
  | datagram450Rx (dt : Nat) (n : Tagged) (addr : Nat) (port : Nat) (bs : List Byte)
  /-- UART_CHARACTER_RX (R318). A character received on a UART is checked and added to the sentence being framed. -/
  | uartCharacterRx (dt : Nat) (n : Nat) (c : Nat) (err : Nat)
  /-- UART_BREAK (R318). A line held low beyond one character time sets BREAK. -/
  | uartBreak (dt : Nat) (n : Nat)
  /-- CAN_FRAME_RX (R306). A frame received without error is stamped, matched against the filter elements and stored, bound or discarded. -/
  | canFrameRx (dt : Nat) (n : Nat) (id : Nat) (ide : Bool) (fdf : Bool) (brs : Bool) (dlc : Nat) (data : List Byte) (esi : Bool) (rtr : Bool) (age : Nat)
  /-- CAN_TX_LOAD (R314). NTE loads a free transmit buffer with the chosen eligible entry of the firmware queue. -/
  | canTxLoad (dt : Nat) (n : Nat)
  /-- CAN_TX_DONE (R315). A transmit attempt ends, the frame being sent, retried or dropped. -/
  | canTxDone (dt : Nat) (n : Nat) (how : Nat) (kind : Nat) (age : Nat)
  /-- CAN_INIT_ACK (R302). A requested INIT takes effect at bus idle, returning loaded buffers to the queue. -/
  | canInitAck (dt : Nat) (n : Nat)
  /-- CAN_INTEGRATION (R302). After 11 consecutive recessive bits the controller takes part in traffic and SYNC reads 1. -/
  | canIntegration (dt : Nat) (n : Nat)
  /-- BUS_OFF (R303). The controller enters bus-off, returns or flushes its buffers and counts an error against its channel. -/
  | busOff (dt : Nat) (n : Nat)
  /-- BUS_OFF_RECOVERY (R303). After 128 sequences of 11 recessive bits the controller becomes error active again. -/
  | busOffRecovery (dt : Nat) (n : Nat)
  /-- GNSS_SOLUTION (R254). GTE forms the antenna solutions and heading from a latch and writes their samples into the stream contexts. -/
  | gnssSolution (dt : Nat) (a : Option GnssPos) (b : Option GnssPos) (h : Option GnssHdg)
  /-- RTCM_FRAME_RX (R255). An RTCM 3 frame is checked and its corrections taken or discarded. -/
  | rtcmFrameRx (dt : Nat) (src : RtcmVia) (num : Nat) (bs : List Byte)
  /-- AMBIGUITY_FIXED (R255). An ambiguity search completes and its result applies from the next latch. -/
  | ambiguityFixed (dt : Nat) (ant : Nat) (ratio : Nat)
  /-- CHANNEL_ALLOCATION (R246). At each whole second the baseband reallocates each antenna's channels. -/
  | channelAllocation (dt : Nat) (duty : List Nat) (sky : List Sky)
  /-- CHANNEL_LOST_TIMEOUT (R247). A channel in LOST for more than 1 s returns to SEARCH. -/
  | channelLostTimeout (dt : Nat)
  /-- GNSS_IF_LOST (R245). A stream without sample transitions for 1 ms becomes inactive and its channels drop to IDLE. -/
  | gnssIfLost (dt : Nat) (n : Nat)
  /-- GNSS_HOLDOVER (R262). At a whole second with no valid solution in the last 1,000 ms the pulse generator enters HOLDOVER. -/
  | gnssHoldover (dt : Nat)
  /-- TP_SECOND (R261). Once per second the pulse offset b_pps is filtered, slewed or stepped towards b. -/
  | tpSecond (dt : Nat)
  /-- TP_RECORD_WRITE (R263). At t_s − 500 ms a time-pulse record is written for each output. -/
  | tpRecordWrite (dt : Nat)
  /-- TIME_PULSE (R260). A PPS output is driven at the CLK_PER edge nearest the ideal instant of the UTC second. -/
  | timePulse (dt : Nat)
  /-- SNAP_DONE (R265). A GNSS snapshot capture completes and the buffer becomes FULL. -/
  | snapDone (dt : Nat) (samples : List Byte)
  /-- HARBOUR_SNAPSHOT (R267). Every SNAP_INT in HARBOUR, D8 takes a 20 ms snapshot and forms a coarse fix. -/
  | harbourSnapshot (dt : Nat) (fix : CoarseFix) (samples : List Byte)
  /-- SDF_OUTPUT (R336). A resampled filter output is delivered to its point, register and context unless suppressed. -/
  | sdfOutput (dt : Nat) (ch : Nat) (bits : List (Bool × Bool))
  /-- SDF_THRESHOLD (R341). A high or low threshold event changes state after its persistence count and reaches safety, point and status. -/
  | sdfThreshold (dt : Nat) (ch : Nat) (bits : List (Bool × Bool))
  /-- MOD_FAULT (R327). A channel input unchanged for 128 bits sets MOD_FAULT and suppresses its outputs. -/
  | modFault (dt : Nat) (ch : Nat) (bits : List (Bool × Bool))
  /-- MOD_FAULT_CLEAR (R327). MOD_FAULT clears after 1,024 bits without a run of 128 equal bits, starting suppression. -/
  | modFaultClear (dt : Nat) (ch : Nat) (bits : List (Bool × Bool))
  /-- LOGIC_CYCLE_START (R352). At a task cycle boundary outputs of ending cycles are published, change groups applied, the snapshot taken and execution started. -/
  | logicCycleStart (dt : Nat)
  /-- LOGIC_CYCLE_DONE (R359). A cycle finishes execution, after overrun publishing at the next boundary of its task. -/
  | logicCycleDone (dt : Nat) (t : Nat) (us : Nat)
  /-- LOGIC_WATCHDOG (R359). A cycle still running at 8 × C is abandoned and the program stops with ERR WATCHDOG. -/
  | logicWatchdog (dt : Nat)
  /-- PROGRAM_EXCHANGE (R368). At the first frame boundary with no cycle running the pending image replaces the program and starts. -/
  | programExchange (dt : Nat)
  /-- PANEL_FRAME (R492). Every 20 ms the panel driver clocks out codes, latches them and drives the segments of pods with work. -/
  | panelFrame (dt : Nat)
  /-- CRACK_MEASURE (R502). Each second the crack loop is measured and CRACK set on a step or an open loop. -/
  | crackMeasure (dt : Nat) (r : Option Nat)
  /-- ESTOP_CHANGE (R221). A filtered ESTOP level change trips the mapped groups on a demand. -/
  | estopChange (dt : Nat) (la : Nat) (lb : Nat) (ra : Bool) (rb : Bool)
  /-- TRIP_PROPAGATE (R234). A trip passed through the mailbox sets the other channel's latches within 1 ms. -/
  | tripPropagate (dt : Nat)
  /-- DISC_TIMEOUT (R222). A pair whose inputs differ for longer than DISC_T latches its DISC fault. -/
  | discTimeout (dt : Nat)
  /-- SAFE_RST_RELEASE (R236). Release of a valid SAFE_RST press clears the latches of the ARMED groups. -/
  | safeRstRelease (dt : Nat)
  /-- ACK_WINDOW_EXPIRY (R235). ARMED groups are disarmed when ACK_WIN expires. -/
  | ackWindowExpiry (dt : Nat)
  /-- TEST_PULSE (R220). Once per second each energised output is switched off for 300 µs and checked for read-back. -/
  | testPulse (dt : Nat) (ch : Nat) (stuck : Nat)
  /-- OUTPUT_FAULT (R220). An output whose read-back differs for more than 500 µs latches its group with cause CHANNEL. -/
  | outputFault (dt : Nat) (ch : Nat)
  /-- CHANNEL_FAULT (R231). A channel detecting a clock, memory or test fault de-energises all outputs and latches every group. -/
  | channelFault (dt : Nat) (ch : Nat) (kind : Nat)
  /-- SAFETY_WATCHDOG (R456). A safety channel not serving its watchdog in 2 P trips and causes a SAFR. -/
  | safetyWatchdog (dt : Nat) (ch : Nat)
  /-- SAF_SESSION_TIMEOUT (R240). A safety session closes after 600 s with no safety command. -/
  | safSessionTimeout (dt : Nat)
  /-- CFG_SESSION_TIMEOUT (R393). A configuration session closes after 600 s with no command naming it. -/
  | cfgSessionTimeout (dt : Nat)
  /-- TRANSFER_TIMEOUT (R407). An image transfer with no IMG_APPEND for 60 s is cancelled. -/
  | transferTimeout (dt : Nat)
  /-- ENGINE_HARD_ERROR (R484). A hard error retires an engine at once and its work moves or the unit degrades. -/
  | engineHardError (dt : Nat) (e : Nat) (hard : Bool)
  /-- ECC_UNCORRECTABLE (R485). An uncorrectable ECC error is handled according to its region. -/
  | eccUncorrectable (dt : Nat) (region : Nat) (idx : Nat)
  /-- LEAK_TICK (R484). At each LEAK_T multiple reached by ticking the fault bucket level of each channel falls by one. -/
  | leakTick (dt : Nat)
  /-- HARVEST_IN (R468). A HARVEST_IN rising pulse of at least 100 ns is a local harvest trigger. -/
  | harvestIn (dt : Nat)
  /-- HARVEST_LATCH (R469). At the first CLK_TS edge at or after AT every block latches its snapshot and the harvest record is written. -/
  | harvestLatch (dt : Nat)
  /-- LEDGER_COMMIT (R488). A queued ledger request is committed, writing the entry and then the header. -/
  | ledgerCommit (dt : Nat)
  /-- REC_BLOCK_WRITE (R475). A 4,096-byte recorder block is written from staging to the flash ring. -/
  | recBlockWrite (dt : Nat)
  /-- REC_BLOCK_SEND (R476). A recorder block is sent as four UDP datagrams to the Ethernet sink. -/
  | recBlockSend (dt : Nat)
  /-- REC_CHECKPOINT (R473). Every CKPT_INT a CHECKPOINT entry is staged for the recorder. -/
  | recCheckpoint (dt : Nat)
  /-- REPLAY_FRAME (R481). One recorded frame is replayed and its records and outputs compared bit for bit. -/
  | replayFrame (dt : Nat)
  /-- SUPPLY_WARNING (R445). A rail crossing its warning level starts a dip, holding new flash and ledger writes and panel waveforms. -/
  | supplyWarning (dt : Nat) (rail : Nat) (mv : Nat)
  /-- DIP_RECOVERY (R445). When every rail has recovered the dip ends, DIP is raised and held writes start. -/
  | dipRecovery (dt : Nat) (rail : Nat) (mv : Nat) (low : Nat)
  /-- DOMAIN_SHED (R446). A domain is shed 20, 30 or 40 ms after the first crossing if a rail has not recovered. -/
  | domainShed (dt : Nat)
  /-- DOMAIN_RESTORE (R447). After 1 s of recovery the shed domains are restored in reverse order at 100 ms intervals. -/
  | domainRestore (dt : Nat)
  /-- CLOCK_MONITOR_SECOND (R444). Each RTC second the TCXO is compared with the RTC crystal and CLK_WARN set beyond 100 ppm. -/
  | clockMonitorSecond (dt : Nat) (warn : Bool)
  /-- POR (R442). VIN rising from OFF, or a wake from HIBERNATE, starts the power-up sequence with reset held. -/
  | por (dt : Nat)
  /-- RAIL_TIMEOUT (R442). A rail not reaching 95 % in time switches every rail off and retries, counting the failure. -/
  | railTimeout (dt : Nat) (rail : Nat)
  /-- RESET_RELEASE (R442). Once the TCXO runs and the PLL locks the POR or BOR is released and the straps sampled. -/
  | resetRelease (dt : Nat) (yd : Bool) (host : Bool)
  /-- BOR (R449). A reset-level crossing or clock loss switches domains off, finishes writes in progress from hold-up and holds reset. -/
  | bor (dt : Nat) (src : Nat) (mv : Nat) (ov : Bool) (led : Bool) (prog : Bool) (ok : Bool)
  /-- VIN_OFF (R450). VIN falling below 2.5 V puts the unit OFF. -/
  | vinOff (dt : Nat)
  /-- XRST (R453). RST_N low for at least 1 µs resets everything except D0, trip latches and the TIME_NS counter. -/
  | xrst (dt : Nat) (yd : Bool) (host : Bool)
  /-- WDR (R444). The SV watchdog not serviced for 250 ms causes a WDR. -/
  | wdr (dt : Nat)
  /-- SRST (R454). A software reset restarts SV once any flash page program in progress has finished. -/
  | srst (dt : Nat)
  /-- DRST (R455). A domain reset holds one domain 1 ms, powers it and runs its engine tests. -/
  | drst (dt : Nat)
  /-- SAFR (R456). The safety channel engines restart and reload their SRAM from the committed safety objects. -/
  | safr (dt : Nat)
  /-- WAKE (R452). WAKE_N or an RTC alarm wakes the unit from SLEEP, HIBERNATE or HARBOUR. -/
  | wake (dt : Nat) (src : Nat)
  /-- BOOT_DONE (R463). Boot verifies and loads firmware, tests the engines, raises READY and loads the configuration. -/
  | bootDone (dt : Nat) (fail : Nat)
  /-- TRIAL_TIMEOUT (R463). A firmware slot on trial that does not reach READY or CONFIG within 10 s is marked failed. -/
  | trialTimeout (dt : Nat)
  /-- YD_SPI_READ (R417). A YD-22 READ transaction returns 16-bit registers from the address given. -/
  | ydSpiRead (addr : Nat) (n : Nat)
  /-- YD_SPI_WRITE (R417). A YD-22 WRITE transaction writes 16-bit registers from the address given. -/
  | ydSpiWrite (bs : List Byte)
  /-- YD_PAIR_LOW_READ (R418). A read of the low half of a register pair latches the high half. -/
  | ydPairLowRead (addr : Nat)
  /-- YD_PAIR_LOW_WRITE (R418). A write of the low half of a register pair is held. -/
  | ydPairLowWrite (addr : Nat) (v : Nat)
  /-- YD_PAIR_HIGH_WRITE (R418). A write of the high half of a register pair loads both halves together. -/
  | ydPairHighWrite (addr : Nat) (v : Nat)
  /-- YD_SAVE (R416). Writing YD_CONTROL.SAVE stores the writable registers in the YD-22 flash area. -/
  | ydSave (v : Nat)
  /-- YD_SRST (R421). Writing YD_CONTROL.SRST causes an SRST. -/
  | ydSrst (v : Nat)
  /-- YD_CAPTURE (R421). Writing YD_CONTROL.CAPTURE sets the set-points to the estimate at the next cycle start. -/
  | ydCapture (v : Nat)
  /-- YD_MB_TX_REQ (R434). Setting TX_REQ of a transmit message buffer submits its frame to the firmware queue. -/
  | ydMbTxReq (v : Nat)
  /-- YD_CYCLE_START (R423). At each C(n) with RUN set CE0 copies registers and inputs, updates availability and forms estimate, PID and allocation. -/
  | ydCycleStart (dt : Nat)
  /-- YD_RELEASE (R424). At C(n) + T_calc the results are released, HOST_INT_N asserted and a master submits its THR_CMD frames. -/
  | ydRelease (dt : Nat)
  /-- YD_CAN_RX (R433). A YD-22 mode frame is taken by the message set or stored in a matching message buffer. -/
  | ydCanRx (dt : Nat) (n : Nat) (id : Nat) (ide : Bool) (fdf : Bool) (brs : Bool) (dlc : Nat) (data : List Byte) (rtr : Bool)
  /-- MASTER_IN_ACCEPT (R435). A MASTER_IN level stable for 2 ms is accepted for the duplex rules. -/
  | masterInAccept (dt : Nat) (high : Bool)
  /-- PORT_LINK_CHANGE (R484). An Ethernet port's link goes down or comes up, counting a transient error on loss and raising the NET LINK event. -/
  | portLinkChange (dt : Nat) (n : Nat) (up : Bool) (fast : Bool) (errs : Nat)
  /-- ARP_ICMP_IGMP_RX (R270). An ARP request, ICMP echo request or IGMP query received on an Ethernet port is answered. -/
  | arpIcmpIgmpRx (dt : Nat) (n : Nat) (f : List Byte)
  /-- DELAY_REQ_RX (R275). A Delay_Req or Pdelay_Req received on a PTP port is timestamped and answered as master or peer. -/
  | delayReqRx (dt : Nat) (m : ReqMsg)
  /-- PTP_MESSAGE_INTERVAL (R275). At each configured message interval the unit sends its Sync and Announce on master ports and its Delay_Req or Pdelay_Req as slave. -/
  | ptpMessageInterval (dt : Nat) (port : Nat) (domain : Nat) (what : Nat)
  /-- CAN_BUS_ERROR (R303). A protocol error seen on the bus during reception updates REC, TEC, LEC and the error state. -/
  | canBusError (dt : Nat) (n : Nat) (kind : Nat) (eight : Bool)
  /-- SIGNAL_ACQUIRED (R247). The acquisition engine finds a searched signal and the channel moves from SEARCH to PULL_IN. -/
  | signalAcquired (dt : Nat) (ch : Nat)
  /-- TRACK_LOCK (R247). A channel's code and carrier loops lock and it moves from PULL_IN, or from LOST on reacquisition, to TRACK. -/
  | trackLock (dt : Nat) (ch : Nat)
  /-- LOCK_LOST (R247). A tracking channel loses lock and moves from TRACK to LOST. -/
  | lockLost (dt : Nat) (ch : Nat)
  /-- NAVIGATION_DATA (R246). A decoded navigation message updates almanac, ephemeris, health flags and leap-second data. -/
  | navigationData (dt : Nat) (m : NavMsg)
  /-- GNSS_IF_ACTIVE (R245). Sample transitions return on an IF stream and ACTIVE reads 1 again. -/
  | gnssIfActive (dt : Nat) (n : Nat)
  /-- SAFE_RST_PRESS (R236). Both SAFE_RST inputs become energised, starting the timing of a reset press. -/
  | safeRstPress (dt : Nat)
  /-- HOLD_UP_CHARGED (R448). VHOLD reaches 10.5 V, HOLD_OK rises and waiting ledger commits and flash writes may start. -/
  | holdUpCharged (dt : Nat)
  /-- VIN_RETURN (R449). While a BOR is held, VIN stays above 4.25 V for 10 ms and power-up proceeds under R442. -/
  | vinReturn (dt : Nat)
  /-- D0_LOST (R459). With VIN absent, VBAT falls below 1.80 V and D0 loses its contents. -/
  | d0Lost (dt : Nat)
  /-- UART_TX_DONE (R411). The last byte of a UART_SEND leaves the transmit ball and the UART is no longer busy. -/
  | uartTxDone (dt : Nat) (n : Nat)
  /-- COMMAND_INTAKE (R382). SV takes the next command in ring order into its lane once the response ring has room. -/
  | commandIntake
  /-- PCIE_RESET (R377). PERST_N or a hot reset resets only the PCIe endpoint and its configuration space. -/
  | pcieReset
  /-- TIM_NOW_LO_READ (R53). A read of TIM_NOW_LO returns TIME_NS[31:0] and latches the high word into TIM_NOW_HI. -/
  | timNowLoRead
  /-- TIM_CNT_SPEC_READ (R53). A read of TIM_CNT_SPEC returns and clears the speculative MPC counts. -/
  | timCntSpecRead
  /-- TIM_CNT_RETRO_READ (R53). A read of TIM_CNT_RETRO returns and clears the retrodiction counts. -/
  | timCntRetroRead
  /-- TIM_SRV_CNT_READ (R298). A read of TIM_SRV_CNT returns and clears the switch, holdover and gated counts. -/
  | timSrvCntRead
  /-- FUS_CNT_READ (R93). A read of FUS_CNT returns and clears the no-fix and conflict frame counts. -/
  | fusCntRead
  /-- CEX_CNT_READ (R132). A read of CEX_CNT returns and clears the cross-fade and late counts. -/
  | cexCntRead
  /-- SLV_CNT_READ (R171). A read of SLV_CNT returns and clears the deadline and pivot counts. -/
  | slvCntRead
  /-- SLV_CNT2_READ (R171). A read of SLV_CNT2 returns and clears the overflow, fallback and promotion counts. -/
  | slvCnt2Read
  /-- RED_CNT_READ (R214). A read of RED_CNT returns and clears the takeover, resync and unfollowable counts. -/
  | redCntRead
  /-- SAF_CNT_READ (R242). A read of SAF_CNT returns and clears the withheld, ignored-reset and password-failure counts. -/
  | safCntRead
  /-- GNS_RTCM_CNT_READ (R268). A read of GNS_RTCM_CNT returns and clears the RTCM frame counts. -/
  | gnsRtcmCntRead
  /-- GNS_SNAP_STAT_READ (R268). A read of GNS_SNAP_STAT returns the snapshot status and clears the ignored-trigger count. -/
  | gnsSnapStatRead
  /-- GNS_CNT_READ (R268). A read of GNS_CNT returns and clears the slip, holdover and pulse-step counts. -/
  | gnsCntRead
  /-- GNS_CLK_B_LO_READ (R268). A read of GNS_CLK_B_LO returns the low word of b_pps and latches the high word. -/
  | gnsClkBLoRead
  /-- NET_PIER_ERR_READ (R297). A read of NET_PIER_ERR returns and clears the pier protocol error counts. -/
  | netPierErrRead
  /-- NET_PIER_DUP_READ (R297). A read of NET_PIER_DUP returns and clears the duplicate and gap counts. -/
  | netPierDupRead
  /-- NET_450_CNT_READ (R297). A read of NET_450_CNT returns and clears the IEC 61162-450 sentence counts. -/
  | net450CntRead
  /-- LOG_ONL_READ (R369). A read of LOG_ONL returns the last group sequence and clears the rejected count. -/
  | logOnlRead
  /-- HIF_CNT_READ (R398). A read of HIF_CNT returns and clears the lost-event and rejected-response counts. -/
  | hifCntRead
  /-- PMU_DIP_READ (R467). A read of PMU_DIP returns the last dip and clears the dip count. -/
  | pmuDipRead
  /-- PMU_SHED_READ (R467). A read of PMU_SHED returns the shed domains and clears the shed count. -/
  | pmuShedRead
  /-- PMU_VMON_READ (R467). A read of PMU_VMON returns the selected rail voltage and clears its minimum. -/
  | pmuVmonRead
  /-- PMU_CNT_READ (R467). A read of PMU_CNT returns and clears the WDR, SAFR, hold-abort and clock-warning counts. -/
  | pmuCntRead
  /-- DIA_HARV_READ (R490). A read of DIA_HARV returns pending harvests and clears the ignored count. -/
  | diaHarvRead
  /-- DIA_REC_WP_LO_READ (R490). A read of DIA_REC_WP_LO returns the low word of the recorder write pointer and latches the high word. -/
  | diaRecWpLoRead
  /-- DIA_REC_LOST_READ (R490). A read of DIA_REC_LOST returns and clears the refused-entry count. -/
  | diaRecLostRead
  /-- DIA_RPL_CNT_READ (R490). A read of DIA_RPL_CNT returns and clears the replay mismatch and frame counts. -/
  | diaRplCntRead
  /-- PNL_CNT_READ (R503). A read of PNL_CNT returns and clears the panel done, replaced and interrupted counts. -/
  | pnlCntRead
  /-- PNL_BALCNT_READ (R503). A read of PNL_BALCNT returns and clears the balancing frame count. -/
  | pnlBalcntRead
  /-- SNAP_RELEASE (R265). Writing GNS_SNAP_STAT.RELEASE releases the GNSS snapshot buffer. -/
  | snapRelease
  /-- BANK_COMMIT (R331). Writing SDF_BANK_CTRL.COMMIT ends loading and makes the bank VALID if its words and GDF are in range. -/
  | bankCommit
  /-- HARBOUR_WAKE (R452). Writing PMU_CTRL.WAKE in HARBOUR returns the unit to RUN. -/
  | harbourWake
  /-- YD_STATUS_READ (R419). A host read of YD_STATUS releases HOST_INT_N. -/
  | ydStatusRead
  /-- YD_SPI_ERR_READ (R420). A read of YD_SPI_ERR returns and clears the SPI error count. -/
  | ydSpiErrRead
  deriving DecidableEq, Repr

end Sys2Proof
end

