-- ==== Sys2Proof/Config.lean ====
section
/-!
DEFINITION. What an implementation fixes and the spec leaves open: opaque constants without a body, so no
proof can see their values. A value needed afresh each time is the constant applied to the plain counter
State.free. Every constant has a row in notes/assumptions.
-/

namespace Sys2Proof.Config

/-- Sign (bit 63) and payload of the quiet NaN a NaN result is encoded as (IEEE 754-2019 leaves it open; R13). -/
opaque nanBits : Nat → Nat

/-- The lag, in units of P/8, that best aligns the frame-to-frame changes of two members over the last 64 frames,
none when it is unknown: the metric of "best aligns" and the noise level are not given (R43). The histories are the value
components at each boundary, newest first. -/
opaque lagOf : List (Option (List Int)) → List (Option (List Int)) → Option Int

/-- The base MAC address in OTP (R270). -/
opaque otpMac : Nat

/-- A value the rules leave open, read at State.free: 64 bits, cut to the width needed. -/
opaque freeWord : Nat → Nat

/-- What aids acquisition and no rule gives a formula for (R248, R249): the error of TIME_NS in ns where no solution tells it, that of a
position fix in m, at an instant; the Doppler in mHz that almanac or ephemeris predicts for a satellite (system, PRN) and band at an
instant from a position. -/
opaque aidTimeErr : Nat → Nat
opaque aidPosErr : Nat → Nat
opaque predDoppler : Nat → Nat → Nat → Nat → Option (Int × Int) → Int

/-- Where an input of a logic instance comes from: a constant, or an output of another instance. -/
inductive LSrc where
  | k (v : Int)
  | of (inst out : Nat)
  deriving DecidableEq, Repr

/-- A logic instance as an image encodes it: id, task, block type, state layout version, inputs, parameters in the order of
the block's row in R357, and the parameters open to on-line change. -/
structure LInst where
  id : Nat
  task : Nat
  ty : Nat
  ver : Nat
  ins : List LSrc
  par : List Int
  online : List Nat
  deriving DecidableEq, Repr

/-- The instances of a logic image: the instance table, connections and parameters are "the toolkit's matter"; none when
the table or a block type is not valid (R362). -/
opaque logicInsts : List Byte → Option (List LInst)

/-- Y of a LAG whose T + Δ is 0 or whose product leaves 64 bits, of A - Y, Δ and T: no value is given, but it is the same on every unit
(R357, R358). -/
opaque lagOpen : Int → Nat → Int → BitVec 32

/-- Does the signature of an image verify with a key of the given PURPOSE bit: the key table is the firmware's (R461, R67,
R135, R362). -/
opaque sigOk : Nat → List Byte → Bool

/-- The CRC-32C check of a schedule image: its place in the image is not given (R135). -/
opaque schedCrcOk : List Byte → Bool

/-- A sum of products as the schedule of an image orders it; the order in which it adds the `n` terms of a residual (R140), each step the
second place into the first; the order it eliminates `n` unknowns in (R134, R135): the layout of a schedule is not given. -/
opaque schedDot : List Byte → List (BitVec 32 × BitVec 32) → BitVec 32
opaque schedMerge : List Byte → Nat → List (Nat × Nat)
opaque schedOrder : List Byte → Nat → List Nat

/-- The power of two a variable or row of a problem (0 allocation, 1 MPC, 2 scenario MPC) is scaled by, rows numbered after the
variables: the objects give none (R138; DESIGN CHOICE, log 241). -/
opaque scaleExp : Nat → Nat → Int

/-- CYCLES of a schedule image: its place in the image is not given (R152). -/
opaque schedCycles : List Byte → Nat

/-- Does a flash program or erase, or a flash read, succeed: the device's matter, read at State.free (R387, R395). -/
opaque flashOk : Nat → Bool

/-- Silicon revision B1 (HIF_ID.REV, R398; 18_electrical_package.md, Ordering information). -/
def siliconRev : Nat := 0x21

/-- SV firmware interface version (HIF_ID.FW): no value is given (R398). -/
opaque fwIface : Nat

/-- MSI vectors the host grants the PCIe endpoint after its `n`th reset: the host's matter (R377, R392). -/
opaque msiGrant : Nat → Nat

/-- Where BOOT puts each structure of the fixed area of shared SRAM, by the model's key of the structure: any layout the area allows
(R9, R374). -/
opaque sramLayout : Nat → Nat

/-- Size in bytes of the flash device (R460: 64 MB to 1 GB). -/
opaque flashSize : Nat

/-- The program counter of an engine as a harvest shows it, read at State.free (R471). -/
opaque engPc : Nat → Nat → Nat

/-- Does an engine that is to be re-admitted pass its full test: the silicon's matter, read at State.free (R486). -/
opaque testOk : Nat → Bool

/-- Does a fuse burn of the anti-rollback mirror succeed: the device's matter, read at State.free (R462). -/
opaque burnOk : Nat → Bool

/-- TIME_TO_LIVE of an IPv4 datagram, and the source UDP port of one sent to a UDP port: no value is given (R270, R282, R476). -/
opaque ipTtl : Nat
opaque udpSource : Nat → Nat

/-- The Ethernet address that answers for an IPv4 address on a port: the network's, found by ARP (R270). -/
opaque macAt : Nat → Nat → List Byte

/-- Has the frame a controller offers started on the bus when its buffer is aborted: the bus's matter, read at State.free (R315). -/
opaque txStarted : Nat → Bool

/-- The serial number GET_INFO returns: the part's (R408). -/
opaque serial : Nat

end Sys2Proof.Config
end

