-- ==== Sys2Proof/Machine/Bits.lean ====
section
/-!
DEFINITION. Bit fields, sign extension, saturation, rounding and byte order (R12, R13, R15).
Arithmetic is done in Nat and Int and narrowed explicitly.
-/

namespace Sys2Proof.Machine

/-- Bits `lo + w - 1` down to `lo` of `x`. -/
def bits (x lo w : Nat) : Nat := (x >>> lo) % 2 ^ w

/-- Bit `i` of `x`. -/
def bit (x i : Nat) : Bool := (x >>> i) % 2 == 1

/-- `x` with the field of width `w` at `lo` replaced by `v` (truncated to the field). -/
def putBits (x lo w v : Nat) : Nat :=
  (x >>> (lo + w)) <<< (lo + w) + (v % 2 ^ w) <<< lo + x % 2 ^ lo

/-- A truth value as a bit. -/
def b2n (b : Bool) : Nat := if b then 1 else 0

/-- `x` read as a two's complement value of `w` bits. -/
def sx (w x : Nat) : Int :=
  if x % 2 ^ w < 2 ^ (w - 1) then Int.ofNat (x % 2 ^ w) else Int.ofNat (x % 2 ^ w) - Int.ofNat (2 ^ w)

/-- The two's complement encoding of `i` in `w` bits. -/
def tc (w : Nat) (i : Int) : Nat := (i % Int.ofNat (2 ^ w)).toNat

/-- `i` saturated to a signed range of `w` bits. -/
def satS (w : Nat) (i : Int) : Int :=
  if i > Int.ofNat (2 ^ (w - 1)) - 1 then Int.ofNat (2 ^ (w - 1)) - 1
  else if i < - Int.ofNat (2 ^ (w - 1)) then - Int.ofNat (2 ^ (w - 1)) else i

/-- `n` saturated to an unsigned range of `w` bits. -/
def satU (w n : Nat) : Nat := if n ≥ 2 ^ w then 2 ^ w - 1 else n

/-- An Int clamped to `lo..hi`. -/
def clampI (lo hi x : Int) : Int := if x < lo then lo else if x > hi then hi else x

/-- A saturating count of `w` bits, one up. -/
def incSat (w n : Nat) : Nat := satU w (n + 1)

/-- The absolute value as a Nat. -/
def absN (i : Int) : Nat := i.natAbs

/-- Arithmetic shift right (floor). -/
def asr (i : Int) (n : Nat) : Int := i.fdiv (Int.ofNat (2 ^ n))

/-- Round a quotient to nearest, ties away from zero (R37). -/
def rndAway (n : Int) (d : Nat) : Int :=
  if n < 0 then - Int.ofNat ((2 * n.natAbs + d) / (2 * d)) else Int.ofNat ((2 * n.natAbs + d) / (2 * d))

/-- Round a quotient to nearest, ties to even. -/
def rndEven (n : Int) (d : Nat) : Int :=
  let q := n.fdiv d
  let r := (n - q * d).toNat
  if 2 * r < d then q else if 2 * r > d then q + 1 else if q % 2 = 0 then q else q + 1

/-- Round a quotient to nearest, ties towards plus infinity (R13). -/
def rndUp (n : Int) (d : Nat) : Int := (2 * n + d).fdiv (2 * d)

/-- Narrow by `sh` fraction bits, half towards plus infinity, then saturate to `w` bits (R13). -/
def narrow (w sh : Nat) (i : Int) : Int :=
  satS w (if sh = 0 then i else asr (i + Int.ofNat (2 ^ (sh - 1))) sh)

/-- A B32 difference, read as signed (R14). -/
def b32diff (a b : Nat) : Int := sx 32 (tc 32 (Int.ofNat a - Int.ofNat b))

/-- Little-endian bytes of a Nat (R15). -/
def leBytes : Nat → Nat → List Byte
  | 0, _ => []
  | n + 1, v => BitVec.ofNat 8 v :: leBytes n (v / 256)

/-- The Nat a little-endian byte list spells (R15). -/
def leNat : List Byte → Nat
  | [] => 0
  | b :: bs => b.toNat + 256 * leNat bs

/-- Byte `i` of a list, 0 beyond its end. -/
def byteAt (bs : List Byte) (i : Nat) : Nat := (bs.getD i 0).toNat
/-- The unsigned little-endian field of `n` bytes at offset `o`. -/
def uAt (n : Nat) (bs : List Byte) (o : Nat) : Nat := leNat ((bs.drop o).take n)
/-- The signed little-endian field of `n` bytes at offset `o`. -/
def sAt (n : Nat) (bs : List Byte) (o : Nat) : Int := sx (8 * n) (uAt n bs o)

/-- `bs` cut or padded with zero bytes to exactly `n` bytes. -/
def fitBytes (n : Nat) (bs : List Byte) : List Byte :=
  (bs.take n) ++ List.replicate (n - bs.length) 0

/-- The median index pick of a list of Nats (lower of the two middle ones for an even count). -/
def insSorted (x : Nat) : List Nat → List Nat
  | [] => [x]
  | y :: ys => if x ≤ y then x :: y :: ys else y :: insSorted x ys

/-- Insertion sort of Nats. -/
def sortNat : List Nat → List Nat
  | [] => []
  | x :: xs => insSorted x (sortNat xs)

/-- Indices `0 .. n-1`. -/
def upTo (n : Nat) : List Nat := List.range n

/-- Number of one bits among the `n` low bits. -/
def popCount (n x : Nat) : Nat := ((upTo n).filter (fun i => bit x i)).length

/-- The indices of the one bits among the `n` low bits, rising. -/
def bitIdx (n x : Nat) : List Nat := (upTo n).filter (fun i => bit x i)

/-- Replace element `i` of a list (unchanged when `i` is out of range). -/
def setAt {α : Type} (l : List α) (i : Nat) (v : α) : List α := l.set i v

/-- Minimum of a non-empty list of Ints (0 for the empty list). -/
def minI : List Int → Int
  | [] => 0
  | [x] => x
  | x :: xs => if x ≤ minI xs then x else minI xs

/-- Maximum of a non-empty list of Ints (0 for the empty list). -/
def maxI : List Int → Int
  | [] => 0
  | [x] => x
  | x :: xs => if x ≥ maxI xs then x else maxI xs

/-- Maximum of a list of Nats. -/
def maxN : List Nat → Nat
  | [] => 0
  | x :: xs => if x ≥ maxN xs then x else maxN xs

/-- Sum of a list of Nats. -/
def sumN (l : List Nat) : Nat := l.foldl (· + ·) 0

/-- Sum of a list of Ints. -/
def sumI (l : List Int) : Int := l.foldl (· + ·) 0

/-- The last `n` elements of a list. -/
def lastN {α : Type} (n : Nat) (l : List α) : List α := l.drop (l.length - n)

/-- Is `c` an ASCII digit. -/
def isDigit (c : Nat) : Bool := decide (48 ≤ c) && decide (c ≤ 57)

end Sys2Proof.Machine
end

