-- ==== Sys2Proof/Machine/Float.lean ====
section
/-!
DEFINITION. IEEE 754-2019 binary32 and binary64 arithmetic (R12, R13, R42, R405): exact dyadic values,
one rounding to nearest with ties to even, subnormals handled in full, fused multiply-adds rounding once.
A result that is NaN is a quiet NaN whose sign and payload the standard leaves open (Config.nanBits).
-/

namespace Sys2Proof.Machine

/-- A binary interchange format: precision `p` (hidden bit included), exponent of the least subnormal
bit `-q`, exponent field width `w`. -/
structure FFmt where
  p : Nat
  q : Nat
  w : Nat
  deriving DecidableEq, Repr

/-- binary32. -/
def fmt32 : FFmt := ⟨24, 149, 8⟩
/-- binary64. -/
def fmt64 : FFmt := ⟨53, 1074, 11⟩

/-- The value a floating-point datum stands for; `fin n m e` is `(-1)^n * m * 2^e`. -/
inductive FVal where
  | nan
  | inf (neg : Bool)
  | fin (neg : Bool) (m : Nat) (e : Int)
  deriving DecidableEq, Repr

/-- The encoding of infinity without sign. -/
def fInfBits (f : FFmt) : Nat := (2 ^ f.w - 1) * 2 ^ (f.p - 1)

/-- The place of the sign bit. -/
def fSignPos (f : FFmt) : Nat := f.p - 1 + f.w

/-- Read the value of an encoding. -/
def fVal (f : FFmt) (x : Nat) : FVal :=
  let neg := bit x (fSignPos f)
  let b := x % 2 ^ (fSignPos f)
  let ex := b / 2 ^ (f.p - 1)
  let mant := b % 2 ^ (f.p - 1)
  if ex = 2 ^ f.w - 1 then (if mant = 0 then .inf neg else .nan)
  else if ex = 0 then .fin neg mant (- Int.ofNat f.q)
  else .fin neg (mant + 2 ^ (f.p - 1)) (Int.ofNat (ex - 1) - Int.ofNat f.q)

/-- Put the sign on an encoding. -/
def fSigned (f : FFmt) (neg : Bool) (b : Nat) : Nat := b + (if neg then 2 ^ fSignPos f else 0)

/-- The quiet NaN a NaN result is encoded as; sign and payload are open. -/
def fNan (f : FFmt) : Nat :=
  let o := Config.nanBits f.p
  fInfBits f + 2 ^ (f.p - 2) + o % 2 ^ (f.p - 2) + (if bit o 63 then 2 ^ fSignPos f else 0)

/-- Round the exact value `±m·2^e`, plus a positive residue below the last bit of `m` when `sticky`,
to the format, to nearest with ties to even. -/
def fRound (f : FFmt) (neg : Bool) (m : Nat) (e : Int) (sticky : Bool) : Nat :=
  if m = 0 ∧ !sticky then fSigned f neg 0
  else
    -- two more bits keep the residue below the rounding position
    let m2 := 4 * m + b2n sticky
    let e2 := e - 2
    let bl := m2.log2 + 1
    let te := max (- Int.ofNat f.q) (e2 + Int.ofNat bl - Int.ofNat f.p)
    let sh := te - e2
    let mant :=
      if sh ≤ 0 then m2 * 2 ^ (-sh).toNat
      else
        let k := sh.toNat
        if k > bl + 1 then 0
        else
          let q := m2 >>> k
          let r := m2 - q <<< k
          let h := 2 ^ (k - 1)
          if r < h then q else if r > h then q + 1 else if q % 2 = 0 then q else q + 1
    let enc := (te + Int.ofNat f.q).toNat * 2 ^ (f.p - 1) + mant
    fSigned f neg (if enc ≥ fInfBits f then fInfBits f else enc)

/-- Round an exact dyadic value with a signed mantissa; `z` is the sign of an exact zero. -/
def fRoundI (f : FFmt) (m : Int) (e : Int) (z : Bool) : Nat :=
  if m = 0 then fSigned f z 0 else fRound f (decide (m < 0)) m.natAbs e false

/-- The signed mantissa of a sign and magnitude. -/
def sgnI (neg : Bool) (m : Nat) : Int := if neg then - Int.ofNat m else Int.ofNat m

/-- Exact sum of two dyadic numbers, with the sign of an exact zero (RNE). -/
def fAddV (f : FFmt) (a b : FVal) : Nat :=
  match a, b with
  | .nan, _ => fNan f
  | _, .nan => fNan f
  | .inf x, .inf y => if x = y then fSigned f x (fInfBits f) else fNan f
  | .inf x, _ => fSigned f x (fInfBits f)
  | _, .inf y => fSigned f y (fInfBits f)
  | .fin na ma ea, .fin nb mb eb =>
    let e := min ea eb
    let s := sgnI na ma * Int.ofNat (2 ^ (ea - e).toNat) + sgnI nb mb * Int.ofNat (2 ^ (eb - e).toNat)
    fRoundI f s e (na && nb)

/-- Negate a value. -/
def fNegV : FVal → FVal
  | .nan => .nan
  | .inf n => .inf (!n)
  | .fin n m e => .fin (!n) m e

/-- The exact product as a value. -/
def fMulV (a b : FVal) : FVal :=
  match a, b with
  | .nan, _ => .nan
  | _, .nan => .nan
  | .inf x, .inf y => .inf (x != y)
  | .inf x, .fin n m _ => if m = 0 then .nan else .inf (x != n)
  | .fin n m _, .inf y => if m = 0 then .nan else .inf (n != y)
  | .fin na ma ea, .fin nb mb eb => .fin (na != nb) (ma * mb) (ea + eb)

/-- Round a value. -/
def fEnc (f : FFmt) : FVal → Nat
  | .nan => fNan f
  | .inf n => fSigned f n (fInfBits f)
  | .fin n m e => if m = 0 then fSigned f n 0 else fRound f n m e false

/-- The rounded quotient. -/
def fDivV (f : FFmt) (a b : FVal) : Nat :=
  match a, b with
  | .nan, _ => fNan f
  | _, .nan => fNan f
  | .inf _, .inf _ => fNan f
  | .inf x, .fin n _ _ => fSigned f (x != n) (fInfBits f)
  | .fin n _ _, .inf y => fSigned f (n != y) 0
  | .fin na ma ea, .fin nb mb eb =>
    let neg := na != nb
    if mb = 0 then (if ma = 0 then fNan f else fSigned f neg (fInfBits f))
    else if ma = 0 then fSigned f neg 0
    else
      let k := f.p + 3 + mb.log2 + 1
      let n := ma <<< k
      let q := n / mb
      fRound f neg q (ea - eb - Int.ofNat k) (n % mb != 0)

/-- Integer square root by bits, from bit `n - 1` down. -/
def isqrtGo : Nat → Nat → Nat → Nat
  | 0, _, r => r
  | n + 1, x, r => let t := r + 2 ^ n
                   if t * t ≤ x then isqrtGo n x t else isqrtGo n x r

/-- The integer square root (floor). -/
def isqrt (x : Nat) : Nat := isqrtGo (x.log2 / 2 + 1) x 0

/-- The rounded square root. -/
def fSqrtV (f : FFmt) : FVal → Nat
  | .nan => fNan f
  | .inf n => if n then fNan f else fInfBits f
  | .fin n m e =>
    if m = 0 then fSigned f n 0 else if n then fNan f
    else
      let k0 := 2 * (f.p + 2)
      let k := if (e - Int.ofNat k0) % 2 = 0 then k0 else k0 + 1
      let x := m <<< k
      let r := isqrt x
      fRound f false r ((e - Int.ofNat k) / 2) (r * r != x)

/-- Compare two values: `some o` when ordered, none when one is NaN. -/
def fCmpV (a b : FVal) : Option Ordering :=
  match a, b with
  | .nan, _ => none
  | _, .nan => none
  | .inf x, .inf y => some (if x = y then .eq else if x then .lt else .gt)
  | .inf x, _ => some (if x then .lt else .gt)
  | _, .inf y => some (if y then .gt else .lt)
  | .fin na ma ea, .fin nb mb eb =>
    let e := min ea eb
    some (compare (sgnI na ma * Int.ofNat (2 ^ (ea - e).toNat)) (sgnI nb mb * Int.ofNat (2 ^ (eb - e).toNat)))

/-- A value rounded to an integer by `rnd` (applied to numerator and power-of-two denominator). -/
def fToIntV (rnd : Int → Nat → Int) : FVal → Option Int
  | .fin n m e =>
    if e ≥ 0 then some (sgnI n m * Int.ofNat (2 ^ e.toNat)) else some (rnd (sgnI n m) (2 ^ (-e).toNat))
  | _ => none

/-- A binary32 encoding. -/
abbrev Flt := BitVec 32
/-- A binary64 encoding. -/
abbrev Dbl := BitVec 64

/-- The value of a binary32 datum. -/
def fv (x : Flt) : FVal := fVal fmt32 x.toNat
/-- binary32 sum. -/
def fadd (a b : Flt) : Flt := BitVec.ofNat 32 (fAddV fmt32 (fv a) (fv b))
/-- binary32 difference. -/
def fsub (a b : Flt) : Flt := BitVec.ofNat 32 (fAddV fmt32 (fv a) (fNegV (fv b)))
/-- binary32 product. -/
def fmul (a b : Flt) : Flt := BitVec.ofNat 32 (fEnc fmt32 (fMulV (fv a) (fv b)))
/-- binary32 quotient. -/
def fdiv (a b : Flt) : Flt := BitVec.ofNat 32 (fDivV fmt32 (fv a) (fv b))
/-- binary32 square root. -/
def fsqrt (a : Flt) : Flt := BitVec.ofNat 32 (fSqrtV fmt32 (fv a))
/-- binary32 fused multiply-add `a * b + c`. -/
def ffma (a b c : Flt) : Flt := BitVec.ofNat 32 (fAddV fmt32 (fMulV (fv a) (fv b)) (fv c))
/-- Sign flip. -/
def fneg (a : Flt) : Flt := a ^^^ 0x80000000
/-- Magnitude. -/
def fabs (a : Flt) : Flt := a &&& 0x7FFFFFFF
/-- binary32 nearest to an integer. -/
def fofInt (i : Int) : Flt := BitVec.ofNat 32 (fRoundI fmt32 i 0 false)
/-- binary32 nearest to a Nat. -/
def fofNat (n : Nat) : Flt := fofInt (Int.ofNat n)
/-- binary32 nearest to the rational `n / d`. -/
def fofRat (n : Int) (d : Nat) : Flt :=
  BitVec.ofNat 32 (fDivV fmt32 (.fin (decide (n < 0)) n.natAbs 0) (.fin false d 0))
/-- binary32 nearest to `m * 2^e`. -/
def fofDy (m : Int) (e : Int) : Flt := BitVec.ofNat 32 (fRoundI fmt32 m e false)
/-- `a < b` (false when unordered). -/
def flt (a b : Flt) : Bool := fCmpV (fv a) (fv b) == some .lt
/-- `a ≤ b` (false when unordered). -/
def fle (a b : Flt) : Bool := let c := fCmpV (fv a) (fv b); c == some .lt || c == some .eq
/-- Numeric equality. -/
def feq (a b : Flt) : Bool := fCmpV (fv a) (fv b) == some .eq
/-- The smaller (the first when unordered). -/
def fmin (a b : Flt) : Flt := if flt b a then b else a
/-- The larger (the first when unordered). -/
def fmax (a b : Flt) : Flt := if flt a b then b else a
/-- Clamp to `lo..hi`. -/
def fclamp (x lo hi : Flt) : Flt := fmin (fmax x lo) hi
/-- Is the datum finite. -/
def ffinite (a : Flt) : Bool := match fv a with | .fin _ _ _ => true | _ => false
/-- Is the datum above zero (finite or infinite). -/
def fpos (a : Flt) : Bool := flt 0 a
/-- Round to an integer, ties to even; an infinity or NaN gives 0 only through `satF`. -/
def ftoIntEven (a : Flt) : Option Int := fToIntV rndEven (fv a)
/-- Round to an integer, ties away from zero. -/
def ftoIntAway (a : Flt) : Option Int := fToIntV rndAway (fv a)
/-- Round half towards plus infinity. -/
def ftoIntUp (a : Flt) : Option Int := fToIntV rndUp (fv a)
/-- Round towards minus infinity. -/
def ftoIntFloor (a : Flt) : Option Int := fToIntV (fun n d => n.fdiv d) (fv a)
/-- The dyadic value times 2^k, rounded half towards plus infinity and saturated to `w` bits: the
narrowing of a real value to a fixed-point format (R13); NaN narrows to the open value. -/
def fToFix (w : Nat) (k : Int) (a : Flt) : Int :=
  match fv a with
  | .nan => satS w (Int.ofNat (Config.nanBits w))
  | .inf n => if n then - Int.ofNat (2 ^ (w - 1)) else Int.ofNat (2 ^ (w - 1)) - 1
  | .fin n m e =>
    satS w (if e + k ≥ 0 then sgnI n m * Int.ofNat (2 ^ (e + k).toNat) else rndUp (sgnI n m) (2 ^ (-(e + k)).toNat))
/-- A rounding to integer followed by saturation to `w` signed bits; infinities saturate. -/
def fSatInt (rnd : Int → Nat → Int) (w : Nat) (a : Flt) : Int :=
  match fv a with
  | .nan => satS w (Int.ofNat (Config.nanBits w))
  | .inf n => if n then - Int.ofNat (2 ^ (w - 1)) else Int.ofNat (2 ^ (w - 1)) - 1
  | .fin n m e => satS w ((fToIntV rnd (.fin n m e)).getD 0)

/-- binary64 value nearest to an integer. -/
def dofInt (i : Int) : Dbl := BitVec.ofNat 64 (fRoundI fmt64 i 0 false)
/-- binary64 value nearest to a rational. -/
def dofRat (n : Int) (d : Nat) : Dbl :=
  BitVec.ofNat 64 (fDivV fmt64 (.fin (decide (n < 0)) n.natAbs 0) (.fin false d 0))
/-- A binary32 datum as a binary64 datum (exact). -/
def dofFlt (a : Flt) : Dbl := BitVec.ofNat 64 (fEnc fmt64 (fv a))
/-- binary64 fused multiply-add. -/
def dfma (a b c : Dbl) : Dbl :=
  BitVec.ofNat 64 (fAddV fmt64 (fMulV (fVal fmt64 a.toNat) (fVal fmt64 b.toNat)) (fVal fmt64 c.toNat))
/-- A binary64 datum rounded to binary32. -/
def dToFlt (a : Dbl) : Flt := BitVec.ofNat 32 (fEnc fmt32 (fVal fmt64 a.toNat))
/-- A binary64 datum rounded to an integer (ties to even) and saturated to `lo..hi`. -/
def dToInt (lo hi : Int) (a : Dbl) : Int :=
  match fVal fmt64 a.toNat with
  | .nan => clampI lo hi (Int.ofNat (Config.nanBits 64))
  | .inf n => if n then lo else hi
  | .fin n m e => clampI lo hi ((fToIntV rndEven (.fin n m e)).getD 0)

end Sys2Proof.Machine
end

