-- ==== Sys2Proof/Machine/Hash.lean ====
section
/-!
DEFINITION. The checks and digests the rules name: CRC-32C (R383, R386, R403 and others), CRC-24Q of RTCM frames
(R255), SHA-384, HMAC-SHA-384 and PBKDF2 (R238, R240).
-/

namespace Sys2Proof.Machine

/-- One bit of a reflected CRC. -/
def crcBit (poly c : Nat) : Nat := if c % 2 = 1 then (c / 2) ^^^ poly else c / 2

/-- One byte of CRC-32C (reflected polynomial 0x82F63B78). -/
def crc32cByte (c : Nat) (b : Byte) : Nat :=
  let p := 0x82F63B78
  crcBit p (crcBit p (crcBit p (crcBit p (crcBit p (crcBit p (crcBit p (crcBit p (c ^^^ b.toNat))))))))

/-- CRC-32C over a byte list: initial value and final inversion all ones. -/
def crc32c (bs : List Byte) : Nat := (bs.foldl crc32cByte 0xFFFFFFFF) ^^^ 0xFFFFFFFF

/-- One bit of CRC-24Q, most significant bit first. -/
def crc24Bit (c : Nat) : Nat :=
  if bit c 23 then ((c * 2) ^^^ 0x1864CFB) % 2 ^ 24 else (c * 2) % 2 ^ 24

/-- CRC-24Q over a byte list, initial value 0. -/
def crc24q (bs : List Byte) : Nat :=
  bs.foldl (fun c b =>
    crc24Bit (crc24Bit (crc24Bit (crc24Bit (crc24Bit (crc24Bit (crc24Bit (crc24Bit (c ^^^ (b.toNat <<< 16)))))))))) 0

/-- Turn a 64-bit value right by `n` places. -/
def turn64 (x n : Nat) : Nat := (x / 2 ^ n) ||| (x * 2 ^ (64 - n) % 2 ^ 64)

/-- Add the `n` low bits, from the top, that keep the `k`-th power of `r` at or below `x`. -/
def rootBits (k x : Nat) : Nat → Nat → Nat
  | 0, r => r
  | n + 1, r => rootBits k x n (if (r + 2 ^ n) ^ k ≤ x then r + 2 ^ n else r)

/-- The first 64 bits of the fraction of the `k`-th root of `p` (`p` below 512). -/
def rootFrac (k p : Nat) : Nat := rootBits k (p * 2 ^ (64 * k)) 70 0 % 2 ^ 64

/-- The primes below `n`. -/
def primesTo (n : Nat) : List Nat :=
  (List.range n).filter fun p => decide (2 ≤ p) && (List.range p).all fun d => decide (d < 2) || decide (p % d ≠ 0)

/-- The 80 round constants of SHA-384: from the cube roots of the first 80 primes. -/
def shaConsts : List Nat := (primesTo 410).map (rootFrac 3)

/-- The starting words of SHA-384: from the square roots of the ninth to the sixteenth prime. -/
def shaStart : List Nat := ((primesTo 54).drop 8).map (rootFrac 2)

/-- A 64-bit big-endian word of eight bytes. -/
def beNat (bs : List Byte) : Nat := bs.foldl (fun a b => a * 256 + b.toNat) 0
/-- Big-endian bytes. -/
def beBytes (n v : Nat) : List Byte := (leBytes n v).reverse

/-- Cut a byte list into `n` pieces of `k` bytes. -/
def chunks (k : Nat) : Nat → List Byte → List (List Byte)
  | 0, _ => []
  | n + 1, bs => bs.take k :: chunks k n (bs.drop k)

/-- The word that follows a list of at least sixteen message words, newest first. -/
def shaNext (w : List Nat) : Nat :=
  let mix (x r t s : Nat) : Nat := turn64 x r ^^^ turn64 x t ^^^ x / 2 ^ s
  (w.getD 15 0 + mix (w.getD 14 0) 1 8 7 + w.getD 6 0 + mix (w.getD 1 0) 19 61 6) % 2 ^ 64

/-- `n` more message words, each from the sixteen before it. -/
def shaExtend : Nat → List Nat → List Nat
  | 0, w => w
  | n + 1, w => shaExtend n (shaNext w :: w)

/-- The three-way mix of one word: the turns by `i`, `j` and `k` places. -/
def turns (x i j k : Nat) : Nat := turn64 x i ^^^ turn64 x j ^^^ turn64 x k

/-- One round, on the last four words of the two chains the hash runs (the first and the second half of its eight
words, newest first): each round adds one word to each chain and drops its oldest. -/
def shaTurn (ch : List Nat × List Nat) (kw : Nat) : List Nat × List Nat :=
  let x (i : Nat) : Nat := ch.1.getD i 0
  let y (i : Nat) : Nat := ch.2.getD i 0
  let pick := (y 0 &&& y 1) ||| ((y 0 ^^^ (2 ^ 64 - 1)) &&& y 2)
  let vote := (x 0 &&& (x 1 ||| x 2)) ||| (x 1 &&& x 2)
  let push := kw + y 3 + turns (y 0) 14 18 41 + pick
  (((push + turns (x 0) 28 34 39 + vote) % 2 ^ 64) :: ch.1.take 3, ((push + x 3) % 2 ^ 64) :: ch.2.take 3)

/-- The eight words after one block of 128 bytes. -/
def shaFold (h : List Nat) (blk : List Byte) : List Nat :=
  let w := (shaExtend 64 ((chunks 8 16 blk).map beNat).reverse).reverse
  let r := (List.zipWith (· + ·) shaConsts w).foldl shaTurn (h.take 4, h.drop 4)
  List.zipWith (fun x y => (x + y) % 2 ^ 64) h (r.1 ++ r.2)

/-- SHA-384 of a byte list (FIPS 180-4; PRESUMED, log 250: R238 and R240 name the function only): 48 bytes. -/
def sha384 (bs : List Byte) : List Byte :=
  let fill := (111 - bs.length % 128 + 128) % 128
  let msg := bs ++ 0x80 :: List.replicate fill 0 ++ beBytes 16 (bs.length * 8)
  (((chunks 128 (msg.length / 128) msg).foldl shaFold shaStart).take 6).flatMap (beBytes 8)

/-- Byte-wise exclusive or. -/
def xorBytes (a b : List Byte) : List Byte := List.zipWith (· ^^^ ·) a b

/-- HMAC-SHA-384. -/
def hmac384 (key msg : List Byte) : List Byte :=
  let k := fitBytes 128 (if key.length > 128 then sha384 key else key)
  let ip := xorBytes k (List.replicate 128 0x36)
  let op := xorBytes k (List.replicate 128 0x5C)
  sha384 (op ++ sha384 (ip ++ msg))

/-- The iterations of one PBKDF2 block: `u` the last U, `t` the running exclusive or. -/
def pbkdf2Go (key : List Byte) : Nat → List Byte → List Byte → List Byte
  | 0, _, t => t
  | n + 1, u, t => let u' := hmac384 key u
                   pbkdf2Go key n u' (xorBytes t u')

/-- PBKDF2-HMAC-SHA-384, first block (48 bytes), `iter` iterations. -/
def pbkdf2 (pw salt : List Byte) (iter : Nat) : List Byte :=
  let u1 := hmac384 pw (salt ++ beBytes 4 1)
  pbkdf2Go pw (iter - 1) u1 u1

end Sys2Proof.Machine
end

