-- ==== Sys2Proof/Machine/Tab.lean ====
section
/-!
DEFINITION. The sparse tables the machine's stores are held in: what an unlisted key reads as is the
default `d`, and a write of the default value removes the entry, so equal stores are equal lists.
-/

namespace Sys2Proof.Machine

/-- Read key `k`. -/
def tabGet {α : Type} (d : Nat → α) : Tab α → Nat → α
  | [], k => d k
  | (a, v) :: r, k => if a = k then v else tabGet d r k

/-- Remove key `k`, wherever it stands. -/
def tabDel {α : Type} : Tab α → Nat → Tab α
  | [], _ => []
  | (a, v) :: r, k => if a = k then tabDel r k else (a, v) :: tabDel r k

/-- Put `v` at key `k`, in key order. -/
def tabIns {α : Type} : Tab α → Nat → α → Tab α
  | [], k, v => [(k, v)]
  | (a, w) :: r, k, v =>
    if a = k then (k, v) :: r else if k < a then (k, v) :: (a, w) :: r else (a, w) :: tabIns r k v

/-- Write `v` at key `k`, keeping the canonical form. -/
def tabSet {α : Type} [DecidableEq α] (d : Nat → α) (t : Tab α) (k : Nat) (v : α) : Tab α :=
  if v = d k then tabDel t k else tabIns t k v

/-- Every key of the table is above `lo`, keys rise strictly, and no entry holds its default. -/
def tabWfFrom {α : Type} [DecidableEq α] (d : Nat → α) : Option Nat → Tab α → Bool
  | _, [] => true
  | none, (a, v) :: r => decide (v ≠ d a) && tabWfFrom d (some a) r
  | some lo, (a, v) :: r => decide (lo < a) && decide (v ≠ d a) && tabWfFrom d (some a) r

/-- The canonical form of a sparse table. -/
def tabWf {α : Type} [DecidableEq α] (d : Nat → α) (t : Tab α) : Bool := tabWfFrom d none t

/-- The keys of a table, rising. -/
def tabKeys {α : Type} (t : Tab α) : List Nat := t.map (·.1)

end Sys2Proof.Machine
end

