-- ==== Sys2Proof/Machine/RegTable.lean ====
section
/-!
DEFINITION. The register map: one row per register of the block regions of BAR0 (R374), with the masks of its
access codes (R16) and its value after POR, BOR and XRST (R15), and one descriptor per field. Written from the
register tables of the spec (R53, R54, R93, R132, R171, R214, R242, R268, R297, R298, R322, R324, R344, R345,
R369, R370, R398, R467, R490, R503). A repeated register is one row with a stride and a count.
-/

namespace Sys2Proof.Machine

/-- A field of a register: address of instance 0, lowest bit, width, distance between instances. -/
structure Fld where
  addr : Nat
  lo : Nat
  w : Nat
  stride : Nat
  deriving DecidableEq, Repr

/-- The same field in instance `n`. -/
def fldAt (f : Fld) (n : Nat) : Fld := { f with addr := f.addr + f.stride * n }

/-- A register: address of instance 0, stride, count, reset word, and the masks of its RW and WO bits, its W1C
bits, its W1S bits and its RC bits. -/
structure RegRow where
  base : Nat
  stride : Nat
  count : Nat
  rst : Nat
  rw : Nat
  wo : Nat
  w1c : Nat
  w1s : Nat
  rc : Nat
  deriving DecidableEq, Repr

/-- The TIM_ registers. -/
def rowsTIM : List RegRow := [
  ⟨0x9000, 0, 1, 0x00000000, 0x00000000, 0x00000000, 0x00000000, 0x00000000, 0x00000000⟩,
  ⟨0x9004, 0, 1, 0x00000000, 0x00000000, 0x00000000, 0x00000000, 0x00000000, 0x00000000⟩,
  ⟨0x9008, 0, 1, 0x00000000, 0xFFFFFFFF, 0x00000000, 0x00000000, 0x00000000, 0x00000000⟩,
  ⟨0x900C, 0, 1, 0x00000008, 0x000000FF, 0x00000000, 0x00000100, 0x00000000, 0x00000000⟩,
  ⟨0x9010, 0, 1, 0x00041401, 0x000F1F03, 0x00000000, 0x00000000, 0x00000000, 0x00000000⟩,
  ⟨0x9014, 0, 1, 0x00000000, 0x00000000, 0x00000000, 0x00000000, 0x00000000, 0x00000000⟩,
  ⟨0x9018, 0, 1, 0x000186A0, 0x0007FFFF, 0x00000000, 0x00000000, 0x00000000, 0x00000000⟩,
  ⟨0x901C, 0, 1, 0x00000000, 0x00000000, 0x00000000, 0x00000000, 0x00000000, 0x00000000⟩,
  ⟨0x9020, 0, 1, 0x00000000, 0x00000000, 0x00000000, 0x000000BF, 0x00000000, 0x00000000⟩,
  ⟨0x9024, 0, 1, 0x00000000, 0x00000000, 0x00000000, 0x00000000, 0x00000000, 0x00000000⟩,
  ⟨0x9028, 0, 1, 0x00C803E8, 0x0FFF0FFF, 0x00000000, 0x00000000, 0x00000000, 0x00000000⟩,
  ⟨0x902C, 0, 1, 0x00000000, 0x00000000, 0x00000000, 0x00000000, 0x00000000, 0xFFFFFFFF⟩,
  ⟨0x9030, 0, 1, 0x00000000, 0x00000000, 0x00000000, 0x00000000, 0x00000000, 0xFFFFFFFF⟩,
  ⟨0x9040, 0, 1, 0x00010000, 0x000F0111, 0x00000000, 0x00000000, 0x00000000, 0x00000000⟩,
  ⟨0x9044, 0, 1, 0x01000703, 0xFFFFFF03, 0x00000000, 0x00000000, 0x00000000, 0x00000000⟩,
  ⟨0x9048, 0, 1, 0x0064030A, 0x00FF0FFF, 0x00000000, 0x00000000, 0x00000000, 0x00000000⟩,
  ⟨0x904C, 0, 1, 0x012C3C32, 0xFFFFFFFF, 0x00000000, 0x00000000, 0x00000000, 0x00000000⟩,
  ⟨0x9050, 0, 1, 0xFFFF0000, 0x00000000, 0x00000000, 0x00000000, 0x00000000, 0x00000000⟩,
  ⟨0x9054, 0, 1, 0x00000000, 0x00000000, 0x00000000, 0x00000000, 0x00000000, 0x00000000⟩,
  ⟨0x9058, 0, 1, 0x00000000, 0x00000000, 0x00000000, 0x00000000, 0x00000000, 0x00000000⟩,
  ⟨0x905C, 0, 1, 0x00000000, 0x00000000, 0x00000000, 0x00000000, 0x00000000, 0x00000000⟩,
  ⟨0x9060, 0, 1, 0x00000000, 0x00000000, 0x00000000, 0x00000000, 0x00000000, 0x00000000⟩,
  ⟨0x9064, 0, 1, 0x00000000, 0x00000000, 0x00000000, 0x00000000, 0x00000000, 0x00000000⟩,
  ⟨0x9068, 0, 1, 0x00000000, 0x00000000, 0x00000000, 0x00000000, 0x00000000, 0xFFFFFFFF⟩]

/-- The SCX_ registers. -/
def rowsSCX : List RegRow := [
  ⟨0xE000, 32, 256, 0x00000010, 0x001F003F, 0x00000000, 0x00000000, 0x00000000, 0x00000000⟩,
  ⟨0xE004, 32, 256, 0x00000000, 0x00FFFFFF, 0x00000000, 0x00000000, 0x00000000, 0x00000000⟩,
  ⟨0xE008, 32, 256, 0x03E80000, 0xFFFFFFFF, 0x00000000, 0x00000000, 0x00000000, 0x00000000⟩,
  ⟨0xE00C, 32, 256, 0x00180000, 0x00FFFFFF, 0x00000000, 0x00000000, 0x00000000, 0x00000000⟩,
  ⟨0xE010, 32, 256, 0x00000000, 0x00000000, 0x00000000, 0x00000000, 0x00000000, 0xFFFF0000⟩,
  ⟨0xE014, 32, 256, 0x00000000, 0x00000000, 0x00000000, 0x00000000, 0x00000000, 0x00000000⟩,
  ⟨0xE018, 32, 256, 0xFFFFFFFF, 0x00000000, 0x00000000, 0x00000000, 0x00000000, 0x00000000⟩,
  ⟨0xE01C, 32, 256, 0x00000000, 0x00000000, 0x00000000, 0x00000000, 0x00000000, 0x00000000⟩]

/-- The FUS_ registers. -/
def rowsFUS : List RegRow := [
  ⟨0x9400, 0, 1, 0x40090411, 0xFF0F0771, 0x00000000, 0x00000000, 0x00000000, 0x00000000⟩,
  ⟨0x9404, 0, 1, 0x40400064, 0xFFFFFFFF, 0x00000000, 0x00000000, 0x00000000, 0x00000000⟩,
  ⟨0x9408, 0, 1, 0x00640040, 0xFFFF00FF, 0x00000000, 0x00000000, 0x00000000, 0x00000000⟩,
  ⟨0x940C, 0, 1, 0x0064000A, 0x00FF00FF, 0x00000000, 0x00000000, 0x00000000, 0x00000000⟩,
  ⟨0x9410, 0, 1, 0x07D0003C, 0xFFFF0FFF, 0x00000000, 0x00000000, 0x00000000, 0x00000000⟩,
  ⟨0x9414, 0, 1, 0x00000100, 0x00000000, 0x00000000, 0x000000FF, 0x00000000, 0x00000000⟩,
  ⟨0x9418, 0, 1, 0x00000000, 0x00000000, 0x00000000, 0x00000000, 0x00000000, 0x00000000⟩,
  ⟨0x941C, 0, 1, 0x00000000, 0x00000000, 0x00000000, 0x00000000, 0x00000000, 0x00000000⟩,
  ⟨0x9420, 0, 1, 0x00000000, 0x00000000, 0x00000000, 0x00000000, 0x00000000, 0x00000000⟩,
  ⟨0x9424, 0, 1, 0x00000000, 0x00000000, 0x00000000, 0x00000000, 0x00000000, 0x00000000⟩,
  ⟨0x9428, 0, 1, 0x00000000, 0x00000000, 0x00000000, 0x00000000, 0x00000000, 0x00000000⟩,
  ⟨0x942C, 0, 1, 0x00000000, 0x00000000, 0x00000000, 0x00000000, 0x00000000, 0x00000000⟩,
  ⟨0x9430, 0, 1, 0x00000000, 0x00000000, 0x00000000, 0x00000000, 0x00000000, 0xFFFFFFFF⟩,
  ⟨0x9434, 0, 1, 0x00000000, 0x00000000, 0x00000000, 0x00000000, 0x00000000, 0x00000000⟩,
  ⟨0x9440, 4, 16, 0x00000000, 0x00000000, 0x00000000, 0x00000000, 0x00000000, 0x00000000⟩,
  ⟨0x9480, 0, 1, 0x00000000, 0x0000000F, 0x00000000, 0x00000000, 0x00000000, 0x00000000⟩,
  ⟨0x9484, 0, 1, 0x00000000, 0x00000000, 0x00000000, 0x00000000, 0x00000000, 0x00000000⟩,
  ⟨0x9488, 0, 1, 0x00000000, 0x00000000, 0x00000000, 0x00000000, 0x00000000, 0x00000000⟩,
  ⟨0x948C, 0, 1, 0x00000000, 0x00000000, 0x00000000, 0x00000000, 0x00000000, 0x00000000⟩,
  ⟨0x9490, 0, 1, 0x00000000, 0x00000000, 0x00000000, 0x00000000, 0x00000000, 0x00000000⟩,
  ⟨0x9494, 0, 1, 0x00000000, 0x00000000, 0x00000000, 0x00000000, 0x00000000, 0x00000000⟩,
  ⟨0x9498, 0, 1, 0x00000000, 0x00000000, 0x00000000, 0x00000000, 0x00000000, 0x00000000⟩]

/-- The CEX_ registers. -/
def rowsCEX : List RegRow := [
  ⟨0x9800, 0, 1, 0x00007210, 0x00000000, 0x00000000, 0x00000000, 0x00000000, 0x00000000⟩,
  ⟨0x9804, 0, 1, 0x00000000, 0x00000000, 0x00000000, 0x00000000, 0x00000000, 0x00000000⟩,
  ⟨0x9808, 0, 1, 0x00000000, 0x00000000, 0x00000000, 0x000000FE, 0x00000000, 0x00000000⟩,
  ⟨0x980C, 0, 1, 0x00000000, 0x00000000, 0x00000000, 0x00000000, 0x00000000, 0x00000000⟩,
  ⟨0x9810, 0, 1, 0x32030C0E, 0xFF0F1F1F, 0x00000000, 0x00000000, 0x00000000, 0x00000000⟩,
  ⟨0x9814, 0, 1, 0x000F4240, 0xFFFFFFFF, 0x00000000, 0x00000000, 0x00000000, 0x00000000⟩,
  ⟨0x9818, 0, 1, 0x000F4240, 0xFFFFFFFF, 0x00000000, 0x00000000, 0x00000000, 0x00000000⟩,
  ⟨0x981C, 0, 1, 0x05F5E100, 0xFFFFFFFF, 0x00000000, 0x00000000, 0x00000000, 0x00000000⟩,
  ⟨0x9820, 4, 4, 0x00000000, 0x00000000, 0x00000000, 0x00001FFF, 0x00000000, 0x00000000⟩,
  ⟨0x9830, 0, 1, 0x00000000, 0x00000000, 0x00000000, 0x00000000, 0x00000000, 0x00000000⟩,
  ⟨0x9834, 0, 1, 0x00000000, 0x00000000, 0x00000000, 0x00000000, 0x00000000, 0x00000000⟩,
  ⟨0x9838, 0, 1, 0x00000000, 0x00000000, 0x00000000, 0x00000000, 0x00000000, 0x00000000⟩,
  ⟨0x983C, 0, 1, 0x00000000, 0x00000000, 0x00000000, 0x00000000, 0x00000000, 0x00000000⟩,
  ⟨0x9840, 0, 1, 0x00000000, 0x00000000, 0x00000000, 0x00000000, 0x00000000, 0x00000000⟩,
  ⟨0x9844, 0, 1, 0x00000000, 0x00000000, 0x00000000, 0x00000000, 0x00000000, 0xFFFFFFFF⟩]

/-- The SLV_ registers. -/
def rowsSLV : List RegRow := [
  ⟨0x9C00, 0, 1, 0x19182B10, 0x3F3FFF71, 0x00000000, 0x00000000, 0x00000000, 0x00000000⟩,
  ⟨0x9C04, 0, 1, 0x00000001, 0x0000FFFE, 0x00000000, 0x00000000, 0x00000000, 0x00000000⟩,
  ⟨0x9C08, 0, 1, 0x00000000, 0x00000000, 0x00000000, 0x000003FF, 0x00000000, 0x00000000⟩,
  ⟨0x9C0C, 0, 1, 0x00000000, 0x00000000, 0x00000000, 0x00000000, 0x00000000, 0x00000000⟩,
  ⟨0x9C10, 0, 1, 0x00000000, 0x00000000, 0x00000000, 0x00000000, 0x00000000, 0x00000000⟩,
  ⟨0x9C14, 0, 1, 0x06060000, 0x00000000, 0x00000000, 0x00000000, 0x00000000, 0x00000000⟩,
  ⟨0x9C18, 0, 1, 0x00000000, 0x00000000, 0x00000000, 0x00000000, 0x00000000, 0x00000000⟩,
  ⟨0x9C1C, 0, 1, 0x00000000, 0x00000000, 0x00000000, 0x00000000, 0x00000000, 0x00000000⟩,
  ⟨0x9C20, 0, 1, 0x00000000, 0x00000000, 0x00000000, 0x00000000, 0x00000000, 0xFFFFFFFF⟩,
  ⟨0x9C24, 0, 1, 0x00000000, 0x00000000, 0x00000000, 0x00000000, 0x00000000, 0xFFFFFFFF⟩,
  ⟨0x9C28, 0, 1, 0x00000000, 0x00000000, 0x00000000, 0x00000000, 0x00000000, 0x00000000⟩,
  ⟨0x9C2C, 0, 1, 0x00000000, 0x00000000, 0x00000000, 0x00000000, 0x00000000, 0x00000000⟩,
  ⟨0x9C40, 4, 16, 0x00000006, 0x00000000, 0x00000000, 0x00000000, 0x00000000, 0x00000000⟩,
  ⟨0x9C80, 4, 16, 0x00006FFF, 0x00000000, 0x00000000, 0x00000000, 0x00000000, 0x00000000⟩,
  ⟨0x9CC0, 0, 1, 0x00000CCD, 0x0000FFFF, 0x00000000, 0x00000000, 0x00000000, 0x00000000⟩]

/-- The RED_ registers. -/
def rowsRED : List RegRow := [
  ⟨0xA000, 0, 1, 0x00050308, 0x071F0F1F, 0x00000000, 0x00000000, 0x00000000, 0x00000000⟩,
  ⟨0xA004, 0, 1, 0x00000064, 0x0000FFFF, 0x00000000, 0x00000000, 0x00000000, 0x00000000⟩,
  ⟨0xA008, 0, 1, 0x00030000, 0x00000000, 0x00000000, 0x00000000, 0x00000000, 0x00000000⟩,
  ⟨0xA00C, 0, 1, 0x00000000, 0x00000000, 0x00000000, 0x00000000, 0x00000000, 0x00000000⟩,
  ⟨0xA010, 0, 1, 0x00000000, 0x00000000, 0x00000000, 0x00000000, 0x00000000, 0x00000000⟩,
  ⟨0xA014, 0, 1, 0x00000000, 0x00000000, 0x00000000, 0x00000000, 0x00000000, 0x00000000⟩,
  ⟨0xA018, 0, 1, 0x00000000, 0x00000000, 0x00000000, 0x0000003F, 0x00000000, 0x00000000⟩,
  ⟨0xA01C, 0, 1, 0x00000000, 0x00000000, 0x00000000, 0x00000000, 0x00000000, 0x00000000⟩,
  ⟨0xA020, 0, 1, 0x00000000, 0x00000000, 0x00000000, 0x00000000, 0x00000000, 0x00000000⟩,
  ⟨0xA024, 0, 1, 0x00000000, 0x00000000, 0x00000000, 0x00000000, 0x00000000, 0x00000000⟩,
  ⟨0xA028, 0, 1, 0x00000000, 0x00000000, 0x00000000, 0x00000000, 0x00000000, 0xFFFFFFFF⟩,
  ⟨0xA02C, 0, 1, 0x00000000, 0x00000000, 0x00000000, 0x00000000, 0x00000000, 0x00000000⟩,
  ⟨0xA030, 0, 1, 0x00000000, 0x00000000, 0x00000000, 0x00000000, 0x00000000, 0x00000000⟩]

/-- The SAF_ registers. -/
def rowsSAF : List RegRow := [
  ⟨0xA400, 0, 1, 0x000F0000, 0x00000000, 0x00000000, 0x00000000, 0x00000000, 0x00000000⟩,
  ⟨0xA410, 4, 4, 0x00000001, 0x00000000, 0x00000000, 0x00000000, 0x00000000, 0x00000000⟩,
  ⟨0xA420, 0, 1, 0x00000000, 0x00000000, 0x00000000, 0x00000000, 0x00000000, 0x00000000⟩,
  ⟨0xA430, 0, 1, 0x0000100A, 0x00000000, 0x00000000, 0x00000000, 0x00000000, 0x00000000⟩,
  ⟨0xA434, 0, 1, 0x00000000, 0x00000000, 0x00000000, 0x00000000, 0x00000000, 0x00000000⟩,
  ⟨0xA438, 0, 1, 0x00020000, 0x00000000, 0x00000000, 0x00000000, 0x00000000, 0x00000000⟩,
  ⟨0xA43C, 0, 1, 0x00000000, 0x00000000, 0x00000000, 0x00000000, 0x00000000, 0x00000000⟩,
  ⟨0xA440, 0, 1, 0x00000000, 0x00000000, 0x00000000, 0x00000000, 0x00000000, 0x00000000⟩,
  ⟨0xA444, 0, 1, 0x00000000, 0x00000000, 0x00000000, 0x00000000, 0x00000000, 0x00000000⟩,
  ⟨0xA448, 0, 1, 0x00000000, 0x00000000, 0x00000000, 0x00000000, 0x00000000, 0x00000000⟩,
  ⟨0xA44C, 0, 1, 0x00000000, 0x00000000, 0x00000000, 0x00000000, 0x00000000, 0xFFFFFFFF⟩,
  ⟨0xA450, 0, 1, 0x00000000, 0x00000000, 0x00000000, 0x00000000, 0x00000000, 0x00000000⟩,
  ⟨0xA454, 0, 1, 0x00000000, 0x00000000, 0x00000000, 0x00000000, 0x00000000, 0x00000000⟩,
  ⟨0xA458, 0, 1, 0x00000000, 0x00000000, 0x00000000, 0x00000000, 0x00000000, 0x00000000⟩]

/-- The GNS_ registers. -/
def rowsGNS : List RegRow := [
  ⟨0xA800, 0, 1, 0x00F0050E, 0x00F03F0F, 0x00000000, 0x00000000, 0x00000000, 0x00000000⟩,
  ⟨0xA804, 0, 1, 0x0000000A, 0x0000007F, 0x00000000, 0x00000000, 0x00000000, 0x00000000⟩,
  ⟨0xA808, 0, 1, 0x00000002, 0x0000000F, 0x00000000, 0x00000000, 0x00000000, 0x00000000⟩,
  ⟨0xA810, 4, 4, 0x00000000, 0x8000FFFF, 0x00000000, 0x00000000, 0x00000000, 0x00000000⟩,
  ⟨0xA820, 4, 4, 0x00000000, 0x00000000, 0x00000000, 0x00000000, 0x00000000, 0x00000000⟩,
  ⟨0xA830, 0, 1, 0x00000000, 0x00000000, 0x00000000, 0x00000000, 0x00000000, 0x00000000⟩,
  ⟨0xA834, 0, 1, 0x00000014, 0xFFFF00FF, 0x00000000, 0x00000000, 0x00000000, 0x00000000⟩,
  ⟨0xA838, 0, 1, 0x00002800, 0xFFFFFCF3, 0x00000000, 0x00000000, 0x00000000, 0x00000000⟩,
  ⟨0xA83C, 0, 1, 0x00001000, 0x00001FFF, 0x00000000, 0x00000000, 0x00000000, 0x00000000⟩,
  ⟨0xA840, 0, 1, 0x00000000, 0x00000000, 0x00000000, 0x00000000, 0x00000000, 0xFFFFFFFF⟩,
  ⟨0xA844, 0, 1, 0x00000000, 0x00000000, 0x00000000, 0x00000000, 0x00000000, 0x00000000⟩,
  ⟨0xA848, 0, 1, 0x00000000, 0x00000000, 0x00000000, 0x00000000, 0x00000000, 0x00000000⟩,
  ⟨0xA84C, 0, 1, 0x00000004, 0x00000000, 0x00000000, 0x00000020, 0x00000000, 0x00000000⟩,
  ⟨0xA850, 0, 1, 0xFFFFFFFF, 0x00000000, 0x00000000, 0x00000000, 0x00000000, 0x00000000⟩,
  ⟨0xA854, 0, 1, 0x00640000, 0xC3FFFFFF, 0x00000000, 0x00000000, 0x00000000, 0x00000000⟩,
  ⟨0xA858, 0, 1, 0x00640000, 0xC3FFFFFF, 0x00000000, 0x00000000, 0x00000000, 0x00000000⟩,
  ⟨0xA85C, 0, 1, 0x0000000A, 0x000000FF, 0x00000000, 0x00000000, 0x00000000, 0x00000000⟩,
  ⟨0xA860, 0, 1, 0x00000014, 0xCFFFFFFF, 0x00000000, 0x00000000, 0x00000000, 0x00000000⟩,
  ⟨0xA864, 0, 1, 0x00000000, 0x00000000, 0x00000000, 0x00000000, 0x00000004, 0x0000FF00⟩,
  ⟨0xA868, 0, 1, 0x00000000, 0x00000000, 0x00000000, 0x00000000, 0x00000000, 0x00000000⟩,
  ⟨0xA86C, 0, 1, 0x0000003C, 0x00000FFF, 0x00000000, 0x00000000, 0x00000000, 0x00000000⟩,
  ⟨0xA870, 0, 1, 0x00000000, 0x00000000, 0x00000000, 0x00000000, 0x00000000, 0x00000000⟩,
  ⟨0xA874, 0, 1, 0x00000000, 0x00000000, 0x00000000, 0x00000000, 0x00000000, 0x00000000⟩,
  ⟨0xA878, 0, 1, 0xFFFFFFFF, 0x00000000, 0x00000000, 0x00000000, 0x00000000, 0x00000000⟩,
  ⟨0xA880, 0, 1, 0x00000000, 0x00000000, 0x00000000, 0x00000000, 0x00000000, 0x00000000⟩,
  ⟨0xA888, 0, 1, 0x00000000, 0x00000000, 0x00000000, 0x00000000, 0x00000000, 0x00000000⟩,
  ⟨0xA884, 0, 1, 0x00000000, 0x00000000, 0x00000000, 0x00000000, 0x00000000, 0x00000000⟩,
  ⟨0xA88C, 0, 1, 0x00000000, 0x00000000, 0x00000000, 0x00000000, 0x00000000, 0x00000000⟩,
  ⟨0xA890, 0, 1, 0x00000000, 0x0000007F, 0x00000000, 0x00000000, 0x00000000, 0x00000000⟩,
  ⟨0xA894, 0, 1, 0x00000000, 0x00000000, 0x00000000, 0x00000000, 0x00000000, 0x00000000⟩,
  ⟨0xA898, 0, 1, 0x00000000, 0x00000000, 0x00000000, 0x00000000, 0x00000000, 0xFFFFFFFF⟩]

/-- The NET_ registers. -/
def rowsNET : List RegRow := [
  ⟨0xAC00, 4, 4, 0x00000006, 0x00000037, 0x00000000, 0x00000000, 0x00000000, 0x00000000⟩,
  ⟨0xAC10, 4, 6, 0x00000000, 0xFFFFFFFF, 0x00000000, 0x00000000, 0x00000000, 0x00000000⟩,
  ⟨0xAC30, 4, 6, 0x00000000, 0x00000000, 0x00000000, 0x00000000, 0x00000000, 0xFFFF0000⟩,
  ⟨0xAC50, 0, 1, 0xBDEC0501, 0xFFFFFF01, 0x00000000, 0x00000000, 0x00000000, 0x00000000⟩,
  ⟨0xAC54, 0, 1, 0xEFFF4C01, 0xFFFFFFFF, 0x00000000, 0x00000000, 0x00000000, 0x00000000⟩,
  ⟨0xAC58, 0, 1, 0x00000000, 0x00000000, 0x00000000, 0x00000000, 0x00000000, 0xFFFFFFFF⟩,
  ⟨0xAC5C, 0, 1, 0x00000000, 0x00000000, 0x00000000, 0x00000000, 0x00000000, 0xFFFFFFFF⟩,
  ⟨0xAC60, 8, 8, 0x00000000, 0xFFFFFFFF, 0x00000000, 0x00000000, 0x00000000, 0x00000000⟩,
  ⟨0xAC64, 8, 8, 0x00000000, 0x0000FFFF, 0x00000000, 0x00000000, 0x00000000, 0x00000000⟩,
  ⟨0xACA0, 0, 1, 0x00000000, 0x00000000, 0x00000000, 0x00000000, 0x00000000, 0xFFFFFFFF⟩]

/-- The CAN_ registers. -/
def rowsCAN : List RegRow := [
  ⟨0xC800, 256, 8, 0x00000039, 0x00001FFD, 0x00000000, 0x00000000, 0x00000000, 0x00000000⟩,
  ⟨0xC804, 256, 8, 0x1E3CF801, 0xFFFFFC1F, 0x00000000, 0x00000000, 0x00000000, 0x00000000⟩,
  ⟨0xC808, 256, 8, 0x33500C80, 0xFFF8FF9F, 0x00000000, 0x00000000, 0x00000000, 0x00000000⟩,
  ⟨0xC80C, 256, 8, 0x00000001, 0x00000000, 0x00000000, 0x0000000C, 0x00000000, 0x000000E0⟩,
  ⟨0xC810, 256, 8, 0x00000000, 0x00000000, 0x00000000, 0x00000000, 0x00000070, 0x00000000⟩,
  ⟨0xC814, 256, 8, 0x00000000, 0x00000000, 0x00000000, 0x80000000, 0x00000000, 0x00000000⟩,
  ⟨0xC818, 256, 8, 0x00000000, 0x00000000, 0x00000000, 0x80000000, 0x00000000, 0x00000000⟩,
  ⟨0xC81C, 256, 8, 0x00000000, 0x00000000, 0x0000007F, 0x00000000, 0x00000000, 0x00000000⟩,
  ⟨0xC820, 256, 8, 0x00000000, 0x00000000, 0x0000007F, 0x00000000, 0x00000000, 0x00000000⟩,
  ⟨0xC824, 256, 8, 0x00000000, 0x00000000, 0x00000000, 0x00000000, 0x00000000, 0x00000000⟩,
  ⟨0xC828, 256, 8, 0x00000000, 0x00000000, 0x00000000, 0x00000000, 0x00000000, 0xFFFFFFFF⟩,
  ⟨0xC82C, 256, 8, 0x00000000, 0x00000000, 0x00000000, 0x00000000, 0x00000000, 0x00000000⟩,
  ⟨0xC840, 256, 8, 0x00000000, 0x000003FF, 0x00030000, 0x80000000, 0x00000000, 0x00000000⟩,
  ⟨0xC844, 256, 8, 0x00000000, 0xFFFFFFFF, 0x00000000, 0x00000000, 0x00000000, 0x00000000⟩,
  ⟨0xC848, 256, 8, 0x00000000, 0xFFFFFFFF, 0x00000000, 0x00000000, 0x00000000, 0x00000000⟩,
  ⟨0xC84C, 256, 8, 0x00000000, 0xFFFFFFFF, 0x00000000, 0x00000000, 0x00000000, 0x00000000⟩,
  ⟨0xD000, 0, 1, 0x00000000, 0x00000000, 0x00000000, 0x00000000, 0x00000000, 0x00000000⟩,
  ⟨0xD004, 0, 1, 0x00000000, 0x00000000, 0x00000000, 0x00000000, 0x00000000, 0x00000000⟩,
  ⟨0xD008, 0, 1, 0x00000000, 0x00000000, 0x00000000, 0x00000000, 0x00000000, 0x00000000⟩,
  ⟨0xD00C, 0, 1, 0x00000000, 0x00000000, 0x00000000, 0x00000000, 0x00000000, 0x00000000⟩,
  ⟨0xD100, 16, 16, 0x0CB70000, 0xFFFF0EC0, 0x00000000, 0x00000000, 0x00000000, 0x00000000⟩,
  ⟨0xD104, 16, 16, 0x00000000, 0x00000000, 0x00000000, 0x00000002, 0x00000000, 0x00000000⟩,
  ⟨0xD108, 16, 16, 0x00000000, 0x00000000, 0x00000000, 0x00000000, 0x00000000, 0xFFFFFFFF⟩]

/-- The SDF_ registers. -/
def rowsSDF : List RegRow := [
  ⟨0xC000, 4, 4, 0x00000000, 0x0000000F, 0x00000000, 0x00000000, 0x00000000, 0x00000000⟩,
  ⟨0xC010, 0, 1, 0x00000000, 0x000707FF, 0x00000000, 0x80000000, 0x00180000, 0x00000000⟩,
  ⟨0xC014, 0, 1, 0x00000000, 0x00000000, 0xFFFFFFFF, 0x00000000, 0x00000000, 0x00000000⟩,
  ⟨0xC018, 0, 1, 0x00000000, 0x00000000, 0x00000000, 0x00000000, 0x00000000, 0x00000000⟩,
  ⟨0xC01C, 0, 1, 0x00000000, 0x00000000, 0x00000000, 0x00000000, 0x00000000, 0x00000000⟩,
  ⟨0xC100, 32, 32, 0x00018040, 0x8EFF83FF, 0x00000000, 0x00000000, 0x00000000, 0x00000000⟩,
  ⟨0xC104, 32, 32, 0x000A000A, 0xFFFF80FF, 0x00000000, 0x00000000, 0x00000000, 0x00000000⟩,
  ⟨0xC108, 32, 32, 0x00000000, 0x8003FFFF, 0x00000000, 0x00000000, 0x00000000, 0x00000000⟩,
  ⟨0xC10C, 32, 32, 0x00000000, 0x00000FFF, 0x00000000, 0x00000000, 0x00000000, 0x00000000⟩,
  ⟨0xC110, 32, 32, 0x7FFF0000, 0xFFFFFFFF, 0x00000000, 0x00000000, 0x00000000, 0x00000000⟩,
  ⟨0xC114, 32, 32, 0x80000000, 0xFFFFFFFF, 0x00000000, 0x00000000, 0x00000000, 0x00000000⟩,
  ⟨0xC118, 32, 32, 0x01010000, 0xFFFF001B, 0x00000000, 0x00000000, 0x00000000, 0x00000000⟩,
  ⟨0xC11C, 32, 32, 0x00000000, 0x00000000, 0x00000000, 0x0000000C, 0x00000000, 0x00000000⟩,
  ⟨0xC500, 4, 32, 0x00000000, 0x00000000, 0x00000000, 0x00000000, 0x00000000, 0x00000000⟩]

/-- The LOG_ registers. -/
def rowsLOG : List RegRow := [
  ⟨0xB000, 0, 1, 0x00000000, 0x00000000, 0x00000000, 0x00030008, 0x00000000, 0x00000000⟩,
  ⟨0xB004, 0, 1, 0x00000000, 0x00000000, 0x00000000, 0x00000000, 0x00000000, 0x00000000⟩,
  ⟨0xB008, 0, 1, 0x00000000, 0x00000000, 0x00000000, 0x00000000, 0x00000000, 0xFF000000⟩,
  ⟨0xB00C, 0, 1, 0x00000000, 0x0003FFFF, 0x00000000, 0x00000000, 0x00000000, 0x00000000⟩,
  ⟨0xB010, 4, 4, 0x00000000, 0x00000000, 0x00000000, 0x00000000, 0x00000000, 0x00000000⟩,
  ⟨0xB020, 16, 2, 0x00000000, 0x00000000, 0x00000000, 0x00000000, 0x00000000, 0x00000000⟩,
  ⟨0xB024, 16, 2, 0x00000000, 0x00000000, 0x00000000, 0x00000000, 0x00000000, 0x00000000⟩,
  ⟨0xB028, 16, 2, 0x00000000, 0x00000000, 0x00000000, 0x00000000, 0x00000000, 0xFFFF0000⟩,
  ⟨0xB02C, 16, 2, 0x00000000, 0x00000000, 0x00000000, 0x00000000, 0x00000000, 0xFFFFFFFF⟩]

/-- The HIF_ registers. -/
def rowsHIF : List RegRow := [
  ⟨0x0000, 0, 1, 0x91602100, 0x00000000, 0x00000000, 0x00000000, 0x00000000, 0x00000000⟩,
  ⟨0x0004, 0, 1, 0x00000000, 0x00000000, 0x00000000, 0x00000000, 0x00000000, 0x00000000⟩,
  ⟨0x0010, 0, 1, 0x00000000, 0x0000FFFF, 0x00000000, 0x00000000, 0x00000000, 0x00000000⟩,
  ⟨0x0014, 0, 1, 0x00000000, 0x00000000, 0x00000000, 0x00000000, 0x00000000, 0x00000000⟩,
  ⟨0x0018, 0, 1, 0x00000000, 0x00000000, 0x00000000, 0x00000000, 0x00000000, 0x00000000⟩,
  ⟨0x0020, 0, 1, 0x00000000, 0x00000000, 0x00000000, 0x00000000, 0x00000000, 0x00000000⟩,
  ⟨0x001C, 0, 1, 0x00000000, 0x0000FFFF, 0x00000000, 0x00000000, 0x00000000, 0x00000000⟩,
  ⟨0x0024, 0, 1, 0x00000000, 0x0000FFFF, 0x00000000, 0x00000000, 0x00000000, 0x00000000⟩,
  ⟨0x0028, 0, 1, 0x00000000, 0x00000000, 0x00000000, 0x00000000, 0x00000000, 0x00000000⟩,
  ⟨0x002C, 0, 1, 0x00000000, 0x00000000, 0x00000000, 0x00000000, 0x00000000, 0x00000000⟩,
  ⟨0x0030, 0, 1, 0x00000000, 0x00000000, 0x00000000, 0x00000000, 0x00000000, 0x00000000⟩,
  ⟨0x0034, 0, 1, 0x00000000, 0x00000000, 0x00000000, 0x00000000, 0x00000000, 0x00000000⟩,
  ⟨0x0040, 0, 1, 0x00000000, 0x00000000, 0x00000000, 0x0000000F, 0x00000000, 0x00000000⟩,
  ⟨0x0044, 0, 1, 0x00000000, 0x0000000F, 0x00000000, 0x00000000, 0x00000000, 0x00000000⟩,
  ⟨0x0048, 0, 1, 0x00000000, 0x00000000, 0x00000000, 0x0000007F, 0x00000000, 0x00000000⟩,
  ⟨0x004C, 0, 1, 0x00000000, 0x00000000, 0x00000000, 0x00000000, 0x00000000, 0xFFFFFFFF⟩]

/-- The PMU_ registers. -/
def rowsPMU : List RegRow := [
  ⟨0xB400, 0, 1, 0x00000004, 0x00000000, 0x00000000, 0x00000000, 0x00000000, 0x00000000⟩,
  ⟨0xB404, 0, 1, 0x00000000, 0x00000000, 0x00000000, 0x00000000, 0x00000000, 0x00000000⟩,
  ⟨0xB408, 0, 1, 0x00000000, 0x00000000, 0x00000000, 0x00000000, 0x00000001, 0x00000000⟩,
  ⟨0xB40C, 0, 1, 0x00000001, 0x00000003, 0x00000000, 0x00000000, 0x00000000, 0x00000000⟩,
  ⟨0xB410, 0, 1, 0x00000000, 0xFFFFFFFF, 0x00000000, 0x00000000, 0x00000000, 0x00000000⟩,
  ⟨0xB414, 0, 1, 0x00000000, 0x00000000, 0x00000000, 0x00000000, 0x00000000, 0x00000000⟩,
  ⟨0xB418, 0, 1, 0x00000000, 0x00000000, 0x00000000, 0x00000000, 0x00000000, 0x00000000⟩,
  ⟨0xB41C, 0, 1, 0x00000000, 0x00000000, 0x00000000, 0x00000000, 0x00000000, 0x000000FF⟩,
  ⟨0xB420, 0, 1, 0x00000000, 0x00000000, 0x00000000, 0x00000000, 0x00000000, 0xFF000000⟩,
  ⟨0xB424, 0, 1, 0x00000000, 0x00000007, 0x00000000, 0x00000000, 0x00000000, 0x00000000⟩,
  ⟨0xB428, 0, 1, 0xFFFF0000, 0x00000000, 0x00000000, 0x00000000, 0x00000000, 0xFFFF0000⟩,
  ⟨0xB42C, 0, 1, 0x00000000, 0x00000000, 0x00000000, 0x00000020, 0x00000000, 0x00000000⟩,
  ⟨0xB430, 0, 1, 0x00000000, 0x00000000, 0x00000000, 0x00000000, 0x00000000, 0x00000000⟩,
  ⟨0xB434, 0, 1, 0x0000000D, 0x0000000F, 0x00000000, 0x00000000, 0x00000000, 0x00000000⟩,
  ⟨0xB438, 0, 1, 0x00000000, 0x00000000, 0x00000000, 0x00000000, 0x00000000, 0xFFFFFFFF⟩]

/-- The DIA_ registers. -/
def rowsDIA : List RegRow := [
  ⟨0xB800, 0, 1, 0x2580000F, 0xFFF0001F, 0x00000000, 0x00000000, 0x00000000, 0x00000000⟩,
  ⟨0xB804, 0, 1, 0x00000000, 0x00000000, 0x00000000, 0x00000000, 0x00000000, 0xFF000000⟩,
  ⟨0xB808, 0, 1, 0x00000000, 0xFFFFFFFF, 0x00000000, 0x00000000, 0x00000000, 0x00000000⟩,
  ⟨0xB80C, 0, 1, 0x00000000, 0x00000000, 0x00000000, 0x00000000, 0x00000000, 0x00000000⟩,
  ⟨0xB810, 0, 1, 0x00000000, 0x00000000, 0x00000000, 0x00000000, 0x00000000, 0x00000000⟩,
  ⟨0xB814, 0, 1, 0x00000000, 0x00000000, 0x00000000, 0x00000000, 0x00000000, 0x00000000⟩,
  ⟨0xB818, 0, 1, 0x00000000, 0x00000000, 0x00000000, 0x00000100, 0x00000000, 0x00000000⟩,
  ⟨0xB81C, 0, 1, 0x00000000, 0x00000000, 0x00000000, 0x00000000, 0x00000000, 0x00000000⟩,
  ⟨0xB820, 0, 1, 0x00000000, 0x00000000, 0x00000000, 0x00000000, 0x00000000, 0x00000000⟩,
  ⟨0xB824, 0, 1, 0x00000000, 0x00000000, 0x00000000, 0x00000000, 0x00000000, 0xFFFFFFFF⟩,
  ⟨0xB828, 0, 1, 0x00000000, 0xFFFFFFFF, 0x00000000, 0x00000000, 0x00000000, 0x00000000⟩,
  ⟨0xB82C, 0, 1, 0x0000BDF4, 0x0000FFFF, 0x00000000, 0x00000000, 0x00000000, 0x00000000⟩,
  ⟨0xB830, 0, 1, 0x00000000, 0x00000000, 0x00000000, 0x00000000, 0x00000000, 0x00000000⟩,
  ⟨0xB834, 0, 1, 0x00000000, 0x00000000, 0x00000000, 0x00000000, 0x00000000, 0x00000000⟩,
  ⟨0xB838, 0, 1, 0x00000000, 0x00000000, 0x00000000, 0x00000000, 0x00000000, 0xFFFFFFFF⟩,
  ⟨0xB840, 0, 1, 0x00000000, 0x00000000, 0x00000000, 0x00000000, 0x00000000, 0x00000000⟩,
  ⟨0xB844, 0, 1, 0x00000000, 0x00000000, 0x00000000, 0x00000000, 0x00000000, 0x00000000⟩,
  ⟨0xB848, 0, 1, 0x00000000, 0x00000000, 0x00000000, 0x00000000, 0x00000000, 0x00000000⟩,
  ⟨0xB84C, 0, 1, 0x00000000, 0x00000000, 0x00000000, 0x00000000, 0x00000000, 0x00000000⟩,
  ⟨0xB850, 0, 1, 0x00000000, 0x000700FF, 0x00000000, 0x00000000, 0x00000000, 0x00000000⟩,
  ⟨0xB854, 0, 1, 0x00000000, 0x00000000, 0x00000000, 0x00000000, 0x00000000, 0x00000000⟩,
  ⟨0xB860, 4, 6, 0x00000000, 0xFFFF00FF, 0x00000000, 0x00000000, 0x00000000, 0x00000000⟩]

/-- The PNL_ registers. -/
def rowsPNL : List RegRow := [
  ⟨0xBC00, 0, 1, 0x00000140, 0x00000000, 0x00000000, 0x00000080, 0x00000000, 0x00000000⟩,
  ⟨0xBC04, 0, 1, 0x00000000, 0x00000000, 0x00000000, 0x00000000, 0x00000000, 0x00000000⟩,
  ⟨0xBC08, 0, 1, 0x00000000, 0x00000000, 0x00000000, 0x00000000, 0x00000000, 0x00000000⟩,
  ⟨0xBC0C, 0, 1, 0x00000000, 0x00000000, 0x00000000, 0x00000000, 0x00000000, 0x00000000⟩,
  ⟨0xBC10, 0, 1, 0x00000000, 0x00000000, 0x00000000, 0x00000000, 0x00000000, 0x00000000⟩,
  ⟨0xBC14, 0, 1, 0x00000000, 0x00000000, 0x00000000, 0x00000000, 0x00000000, 0x00000000⟩,
  ⟨0xBC18, 0, 1, 0x00000000, 0x00000000, 0x00000000, 0x00000000, 0x00000000, 0xFFFFFFFF⟩,
  ⟨0xBC1C, 0, 1, 0x00000000, 0x00000000, 0x00000000, 0x00000000, 0x00000000, 0x0000FFFF⟩,
  ⟨0xBC20, 0, 1, 0x000003BE, 0x800707FF, 0x00000000, 0x00000000, 0x00000000, 0x00000000⟩,
  ⟨0xBC24, 0, 1, 0x00000000, 0x8003FFFF, 0x00000000, 0x00000000, 0x00000000, 0x00000000⟩,
  ⟨0xBC28, 4, 4, 0x00000000, 0xFFFFFFFF, 0x00000000, 0x00000000, 0x00000000, 0x00000000⟩,
  ⟨0xBC38, 0, 1, 0x00000032, 0x8000FFFF, 0x00000000, 0x00000000, 0x00000000, 0x00000000⟩,
  ⟨0xBC40, 0, 1, 0x00000000, 0x000001FF, 0x00000000, 0x00000000, 0x00000000, 0x00000000⟩,
  ⟨0xBC44, 0, 1, 0x0000FF04, 0x00000000, 0x00000000, 0x00000000, 0x00000000, 0x00000000⟩]

/-! Fields of the TIM_ registers. -/

/-- TIM_NOW_LO (R53). -/
def aTIM_NOW_LO : Nat := 0x9000
def TIM_NOW_LO.NOW_LO : Fld := ⟨0x9000, 0, 32, 0⟩
/-- TIM_NOW_HI (R53). -/
def aTIM_NOW_HI : Nat := 0x9004
def TIM_NOW_HI.NOW_HI : Fld := ⟨0x9004, 0, 32, 0⟩
/-- TIM_INC_FRAC (R53). -/
def aTIM_INC_FRAC : Nat := 0x9008
def TIM_INC_FRAC.FRAC : Fld := ⟨0x9008, 0, 32, 0⟩
/-- TIM_INC_INT (R53). -/
def aTIM_INC_INT : Nat := 0x900C
def TIM_INC_INT.CLAMPED : Fld := ⟨0x900C, 8, 1, 0⟩
def TIM_INC_INT.INT : Fld := ⟨0x900C, 0, 8, 0⟩
/-- TIM_FRAME_CFG (R53). -/
def aTIM_FRAME_CFG : Nat := 0x9010
def TIM_FRAME_CFG.RETRO_H : Fld := ⟨0x9010, 16, 4, 0⟩
def TIM_FRAME_CFG.CUTOFF : Fld := ⟨0x9010, 8, 5, 0⟩
def TIM_FRAME_CFG.PERIOD : Fld := ⟨0x9010, 0, 2, 0⟩
/-- TIM_FRAME_NUM (R53). -/
def aTIM_FRAME_NUM : Nat := 0x9014
def TIM_FRAME_NUM.FRAME : Fld := ⟨0x9014, 0, 32, 0⟩
/-- TIM_SLEW (R53). -/
def aTIM_SLEW : Nat := 0x9018
def TIM_SLEW.SLEWING : Fld := ⟨0x9018, 31, 1, 0⟩
def TIM_SLEW.SLEW_MAX : Fld := ⟨0x9018, 0, 19, 0⟩
/-- TIM_SLEW_REM (R53). -/
def aTIM_SLEW_REM : Nat := 0x901C
def TIM_SLEW_REM.REM : Fld := ⟨0x901C, 0, 32, 0⟩
/-- TIM_STATUS (R53). -/
def aTIM_STATUS : Nat := 0x9020
def TIM_STATUS.TIME_UNSET : Fld := ⟨0x9020, 8, 1, 0⟩
def TIM_STATUS.STEPPED : Fld := ⟨0x9020, 7, 1, 0⟩
def TIM_STATUS.SLEWING : Fld := ⟨0x9020, 6, 1, 0⟩
def TIM_STATUS.TIME_CONFLICT : Fld := ⟨0x9020, 5, 1, 0⟩
def TIM_STATUS.RETRO_ABORT : Fld := ⟨0x9020, 4, 1, 0⟩
def TIM_STATUS.DISPATCH_LATE : Fld := ⟨0x9020, 3, 1, 0⟩
def TIM_STATUS.XCHK_LATE : Fld := ⟨0x9020, 2, 1, 0⟩
def TIM_STATUS.OBS_LATE : Fld := ⟨0x9020, 1, 1, 0⟩
def TIM_STATUS.FUSION_LATE : Fld := ⟨0x9020, 0, 1, 0⟩
/-- TIM_STEP_LOG (R53). -/
def aTIM_STEP_LOG : Nat := 0x9024
def TIM_STEP_LOG.SKIPPED : Fld := ⟨0x9024, 0, 32, 0⟩
/-- TIM_SUP_CFG (R53). -/
def aTIM_SUP_CFG : Nat := 0x9028
def TIM_SUP_CFG.MARGIN : Fld := ⟨0x9028, 16, 12, 0⟩
def TIM_SUP_CFG.GUARD : Fld := ⟨0x9028, 0, 12, 0⟩
/-- TIM_CNT_SPEC (R53). -/
def aTIM_CNT_SPEC : Nat := 0x902C
def TIM_CNT_SPEC.DISCARD : Fld := ⟨0x902C, 16, 16, 0⟩
def TIM_CNT_SPEC.KEEP : Fld := ⟨0x902C, 0, 16, 0⟩
/-- TIM_CNT_RETRO (R53). -/
def aTIM_CNT_RETRO : Nat := 0x9030
def TIM_CNT_RETRO.MISS : Fld := ⟨0x9030, 24, 8, 0⟩
def TIM_CNT_RETRO.ABORT : Fld := ⟨0x9030, 16, 8, 0⟩
def TIM_CNT_RETRO.APPLIED : Fld := ⟨0x9030, 0, 16, 0⟩
/-- TIM_PTP_CFG (R298). -/
def aTIM_PTP_CFG : Nat := 0x9040
def TIM_PTP_CFG.PORTS : Fld := ⟨0x9040, 16, 4, 0⟩
def TIM_PTP_CFG.TRANSPORT : Fld := ⟨0x9040, 8, 1, 0⟩
def TIM_PTP_CFG.DELAY : Fld := ⟨0x9040, 4, 1, 0⟩
def TIM_PTP_CFG.BC : Fld := ⟨0x9040, 0, 1, 0⟩
/-- TIM_DOM_CFG (R298). -/
def aTIM_DOM_CFG : Nat := 0x9044
def TIM_DOM_CFG.SEC_DOMAIN : Fld := ⟨0x9044, 24, 8, 0⟩
def TIM_DOM_CFG.PRI_DOMAIN : Fld := ⟨0x9044, 16, 8, 0⟩
def TIM_DOM_CFG.CLASS_MAX : Fld := ⟨0x9044, 8, 8, 0⟩
def TIM_DOM_CFG.REVERT : Fld := ⟨0x9044, 1, 1, 0⟩
def TIM_DOM_CFG.SEC_EN : Fld := ⟨0x9044, 0, 1, 0⟩
/-- TIM_SRV_CFG (R298). -/
def aTIM_SRV_CFG : Nat := 0x9048
def TIM_SRV_CFG.LOCK_THR : Fld := ⟨0x9048, 16, 8, 0⟩
def TIM_SRV_CFG.KF_SHIFT : Fld := ⟨0x9048, 8, 4, 0⟩
def TIM_SRV_CFG.SW_SLEW : Fld := ⟨0x9048, 0, 8, 0⟩
/-- TIM_SRV_CFG2 (R298). -/
def aTIM_SRV_CFG2 : Nat := 0x904C
def TIM_SRV_CFG2.REVERT_T : Fld := ⟨0x904C, 16, 16, 0⟩
def TIM_SRV_CFG2.TRANS_T : Fld := ⟨0x904C, 8, 8, 0⟩
def TIM_SRV_CFG2.PD_GATE : Fld := ⟨0x904C, 0, 8, 0⟩
/-- TIM_SRV_STAT (R298). -/
def aTIM_SRV_STAT : Nat := 0x9050
def TIM_SRV_STAT.CLASS_SEC : Fld := ⟨0x9050, 24, 8, 0⟩
def TIM_SRV_STAT.CLASS_PRI : Fld := ⟨0x9050, 16, 8, 0⟩
def TIM_SRV_STAT.ST_SEC : Fld := ⟨0x9050, 10, 2, 0⟩
def TIM_SRV_STAT.ST_PRI : Fld := ⟨0x9050, 8, 2, 0⟩
def TIM_SRV_STAT.SEL : Fld := ⟨0x9050, 4, 1, 0⟩
def TIM_SRV_STAT.SERVO : Fld := ⟨0x9050, 0, 3, 0⟩
/-- TIM_OFS_PRI (R298). -/
def aTIM_OFS_PRI : Nat := 0x9054
def TIM_OFS_PRI.O : Fld := ⟨0x9054, 0, 32, 0⟩
/-- TIM_OFS_SEC (R298). -/
def aTIM_OFS_SEC : Nat := 0x9058
def TIM_OFS_SEC.O : Fld := ⟨0x9058, 0, 32, 0⟩
/-- TIM_MPD_PRI (R298). -/
def aTIM_MPD_PRI : Nat := 0x905C
def TIM_MPD_PRI.MPD : Fld := ⟨0x905C, 0, 32, 0⟩
/-- TIM_MPD_SEC (R298). -/
def aTIM_MPD_SEC : Nat := 0x9060
def TIM_MPD_SEC.MPD : Fld := ⟨0x9060, 0, 32, 0⟩
/-- TIM_FREQ (R298). -/
def aTIM_FREQ : Nat := 0x9064
def TIM_FREQ.Y : Fld := ⟨0x9064, 0, 32, 0⟩
/-- TIM_SRV_CNT (R298). -/
def aTIM_SRV_CNT : Nat := 0x9068
def TIM_SRV_CNT.SWITCH : Fld := ⟨0x9068, 24, 8, 0⟩
def TIM_SRV_CNT.HOLDOVER : Fld := ⟨0x9068, 16, 8, 0⟩
def TIM_SRV_CNT.GATED : Fld := ⟨0x9068, 0, 16, 0⟩

/-! Fields of the SCX_ registers. -/

/-- SCX_CFG (R54). -/
def aSCX_CFG : Nat := 0xE000
def SCX_CFG.GROUP : Fld := ⟨0xE000, 16, 5, 32⟩
def SCX_CFG.CWIDTH : Fld := ⟨0xE000, 4, 2, 32⟩
def SCX_CFG.HERMITE : Fld := ⟨0xE000, 3, 1, 32⟩
def SCX_CFG.MODE : Fld := ⟨0xE000, 1, 2, 32⟩
def SCX_CFG.EN : Fld := ⟨0xE000, 0, 1, 32⟩
/-- SCX_PERIOD (R54). -/
def aSCX_PERIOD : Nat := 0xE004
def SCX_PERIOD.TP : Fld := ⟨0xE004, 0, 24, 32⟩
/-- SCX_TICK (R54). -/
def aSCX_TICK : Nat := 0xE008
def SCX_TICK.TICK : Fld := ⟨0xE008, 0, 32, 32⟩
/-- SCX_LIM (R54). -/
def aSCX_LIM : Nat := 0xE00C
def SCX_LIM.EXTRAP : Fld := ⟨0xE00C, 16, 8, 32⟩
def SCX_LIM.LAT_NOM : Fld := ⟨0xE00C, 0, 16, 32⟩
/-- SCX_STAT (R54). -/
def aSCX_STAT : Nat := 0xE010
def SCX_STAT.LATE : Fld := ⟨0xE010, 24, 8, 32⟩
def SCX_STAT.DUP : Fld := ⟨0xE010, 16, 8, 32⟩
def SCX_STAT.N_OK : Fld := ⟨0xE010, 8, 8, 32⟩
def SCX_STAT.QSTATE : Fld := ⟨0xE010, 0, 3, 32⟩
/-- SCX_MAP_DRIFT (R54). -/
def aSCX_MAP_DRIFT : Nat := 0xE014
def SCX_MAP_DRIFT.DRIFT : Fld := ⟨0xE014, 0, 32, 32⟩
/-- SCX_MAP_UNC (R54). -/
def aSCX_MAP_UNC : Nat := 0xE018
def SCX_MAP_UNC.UNC : Fld := ⟨0xE018, 0, 32, 32⟩
/-- SCX_MAP_RES (R54). -/
def aSCX_MAP_RES : Nat := 0xE01C
def SCX_MAP_RES.RES : Fld := ⟨0xE01C, 0, 32, 32⟩

/-! Fields of the FUS_ registers. -/

/-- FUS_CFG (R93). -/
def aFUS_CFG : Nat := 0x9400
def FUS_CFG.MODE_RATIO : Fld := ⟨0x9400, 24, 8, 0⟩
def FUS_CFG.MODE_WIN : Fld := ⟨0x9400, 16, 4, 0⟩
def FUS_CFG.K_MAX : Fld := ⟨0x9400, 8, 3, 0⟩
def FUS_CFG.K_MIN : Fld := ⟨0x9400, 4, 3, 0⟩
def FUS_CFG.AUTO_READMIT : Fld := ⟨0x9400, 0, 1, 0⟩
/-- FUS_GATE (R93). -/
def aFUS_GATE : Nat := 0x9404
def FUS_GATE.GATE : Fld := ⟨0x9404, 24, 8, 0⟩
def FUS_GATE.GATE_HDG : Fld := ⟨0x9404, 16, 8, 0⟩
def FUS_GATE.FLOOR : Fld := ⟨0x9404, 0, 16, 0⟩
/-- FUS_SUPPORT (R93). -/
def aFUS_SUPPORT : Nat := 0x9408
def FUS_SUPPORT.HFLOOR : Fld := ⟨0x9408, 16, 16, 0⟩
def FUS_SUPPORT.SUPPORT_MIN : Fld := ⟨0x9408, 0, 8, 0⟩
/-- FUS_PERSIST (R93). -/
def aFUS_PERSIST : Nat := 0x940C
def FUS_PERSIST.READMIT_N : Fld := ⟨0x940C, 16, 8, 0⟩
def FUS_PERSIST.DIS_PERSIST : Fld := ⟨0x940C, 0, 8, 0⟩
/-- FUS_DR (R93). -/
def aFUS_DR : Nat := 0x9410
def FUS_DR.DR_SIGMA : Fld := ⟨0x9410, 16, 16, 0⟩
def FUS_DR.DR_LIMIT : Fld := ⟨0x9410, 0, 12, 0⟩
/-- FUS_STATUS (R93). -/
def aFUS_STATUS : Nat := 0x9414
def FUS_STATUS.POSITION_UNCERTAIN : Fld := ⟨0x9414, 15, 1, 0⟩
def FUS_STATUS.REF_CONFLICT : Fld := ⟨0x9414, 14, 1, 0⟩
def FUS_STATUS.HDG_CONFLICT : Fld := ⟨0x9414, 13, 1, 0⟩
def FUS_STATUS.DR : Fld := ⟨0x9414, 12, 1, 0⟩
def FUS_STATUS.HDG_DR : Fld := ⟨0x9414, 11, 1, 0⟩
def FUS_STATUS.K : Fld := ⟨0x9414, 8, 3, 0⟩
def FUS_STATUS.IMAGE_FAULT : Fld := ⟨0x9414, 7, 1, 0⟩
def FUS_STATUS.TILT_UNCOMP : Fld := ⟨0x9414, 6, 1, 0⟩
def FUS_STATUS.ORIGIN_FAR : Fld := ⟨0x9414, 5, 1, 0⟩
def FUS_STATUS.OFFGRID : Fld := ⟨0x9414, 4, 1, 0⟩
def FUS_STATUS.FLAT_PEAK : Fld := ⟨0x9414, 3, 1, 0⟩
def FUS_STATUS.EDGE_PEAK : Fld := ⟨0x9414, 2, 1, 0⟩
def FUS_STATUS.ENC_SAT : Fld := ⟨0x9414, 1, 1, 0⟩
def FUS_STATUS.REFINE_STEP : Fld := ⟨0x9414, 0, 1, 0⟩
/-- FUS_REFMAP (R93). -/
def aFUS_REFMAP : Nat := 0x9418
def FUS_REFMAP.DISAGREE : Fld := ⟨0x9418, 16, 16, 0⟩
def FUS_REFMAP.CONTRIB : Fld := ⟨0x9418, 0, 16, 0⟩
/-- FUS_REJECT (R93). -/
def aFUS_REJECT : Nat := 0x941C
def FUS_REJECT.FROZEN : Fld := ⟨0x941C, 16, 16, 0⟩
def FUS_REJECT.REJECTED : Fld := ⟨0x941C, 0, 16, 0⟩
/-- FUS_CENTRE_N (R93). -/
def aFUS_CENTRE_N : Nat := 0x9420
def FUS_CENTRE_N.CN : Fld := ⟨0x9420, 0, 32, 0⟩
/-- FUS_CENTRE_E (R93). -/
def aFUS_CENTRE_E : Nat := 0x9424
def FUS_CENTRE_E.CE : Fld := ⟨0x9424, 0, 32, 0⟩
/-- FUS_REC (R93). -/
def aFUS_REC : Nat := 0x9428
def FUS_REC.IDX : Fld := ⟨0x9428, 0, 6, 0⟩
/-- FUS_REC_BASE (R93). -/
def aFUS_REC_BASE : Nat := 0x942C
def FUS_REC_BASE.BASE : Fld := ⟨0x942C, 0, 32, 0⟩
/-- FUS_CNT (R93). -/
def aFUS_CNT : Nat := 0x9430
def FUS_CNT.NOFIX : Fld := ⟨0x9430, 16, 16, 0⟩
def FUS_CNT.CONFLICT : Fld := ⟨0x9430, 0, 16, 0⟩
/-- FUS_DRTIME (R93). -/
def aFUS_DRTIME : Nat := 0x9434
def FUS_DRTIME.DRT : Fld := ⟨0x9434, 0, 32, 0⟩
/-- FUS_REF_STAT (R93). -/
def aFUS_REF_STAT : Nat := 0x9440
def FUS_REF_STAT.DIS_CNT : Fld := ⟨0x9440, 24, 8, 4⟩
def FUS_REF_STAT.AGREE_CNT : Fld := ⟨0x9440, 16, 8, 4⟩
def FUS_REF_STAT.IMAGE : Fld := ⟨0x9440, 12, 4, 4⟩
def FUS_REF_STAT.FE : Fld := ⟨0x9440, 9, 1, 4⟩
def FUS_REF_STAT.STATE : Fld := ⟨0x9440, 0, 4, 4⟩
/-- FUS_ALN_SEL (R93). -/
def aFUS_ALN_SEL : Nat := 0x9480
def FUS_ALN_SEL.REF : Fld := ⟨0x9480, 0, 4, 0⟩
/-- FUS_ALN_DX (R93). -/
def aFUS_ALN_DX : Nat := 0x9484
def FUS_ALN_DX.D : Fld := ⟨0x9484, 0, 32, 0⟩
/-- FUS_ALN_DY (R93). -/
def aFUS_ALN_DY : Nat := 0x9488
def FUS_ALN_DY.D : Fld := ⟨0x9488, 0, 32, 0⟩
/-- FUS_ALN_DZ (R93). -/
def aFUS_ALN_DZ : Nat := 0x948C
def FUS_ALN_DZ.D : Fld := ⟨0x948C, 0, 32, 0⟩
/-- FUS_ALN_ROLL (R93). -/
def aFUS_ALN_ROLL : Nat := 0x9490
def FUS_ALN_ROLL.D : Fld := ⟨0x9490, 0, 32, 0⟩
/-- FUS_ALN_PITCH (R93). -/
def aFUS_ALN_PITCH : Nat := 0x9494
def FUS_ALN_PITCH.D : Fld := ⟨0x9494, 0, 32, 0⟩
/-- FUS_ALN_YAW (R93). -/
def aFUS_ALN_YAW : Nat := 0x9498
def FUS_ALN_YAW.D : Fld := ⟨0x9498, 0, 32, 0⟩

/-! Fields of the CEX_ registers. -/

/-- CEX_ASSIGN (R132). -/
def aCEX_ASSIGN : Nat := 0x9800
def CEX_ASSIGN.DEGRADED : Fld := ⟨0x9800, 24, 1, 0⟩
def CEX_ASSIGN.RETIRED : Fld := ⟨0x9800, 16, 4, 0⟩
def CEX_ASSIGN.SPARE_VALID : Fld := ⟨0x9800, 14, 1, 0⟩
def CEX_ASSIGN.SPARE : Fld := ⟨0x9800, 12, 2, 0⟩
def CEX_ASSIGN.PROF : Fld := ⟨0x9800, 8, 2, 0⟩
def CEX_ASSIGN.LAW : Fld := ⟨0x9800, 4, 2, 0⟩
def CEX_ASSIGN.OBS : Fld := ⟨0x9800, 0, 2, 0⟩
/-- CEX_FUNC (R132). -/
def aCEX_FUNC : Nat := 0x9804
def CEX_FUNC.LEG : Fld := ⟨0x9804, 8, 6, 0⟩
def CEX_FUNC.AUTOHDG : Fld := ⟨0x9804, 4, 1, 0⟩
def CEX_FUNC.FUNC : Fld := ⟨0x9804, 0, 3, 0⟩
/-- CEX_STATUS (R132). -/
def aCEX_STATUS : Nat := 0x9808
def CEX_STATUS.LAW : Fld := ⟨0x9808, 15, 1, 0⟩
def CEX_STATUS.LAW_FADE : Fld := ⟨0x9808, 14, 1, 0⟩
def CEX_STATUS.DEGR_GAINS : Fld := ⟨0x9808, 13, 1, 0⟩
def CEX_STATUS.JOY_LOST : Fld := ⟨0x9808, 12, 1, 0⟩
def CEX_STATUS.TURN_REDUCED : Fld := ⟨0x9808, 7, 1, 0⟩
def CEX_STATUS.WIND_LOST : Fld := ⟨0x9808, 6, 1, 0⟩
def CEX_STATUS.INT_HOLD : Fld := ⟨0x9808, 5, 1, 0⟩
def CEX_STATUS.ENG_MOVED : Fld := ⟨0x9808, 4, 1, 0⟩
def CEX_STATUS.MPC_STALE : Fld := ⟨0x9808, 3, 1, 0⟩
def CEX_STATUS.PROF_LATE : Fld := ⟨0x9808, 2, 1, 0⟩
def CEX_STATUS.CTRL_LATE : Fld := ⟨0x9808, 1, 1, 0⟩
/-- CEX_REGION (R132). -/
def aCEX_REGION : Nat := 0x980C
def CEX_REGION.FADE_N : Fld := ⟨0x980C, 8, 8, 0⟩
def CEX_REGION.FROM : Fld := ⟨0x980C, 4, 4, 0⟩
def CEX_REGION.CUR : Fld := ⟨0x980C, 0, 4, 0⟩
/-- CEX_CFG (R132). -/
def aCEX_CFG : Nat := 0x9810
def CEX_CFG.XFADE : Fld := ⟨0x9810, 24, 8, 0⟩
def CEX_CFG.RATE_EXP : Fld := ⟨0x9810, 16, 4, 0⟩
def CEX_CFG.VEL_EXP : Fld := ⟨0x9810, 8, 5, 0⟩
def CEX_CFG.POS_EXP : Fld := ⟨0x9810, 0, 5, 0⟩
/-- CEX_FS_X (R132). -/
def aCEX_FS_X : Nat := 0x9814
def CEX_FS_X.FS : Fld := ⟨0x9814, 0, 32, 0⟩
/-- CEX_FS_Y (R132). -/
def aCEX_FS_Y : Nat := 0x9818
def CEX_FS_Y.FS : Fld := ⟨0x9818, 0, 32, 0⟩
/-- CEX_FS_N (R132). -/
def aCEX_FS_N : Nat := 0x981C
def CEX_FS_N.FS : Fld := ⟨0x981C, 0, 32, 0⟩
/-- CEX_SAT (R132). -/
def aCEX_SAT : Nat := 0x9820
def CEX_SAT.SAT : Fld := ⟨0x9820, 0, 13, 4⟩
/-- CEX_DEMAND_X (R132). -/
def aCEX_DEMAND_X : Nat := 0x9830
def CEX_DEMAND_X.TAU : Fld := ⟨0x9830, 0, 32, 0⟩
/-- CEX_DEMAND_Y (R132). -/
def aCEX_DEMAND_Y : Nat := 0x9834
def CEX_DEMAND_Y.TAU : Fld := ⟨0x9834, 0, 32, 0⟩
/-- CEX_DEMAND_N (R132). -/
def aCEX_DEMAND_N : Nat := 0x9838
def CEX_DEMAND_N.TAU : Fld := ⟨0x9838, 0, 32, 0⟩
/-- CEX_REC (R132). -/
def aCEX_REC : Nat := 0x983C
def CEX_REC.IDX : Fld := ⟨0x983C, 0, 6, 0⟩
/-- CEX_REC_BASE (R132). -/
def aCEX_REC_BASE : Nat := 0x9840
def CEX_REC_BASE.BASE : Fld := ⟨0x9840, 0, 32, 0⟩
/-- CEX_CNT (R132). -/
def aCEX_CNT : Nat := 0x9844
def CEX_CNT.REGION_CHG : Fld := ⟨0x9844, 16, 16, 0⟩
def CEX_CNT.LATE : Fld := ⟨0x9844, 0, 16, 0⟩

/-! Fields of the SLV_ registers. -/

/-- SLV_CFG (R171). -/
def aSLV_CFG : Nat := 0x9C00
def SLV_CFG.ITER_MPC : Fld := ⟨0x9C00, 24, 6, 0⟩
def SLV_CFG.ITER_ALLOC : Fld := ⟨0x9C00, 16, 6, 0⟩
def SLV_CFG.MPC_M : Fld := ⟨0x9C00, 11, 5, 0⟩
def SLV_CFG.REFINE_PIV : Fld := ⟨0x9C00, 8, 3, 0⟩
def SLV_CFG.REFINE_N : Fld := ⟨0x9C00, 4, 3, 0⟩
def SLV_CFG.ALLOC_STYLE : Fld := ⟨0x9C00, 0, 1, 0⟩
/-- SLV_SCEN (R171). -/
def aSLV_SCEN : Nat := 0x9C04
def SLV_SCEN.DEGEN : Fld := ⟨0x9C04, 16, 16, 0⟩
def SLV_SCEN.EN : Fld := ⟨0x9C04, 1, 15, 0⟩
def SLV_SCEN.S0 : Fld := ⟨0x9C04, 0, 1, 0⟩
/-- SLV_STATUS (R171). -/
def aSLV_STATUS : Nat := 0x9C08
def SLV_STATUS.SE_RETIRED : Fld := ⟨0x9C08, 24, 2, 0⟩
def SLV_STATUS.CAP_LOW : Fld := ⟨0x9C08, 16, 1, 0⟩
def SLV_STATUS.SCHED_FAULT : Fld := ⟨0x9C08, 9, 1, 0⟩
def SLV_STATUS.PROMO_MISS : Fld := ⟨0x9C08, 8, 1, 0⟩
def SLV_STATUS.PROMOTED : Fld := ⟨0x9C08, 7, 1, 0⟩
def SLV_STATUS.POWER_STALE : Fld := ⟨0x9C08, 6, 1, 0⟩
def SLV_STATUS.POWER_SHORT : Fld := ⟨0x9C08, 5, 1, 0⟩
def SLV_STATUS.NOT_RUN : Fld := ⟨0x9C08, 4, 1, 0⟩
def SLV_STATUS.FALLBACK : Fld := ⟨0x9C08, 3, 1, 0⟩
def SLV_STATUS.DEADLINE : Fld := ⟨0x9C08, 2, 1, 0⟩
def SLV_STATUS.OVF : Fld := ⟨0x9C08, 1, 1, 0⟩
def SLV_STATUS.PIVOT_PERTURBED : Fld := ⟨0x9C08, 0, 1, 0⟩
/-- SLV_AVAIL (R171). -/
def aSLV_AVAIL : Nat := 0x9C0C
def SLV_AVAIL.THR : Fld := ⟨0x9C0C, 0, 32, 0⟩
/-- SLV_SECT (R171). -/
def aSLV_SECT : Nat := 0x9C10
def SLV_SECT.STALE : Fld := ⟨0x9C10, 16, 16, 0⟩
def SLV_SECT.AVAIL : Fld := ⟨0x9C10, 0, 16, 0⟩
/-- SLV_MPC (R171). -/
def aSLV_MPC : Nat := 0x9C14
def SLV_MPC.SCEN_SLOT : Fld := ⟨0x9C14, 28, 4, 0⟩
def SLV_MPC.SCEN_STATUS : Fld := ⟨0x9C14, 24, 4, 0⟩
def SLV_MPC.STATUS : Fld := ⟨0x9C14, 16, 4, 0⟩
def SLV_MPC.ITER : Fld := ⟨0x9C14, 8, 6, 0⟩
def SLV_MPC.SPEC : Fld := ⟨0x9C14, 1, 1, 0⟩
def SLV_MPC.RUNNING : Fld := ⟨0x9C14, 0, 1, 0⟩
/-- SLV_MPC_K0 (R171). -/
def aSLV_MPC_K0 : Nat := 0x9C18
def SLV_MPC_K0.K0 : Fld := ⟨0x9C18, 0, 32, 0⟩
/-- SLV_PROMO (R171). -/
def aSLV_PROMO : Nat := 0x9C1C
def SLV_PROMO.FRAME : Fld := ⟨0x9C1C, 8, 24, 0⟩
def SLV_PROMO.SUPERSEDE : Fld := ⟨0x9C1C, 4, 1, 0⟩
def SLV_PROMO.SLOT : Fld := ⟨0x9C1C, 0, 4, 0⟩
/-- SLV_CNT (R171). -/
def aSLV_CNT : Nat := 0x9C20
def SLV_CNT.DEADLINE : Fld := ⟨0x9C20, 16, 16, 0⟩
def SLV_CNT.PIVOT : Fld := ⟨0x9C20, 0, 16, 0⟩
/-- SLV_CNT2 (R171). -/
def aSLV_CNT2 : Nat := 0x9C24
def SLV_CNT2.OVF : Fld := ⟨0x9C24, 24, 8, 0⟩
def SLV_CNT2.FALLBACK : Fld := ⟨0x9C24, 16, 8, 0⟩
def SLV_CNT2.PROMO : Fld := ⟨0x9C24, 8, 8, 0⟩
def SLV_CNT2.PROMO_MISS : Fld := ⟨0x9C24, 0, 8, 0⟩
/-- SLV_REC (R171). -/
def aSLV_REC : Nat := 0x9C28
def SLV_REC.IDX : Fld := ⟨0x9C28, 0, 6, 0⟩
/-- SLV_REC_BASE (R171). -/
def aSLV_REC_BASE : Nat := 0x9C2C
def SLV_REC_BASE.BASE : Fld := ⟨0x9C2C, 0, 32, 0⟩
/-- SLV_SLOT (R171). -/
def aSLV_SLOT : Nat := 0x9C40
def SLV_SLOT.STAT : Fld := ⟨0x9C40, 0, 16, 4⟩
/-- SLV_CAP (R171). -/
def aSLV_CAP : Nat := 0x9C80
def SLV_CAP.MARGIN : Fld := ⟨0x9C80, 16, 16, 4⟩
def SLV_CAP.STATUS : Fld := ⟨0x9C80, 12, 4, 4⟩
def SLV_CAP.AGE : Fld := ⟨0x9C80, 0, 12, 4⟩
/-- SLV_CAP_CFG (R171). -/
def aSLV_CAP_CFG : Nat := 0x9CC0
def SLV_CAP_CFG.CAP_WARN : Fld := ⟨0x9CC0, 0, 16, 0⟩

/-! Fields of the RED_ registers. -/

/-- RED_CFG (R214). -/
def aRED_CFG : Nat := 0xA000
def RED_CFG.ZONE : Fld := ⟨0xA000, 24, 3, 0⟩
def RED_CFG.KEY_LEASE : Fld := ⟨0xA000, 16, 5, 0⟩
def RED_CFG.MISMATCH_N : Fld := ⟨0xA000, 8, 4, 0⟩
def RED_CFG.SPLIT_POLICY : Fld := ⟨0xA000, 4, 1, 0⟩
def RED_CFG.SET_N : Fld := ⟨0xA000, 2, 2, 0⟩
def RED_CFG.UNIT : Fld := ⟨0xA000, 0, 2, 0⟩
/-- RED_CFG2 (R214). -/
def aRED_CFG2 : Nat := 0xA004
def RED_CFG2.QUALIFY_N : Fld := ⟨0xA004, 0, 16, 0⟩
/-- RED_ROLE (R214). -/
def aRED_ROLE : Nat := 0xA008
def RED_ROLE.HOLDER : Fld := ⟨0xA008, 16, 2, 0⟩
def RED_ROLE.QUALIFIED : Fld := ⟨0xA008, 11, 1, 0⟩
def RED_ROLE.CATCHUP : Fld := ⟨0xA008, 10, 1, 0⟩
def RED_ROLE.ROLE : Fld := ⟨0xA008, 0, 3, 0⟩
/-- RED_EPOCH (R214). -/
def aRED_EPOCH : Nat := 0xA00C
def RED_EPOCH.EPOCH : Fld := ⟨0xA00C, 0, 32, 0⟩
/-- RED_HELD (R214). -/
def aRED_HELD : Nat := 0xA010
def RED_HELD.EPOCH : Fld := ⟨0xA010, 0, 32, 0⟩
/-- RED_LINK (R214). -/
def aRED_LINK : Nat := 0xA014
def RED_LINK.PIERS_SEEN : Fld := ⟨0xA014, 16, 16, 0⟩
def RED_LINK.SILENCE : Fld := ⟨0xA014, 13, 1, 0⟩
def RED_LINK.DISP_SEEN : Fld := ⟨0xA014, 12, 1, 0⟩
def RED_LINK.LEASE_NET : Fld := ⟨0xA014, 8, 3, 0⟩
def RED_LINK.LEASE_SPAN : Fld := ⟨0xA014, 4, 3, 0⟩
def RED_LINK.SPAN1_UP : Fld := ⟨0xA014, 1, 1, 0⟩
def RED_LINK.SPAN0_UP : Fld := ⟨0xA014, 0, 1, 0⟩
/-- RED_STATUS (R214). -/
def aRED_STATUS : Nat := 0xA018
def RED_STATUS.DISAGREE : Fld := ⟨0xA018, 15, 1, 0⟩
def RED_STATUS.SPLIT : Fld := ⟨0xA018, 14, 1, 0⟩
def RED_STATUS.SPAN_LOST : Fld := ⟨0xA018, 13, 1, 0⟩
def RED_STATUS.NET_PATH : Fld := ⟨0xA018, 12, 1, 0⟩
def RED_STATUS.CONFIG_DIFF : Fld := ⟨0xA018, 11, 1, 0⟩
def RED_STATUS.NO_SUCCESSOR : Fld := ⟨0xA018, 10, 1, 0⟩
def RED_STATUS.TRANSFER_FAIL : Fld := ⟨0xA018, 5, 1, 0⟩
def RED_STATUS.RESYNC_FAIL : Fld := ⟨0xA018, 4, 1, 0⟩
def RED_STATUS.HANDBACK : Fld := ⟨0xA018, 3, 1, 0⟩
def RED_STATUS.ZONE_ENTRY : Fld := ⟨0xA018, 2, 1, 0⟩
def RED_STATUS.DECLARED : Fld := ⟨0xA018, 1, 1, 0⟩
def RED_STATUS.TAKEOVER : Fld := ⟨0xA018, 0, 1, 0⟩
/-- RED_MISMATCH (R214). -/
def aRED_MISMATCH : Nat := 0xA01C
def RED_MISMATCH.LAST : Fld := ⟨0xA01C, 16, 16, 0⟩
def RED_MISMATCH.COUNT : Fld := ⟨0xA01C, 0, 8, 0⟩
/-- RED_QUAL (R214). -/
def aRED_QUAL : Nat := 0xA020
def RED_QUAL.COUNT : Fld := ⟨0xA020, 0, 16, 0⟩
/-- RED_HEALTH (R214). -/
def aRED_HEALTH : Nat := 0xA024
def RED_HEALTH.C : Fld := ⟨0xA024, 16, 8, 0⟩
def RED_HEALTH.B : Fld := ⟨0xA024, 8, 8, 0⟩
def RED_HEALTH.A : Fld := ⟨0xA024, 0, 8, 0⟩
/-- RED_CNT (R214). -/
def aRED_CNT : Nat := 0xA028
def RED_CNT.TAKEOVER : Fld := ⟨0xA028, 24, 8, 0⟩
def RED_CNT.RESYNC : Fld := ⟨0xA028, 16, 8, 0⟩
def RED_CNT.UNFOLLOW : Fld := ⟨0xA028, 0, 16, 0⟩
/-- RED_HREP (R214). -/
def aRED_HREP : Nat := 0xA02C
def RED_HREP.IDX : Fld := ⟨0xA02C, 0, 6, 0⟩
/-- RED_HREP_BASE (R214). -/
def aRED_HREP_BASE : Nat := 0xA030
def RED_HREP_BASE.BASE : Fld := ⟨0xA030, 0, 32, 0⟩

/-! Fields of the SAF_ registers. -/

/-- SAF_STATUS (R242). -/
def aSAF_STATUS : Nat := 0xA400
def SAF_STATUS.ENERGISED : Fld := ⟨0xA400, 20, 4, 0⟩
def SAF_STATUS.TRIPPED : Fld := ⟨0xA400, 16, 4, 0⟩
def SAF_STATUS.ARMED : Fld := ⟨0xA400, 12, 4, 0⟩
def SAF_STATUS.SESSION : Fld := ⟨0xA400, 7, 1, 0⟩
def SAF_STATUS.PW_SET : Fld := ⟨0xA400, 6, 1, 0⟩
def SAF_STATUS.LOCKOUT : Fld := ⟨0xA400, 5, 1, 0⟩
def SAF_STATUS.EXCURSION : Fld := ⟨0xA400, 4, 1, 0⟩
def SAF_STATUS.SB_OK : Fld := ⟨0xA400, 1, 1, 0⟩
def SAF_STATUS.SA_OK : Fld := ⟨0xA400, 0, 1, 0⟩
/-- SAF_CAUSE (R242). -/
def aSAF_CAUSE : Nat := 0xA410
def SAF_CAUSE.FRAME : Fld := ⟨0xA410, 16, 16, 4⟩
def SAF_CAUSE.MORE : Fld := ⟨0xA410, 12, 4, 4⟩
def SAF_CAUSE.DETAIL : Fld := ⟨0xA410, 4, 8, 4⟩
def SAF_CAUSE.CAUSE : Fld := ⟨0xA410, 0, 4, 4⟩
/-- SAF_ESTOP (R242). -/
def aSAF_ESTOP : Nat := 0xA420
def SAF_ESTOP.DISC : Fld := ⟨0xA420, 28, 4, 0⟩
def SAF_ESTOP.DEMAND : Fld := ⟨0xA420, 24, 4, 0⟩
def SAF_ESTOP.RST_B : Fld := ⟨0xA420, 9, 1, 0⟩
def SAF_ESTOP.RST_A : Fld := ⟨0xA420, 8, 1, 0⟩
def SAF_ESTOP.LEVEL_B : Fld := ⟨0xA420, 4, 4, 0⟩
def SAF_ESTOP.LEVEL_A : Fld := ⟨0xA420, 0, 4, 0⟩
/-- SAF_CFG (R242). -/
def aSAF_CFG : Nat := 0xA430
def SAF_CFG.TPULSE : Fld := ⟨0xA430, 31, 1, 0⟩
def SAF_CFG.RST_SRC : Fld := ⟨0xA430, 30, 1, 0⟩
def SAF_CFG.GROUP_EN : Fld := ⟨0xA430, 16, 4, 0⟩
def SAF_CFG.PL_MARG : Fld := ⟨0xA430, 8, 8, 0⟩
def SAF_CFG.DISC_T : Fld := ⟨0xA430, 0, 7, 0⟩
/-- SAF_EST_MAP (R242). -/
def aSAF_EST_MAP : Nat := 0xA434
def SAF_EST_MAP.MAP : Fld := ⟨0xA434, 0, 16, 0⟩
/-- SAF_SF2_CFG (R242). -/
def aSAF_SF2_CFG : Nat := 0xA438
def SAF_SF2_CFG.GROUPS : Fld := ⟨0xA438, 24, 4, 0⟩
def SAF_SF2_CFG.SF2_N : Fld := ⟨0xA438, 16, 2, 0⟩
def SAF_SF2_CFG.HDG_TRIP : Fld := ⟨0xA438, 0, 16, 0⟩
/-- SAF_SF2_POS (R242). -/
def aSAF_SF2_POS : Nat := 0xA43C
def SAF_SF2_POS.EXC_TRIP : Fld := ⟨0xA43C, 16, 16, 0⟩
def SAF_SF2_POS.EXC_WARN : Fld := ⟨0xA43C, 0, 16, 0⟩
/-- SAF_SF2_DRV (R242). -/
def aSAF_SF2_DRV : Nat := 0xA440
def SAF_SF2_DRV.DRV_V : Fld := ⟨0xA440, 16, 16, 0⟩
def SAF_SF2_DRV.DRV_R : Fld := ⟨0xA440, 0, 16, 0⟩
/-- SAF_SF2_NOW (R242). -/
def aSAF_SF2_NOW : Nat := 0xA444
def SAF_SF2_NOW.E_POS : Fld := ⟨0xA444, 16, 16, 0⟩
def SAF_SF2_NOW.V_R : Fld := ⟨0xA444, 0, 16, 0⟩
/-- SAF_RUN (R242). -/
def aSAF_RUN : Nat := 0xA448
def SAF_RUN.SF5 : Fld := ⟨0xA448, 24, 2, 0⟩
def SAF_RUN.SF4 : Fld := ⟨0xA448, 16, 2, 0⟩
def SAF_RUN.SF3 : Fld := ⟨0xA448, 8, 2, 0⟩
def SAF_RUN.DRV : Fld := ⟨0xA448, 4, 2, 0⟩
def SAF_RUN.HDG : Fld := ⟨0xA448, 2, 2, 0⟩
def SAF_RUN.EXC : Fld := ⟨0xA448, 0, 2, 0⟩
/-- SAF_CNT (R242). -/
def aSAF_CNT : Nat := 0xA44C
def SAF_CNT.WITHHELD : Fld := ⟨0xA44C, 16, 16, 0⟩
def SAF_CNT.RST_IGNORED : Fld := ⟨0xA44C, 8, 8, 0⟩
def SAF_CNT.PW_FAIL : Fld := ⟨0xA44C, 0, 8, 0⟩
/-- SAF_PW (R242). -/
def aSAF_PW : Nat := 0xA450
def SAF_PW.WAIT : Fld := ⟨0xA450, 16, 16, 0⟩
def SAF_PW.FAILS : Fld := ⟨0xA450, 0, 8, 0⟩
/-- SAF_LOG (R242). -/
def aSAF_LOG : Nat := 0xA454
def SAF_LOG.SEQ : Fld := ⟨0xA454, 0, 32, 0⟩
/-- SAF_HASH (R242). -/
def aSAF_HASH : Nat := 0xA458
def SAF_HASH.HASH : Fld := ⟨0xA458, 0, 32, 0⟩

/-! Fields of the GNS_ registers. -/

/-- GNS_CFG (R268). -/
def aGNS_CFG : Nat := 0xA800
def GNS_CFG.SYS_EN : Fld := ⟨0xA800, 20, 4, 0⟩
def GNS_CFG.ELEV_MASK : Fld := ⟨0xA800, 8, 6, 0⟩
def GNS_CFG.L5_EN : Fld := ⟨0xA800, 3, 1, 0⟩
def GNS_CFG.ANT_B_EN : Fld := ⟨0xA800, 2, 1, 0⟩
def GNS_CFG.HDG_EN : Fld := ⟨0xA800, 1, 1, 0⟩
def GNS_CFG.EN : Fld := ⟨0xA800, 0, 1, 0⟩
/-- GNS_MEAS_CFG (R268). -/
def aGNS_MEAS_CFG : Nat := 0xA804
def GNS_MEAS_CFG.N : Fld := ⟨0xA804, 0, 7, 0⟩
/-- GNS_TRK_CFG (R268). -/
def aGNS_TRK_CFG : Nat := 0xA808
def GNS_TRK_CFG.EL_SPACE : Fld := ⟨0xA808, 0, 4, 0⟩
/-- GNS_IF_CFG (R268). -/
def aGNS_IF_CFG : Nat := 0xA810
def GNS_IF_CFG.SPEC_INV : Fld := ⟨0xA810, 31, 1, 4⟩
def GNS_IF_CFG.IF : Fld := ⟨0xA810, 0, 16, 4⟩
/-- GNS_IF_STAT (R268). -/
def aGNS_IF_STAT : Nat := 0xA820
def GNS_IF_STAT.MAG_DUTY : Fld := ⟨0xA820, 8, 8, 4⟩
def GNS_IF_STAT.ACTIVE : Fld := ⟨0xA820, 0, 1, 4⟩
/-- GNS_STATUS (R268). -/
def aGNS_STATUS : Nat := 0xA830
def GNS_STATUS.FIX_B : Fld := ⟨0xA830, 27, 3, 0⟩
def GNS_STATUS.FIX_A : Fld := ⟨0xA830, 24, 3, 0⟩
def GNS_STATUS.TRACK_A : Fld := ⟨0xA830, 16, 8, 0⟩
def GNS_STATUS.TRACK_B : Fld := ⟨0xA830, 8, 8, 0⟩
def GNS_STATUS.HDG_VALID : Fld := ⟨0xA830, 2, 1, 0⟩
def GNS_STATUS.EPHEM : Fld := ⟨0xA830, 1, 1, 0⟩
def GNS_STATUS.ALMANAC : Fld := ⟨0xA830, 0, 1, 0⟩
/-- GNS_HDG_CFG (R268). -/
def aGNS_HDG_CFG : Nat := 0xA834
def GNS_HDG_CFG.LEN : Fld := ⟨0xA834, 16, 16, 0⟩
def GNS_HDG_CFG.LEN_TOL : Fld := ⟨0xA834, 0, 8, 0⟩
/-- GNS_RTCM_CFG (R268). -/
def aGNS_RTCM_CFG : Nat := 0xA838
def GNS_RTCM_CFG.UDP_PORT : Fld := ⟨0xA838, 16, 16, 0⟩
def GNS_RTCM_CFG.AGE_MAX : Fld := ⟨0xA838, 10, 6, 0⟩
def GNS_RTCM_CFG.UART : Fld := ⟨0xA838, 4, 4, 0⟩
def GNS_RTCM_CFG.SRC : Fld := ⟨0xA838, 0, 2, 0⟩
/-- GNS_RTCM_BASE (R268). -/
def aGNS_RTCM_BASE : Nat := 0xA83C
def GNS_RTCM_BASE.ANY : Fld := ⟨0xA83C, 12, 1, 0⟩
def GNS_RTCM_BASE.STATION_ID : Fld := ⟨0xA83C, 0, 12, 0⟩
/-- GNS_RTCM_CNT (R268). -/
def aGNS_RTCM_CNT : Nat := 0xA840
def GNS_RTCM_CNT.OK : Fld := ⟨0xA840, 16, 16, 0⟩
def GNS_RTCM_CNT.CRC_ERR : Fld := ⟨0xA840, 8, 8, 0⟩
def GNS_RTCM_CNT.IGNORED : Fld := ⟨0xA840, 0, 8, 0⟩
/-- GNS_CLK_B_LO (R268). -/
def aGNS_CLK_B_LO : Nat := 0xA844
def GNS_CLK_B_LO.B : Fld := ⟨0xA844, 0, 32, 0⟩
/-- GNS_CLK_B_HI (R268). -/
def aGNS_CLK_B_HI : Nat := 0xA848
def GNS_CLK_B_HI.B : Fld := ⟨0xA848, 0, 32, 0⟩
/-- GNS_TP_STAT (R268). -/
def aGNS_TP_STAT : Nat := 0xA84C
def GNS_TP_STAT.QERR : Fld := ⟨0xA84C, 16, 16, 0⟩
def GNS_TP_STAT.LEAP : Fld := ⟨0xA84C, 8, 8, 0⟩
def GNS_TP_STAT.STEP : Fld := ⟨0xA84C, 5, 1, 0⟩
def GNS_TP_STAT.LEAP_PENDING : Fld := ⟨0xA84C, 4, 1, 0⟩
def GNS_TP_STAT.STATE : Fld := ⟨0xA84C, 0, 3, 0⟩
/-- GNS_TP_UNC (R268). -/
def aGNS_TP_UNC : Nat := 0xA850
def GNS_TP_UNC.UNC : Fld := ⟨0xA850, 0, 32, 0⟩
/-- GNS_PPS0_CFG (R268). -/
def aGNS_PPS0_CFG : Nat := 0xA854
def GNS_PPS0_CFG.EN : Fld := ⟨0xA854, 31, 1, 0⟩
def GNS_PPS0_CFG.POL : Fld := ⟨0xA854, 30, 1, 0⟩
def GNS_PPS0_CFG.WIDTH : Fld := ⟨0xA854, 16, 10, 0⟩
def GNS_PPS0_CFG.CABLE : Fld := ⟨0xA854, 0, 16, 0⟩
/-- GNS_PPS1_CFG (R268). -/
def aGNS_PPS1_CFG : Nat := 0xA858
def GNS_PPS1_CFG.EN : Fld := ⟨0xA858, 31, 1, 0⟩
def GNS_PPS1_CFG.POL : Fld := ⟨0xA858, 30, 1, 0⟩
def GNS_PPS1_CFG.WIDTH : Fld := ⟨0xA858, 16, 10, 0⟩
def GNS_PPS1_CFG.CABLE : Fld := ⟨0xA858, 0, 16, 0⟩
/-- GNS_TP_CFG (R268). -/
def aGNS_TP_CFG : Nat := 0xA85C
def GNS_TP_CFG.TAU : Fld := ⟨0xA85C, 0, 8, 0⟩
/-- GNS_SNAP_CFG (R268). -/
def aGNS_SNAP_CFG : Nat := 0xA860
def GNS_SNAP_CFG.ON_HARVEST : Fld := ⟨0xA860, 31, 1, 0⟩
def GNS_SNAP_CFG.OVERWRITE : Fld := ⟨0xA860, 30, 1, 0⟩
def GNS_SNAP_CFG.LEN3 : Fld := ⟨0xA860, 21, 7, 0⟩
def GNS_SNAP_CFG.LEN2 : Fld := ⟨0xA860, 14, 7, 0⟩
def GNS_SNAP_CFG.LEN1 : Fld := ⟨0xA860, 7, 7, 0⟩
def GNS_SNAP_CFG.LEN0 : Fld := ⟨0xA860, 0, 7, 0⟩
/-- GNS_SNAP_STAT (R268). -/
def aGNS_SNAP_STAT : Nat := 0xA864
def GNS_SNAP_STAT.IGNORED : Fld := ⟨0xA864, 8, 8, 0⟩
def GNS_SNAP_STAT.RELEASE : Fld := ⟨0xA864, 2, 1, 0⟩
def GNS_SNAP_STAT.FULL : Fld := ⟨0xA864, 1, 1, 0⟩
def GNS_SNAP_STAT.BUSY : Fld := ⟨0xA864, 0, 1, 0⟩
/-- GNS_SNAP_BASE (R268). -/
def aGNS_SNAP_BASE : Nat := 0xA868
def GNS_SNAP_BASE.BASE : Fld := ⟨0xA868, 0, 32, 0⟩
/-- GNS_HARB_CFG (R268). -/
def aGNS_HARB_CFG : Nat := 0xA86C
def GNS_HARB_CFG.SNAP_INT : Fld := ⟨0xA86C, 0, 12, 0⟩
/-- GNS_COARSE_LAT (R268). -/
def aGNS_COARSE_LAT : Nat := 0xA870
def GNS_COARSE_LAT.ANG : Fld := ⟨0xA870, 0, 32, 0⟩
/-- GNS_COARSE_LON (R268). -/
def aGNS_COARSE_LON : Nat := 0xA874
def GNS_COARSE_LON.ANG : Fld := ⟨0xA874, 0, 32, 0⟩
/-- GNS_COARSE_STAT (R268). -/
def aGNS_COARSE_STAT : Nat := 0xA878
def GNS_COARSE_STAT.SIGMA : Fld := ⟨0xA878, 16, 16, 0⟩
def GNS_COARSE_STAT.NOFIX : Fld := ⟨0xA878, 15, 1, 0⟩
def GNS_COARSE_STAT.AGE : Fld := ⟨0xA878, 0, 15, 0⟩
/-- GNS_MREC (R268). -/
def aGNS_MREC : Nat := 0xA880
def GNS_MREC.IDX : Fld := ⟨0xA880, 0, 6, 0⟩
/-- GNS_TREC (R268). -/
def aGNS_TREC : Nat := 0xA888
def GNS_TREC.IDX : Fld := ⟨0xA888, 0, 6, 0⟩
/-- GNS_MREC_BASE (R268). -/
def aGNS_MREC_BASE : Nat := 0xA884
def GNS_MREC_BASE.BASE : Fld := ⟨0xA884, 0, 32, 0⟩
/-- GNS_TREC_BASE (R268). -/
def aGNS_TREC_BASE : Nat := 0xA88C
def GNS_TREC_BASE.BASE : Fld := ⟨0xA88C, 0, 32, 0⟩
/-- GNS_CHAN_SEL (R268). -/
def aGNS_CHAN_SEL : Nat := 0xA890
def GNS_CHAN_SEL.CH : Fld := ⟨0xA890, 0, 7, 0⟩
/-- GNS_CHAN_STAT (R268). -/
def aGNS_CHAN_STAT : Nat := 0xA894
def GNS_CHAN_STAT.CN0 : Fld := ⟨0xA894, 24, 8, 0⟩
def GNS_CHAN_STAT.PRN : Fld := ⟨0xA894, 16, 8, 0⟩
def GNS_CHAN_STAT.SIG : Fld := ⟨0xA894, 12, 4, 0⟩
def GNS_CHAN_STAT.SYS : Fld := ⟨0xA894, 10, 2, 0⟩
def GNS_CHAN_STAT.ANT : Fld := ⟨0xA894, 9, 1, 0⟩
def GNS_CHAN_STAT.STATE : Fld := ⟨0xA894, 0, 3, 0⟩
/-- GNS_CNT (R268). -/
def aGNS_CNT : Nat := 0xA898
def GNS_CNT.SLIPS : Fld := ⟨0xA898, 16, 16, 0⟩
def GNS_CNT.HOLDOVERS : Fld := ⟨0xA898, 8, 8, 0⟩
def GNS_CNT.TP_STEPS : Fld := ⟨0xA898, 0, 8, 0⟩

/-! Fields of the NET_ registers. -/

/-- NET_PORT_CFG (R297). -/
def aNET_PORT_CFG : Nat := 0xAC00
def NET_PORT_CFG.I450 : Fld := ⟨0xAC00, 5, 1, 4⟩
def NET_PORT_CFG.PIER : Fld := ⟨0xAC00, 4, 1, 4⟩
def NET_PORT_CFG.AUTO : Fld := ⟨0xAC00, 2, 1, 4⟩
def NET_PORT_CFG.SPEED : Fld := ⟨0xAC00, 1, 1, 4⟩
def NET_PORT_CFG.EN : Fld := ⟨0xAC00, 0, 1, 4⟩
/-- NET_PORT_DLY (R297). -/
def aNET_PORT_DLY : Nat := 0xAC10
def NET_PORT_DLY.EGR : Fld := ⟨0xAC10, 16, 16, 4⟩
def NET_PORT_DLY.ING : Fld := ⟨0xAC10, 0, 16, 4⟩
/-- NET_PORT_STAT (R297). -/
def aNET_PORT_STAT : Nat := 0xAC30
def NET_PORT_STAT.RX_ERR : Fld := ⟨0xAC30, 16, 16, 4⟩
def NET_PORT_STAT.RETIRED : Fld := ⟨0xAC30, 3, 1, 4⟩
def NET_PORT_STAT.SPEED : Fld := ⟨0xAC30, 1, 1, 4⟩
def NET_PORT_STAT.LINK : Fld := ⟨0xAC30, 0, 1, 4⟩
/-- NET_PIER_CFG (R297). -/
def aNET_PIER_CFG : Nat := 0xAC50
def NET_PIER_CFG.BASE_PORT : Fld := ⟨0xAC50, 16, 16, 0⟩
def NET_PIER_CFG.HARV_LEAD : Fld := ⟨0xAC50, 8, 8, 0⟩
def NET_PIER_CFG.HARV_SEND : Fld := ⟨0xAC50, 0, 1, 0⟩
/-- NET_PIER_GRP (R297). -/
def aNET_PIER_GRP : Nat := 0xAC54
def NET_PIER_GRP.GROUP : Fld := ⟨0xAC54, 0, 32, 0⟩
/-- NET_PIER_ERR (R297). -/
def aNET_PIER_ERR : Nat := 0xAC58
def NET_PIER_ERR.CRC : Fld := ⟨0xAC58, 24, 8, 0⟩
def NET_PIER_ERR.FORMAT : Fld := ⟨0xAC58, 16, 8, 0⟩
def NET_PIER_ERR.MODE : Fld := ⟨0xAC58, 8, 8, 0⟩
def NET_PIER_ERR.UNBOUND : Fld := ⟨0xAC58, 0, 8, 0⟩
/-- NET_PIER_DUP (R297). -/
def aNET_PIER_DUP : Nat := 0xAC5C
def NET_PIER_DUP.DUP : Fld := ⟨0xAC5C, 16, 16, 0⟩
def NET_PIER_DUP.GAP : Fld := ⟨0xAC5C, 0, 16, 0⟩
/-- NET_450_ADDR (R297). -/
def aNET_450_ADDR : Nat := 0xAC60
def NET_450_ADDR.GROUP : Fld := ⟨0xAC60, 0, 32, 8⟩
/-- NET_450_PORT (R297). -/
def aNET_450_PORT : Nat := 0xAC64
def NET_450_PORT.PORT : Fld := ⟨0xAC64, 0, 16, 8⟩
/-- NET_450_CNT (R297). -/
def aNET_450_CNT : Nat := 0xACA0
def NET_450_CNT.OK : Fld := ⟨0xACA0, 16, 16, 0⟩
def NET_450_CNT.BAD : Fld := ⟨0xACA0, 8, 8, 0⟩
def NET_450_CNT.UNSUP : Fld := ⟨0xACA0, 0, 8, 0⟩

/-! Fields of the CAN_ registers. -/

/-- CAN_CTRL (R322). -/
def aCAN_CTRL : Nat := 0xC800
def CAN_CTRL.NOMATCH : Fld := ⟨0xC800, 11, 2, 256⟩
def CAN_CTRL.FLUSH_BO : Fld := ⟨0xC800, 10, 1, 256⟩
def CAN_CTRL.RMT : Fld := ⟨0xC800, 9, 1, 256⟩
def CAN_CTRL.PEX_DIS : Fld := ⟨0xC800, 8, 1, 256⟩
def CAN_CTRL.DAR : Fld := ⟨0xC800, 7, 1, 256⟩
def CAN_CTRL.TXPRI : Fld := ⟨0xC800, 6, 1, 256⟩
def CAN_CTRL.ABO : Fld := ⟨0xC800, 5, 1, 256⟩
def CAN_CTRL.BRS_EN : Fld := ⟨0xC800, 4, 1, 256⟩
def CAN_CTRL.FD_EN : Fld := ⟨0xC800, 3, 1, 256⟩
def CAN_CTRL.LOM : Fld := ⟨0xC800, 2, 1, 256⟩
def CAN_CTRL.INIT : Fld := ⟨0xC800, 0, 1, 256⟩
/-- CAN_NBT (R322). -/
def aCAN_NBT : Nat := 0xC804
def CAN_NBT.NSJW : Fld := ⟨0xC804, 25, 7, 256⟩
def CAN_NBT.NTSEG2 : Fld := ⟨0xC804, 18, 7, 256⟩
def CAN_NBT.NTSEG1 : Fld := ⟨0xC804, 10, 8, 256⟩
def CAN_NBT.NBRP : Fld := ⟨0xC804, 0, 5, 256⟩
/-- CAN_DBT (R322). -/
def aCAN_DBT : Nat := 0xC808
def CAN_DBT.DSJW : Fld := ⟨0xC808, 28, 4, 256⟩
def CAN_DBT.DTSEG2 : Fld := ⟨0xC808, 24, 4, 256⟩
def CAN_DBT.DTSEG1 : Fld := ⟨0xC808, 19, 5, 256⟩
def CAN_DBT.TDCO : Fld := ⟨0xC808, 8, 8, 256⟩
def CAN_DBT.TDC_EN : Fld := ⟨0xC808, 7, 1, 256⟩
def CAN_DBT.DBRP : Fld := ⟨0xC808, 0, 5, 256⟩
/-- CAN_STAT (R322). -/
def aCAN_STAT : Nat := 0xC80C
def CAN_STAT.TEC : Fld := ⟨0xC80C, 24, 8, 256⟩
def CAN_STAT.REC : Fld := ⟨0xC80C, 16, 8, 256⟩
def CAN_STAT.STATE : Fld := ⟨0xC80C, 8, 2, 256⟩
def CAN_STAT.LEC : Fld := ⟨0xC80C, 5, 3, 256⟩
def CAN_STAT.RETIRED : Fld := ⟨0xC80C, 4, 1, 256⟩
def CAN_STAT.PEX : Fld := ⟨0xC80C, 3, 1, 256⟩
def CAN_STAT.BO : Fld := ⟨0xC80C, 2, 1, 256⟩
def CAN_STAT.SYNC : Fld := ⟨0xC80C, 1, 1, 256⟩
def CAN_STAT.INIT_ACK : Fld := ⟨0xC80C, 0, 1, 256⟩
/-- CAN_TXBUF (R322). -/
def aCAN_TXBUF : Nat := 0xC810
def CAN_TXBUF.QFILL : Fld := ⟨0xC810, 16, 7, 256⟩
def CAN_TXBUF.ABORT : Fld := ⟨0xC810, 4, 3, 256⟩
def CAN_TXBUF.PEND : Fld := ⟨0xC810, 0, 3, 256⟩
/-- CAN_RXQ0_STAT (R322). -/
def aCAN_RXQ0_STAT : Nat := 0xC814
def CAN_RXQ0_STAT.ACK_ERR : Fld := ⟨0xC814, 31, 1, 256⟩
def CAN_RXQ0_STAT.SW : Fld := ⟨0xC814, 24, 7, 256⟩
def CAN_RXQ0_STAT.PUT : Fld := ⟨0xC814, 16, 6, 256⟩
def CAN_RXQ0_STAT.GET : Fld := ⟨0xC814, 8, 6, 256⟩
/-- CAN_RXQ1_STAT (R322). -/
def aCAN_RXQ1_STAT : Nat := 0xC818
def CAN_RXQ1_STAT.ACK_ERR : Fld := ⟨0xC818, 31, 1, 256⟩
def CAN_RXQ1_STAT.SW : Fld := ⟨0xC818, 24, 7, 256⟩
def CAN_RXQ1_STAT.PUT : Fld := ⟨0xC818, 16, 6, 256⟩
def CAN_RXQ1_STAT.GET : Fld := ⟨0xC818, 8, 6, 256⟩
/-- CAN_RXQ0_ACK (R322). -/
def aCAN_RXQ0_ACK : Nat := 0xC81C
def CAN_RXQ0_ACK.N : Fld := ⟨0xC81C, 0, 7, 256⟩
/-- CAN_RXQ1_ACK (R322). -/
def aCAN_RXQ1_ACK : Nat := 0xC820
def CAN_RXQ1_ACK.N : Fld := ⟨0xC820, 0, 7, 256⟩
/-- CAN_RXQ_BASE (R322). -/
def aCAN_RXQ_BASE : Nat := 0xC824
def CAN_RXQ_BASE.BASE : Fld := ⟨0xC824, 0, 32, 256⟩
/-- CAN_CNT (R322). -/
def aCAN_CNT : Nat := 0xC828
def CAN_CNT.RXQ0_OVF : Fld := ⟨0xC828, 24, 8, 256⟩
def CAN_CNT.RXQ1_OVF : Fld := ⟨0xC828, 16, 8, 256⟩
def CAN_CNT.TX_DROP : Fld := ⟨0xC828, 8, 8, 256⟩
def CAN_CNT.BUSOFF : Fld := ⟨0xC828, 0, 8, 256⟩
/-- CAN_LAST_TX (R322). -/
def aCAN_LAST_TX : Nat := 0xC82C
def CAN_LAST_TX.STAMP : Fld := ⟨0xC82C, 0, 32, 256⟩
/-- CAN_FLT_SEL (R322). -/
def aCAN_FLT_SEL : Nat := 0xC840
def CAN_FLT_SEL.ERR : Fld := ⟨0xC840, 31, 1, 256⟩
def CAN_FLT_SEL.OP : Fld := ⟨0xC840, 16, 2, 256⟩
def CAN_FLT_SEL.INDEX : Fld := ⟨0xC840, 0, 10, 256⟩
/-- CAN_FLT_DATA0 (R322). -/
def aCAN_FLT_DATA0 : Nat := 0xC844
def CAN_FLT_DATA0.DATA : Fld := ⟨0xC844, 0, 32, 256⟩
/-- CAN_FLT_DATA1 (R322). -/
def aCAN_FLT_DATA1 : Nat := 0xC848
def CAN_FLT_DATA1.DATA : Fld := ⟨0xC848, 0, 32, 256⟩
/-- CAN_FLT_DATA2 (R322). -/
def aCAN_FLT_DATA2 : Nat := 0xC84C
def CAN_FLT_DATA2.DATA : Fld := ⟨0xC84C, 0, 32, 256⟩
/-- CAN_TSC (R323). -/
def aCAN_TSC : Nat := 0xD000
def CAN_TSC.COUNT : Fld := ⟨0xD000, 0, 32, 0⟩
/-- CAN_XCAP_CNT (R323). -/
def aCAN_XCAP_CNT : Nat := 0xD004
def CAN_XCAP_CNT.COUNT : Fld := ⟨0xD004, 0, 32, 0⟩
/-- CAN_XCAP_PH (R323). -/
def aCAN_XCAP_PH : Nat := 0xD008
def CAN_XCAP_PH.VALID : Fld := ⟨0xD008, 7, 1, 0⟩
def CAN_XCAP_PH.PH : Fld := ⟨0xD008, 0, 7, 0⟩
/-- CAN_XCAP_FRAME (R323). -/
def aCAN_XCAP_FRAME : Nat := 0xD00C
def CAN_XCAP_FRAME.FRAME : Fld := ⟨0xD00C, 0, 32, 0⟩
/-- CAN_UCFG (R324). -/
def aCAN_UCFG : Nat := 0xD100
def CAN_UCFG.DIV : Fld := ⟨0xD100, 16, 16, 16⟩
def CAN_UCFG.PARITY : Fld := ⟨0xD100, 10, 2, 16⟩
def CAN_UCFG.STOP2 : Fld := ⟨0xD100, 9, 1, 16⟩
def CAN_UCFG.USE : Fld := ⟨0xD100, 6, 2, 16⟩
/-- CAN_USTAT (R324). -/
def aCAN_USTAT : Nat := 0xD104
def CAN_USTAT.BREAK : Fld := ⟨0xD104, 1, 1, 16⟩
def CAN_USTAT.ACTIVE : Fld := ⟨0xD104, 0, 1, 16⟩
/-- CAN_UCNT (R324). -/
def aCAN_UCNT : Nat := 0xD108
def CAN_UCNT.FRAMING : Fld := ⟨0xD108, 24, 8, 16⟩
def CAN_UCNT.OVERRUN : Fld := ⟨0xD108, 16, 8, 16⟩
def CAN_UCNT.BAD : Fld := ⟨0xD108, 8, 8, 16⟩
def CAN_UCNT.UNBOUND : Fld := ⟨0xD108, 0, 8, 16⟩

/-! Fields of the SDF_ registers. -/

/-- SDF_CLK_CFG (R344). -/
def aSDF_CLK_CFG : Nat := 0xC000
def SDF_CLK_CFG.EN : Fld := ⟨0xC000, 3, 1, 4⟩
def SDF_CLK_CFG.EDGE : Fld := ⟨0xC000, 2, 1, 4⟩
def SDF_CLK_CFG.RATE : Fld := ⟨0xC000, 0, 2, 4⟩
/-- SDF_BANK_CTRL (R344). -/
def aSDF_BANK_CTRL : Nat := 0xC010
def SDF_BANK_CTRL.ERR : Fld := ⟨0xC010, 31, 1, 0⟩
def SDF_BANK_CTRL.COMMIT : Fld := ⟨0xC010, 20, 1, 0⟩
def SDF_BANK_CTRL.OPEN : Fld := ⟨0xC010, 19, 1, 0⟩
def SDF_BANK_CTRL.BANK : Fld := ⟨0xC010, 16, 3, 0⟩
def SDF_BANK_CTRL.ADDR : Fld := ⟨0xC010, 0, 11, 0⟩
/-- SDF_BANK_DATA (R344). -/
def aSDF_BANK_DATA : Nat := 0xC014
def SDF_BANK_DATA.DATA : Fld := ⟨0xC014, 0, 32, 0⟩
/-- SDF_BANK_STAT (R344). -/
def aSDF_BANK_STAT : Nat := 0xC018
def SDF_BANK_STAT.LOADING : Fld := ⟨0xC018, 8, 8, 0⟩
def SDF_BANK_STAT.VALID : Fld := ⟨0xC018, 0, 8, 0⟩
/-- SDF_LOAD (R344). -/
def aSDF_LOAD : Nat := 0xC01C
def SDF_LOAD.MACS : Fld := ⟨0xC01C, 0, 16, 0⟩
/-- SDF_CH_CFG (R345). -/
def aSDF_CH_CFG : Nat := 0xC100
def SDF_CH_CFG.EN : Fld := ⟨0xC100, 31, 1, 32⟩
def SDF_CH_CFG.SRC : Fld := ⟨0xC100, 26, 2, 32⟩
def SDF_CH_CFG.FIR_BYP : Fld := ⟨0xC100, 25, 1, 32⟩
def SDF_CH_CFG.RBANK : Fld := ⟨0xC100, 21, 3, 32⟩
def SDF_CH_CFG.FBANK : Fld := ⟨0xC100, 18, 3, 32⟩
def SDF_CH_CFG.ORDER : Fld := ⟨0xC100, 15, 3, 32⟩
def SDF_CH_CFG.R : Fld := ⟨0xC100, 0, 10, 32⟩
/-- SDF_CH_OUT (R345). -/
def aSDF_CH_OUT : Nat := 0xC104
def SDF_CH_OUT.CTX : Fld := ⟨0xC104, 24, 8, 32⟩
def SDF_CH_OUT.CTX_DIV : Fld := ⟨0xC104, 16, 8, 32⟩
def SDF_CH_OUT.CTX_EN : Fld := ⟨0xC104, 15, 1, 32⟩
def SDF_CH_OUT.L : Fld := ⟨0xC104, 0, 8, 32⟩
/-- SDF_CH_PT (R345). -/
def aSDF_CH_PT : Nat := 0xC108
def SDF_CH_PT.PT_EN : Fld := ⟨0xC108, 31, 1, 32⟩
def SDF_CH_PT.POINT : Fld := ⟨0xC108, 0, 18, 32⟩
/-- SDF_CH_SETTLE (R345). -/
def aSDF_CH_SETTLE : Nat := 0xC10C
def SDF_CH_SETTLE.SETTLE_MIN : Fld := ⟨0xC10C, 16, 12, 32⟩
def SDF_CH_SETTLE.SETTLE : Fld := ⟨0xC10C, 0, 12, 32⟩
/-- SDF_CH_THR_HI (R345). -/
def aSDF_CH_THR_HI : Nat := 0xC110
def SDF_CH_THR_HI.SET : Fld := ⟨0xC110, 16, 16, 32⟩
def SDF_CH_THR_HI.HYS : Fld := ⟨0xC110, 0, 16, 32⟩
/-- SDF_CH_THR_LO (R345). -/
def aSDF_CH_THR_LO : Nat := 0xC114
def SDF_CH_THR_LO.SET : Fld := ⟨0xC114, 16, 16, 32⟩
def SDF_CH_THR_LO.HYS : Fld := ⟨0xC114, 0, 16, 32⟩
/-- SDF_CH_THR_CFG (R345). -/
def aSDF_CH_THR_CFG : Nat := 0xC118
def SDF_CH_THR_CFG.PERS_HI : Fld := ⟨0xC118, 24, 8, 32⟩
def SDF_CH_THR_CFG.PERS_LO : Fld := ⟨0xC118, 16, 8, 32⟩
def SDF_CH_THR_CFG.FAULT_HI : Fld := ⟨0xC118, 4, 1, 32⟩
def SDF_CH_THR_CFG.THR_SRC : Fld := ⟨0xC118, 3, 1, 32⟩
def SDF_CH_THR_CFG.LO_EN : Fld := ⟨0xC118, 1, 1, 32⟩
def SDF_CH_THR_CFG.HI_EN : Fld := ⟨0xC118, 0, 1, 32⟩
/-- SDF_CH_STAT (R345). -/
def aSDF_CH_STAT : Nat := 0xC11C
def SDF_CH_STAT.ERR : Fld := ⟨0xC11C, 28, 4, 32⟩
def SDF_CH_STAT.RUN : Fld := ⟨0xC11C, 7, 1, 32⟩
def SDF_CH_STAT.SUPPR : Fld := ⟨0xC11C, 6, 1, 32⟩
def SDF_CH_STAT.MOD_FAULT : Fld := ⟨0xC11C, 5, 1, 32⟩
def SDF_CH_STAT.LO_SEEN : Fld := ⟨0xC11C, 3, 1, 32⟩
def SDF_CH_STAT.HI_SEEN : Fld := ⟨0xC11C, 2, 1, 32⟩
def SDF_CH_STAT.LO : Fld := ⟨0xC11C, 1, 1, 32⟩
def SDF_CH_STAT.HI : Fld := ⟨0xC11C, 0, 1, 32⟩
/-- SDF_VAL (R345). -/
def aSDF_VAL : Nat := 0xC500
def SDF_VAL.VALUE : Fld := ⟨0xC500, 0, 32, 4⟩

/-! Fields of the LOG_ registers. -/

/-- LOG_STATUS (R369). -/
def aLOG_STATUS : Nat := 0xB000
def LOG_STATUS.ERR : Fld := ⟨0xB000, 28, 4, 0⟩
def LOG_STATUS.LE_RETIRED : Fld := ⟨0xB000, 26, 2, 0⟩
def LOG_STATUS.SAT : Fld := ⟨0xB000, 17, 1, 0⟩
def LOG_STATUS.DIVZ : Fld := ⟨0xB000, 16, 1, 0⟩
def LOG_STATUS.SHADOW : Fld := ⟨0xB000, 9, 1, 0⟩
def LOG_STATUS.FAULT : Fld := ⟨0xB000, 8, 1, 0⟩
def LOG_STATUS.OVERRUN : Fld := ⟨0xB000, 3, 1, 0⟩
def LOG_STATUS.STATE : Fld := ⟨0xB000, 0, 2, 0⟩
/-- LOG_PROG_ID (R369). -/
def aLOG_PROG_ID : Nat := 0xB004
def LOG_PROG_ID.ID : Fld := ⟨0xB004, 0, 32, 0⟩
/-- LOG_ONL (R369). -/
def aLOG_ONL : Nat := 0xB008
def LOG_ONL.REJECTED : Fld := ⟨0xB008, 24, 8, 0⟩
def LOG_ONL.LAST_SEQ : Fld := ⟨0xB008, 0, 16, 0⟩
/-- LOG_PT_SEL (R369). -/
def aLOG_PT_SEL : Nat := 0xB00C
def LOG_PT_SEL.INDEX : Fld := ⟨0xB00C, 0, 18, 0⟩
/-- LOG_PT_D (R369). -/
def aLOG_PT_D : Nat := 0xB010
def LOG_PT_D.DATA : Fld := ⟨0xB010, 0, 32, 4⟩
/-- LOG_TASK_CFG (R370). -/
def aLOG_TASK_CFG : Nat := 0xB020
def LOG_TASK_CFG.CYCLE : Fld := ⟨0xB020, 16, 8, 16⟩
def LOG_TASK_CFG.ENGINE : Fld := ⟨0xB020, 15, 1, 16⟩
def LOG_TASK_CFG.N_INST : Fld := ⟨0xB020, 0, 15, 16⟩
/-- LOG_TASK_CYC (R370). -/
def aLOG_TASK_CYC : Nat := 0xB024
def LOG_TASK_CYC.COUNT : Fld := ⟨0xB024, 0, 32, 16⟩
/-- LOG_TASK_TIME (R370). -/
def aLOG_TASK_TIME : Nat := 0xB028
def LOG_TASK_TIME.MAX : Fld := ⟨0xB028, 16, 16, 16⟩
def LOG_TASK_TIME.LAST : Fld := ⟨0xB028, 0, 16, 16⟩
/-- LOG_TASK_CNT (R370). -/
def aLOG_TASK_CNT : Nat := 0xB02C
def LOG_TASK_CNT.OVERRUN : Fld := ⟨0xB02C, 16, 16, 16⟩
def LOG_TASK_CNT.ABANDONED : Fld := ⟨0xB02C, 0, 16, 16⟩

/-! Fields of the HIF_ registers. -/

/-- HIF_ID (R398). -/
def aHIF_ID : Nat := 0x0000
def HIF_ID.DEVICE : Fld := ⟨0x0000, 16, 16, 0⟩
def HIF_ID.REV : Fld := ⟨0x0000, 8, 8, 0⟩
def HIF_ID.FW : Fld := ⟨0x0000, 0, 8, 0⟩
/-- HIF_STATUS (R398). -/
def aHIF_STATUS : Nat := 0x0004
def HIF_STATUS.READY : Fld := ⟨0x0004, 31, 1, 0⟩
def HIF_STATUS.MODE_YD_PIN : Fld := ⟨0x0004, 11, 1, 0⟩
def HIF_STATUS.HOST_SEL_PIN : Fld := ⟨0x0004, 10, 1, 0⟩
def HIF_STATUS.PATH : Fld := ⟨0x0004, 9, 1, 0⟩
def HIF_STATUS.SAF_SESSION : Fld := ⟨0x0004, 7, 1, 0⟩
def HIF_STATUS.CFG_SESSION : Fld := ⟨0x0004, 6, 1, 0⟩
def HIF_STATUS.UNCOMMITTED : Fld := ⟨0x0004, 5, 1, 0⟩
def HIF_STATUS.OPSTATE : Fld := ⟨0x0004, 0, 3, 0⟩
/-- HIF_CMD_PI (R398). -/
def aHIF_CMD_PI : Nat := 0x0010
def HIF_CMD_PI.PI : Fld := ⟨0x0010, 0, 16, 0⟩
/-- HIF_CMD_CI (R398). -/
def aHIF_CMD_CI : Nat := 0x0014
def HIF_CMD_CI.IDX : Fld := ⟨0x0014, 0, 16, 0⟩
/-- HIF_RSP_PI (R398). -/
def aHIF_RSP_PI : Nat := 0x0018
def HIF_RSP_PI.IDX : Fld := ⟨0x0018, 0, 16, 0⟩
/-- HIF_EVT_PI (R398). -/
def aHIF_EVT_PI : Nat := 0x0020
def HIF_EVT_PI.IDX : Fld := ⟨0x0020, 0, 16, 0⟩
/-- HIF_RSP_CI (R398). -/
def aHIF_RSP_CI : Nat := 0x001C
def HIF_RSP_CI.CI : Fld := ⟨0x001C, 0, 16, 0⟩
/-- HIF_EVT_CI (R398). -/
def aHIF_EVT_CI : Nat := 0x0024
def HIF_EVT_CI.CI : Fld := ⟨0x0024, 0, 16, 0⟩
/-- HIF_EVT_BASE (R398). -/
def aHIF_EVT_BASE : Nat := 0x0028
def HIF_EVT_BASE.BASE : Fld := ⟨0x0028, 0, 32, 0⟩
/-- HIF_XP_BASE (R398). -/
def aHIF_XP_BASE : Nat := 0x002C
def HIF_XP_BASE.BASE : Fld := ⟨0x002C, 0, 32, 0⟩
/-- HIF_XR_BASE (R398). -/
def aHIF_XR_BASE : Nat := 0x0030
def HIF_XR_BASE.BASE : Fld := ⟨0x0030, 0, 32, 0⟩
/-- HIF_SEQ (R398). -/
def aHIF_SEQ : Nat := 0x0034
def HIF_SEQ.SEQ : Fld := ⟨0x0034, 0, 32, 0⟩
/-- HIF_INT_STAT (R398). -/
def aHIF_INT_STAT : Nat := 0x0040
def HIF_INT_STAT.READY : Fld := ⟨0x0040, 3, 1, 0⟩
def HIF_INT_STAT.ERR : Fld := ⟨0x0040, 2, 1, 0⟩
def HIF_INT_STAT.EVT : Fld := ⟨0x0040, 1, 1, 0⟩
def HIF_INT_STAT.RSP : Fld := ⟨0x0040, 0, 1, 0⟩
/-- HIF_INT_EN (R398). -/
def aHIF_INT_EN : Nat := 0x0044
def HIF_INT_EN.EN : Fld := ⟨0x0044, 0, 4, 0⟩
/-- HIF_ERR (R398). -/
def aHIF_ERR : Nat := 0x0048
def HIF_ERR.NOT_READY : Fld := ⟨0x0048, 6, 1, 0⟩
def HIF_ERR.ECC : Fld := ⟨0x0048, 5, 1, 0⟩
def HIF_ERR.WR_PROT : Fld := ⟨0x0048, 4, 1, 0⟩
def HIF_ERR.SIZE : Fld := ⟨0x0048, 3, 1, 0⟩
def HIF_ERR.HOLE : Fld := ⟨0x0048, 2, 1, 0⟩
def HIF_ERR.DB_RANGE : Fld := ⟨0x0048, 1, 1, 0⟩
def HIF_ERR.SPI : Fld := ⟨0x0048, 0, 1, 0⟩
/-- HIF_CNT (R398). -/
def aHIF_CNT : Nat := 0x004C
def HIF_CNT.EVT_LOST : Fld := ⟨0x004C, 16, 16, 0⟩
def HIF_CNT.REJECTED : Fld := ⟨0x004C, 0, 16, 0⟩

/-! Fields of the PMU_ registers. -/

/-- PMU_STATUS (R467). -/
def aPMU_STATUS : Nat := 0xB400
def PMU_STATUS.DOM_ON : Fld := ⟨0xB400, 16, 12, 0⟩
def PMU_STATUS.HOLD_OK : Fld := ⟨0xB400, 11, 1, 0⟩
def PMU_STATUS.BAT_LOW : Fld := ⟨0xB400, 10, 1, 0⟩
def PMU_STATUS.SHEDDING : Fld := ⟨0xB400, 9, 1, 0⟩
def PMU_STATUS.DIP : Fld := ⟨0xB400, 8, 1, 0⟩
def PMU_STATUS.PSTATE : Fld := ⟨0xB400, 0, 3, 0⟩
/-- PMU_RST_CAUSE (R467). -/
def aPMU_RST_CAUSE : Nat := 0xB404
def PMU_RST_CAUSE.DOMAIN : Fld := ⟨0xB404, 20, 4, 0⟩
def PMU_RST_CAUSE.WAKE : Fld := ⟨0xB404, 19, 1, 0⟩
def PMU_RST_CAUSE.D0_LOST : Fld := ⟨0xB404, 18, 1, 0⟩
def PMU_RST_CAUSE.BOR_SRC : Fld := ⟨0xB404, 8, 7, 0⟩
def PMU_RST_CAUSE.KIND : Fld := ⟨0xB404, 0, 3, 0⟩
/-- PMU_CTRL (R467). -/
def aPMU_CTRL : Nat := 0xB408
def PMU_CTRL.WAKE : Fld := ⟨0xB408, 0, 1, 0⟩
/-- PMU_WAKE_CFG (R467). -/
def aPMU_WAKE_CFG : Nat := 0xB40C
def PMU_WAKE_CFG.RTC_EN : Fld := ⟨0xB40C, 1, 1, 0⟩
def PMU_WAKE_CFG.WAKE_N_EN : Fld := ⟨0xB40C, 0, 1, 0⟩
/-- PMU_WAKE_AT (R467). -/
def aPMU_WAKE_AT : Nat := 0xB410
def PMU_WAKE_AT.S : Fld := ⟨0xB410, 0, 32, 0⟩
/-- PMU_RTC_S (R467). -/
def aPMU_RTC_S : Nat := 0xB414
def PMU_RTC_S.S : Fld := ⟨0xB414, 0, 32, 0⟩
/-- PMU_RTC_SUB (R467). -/
def aPMU_RTC_SUB : Nat := 0xB418
def PMU_RTC_SUB.VALID : Fld := ⟨0xB418, 31, 1, 0⟩
def PMU_RTC_SUB.SUB : Fld := ⟨0xB418, 0, 15, 0⟩
/-- PMU_DIP (R467). -/
def aPMU_DIP : Nat := 0xB41C
def PMU_DIP.MIN_MV : Fld := ⟨0xB41C, 16, 16, 0⟩
def PMU_DIP.RAIL : Fld := ⟨0xB41C, 8, 3, 0⟩
def PMU_DIP.COUNT : Fld := ⟨0xB41C, 0, 8, 0⟩
/-- PMU_SHED (R467). -/
def aPMU_SHED : Nat := 0xB420
def PMU_SHED.COUNT : Fld := ⟨0xB420, 24, 8, 0⟩
def PMU_SHED.SHED : Fld := ⟨0xB420, 0, 12, 0⟩
/-- PMU_VMON_SEL (R467). -/
def aPMU_VMON_SEL : Nat := 0xB424
def PMU_VMON_SEL.RAIL : Fld := ⟨0xB424, 0, 3, 0⟩
/-- PMU_VMON (R467). -/
def aPMU_VMON : Nat := 0xB428
def PMU_VMON.MIN_MV : Fld := ⟨0xB428, 16, 16, 0⟩
def PMU_VMON.MV : Fld := ⟨0xB428, 0, 16, 0⟩
/-- PMU_BOOT (R467). -/
def aPMU_BOOT : Nat := 0xB42C
def PMU_BOOT.COUNTER : Fld := ⟨0xB42C, 24, 8, 0⟩
def PMU_BOOT.SVN : Fld := ⟨0xB42C, 16, 8, 0⟩
def PMU_BOOT.MIRROR_FAIL : Fld := ⟨0xB42C, 5, 1, 0⟩
def PMU_BOOT.RECOVERY : Fld := ⟨0xB42C, 4, 1, 0⟩
def PMU_BOOT.CFG_INVALID : Fld := ⟨0xB42C, 3, 1, 0⟩
def PMU_BOOT.TRIAL : Fld := ⟨0xB42C, 2, 1, 0⟩
def PMU_BOOT.FALLBACK : Fld := ⟨0xB42C, 1, 1, 0⟩
def PMU_BOOT.SLOT : Fld := ⟨0xB42C, 0, 1, 0⟩
/-- PMU_FW_VER (R467). -/
def aPMU_FW_VER : Nat := 0xB430
def PMU_FW_VER.VERSION : Fld := ⟨0xB430, 0, 32, 0⟩
/-- PMU_CFG (R467). -/
def aPMU_CFG : Nat := 0xB434
def PMU_CFG.PHASES : Fld := ⟨0xB434, 2, 2, 0⟩
def PMU_CFG.FSW : Fld := ⟨0xB434, 0, 2, 0⟩
/-- PMU_CNT (R467). -/
def aPMU_CNT : Nat := 0xB438
def PMU_CNT.WDR : Fld := ⟨0xB438, 24, 8, 0⟩
def PMU_CNT.SAFR : Fld := ⟨0xB438, 16, 8, 0⟩
def PMU_CNT.HOLD_ABORT : Fld := ⟨0xB438, 8, 8, 0⟩
def PMU_CNT.CLK_WARN : Fld := ⟨0xB438, 0, 8, 0⟩

/-! Fields of the DIA_ registers. -/

/-- DIA_CFG (R490). -/
def aDIA_CFG : Nat := 0xB800
def DIA_CFG.CKPT_INT : Fld := ⟨0xB800, 20, 12, 0⟩
def DIA_CFG.RPL_STOP : Fld := ⟨0xB800, 4, 1, 0⟩
def DIA_CFG.REC_EVT : Fld := ⟨0xB800, 3, 1, 0⟩
def DIA_CFG.REC_PDU : Fld := ⟨0xB800, 2, 1, 0⟩
def DIA_CFG.ON_TRIP : Fld := ⟨0xB800, 1, 1, 0⟩
def DIA_CFG.HIN_EN : Fld := ⟨0xB800, 0, 1, 0⟩
/-- DIA_HARV (R490). -/
def aDIA_HARV : Nat := 0xB804
def DIA_HARV.IGNORED : Fld := ⟨0xB804, 24, 8, 0⟩
def DIA_HARV.PENDING : Fld := ⟨0xB804, 0, 4, 0⟩
/-- DIA_HARV_ID (R490). -/
def aDIA_HARV_ID : Nat := 0xB808
def DIA_HARV_ID.ID : Fld := ⟨0xB808, 0, 32, 0⟩
/-- DIA_HREC (R490). -/
def aDIA_HREC : Nat := 0xB80C
def DIA_HREC.IDX : Fld := ⟨0xB80C, 0, 4, 0⟩
/-- DIA_HREC_BASE (R490). -/
def aDIA_HREC_BASE : Nat := 0xB810
def DIA_HREC_BASE.BASE : Fld := ⟨0xB810, 0, 32, 0⟩
/-- DIA_REC_BASE (R490). -/
def aDIA_REC_BASE : Nat := 0xB814
def DIA_REC_BASE.BASE : Fld := ⟨0xB814, 0, 32, 0⟩
/-- DIA_REC_STAT (R490). -/
def aDIA_REC_STAT : Nat := 0xB818
def DIA_REC_STAT.FILL : Fld := ⟨0xB818, 24, 8, 0⟩
def DIA_REC_STAT.GAP : Fld := ⟨0xB818, 8, 1, 0⟩
def DIA_REC_STAT.PORT : Fld := ⟨0xB818, 4, 4, 0⟩
def DIA_REC_STAT.SINK : Fld := ⟨0xB818, 0, 2, 0⟩
/-- DIA_REC_WP_LO (R490). -/
def aDIA_REC_WP_LO : Nat := 0xB81C
def DIA_REC_WP_LO.WP : Fld := ⟨0xB81C, 0, 32, 0⟩
/-- DIA_REC_WP_HI (R490). -/
def aDIA_REC_WP_HI : Nat := 0xB820
def DIA_REC_WP_HI.WP : Fld := ⟨0xB820, 0, 32, 0⟩
/-- DIA_REC_LOST (R490). -/
def aDIA_REC_LOST : Nat := 0xB824
def DIA_REC_LOST.COUNT : Fld := ⟨0xB824, 0, 32, 0⟩
/-- DIA_REC_ADDR (R490). -/
def aDIA_REC_ADDR : Nat := 0xB828
def DIA_REC_ADDR.ADDR : Fld := ⟨0xB828, 0, 32, 0⟩
/-- DIA_REC_PORT (R490). -/
def aDIA_REC_PORT : Nat := 0xB82C
def DIA_REC_PORT.PORT : Fld := ⟨0xB82C, 0, 16, 0⟩
/-- DIA_RPL_STAT (R490). -/
def aDIA_RPL_STAT : Nat := 0xB830
def DIA_RPL_STAT.BUF : Fld := ⟨0xB830, 24, 8, 0⟩
def DIA_RPL_STAT.REASON : Fld := ⟨0xB830, 4, 4, 0⟩
def DIA_RPL_STAT.STATE : Fld := ⟨0xB830, 0, 3, 0⟩
/-- DIA_RPL_FRAME (R490). -/
def aDIA_RPL_FRAME : Nat := 0xB834
def DIA_RPL_FRAME.FRAME : Fld := ⟨0xB834, 0, 32, 0⟩
/-- DIA_RPL_CNT (R490). -/
def aDIA_RPL_CNT : Nat := 0xB838
def DIA_RPL_CNT.MISMATCH : Fld := ⟨0xB838, 16, 16, 0⟩
def DIA_RPL_CNT.FRAMES : Fld := ⟨0xB838, 0, 16, 0⟩
/-- DIA_RET_ENG (R490). -/
def aDIA_RET_ENG : Nat := 0xB840
def DIA_RET_ENG.ENG : Fld := ⟨0xB840, 0, 16, 0⟩
/-- DIA_RET_IO (R490). -/
def aDIA_RET_IO : Nat := 0xB844
def DIA_RET_IO.CAN : Fld := ⟨0xB844, 8, 8, 0⟩
def DIA_RET_IO.SPAN : Fld := ⟨0xB844, 4, 2, 0⟩
def DIA_RET_IO.ETH : Fld := ⟨0xB844, 0, 4, 0⟩
/-- DIA_RET_CMD (R490). -/
def aDIA_RET_CMD : Nat := 0xB848
def DIA_RET_CMD.THR : Fld := ⟨0xB848, 0, 32, 0⟩
/-- DIA_LEDGER (R490). -/
def aDIA_LEDGER : Nat := 0xB84C
def DIA_LEDGER.LOST : Fld := ⟨0xB84C, 16, 16, 0⟩
def DIA_LEDGER.CL_HEAD : Fld := ⟨0xB84C, 8, 4, 0⟩
def DIA_LEDGER.HEAD : Fld := ⟨0xB84C, 0, 7, 0⟩
/-- DIA_FLT_SEL (R490). -/
def aDIA_FLT_SEL : Nat := 0xB850
def DIA_FLT_SEL.CLASS : Fld := ⟨0xB850, 16, 3, 0⟩
def DIA_FLT_SEL.INDEX : Fld := ⟨0xB850, 0, 8, 0⟩
/-- DIA_FLT_LEVEL (R490). -/
def aDIA_FLT_LEVEL : Nat := 0xB854
def DIA_FLT_LEVEL.ERRORS : Fld := ⟨0xB854, 16, 16, 0⟩
def DIA_FLT_LEVEL.RETIRED : Fld := ⟨0xB854, 8, 1, 0⟩
def DIA_FLT_LEVEL.L : Fld := ⟨0xB854, 0, 8, 0⟩
/-- DIA_FLT_CFG (R490). -/
def aDIA_FLT_CFG : Nat := 0xB860
def DIA_FLT_CFG.WIN : Fld := ⟨0xB860, 16, 16, 4⟩
def DIA_FLT_CFG.LIMIT : Fld := ⟨0xB860, 0, 8, 4⟩

/-! Fields of the PNL_ registers. -/

/-- PNL_STATUS (R503). -/
def aPNL_STATUS : Nat := 0xBC00
def PNL_STATUS.BAND : Fld := ⟨0xBC00, 16, 3, 0⟩
def PNL_STATUS.UNKNOWN : Fld := ⟨0xBC00, 8, 1, 0⟩
def PNL_STATUS.DC_SAT : Fld := ⟨0xBC00, 7, 1, 0⟩
def PNL_STATUS.TEMP_INVALID : Fld := ⟨0xBC00, 6, 1, 0⟩
def PNL_STATUS.CRACK : Fld := ⟨0xBC00, 5, 1, 0⟩
def PNL_STATUS.HELD : Fld := ⟨0xBC00, 4, 1, 0⟩
def PNL_STATUS.TABLE_VALID : Fld := ⟨0xBC00, 3, 1, 0⟩
def PNL_STATUS.HVEN : Fld := ⟨0xBC00, 2, 1, 0⟩
def PNL_STATUS.DRIVING : Fld := ⟨0xBC00, 1, 1, 0⟩
/-- PNL_RUN (R503). -/
def aPNL_RUN : Nat := 0xBC04
def PNL_RUN.POD : Fld := ⟨0xBC04, 0, 32, 0⟩
/-- PNL_QUEUE (R503). -/
def aPNL_QUEUE : Nat := 0xBC08
def PNL_QUEUE.POD : Fld := ⟨0xBC08, 0, 32, 0⟩
/-- PNL_PEND (R503). -/
def aPNL_PEND : Nat := 0xBC0C
def PNL_PEND.POD : Fld := ⟨0xBC0C, 0, 32, 0⟩
/-- PNL_CRK (R503). -/
def aPNL_CRK : Nat := 0xBC10
def PNL_CRK.R_REF : Fld := ⟨0xBC10, 16, 16, 0⟩
def PNL_CRK.R_LOOP : Fld := ⟨0xBC10, 0, 16, 0⟩
/-- PNL_TEMP (R503). -/
def aPNL_TEMP : Nat := 0xBC14
def PNL_TEMP.TEMP : Fld := ⟨0xBC14, 0, 16, 0⟩
/-- PNL_CNT (R503). -/
def aPNL_CNT : Nat := 0xBC18
def PNL_CNT.DONE : Fld := ⟨0xBC18, 16, 16, 0⟩
def PNL_CNT.REPLACED : Fld := ⟨0xBC18, 8, 8, 0⟩
def PNL_CNT.INTERRUPTED : Fld := ⟨0xBC18, 0, 8, 0⟩
/-- PNL_BALCNT (R503). -/
def aPNL_BALCNT : Nat := 0xBC1C
def PNL_BALCNT.FRAMES : Fld := ⟨0xBC1C, 0, 16, 0⟩
/-- PNL_CFG (R503). -/
def aPNL_CFG : Nat := 0xBC20
def PNL_CFG.EN : Fld := ⟨0xBC20, 31, 1, 0⟩
def PNL_CFG.NDRV : Fld := ⟨0xBC20, 16, 3, 0⟩
def PNL_CFG.BAND_DEFAULT : Fld := ⟨0xBC20, 8, 3, 0⟩
def PNL_CFG.DRIVE_T : Fld := ⟨0xBC20, 0, 8, 0⟩
/-- PNL_TEMP_CFG (R503). -/
def aPNL_TEMP_CFG : Nat := 0xBC24
def PNL_TEMP_CFG.TEMP_EN : Fld := ⟨0xBC24, 31, 1, 0⟩
def PNL_TEMP_CFG.POINT : Fld := ⟨0xBC24, 0, 18, 0⟩
/-- PNL_BAND (R503). -/
def aPNL_BAND : Nat := 0xBC28
def PNL_BAND.T_HI : Fld := ⟨0xBC28, 16, 16, 4⟩
def PNL_BAND.T_LO : Fld := ⟨0xBC28, 0, 16, 4⟩
/-- PNL_CRK_CFG (R503). -/
def aPNL_CRK_CFG : Nat := 0xBC38
def PNL_CRK_CFG.CRK_EN : Fld := ⟨0xBC38, 31, 1, 0⟩
def PNL_CRK_CFG.STEP : Fld := ⟨0xBC38, 0, 16, 0⟩
/-- PNL_SEG_SEL (R503). -/
def aPNL_SEG_SEL : Nat := 0xBC40
def PNL_SEG_SEL.SEG : Fld := ⟨0xBC40, 0, 9, 0⟩
/-- PNL_SEG (R503). -/
def aPNL_SEG : Nat := 0xBC44
def PNL_SEG.DC : Fld := ⟨0xBC44, 16, 16, 0⟩
def PNL_SEG.POD : Fld := ⟨0xBC44, 8, 8, 0⟩
def PNL_SEG.LEVEL : Fld := ⟨0xBC44, 0, 3, 0⟩

/-- The rows of the region an address lies in. -/
def regRows (a : Nat) : List RegRow :=
  if a < 0x1000 then rowsHIF else if a < 0x9400 then rowsTIM else if a < 0x9800 then rowsFUS
  else if a < 0x9C00 then rowsCEX else if a < 0xA000 then rowsSLV else if a < 0xA400 then rowsRED
  else if a < 0xA800 then rowsSAF else if a < 0xAC00 then rowsGNS else if a < 0xB000 then rowsNET
  else if a < 0xB400 then rowsLOG else if a < 0xB800 then rowsPMU else if a < 0xBC00 then rowsDIA
  else if a < 0xC000 then rowsPNL else if a < 0xC800 then rowsSDF else if a < 0xE000 then rowsCAN
  else rowsSCX

/-- Does a row cover an address. -/
def rowCovers (r : RegRow) (a : Nat) : Bool :=
  if r.stride = 0 then a == r.base
  else decide (r.base ≤ a) && (a - r.base) % r.stride == 0 && decide ((a - r.base) / r.stride < r.count)

/-- The row of a register address, none for an unused address (R374). -/
def regRow (a : Nat) : Option RegRow := (regRows a).find? (fun r => rowCovers r a)

/-- Reset words that differ by instance: LOG_TASKt_CFG.ENGINE = t (R370), DIA_FLT_CFGc (R484),
PNL_BANDn (R503). -/
def regResetInst : List (Nat × Nat) := [
  (0xB860, 0x003C0005),
  (0xB864, 0x003C0003),
  (0xB868, 0x02580003),
  (0xB86C, 0x003C0004),
  (0xB870, 0x0E100002),
  (0xB874, 0x000A0005),
  (0xB030, 0x00008000),
  (0xBC28, 0x0000FF9C),
  (0xBC2C, 0x00C80064),
  (0xBC30, 0x0190012C),
  (0xBC34, 0x000001F4)]

/-- The value of a register after POR, BOR and XRST (R15); reserved addresses read zero. -/
def regReset (a : Nat) : Word :=
  match regResetInst.find? (fun p => p.1 == a) with
  | some p => BitVec.ofNat 32 p.2
  | none => match regRow a with
    | some r => BitVec.ofNat 32 r.rst
    | none => 0

/-- The register file: canonical, an unlisted register reads its reset word. -/
abbrev RegFile := Tab Word

end Sys2Proof.Machine
end

