-- ==== Sys2Proof/Machine/State.lean ====
section
/-!
DEFINITION. The state of the block as plain data: every register (one register file, reset words from the register
tables), the memories, and the internal state the rules give each unit; the two stop reasons; the state after reset.
-/

namespace Sys2Proof.Machine

/-- Why the block stops with a fault. No command of the table raises one: every command has an effect in every
state (safe: nothing is cut short). -/
inductive Fault where
  /-- Raised by nobody; it keeps the type inhabited. -/
  | unused
  deriving DecidableEq, Repr

/-- Why a command has no meaning. -/
inductive Refusal where
  /-- The command's meaning is not written yet. Raised by `exec` alone; safe. -/
  | notModelled (mnemonic : String)
  deriving DecidableEq, Repr

/-! ## Modes, roles and resets -/

/-- Power states (R11, R450). -/
inductive PState where
  | off | hibernate | sleep | harbour | run
  deriving DecidableEq, Repr

/-- Operating states within RUN (R11), in the order of R292. -/
inductive OpState where
  | boot | config | ready | standby | active | degraded | safe | replay
  deriving DecidableEq, Repr

/-- Reset kinds and the wake from SLEEP, in the coding of PMU_RST_CAUSE.KIND (R467). -/
inductive RstKind where
  | por | bor | xrst | wdr | srst | drst | safr | sleepWake
  deriving DecidableEq, Repr

/-- Roles (R173), in the coding of RED_ROLE.ROLE. -/
inductive Role where
  | none | ready | standby | active | isolated | zone | solo
  deriving DecidableEq, Repr

/-- Sample value formats (R405, R59); `i64` is the signed 64-bit component of a GNSS value. -/
inductive VFmt where
  | int32 | l32 | b32 | q31 | f32 | i64
  deriving DecidableEq, Repr

/-! ## What the block sends -/

/-- Where a sent message leaves the block. -/
inductive Port where
  | eth (n : Nat)        -- ETH0 to ETH3
  | span (n : Nat)       -- SPAN0, SPAN1
  | can (n : Nat)        -- a CAN controller
  | uart (n : Nat)       -- a UART transmit ball
  | msi (vector : Nat)   -- a PCIe message-signalled interrupt
  | host                 -- data returned to a host read
  | spi                  -- bytes returned on the SPI port
  | pps (n : Nat)        -- a time-pulse output
  | panel                -- the panel shift chain
  deriving DecidableEq, Repr

/-- One thing sent, with the TIME_NS it was sent at. The list of these is the model's own record of what the
ports carried; no rule reads it. -/
structure Out where
  stamp : Nat
  port : Port
  bytes : List Byte
  deriving DecidableEq, Repr

/-! ## Device time (R18 to R27) -/

/-- The time base. Values in force are held apart from the registers where the rules load them later. -/
structure TimeSt where
  ns : DWord               -- TIME_NS (R18)
  frac : Word              -- fraction, 2^-32 ns (R18)
  inc : BitVec 40          -- INC in force, 8.32 (R18)
  incLoad : Option (BitVec 40)  -- INC to load at the next CLK_TS edge (R20)
  slewLeft : Int           -- slew still to apply, 2^-32 ns (R22)
  slewRate : Nat           -- rate of the slew in progress, ppb (R22, R278)
  slewAdded : Int          -- net amount slews and steps added since the last offset, 2^-32 ns (R278)
  moved : Int              -- net amount slews and steps have added since release, 2^-32 ns (R261)
  steps : Nat              -- ms that steps have added since release (R355)
  ticks : Nat              -- CLK_TS edges since release; every other clock is derived from them (R10, R311, R334)
  frame : Nat              -- number of the frame in progress (R23)
  inFrame : Bool           -- a boundary event has occurred since boundaries last began (R279)
  cutDone : Bool           -- CUTOFF of the frame in progress has been handled (R42)
  period : Nat             -- P in force, ms (R23, R27)
  cutoff : Nat             -- CUTOFF in force, hundredths of P (R27, R28)
  retroH : Nat             -- RETRO_H in force (R27, R48)
  armed : Option (Nat × Nat)  -- armed step: boundary k and N (R24, R25)
  stepNs : Nat             -- TIME_NS of the boundary the last step produced (R51)
  deriving DecidableEq, Repr

/-! ## Configuration objects, images, sessions (R393 to R395, R402 to R407) -/

/-- A configuration object: OBJ_ID, FLAGS and body (R403). -/
structure Obj where
  id : Nat
  flags : Nat
  body : List Byte
  deriving DecidableEq, Repr

/-- An image: kind and slot of R407, and its bytes. -/
structure Img where
  kind : Nat
  slot : Nat
  bytes : List Byte
  deriving DecidableEq, Repr

/-- An open session: its id and the TIME_NS of the last command that named it (R240, R393). -/
structure Sess where
  id : Nat
  last : Nat
  deriving DecidableEq, Repr

/-- An open image transfer (R407). -/
structure Xfer where
  kind : Nat
  slot : Nat
  total : Nat
  got : List Byte
  last : Nat
  deriving DecidableEq, Repr

/-- The configuration: objects and images in force, staged and committed for loading, sessions, transfer. -/
structure CfgSt where
  objs : List Obj                 -- in force, ascending OBJ_ID (R406)
  imgs : List Img                 -- in force, ascending kind and slot
  staged : List Obj               -- staged by the configuration session
  stagedImgs : List Img
  safStaged : List Obj            -- staged by the safety session (R240)
  load : Option (List Obj)        -- committed, to load at the next boundary (R395)
  fresh : List (Nat × Nat)        -- kind and slot of the images that load with it
  cfgSess : Option Sess
  safSess : Option Sess
  issued : List Nat               -- session ids issued since the last POR (R393)
  uncommitted : Bool              -- HIF_STATUS.UNCOMMITTED (R394)
  xfer : Option Xfer
  deriving DecidableEq, Repr

/-- A message buffer (R316, R434). -/
structure YdMb where
  cfg : Nat
  stat : Nat
  id : Nat
  mask : Nat
  data : List Byte
  deriving DecidableEq, Repr

/-- What the OSPI flash holds of the structured kinds (R460): the two configuration copies with the current one
named by the directory, the two firmware slots, the change log, the YD-22 area, the GNSS area. Byte areas
(change log ring, recorder ring) are in memory. -/
structure FwSlot where
  valid : Bool             -- verifies under R461
  svn : Nat
  version : Nat
  failed : Bool            -- marked failed on trial (R463)
  deriving DecidableEq, Repr

structure FlashSt where
  objs : Option (List Obj)        -- current configuration copy; none: invalid or absent (R465)
  imgs : List Img                 -- images of the configuration
  old : Option (List Obj)         -- the other copy
  gen : Nat                       -- generation of the current directory page (R460)
  copy : Nat                      -- configuration copy named by the directory
  fw0 : FwSlot
  fw1 : FwSlot
  bootSlot : Nat                  -- named by the directory
  trial : Bool
  yd : Option (Tab (BitVec 16) × Tab YdMb)  -- saved YD-22 registers (R416)
  alm : List (Nat × Nat)          -- GNSS area: almanac
  eph : List (Nat × Nat × Nat)    -- ephemerides
  pos : Option (Int × Int)        -- last position
  wait : List Nat                 -- objects in force whose write waits for a dip to end (R445)
  deriving DecidableEq, Repr

/-! ## Host interface (R372 to R398) -/

/-- A command taken and not yet answered (R382, R386). -/
structure Taken where
  op : Nat
  seq : Nat
  cmd : HCmd
  begun : Bool             -- it has started and waits (R382, R445, R482)
  deriving DecidableEq, Repr

/-- An event whose record waits for READY (R389, R396). -/
structure Evt where
  time : Nat
  frame : Nat
  src : Nat
  low : Nat
  sev : Nat
  tag : Option Nat
  data : List Byte
  deriving DecidableEq, Repr

/-- Host-interface state beside the HIF_ registers. -/
structure HifSt where
  ready : Bool              -- HIF_STATUS.READY
  taken : List Taken        -- taken, not answered, oldest first
  curTag : Option Nat       -- tag of the command being executed
  evtSeq : Nat              -- records written since SV last restarted (R390)
  evtLost : Nat             -- discarded since EVENTS_LOST was last written (R389)
  held : List Evt           -- events detected while READY = 0, oldest first
  quad : Bool               -- SPI port mode (R378)
  spiErr : Bool             -- ERR of the SPI status byte (R379)
  pendTags : List Nat       -- tags a RESTART record still has to name (R396)
  rstKind : Nat             -- KIND of the RESTART to come
  rstDom : Nat
  deriving DecidableEq, Repr

/-! ## Power, supervision, D0 and faults (R11, R439 to R467, R484 to R489) -/

/-- Power and supervision state beside the PMU_ registers. Rails in the order VIN, VCORE, VSRAM, VSER, VIO18,
VIO33, VBAT, VHOLD. -/
structure SysSt where
  yd : Bool                -- the YD-22 personality is in force (R2, R464)
  hostSel : Bool           -- the host path in force: SPI (R372, R464)
  strapYd : Bool           -- MODE_YD as sampled (R2)
  strapHost : Bool         -- HOST_SEL as sampled (R2)
  pinYd : Bool             -- level on MODE_YD
  pinHost : Bool           -- level on HOST_SEL
  held : Option RstKind    -- reset being held (R442, R449)
  clock : Bool             -- TCXO present and root PLL locked (R442)
  domOn : Nat              -- bit d: Dd powered (R11)
  mv : List Nat            -- present rail voltages, mV
  mvMin : List Nat         -- minima since PMU_VMON was last read for the rail (R467)
  low : Nat                -- rails whose warning is in force, mask (R443)
  dipRail : Nat            -- rail whose crossing began the dip (R445)
  dipMin : Nat             -- its lowest voltage over the dip, mV
  dipFrom : Nat            -- TIME_NS of the first crossing (R446)
  recovered : Nat          -- TIME_NS at which every rail had recovered (R447)
  holdOk : Bool            -- VHOLD at or above 10.5 V (R448)
  shed : Nat               -- domains shed in the episode, whether restored or not (R446)
  back : Nat               -- domains restored since recovery (R447)
  rtc : Nat                -- D0 RTC in 8 ns periods of TAI since the PTP epoch (R467)
  rtcValid : Bool
  seq : Bool               -- the power-up sequence has begun (R442)
  railFails : Nat          -- power-up failures in a row (R442)
  pmuStop : Bool           -- the PMU stays off until VIN falls below 2.5 V (R442)
  rstReq : Option (RstKind × Nat)  -- reset requested and not yet performed, with its domain (R454, R456)
  pwrReq : Option PState   -- power state asked for, entered once a dip is over (R451)
  wdrAt : List Nat         -- RTC seconds of the last WDRs (R454)
  kind : RstKind           -- the reset whose BOOT is in progress or has ended (R463)
  recovery : Bool          -- recovery mode (R464)
  opBefore : OpState       -- operating state held before HARBOUR (R452)
  d0Lost : Bool            -- D0 has lost its contents since the last POR (R459)
  otpCtr : Nat             -- fuses burnt of the anti-rollback mirror (R462)
  pcieRsts : Nat           -- resets of the PCIe endpoint: the host has set up its configuration space since the last (R377, R396)
  deriving DecidableEq, Repr

/-- A ledger request (R487, R489). -/
structure LedReq where
  time : Nat
  frame : Nat
  type : Nat
  data : List Byte
  deriving DecidableEq, Repr

/-- The D0 ledger header (R487), the request queue (R489), and the other D0 values (R457). -/
structure D0St where
  head : Nat
  clHead : Nat
  epochHi : Nat
  clSeq : Nat
  pwFails : Nat
  arCtr : Nat
  nextSeq : Nat
  lost : Nat
  queue : List LedReq
  lostNew : Nat            -- dropped since the last LOST entry (R489)
  holdAbort : Nat          -- PMU_CNT.HOLD_ABORT as kept in D0 (R467)
  deriving DecidableEq, Repr

/-- A fault channel (R484): bucket level, errors counted, retired. -/
structure FltCh where
  level : Nat
  errors : Nat
  retired : Bool
  deriving DecidableEq, Repr


/-! ## Stream contexts (R36 to R43) -/

/-- Quality states of a stream context (R39), in the coding of SCX_STAT.QSTATE. -/
inductive QState where
  | off | empty | acquiring | locked | timeSuspect | stale | retired
  deriving DecidableEq, Repr

/-- A value formed at F(k) (R42) with what R69 and R89 ask of it. -/
structure CtxVal where
  x : List Int             -- value components
  q : List Nat             -- quality words of the newest sample used
  oldest : Int             -- oldest stamp used (R89)
  newest : Int             -- newest stamp used (R69)
  extrap : Bool            -- extrapolated (R69)
  deriving DecidableEq, Repr

/-- A buffered sample (R40). -/
structure Sample where
  t : Int                  -- stamp, TIME_NS
  fmt : VFmt
  x : List Int             -- value components
  v : List Int             -- rate components, LSB per second (R42); empty without RATE
  q : List Nat             -- quality words
  deriving DecidableEq, Repr

/-- A stream context: what its registers do not show. -/
structure Ctx where
  q : QState
  localMode : Bool         -- MODE in force since the last enabling (R40)
  cwidth : Nat             -- counter width in force, bits
  tick : Nat               -- TICK in force, 2^-16 ns
  hermite : Bool           -- HERMITE in force
  ofs : Int                -- ofs of R37
  uRef : Int               -- u_ref of R37
  uPrev : Int              -- u of the previous sample (R37)
  drift : Int              -- drift, 2^-40 (R37)
  unc : Nat                -- UNC, ns (R37)
  nOk : Nat                -- N_OK (R38)
  last16 : List Int        -- last residuals, oldest first (R37)
  env : List (Int × Int)   -- envelope e and u of the last 16 samples, oldest first (R37)
  buf : List Sample        -- sorted by stamp, at most 8 (R40)
  value : Option CtxVal    -- value at the last boundary (R42)
  hist : List (Option (List Int))  -- value components at the last 64 boundaries, newest first (R43)
  conflict : Bool          -- member of a pair that raised TIME_CONFLICT (R43)
  deriving DecidableEq, Repr

/-- A sample that waits for, or has been through, retrodiction (R48). -/
structure RetroS where
  ctx : Nat
  s : Sample
  node : Nat               -- source, for the manifest (R177)
  stream : Nat
  frame : Nat              -- frame in whose slack it is judged
  listed : Bool            -- taken from the holder's supplement (R52)
  deriving DecidableEq, Repr


/-! ## Observer, fusion and checkpoints (R49, R55 to R92, R102 to R106) -/

/-- The observer state (R102): positions in 2^-32 mm, heading B32, the rest F32. -/
structure ObsX where
  etaN : Int
  etaE : Int
  etaP : Nat
  u : Int
  v : Int
  r : Int
  b : List Int             -- bias N, E, yaw
  xi : List Int            -- n1 n2 e1 e2 p1 p2
  deriving DecidableEq, Repr

/-- The covariances of R105, binary32. -/
structure ObsP where
  nn : Word
  ne : Word
  ee : Word
  ph : Word
  deriving DecidableEq, Repr

/-- Reference states (R56). -/
inductive RefState where
  | off | noValue | imageFault | kUnsupported | offgrid | qzero | rejected | disagree | contrib
  deriving DecidableEq, Repr

/-- What refinement of one reference has accumulated in the current minute (R62), binary32, oldest frame first. -/
structure RefAcc where
  rows : List (List Word)  -- per frame: the residual components, then J per component and parameter
  frozen : Bool            -- R63
  single : Bool            -- a frame with fewer than two heading references CONTRIB
  deriving DecidableEq, Repr

/-- A reference as fusion carries it (R92). -/
structure RefSt where
  state : RefState         -- state shown (R56)
  rej : Bool               -- REJECTED, whatever state is shown (R83)
  disCnt : Nat
  agreeCnt : Nat
  anchor : Option (List Int)   -- anchor set at admission, NED mm
  lever : List Int             -- refined minus surveyed, mm
  mount : List Int             -- refined minus surveyed yaw, pitch, roll, B32 units
  nextLever : List Int         -- values that take effect at the next boundary (R64)
  nextMount : List Int
  acc : RefAcc
  readmit : Bool               -- CONTRIB from the next boundary (R83)
  deriving DecidableEq, Repr

/-- The fusion output of a frame (R87). -/
structure FixRec where
  frame : Nat
  north : Int
  east : Int
  heading : Nat
  varNN : Word
  covNE : Word
  varEE : Word
  varHdg : Word
  age : Nat
  contrib : Nat
  disagree : Nat
  rejected : Nat
  flags : Nat
  k : Nat
  nModes : Nat
  ratio : Nat
  cN : Int
  cE : Int
  deriving DecidableEq, Repr

/-- The fusion state carried from frame to frame (R92) and the last record. -/
structure FusSt where
  refs : List RefSt
  k : Nat
  kLow : Nat               -- consecutive frames in which K could fall (R66)
  drMs : Nat               -- DR time, ms
  fixRun : Nat             -- consecutive frames with a fix (R85)
  hfixRun : Nat            -- consecutive frames with a heading fix
  posUnc : Bool            -- POSITION_UNCERTAIN in force
  refConf : Bool
  hdgConf : Bool
  autoReadmit : Bool       -- in force (R92, R93)
  mru : Option (Nat × Nat × Nat)   -- roll, pitch, F(k) of the last MRU value
  imgBad : List Nat        -- encoder slots in fault (R76)
  imgNew : List Nat        -- those of them found in the frame in progress: they act from the next (R76)
  last : FixRec            -- record written last
  doneK : Option Nat       -- frame whose fusion phase has ended
  deriving DecidableEq, Repr

/-- The observer between frames: committed state, prediction, covariances made for the next frame. -/
structure ObsSt where
  x : ObsX                 -- x(k)
  pred : ObsX              -- x-(k+1), or x-(k) before the correction of frame k
  p : ObsP
  ndr : Nat                -- frames without a fix (R105)
  tauWind : List Int       -- F32 wind force used by the propagation
  deriving DecidableEq, Repr

/-- A frame's checkpoint (R49): the stream contexts as they stood at CUTOFF, the fusion and observer state the frame
started from, the force applied in it, and the samples retrodiction holds for it. -/
structure Ckpt where
  frame : Nat
  ctx : Tab Ctx
  fus : FusSt
  obs : ObsSt
  tauApp : List Int
  x : ObsX                 -- committed
  fix : FixRec
  deriving DecidableEq, Repr



/-! ## Solver and allocation (R133 to R171) -/

/-- An MPC result in force or waiting to commit (R111, R150). -/
structure MpcRes where
  k0 : Nat
  m : Nat                  -- M of its period
  u : List (List Word)     -- step forces X, Y, N
  stat : Nat               -- status word (R145)
  setAt : Nat              -- frame from which it is in force
  deriving DecidableEq, Repr

/-- What an allocation solve yields: commands, achieved force, planned powers, degrees not achieved (R160). -/
structure SlotOut where
  t : List Word            -- thrust by thruster
  ang : List Nat           -- azimuth or rudder angle by thruster, B32
  q : List Word            -- split variable by thruster (R154)
  ach : List Word          -- achieved X, Y, N
  sec : List Word          -- p_s by section
  notAch : List Bool
  deriving DecidableEq, Repr

/-- A slot of a frame. -/
structure SlotSt where
  u : Nat                  -- U_i
  w : Nat                  -- W_i
  run : Bool               -- to be solved in this frame
  degen : Bool
  it0 : SlotOut            -- projected iterate 0
  its : List (Option SlotOut)  -- committed iterate as of each completed iteration (R146)
  out : Option SlotOut     -- the result returned
  stat : Nat
  deriving DecidableEq, Repr

/-- A command of a stream as sent (R32, R287). -/
structure Sent where
  thr : Nat
  ver : Nat
  t : Word
  ang : Nat
  deriving DecidableEq, Repr

/-- The allocation of a frame, kept until its commands have applied and its record is written. -/
structure AllocSt where
  k : Nat
  demand : List Word
  thr : Nat                -- thrusters available at the snapshot
  sect : Nat               -- sections available
  stale : Nat              -- sections that used P_FALLBACK
  avail : List Word        -- avail_s
  short : Nat              -- sections whose limit was raised
  sched : Bool             -- solved in the SCHED style (R135)
  lin : List (Word × Nat)  -- T0 and α0 by thruster, taken as the allocation starts (R159)
  started : Bool           -- the allocation phase has begun
  slots : List SlotSt
  todo : List Nat          -- slots no engine has taken yet, in order (R136)
  busy : List (Nat × Nat)  -- solver engines at work, each with its slot (R136)
  pass : Nat               -- slots that SF5 passed
  compared : Bool          -- SF5 has compared the words of the frame
  sent : Option Nat        -- slot sent in the regular dispatch
  first : Bool             -- the first COMMAND PDU has been sent
  cmds : List Sent         -- latest command of each stream
  promo : Option Nat       -- promotion waiting for the dispatch
  sup : Nat                -- slot of the last supersede + 16 × its version
  supd : Bool
  promoted : Bool
  written : Bool           -- its record has been written
  deriving DecidableEq, Repr

/-- The latest STATUS of a thruster (R291, R293). -/
structure ThrStat where
  frame : Nat              -- frame it was listed in
  st : Nat                 -- state code; 0 READY
  t : Word
  ang : Nat
  deriving DecidableEq, Repr

/-- The latest report of a section's power-management pier (R156, R163). -/
structure SectStat where
  at_ : Nat                -- TIME_NS of the report
  on : Bool
  avail : Word
  deriving DecidableEq, Repr

/-- What an MPC problem is formed from beside its object (R147, R149, R168, R169). -/
structure MpcProb where
  x0 : List Word           -- x(0)
  d : List Word            -- the constant disturbance
  xref : List (List Word)  -- x_ref of steps 1 to N_H
  warm : List (List Word)  -- inputs of the result in force, shifted one step
  prev : List Word         -- the input dropped by the shift
  poly : List (List Word × Word)   -- the rows g · u ≤ h of the slot's polytope
  soft : Bool              -- those rows are soft: a scenario MPC
  deriving DecidableEq, Repr

/-- The generator state after the step of frame k0-1 (R147): north and east in 2^-32 mm, heading in B32, and their velocities. -/
structure MpcRef where
  p : List Int
  v : List Word
  deriving DecidableEq, Repr

/-- An MPC or scenario MPC in progress (R44, R150, R169). -/
structure MpcRun where
  k0 : Nat
  spec : Bool              -- speculative: the observer of k0 has not committed
  pred : ObsX              -- the state it started from
  prob : MpcProb
  eng : Nat                -- the solver engine it runs on, 0 or 1 (R136)
  stop : Option MpcRes     -- stopped, waiting to commit
  deriving DecidableEq, Repr

/-- An MPC commit as a manifest lists it (R151): k0, status word, step forces. -/
structure MpcE where
  k0 : Nat
  stat : Nat
  u : List (List Word)
  deriving DecidableEq, Repr

/-- Solver state. -/
structure SlvSt where
  allocs : List AllocSt    -- newest first
  thr : List (Option ThrStat)
  sect : List (Option SectStat)
  excl : Nat               -- thrusters excluded by host software
  deadPath : Nat           -- thrusters whose command path is retired (class 5)
  lost : Nat               -- thrusters lost since the last snapshot
  sLost : Nat              -- sections lost since the last snapshot
  base : List (Option (Word × Nat))  -- thrust and azimuth dispatched last, by thruster
  mpc : Option MpcRun
  scen : Option (Nat × MpcRun)  -- scenario MPC in progress: its slot and run
  mpcOwn : Option MpcRes   -- a follower's own result, kept for comparison with the listed one (R151)
  mpcLst : Option MpcE     -- the listed result that the own one of its period is still to be compared with (R151)
  mpcSnap : Option AllocSt -- the allocation of frame k0-1, for the polytopes of the period (R168)
  mpcPrev : Option AllocSt -- that of the period before
  k0X : ObsX               -- the observer state committed at the start of the period, and its wind force (R169)
  k0Wind : List Int
  mpcRef : MpcRef          -- references of the period (R147)
  scenK : Option Nat       -- the period whose scenario MPC has started (R136)
  scenNext : Nat           -- slot solved last
  capWarn : Int            -- CAP_WARN in force
  mpcBad : Bool            -- MPC schedule failed its check
  pipe : Option Nat        -- frame from which allocation runs in PIPE style for SCHED_FAULT (R135)
  deriving DecidableEq, Repr



/-! ## Control engines (R94 to R132) -/

/-- A profile generator (R119): `p` in 2^-32 mm, a B32 heading, or an arc length in 2^-32 mm. -/
structure Gen where
  p : Int
  v : Word
  a : Word
  target : Int
  factor : Word            -- |cos| or |sin| of the direction of the last target
  deriving DecidableEq, Repr

/-- A waypoint (R123). -/
structure Waypoint where
  n : Int
  e : Int
  speed : Word
  radius : Word
  course : Bool
  hdg : Nat
  deriving DecidableEq, Repr

/-- The control state of the checkpoint (R95). -/
structure CexSt where
  obs : ObsSt
  commitK : Option Nat     -- frame whose observer has committed
  propOwed : Bool          -- the propagation is deferred to 0 to CUTOFF of the next frame (R96)
  lawK : Option Nat        -- frame whose control law has ended
  retroX : Option ObsX     -- corrected state of a pass applied (R50)
  func : Nat
  autoHdg : Bool
  spU : Int                -- AUTO_HEADING speed set-points, F32
  spV : Int
  limits : List Word       -- VMAX AMAX JMAX linear, VMAX AMAX JMAX heading
  gN : Gen
  gE : Gen
  gH : Gen
  gS : Gen                 -- track generator on arc length
  track : List Waypoint    -- track object
  path : List Waypoint     -- the path of the track in force, the entry point first; positions in 2^-32 mm
  leg : Nat
  integ : List Int         -- i(x), i(y), i(n), F32
  ff : List Int            -- ff(x), ff(y), ff(n) as formed in the last frame, F32 (R108)
  tauPrev : List Int       -- demand of the previous frame, F16
  clampHold : List Bool    -- in the previous frame the demand was clamped with the sign of e_pos (R109)
  notAch : List Bool       -- degrees allocation reported as not achieved (R109)
  lawMpc : Bool            -- the law in force is the MPC's (R111)
  lawN : Nat               -- n of the law blend, 0 none (R112)
  lawFrom : List Int       -- demand the blend starts from
  joy : List Int           -- last joystick values, F16
  joyMs : Nat              -- ms since the joystick context last formed a value
  joyN : Nat               -- n of its blend to 0
  wind : Option (List Int × Nat)   -- last wind value, its speed as binary32 bits, and its F(k)
  region : Nat
  regFrom : Nat
  fadeN : Nat
  degr : Bool              -- degraded set targeted
  gains : List Int         -- gains in force, 24 F16 in the order of the region object
  gainsFrom : List Int
  profOwe : Bool           -- the generator owes a step (R96)
  capt : Nat               -- since the last profile step: bit 0 position captured, 1 heading captured, 2 function command applied; told of
                           -- by a step that was undone: 3 WAYPOINT, 4 TRACK_END (R96)
  tauApp : List Int        -- achieved force of the allocation that applies in this frame, normalised F32
  mpc : Option MpcRes      -- the MPC result in force
  stale : Bool             -- MPC_STALE in this frame
  intHold : Bool           -- a hold(j) is true in this frame (R109)
  wasLate : Bool           -- the observer of this frame was late (R29)
  demand : List Word       -- last demand handed over, binary32
  returning : List Nat     -- control engines that return at the next boundary (R97)
  moving : Bool            -- work moves at the next boundary (R96)
  ckpts : List Ckpt        -- checkpoints, oldest first (R49)
  retroRun : Option (List RetroS)   -- retrodiction pass in progress (R49)
  retroRes : Option (List Ckpt × ObsX)  -- finished pass of a follower, adopted on the holder's word (R52)
  deriving DecidableEq, Repr



/-! ## Recorder (R473 to R478) -/

/-- A staged recorder entry, or one fragment of it: the sink and port in force when it was staged, and its bytes (R473, R477). -/
structure RecEntry where
  sink : Nat
  port : Nat
  bytes : List Byte
  deriving DecidableEq, Repr

/-- Recorder state. -/
structure RecSt where
  sink : Nat               -- sink in force (R477)
  port : Nat
  req : Option (Nat × Nat) -- REC_CTRL waiting for its boundary
  staged : List RecEntry   -- oldest first
  into : Nat               -- bytes of the oldest entry already written in a block
  gapNew : Nat             -- entries refused since the last MARK 4 (R474)
  bseq : Nat               -- BSEQ of the next block (R475)
  wp : Nat                 -- byte offset of the next block in the flash ring
  startAt : Nat            -- TIME_NS of the recording start (R477)
  ckptAt : Nat             -- TIME_NS of the last CHECKPOINT staged
  deriving DecidableEq, Repr


/-! ## Network and PTP (R269 to R298) -/

/-- A rational number; the servo's arithmetic is exact (R278). -/
structure Q where
  n : Int
  d : Nat
  deriving DecidableEq, Repr

/-- A PTP master heard in a domain (R275, R276). -/
structure Master where
  ann : Ann                -- its last Announce
  ends : Nat               -- TIME_NS at which announceReceiptTimeout runs out
  deriving DecidableEq, Repr

/-- A path delay as it is measured (R277). -/
structure PathSt where
  req : Option (Nat × Int) -- delay request out: SEQ and t3 (end to end) or t1 (peer to peer)
  last16 : List Int        -- last16d
  n : Nat                  -- n_delay
  mpd : Int
  deriving DecidableEq, Repr

/-- A tracked domain (R276, R277). -/
structure DomSt where
  masters : List Master
  offRate : List (Nat × Nat) -- source and port of masters that send Sync at a rate that is not accepted (R275)
  best : Option Master     -- the parent the BMCA selects
  nMeas : Nat              -- accepted offset measurements since the grandmaster appeared, at most 16
  usableAt : Option Nat    -- TIME_NS since which it has been USABLE without interruption
  paths : List PathSt      -- end to end: entry 0 is the domain's; peer to peer: one for each Ethernet port
  last : Option Int        -- last offset o
  deriving DecidableEq, Repr

/-- The servo (R278 to R281). -/
structure PtpSt where
  pri : DomSt
  sec : DomSt
  y : Q                    -- frequency correction, ppb
  prev : Option (Int × Int) -- o(n-1) and its t2; none: the next measurement sets it
  nFwd : Nat
  good : Nat               -- consecutive measurements within LOCK_THR
  bad : Nat                -- consecutive measurements beyond 4 × LOCK_THR
  transAt : Nat            -- TIME_NS at which TRANSITION began
  incs : List (Nat × Nat)  -- INC values written while LOCKED, with the time spent in LOCKED at the write
  lockNs : Nat             -- time spent in LOCKED up to the last entry, ns
  lockAt : Nat             -- TIME_NS of the last entry into LOCKED
  started : Bool           -- a domain has been selected since the servo restarted
  holdSel : Nat            -- domain selected when HOLDOVER was entered
  seq : Nat                -- sequence number of the PTP messages sent
  stepR : Int              -- remainder of the armed step, ns (R24)
  deriving DecidableEq, Repr

/-- A sentence group of IEC 61162-450 being assembled (R295). -/
structure Grp450 where
  slot : Nat
  src : List Byte
  id : Nat
  total : Nat
  next : Nat               -- number of the next line
  lines : List (List Byte)
  deriving DecidableEq, Repr

/-- Network state beside the NET_ registers. -/
structure NetSt where
  seen : List (Nat × Nat × Nat × Nat)   -- NODE, TYPE, SEQ and arrival of accepted PDUs (R271)
  lastSeq : List (Nat × Nat)            -- last SEQ by sender, type and path (R285)
  seqOut : List Nat                     -- own SEQ by type (R283)
  harvIds : List (Nat × Nat × Nat)      -- ORIGIN, ID and time of recent HARVEST PDUs (R294)
  grps : List Grp450
  ptp : PtpSt
  deriving DecidableEq, Repr



/-! ## Redundancy (R172 to R213) -/

/-- A STATUS PDU received (R291). -/
structure StatIn where
  node : Nat
  at_ : Nat                -- ingress TIME_NS
  frame : Nat              -- frame of its header
  epoch : Nat              -- E_hi
  bytes : List Byte        -- payload
  deriving DecidableEq, Repr

/-- The latest LEASE of a unit (R194) and the own frames in which one last came on the network and on a span. -/
structure LeaseSt where
  node : Nat
  epoch : Nat
  role : Nat
  holder : Nat
  health : Nat
  flags : Nat
  validTo : Nat
  atFrame : Nat
  digest : Nat
  piersSeen : Nat
  hash : Nat
  links : Nat
  reason : Nat
  mis : Nat
  net : Option Nat
  span : Option Nat
  deriving DecidableEq, Repr

/-- A span (R176). -/
structure SpanSt where
  up : Bool
  last : Option Nat        -- own frame in which a correct LEASE last came
  run : Nat                -- consecutive frames with one
  rxSeq : Nat              -- SEQ of the last LEASE received
  sent : List (Nat × Nat)  -- SEQ and TIME_NS of the last LEASEs sent
  rtt : Nat                -- ns
  deriving DecidableEq, Repr

/-- Sample, host-command and MPC entries of a manifest (R180). -/
structure SampE where
  ctx : Nat
  role : Nat
  unc : Nat
  stamp : Nat
  value : List Byte
  deriving DecidableEq, Repr

structure CmdE where
  op : Nat
  sess : Nat
  tag : Option Nat         -- the host's tag, on the unit that took the command
  payload : List Byte
  deriving DecidableEq, Repr

/-- A manifest's main part (R178 to R180). -/
structure Manifest where
  node : Nat
  epoch : Nat
  frame : Nat
  flags : Nat
  stepAt : Nat
  stepN : Nat
  slotStat : List Nat
  samples : List SampE
  stats : List (Nat × List Byte)
  cmds : List CmdE
  mpc : Option MpcE
  deriving DecidableEq, Repr

/-- A manifest part being received (R178). -/
structure ManRx where
  span : Nat               -- port it came on: a copy of each span is gathered by itself (R182)
  node : Nat
  epoch : Nat
  frame : Nat
  part : Nat
  count : Nat
  segs : List (Nat × List Byte)
  deriving DecidableEq, Repr

/-- A host command listed for a frame (R115, R400). -/
structure Listed where
  frame : Nat
  cmd : CmdE
  deriving DecidableEq, Repr

/-- A command stream of the holder as observed (R186). -/
structure ObsCmd where
  frame : Nat
  slot : Nat
  stat : Nat
  ver : Nat
  thr : Nat
  t : Word
  ang : Nat
  deriving DecidableEq, Repr

/-- A state image being received (R207). -/
structure ImgRx where
  b : Nat                  -- its frame
  total : Nat
  crc : Nat
  segs : List (Nat × List Byte)
  deriving DecidableEq, Repr

/-- What a standby keeps to derive a frame again (R184). -/
structure Redo where
  frame : Nat
  fus : FusSt
  cex : CexSt
  cmds : List CmdE
  law : Option CexSt       -- the control state before the law of the frame ran (R96)
  deriving DecidableEq, Repr

/-- Redundancy state beside the RED_ registers. -/
structure RedSt where
  leases : List (Option LeaseSt)   -- by unit
  spans : List SpanSt
  validTo : Option Nat     -- v of R191
  holdSpan : Option Nat    -- own frame of the last holder LEASE on a span
  holdNet : Option Nat     -- own frame of the last holder LEASE or COMMAND PDU on the network
  holdLease : Option Nat   -- own frame of the last holder LEASE on either path (R195)
  dispAt : Option Nat      -- own frame of the last COMMAND PDU of the current epoch (R197)
  dispOld : Option Nat     -- own frame of the last one in an earlier frame than that
  await : Bool             -- silence proven at the last decision, another unit the successor: its manifest is followed (R197)
  claimAt : Option Nat     -- own frame of the last LEASE of another unit claiming ACTIVE, ZONE or SOLO (R192)
  bootAt : Nat             -- frame in which BOOT ended (R192, R195)
  declHolder : Bool        -- a declaration of the holder since the last decision
  declare : Nat            -- own declaration in force: REASON, 0 none (R199)
  safeTrip : Bool          -- SAFE_TRIP set in LEASEs
  safeDue : Bool           -- SAFE is entered at the next boundary (R199, R232)
  plan : Option (Nat × Nat × Bool)   -- planned transfer or handback (true): AT_FRAME, unit
  inbox : List StatIn      -- STATUS PDUs not yet listed
  used : List StatIn       -- listed for the frame in progress
  piers : List (Nat × Nat)           -- node, own frame of its last STATUS
  silent : List (Nat × Nat)          -- node, TIME_NS of its last STATUS reporting LEASE_SILENT
  starved : List (Nat × Nat)         -- starved nodes with the epoch each has accepted
  pierEpoch : List (Nat × Nat)       -- accepted epoch by node (R204)
  zonePiers : List Nat     -- nodes a ZONE unit has taken (R204)
  lateCmd : List (Nat × Nat)         -- last LATE_CMD by node (R484)
  thrStat : Option Nat     -- own frame of the last thruster STATUS (R199)
  listQ : List Listed      -- host commands listed and not yet applied
  cmds : List CmdE         -- host commands of the frame in progress, from its CUTOFF on
  late : Nat               -- FLAGS bits of the frame in progress (R179)
  latePrev : Nat           -- of the frame before
  rx : List ManRx
  man : Option Manifest    -- main part used in the frame in progress
  nextMan : Option Manifest  -- complete main part that waits for CUTOFF
  prevMan : List Byte      -- own or followed main part of the frame before, for MANIFEST_TAIL
  fctx : Tab Ctx           -- contexts as listed, while following (R183)
  following : Bool         -- the frame in progress is followed
  unfol : List Nat         -- recent unfollowable frames (R185)
  mpcSent : Option MpcE    -- MPC result committed since the last manifest (R151)
  obs : List ObsCmd        -- observed commands of recent frames
  digest : Nat             -- CMD_DIGEST
  digSent : Nat            -- CMD_DIGEST of the own LEASE of the frame in progress (R189)
  epochAt : Nat            -- own frame in which the epoch known was taken (R204)
  misShown : Option Nat    -- a count that R189 has been applied to, until a LEASE has carried it
  concluded : Option Nat   -- frame whose comparison concluded last
  matchRun : Nat           -- consecutive MATCH frames while DISAGREE is raised (R189)
  redo : List Redo         -- for the frame in progress and the one before
  reqAt : Option Nat       -- own frame of the image request in force (R206)
  imgWait : List Nat       -- units whose request waits
  imgRx : Option ImgRx
  catchB : Option Nat      -- b of an adopted image not yet caught up (R209)
  manBuf : List Manifest   -- manifests buffered for catch-up
  nextSlice : Nat          -- engine of the next test slice (R211)
  slices : Nat             -- slices passed since the last whole second
  ecc : Nat                -- corrected ECC errors since the last whole second
  clkWarn : Bool           -- clock monitor warning since the last whole second
  supplyAt : Option Nat    -- TIME_NS of the last supply warning
  sasbAt : Option Nat      -- TIME_NS of the last SA/SB mismatch
  deriving DecidableEq, Repr




/-! ## Safety (R215 to R242) -/

/-- A trip on its way through the mailbox (R234). -/
structure TripMsg where
  chan : Nat               -- channel that sets its latches: 0 SA, 1 SB
  groups : Nat
  deriving DecidableEq, Repr

/-- One frame's SF2 quantities (R224). -/
structure Sf2Rec where
  frame : Nat
  ePos : Nat               -- mm
  pos : Bool               -- the frame lies in a position-evaluating function
  deriving DecidableEq, Repr

/-- The comparison word of a channel (R229). -/
structure SafWord where
  frame : Nat
  word : List Byte
  pass : List Nat          -- slots whose commands it passed
  deriving DecidableEq, Repr

/-- The stored password (R238): salt and PBKDF2 output. -/
structure PwRec where
  salt : List Byte
  hash : List Byte
  deriving DecidableEq, Repr

/-- Safety state beside the SAF_ registers; index 0 is SA, 1 is SB. -/
structure SafSt where
  latch : List Nat         -- group latches by channel
  out : List Nat           -- outputs energised by channel
  words : List (Option SafWord)
  msgs : List TripMsg
  diffAt : List (Option Nat)  -- by pair: TIME_NS since which its inputs differ (R222)
  rise : List (Nat × Nat)  -- by pair: TIME_NS at which A and B were last energised
  seenOff : Nat            -- pairs in DISC fault with both inputs seen de-energised since
  rstOn : List Nat         -- TIME_NS at which SAFE_RST_A and _B were last energised
  rstOff : List Nat        -- TIME_NS at which they were last released
  press : Bool             -- a press has begun and has not been judged (R236)
  both : Bool              -- both inputs have been energised together in it
  armedTo : List Nat       -- by group: end of its ACK_WIN (R235)
  hist : List Sf2Rec       -- newest first, at most 9
  sf2Held : List Bool      -- EXC, HDG, DRV: did it hold when it was last evaluated (R235)
  sf2Q : List Int          -- e_pos mm, e_hdg 0.01°, v_r mm/s of the last evaluated frame (R224)
  pulseTo : List Nat       -- by channel: end of its last test pulse (R220)
  sf3K : Option Nat        -- frame of the last SF3 failure of S0 (R227)
  sf4On : Bool             -- SF4 armed (R228)
  sf4K : Option Nat        -- frame SF4 has judged last
  cmdK : Option Nat        -- frame of the last COMMAND PDU that has left a port (R228)
  outFault : Nat           -- channels with an output fault, which run on (R220, R231)
  pw : Option PwRec        -- in flash
  pwAt : Nat               -- TIME_NS of the last failed attempt (R239)
  deriving DecidableEq, Repr



/-! ## GNSS baseband and time pulse (R243 to R268) -/

/-- The search window of a channel in SEARCH (R248, R249): row of the aiding table, half-width of the code window in ns, centre and
half-width of the Doppler window in mHz. -/
structure SrchWin where
  aid : Nat
  code : Nat
  centre : Int
  width : Nat
  deriving DecidableEq, Repr

/-- A channel (R246, R247): state, assigned signal, and what the loops have counted. -/
structure GChan where
  st : Nat
  sys : Nat
  prn : Nat
  sig : Nat
  cn0 : Nat                -- 0.01 dB-Hz, as last measured
  lockAt : Nat             -- TIME_NS since which the carrier is locked
  slips : Nat
  lostAt : Nat             -- TIME_NS at which lock was lost
  win : Option SrchWin
  deriving DecidableEq, Repr

/-- A capture in progress or held (R265, R266). -/
structure SnapSt where
  trig : Nat
  lens : List Nat          -- ms by stream
  t0 : Nat                 -- TIME_NS of the first sample
  b : Int                  -- b at t0, 0 when unknown
  deriving DecidableEq, Repr

/-- GNSS state beside the GNS_ registers. -/
structure GnsSt where
  chans : Tab GChan
  alm : List (Nat × Nat)         -- satellites of the almanac: system, PRN
  eph : List (Nat × Nat × Nat)   -- ephemerides: system, PRN, TIME_NS at which it was decoded
  sick : List (Nat × Nat)        -- satellites with an unhealthy flag
  leap : Nat                     -- TAI - UTC, s
  leapNext : Option (Nat × Nat)  -- announced: TAI second after whose record it changes, and the new value
  cursor : List Nat              -- cold search: next place in the PRN order, by antenna
  base : Option Nat              -- station of the last 1005 or 1006
  obs : Option (Nat × Nat)       -- station and TIME_NS of the last MSM
  rtk : List Nat                 -- by antenna: 1 standalone, 2 float, 3 fixed, 0 none
  ratio : List Nat               -- ratio test × 100 in force: antenna A, B, baseline
  fixed : List Bool              -- ambiguities fixed: antenna A, B, baseline
  amb : List (Option Nat)        -- result that applies from the next latch
  latch : Option (Nat × Nat)     -- latch not yet solved: frame and TIME_NS
  pos : Option (Int × Int)       -- last PVT fix
  b : Int                        -- b of the last valid solution, ps
  bRate : Int                    -- ps/s
  bAt : Nat                      -- its instant
  bMoved : Int                   -- value of time.moved at it (R259)
  latMoved : Int                 -- value of time.moved at the last latch
  bSig : Nat                     -- its σ, ns
  bValid : Bool                  -- the last latch yielded a valid solution
  lastValid : Option Nat         -- TIME_NS of the last valid solution
  run : Nat                      -- consecutive valid solutions
  bq : Int                       -- b_pps in 2^-32 ps
  seen : Int                     -- value of time.moved already added to b_pps
  stepSec : Option Nat           -- TAI second at which the pulse steps (R264)
  skip : List Nat                -- TAI seconds suppressed by a step of TIME_NS in HOLDOVER (R264)
  recd : List (Option Nat)        -- by output: TAI second of the record written last
  drv : List (Option Nat)        -- by output: TAI second of the last pulse instant passed
  seq : Nat                      -- time-pulse records written
  pps : List Nat                 -- GNS_PPSo_CFG in force since the last whole second
  tau : Nat                      -- TAU in force
  steps : Nat                    -- value of time.steps at the last latch
  allocSec : Option Nat          -- second of TIME_NS the channels were allocated at last (R246)
  tpAt : Option Nat              -- second the generator's offset was worked on last (R261)
  holdSec : Option Nat           -- second at which HOLDOVER was entered (R262)
  trig : Option Nat              -- trigger that waits for the next boundary
  snap : Option SnapSt
  harbAt : Nat                   -- TIME_NS of the last HARBOUR cycle, or of entry
  coarseAt : Option Nat          -- TIME_NS of the last coarse fix
  deriving DecidableEq, Repr



/-! ## CAN and UART (R299 to R324) -/

/-- A frame on a bus. -/
structure CanMsg where
  id : Nat
  ide : Bool
  fdf : Bool
  brs : Bool
  dlc : Nat
  data : List Byte
  deriving DecidableEq, Repr

/-- An entry of a firmware queue (R313), or a loaded buffer. -/
structure CanEnt where
  msg : CanMsg
  at_ : Nat                -- SEND_AT
  inst : Option Nat        -- logic instance
  mb : Option Nat          -- YD-22 message buffer
  ord : Nat                -- order of submission
  deriving DecidableEq, Repr

/-- A controller beside its registers. -/
structure CanCtl where
  flt : Tab (Nat × Nat × Nat)   -- filter elements, three words
  queue : List CanEnt           -- oldest first
  bufs : List (Option CanEnt)
  loaded : List Nat             -- order in which the buffers were loaded
  loadAt : List Nat             -- CLK_TS edge at which each buffer was loaded
  onBus : Option Nat            -- a buffer whose abort found its frame on the bus
  initReq : Bool                -- INIT written 1 and not yet in effect
  boWait : Bool                 -- recovery counts recessive bits
  deriving DecidableEq, Repr

/-- A capture of CAN_TSC at a boundary (R311): frame, F(k), count, phase, and whether a step lies between it and the one
before. -/
structure CanCap where
  f : Nat
  cnt : Nat
  ph : Nat
  step : Bool
  deriving DecidableEq, Repr

/-- A UART beside its registers (R318, R319). -/
structure UartSt where
  line : Option (List Byte)  -- the sentence being framed, without tag block
  tag : Bool                 -- inside a tag block
  t0 : Nat                   -- start-bit edge of its first character
  last : Option Nat          -- TIME_NS of the last start bit
  tx : List (List Byte)      -- bytes waiting to be sent, by command
  deriving DecidableEq, Repr

/-- CAN and UART state. -/
structure CanSt where
  ctl : List CanCtl
  ord : Nat                  -- submissions counted
  cap1 : Option CanCap       -- the latest capture
  cap0 : Option CanCap       -- the one before
  steps : Nat                -- value of time.steps at the latest capture
  uart : List UartSt
  deriving DecidableEq, Repr



/-! ## Sigma-delta filter chain (R325 to R345) -/

/-- A capture of a clock group at a boundary (R334). -/
structure SdfCap where
  k : Nat
  f : Nat
  c : Nat
  ph : Nat
  step : Bool              -- a step lies between it and the capture before
  deriving DecidableEq, Repr

/-- A running channel (R328 to R342). -/
structure SdfCh where
  first : Nat              -- modulator bits of the group counted before the first bit taken
  n : Nat                  -- bits taken
  ig : List Int            -- integrators, 48 bits
  cb : List Int            -- combs
  nc : Nat                 -- CIC outputs
  cs : List Int            -- the last 64, newest first
  fs : List (Int × Int)    -- FIR outputs as pos and value, newest first
  k : Nat                  -- the next output
  j : Nat
  tEv : Int                -- instant of the latest event of R338
  settle : Nat             -- FIR-output periods of the window
  lastBit : Option Bool
  run : Nat                -- equal bits in a row
  quiet : Nat              -- bits without a run of 128 since MOD_FAULT was set
  hiSet : Nat              -- persistence counts
  hiClr : Nat
  loSet : Nat
  loClr : Nat
  deriving DecidableEq, Repr

/-- Filter state beside the SDF_ registers. -/
structure SdfSt where
  ch : List (Option SdfCh)
  onAt : List Nat          -- by group: CLK_TS edges at which its clock was enabled, or its RATE last changed
  base : List Nat          -- by group: modulator bits counted before that
  caps : List (List SdfCap)   -- by group, newest first
  steps : Nat              -- value of time.steps at the last boundary
  banks : Tab Word         -- bank × 2,048 + word
  deriving DecidableEq, Repr



/-! ## Cyclic logic (R346 to R371) -/

/-- The state of an instance (R356, R357): M of its edge detectors, elapsed time, latch, count or held value, and its
outputs. -/
structure LState where
  m : Int
  m2 : Int
  et : Int
  q : Int
  y : Int
  outs : List Int
  deriving DecidableEq, Repr

/-- A cycle that has started and has not published (R352, R353). -/
structure LRun where
  start : Nat              -- TIME_NS of its boundary
  done : Bool
  states : List (Nat × LState)
  pts : List (Nat × Int × Bool)   -- point, value, VALID
  cans : List (Nat × Nat × CanMsg × Nat)  -- instance, controller, message, ZONE
  deriving DecidableEq, Repr

/-- A task. -/
structure LTask where
  run : Option LRun
  lastB : Nat              -- TIME_NS of the boundary handled last
  prev : Option (Nat × Nat)   -- start in ms of the cycle before, and time.steps at it
  seed : Bool              -- the next cycle seeds M
  startAt : Option Nat     -- TIME_NS from which the first cycle may start; none: not running
  stopAt : Option Nat      -- TIME_NS from which the task stops
  deriving DecidableEq, Repr

/-- A change group waiting for its cycle start (R364, R366). -/
structure LGroup where
  from_ : Nat              -- TIME_NS of F(k+1)
  cmd : CmdE
  deriving DecidableEq, Repr

/-- Logic state beside the LOG_ registers; slot 1 is the upper one, 2 the lower one, 0 none. -/
structure LgcSt where
  img : Option (List Byte)
  slot : Nat
  pend : Option (List Byte)
  pendSlot : Nat
  insts : List Config.LInst   -- the instances of the image
  tasks : List LTask
  states : List (Nat × LState)   -- committed
  ovl : List (Nat × Nat × Int)   -- on-line overlay
  ovlId : Nat              -- PROG_ID it was made for
  saved : Option (Nat × List (Nat × Nat × Int))  -- overlay stored in flash
  groups : List LGroup
  resume : Bool            -- stopped for DOMAIN, resumes when D6 returns (R360)
  deriving DecidableEq, Repr



/-! ## Harvest and replay (R468 to R483) -/

/-- A harvest between trigger and latch (R470). -/
structure Harv where
  at_ : Nat
  id : Nat
  origin : Nat
  cause : Nat
  flags : Nat              -- LATE, REMOTE, PDU_SENT
  deriving DecidableEq, Repr

/-- A recorder entry read back, its fragments joined. -/
structure RecIn where
  time : Nat
  frame : Nat
  type : Nat
  own : Bool
  body : List Byte
  deriving DecidableEq, Repr

/-- A CONFIG entry: its objects, and kind, slot and CRC of its images. -/
structure RecCfg where
  objs : List Obj
  imgs : List (Nat × Nat × Nat)
  deriving DecidableEq, Repr

/-- A CHECKPOINT entry with the CONFIG in force at it. -/
structure RecCkpt where
  ent : RecIn
  cfg : Option RecCfg
  deriving DecidableEq, Repr

/-- A replay (R480 to R482). -/
structure Replay where
  flash : Bool             -- SOURCE
  start : Nat              -- FROM
  pos : Option Nat         -- flash source: offset of the block to read next
  bseq : Option Nat        -- BSEQ of the block taken last
  blocks : List (List Byte)  -- host source: blocks buffered
  bytes : List Byte        -- entry bytes not yet parsed
  joined : Bool            -- the first entry header has been found
  part : List Byte         -- fragments of an entry not yet complete
  ents : List RecIn        -- entries parsed and not yet used
  cfg : Option RecCfg      -- latest CONFIG entry
  ckpt : Option RecCkpt    -- latest CHECKPOINT at or before FROM
  run : Option (List Obj)  -- running on these objects
  k : Nat                  -- frame replayed last
  frameCfg : Nat × Nat × Nat  -- P, CUTOFF and RETRO_H of the replay
  fus : FusSt              -- runtime state of the replay
  cex : CexSt
  slv : SlvSt
  red : RedSt
  regs : RegFile           -- registers of the replay area
  deriving DecidableEq, Repr

/-- Diagnostics state beside the DIA_ registers. -/
structure DiaSt where
  harv : List Harv
  harvSeq : Nat            -- harvest records since SV restarted (R471)
  leakMs : Nat             -- ms of TIME_NS the buckets have been brought up to (R484)
  recLatch : Word          -- high word latched by a read of DIA_REC_WP_LO
  tripFrame : Option Nat   -- frame whose safety trip has started a harvest (R468)
  rpl : Option Replay
  poison : List (Nat × Nat)   -- poisoned words: of the lending pool (0, 8-byte word), fusion (1) or solver (2), place (R376, R485)
  deriving DecidableEq, Repr



/-! ## Panel (R491 to R503) -/

/-- A pod in work (R496, R500): the request driven, the waveform of each of its segments, the frame reached; a balancing run
has no waveforms. -/
structure PodRun where
  levels : List Nat
  waves : List (List Nat)
  n : Nat
  balance : Bool
  deriving DecidableEq, Repr

/-- A pod. -/
structure Pod where
  run : Option PodRun
  pend : Option (List Nat)   -- pending after a stop: the request it was driving
  queue : Option (List Nat)
  from_ : Nat                -- TIME_NS before which the queued request does not start (R494)
  deriving DecidableEq, Repr

/-- Panel state beside the PNL_ registers. -/
structure PnlSt where
  pods : Tab Pod
  lev : Tab Nat            -- level by segment; 4 UNKNOWN
  dc : Tab Int             -- DC counter by segment
  band : Nat               -- band in force
  hven : Bool
  ref : Option Nat         -- R_REF
  beyond : Nat             -- consecutive measurements beyond STEP
  crack : Bool
  lastF : Nat              -- the panel frame handled last, in multiples of 20 ms
  deriving DecidableEq, Repr



/-! ## YD-22 mode (R413 to R437) -/

/-- An input of the message set: its bytes and the TIME_NS it was received at. -/
structure YdIn where
  data : List Byte
  at_ : Nat
  deriving DecidableEq, Repr

/-- An axis of the PID (R428). -/
structure YdAxis where
  i : Int
  e : Int                  -- e_prev
  auto : Bool              -- under the law in the last cycle
  deriving DecidableEq, Repr

/-- What a cycle computed and has not released (R424). -/
structure YdOut where
  n : Nat                  -- cycle
  at_ : Nat                -- C(n) + T_calc
  words : List (Nat × Nat) -- registers written at release
  cmds : List (Nat × Nat × Nat)  -- thruster, thrust, angle
  alarm : Nat              -- YD_ALARM bits set at release
  deriving DecidableEq, Repr

/-- YD-22 state. -/
structure YdSt where
  regs : Tab (BitVec 16)   -- the registers, but for the message buffer window
  ready : Bool             -- READY (R419)
  intLow : Bool            -- HOST_INT_N driven low (R419)
  low : Option (Nat × Nat) -- low half of a pair being written: address and value (R418)
  high : Option (Nat × Nat) -- high half latched by a read of the low half (R418)
  mb : Tab YdMb            -- controller × 16 + buffer (R434)
  ins : List (Option YdIn) -- HEADING, WIND, POS2, JOYSTICK (R432)
  fb : List (Option YdIn)  -- THR_FB by thruster
  latch : Option Nat       -- cycle at whose start the latest GNSS latch was taken and not yet solved (R414)
  fix : List (Nat × Option GnssPos)  -- solutions of antenna A by the cycle of their latch, latest first, at most two
  ce : Nat                 -- the CE that carries the cycle (R415)
  pf : Option (Int × Int)  -- P_f; none until seeded (R426)
  srcOk : Bool             -- the selected source was OK in the last cycle
  axes : List YdAxis       -- X, Y, N (R428)
  mode : Nat               -- MODE in force (R429)
  modeWr : Bool            -- MODE written since the last cycle start
  capture : Bool           -- CAPTURE asked for (R421)
  saving : Option (Tab (BitVec 16) × Tab YdMb)  -- image SAVE stores, until the write completes (R416)
  avail : Nat              -- availability set of the last cycle (R430)
  mat : Option (List (Nat × List Word))  -- Q row by row with the thruster of each; none: SINGULAR
  thrOld : Option (List Nat)  -- thruster blocks and availability the matrix was formed from; none: never formed
  out : Option YdOut       -- results of the cycle in progress, released at its T_calc (R424)
  master : Bool            -- MASTER_OUT (R435)
  conflict : Bool          -- YD_DUP_STAT.CONFLICT
  pinIn : Bool             -- MASTER_IN accepted high (R435)
  pinAt : Nat              -- TIME_NS of the last change accepted
  fault : Bool             -- YD_STATUS.FAULT (R415)
  kN : Word                -- scale factors of the working origin (R426)
  kE : Word
  unset : Bool             -- TIME_UNSET (R414)
  cycleAt : Nat            -- number of the last cycle grid point handled
  deriving DecidableEq, Repr



/-- The state of the block. -/
structure State where
  pending : List Instr     -- commands waiting, first in first out (the model's own)
  out : List Out           -- what has been sent, oldest first (the model's own)
  free : Nat               -- counter the open values are read at (the model's own)
  pwr : PState             -- power state (R450)
  op : OpState             -- operating state (R11)
  role : Role              -- role (R173)
  regs : RegFile           -- every 32-bit register of BAR0 (R374)
  mem : Tab Byte           -- every byte-addressed memory
  time : TimeSt
  cfg : CfgSt
  flash : FlashSt
  hif : HifSt
  sys : SysSt
  d0 : D0St
  fch : Tab FltCh          -- fault channels, class × 4,096 + index (R484)
  alarms : List (Nat × Nat)  -- alarms in force: event code and index (R389, R412)
  diaF : RegFile           -- DIA_ configuration words in force since the last boundary (R490)
  recd : RecSt
  ctx : Tab Ctx
  retro : List RetroS      -- samples waiting for or kept by retrodiction (R48)
  fus : FusSt
  cex : CexSt
  slv : SlvSt
  net : NetSt
  red : RedSt
  saf : SafSt
  gns : GnsSt
  can : CanSt
  sdf : SdfSt
  lgc : LgcSt
  dia : DiaSt
  pnl : PnlSt
  yd : YdSt
  deriving DecidableEq, Repr

/-! ## The state after reset

The machine at the release of the first POR: operating state BOOT, the domains of R442 on, every register at its reset
word, no configuration in flash, every memory empty. Values no rule states are the model's own choice (DESIGN CHOICE,
notes/assumptions). -/

/-- Thirty-two empty entries of a list. -/
def rep32 {α : Type} (x : α) : List α := List.replicate 32 x

def resetTime : TimeSt :=
  { ns := 0, frac := 0, inc := 0x0800000000, incLoad := none, slewLeft := 0, slewRate := 0, slewAdded := 0, moved := 0,
    steps := 0, ticks := 0, frame := 0, inFrame := false, cutDone := false, period := 10, cutoff := 20, retroH := 4,
    armed := none, stepNs := 0 }

def resetCfg : CfgSt :=
  { objs := [], imgs := [], staged := [], stagedImgs := [], safStaged := [], load := none, fresh := [], cfgSess := none,
    safSess := none, issued := [], uncommitted := false, xfer := none }

/-- No configuration, a verified firmware in slot 0 (DESIGN CHOICE: what the flash holds is the integrator's). -/
def resetFlash : FlashSt :=
  { objs := none, imgs := [], old := none, gen := 0, copy := 0, fw0 := ⟨true, 0, 0, false⟩, fw1 := ⟨false, 0, 0, false⟩,
    bootSlot := 0, trial := false, yd := none, alm := [], eph := [], pos := none, wait := [] }

def resetHif : HifSt :=
  { ready := false, taken := [], curTag := none, evtSeq := 0, evtLost := 0,
    held := (List.range 4).map (fun g => ⟨0, 0, 8, 1, 2, none, [BitVec.ofNat 8 g, 0, 1, 0]⟩), quad := false, spiErr := false,
    pendTags := [], rstKind := 0, rstDom := 0 }

/-- The straps low: the native mode on PCIe (DESIGN CHOICE). -/
def resetSys : SysSt :=
  { yd := false, hostSel := false, strapYd := false, strapHost := false, pinYd := false, pinHost := false, held := none, clock := true, domOn := 0x607,
    mv := List.replicate 8 0, mvMin := List.replicate 8 0xFFFF, low := 0, dipRail := 0, dipMin := 0, dipFrom := 0,
    recovered := 0, holdOk := false, shed := 0, back := 0, rtc := 0, rtcValid := false, seq := false, railFails := 0,
    pmuStop := false, rstReq := none, pwrReq := none, wdrAt := [], kind := .por, recovery := false, opBefore := .ready,
    d0Lost := false, otpCtr := 0, pcieRsts := 0 }

def resetD0 : D0St :=
  { head := 0, clHead := 0, epochHi := 0, clSeq := 1, pwFails := 0, arCtr := 0, nextSeq := 0, lost := 0,
    queue := (List.range 4).map (fun g => ⟨0, 0, 0x0020, [BitVec.ofNat 8 g, 1, 0]⟩),
    lostNew := 0, holdAbort := 0 }

def resetRec : RecSt :=
  { sink := 0, port := 0, req := none, staged := [], into := 0, gapNew := 0, bseq := 0, wp := 0, startAt := 0,
    ckptAt := 0 }

def resetObsX : ObsX :=
  { etaN := 0, etaE := 0, etaP := 0, u := 0, v := 0, r := 0, b := [0, 0, 0], xi := [0, 0, 0, 0, 0, 0] }

def resetObs : ObsSt :=
  { x := resetObsX, pred := resetObsX, p := ⟨0, 0, 0, 0⟩, ndr := 0, tauWind := [0, 0, 0] }

def resetFix : FixRec :=
  { frame := 0, north := 0, east := 0, heading := 0, varNN := 0, covNE := 0, varEE := 0, varHdg := 0, age := 0,
    contrib := 0, disagree := 0, rejected := 0, flags := 0, k := 0, nModes := 0, ratio := 0, cN := 0, cE := 0 }

def resetRef : RefSt :=
  ⟨.off, false, 0, 0, none, [0, 0, 0], [0, 0, 0], [0, 0, 0], [0, 0, 0], ⟨[], false, false⟩, false⟩

def resetFus : FusSt :=
  { refs := List.replicate 16 resetRef, k := 1, kLow := 0, drMs := 0, fixRun := 0, hfixRun := 0, posUnc := false,
    refConf := false, hdgConf := false, autoReadmit := true, mru := none, imgBad := [], imgNew := [], last := resetFix,
    doneK := none }

def resetGen : Gen := ⟨0, 0, 0, 0, 0x3F800000⟩

def resetCex : CexSt :=
  { obs := resetObs, commitK := none, propOwed := false, lawK := none, retroX := none, func := 0, autoHdg := false,
    spU := 0, spV := 0, limits := [0, 0, 0, 0, 0, 0], gN := resetGen, gE := resetGen, gH := resetGen, gS := resetGen,
    track := [], path := [], leg := 0, integ := [0, 0, 0], ff := [0, 0, 0], tauPrev := [0, 0, 0],
    clampHold := [false, false, false], notAch := [false, false, false], lawMpc := false, lawN := 0, lawFrom := [0, 0, 0],
    joy := [0, 0, 0], joyMs := 0, joyN := 0, wind := none, region := 0, regFrom := 0, fadeN := 0, degr := false,
    gains := [], gainsFrom := [], profOwe := false, capt := 0, tauApp := [0, 0, 0], mpc := none, stale := false,
    intHold := false, wasLate := false, demand := [0, 0, 0], returning := [], moving := false, ckpts := [],
    retroRun := none, retroRes := none }

def resetSlv : SlvSt :=
  { allocs := [], thr := rep32 none, sect := List.replicate 16 none, excl := 0, deadPath := 0, lost := 0, sLost := 0,
    base := rep32 none, mpc := none, scen := none, mpcOwn := none, mpcLst := none, mpcSnap := none, mpcPrev := none,
    k0X := resetObsX, k0Wind := [0, 0, 0], mpcRef := ⟨[0, 0, 0], [0, 0, 0]⟩, scenK := none, scenNext := 0, capWarn := 0x0CCD, mpcBad := false,
    pipe := none }

def resetPath : PathSt := ⟨none, [], 0, 0⟩

def resetDom : DomSt := ⟨[], [], none, 0, none, List.replicate 4 resetPath, none⟩

def resetNet : NetSt :=
  { seen := [], lastSeq := [], seqOut := rep32 0, harvIds := [], grps := [],
    ptp := ⟨resetDom, resetDom, ⟨0, 1⟩, none, 0, 0, 0, 0, [], 0, 0, false, 0, 0, 0⟩ }

def resetSpan : SpanSt := ⟨false, none, 0, 0, [], 65535⟩

def resetRed : RedSt :=
  { leases := [none, none, none], spans := [resetSpan, resetSpan], validTo := none, holdSpan := none, holdNet := none,
    holdLease := none, dispAt := none, dispOld := none, await := false, claimAt := none, bootAt := 0, declHolder := false, declare := 0, safeTrip := false, safeDue := false,
    plan := none, inbox := [], used := [], piers := [], silent := [], starved := [], pierEpoch := [], zonePiers := [],
    lateCmd := [], thrStat := none, listQ := [], cmds := [], late := 0, latePrev := 0, rx := [], man := none,
    nextMan := none, prevMan := [], fctx := [], following := false, unfol := [], mpcSent := none, obs := [],
    digest := 0, digSent := 0, epochAt := 0, misShown := none, concluded := none, matchRun := 0, redo := [], reqAt := none, imgWait := [],
    imgRx := none, catchB := none, manBuf := [], nextSlice := 0, slices := 0, ecc := 0, clkWarn := false,
    supplyAt := none, sasbAt := none }

/-- Every latch set with cause POWER_ON (R236): SAF_STATUS and SAF_CAUSE hold it as their reset words; the TRIP alarms
wait for READY and their ledger entries for HOLD_OK. -/
def resetSaf : SafSt :=
  { latch := [15, 15], out := [0, 0], words := [none, none], msgs := [], diffAt := [none, none, none, none],
    rise := [(0, 0), (0, 0), (0, 0), (0, 0)], seenOff := 0, rstOn := [0, 0], rstOff := [0, 0], press := false,
    both := false, armedTo := [0, 0, 0, 0], hist := [], sf2Held := [false, false, false], sf2Q := [0, 0, 0], pulseTo := [0, 0], sf3K := none, sf4On := false, sf4K := none, cmdK := none, outFault := 0, pw := none, pwAt := 0 }

def resetGns : GnsSt :=
  { chans := [], alm := [], eph := [], sick := [], leap := 0, leapNext := none, cursor := [0, 0], base := none,
    obs := none, rtk := [0, 0], ratio := [0, 0, 0], fixed := [false, false, false], amb := [none, none, none],
    latch := none, pos := none, b := 0, bRate := 0, bAt := 0, bMoved := 0, latMoved := 0, bSig := 0, bValid := false, lastValid := none, run := 0,
    bq := 0, seen := 0, stepSec := none, skip := [], recd := [none, none], drv := [none, none], seq := 0,
    pps := [0x00640000, 0x00640000], tau := 10, steps := 0, allocSec := none, tpAt := none, holdSec := none,
    trig := none, snap := none, harbAt := 0,
    coarseAt := none }

def resetCtl : CanCtl := ⟨[], [], [none, none, none], [], [0, 0, 0], none, false, false⟩

def resetCan : CanSt :=
  { ctl := List.replicate 8 resetCtl, ord := 0, cap1 := none, cap0 := none, steps := 0,
    uart := List.replicate 16 ⟨none, false, 0, none, []⟩ }

def resetSdf : SdfSt :=
  { ch := rep32 none, onAt := [0, 0, 0, 0], base := [0, 0, 0, 0], caps := [[], [], [], []], steps := 0, banks := [] }

def resetTask : LTask := ⟨none, 0, none, true, none, none⟩

def resetLgc : LgcSt :=
  { img := none, slot := 0, pend := none, pendSlot := 0, insts := [], tasks := [resetTask, resetTask], states := [],
    ovl := [], ovlId := 0, saved := none, groups := [], resume := false }

def resetDia : DiaSt :=
  { harv := [], harvSeq := 0, leakMs := 0, recLatch := 0, tripFrame := none, rpl := none, poison := [] }

def resetPnl : PnlSt :=
  { pods := [], lev := [], dc := [], band := 0, hven := false, ref := none, beyond := 0, crack := false, lastF := 0 }

def resetAxis : YdAxis := ⟨0, 0, false⟩

def resetYd : YdSt :=
  { regs := [], ready := false, intLow := false, low := none, high := none, mb := [], ins := [none, none, none, none],
    fb := [none, none, none, none, none, none, none, none], latch := none, fix := [], ce := 3, pf := none,
    srcOk := false, axes := [resetAxis, resetAxis, resetAxis], mode := 0, modeWr := false, capture := false,
    saving := none, avail := 0, mat := none, thrOld := none, out := none, master := false, conflict := false,
    pinIn := false, pinAt := 0, fault := false, kN := 0, kE := 0, unset := true, cycleAt := 0 }

/-- The machine right after the release of the first POR. -/
def State.reset : State :=
  { pending := [], out := [], free := 0, pwr := .run, op := .boot, role := .none, regs := [], mem := [],
    time := resetTime, cfg := resetCfg, flash := resetFlash, hif := resetHif, sys := resetSys, d0 := resetD0, fch := [],
    alarms := [(0x0801, 0), (0x0801, 1), (0x0801, 2), (0x0801, 3)], diaF := [], recd := resetRec, ctx := [], retro := [], fus := resetFus, cex := resetCex,
    slv := resetSlv, net := resetNet, red := resetRed, saf := resetSaf, gns := resetGns, can := resetCan,
    sdf := resetSdf, lgc := resetLgc, dia := resetDia, pnl := resetPnl, yd := resetYd }


end Sys2Proof.Machine
end

