-- ==== Sys2Proof/Machine/Ops.lean ====
section
/-!
DEFINITION. The named operations every meaning is written over: registers and their fields (R16), memory,
the interrupt (R392), events and alarms (R389 to R391, R412), recorder staging (R473, R474), ledger requests
(R489), responses (R386), open values, and device time between commands (R18 to R22).
-/

namespace Sys2Proof.Machine

/-! ## Registers -/

/-- A register word. -/
def State.reg (s : State) (a : Nat) : Word := tabGet regReset s.regs a

/-- Write a register word, whatever its access codes: a write by the hardware. -/
def State.setReg (s : State) (a : Nat) (w : Word) : State := { s with regs := tabSet regReset s.regs a w }

/-- A register field. -/
def State.fget (s : State) (f : Fld) : Nat := bits (s.reg f.addr).toNat f.lo f.w

/-- A one-bit field as a truth value. -/
def State.fbit (s : State) (f : Fld) : Bool := s.fget f == 1

/-- Write a register field by the hardware. -/
def State.fset (s : State) (f : Fld) (v : Nat) : State :=
  s.setReg f.addr (BitVec.ofNat 32 (putBits (s.reg f.addr).toNat f.lo f.w v))

/-- Set a one-bit field. -/
def State.fup (s : State) (f : Fld) : State := s.fset f 1
/-- Write a one-bit field from a truth value. -/
def State.fput (s : State) (f : Fld) (b : Bool) : State := s.fset f (b2n b)
/-- Count one, saturating at the field's width. -/
def State.finc (s : State) (f : Fld) : State := s.fset f (incSat f.w (s.fget f))
/-- Count `n`, saturating at the field's width. -/
def State.fcount (s : State) (f : Fld) (n : Nat) : State := s.fset f (satU f.w (s.fget f + n))
/-- Count one, wrapping at the field's width. -/
def State.fwrap (s : State) (f : Fld) : State := s.fset f (s.fget f + 1)
/-- A field read as a signed value. -/
def State.fsgn (s : State) (f : Fld) : Int := sx f.w (s.fget f)

/-! ## Memory -/

/-- The byte-addressed memories, by number; a cell's address is region × 2^32 + offset. -/
def rgnCmd : Nat := 1      -- command ring, 64 × 256 bytes (R374)
def rgnRsp : Nat := 2      -- response ring, 64 × 256 bytes (R374)
def rgnEvt : Nat := 3      -- event ring, 1,024 × 64 bytes (R389)
def rgnXp : Nat := 4       -- command pages, 64 × 4,096 bytes (R384)
def rgnXr : Nat := 5       -- response pages, 64 × 4,096 bytes (R384)
def rgnFus : Nat := 6      -- fusion record ring, 64 × 64 bytes (R90)
def rgnCex : Nat := 7      -- control record ring, 64 × 64 bytes (R131)
def rgnSlv : Nat := 8      -- allocation record ring, 64 × 128 bytes (R170)
def rgnHrep : Nat := 9     -- health report ring, 64 × 32 bytes (R213)
def rgnMrec : Nat := 10    -- GNSS measurement records (R252)
def rgnTrec : Nat := 11    -- time-pulse records (R263)
def rgnPool : Nat := 12    -- lending pool, offset in the BAR2 window (R9)
def rgnRxq : Nat := 13     -- CAN receive queues (R310)
def rgnHarv : Nat := 14    -- harvest ring, 16 × 1,024 bytes (R472)
def rgnPim : Nat := 16     -- process image, 262,144 points × 16 bytes (R348)
def rgnLed : Nat := 17     -- D0 ledger, 4,096 bytes (R487)
def rgnClog : Nat := 18    -- safety change log in flash (R241)
def rgnRing : Nat := 19    -- recorder ring in flash (R475)

/-- The memory cell of an offset in a region. -/
def cell (r o : Nat) : Nat := r * 2 ^ 32 + o

/-- The structures of the fixed area whose base a register reports: the model's key, a region or one receive queue pair, and its size
(R9, R374). -/
def fixedSizes : List (Nat × Nat) :=
  [(rgnXp, 0x40000), (rgnXr, 0x40000), (rgnEvt, 0x10000), (rgnFus, 4096), (rgnCex, 4096), (rgnSlv, 8192), (rgnHrep, 2048),
   (rgnMrec, 16 * 4128), (rgnTrec, 2048), (rgnHarv, 16384)] ++ (upTo 8).map (fun n => (rgnRxq + 32 * (n + 1), 12288))

/-- A layout puts every structure into the fixed area, 0xE00000 to 0xFFFFFF, and no two overlap (R9). -/
def layoutOk (l : Nat → Nat) : Bool :=
  fixedSizes.all (fun x => decide (0xE00000 ≤ l x.1) && decide (l x.1 + x.2 ≤ 0x1000000)
    && fixedSizes.all (fun y => x.1 == y.1 || decide (l x.1 + x.2 ≤ l y.1) || decide (l y.1 + y.2 ≤ l x.1)))

/-- The structures one after another from the start of the area. -/
def packedLayout (r : Nat) : Nat := 0xE00000 + sumN ((fixedSizes.takeWhile (fun x => x.1 != r)).map (·.2))

/-- The base of a structure: that of the layout BOOT chose. The constant is free among the layouts the rule allows. -/
def sramBase (r : Nat) : Nat := if layoutOk Config.sramLayout then Config.sramLayout r else packedLayout r

/-- The areas of the fixed area: the model's region and the offset in it, base and size. -/
def fixedAreas : List (Nat × Nat × Nat × Nat) :=
  fixedSizes.map (fun x => if x.1 < 32 then (x.1, 0, sramBase x.1, x.2) else (rgnRxq, (x.1 / 32 - 1) * 12288, sramBase x.1, x.2))

/-- Bytes of a record of a structure; of one that holds none, an 8-byte word. -/
def recSize (r : Nat) : Nat :=
  if r = rgnEvt ∨ r = rgnFus ∨ r = rgnCex then 64
  else if r = rgnSlv then 128
  else if r = rgnHrep ∨ r = rgnTrec then 32
  else if r = rgnMrec then 4128
  else if r = rgnHarv then 1024
  else if r = rgnRxq then 96
  else 8

/-- What an unlisted byte reads as: SRAM is zeroised at POR (R457); an erased byte of NOR flash reads 0xFF (PRESUMED). -/
def memDflt (a : Nat) : Byte := if a / 2 ^ 32 = 18 ∨ a / 2 ^ 32 = 19 then 0xFF else 0

/-- One byte of memory. -/
def State.rd8 (s : State) (a : Nat) : Byte := tabGet memDflt s.mem a
/-- Write one byte. -/
def State.wr8 (s : State) (a : Nat) (b : Byte) : State := { s with mem := tabSet memDflt s.mem a b }

/-- `n` bytes from a cell address. -/
def rdMem (m : Tab Byte) : Nat → Nat → List Byte
  | _, 0 => []
  | a, n + 1 => tabGet memDflt m a :: rdMem m (a + 1) n

/-- Write bytes from a cell address upward. -/
def wrMem (m : Tab Byte) : Nat → List Byte → Tab Byte
  | _, [] => m
  | a, b :: bs => wrMem (tabSet memDflt m a b) (a + 1) bs

/-- Read `n` bytes at offset `o` of region `r`. -/
def State.rdB (s : State) (r o n : Nat) : List Byte := rdMem s.mem (cell r o) n
/-- Write bytes at offset `o` of region `r`. -/
def State.wrB (s : State) (r o : Nat) (bs : List Byte) : State := { s with mem := wrMem s.mem (cell r o) bs }

/-- Write bytes of the lending pool from an offset up; what is written is good again (R376). -/
def State.wrPool (s : State) (o : Nat) (bs : List Byte) : State :=
  let s1 := s.wrB rgnPool o bs
  { s1 with dia := { s1.dia with
      poison := s1.dia.poison.filter (fun w => !(w.1 == 0 && decide (o < 8 * w.2 + 8) && decide (8 * w.2 < o + bs.length))) } }

/-- Drop every byte of the regions `p` holds for. -/
def memDrop (p : Nat → Bool) (m : Tab Byte) : Tab Byte := m.filter (fun c => !p (c.1 / 2 ^ 32))

/-! ## Instants -/

/-- TIME_NS as a Nat. -/
def State.now (s : State) : Nat := s.time.ns.toNat
/-- P in ns (R23). -/
def State.pNs (s : State) : Nat := s.time.period * 1000000
/-- F(k) in ns (R23). -/
def State.fOf (s : State) (k : Nat) : Nat := k * s.pNs
/-- F of the frame in progress. -/
def State.fNow (s : State) : Nat := s.fOf s.time.frame
/-- The instant `h` hundredths of P into frame `k`. -/
def State.atPct (s : State) (k h : Nat) : Nat := s.fOf k + h * s.pNs / 100

/-! ## Messages out, interrupts, open values -/

/-- Send bytes on a port. -/
def State.send (s : State) (p : Port) (bs : List Byte) : State :=
  { s with out := s.out ++ [⟨s.now, p, bs⟩] }

/-- MSI vectors granted to the endpoint: 1, 2 or 4; with none its interrupt is INTA (R377; an open value, log 123). -/
def State.msiVectors (s : State) : Nat :=
  let n := Config.msiGrant s.sys.pcieRsts
  if n = 1 ∨ n = 2 ∨ n = 4 then n else 0

/-- Set bit `b` of HIF_INT_STAT and raise the interrupt it reports (R392): over PCIe one MSI, vector `b` of 4, else vector 0; INTA is a level. -/
def State.intr (s : State) (f : Fld) : State :=
  let was := s.fbit f
  let s1 := s.fup f
  if was then s1
  else if bit (s.fget HIF_INT_EN.EN) f.lo && !s.sys.hostSel && s.msiVectors != 0 then
    s1.send (.msi (if s.msiVectors = 4 then f.lo else 0)) []
  else s1

/-- Set a bit of HIF_ERR (R392, R398). -/
def State.hifErr (s : State) (f : Fld) : State := (s.fup f).intr HIF_INT_STAT.ERR

/-- The counter open values are read at, advanced by one. -/
def State.tick1 (s : State) : State := { s with free := s.free + 1 }

/-! ## Flash (R395, R445, R448) -/

/-- Flash writes and ledger commits wait: a dip is in force, or VHOLD is below 10.5 V. -/
def State.writesHeld (s : State) : Bool := s.sys.low % 64 != 0 || !s.sys.holdOk

/-- A flash write: whether it succeeds is the device's (R387). -/
def State.flashTry (s : State) : State × Bool := (s.tick1, Config.flashOk s.free)

/-! ## Recorder staging (R473, R474) -/

/-- Bytes of the staging region in use, its 16-byte header included. -/
def recUsed (r : RecSt) : Nat := 16 + (r.staged.map (fun e => e.bytes.length)).sum - r.into

/-- Cut a payload into fragments of at most 4,064 - 16 bytes of payload each. -/
def recCut : Nat → List Byte → List (List Byte)
  | 0, bs => [bs]
  | n + 1, bs => if bs.length ≤ 4048 then [bs] else bs.take 4048 :: recCut n (bs.drop 4048)

/-- One fragment with its header (R473). -/
def recFrag (now frame type flags : Nat) (p : List Byte) : List Byte :=
  leBytes 8 now ++ leBytes 4 frame ++ leBytes 1 type ++ leBytes 1 flags ++ leBytes 2 p.length
    ++ p ++ List.replicate ((4 - p.length % 4) % 4) 0

/-- The fragments of an entry; all but the last carry CONT. -/
def recFrags (now frame type own : Nat) : List (List Byte) → List (List Byte)
  | [] => []
  | [p] => [recFrag now frame type (2 * own) p]
  | p :: ps => recFrag now frame type (2 * own + 1) p :: recFrags now frame type own ps

/-- Refused types above 75 % full, and every type but MARK when full (R474). -/
def recRefused (used type len : Nat) : Bool :=
  if type == 13 then false
  else if used + len > 2097152 then true
  else decide (used * 4 > 3 * 2097152) && (type == 12 || type == 4 || type == 9)

/-- Stage a recorder entry of the given type (R473); nothing while the recorder is off. -/
def State.stage (s : State) (type own : Nat) (payload : List Byte) : State :=
  if s.recd.sink = 0 then s
  else
    let e := recFrags s.now s.time.frame type own (recCut 1024 payload)
    if recRefused (recUsed s.recd) type (sumN (e.map List.length)) then
      { (s.fcount DIA_REC_LOST.COUNT 1) with recd := { s.recd with gapNew := s.recd.gapNew + 1 } }
    else
      let r := { s.recd with staged := s.recd.staged ++ e.map (fun b => ⟨s.recd.sink, s.recd.port, b⟩) }
      ({ s with recd := r }).fset DIA_REC_STAT.FILL (recUsed r * 100 / 2097152)

/-! ## Events and alarms (R389 to R391, R412) -/

/-- An event record (R390). -/
def evtBytes (e : Evt) (seq : Nat) : List Byte :=
  let tagw := match e.tag with | some t => t % 2 ^ 16 + 2 ^ 16 | none => 0
  let b := leBytes 8 e.time ++ leBytes 4 seq ++ leBytes 1 e.low ++ leBytes 1 e.src ++ leBytes 1 e.sev
    ++ leBytes 1 e.src ++ leBytes 4 e.frame ++ leBytes 4 tagw ++ fitBytes 36 e.data
  b ++ leBytes 4 (crc32c b)

/-- Records in the event ring not yet consumed (R380). -/
def State.evtFill (s : State) : Nat := (s.fget HIF_EVT_PI.IDX + 2 ^ 16 - s.fget HIF_EVT_CI.CI) % 2 ^ 16

/-- Write one record: the entry, then PI, then the interrupt (R391), then the recorder's copy (R473). -/
def State.evtPut (s : State) (e : Evt) : State :=
  let b := evtBytes e s.hif.evtSeq
  let s1 := s.wrB rgnEvt (s.fget HIF_EVT_PI.IDX % 1024 * 64) b
  let s2 := s1.fwrap HIF_EVT_PI.IDX
  let s3 := { s2 with hif := { s2.hif with evtSeq := (s2.hif.evtSeq + 1) % 2 ^ 32 } }
  let s4 := s3.intr HIF_INT_STAT.EVT
  if s4.fbit DIA_CFG.REC_EVT then s4.stage 9 0 b else s4

/-- Deliver an event: held while SV takes no commands, discarded and counted when the ring is full. -/
def State.evtOut (s : State) (e : Evt) : State :=
  if !s.hif.ready then { s with hif := { s.hif with held := s.hif.held ++ [e] } }
  else if s.evtFill ≥ 1024 then
    { (s.finc HIF_CNT.EVT_LOST) with hif := { s.hif with evtLost := s.hif.evtLost + 1 } }
  else s.evtPut e

/-- Raise an event of block `src`, event `low`, severity `sev`, with DATA. -/
def State.event (s : State) (src low sev : Nat) (data : List Byte) : State :=
  if s.sys.yd then s
  else s.evtOut ⟨s.now, s.time.frame, src, low, sev, s.hif.curTag, data⟩

/-- The common DATA layout of R412: index, then one detail byte. -/
def evData (idx det : Nat) : List Byte := leBytes 2 idx ++ leBytes 1 det

/-- The event code of an alarm. -/
def evCode (src low : Nat) : Nat := src * 256 + low

/-- Raise an alarm with DATA; an alarm in force is not raised again. -/
def State.alarmD (s : State) (src low idx : Nat) (data : List Byte) : State :=
  if s.alarms.contains (evCode src low, idx) then s
  else ({ s with alarms := s.alarms ++ [(evCode src low, idx)] }).event src low 2 data

/-- Raise an alarm with the common DATA layout. -/
def State.alarm (s : State) (src low idx det : Nat) : State := s.alarmD src low idx (evData idx det)

/-- Clear an alarm in force: a CLEARED record with the same code (R412). -/
def State.clearAlarm (s : State) (src low idx : Nat) : State :=
  if s.alarms.contains (evCode src low, idx) then
    ({ s with alarms := s.alarms.filter (fun a => a != (evCode src low, idx)) }).event src low 3 (evData idx 0)
  else s

/-- Clear an alarm in force whose record carries its own DATA. -/
def State.clearAlarmD (s : State) (src low idx : Nat) (data : List Byte) : State :=
  if s.alarms.contains (evCode src low, idx) then
    ({ s with alarms := s.alarms.filter (fun a => a != (evCode src low, idx)) }).event src low 3 data
  else s

/-- Is an alarm in force. -/
def State.hasAlarm (s : State) (src low idx : Nat) : Bool := s.alarms.contains (evCode src low, idx)

/-! ## Ledger requests (R487, R489) -/

/-- Queue a ledger entry; the 33rd waiting request is dropped and counted (R489). -/
def State.ledger (s : State) (type : Nat) (data : List Byte) : State :=
  if s.d0.queue.length ≥ 32 then
    { (s.fcount DIA_LEDGER.LOST 1) with d0 := { s.d0 with lost := s.d0.lost + 1, lostNew := s.d0.lostNew + 1 } }
  else { s with d0 := { s.d0 with queue := s.d0.queue ++ [⟨s.now, s.time.frame, type, data⟩] } }

/-! ## Responses (R386, R387) -/

/-- What a command answers: STATUS, DETAIL, EFFECT_FRAME when listed, inline result, page. -/
structure Res where
  status : Nat
  detail : Nat
  effect : Option Nat
  inl : List Byte
  page : List Byte
  deriving DecidableEq, Repr

/-- OK without result. -/
def resOk : Res := ⟨0, 0, none, [], []⟩
/-- A status alone. -/
def resSt (st : Nat) : Res := ⟨st, 0, none, [], []⟩
/-- A status with DETAIL. -/
def resDet (st d : Nat) : Res := ⟨st, d, none, [], []⟩
/-- OK with an inline result. -/
def resInl (bs : List Byte) : Res := ⟨0, 0, none, bs, []⟩
/-- OK, listed for frame `k` (R400). -/
def resListed (k : Nat) : Res := ⟨0, 0, some k, [], []⟩

/-- A response entry (R386). -/
def rspBytes (op tag seq : Nat) (r : Res) : List Byte :=
  let eff := match r.effect with | some k => k % 2 ^ 32 | none => 2 ^ 32 - 1
  let b := leBytes 2 op ++ leBytes 2 r.status ++ leBytes 2 tag ++ leBytes 2 r.inl.length ++ leBytes 4 seq
    ++ leBytes 4 eff ++ leBytes 4 r.page.length ++ leBytes 4 r.detail ++ leBytes 4 0
  b ++ leBytes 4 (crc32c (b ++ r.inl ++ r.page)) ++ fitBytes 224 r.inl

/-- Class of a status (R387). -/
def statusClass (st : Nat) : Nat := st / 4096

/-- Write a response: the page and the entry in full, then PI, then the interrupt; a response of class 0x2 to
0xE is counted in REJECTED (R386, R391, R398). -/
def State.respond (s : State) (op tag seq : Nat) (r : Res) : State :=
  let slot := s.fget HIF_RSP_PI.IDX % 64
  let s1 := if r.page.isEmpty then s else s.wrB rgnXr (slot * 4096) r.page
  let s2 := s1.wrB rgnRsp (slot * 256) (rspBytes op tag seq r)
  let s3 := s2.fwrap HIF_RSP_PI.IDX
  let s4 := if 2 ≤ statusClass r.status ∧ statusClass r.status ≤ 14 then s3.finc HIF_CNT.REJECTED else s3
  s4.intr HIF_INT_STAT.RSP

/-! ## Device time between commands (R18, R19, R22) -/

/-- The slew term of one tick in 2^-32 ns: the largest that keeps the rate at or below `ppb` (R22). -/
def slewTerm (inc ppb : Nat) : Nat := inc * ppb / 1000000000

/-- What `n` ticks leave of a slew. -/
def slewAfter (left : Int) (term n : Nat) : Int :=
  if left.natAbs ≤ term * n then 0 else if left < 0 then left + Int.ofNat (term * n) else left - Int.ofNat (term * n)

/-- `n` ticks at one INC: the counter pair and the slew. -/
def tickN (t : TimeSt) (n : Nat) : TimeSt :=
  let left' := slewAfter t.slewLeft (slewTerm t.inc.toNat t.slewRate) n
  let moved := t.slewLeft - left'
  let tot := (Int.ofNat (t.ns.toNat * 2 ^ 32 + t.frac.toNat) + Int.ofNat (n * t.inc.toNat) + moved) % Int.ofNat (2 ^ 96)
  { t with ns := BitVec.ofNat 64 (tot.toNat / 2 ^ 32), frac := BitVec.ofNat 32 tot.toNat,
           slewLeft := left', slewAdded := t.slewAdded + moved, moved := t.moved + moved, ticks := t.ticks + n }

/-- `n` CLK_TS edges: a pending INC is loaded at the first, which itself still counts with the old INC; the next counts with the
new one (R20; DEDUCED, log 32). -/
def edges (t : TimeSt) : Nat → TimeSt
  | 0 => t
  | n + 1 =>
    match t.incLoad with
    | some i => tickN ({ (tickN t 1) with inc := i, incLoad := none }) n
    | none => tickN t (n + 1)

/-- Reset values of the YD-22 registers (R420, R422). -/
def ydReset (a : Nat) : BitVec 16 :=
  match a with
  | 0x00 => 0x2201 | 0x01 => 0x0312 | 0x19 => 0x7FFF | 0x92 => 0x7FFF | 0x93 => 0x01F4 | 0xA5 => 0xFFFF | 0xA6 => 1
  | 0xB0 => 5 | 0xB1 => 0x0C00 | 0xB3 => 0x012C | 0xB4 => 0x14 | 0xFE => 0x9160
  | _ =>
    if 0x20 ≤ a ∧ a < 0x50 then
      (if a % 16 = 10 ∨ a % 16 = 12 then 0xFFFF else if a % 16 = 11 ∨ a % 16 = 13 then 0x7FFF else 0)
    else if 0x50 ≤ a ∧ a < 0x90 ∧ a % 8 = 3 then 1
    else 0

/-- A YD-22 register as held. -/
def State.ydReg (s : State) (a : Nat) : Nat := (tabGet ydReset s.yd.regs a).toNat
/-- Write a YD-22 register. -/
def State.ydPut (s : State) (a v : Nat) : State :=
  { s with yd := { s.yd with regs := tabSet ydReset s.yd.regs a (BitVec.ofNat 16 v) } }

/-- CLK_TS runs: the unit is in RUN or HARBOUR with its clock present and no power reset held (R10, R442). -/
def State.clocked (s : State) : Bool :=
  (s.pwr == .run || s.pwr == .harbour) && s.sys.held.isNone

/-- Device time `dt` CLK_TS edges later; while CLK_TS does not run, `dt` periods of 8 ns. The RTC counts throughout
(R441). -/
def State.advance (s : State) (dt : Nat) : State :=
  let s1 := { s with sys := { s.sys with rtc := s.sys.rtc + dt } }
  if s1.clocked then { s1 with time := edges s1.time dt } else s1

end Sys2Proof.Machine
end

