-- ==== Sys2Proof/Machine/RegRules.lean ====
section
/-!
DEFINITION. When a host write to a register is accepted: the limits of its fields ("the whole write is ignored")
and the operating states that accept it (R27, R33, R54, R93, R132, R171, R214, R242, R268, R297, R298, R300, R302,
R324, R325, R344, R345, R467, R490, R503). The limits also check the register words of configuration objects
(R404).
-/

namespace Sys2Proof.Machine

/-- The address of instance 0 of a register, and the instance (R374). -/
def regTemplate (a : Nat) : Nat × Nat :=
  match regRow a with
  | some r => if r.stride = 0 then (r.base, 0) else (r.base, (a - r.base) / r.stride)
  | none => (a, 0)

/-- A field of a word. -/
def wf (w : Nat) (f : Fld) : Nat := bits w f.lo f.w
/-- A field of a word lies in a range. -/
def inR (w : Nat) (f : Fld) (lo hi : Nat) : Bool := decide (lo ≤ wf w f) && decide (wf w f ≤ hi)

/-- Limits of the nominal and the data phase of a CAN controller taken together (R300). -/
def canTimingOk (nbt dbt : Nat) : Bool :=
  let nb := (wf nbt CAN_NBT.NBRP + 1) * (1 + (wf nbt CAN_NBT.NTSEG1 + 1) + (wf nbt CAN_NBT.NTSEG2 + 1))
  let db := (wf dbt CAN_DBT.DBRP + 1) * (1 + (wf dbt CAN_DBT.DTSEG1 + 1) + (wf dbt CAN_DBT.DTSEG2 + 1))
  decide (80 ≤ nb) && decide (10 ≤ db) && decide (db ≤ nb)
    && decide (wf nbt CAN_NBT.NSJW ≤ wf nbt CAN_NBT.NTSEG2) && decide (wf dbt CAN_DBT.DSJW ≤ wf dbt CAN_DBT.DTSEG2)
    && !(wf dbt CAN_DBT.TDC_EN == 1 && decide (1 < wf dbt CAN_DBT.DBRP))

/-- Limits of the time, context and PTP registers. EXTRAP outside 0 to 48 leaves the whole write of SCX_LIM without effect, LAT_NOM
included: "other values are ignored" does not say whether the rest is taken (DESIGN CHOICE, log 224). TIM_SLEW and the other
registers whose rule speaks of the value alone hold one writable field. -/
def limTime (t w : Nat) : Bool :=
  if t = aTIM_FRAME_CFG then
    inR w TIM_FRAME_CFG.RETRO_H 1 8 && inR w TIM_FRAME_CFG.CUTOFF 10 25 && inR w TIM_FRAME_CFG.PERIOD 0 2
  else if t = aTIM_SLEW then inR w TIM_SLEW.SLEW_MAX 1 500000
  else if t = aTIM_SUP_CFG then inR w TIM_SUP_CFG.MARGIN 50 1000 && inR w TIM_SUP_CFG.GUARD 200 4000
  else if t = aTIM_PTP_CFG then
    wf w TIM_PTP_CFG.BC == 1 || decide (popCount 4 (wf w TIM_PTP_CFG.PORTS) ≤ 1)
  else if t = aTIM_DOM_CFG then
    inR w TIM_DOM_CFG.SEC_DOMAIN 0 127 && inR w TIM_DOM_CFG.PRI_DOMAIN 0 127
      && !(wf w TIM_DOM_CFG.SEC_EN == 1 && wf w TIM_DOM_CFG.SEC_DOMAIN == wf w TIM_DOM_CFG.PRI_DOMAIN)
  else if t = aTIM_SRV_CFG then
    inR w TIM_SRV_CFG.LOCK_THR 1 255 && inR w TIM_SRV_CFG.KF_SHIFT 0 8 && inR w TIM_SRV_CFG.SW_SLEW 1 255
  else if t = aTIM_SRV_CFG2 then inR w TIM_SRV_CFG2.TRANS_T 1 255 && inR w TIM_SRV_CFG2.PD_GATE 1 255
  else if t = aSCX_CFG then inR w SCX_CFG.MODE 0 1
  else if t = aSCX_LIM then inR w SCX_LIM.EXTRAP 0 48
  else true

/-- Limits of the fusion, control and solver registers. -/
def limCtl (t w : Nat) : Bool :=
  if t = aFUS_CFG then
    inR w FUS_CFG.MODE_RATIO 1 255 && inR w FUS_CFG.MODE_WIN 3 15 && wf w FUS_CFG.MODE_WIN % 2 == 1
      && inR w FUS_CFG.K_MAX 0 5 && inR w FUS_CFG.K_MIN 0 5
      && decide (wf w FUS_CFG.K_MIN ≤ wf w FUS_CFG.K_MAX)
  else if t = aFUS_GATE then inR w FUS_GATE.GATE 1 255 && inR w FUS_GATE.GATE_HDG 1 255
  else if t = aFUS_PERSIST then inR w FUS_PERSIST.READMIT_N 1 255 && inR w FUS_PERSIST.DIS_PERSIST 1 255
  else if t = aFUS_DR then inR w FUS_DR.DR_LIMIT 1 4095
  else if t = aCEX_CFG then
    inR w CEX_CFG.XFADE 1 255 && inR w CEX_CFG.RATE_EXP 0 8 && inR w CEX_CFG.VEL_EXP 8 16
      && inR w CEX_CFG.POS_EXP 10 20
  else if t = aCEX_FS_X ∨ t = aCEX_FS_Y ∨ t = aCEX_FS_N then decide (0 < w)
  else if t = aSLV_CFG then
    inR w SLV_CFG.ITER_MPC 1 63 && inR w SLV_CFG.ITER_ALLOC 1 63 && inR w SLV_CFG.MPC_M 2 31
      && inR w SLV_CFG.REFINE_PIV 0 4 && inR w SLV_CFG.REFINE_N 0 4
  else true

/-- Limits of the redundancy, safety, GNSS and network registers. -/
def limNet (t w : Nat) : Bool :=
  if t = aRED_CFG then
    inR w RED_CFG.ZONE 0 4 && inR w RED_CFG.KEY_LEASE 2 31 && inR w RED_CFG.MISMATCH_N 3 15
      && inR w RED_CFG.SET_N 1 3 && inR w RED_CFG.UNIT 0 2 && decide (wf w RED_CFG.UNIT < wf w RED_CFG.SET_N)
  else if t = aRED_CFG2 then inR w RED_CFG2.QUALIFY_N 10 65535
  else if t = aSAF_CFG then inR w SAF_CFG.DISC_T 1 100
  else if t = aSAF_SF2_CFG then inR w SAF_SF2_CFG.SF2_N 1 3
  else if t = aGNS_CFG then inR w GNS_CFG.ELEV_MASK 0 45
  else if t = aGNS_MEAS_CFG then inR w GNS_MEAS_CFG.N 1 100
  else if t = aGNS_TRK_CFG then inR w GNS_TRK_CFG.EL_SPACE 1 10
  else if t = aGNS_IF_CFG then decide ((sx 16 w).natAbs ≤ 20000)
  else if t = aGNS_RTCM_CFG then inR w GNS_RTCM_CFG.AGE_MAX 1 60 && inR w GNS_RTCM_CFG.SRC 0 2
  else if t = aGNS_PPS0_CFG ∨ t = aGNS_PPS1_CFG then inR w GNS_PPS0_CFG.WIDTH 1 999
  else if t = aGNS_TP_CFG then inR w GNS_TP_CFG.TAU 1 100
  else if t = aGNS_SNAP_CFG then
    inR w GNS_SNAP_CFG.LEN0 0 120 && inR w GNS_SNAP_CFG.LEN1 0 120 && inR w GNS_SNAP_CFG.LEN2 0 120
      && inR w GNS_SNAP_CFG.LEN3 0 120
      && decide (wf w GNS_SNAP_CFG.LEN0 + wf w GNS_SNAP_CFG.LEN1 + wf w GNS_SNAP_CFG.LEN2
          + wf w GNS_SNAP_CFG.LEN3 ≤ 402)
  else if t = aGNS_HARB_CFG then inR w GNS_HARB_CFG.SNAP_INT 10 3600
  else if t = aNET_PIER_CFG then inR w NET_PIER_CFG.BASE_PORT 0 65528 && inR w NET_PIER_CFG.HARV_LEAD 1 100
  else if t = aNET_PIER_GRP then bits w 28 4 == 14
  else true

/-- Limits of the CAN, UART, filter, power, diagnostics and panel registers. -/
def limIo (t w : Nat) : Bool :=
  if t = aCAN_CTRL then inR w CAN_CTRL.NOMATCH 0 2
  else if t = aCAN_UCFG then inR w CAN_UCFG.DIV 17 65535 && inR w CAN_UCFG.PARITY 0 2 && inR w CAN_UCFG.USE 0 2
  else if t = aSDF_CLK_CFG then inR w SDF_CLK_CFG.RATE 0 2
  else if t = aSDF_CH_CFG then
    inR w SDF_CH_CFG.SRC 0 2 && inR w SDF_CH_CFG.ORDER 3 5 && inR w SDF_CH_CFG.R 16 512
  else if t = aSDF_CH_PT then !(wf w SDF_CH_PT.PT_EN == 1 && wf w SDF_CH_PT.POINT == 262143)
  else if t = aSDF_CH_THR_HI ∨ t = aSDF_CH_THR_LO then inR w SDF_CH_THR_HI.HYS 0 32767
  else if t = aSDF_CH_THR_CFG then inR w SDF_CH_THR_CFG.PERS_HI 1 255 && inR w SDF_CH_THR_CFG.PERS_LO 1 255
  else if t = aPMU_CFG then inR w PMU_CFG.PHASES 1 3 && inR w PMU_CFG.FSW 0 2
  else if t = aDIA_CFG then inR w DIA_CFG.CKPT_INT 60 3600
  else if t = aDIA_FLT_SEL then inR w DIA_FLT_SEL.CLASS 0 5
  else if t = aDIA_FLT_CFG then inR w DIA_FLT_CFG.WIN 1 65535 && inR w DIA_FLT_CFG.LIMIT 1 255
  else if t = aPNL_CFG then inR w PNL_CFG.DRIVE_T 10 195
  else if t = aPNL_CRK_CFG then inR w PNL_CRK_CFG.STEP 1 65535
  else true

/-- The limits of a register word, by the address of its instance 0. -/
def regLimits (t w : Nat) : Bool := limTime t w && limCtl t w && limNet t w && limIo t w

/-- P in ms of a PERIOD code (R27). -/
def periodMs (c : Nat) : Nat := match c with | 0 => 5 | 1 => 10 | _ => 20

/-- BOOT and CONFIG, the states that accept writes of configuration. -/
def State.inCfg (s : State) : Bool := s.op == .boot || s.op == .config

/-- Registers whose RW fields accept writes only in BOOT and CONFIG. -/
def cfgOnly (t : Nat) : Bool :=
  t == aTIM_FRAME_CFG || t == aTIM_PTP_CFG || t == aTIM_DOM_CFG
  || t == aFUS_CFG || t == aFUS_GATE || t == aFUS_SUPPORT || t == aFUS_PERSIST || t == aFUS_DR
  || t == aCEX_CFG || t == aCEX_FS_X || t == aCEX_FS_Y || t == aCEX_FS_N
  || t == aSLV_CFG || t == aSLV_SCEN || t == aRED_CFG || t == aRED_CFG2
  || t == aGNS_CFG || t == aGNS_MEAS_CFG || t == aGNS_IF_CFG || t == aGNS_TRK_CFG || t == aGNS_HDG_CFG
  || t == aNET_PORT_CFG || t == aNET_PORT_DLY || t == aNET_PIER_CFG || t == aNET_PIER_GRP || t == aNET_450_ADDR
  || t == aNET_450_PORT || t == aCAN_UCFG || t == aPMU_CFG || t == aPMU_WAKE_CFG
  || t == aPNL_CFG || t == aPNL_TEMP_CFG || t == aPNL_BAND || t == aPNL_CRK_CFG

/-- Is a write of word `w` (the RW bits, at the fields' places) accepted at address `a` (R16 and the
chapters' own conditions)? -/
def State.writeOk (s : State) (a w : Nat) : Bool :=
  let (t, n) := regTemplate a
  let old := (s.reg a).toNat
  regLimits t w
  && (if cfgOnly t then s.inCfg else true)
  && (if t = aSCX_CFG then
        -- a write that would enable a context whose TP is 0 (R40)
        !(wf w SCX_CFG.EN == 1 && wf old SCX_CFG.EN == 0 && s.fget (fldAt SCX_PERIOD.TP n) == 0)
      else if t = aSCX_PERIOD then !(wf w SCX_PERIOD.TP == 0 && s.fbit (fldAt SCX_CFG.EN n))
      else if t = aGNS_MEAS_CFG then
        decide (50 ≤ wf w GNS_MEAS_CFG.N * s.time.period) && decide (50 ≤ wf w GNS_MEAS_CFG.N * periodMs (s.fget TIM_FRAME_CFG.PERIOD))
      else if t = aTIM_FRAME_CFG then decide (50 ≤ s.fget GNS_MEAS_CFG.N * periodMs (wf w TIM_FRAME_CFG.PERIOD))
      else if t = aTIM_SUP_CFG then decide (wf w TIM_SUP_CFG.GUARD * 5000 ≤ s.pNs)
      else if t = aCAN_NBT then s.fbit (fldAt CAN_STAT.INIT_ACK n) && canTimingOk w (s.reg (a + 4)).toNat
      else if t = aCAN_DBT then s.fbit (fldAt CAN_STAT.INIT_ACK n) && canTimingOk (s.reg (a - 4)).toNat w
      else if t = aSDF_CLK_CFG then
        (upTo 8).all (fun j => !s.fbit (fldAt SDF_CH_CFG.EN (8 * n + j)))
      else if t = aSDF_CH_OUT ∨ t = aSDF_CH_PT ∨ t = aSDF_CH_SETTLE then !s.fbit (fldAt SDF_CH_CFG.EN n)
      else if t = aSDF_CH_CFG then
        -- while EN = 1 only EN and SRC may change (R345)
        wf old SDF_CH_CFG.EN == 0
          || putBits (putBits w 31 1 0) 26 2 0 == putBits (putBits (old &&& 0x8EFF83FF) 31 1 0) 26 2 0
      else true)

/-- What a write of `w` leaves of the fields it may change: CAN_CTRL outside INIT_ACK changes INIT alone (R302). -/
def State.writeMask (s : State) (a w : Nat) : Nat :=
  let (t, n) := regTemplate a
  if t = aCAN_CTRL ∧ !s.fbit (fldAt CAN_STAT.INIT_ACK n) then
    putBits (s.reg a).toNat 0 1 (w % 2)
  else w

/-- A write by the access codes (R16): RW bits take the written value, W1C bits written one clear. WO and W1S
bits store nothing and read zero; their effects belong to the commands of the fields. -/
def State.plainWrite (s : State) (a w : Nat) : State :=
  match regRow a with
  | none => s
  | some r =>
    let old := (s.reg a).toNat
    let rwOk := r.rw != 0 && s.writeOk a (w &&& r.rw)
    let wNew := s.writeMask a w
    let kept := old &&& (2 ^ 32 - 1 - (w &&& r.w1c))
    let word := if rwOk then (kept &&& (2 ^ 32 - 1 - r.rw)) ||| (wNew &&& r.rw) else kept
    s.setReg a (BitVec.ofNat 32 word)

end Sys2Proof.Machine
end

