-- ==== Sys2Proof/Machine/Trig.lean ====
section
/-!
DEFINITION. The fixed tables and the fixed routines over them: the F16 quarter-wave table T and the sine and
cosine of R100, the binary32 table Tb of R57, the CORDIC of R100, the table EXPT of R80, cbrt of R120.
The table entries are the values the rules define (round of a sine, an arctangent or an exponential).
-/

namespace Sys2Proof.Machine

/-- T[0..1024] of R100, in pieces. -/
def sinT0 : List Nat := [
  0, 50, 101, 151, 201, 251, 302, 352,
  402, 452, 503, 553, 603, 653, 704, 754,
  804, 854, 905, 955, 1005, 1055, 1106, 1156,
  1206, 1256, 1307, 1357, 1407, 1457, 1507, 1558,
  1608, 1658, 1708, 1758, 1809, 1859, 1909, 1959,
  2009, 2060, 2110, 2160, 2210, 2260, 2310, 2360,
  2411, 2461, 2511, 2561, 2611, 2661, 2711, 2761,
  2811, 2861, 2912, 2962, 3012, 3062, 3112, 3162]
def sinT1 : List Nat := [
  3212, 3262, 3312, 3362, 3412, 3462, 3512, 3562,
  3612, 3662, 3712, 3762, 3812, 3861, 3911, 3961,
  4011, 4061, 4111, 4161, 4211, 4260, 4310, 4360,
  4410, 4460, 4510, 4559, 4609, 4659, 4709, 4758,
  4808, 4858, 4907, 4957, 5007, 5057, 5106, 5156,
  5205, 5255, 5305, 5354, 5404, 5453, 5503, 5553,
  5602, 5652, 5701, 5751, 5800, 5850, 5899, 5948,
  5998, 6047, 6097, 6146, 6195, 6245, 6294, 6343]
def sinT2 : List Nat := [
  6393, 6442, 6491, 6541, 6590, 6639, 6688, 6737,
  6787, 6836, 6885, 6934, 6983, 7032, 7081, 7130,
  7180, 7229, 7278, 7327, 7376, 7425, 7473, 7522,
  7571, 7620, 7669, 7718, 7767, 7816, 7864, 7913,
  7962, 8011, 8059, 8108, 8157, 8206, 8254, 8303,
  8351, 8400, 8449, 8497, 8546, 8594, 8643, 8691,
  8740, 8788, 8836, 8885, 8933, 8982, 9030, 9078,
  9127, 9175, 9223, 9271, 9319, 9368, 9416, 9464]
def sinT3 : List Nat := [
  9512, 9560, 9608, 9656, 9704, 9752, 9800, 9848,
  9896, 9944, 9992, 10040, 10088, 10135, 10183, 10231,
  10279, 10326, 10374, 10422, 10469, 10517, 10565, 10612,
  10660, 10707, 10755, 10802, 10850, 10897, 10945, 10992,
  11039, 11087, 11134, 11181, 11228, 11276, 11323, 11370,
  11417, 11464, 11511, 11558, 11605, 11652, 11699, 11746,
  11793, 11840, 11887, 11934, 11980, 12027, 12074, 12121,
  12167, 12214, 12261, 12307, 12354, 12400, 12447, 12493]
def sinT4 : List Nat := [
  12540, 12586, 12633, 12679, 12725, 12772, 12818, 12864,
  12910, 12957, 13003, 13049, 13095, 13141, 13187, 13233,
  13279, 13325, 13371, 13417, 13463, 13508, 13554, 13600,
  13646, 13691, 13737, 13783, 13828, 13874, 13919, 13965,
  14010, 14056, 14101, 14146, 14192, 14237, 14282, 14327,
  14373, 14418, 14463, 14508, 14553, 14598, 14643, 14688,
  14733, 14778, 14823, 14867, 14912, 14957, 15002, 15046,
  15091, 15136, 15180, 15225, 15269, 15314, 15358, 15402]
def sinT5 : List Nat := [
  15447, 15491, 15535, 15580, 15624, 15668, 15712, 15756,
  15800, 15844, 15888, 15932, 15976, 16020, 16064, 16108,
  16151, 16195, 16239, 16282, 16326, 16369, 16413, 16456,
  16500, 16543, 16587, 16630, 16673, 16717, 16760, 16803,
  16846, 16889, 16932, 16975, 17018, 17061, 17104, 17147,
  17190, 17233, 17275, 17318, 17361, 17403, 17446, 17488,
  17531, 17573, 17616, 17658, 17700, 17743, 17785, 17827,
  17869, 17911, 17953, 17995, 18037, 18079, 18121, 18163]
def sinT6 : List Nat := [
  18205, 18247, 18288, 18330, 18372, 18413, 18455, 18496,
  18538, 18579, 18621, 18662, 18703, 18745, 18786, 18827,
  18868, 18909, 18950, 18991, 19032, 19073, 19114, 19155,
  19195, 19236, 19277, 19317, 19358, 19399, 19439, 19479,
  19520, 19560, 19601, 19641, 19681, 19721, 19761, 19801,
  19841, 19881, 19921, 19961, 20001, 20041, 20081, 20120,
  20160, 20200, 20239, 20279, 20318, 20357, 20397, 20436,
  20475, 20515, 20554, 20593, 20632, 20671, 20710, 20749]
def sinT7 : List Nat := [
  20788, 20827, 20865, 20904, 20943, 20981, 21020, 21059,
  21097, 21136, 21174, 21212, 21251, 21289, 21327, 21365,
  21403, 21441, 21479, 21517, 21555, 21593, 21631, 21668,
  21706, 21744, 21781, 21819, 21856, 21894, 21931, 21968,
  22006, 22043, 22080, 22117, 22154, 22191, 22228, 22265,
  22302, 22339, 22375, 22412, 22449, 22485, 22522, 22558,
  22595, 22631, 22668, 22704, 22740, 22776, 22812, 22848,
  22884, 22920, 22956, 22992, 23028, 23064, 23099, 23135]
def sinT8 : List Nat := [
  23170, 23206, 23241, 23277, 23312, 23348, 23383, 23418,
  23453, 23488, 23523, 23558, 23593, 23628, 23663, 23697,
  23732, 23767, 23801, 23836, 23870, 23905, 23939, 23973,
  24008, 24042, 24076, 24110, 24144, 24178, 24212, 24246,
  24279, 24313, 24347, 24380, 24414, 24448, 24481, 24514,
  24548, 24581, 24614, 24647, 24680, 24713, 24746, 24779,
  24812, 24845, 24878, 24910, 24943, 24976, 25008, 25041,
  25073, 25105, 25138, 25170, 25202, 25234, 25266, 25298]
def sinT9 : List Nat := [
  25330, 25362, 25394, 25425, 25457, 25489, 25520, 25552,
  25583, 25615, 25646, 25677, 25708, 25739, 25771, 25802,
  25833, 25863, 25894, 25925, 25956, 25986, 26017, 26048,
  26078, 26108, 26139, 26169, 26199, 26229, 26259, 26290,
  26320, 26349, 26379, 26409, 26439, 26468, 26498, 26528,
  26557, 26586, 26616, 26645, 26674, 26704, 26733, 26762,
  26791, 26820, 26848, 26877, 26906, 26935, 26963, 26992,
  27020, 27049, 27077, 27105, 27133, 27162, 27190, 27218]
def sinT10 : List Nat := [
  27246, 27273, 27301, 27329, 27357, 27384, 27412, 27440,
  27467, 27494, 27522, 27549, 27576, 27603, 27630, 27657,
  27684, 27711, 27738, 27765, 27791, 27818, 27844, 27871,
  27897, 27924, 27950, 27976, 28002, 28028, 28054, 28080,
  28106, 28132, 28158, 28183, 28209, 28234, 28260, 28285,
  28311, 28336, 28361, 28386, 28411, 28436, 28461, 28486,
  28511, 28536, 28560, 28585, 28610, 28634, 28658, 28683,
  28707, 28731, 28755, 28779, 28803, 28827, 28851, 28875]
def sinT11 : List Nat := [
  28899, 28922, 28946, 28970, 28993, 29016, 29040, 29063,
  29086, 29109, 29132, 29155, 29178, 29201, 29224, 29247,
  29269, 29292, 29314, 29337, 29359, 29381, 29404, 29426,
  29448, 29470, 29492, 29514, 29535, 29557, 29579, 29600,
  29622, 29643, 29665, 29686, 29707, 29729, 29750, 29771,
  29792, 29813, 29833, 29854, 29875, 29895, 29916, 29936,
  29957, 29977, 29997, 30018, 30038, 30058, 30078, 30098,
  30118, 30137, 30157, 30177, 30196, 30216, 30235, 30254]
def sinT12 : List Nat := [
  30274, 30293, 30312, 30331, 30350, 30369, 30388, 30407,
  30425, 30444, 30462, 30481, 30499, 30518, 30536, 30554,
  30572, 30590, 30608, 30626, 30644, 30662, 30680, 30697,
  30715, 30732, 30750, 30767, 30784, 30801, 30819, 30836,
  30853, 30869, 30886, 30903, 30920, 30936, 30953, 30969,
  30986, 31002, 31018, 31034, 31050, 31067, 31082, 31098,
  31114, 31130, 31146, 31161, 31177, 31192, 31207, 31223,
  31238, 31253, 31268, 31283, 31298, 31313, 31328, 31342]
def sinT13 : List Nat := [
  31357, 31372, 31386, 31400, 31415, 31429, 31443, 31457,
  31471, 31485, 31499, 31513, 31527, 31540, 31554, 31568,
  31581, 31594, 31608, 31621, 31634, 31647, 31660, 31673,
  31686, 31699, 31711, 31724, 31737, 31749, 31761, 31774,
  31786, 31798, 31810, 31822, 31834, 31846, 31858, 31870,
  31881, 31893, 31904, 31916, 31927, 31938, 31950, 31961,
  31972, 31983, 31994, 32005, 32015, 32026, 32037, 32047,
  32058, 32068, 32078, 32088, 32099, 32109, 32119, 32129]
def sinT14 : List Nat := [
  32138, 32148, 32158, 32167, 32177, 32186, 32196, 32205,
  32214, 32224, 32233, 32242, 32251, 32259, 32268, 32277,
  32286, 32294, 32303, 32311, 32319, 32328, 32336, 32344,
  32352, 32360, 32368, 32376, 32383, 32391, 32398, 32406,
  32413, 32421, 32428, 32435, 32442, 32449, 32456, 32463,
  32470, 32477, 32483, 32490, 32496, 32503, 32509, 32515,
  32522, 32528, 32534, 32540, 32546, 32551, 32557, 32563,
  32568, 32574, 32579, 32585, 32590, 32595, 32600, 32605]
def sinT15 : List Nat := [
  32610, 32615, 32620, 32625, 32629, 32634, 32638, 32643,
  32647, 32651, 32656, 32660, 32664, 32668, 32672, 32675,
  32679, 32683, 32686, 32690, 32693, 32697, 32700, 32703,
  32706, 32709, 32712, 32715, 32718, 32721, 32723, 32726,
  32729, 32731, 32733, 32736, 32738, 32740, 32742, 32744,
  32746, 32748, 32749, 32751, 32753, 32754, 32756, 32757,
  32758, 32759, 32760, 32761, 32762, 32763, 32764, 32765,
  32766, 32766, 32767, 32767, 32767, 32768, 32768, 32768]
def sinT16 : List Nat := [
  32767]
/-- T[i] of R100: round(32,768 × sin(i × 90° / 1,024)); T[1,024] = 0x7FFF. -/
def sinT : List Nat := sinT0 ++ sinT1 ++ sinT2 ++ sinT3 ++ sinT4 ++ sinT5 ++ sinT6 ++ sinT7 ++ sinT8 ++ sinT9 ++ sinT10 ++ sinT11 ++ sinT12 ++ sinT13 ++ sinT14 ++ sinT15 ++ sinT16

/-- Tb[0..1024] of R57 as binary32 encodings, in pieces. -/
def sinTb0 : List Nat := [
  0, 986255317, 994643910, 999738305, 1003032456, 1006326576, 1008126808, 1009773826,
  1011420816, 1013067775, 1014714699, 1015691576, 1016514998, 1017338396, 1018161769, 1018985115,
  1019808432, 1020631718, 1021454970, 1022278188, 1023101370, 1023667344, 1024078895, 1024490424,
  1024901932, 1025313416, 1025724875, 1026136310, 1026547719, 1026959100, 1027370453, 1027781777,
  1028193072, 1028604335, 1029015566, 1029426764, 1029837929, 1030249058, 1030660152, 1031071209,
  1031482228, 1031845996, 1032051466, 1032256916, 1032462346, 1032667754, 1032873140, 1033078503,
  1033283845, 1033489162, 1033694457, 1033899727, 1034104972, 1034310192, 1034515386, 1034720555,
  1034925696, 1035130811, 1035335898, 1035540957, 1035745987, 1035950989, 1036155961, 1036360902]
def sinTb1 : List Nat := [
  1036565814, 1036770694, 1036975543, 1037180360, 1037385145, 1037589897, 1037794615, 1037999300,
  1038203950, 1038408566, 1038613146, 1038817690, 1039022198, 1039226670, 1039431104, 1039635500,
  1039839859, 1040044178, 1040217925, 1040320046, 1040422146, 1040524226, 1040626286, 1040728325,
  1040830342, 1040932339, 1041034314, 1041136267, 1041238199, 1041340108, 1041441994, 1041543858,
  1041645699, 1041747517, 1041849312, 1041951083, 1042052830, 1042154552, 1042256251, 1042357925,
  1042459574, 1042561197, 1042662796, 1042764369, 1042865916, 1042967437, 1043068932, 1043170401,
  1043271842, 1043373257, 1043474644, 1043576004, 1043677336, 1043778640, 1043879916, 1043981164,
  1044082383, 1044183573, 1044284734, 1044385865, 1044486967, 1044588039, 1044689081, 1044790093]
def sinTb2 : List Nat := [
  1044891074, 1044992024, 1045092943, 1045193831, 1045294688, 1045395512, 1045496305, 1045597065,
  1045697793, 1045798488, 1045899151, 1045999780, 1046100375, 1046200938, 1046301466, 1046401960,
  1046502419, 1046602844, 1046703235, 1046803590, 1046903910, 1047004194, 1047104442, 1047204655,
  1047304831, 1047404971, 1047505074, 1047605140, 1047705169, 1047805160, 1047905114, 1048005030,
  1048104908, 1048204747, 1048304548, 1048404310, 1048504033, 1048589858, 1048639680, 1048689482,
  1048739264, 1048789026, 1048838768, 1048888490, 1048938190, 1048987871, 1049037530, 1049087169,
  1049136787, 1049186384, 1049235959, 1049285514, 1049335047, 1049384558, 1049434048, 1049483516,
  1049532962, 1049582386, 1049631788, 1049681168, 1049730525, 1049779860, 1049829173, 1049878463]
def sinTb3 : List Nat := [
  1049927729, 1049976973, 1050026194, 1050075392, 1050124567, 1050173718, 1050222846, 1050271950,
  1050321030, 1050370087, 1050419119, 1050468128, 1050517112, 1050566072, 1050615007, 1050663918,
  1050712805, 1050761666, 1050810503, 1050859315, 1050908101, 1050956863, 1051005599, 1051054309,
  1051102994, 1051151653, 1051200287, 1051248894, 1051297476, 1051346031, 1051394561, 1051443063,
  1051491540, 1051539989, 1051588412, 1051636809, 1051685178, 1051733520, 1051781835, 1051830123,
  1051878383, 1051926616, 1051974821, 1052022998, 1052071148, 1052119270, 1052167363, 1052215428,
  1052263466, 1052311474, 1052359454, 1052407406, 1052455328, 1052503222, 1052551087, 1052598923,
  1052646730, 1052694507, 1052742255, 1052789973, 1052837662, 1052885320, 1052932949, 1052980548]
def sinTb4 : List Nat := [
  1053028117, 1053075656, 1053123164, 1053170642, 1053218089, 1053265506, 1053312892, 1053360247,
  1053407571, 1053454864, 1053502126, 1053549356, 1053596555, 1053643722, 1053690858, 1053737962,
  1053785034, 1053832074, 1053879082, 1053926058, 1053973001, 1054019912, 1054066791, 1054113636,
  1054160449, 1054207229, 1054253977, 1054300691, 1054347371, 1054394019, 1054440633, 1054487213,
  1054533760, 1054580273, 1054626753, 1054673198, 1054719609, 1054765986, 1054812329, 1054858637,
  1054904911, 1054951150, 1054997354, 1055043524, 1055089658, 1055135758, 1055181822, 1055227851,
  1055273845, 1055319803, 1055365725, 1055411612, 1055457463, 1055503278, 1055549057, 1055594800,
  1055640507, 1055686177, 1055731811, 1055777408, 1055822969, 1055868492, 1055913979, 1055959429]
def sinTb5 : List Nat := [
  1056004842, 1056050217, 1056095555, 1056140856, 1056186119, 1056231345, 1056276533, 1056321683,
  1056366795, 1056411868, 1056456904, 1056501902, 1056546861, 1056591781, 1056636663, 1056681506,
  1056726311, 1056771076, 1056815803, 1056860490, 1056905138, 1056949747, 1056979462, 1057001727,
  1057023972, 1057046197, 1057068403, 1057090588, 1057112753, 1057134898, 1057157023, 1057179128,
  1057201213, 1057223277, 1057245321, 1057267345, 1057289348, 1057311330, 1057333292, 1057355234,
  1057377154, 1057399054, 1057420934, 1057442792, 1057464630, 1057486447, 1057508242, 1057530017,
  1057551771, 1057573503, 1057595214, 1057616905, 1057638573, 1057660221, 1057681847, 1057703452,
  1057725035, 1057746597, 1057768137, 1057789655, 1057811152, 1057832627, 1057854081, 1057875512]
def sinTb6 : List Nat := [
  1057896922, 1057918309, 1057939675, 1057961019, 1057982340, 1058003640, 1058024917, 1058046172,
  1058067405, 1058088615, 1058109803, 1058130969, 1058152112, 1058173232, 1058194330, 1058215406,
  1058236458, 1058257488, 1058278495, 1058299480, 1058320441, 1058341380, 1058362295, 1058383188,
  1058404057, 1058424903, 1058445727, 1058466526, 1058487303, 1058508056, 1058528786, 1058549493,
  1058570176, 1058590835, 1058611471, 1058632084, 1058652672, 1058673237, 1058693779, 1058714296,
  1058734790, 1058755259, 1058775705, 1058796127, 1058816524, 1058836898, 1058857247, 1058877572,
  1058897873, 1058918150, 1058938402, 1058958630, 1058978834, 1058999013, 1059019167, 1059039297,
  1059059403, 1059079483, 1059099539, 1059119570, 1059139577, 1059159558, 1059179515, 1059199447]
def sinTb7 : List Nat := [
  1059219353, 1059239235, 1059259091, 1059278923, 1059298729, 1059318510, 1059338266, 1059357996,
  1059377701, 1059397380, 1059417035, 1059436663, 1059456266, 1059475844, 1059495395, 1059514922,
  1059534422, 1059553896, 1059573345, 1059592768, 1059612165, 1059631536, 1059650881, 1059670200,
  1059689493, 1059708759, 1059728000, 1059747214, 1059766402, 1059785563, 1059804699, 1059823807,
  1059842890, 1059861945, 1059880975, 1059899977, 1059918953, 1059937903, 1059956825, 1059975721,
  1059994590, 1060013432, 1060032247, 1060051035, 1060069797, 1060088531, 1060107238, 1060125918,
  1060144571, 1060163196, 1060181794, 1060200365, 1060218909, 1060237425, 1060255914, 1060274375,
  1060292809, 1060311215, 1060329594, 1060347945, 1060366268, 1060384564, 1060402831, 1060421071]
def sinTb8 : List Nat := [
  1060439283, 1060457467, 1060475623, 1060493752, 1060511852, 1060529924, 1060547967, 1060565983,
  1060583971, 1060601930, 1060619861, 1060637763, 1060655638, 1060673483, 1060691301, 1060709089,
  1060726850, 1060744581, 1060762284, 1060779959, 1060797604, 1060815221, 1060832809, 1060850369,
  1060867899, 1060885400, 1060902873, 1060920316, 1060937731, 1060955116, 1060972472, 1060989799,
  1061007097, 1061024366, 1061041605, 1061058815, 1061075995, 1061093147, 1061110268, 1061127360,
  1061144423, 1061161456, 1061178460, 1061195433, 1061212378, 1061229292, 1061246177, 1061263031,
  1061279856, 1061296651, 1061313417, 1061330152, 1061346857, 1061363532, 1061380177, 1061396792,
  1061413376, 1061429931, 1061446455, 1061462949, 1061479413, 1061495846, 1061512249, 1061528621]
def sinTb9 : List Nat := [
  1061544963, 1061561275, 1061577556, 1061593806, 1061610026, 1061626215, 1061642373, 1061658500,
  1061674597, 1061690663, 1061706698, 1061722702, 1061738675, 1061754618, 1061770529, 1061786409,
  1061802258, 1061818076, 1061833863, 1061849619, 1061865343, 1061881036, 1061896698, 1061912329,
  1061927928, 1061943495, 1061959032, 1061974536, 1061990009, 1062005451, 1062020861, 1062036240,
  1062051586, 1062066901, 1062082185, 1062097436, 1062112656, 1062127844, 1062142999, 1062158123,
  1062173215, 1062188276, 1062203304, 1062218299, 1062233263, 1062248195, 1062263095, 1062277962,
  1062292797, 1062307600, 1062322370, 1062337108, 1062351814, 1062366488, 1062381129, 1062395737,
  1062410313, 1062424856, 1062439367, 1062453845, 1062468291, 1062482703, 1062497083, 1062511431]
def sinTb10 : List Nat := [
  1062525745, 1062540027, 1062554276, 1062568492, 1062582675, 1062596825, 1062610942, 1062625026,
  1062639077, 1062653095, 1062667080, 1062681031, 1062694950, 1062708835, 1062722687, 1062736505,
  1062750291, 1062764043, 1062777761, 1062791446, 1062805098, 1062818716, 1062832301, 1062845852,
  1062859370, 1062872854, 1062886304, 1062899721, 1062913104, 1062926453, 1062939769, 1062953050,
  1062966298, 1062979512, 1062992692, 1063005838, 1063018951, 1063032029, 1063045073, 1063058083,
  1063071059, 1063084001, 1063096909, 1063109783, 1063122622, 1063135427, 1063148198, 1063160935,
  1063173637, 1063186305, 1063198939, 1063211538, 1063224103, 1063236633, 1063249129, 1063261590,
  1063274017, 1063286409, 1063298767, 1063311090, 1063323378, 1063335632, 1063347850, 1063360034]
def sinTb11 : List Nat := [
  1063372184, 1063384298, 1063396378, 1063408422, 1063420432, 1063432407, 1063444347, 1063456252,
  1063468122, 1063479957, 1063491756, 1063503521, 1063515251, 1063526945, 1063538604, 1063550228,
  1063561817, 1063573371, 1063584889, 1063596372, 1063607819, 1063619232, 1063630608, 1063641950,
  1063653256, 1063664526, 1063675761, 1063686960, 1063698124, 1063709253, 1063720345, 1063731402,
  1063742424, 1063753409, 1063764359, 1063775273, 1063786152, 1063796995, 1063807801, 1063818572,
  1063829308, 1063840007, 1063850670, 1063861298, 1063871889, 1063882444, 1063892964, 1063903447,
  1063913895, 1063924306, 1063934681, 1063945020, 1063955323, 1063965589, 1063975820, 1063986014,
  1063996172, 1064006293, 1064016379, 1064026427, 1064036440, 1064046416, 1064056356, 1064066260]
def sinTb12 : List Nat := [
  1064076126, 1064085957, 1064095751, 1064105508, 1064115229, 1064124914, 1064134561, 1064144173,
  1064153747, 1064163285, 1064172786, 1064182251, 1064191678, 1064201069, 1064210424, 1064219741,
  1064229022, 1064238266, 1064247472, 1064256643, 1064265776, 1064274872, 1064283931, 1064292954,
  1064301939, 1064310887, 1064319799, 1064328673, 1064337510, 1064346310, 1064355073, 1064363799,
  1064372488, 1064381140, 1064389754, 1064398331, 1064406871, 1064415374, 1064423839, 1064432268,
  1064440658, 1064449012, 1064457328, 1064465607, 1064473848, 1064482052, 1064490219, 1064498348,
  1064506439, 1064514494, 1064522510, 1064530489, 1064538431, 1064546335, 1064554201, 1064562030,
  1064569821, 1064577575, 1064585291, 1064592969, 1064600610, 1064608213, 1064615778, 1064623305]
def sinTb13 : List Nat := [
  1064630795, 1064638247, 1064645661, 1064653037, 1064660375, 1064667676, 1064674939, 1064682163,
  1064689350, 1064696499, 1064703610, 1064710683, 1064717719, 1064724716, 1064731675, 1064738596,
  1064745479, 1064752324, 1064759131, 1064765900, 1064772631, 1064779324, 1064785978, 1064792595,
  1064799173, 1064805713, 1064812215, 1064818679, 1064825104, 1064831492, 1064837841, 1064844151,
  1064850424, 1064856658, 1064862854, 1064869011, 1064875131, 1064881211, 1064887254, 1064893258,
  1064899224, 1064905151, 1064911040, 1064916890, 1064922702, 1064928476, 1064934211, 1064939907,
  1064945565, 1064951185, 1064956766, 1064962308, 1064967812, 1064973277, 1064978704, 1064984092,
  1064989442, 1064994753, 1065000025, 1065005259, 1065010454, 1065015610, 1065020727, 1065025806]
def sinTb14 : List Nat := [
  1065030846, 1065035848, 1065040811, 1065045735, 1065050620, 1065055466, 1065060274, 1065065043,
  1065069773, 1065074464, 1065079117, 1065083731, 1065088305, 1065092841, 1065097338, 1065101797,
  1065106216, 1065110596, 1065114938, 1065119240, 1065123504, 1065127729, 1065131914, 1065136061,
  1065140169, 1065144238, 1065148268, 1065152259, 1065156211, 1065160124, 1065163997, 1065167832,
  1065171628, 1065175385, 1065179102, 1065182781, 1065186420, 1065190021, 1065193582, 1065197104,
  1065200588, 1065204032, 1065207436, 1065210802, 1065214129, 1065217416, 1065220664, 1065223874,
  1065227044, 1065230174, 1065233266, 1065236318, 1065239331, 1065242305, 1065245240, 1065248136,
  1065250992, 1065253809, 1065256587, 1065259325, 1065262025, 1065264685, 1065267305, 1065269887]
def sinTb15 : List Nat := [
  1065272429, 1065274932, 1065277396, 1065279820, 1065282205, 1065284551, 1065286857, 1065289124,
  1065291352, 1065293540, 1065295689, 1065297799, 1065299869, 1065301900, 1065303892, 1065305844,
  1065307757, 1065309631, 1065311465, 1065313260, 1065315015, 1065316731, 1065318408, 1065320045,
  1065321643, 1065323202, 1065324721, 1065326200, 1065327640, 1065329041, 1065330403, 1065331725,
  1065333007, 1065334250, 1065335454, 1065336618, 1065337743, 1065338828, 1065339874, 1065340881,
  1065341847, 1065342775, 1065343663, 1065344512, 1065345321, 1065346091, 1065346821, 1065347512,
  1065348163, 1065348775, 1065349347, 1065349880, 1065350374, 1065350828, 1065351242, 1065351617,
  1065351953, 1065352249, 1065352505, 1065352723, 1065352900, 1065353038, 1065353137, 1065353196]
def sinTb16 : List Nat := [
  1065353216]
/-- Tb[i] of R57, binary32 encodings. -/
def sinTb : List Nat := sinTb0 ++ sinTb1 ++ sinTb2 ++ sinTb3 ++ sinTb4 ++ sinTb5 ++ sinTb6 ++ sinTb7 ++ sinTb8 ++ sinTb9 ++ sinTb10 ++ sinTb11 ++ sinTb12 ++ sinTb13 ++ sinTb14 ++ sinTb15 ++ sinTb16

/-- A[0..23] of R100, in pieces. -/
def atanA0 : List Nat := [
  536870912, 316933406, 167458907, 85004756, 42667331, 21354465, 10679838, 5340245,
  2670163, 1335087, 667544, 333772, 166886, 83443, 41722, 20861,
  10430, 5215, 2608, 1304, 652, 326, 163, 81]
/-- A[i] of R100 in B32 units. -/
def atanA : List Nat := atanA0

/-- EXPT[0..255] of R80, in pieces. -/
def expT0 : List Nat := [
  65536, 61565, 57835, 54331, 51039, 47947, 45042, 42313,
  39750, 37341, 35079, 32954, 30957, 29081, 27319, 25664,
  24109, 22649, 21276, 19987, 18776, 17639, 16570, 15566,
  14623, 13737, 12905, 12123, 11388, 10698, 10050, 9441,
  8869, 8332, 7827, 7353, 6907, 6489, 6096, 5726,
  5380, 5054, 4747, 4460, 4190, 3936, 3697, 3473,
  3263, 3065, 2879, 2705, 2541, 2387, 2243, 2107,
  1979, 1859, 1746, 1641, 1541, 1448, 1360, 1278]
def expT1 : List Nat := [
  1200, 1128, 1059, 995, 935, 878, 825, 775,
  728, 684, 642, 604, 567, 533, 500, 470,
  442, 415, 390, 366, 344, 323, 303, 285,
  268, 252, 236, 222, 209, 196, 184, 173,
  162, 153, 143, 135, 127, 119, 112, 105,
  99, 93, 87, 82, 77, 72, 68, 64,
  60, 56, 53, 50, 47, 44, 41, 39,
  36, 34, 32, 30, 28, 27, 25, 23]
def expT2 : List Nat := [
  22, 21, 19, 18, 17, 16, 15, 14,
  13, 13, 12, 11, 10, 10, 9, 9,
  8, 8, 7, 7, 6, 6, 6, 5,
  5, 5, 4, 4, 4, 4, 3, 3,
  3, 3, 3, 2, 2, 2, 2, 2,
  2, 2, 2, 1, 1, 1, 1, 1,
  1, 1, 1, 1, 1, 1, 1, 1,
  1, 1, 1, 1, 1, 0, 0, 0]
def expT3 : List Nat := [
  0, 0, 0, 0, 0, 0, 0, 0,
  0, 0, 0, 0, 0, 0, 0, 0,
  0, 0, 0, 0, 0, 0, 0, 0,
  0, 0, 0, 0, 0, 0, 0, 0,
  0, 0, 0, 0, 0, 0, 0, 0,
  0, 0, 0, 0, 0, 0, 0, 0,
  0, 0, 0, 0, 0, 0, 0, 0,
  0, 0, 0, 0, 0, 0, 0, 0]
/-- EXPT[i] of R80: round(65,536 × exp(−i / 16)). -/
def expT : List Nat := expT0 ++ expT1 ++ expT2 ++ expT3

/-- Steps 1 to 3 of R100: quadrant, table index and fraction of a B32 angle. -/
def trigSplit (a : Nat) : Nat × Nat × Nat :=
  let q := bits a 30 2
  let w0 := a % 2 ^ 30
  let w := if q % 2 = 1 then 2 ^ 30 - w0 else w0
  (q, w / 2 ^ 20, w % 2 ^ 20)

/-- The F16 sine of a B32 angle (R100). DESIGN CHOICE (log 227): T[1,021] to T[1,023] round to 32,768, which an F16 does not
hold; the table and the result keep it. -/
def sinF16 (a : Nat) : Int :=
  let (q, i, f) := trigSplit (a % 2 ^ 32)
  let t0 := Int.ofNat (sinT.getD i 0)
  let v := if f = 0 then t0 else
    t0 + asr ((Int.ofNat (sinT.getD (i + 1) 0) - t0) * Int.ofNat f + 2 ^ 19) 20
  if q ≥ 2 then -v else v

/-- The F16 cosine of a B32 angle (R100). -/
def cosF16 (a : Nat) : Int := sinF16 ((a + 2 ^ 30) % 2 ^ 32)

/-- The binary32 sine of a B32 angle (R57). -/
def sinB (a : Nat) : Flt :=
  let (q, i, f) := trigSplit (a % 2 ^ 32)
  let t0 := BitVec.ofNat 32 (sinTb.getD i 0)
  let v := if i = 1024 then t0 else
    fadd t0 (fmul (fsub (BitVec.ofNat 32 (sinTb.getD (i + 1) 0)) t0) (fofDy (Int.ofNat f) (-20)))
  if q ≥ 2 then fneg v else v

/-- The binary32 cosine of a B32 angle (R57). -/
def cosB (a : Nat) : Flt := sinB ((a + 2 ^ 30) % 2 ^ 32)

/-- The iterations of the CORDIC of R100, from iteration `i`. -/
def cordicGo : List Nat → Nat → Int → Int → Int → Int
  | [], _, _, _, z => z
  | a :: as, i, x, y, z =>
    if y ≥ 0 then cordicGo as (i + 1) (x + asr y i) (y - asr x i) (z + Int.ofNat a)
    else cordicGo as (i + 1) (x - asr y i) (y + asr x i) (z - Int.ofNat a)

/-- The dyadic exponent of the leading bit of a finite non-zero value: 2^k ≤ |v| < 2^(k+1). -/
def fLead (m : Nat) (e : Int) : Int := Int.ofNat m.log2 + e

/-- Round `±m·2^(e+s)` to an integer, ties to even. -/
def scaleRound (n : Bool) (m : Nat) (e s : Int) : Int :=
  if e + s ≥ 0 then sgnI n m * Int.ofNat (2 ^ (e + s).toNat) else rndEven (sgnI n m) (2 ^ (-(e + s)).toNat)

/-- The B32 angle of a vector of finite binary32 components (R100); none when both are zero or one is not finite. -/
def cordic (x y : Flt) : Option Nat :=
  match fv x, fv y with
  | .fin nx mx ex, .fin ny my ey =>
    if mx = 0 ∧ my = 0 then none
    else
      let lead := if mx = 0 then fLead my ey else if my = 0 then fLead mx ex else max (fLead mx ex) (fLead my ey)
      let s := 29 - lead
      let X := scaleRound nx mx ex s
      let Y := scaleRound ny my ey s
      if X < 0 then some (tc 32 (cordicGo atanA 0 (-X) (-Y) (2 ^ 31)))
      else some (tc 32 (cordicGo atanA 0 X Y 0))
  | _, _ => none

/-- π × 2^192, rounded down. -/
def piFix : Nat := 19720096697726538562396133364228268891463450865190089732560

/-- The sine series from a term `t` of order `k`, at scale 2^192, with `x2` the square of the angle. -/
def sinSeries (x2 : Int) : Nat → Int → Nat → Int
  | 0, _, _ => 0
  | n + 1, t, k => t + sinSeries x2 n (-(asr (t * x2) 192).tdiv (Int.ofNat ((k + 1) * (k + 2)))) (k + 2)

/-- The sine of `n` × 2^-48 semicircle, times 2^192. -/
def sinSemi (n : Int) : Int :=
  let m := (n + 2 ^ 47) % 2 ^ 49 - 2 ^ 47
  let x := asr ((if m > 2 ^ 47 then 2 ^ 48 - m else m) * Int.ofNat piFix) 48
  sinSeries (asr (x * x) 192) 32 x 1

/-- e² of WGS 84, f = 1/298.257223563, as numerator and denominator (R59). -/
def wgsE2 : Nat × Nat := (10 ^ 9 * (2 * 298257223563 - 10 ^ 9), 298257223563 ^ 2)

/-- 1 − e² sin² λ0 and its square root, times 2^192 (R59). -/
def wgsW (lat : Int) : Nat × Nat :=
  let s := (sinSemi lat).natAbs
  let w := 2 ^ 192 - wgsE2.1 * (s * s / 2 ^ 192) / wgsE2.2
  (w, isqrt (w * 2 ^ 192))

/-- kN of an origin latitude in 2^-48 semicircle: M × π × 2^-48 × 1,000 rounded to binary32 (R59; DESIGN CHOICE, log 48:
the firmware's binary64 routine is taken to err by less than reaches the rounding). -/
def kNorth (lat : Int) : Flt :=
  let (w, r) := wgsW lat
  fofRat (Int.ofNat (6378137000 * (wgsE2.2 - wgsE2.1) * piFix)) (wgsE2.2 * 2 ^ 48 * (w * r / 2 ^ 192))

/-- kE of an origin latitude: N × cos λ0 × π × 2^-48 × 1,000 rounded to binary32 (R59; log 48). -/
def kEast (lat : Int) : Flt :=
  fofRat (6378137000 * sinSemi (2 ^ 47 - lat) * Int.ofNat piFix) (2 ^ 240 * (wgsW lat).2)

/-- EXPT[min(Δ, 4,095) >> 4] of R80. -/
def exptOf (delta : Nat) : Nat := expT.getD (min delta 4095 >>> 4) 0

/-- The Newton steps of cbrt (R120). -/
def cbrtGo : Nat → Flt → Flt → Flt
  | 0, _, x => x
  | n + 1, y, x =>
    let x2 := fmul x x
    cbrtGo n y (fsub x (fdiv (fsub (fmul x2 x) y) (fmul (fofNat 3) x2)))

/-- The fixed cube-root routine of R120 for a positive argument; 0 for a zero argument. -/
def fcbrt (y : Flt) : Flt :=
  match fv y with
  | .fin _ m e => if m = 0 then y else cbrtGo 5 y (fofDy 1 ((fLead m e).fdiv 3))
  | _ => y

end Sys2Proof.Machine
end

