-- ==== Sys2Proof/Machine/Objects.lean ====
section
/-!
DEFINITION. Configuration objects (R402 to R406, R534): names, layouts, the fields each rule reads, the registers an
object holds, the range checks of staging, and CFG_HASH.
-/

namespace Sys2Proof.Machine

/-- OBJ_ID of a kind and index (R402). -/
def objId (kind idx : Nat) : Nat := kind * 1024 + idx
/-- The kind of an OBJ_ID. -/
def idKind (id : Nat) : Nat := id / 1024
/-- The index of an OBJ_ID. -/
def idIdx (id : Nat) : Nat := id % 1024

/-- The indexes of each kind: first and count (R404); count 0 for a kind that does not exist. -/
def kindIdx (k : Nat) : Nat × Nat :=
  match k with
  | 0x01 => (0, 1) | 0x02 => (0, 32) | 0x03 => (0, 32) | 0x04 => (0, 16) | 0x05 => (0, 16) | 0x06 => (0, 256)
  | 0x07 => (0, 256) | 0x08 => (0, 1024) | 0x09 => (0, 16) | 0x0A => (1, 15) | 0x0B => (0, 1) | 0x0C => (0, 1)
  | 0x0D => (0, 1) | 0x0E => (0, 1) | 0x0F => (0, 1) | 0x10 => (0, 1024) | 0x11 => (0, 1) | 0x12 => (0, 1)
  | 0x13 => (0, 1) | 0x14 => (0, 1) | 0x15 => (0, 8) | 0x16 => (0, 16) | 0x17 => (0, 32) | 0x18 => (0, 1)
  | 0x19 => (0, 1) | 0x1A => (0, 1) | 0x1B => (0, 1) | 0x1C => (0, 1) | 0x1D => (0, 1) | 0x1E => (0, 32)
  | _ => (0, 0)

/-- Does an OBJ_ID name a kind and index (R404)? -/
def idExists (id : Nat) : Bool :=
  let (f, c) := kindIdx (idKind id)
  decide (f ≤ idIdx id) && decide (idIdx id < f + c)

/-- Kinds staged in the safety session (R404). -/
def kindSafety (k : Nat) : Bool := k == 0x03 || k == 0x1A

/-- The body of the object of a kind and index, in a list of objects. -/
def findObj (os : List Obj) (id : Nat) : Option Obj := os.find? (fun o => o.id == id)

/-- The enabled object of a kind and index in force. -/
def State.obj (s : State) (kind idx : Nat) : Option (List Byte) :=
  match findObj s.cfg.objs (objId kind idx) with
  | some o => if o.flags % 2 = 1 then some o.body else none
  | none => none

/-- Replace or add an object, keeping OBJ_ID order. -/
def putObj : List Obj → Obj → List Obj
  | [], o => [o]
  | p :: ps, o => if p.id = o.id then o :: ps else if o.id < p.id then o :: p :: ps else p :: putObj ps o

/-- Remove an object. -/
def dropObj (os : List Obj) (id : Nat) : List Obj := os.filter (fun o => o.id != id)

/-- Put every object of a list. -/
def putObjs (os new : List Obj) : List Obj := new.foldl putObj os

/-- An object as it travels: header and body (R403). -/
def objBytes (o : Obj) : List Byte :=
  leBytes 2 o.id ++ [1] ++ leBytes 1 o.flags ++ leBytes 4 o.body.length ++ leBytes 4 (crc32c o.body) ++ o.body

/-- Registers held by an object: offset in the body and register address, in body order (R404, R534). -/
def objRegs (kind idx : Nat) : List (Nat × Nat) :=
  match kind with
  | 0x06 => [(0, aSCX_CFG + 0x20 * idx), (4, aSCX_PERIOD + 0x20 * idx), (8, aSCX_TICK + 0x20 * idx),
             (12, aSCX_LIM + 0x20 * idx)]
  | 0x11 => [(64, 0xAC00), (68, 0xAC04), (72, 0xAC08), (76, 0xAC0C), (80, 0xAC10), (84, 0xAC14), (88, 0xAC18),
             (92, 0xAC1C), (96, 0xAC20), (100, 0xAC24), (104, 0xAC50), (108, 0xAC54)]
            ++ (upTo 16).map (fun n => (112 + 4 * n, 0xAC60 + 4 * n))
  | 0x12 => [(0, aTIM_FRAME_CFG), (4, aTIM_SLEW), (8, aTIM_SUP_CFG), (12, aTIM_PTP_CFG), (16, aTIM_DOM_CFG),
             (20, aTIM_SRV_CFG), (24, aTIM_SRV_CFG2)]
  | 0x13 => [(0, aRED_CFG), (4, aRED_CFG2)]
  | 0x14 => [(0, aGNS_CFG), (4, aGNS_MEAS_CFG), (8, aGNS_TRK_CFG), (12, 0xA810), (16, 0xA814), (20, 0xA818),
             (24, 0xA81C), (28, aGNS_HDG_CFG), (32, aGNS_RTCM_CFG), (36, aGNS_RTCM_BASE), (40, aGNS_PPS0_CFG),
             (44, aGNS_PPS1_CFG), (48, aGNS_TP_CFG), (52, aGNS_SNAP_CFG), (56, aGNS_HARB_CFG)]
  | 0x15 => [(0, aCAN_CTRL + 0x100 * idx), (4, aCAN_NBT + 0x100 * idx), (8, aCAN_DBT + 0x100 * idx)]
  | 0x16 => [(0, aCAN_UCFG + 0x10 * idx)]
  | 0x17 =>
    let b := 0xC100 + 0x20 * idx
    [(0, b), (4, b + 4), (8, b + 8), (12, b + 12), (16, b + 16), (20, b + 20), (24, b + 24)]
      ++ (if idx ≤ 3 then [(28, aSDF_CLK_CFG + 4 * idx)] else [])
  | 0x18 => [(0, aPNL_CFG), (4, aPNL_TEMP_CFG), (8, 0xBC28), (12, 0xBC2C), (16, 0xBC30), (20, 0xBC34),
             (24, aPNL_CRK_CFG)]
  | 0x19 => [(0, aPMU_CFG), (4, aPMU_WAKE_CFG)]
  | 0x1A => [(0, aSAF_CFG), (4, aSAF_EST_MAP), (8, aSAF_SF2_CFG), (12, aSAF_SF2_POS), (16, aSAF_SF2_DRV)]
  | 0x1B => [(0, aFUS_CFG), (4, aFUS_GATE), (8, aFUS_SUPPORT), (12, aFUS_PERSIST), (16, aFUS_DR)]
  | 0x1C => [(0, aCEX_CFG), (4, aCEX_FS_X), (8, aCEX_FS_Y), (12, aCEX_FS_N)]
  | 0x1D => [(0, aSLV_CFG), (4, aSLV_CAP_CFG)]
  | _ => []

/-- Body size of an MPC object from its counts (R534). -/
def mpcLen (b : List Byte) : Nat :=
  let nx := byteAt b 0
  let nr := byteAt b 2
  let ns := byteAt b 3
  4 + 4 * nx * nx + 12 * nx + 72 * nx + 24 * nx + 4 * nx * nx + 4 * nx * nx + 36 + 36 + 12 + 4 + 4 + 20
    + ns * (4 * nx + 16) + 12 * nr + 4

/-- The body size the layout gives (R534). -/
def objLen (kind idx : Nat) (b : List Byte) : Nat :=
  match kind with
  | 0x01 => 258 | 0x02 => 76 | 0x03 => 52 | 0x04 => 16 | 0x05 => 68 | 0x06 => 16
  | 0x07 => 16 + 12 * byteAt b 2
  | 0x08 => 12 | 0x09 => 120 | 0x0A => 8 | 0x0B => 128 | 0x0C => mpcLen b | 0x0D => 480 | 0x0E => 8 | 0x0F => 24
  | 0x10 => 5 | 0x11 => 176 | 0x12 => 28 | 0x13 => 16 | 0x14 => 60 | 0x15 => 12 | 0x16 => 4
  | 0x17 => if idx ≤ 3 then 32 else 28
  | 0x18 => 540 | 0x19 => 8 | 0x1A => 52 | 0x1B => 20 | 0x1C => 16 | 0x1D => 8 | 0x1E => 3072
  | _ => 0

/-- Is a binary32 field at offset `o` finite and not negative. -/
def fNonNeg (b : List Byte) (o : Nat) : Bool :=
  let x := BitVec.ofNat 32 (uAt 4 b o)
  ffinite x && !flt x 0

/-- Zero bytes at the offsets of reserved space. -/
def zeroAt (b : List Byte) (o n : Nat) : Bool := uAt n b o == 0

/-- The range checks of a body's fields, in offset order: offset and verdict (R406, R534). -/
def objChecks (kind idx : Nat) (b : List Byte) : List (Nat × Bool) :=
  let u := uAt
  let regs := (objRegs kind idx).map (fun p =>
    (p.1, regLimits (regTemplate p.2).1 (u 4 b p.1)))
  match kind with
  | 0x01 => [(30, zeroAt b 30 2), (32, fNonNeg b 32)]
  | 0x02 => [(0, decide (u 1 b 0 ≤ 3)), (1, decide (u 1 b 1 ≤ 15)), (2, decide (u 1 b 2 ≤ 15) || u 1 b 2 == 255),
             (3, decide (u 1 b 3 ≤ 7)), (4, decide (u 2 b 4 < 1024)), (6, zeroAt b 6 2),
             (60, u 4 b 60 % 10 == 0), (68, decide (u 1 b 68 ≤ 1)), (69, zeroAt b 69 1)]
  | 0x03 => [(0, fNonNeg b 0), (4, fNonNeg b 4), (8, fNonNeg b 8), (12, fNonNeg b 12), (16, decide (u 1 b 16 ≤ 4)),
             (17, zeroAt b 17 3),
             (20 + 8 * u 1 b 16, zeroAt b (20 + 8 * u 1 b 16) (32 - 8 * u 1 b 16))]
  | 0x04 => [(0, decide (u 2 b 0 < 1024)), (2, zeroAt b 2 2), (4, fNonNeg b 4), (8, fNonNeg b 8), (12, fNonNeg b 12)]
  | 0x05 => [(0, decide (u 1 b 0 ≤ 6)), (1, decide (1 ≤ u 1 b 1) && decide (u 1 b 1 ≤ 4)), (2, decide (u 1 b 2 ≤ 15)),
             (3, decide (u 1 b 3 ≤ 1))]
  | 0x07 => [(0, decide (u 1 b 0 ≤ 4)),
             (1, [0x01, 0x02, 0x03, 0x04, 0x05, 0x06, 0x10, 0x20, 0x30].contains (u 1 b 1)),
             (2, decide (1 ≤ u 1 b 2) && decide (u 1 b 2 ≤ 4)), (3, zeroAt b 3 1)]
            ++ (upTo (u 1 b 2)).flatMap (fun i =>
                 let o := 16 + 12 * i
                 [(o + 2, u 1 b 1 != 0x20 || (decide (1 ≤ u 1 b (o + 2)) && decide (u 1 b (o + 2) ≤ 32))),
                  (o + 3, decide (u 1 b (o + 3) % 128 ≤ 4) && (u 1 b 1 == 0x20 || decide (u 1 b (o + 3) < 128)))])
  | 0x08 => [(0, decide (u 4 b 0 < 262144)), (4, decide (1 ≤ u 4 b 4) && decide (u 4 b 0 + u 4 b 4 ≤ 262144)),
             (8, decide (u 1 b 8 ≤ 5)), (9, decide (u 1 b 9 ≤ 5)), (10, zeroAt b 10 2)]
  | 0x0A => [(6, decide (u 1 b 6 ≤ 1)), (7, zeroAt b 7 1)]
  | 0x0B => [(114, zeroAt b 114 2)]
  | 0x0C => [(0, decide (1 ≤ u 1 b 0) && decide (u 1 b 0 ≤ 12)), (1, decide (1 ≤ u 1 b 1) && decide (u 1 b 1 ≤ 64)),
             (2, decide (1 ≤ u 1 b 2) && decide (u 1 b 2 ≤ 32)), (3, decide (u 1 b 3 ≤ 24))]
  | 0x0D => [(466, decide (1 ≤ u 1 b 466)), (467, zeroAt b 467 1)]
  | 0x0E => [(0, decide (u 1 b 0 ≤ 1)), (1, decide (u 1 b 1 ≤ 1)), (2, zeroAt b 2 2)]
  | 0x0F => (upTo 6).map (fun i => (4 * i, fNonNeg b (4 * i) && u 4 b (4 * i) % 2 ^ 31 != 0))
  | 0x10 => [(0, decide (u 2 b 0 < 1024)), (2, decide (u 1 b 2 ≤ 3)), (3, decide (u 1 b 3 ≤ 4)),
             (4, decide (u 1 b 4 ≤ 1))]
  | 0x11 => [(14, zeroAt b 14 2), (30, zeroAt b 30 2), (46, zeroAt b 46 2), (62, zeroAt b 62 2)] ++ regs
  | 0x13 => regs ++ [(8, decide (u 2 b 8 < 1024)), (10, decide (u 2 b 10 < 1024)), (12, decide (u 2 b 12 < 1024)),
                     (14, zeroAt b 14 2)]
  | 0x15 => regs ++ [(4, canTimingOk (u 4 b 4) (u 4 b 8))]
  | 0x18 => regs ++ (upTo 512).map (fun i => (28 + i, decide (u 1 b (28 + i) ≤ 31) || u 1 b (28 + i) == 255))
  | 0x1A => regs ++ (upTo 8).flatMap (fun i =>
              let o := 20 + 4 * i
              [(o, decide (u 1 b o ≤ 31)), (o + 1, decide (u 1 b (o + 1) ≤ 1)), (o + 2, decide (u 1 b (o + 2) ≤ 15)),
               (o + 3, decide (u 1 b (o + 3) ≤ 1))])
  | _ => regs

/-- The offset of the first field out of range (R534): 4 when LEN differs from the layout; header offsets count
from the start of the object, so body fields are moved by the 12 header bytes. -/
def objFault (kind idx : Nat) (b : List Byte) : Option Nat :=
  if b.length ≠ objLen kind idx b then some 4
  else ((objChecks kind idx b).find? (fun c => !c.2)).map (fun c => 12 + c.1)

/-- The CRC an image contributes to CFG_HASH: the CRC field of its header or trailer (R406). -/
def imgCrc (i : Img) : Nat :=
  if i.kind = 1 ∨ i.kind = 2 then uAt 4 i.bytes 60 else uAt 4 i.bytes (i.bytes.length - 4)

/-- REDUNDANCY with UNIT and ZONE taken as zero (R406). -/
def hashObj (o : Obj) : Obj :=
  if idKind o.id = 0x13 then
    { o with body := leBytes 4 (putBits (putBits (uAt 4 o.body 0) 24 3 0) 0 2 0) ++ o.body.drop 4 }
  else o

/-- CFG_HASH (R406). -/
def cfgHash (os : List Obj) (is : List Img) : Nat :=
  crc32c (((os.filter (fun o => idKind o.id != 0x11)).flatMap (fun o => objBytes (hashObj o)))
    ++ ((is.filter (fun i => [1, 2, 4, 5].contains i.kind)).flatMap (fun i => leBytes 4 (imgCrc i))))

/-- CFG_HASH of the configuration in force. -/
def State.hash (s : State) : Nat := cfgHash s.cfg.objs s.cfg.imgs

/-- The image in force of a kind and slot. -/
def State.img (s : State) (kind slot : Nat) : Option (List Byte) :=
  (s.cfg.imgs.find? (fun i => i.kind == kind && i.slot == slot)).map (·.bytes)

/-- Replace or add an image, ascending kind and slot. -/
def putImg : List Img → Img → List Img
  | [], i => [i]
  | p :: ps, i =>
    if p.kind = i.kind ∧ p.slot = i.slot then i :: ps
    else if i.kind * 256 + i.slot < p.kind * 256 + p.slot then i :: p :: ps else p :: putImg ps i

/-! ## The fields the rules read -/

/-- A thruster object (R534, R153). -/
structure ThrCfg where
  kind : Nat
  feed1 : Nat
  feed2 : Nat
  act : Nat
  node : Nat
  x : Int
  y : Int
  dir : Nat
  lift : Flt
  ptab : List Flt
  off : Nat
  holdT : Nat
  rampT : Nat
  endA : Nat
  tolT : Nat
  tolA : Nat
  deriving DecidableEq, Repr

/-- A binary32 field. -/
def fltAt (b : List Byte) (o : Nat) : Flt := BitVec.ofNat 32 (uAt 4 b o)
/-- A row of binary32 fields. -/
def fltsAt (b : List Byte) (o n : Nat) : List Flt := (upTo n).map (fun i => fltAt b (o + 4 * i))

/-- Thruster `i`, enabled. -/
def State.thr (s : State) (i : Nat) : Option ThrCfg :=
  (s.obj 0x02 i).map (fun b =>
    ⟨uAt 1 b 0, uAt 1 b 1, uAt 1 b 2, uAt 1 b 3, uAt 2 b 4, sAt 4 b 8, sAt 4 b 12, uAt 4 b 16, fltAt b 20,
     fltsAt b 24 9, uAt 4 b 60, uAt 2 b 64, uAt 2 b 66, uAt 1 b 68, uAt 2 b 70, uAt 4 b 72⟩)

/-- The indexes of the enabled thrusters. -/
def State.thrIdx (s : State) : List Nat := (upTo 32).filter (fun i => (s.obj 0x02 i).isSome)

/-- Thruster limits (R155, R226). -/
structure ThrLim where
  fwd : Flt
  rev : Flt
  tRate : Flt
  aRate : Flt
  sect : List (Nat × Nat)
  deriving DecidableEq, Repr

/-- The limits of thruster `i`. -/
def State.thrLim (s : State) (i : Nat) : Option ThrLim :=
  (s.obj 0x03 i).map (fun b =>
    ⟨fltAt b 0, fltAt b 4, fltAt b 8, fltAt b 12,
     (upTo (uAt 1 b 16)).map (fun k => (uAt 4 b (20 + 8 * k), uAt 4 b (24 + 8 * k)))⟩)

/-- A reference object (R55, R534). -/
structure RefCfg where
  kind : Nat
  ctxs : List Nat
  enc : Nat
  atAdmission : Bool
  lever : List Int
  mount : List Nat         -- yaw, pitch, roll
  box : List Nat           -- x y z mm, yaw pitch roll B32
  anchor : List Int
  deriving DecidableEq, Repr

/-- Reference `r`, enabled. -/
def State.refCfg (s : State) (r : Nat) : Option RefCfg :=
  (s.obj 0x05 r).map (fun b =>
    ⟨uAt 1 b 0, (upTo (uAt 1 b 1)).map (fun i => uAt 1 b (4 + i)), uAt 1 b 2, uAt 1 b 3 == 1,
     (upTo 3).map (fun i => sAt 4 b (8 + 4 * i)), (upTo 3).map (fun i => uAt 4 b (20 + 4 * i)),
     (upTo 6).map (fun i => uAt 4 b (32 + 4 * i)), (upTo 3).map (fun i => sAt 4 b (56 + 4 * i))⟩)

/-- The vessel object's body (zeros when absent). -/
def State.vessel (s : State) : List Byte := (s.obj 0x01 0).getD []

/-- A context named by the vessel object: offset of the field; 0xFF and an absent object name none (R534). -/
def State.vesselCtx (s : State) (o : Nat) : Option Nat :=
  match s.obj 0x01 0 with
  | some b => if uAt 1 b o = 255 then none else some (uAt 1 b o)
  | none => none

/-- The bindings in force: index and body. -/
def State.bindings (s : State) : List (Nat × List Byte) :=
  (s.cfg.objs.filter (fun o => idKind o.id == 0x07 && o.flags % 2 == 1)).map (fun o => (idIdx o.id, o.body))

/-- The bindings of a source whose KEY satisfies `p`. -/
def State.bindOf (s : State) (src : Nat) (p : List Byte → Bool) : List (Nat × List Byte) :=
  s.bindings.filter (fun b => uAt 1 b.2 0 == src && p (b.2.drop 4))

/-- The bits of a register that an object loads: its RW fields; of the safety registers, which no write reaches, every field
(R242, R404). -/
def loadMask (a rw : Nat) : Nat :=
  if a = aSAF_CFG then 0xC00FFF7F
  else if a = aSAF_EST_MAP then 0x0000FFFF
  else if a = aSAF_SF2_CFG then 0x0F03FFFF
  else if a = aSAF_SF2_POS ∨ a = aSAF_SF2_DRV then 0xFFFFFFFF
  else rw

/-- Load the registers an object holds (R395, R465): every field it carries takes the object's value. -/
def State.loadObj (s : State) (o : Obj) : State :=
  (objRegs (idKind o.id) (idIdx o.id)).foldl (fun s p =>
    match regRow p.2 with
    | some r =>
      let w := uAt 4 o.body p.1
      let m := loadMask p.2 r.rw
      s.setReg p.2 (BitVec.ofNat 32 (((s.reg p.2).toNat &&& (2 ^ 32 - 1 - m)) ||| (w &&& m)))
    | none => s) s

/-- Load the registers of every enabled object. -/
def State.loadObjs (s : State) (os : List Obj) : State :=
  (os.filter (fun o => o.flags % 2 == 1)).foldl State.loadObj s

/-- Write an object in force to the configuration in flash; a write that fails keeps the value in force, sets UNCOMMITTED and
raises PERSIST_FAIL (R408); during a dip it waits (R445). -/
def State.storeObj (s : State) (id : Nat) : State :=
  if s.writesHeld then
    { s with flash := { s.flash with wait := s.flash.wait.filter (· != id) ++ [id] } }
  else
    let (s1, ok) := s.flashTry
    match findObj s.cfg.objs id with
    | none => s1
    | some o =>
      if ok then { s1 with flash := { s1.flash with objs := s1.flash.objs.map (fun l => putObj l o) } }
      else ({ s1 with cfg := { s1.cfg with uncommitted := true } }).alarm 0x0F 0x06 id 0

/-- Write objects in force to flash. -/
def State.storeObjs (s : State) (ids : List Nat) : State := ids.foldl State.storeObj s

/-- The object writes that waited start (R445, R448). -/
def State.storeWaiting (s : State) : State :=
  if s.writesHeld then s
  else ({ s with flash := { s.flash with wait := [] } }).storeObjs s.flash.wait

/-- Is a register held by some configuration object (R394)? -/
def State.heldByObj (s : State) (a : Nat) : Bool :=
  s.cfg.objs.any (fun o => (objRegs (idKind o.id) (idIdx o.id)).any (fun p => p.2 == a))

/-- kN and kE of the working origin, stored with it in the VESSEL object whenever it is set (R59). -/
def originScale (o : Obj) : Obj :=
  let lat := sAt 8 o.body 0
  if o.id = objId 0x01 0 then
    { o with body := o.body.take 16 ++ leBytes 4 (kNorth lat).toNat ++ leBytes 4 (kEast lat).toNat ++ o.body.drop 24 }
  else o

end Sys2Proof.Machine
end

