-- ==== Sys2Proof/Machine/Points.lean ====
section
/-!
DEFINITION. The process image: points of 16 bytes (R348), types and qualities (R349), writer classes (R350).
-/

namespace Sys2Proof.Machine

/-- TYPE and WRITER of a point (R348 to R351): fixed for the system points, else from the POINT_BLOCK that holds it. -/
def State.ptInfo (s : State) (n : Nat) : Nat × Nat :=
  if n < 8 then (3, 1)
  else if n < 1024 then (0, 1)
  else
    match s.cfg.objs.find? (fun o => idKind o.id == 0x08 && o.flags % 2 == 1 && decide (uAt 4 o.body 0 ≤ n)
        && decide (n < uAt 4 o.body 0 + uAt 4 o.body 4)) with
    | some o => (byteAt o.body 8, byteAt o.body 9)
    | none => (0, 0)

/-- The stored bytes of a point; TYPE and WRITER are not stored. -/
def State.ptRaw (s : State) (n : Nat) : List Byte := s.rdB rgnPim (16 * n) 16

/-- A point as read (R348): a point of TYPE NONE reads with QUAL = INVALID. -/
def State.ptRead (s : State) (n : Nat) : List Byte :=
  let b := s.ptRaw n
  let (t, w) := s.ptInfo n
  let q := if t = 0 then 0 else byteAt b 5
  b.take 4 ++ leBytes 1 t ++ leBytes 1 q ++ leBytes 1 w ++ b.drop 7

/-- VALUE, QUAL and STAMP of a point. -/
def State.ptVal (s : State) (n : Nat) : Nat := uAt 4 (s.ptRead n) 0
def State.ptQual (s : State) (n : Nat) : Nat := byteAt (s.ptRead n) 5
def State.ptStamp (s : State) (n : Nat) : Nat := uAt 8 (s.ptRead n) 8

/-- Write VALUE, QUAL and STAMP of a point; SEQ counts the write (R348). -/
def State.ptWrite (s : State) (n value qual stamp : Nat) : State :=
  let seq := byteAt (s.ptRaw n) 7 + 1
  s.wrB rgnPim (16 * n) (leBytes 4 value ++ [0] ++ leBytes 1 qual ++ [0] ++ leBytes 1 seq ++ leBytes 8 stamp)

/-- Every point of class LOGIC0 or LOGIC1 keeps its VALUE and takes QUAL = HELD (R361). -/
def State.ptHold (s : State) : State :=
  (s.cfg.objs.filter (fun o => idKind o.id == 0x08 && o.flags % 2 == 1 && (byteAt o.body 9 == 4 || byteAt o.body 9 == 5))).foldl
    (fun s o => (upTo (uAt 4 o.body 4)).foldl (fun s i =>
      s.wrB rgnPim (16 * (uAt 4 o.body 0 + i) + 5) [2]) s) s

/-- A write of LOG_PT_SEL copies the point into LOG_PT_D0 to D3 (R369). -/
def State.ptCopy (s : State) (n : Nat) : State :=
  let s1 := s.fset LOG_PT_SEL.INDEX n
  let b := s1.ptRead (n % 2 ^ 18)
  (upTo 4).foldl (fun s w => s.fset (fldAt LOG_PT_D.DATA w) (uAt 4 b (4 * w))) s1

end Sys2Proof.Machine
end

