-- ==== Sys2Proof/Machine/Faults.lean ====
section
/-!
DEFINITION. The fault channels of R484 to R486: the bucket of each channel, retirement, its alarm and ledger entry,
the leak, and re-admission. What retirement does in a block is the block's own.
-/

namespace Sys2Proof.Machine

/-- A DIA_ configuration field as in force since the last boundary (R490). -/
def State.dget (s : State) (f : Fld) : Nat := bits (tabGet regReset s.diaF f.addr).toNat f.lo f.w

/-- The table key of a channel. -/
def fltKey (cls idx : Nat) : Nat := cls * 4096 + idx
/-- A channel without errors. -/
def fltZero (_ : Nat) : FltCh := ⟨0, 0, false⟩
/-- A channel's bucket. -/
def State.fltOf (s : State) (cls idx : Nat) : FltCh := tabGet fltZero s.fch (fltKey cls idx)
/-- Write a channel's bucket. -/
def State.fltPut (s : State) (cls idx : Nat) (c : FltCh) : State :=
  { s with fch := tabSet fltZero s.fch (fltKey cls idx) c }
/-- Is a channel retired. -/
def State.retired (s : State) (cls idx : Nat) : Bool := (s.fltOf cls idx).retired

/-- TRANS_LIMIT of a class in force. -/
def State.fltLimit (s : State) (cls : Nat) : Nat := s.dget (fldAt DIA_FLT_CFG.LIMIT cls)
/-- TRANS_WIN of a class in force, s. -/
def State.fltWin (s : State) (cls : Nat) : Nat := s.dget (fldAt DIA_FLT_CFG.WIN cls)
/-- LEAK_T of a class in ms (R484). -/
def State.leakT (s : State) (cls : Nat) : Nat := s.fltWin cls * 1000 / s.fltLimit cls

/-- Show the retired channels in DIA_RET_ENG, DIA_RET_IO and DIA_RET_CMD (R490). -/
def State.showRet (s : State) (cls idx : Nat) (b : Bool) : State :=
  let put (s : State) (f : Fld) : State := s.fset f (putBits (s.fget f) idx 1 (b2n b))
  match cls with
  | 1 => put s DIA_RET_IO.ETH
  | 2 => put s DIA_RET_IO.SPAN
  | 3 => put s DIA_RET_IO.CAN
  | 4 => put s DIA_RET_ENG.ENG
  | 5 => put s DIA_RET_CMD.THR
  | _ => s

/-- The block alarm that goes with a retirement, if the block has one (R412, R486). -/
def retAlarm (cls idx : Nat) : Option (Nat × Nat × Nat) :=
  match cls with
  | 0 => some (0x03, 0x03, idx)
  | 1 => some (0x0A, 0x02, idx)
  | 3 => some (0x0B, 0x02, idx)
  | 4 => if idx = 7 ∨ idx = 8 then some (0x06, 0x06, idx - 7) else none
  | _ => none

/-- Retire a channel: the mark, the CHANNEL_RETIRED alarm, the block's own alarm, the ledger entry (R484). In
YD-22 mode an engine has the entry of R415 instead. -/
def State.retire (s : State) (cls idx : Nat) (hard : Bool) : State :=
  if s.retired cls idx then s
  else
    let s1 := (s.fltPut cls idx { s.fltOf cls idx with retired := true }).showRet cls idx true
    let s2 := s1.alarmD 0x0F 0x02 (idx + cls * 4096) (evData idx cls)
    let s3 := match retAlarm cls idx with | some (b, l, i) => s2.alarm b l i 0 | none => s2
    if s.sys.yd && cls == 4 then s3 else s3.ledger 0x0030 (leBytes 1 cls ++ leBytes 1 (b2n hard) ++ leBytes 2 idx)

/-- A transient error on a channel: L rises by one and the channel retires when L exceeds TRANS_LIMIT (R484). The
result says whether the channel retired by it. -/
def State.fltErr (s : State) (cls idx : Nat) : State × Bool :=
  let c := s.fltOf cls idx
  let s1 := s.fltPut cls idx { c with level := satU 8 (c.level + 1), errors := satU 16 (c.errors + 1) }
  if !c.retired && decide (c.level + 1 > s.fltLimit cls) then (s1.retire cls idx false, true) else (s1, false)

/-- The CLEARED records of a return to service, in the order of R486. -/
def State.retCleared (s : State) (cls idx : Nat) : State :=
  let s1 := s.clearAlarmD 0x0F 0x02 (idx + cls * 4096) (evData idx cls)
  match retAlarm cls idx with | some (b, l, i) => s1.clearAlarm b l i | none => s1

/-- A channel as READMIT leaves it. -/
def fltOk : FltCh := ⟨0, 0, false⟩

/-- READMIT of a channel: L to 0, no longer retired, READMITTED, ledger entry (R486). -/
def State.readmitCh (s : State) (cls idx : Nat) : State :=
  let s1 := (s.fltPut cls idx fltOk).showRet cls idx false
  (s1.event 0x0F 0x03 0 (evData idx 0)).ledger 0x0031 (leBytes 1 cls ++ [0] ++ leBytes 2 idx)

/-- The leak of every channel from millisecond `a` to millisecond `b` of TIME_NS reached by ticks: one for each multiple of
its LEAK_T (R484). -/
def State.leak (s : State) (a b : Nat) : State :=
  let down (p : Nat × FltCh) : Nat × FltCh :=
    let t := s.leakT (p.1 / 4096)
    if t = 0 then p else (p.1, { p.2 with level := p.2.level - (b / t - a / t) })
  { s with fch := (s.fch.map down).filter (fun p => p.2 != fltZero p.1) }

/-- Bring the buckets up to millisecond `ms`. -/
def State.leakTo (s : State) (ms : Nat) : State :=
  if ms ≤ s.dia.leakMs then s
  else let s1 := s.leak s.dia.leakMs ms; { s1 with dia := { s1.dia with leakMs := ms } }

/-- An instant moved with TIME_NS. -/
def moveNs (d : Int) (t : Nat) : Nat := (Int.ofNat t + d).toNat

/-- A PTP domain's instants moved by `d`. -/
def DomSt.move (d : Int) (x : DomSt) : DomSt :=
  { x with usableAt := x.usableAt.map (moveNs d), masters := x.masters.map (fun m => { m with ends := moveNs d m.ends })
           best := x.best.map (fun m => { m with ends := moveNs d m.ends }) }

/-- TIME_NS is set or stepped by `d`: the instants from which the block measures a time that passes move with it, since the time skipped has
not passed (R239, R276, R280, R281). -/
def State.instMove (s : State) (d : Int) : State :=
  let m := moveNs d
  { s with
    net := { s.net with ptp := { s.net.ptp with
      pri := s.net.ptp.pri.move d, sec := s.net.ptp.sec.move d, transAt := m s.net.ptp.transAt, lockAt := m s.net.ptp.lockAt } }
    gns := { s.gns with chans := s.gns.chans.map (fun p => (p.1, { p.2 with lockAt := m p.2.lockAt, lostAt := m p.2.lostAt })) }
    saf := { s.saf with
      pwAt := m s.saf.pwAt, armedTo := s.saf.armedTo.map m, diffAt := s.saf.diffAt.map (·.map m)
      rise := s.saf.rise.map (fun p => (m p.1, m p.2)), rstOn := s.saf.rstOn.map m, rstOff := s.saf.rstOff.map m }
    cfg := { s.cfg with
      cfgSess := s.cfg.cfgSess.map (fun x => { x with last := m x.last }), safSess := s.cfg.safSess.map (fun x => { x with last := m x.last })
      xfer := s.cfg.xfer.map (fun x => { x with last := m x.last }) }
    red := { s.red with supplyAt := s.red.supplyAt.map m, sasbAt := s.red.sasbAt.map m } }

/-- TIME_NS has been set or stepped: what it passed over lowers no bucket (R484). -/
def State.leakJump (s : State) : State := { s with dia := { s.dia with leakMs := s.now / 1000000 } }

end Sys2Proof.Machine
end

