-- ==== Sys2Proof/Machine/Context.lean ====
section
/-!
DEFINITION. Stream contexts: the mapping of source counts to TIME_NS (R36, R37), lock and quality state (R38, R39),
the buffer (R40), steps (R41), the value at the boundary (R42), comparison groups (R43), and which late samples go to
retrodiction (R48).
-/

namespace Sys2Proof.Machine

/-- A disabled context. -/
def ctxOff : Ctx :=
  { q := .off, localMode := false, cwidth := 32, tick := 0, hermite := false, ofs := 0, uRef := 0, uPrev := 0,
    drift := 0, unc := 2 ^ 32 - 1, nOk := 0, last16 := [], env := [], buf := [], value := none, hist := [],
    conflict := false }

/-- The default of the context table. -/
def ctxDflt (_ : Nat) : Ctx := ctxOff

/-- Context `n`. -/
def State.ctxOf (s : State) (n : Nat) : Ctx := tabGet ctxDflt s.ctx n

/-- The coding of R39. -/
def qCode : QState → Nat
  | .off => 0 | .empty => 1 | .acquiring => 2 | .locked => 3 | .timeSuspect => 4 | .stale => 5 | .retired => 6

/-- Write context `n` and the registers that show it (R54). -/
def State.ctxPut (s : State) (n : Nat) (c : Ctx) : State :=
  let s1 := { s with ctx := tabSet ctxDflt s.ctx n c }
  let s2 := (s1.fset (fldAt SCX_STAT.QSTATE n) (qCode c.q)).fset (fldAt SCX_STAT.N_OK n) c.nOk
  (s2.fset (fldAt SCX_MAP_DRIFT.DRIFT n) (tc 32 c.drift)).fset (fldAt SCX_MAP_UNC.UNC n) c.unc

/-- Comparison group of a context (R43); 0 none. -/
def State.group (s : State) (n : Nat) : Nat := s.fget (fldAt SCX_CFG.GROUP n)

/-- The lag of a pair in units of P/8, limited to the search range. -/
def State.lag (s : State) (i j : Nat) : Option Int :=
  (Config.lagOf (s.ctxOf i).hist (s.ctxOf j).hist).map (clampI (-16) 16)

/-- A known lag of a context to a member of its group that is LOCKED now exceeds P/4: it does not re-lock (R43). -/
def State.lagBad (s : State) (n : Nat) : Bool :=
  s.group n != 0 && (tabKeys s.ctx).any (fun j => j != n && s.group j == s.group n && (s.ctxOf j).q == .locked
    && (match s.lag n j with | some l => decide (l.natAbs > 2) | none => false))

/-- Enter TIME_SUSPECT: N_OK to 0, the event, one transient error of the context's channel (R38, R43, R484). -/
def State.suspectCtx (s : State) (n : Nat) : State :=
  let c := s.ctxOf n
  let s1 := (s.ctxPut n { c with q := .timeSuspect, nOk := 0 }).event 0x03 0x01 1 (evData n 0)
  let (s2, ret) := s1.fltErr 0 n
  if ret then s2.ctxPut n { s2.ctxOf n with q := .retired } else s2

/-- A context that has lost its value at a boundary: STALE, one transient error (R42, R484). -/
def State.staleCtx (s : State) (n : Nat) : State :=
  let c := s.ctxOf n
  let s1 := s.ctxPut n { c with q := .stale, value := none }
  if c.q == .locked then
    let (s2, ret) := s1.fltErr 0 n
    if ret then s2.ctxPut n { s2.ctxOf n with q := .retired } else s2
  else s1

/-! ## Intake (R37, R38, R40) -/

/-- unwrap(c) of R37: the nearest extension of a count of `w` bits. -/
def unwrap (w : Nat) (first : Bool) (uPrev : Int) (c : Nat) : Int :=
  if first ∨ w = 64 then Int.ofNat (c % 2 ^ w)
  else uPrev + sx w (tc w (Int.ofNat c - uPrev))

/-- Elapsed source time in ns, rounded (R37). -/
def elapsed (u uRef : Int) (tick : Nat) : Int := rndAway ((u - uRef) * Int.ofNat tick) 65536

/-- The drift update of R37; an envelope span of zero has no stated result and leaves an open value. -/
def driftNew (drift e eOld span : Int) (free : Nat) : Int :=
  let add := if span = 0 then Int.ofNat (Config.freeWord free % 2 ^ 32)
    else if span < 0 then - rndAway ((e - eOld) * 2 ^ 40) (4 * span.natAbs)
    else rndAway ((e - eOld) * 2 ^ 40) (4 * span.natAbs)
  clampI (-(2 ^ 31 - 1)) (2 ^ 31 - 1) (drift + add)

/-- The mapping of R37 for a sample of a LOCAL context: the stamp, the residual (none for the first sample) and the
context after it. -/
def mapLocal (c : Ctx) (count : Nat) (tIn : Int) (p : Nat) (free : Nat) : Int × Option Int × Ctx :=
  let first := c.q == .empty
  let u := unwrap c.cwidth first c.uPrev count
  if first then
    (tIn, none, { c with ofs := tIn, uRef := u, uPrev := u, drift := 0, last16 := [], env := [(0, u)], unc := p,
                         nOk := 0, q := .acquiring })
  else
    let el := elapsed u c.uRef c.tick
    let tPred := c.ofs + el + rndAway (el * c.drift) (2 ^ 40)
    let r := tIn - tPred
    let l := lastN 16 (c.last16 ++ [r])
    let e := minI l
    let drift := if l.length = 16 then
        match c.env with
        | (eOld, uOld) :: _ => driftNew c.drift e eOld (elapsed u uOld c.tick) free
        | [] => c.drift
      else c.drift
    let tMap := tPred + rndAway e 4
    let unc := satU 32 ((rndAway (maxI l - e) 2).natAbs + e.natAbs)
    (tMap, some r, { c with ofs := tMap, uRef := u, uPrev := u, drift := drift, last16 := l,
                            env := lastN 16 (c.env ++ [(e, u)]), unc := unc })

/-- The residual and UNC of a sample of an SRC_PTP context (R37). -/
def mapPtp (c : Ctx) (stamp tIn : Int) (own : Bool) : Int × Ctx :=
  let r := if own then 0 else tIn - stamp
  let l := lastN 16 (c.last16 ++ [r])
  (r, { c with last16 := l, unc := satU 32 (maxN (l.map Int.natAbs)),
               q := if c.q == .empty then .acquiring else c.q })

/-- Insert a sample in stamp order. -/
def bufIns : List Sample → Sample → List Sample
  | [], x => [x]
  | y :: ys, x => if x.t < y.t then x :: y :: ys else y :: bufIns ys x

/-- Insert a sample in a buffer of 8; the oldest drops out at the ninth (R40). -/
def bufPut (b : List Sample) (x : Sample) : List Sample :=
  let b' := bufIns b x
  if b'.length > 8 then b'.drop 1 else b'

/-- The frame in whose CUTOFF a sample of stamp `t` is first used: the first frame whose CUTOFF is not before it. -/
def firstUse (pNs cutoff : Nat) (t : Int) : Int :=
  let e := t.fdiv (Int.ofNat pNs)
  if t - e * Int.ofNat pNs ≤ Int.ofNat (cutoff * pNs / 100) then e else e + 1

/-- Does a sample arrive after the CUTOFF of the frame in which it would first have been used (R48)? -/
def State.isLate (s : State) (t : Int) : Bool :=
  let f := firstUse s.pNs s.time.cutoff t
  let k := Int.ofNat s.time.frame
  s.time.inFrame && (decide (f < k) || (decide (f = k) && s.time.cutDone))

/-- The frame in whose slack a late sample arriving now is judged (R48). -/
def State.slackFrame (s : State) : Nat :=
  if s.now ≤ s.atPct s.time.frame 80 then s.time.frame else s.time.frame + 1

/-- Is the earliest affected frame within the horizon of slack frame `k` (R48)? A sample stamped before the last step of
TIME_NS, that is before the boundary the step produced, is not (R51). -/
def State.inHorizon (s : State) (k : Nat) (t : Int) : Bool :=
  decide (Int.ofNat s.time.stepNs ≤ t) && decide (t.fdiv (Int.ofNat s.pNs) ≥ Int.ofNat k - Int.ofNat s.time.retroH + 1)

/-- Lock and suspicion after a sample (R38): `r` is none for the first sample of a LOCAL context. -/
def State.lockStep (s : State) (n : Nat) (r : Option Int) : State :=
  let c := s.ctxOf n
  let nOk := match r with
    | none => 0
    | some r => if 4 * r.natAbs ≤ s.pNs then incSat 8 c.nOk else 0
  let s1 := s.ctxPut n { c with nOk := nOk }
  if (c.q == .acquiring || c.q == .timeSuspect) && decide (20 ≤ nOk) && !s.lagBad n then
    let s2 := (s1.ctxPut n { s1.ctxOf n with q := .locked, conflict := false }).event 0x03 0x02 0 (evData n 0)
    if c.conflict then s2.clearAlarm 0x02 0x02 (s.group n) else s2
  else if (c.q == .locked || c.q == .stale) && decide (c.unc > s.pNs) then s1.suspectCtx n
  else s1

/-- Put a stamped sample in the buffer, or send it to retrodiction, or count it (R40, R48). A late sample that is no older than
the oldest buffered one also enters the buffer, whether it is stamped after F(k), as R48 says, or at or before it, where R48
is silent and R40 inserts it (DESIGN CHOICE, log 42). -/
def State.bufferSample (s : State) (n node stream : Nat) (x : Sample) : State :=
  let c := s.ctxOf n
  let late := s.isLate x.t
  let retro : RetroS := ⟨n, x, node, stream, s.slackFrame, false⟩
  let older := match c.buf with | y :: _ => decide (x.t < y.t) | [] => false
  if c.buf.any (fun y => y.t == x.t) then s.finc (fldAt SCX_STAT.DUP n)
  else if older then
    if late && s.inHorizon s.slackFrame x.t then { s with retro := s.retro ++ [retro] }
    else
      let s1 := s.finc (fldAt SCX_STAT.LATE n)
      if late then s1.finc TIM_CNT_RETRO.MISS else s1
  else
    let s1 := s.ctxPut n { c with buf := bufPut c.buf x }
    if !late then s1
    else if s.inHorizon s.slackFrame x.t then { s1 with retro := s1.retro ++ [retro] }
    else s1.finc TIM_CNT_RETRO.MISS

/-- Who stamped a sample (R36, R37): its source, the 9160 on reception, or the 9160 at the instant measured. -/
inductive StampBy where
  | source | reception | instant
  deriving DecidableEq, Repr

/-- CONTEXT_SAMPLE: a sample arrives at context `n` (R36 to R40). `stamp` is the TIME_NS stamp or, for a LOCAL
context, the source count; LAT_NOM is taken off a reception stamp alone. -/
def State.ctxSample (s : State) (n : Nat) (stamp : Nat) (tRx : Nat) (by_ : StampBy) (fmt : VFmt) (x v : List Int)
    (q : List Nat) (node stream : Nat) : State :=
  let c := s.ctxOf n
  if c.q == .off || c.q == .retired then s
  else
    let lat := s.fget (fldAt SCX_LIM.LAT_NOM n) * 1000
    let tIn := Int.ofNat tRx - Int.ofNat lat
    if c.localMode then
      let (t, r, c') := mapLocal c stamp tIn s.pNs s.free
      let s1 := (s.ctxPut n c').tick1
      let s2 := match r with
        | some r => s1.fset (fldAt SCX_MAP_RES.RES n) (tc 32 (satS 32 r))
        | none => s1
      (s2.lockStep n r).bufferSample n node stream ⟨t, fmt, x, v, q⟩
    else
      let st := if by_ == .reception then Int.ofNat stamp - Int.ofNat lat else Int.ofNat stamp
      let (r, c') := mapPtp c st tIn (by_ != .source)
      let s1 := (s.ctxPut n c').fset (fldAt SCX_MAP_RES.RES n) (tc 32 (satS 32 r))
      (s1.lockStep n (some r)).bufferSample n node stream ⟨st, fmt, x, v, q⟩

/-! ## The value at the boundary (R42) -/

/-- Width of a component of a format. -/
def fmtBits : VFmt → Nat
  | .i64 => 64
  | _ => 32

/-- The exact difference of two components (R42, R14). -/
def compDiff (f : VFmt) (a b : Int) : Int := if f == .b32 then sx 32 (tc 32 (a - b)) else a - b

/-- The final addition: wraps for B32, saturates for the signed formats (R42). -/
def compAdd (f : VFmt) (a d : Int) : Int :=
  if f == .b32 then Int.ofNat (tc 32 (a + d)) else satS (fmtBits f) (a + d)

/-- A rate in LSB per ns (R42). -/
def rateNs (v : Int) : Flt := fmul (fofInt v) (fofRat 1 1000000000)

/-- The increment of one component between two bracketing samples (R42). -/
def interp (hermite : Bool) (dx va vb : Int) (fa h : Int) : Flt :=
  let hf := fofInt h
  let s := fdiv (fofInt fa) hf
  if hermite then
    let s2 := fmul s s
    let s3 := fmul s2 s
    let t1 := fmul (fsub (fmul (fofNat 3) s2) (fmul (fofNat 2) s3)) (fofInt dx)
    let t2 := fmul (fmul (fadd (fsub s3 (fmul (fofNat 2) s2)) s) hf) (rateNs va)
    let t3 := fmul (fmul (fsub s3 s2) hf) (rateNs vb)
    fadd (fadd t1 t2) t3
  else fmul s (fofInt dx)

/-- One component moved by a binary32 increment, rounded to the LSB; a binary32 component has no LSB and takes an open
value. -/
def compMove (f : VFmt) (free : Nat) (a : Int) (d : Flt) : Int :=
  if f == .f32 then Int.ofNat (Config.freeWord free % 2 ^ 32)
  else compAdd f a (fSatInt rndEven 64 d)

/-- Two adjacent samples that bracket `f`. -/
def bracket (f : Int) : List Sample → Option (Sample × Sample)
  | a :: b :: r => if a.t < f ∧ f < b.t then some (a, b) else bracket f (b :: r)
  | _ => none

/-- Three lists walked together with a default. -/
def zip4 (a b c d : List Int) (n : Nat) : List (Int × Int × Int × Int) :=
  (upTo n).map (fun i => (a.getD i 0, b.getD i 0, c.getD i 0, d.getD i 0))

/-- Is a gap in source time within EXTRAP sixteenths of TP: the limit, the gap and their comparison are binary32 (R42). -/
def gapOk (tpUs extrap : Nat) (g : Int) : Bool :=
  fle (fofInt g) (fdiv (fmul (fofNat extrap) (fofNat (tpUs * 1000))) (fofNat 16))

/-- The value of a context at `f` from its buffer (R42). -/
def formValue (hermite : Bool) (tpUs extrap : Nat) (free : Nat) (buf : List Sample) (f : Int) : Option CtxVal :=
  let within := gapOk tpUs extrap
  match buf.find? (fun y => y.t == f) with
  | some y => some ⟨y.x, y.q, y.t, y.t, false⟩
  | none =>
    let br := match bracket f buf with
      | some (a, b) => if within (f - a.t) then some (a, b) else none
      | none => none
    match br with
    | some (a, b) =>
      let xs := (zip4 a.x b.x a.v b.v a.x.length).map (fun p =>
        compMove a.fmt free p.1 (interp hermite (compDiff a.fmt p.2.1 p.1) p.2.2.1 p.2.2.2 (f - a.t) (b.t - a.t)))
      some ⟨xs, b.q, a.t, b.t, false⟩
    | none =>
      match buf.reverse with
      | [] => none
      | y :: r =>
        let g := f - y.t
        if !within g then none
        else if hermite then
          let xs := (zip4 y.x y.v [] [] y.x.length).map (fun p =>
            compMove y.fmt free p.1 (fmul (rateNs p.2.1) (fofInt g)))
          some ⟨xs, y.q, y.t, y.t, true⟩
        else
          match r with
          | [] => none
          | m :: _ =>
            let xs := (zip4 y.x m.x [] [] y.x.length).map (fun p =>
              compMove y.fmt free p.1
                (fdiv (fmul (fofInt (compDiff y.fmt p.1 p.2.1)) (fofInt g)) (fofInt (y.t - m.t))))
            some ⟨xs, y.q, m.t, y.t, true⟩

/-- VALUE_FORMATION of one context at F(k) (R42): LOCKED and STALE contexts form a value or go STALE. -/
def State.formCtx (s : State) (f : Int) (n : Nat) : State :=
  let c := s.ctxOf n
  if c.q == .locked || c.q == .stale then
    match formValue c.hermite (s.fget (fldAt SCX_PERIOD.TP n)) (s.fget (fldAt SCX_LIM.EXTRAP n)) s.free c.buf f with
    | some v => (s.ctxPut n { c with q := .locked, value := some v }).tick1
    | none => s.staleCtx n
  else s.ctxPut n { c with value := none }

/-- Note the frame-aligned value of a context (R43). -/
def State.noteHist (s : State) (n : Nat) : State :=
  let c := s.ctxOf n
  s.ctxPut n { c with hist := (c.value.map (·.x) :: c.hist).take 64 }

/-! ## Comparison groups (R43) -/

/-- Twice the median of a list of magnitudes, none for an empty list. -/
def median2 (l : List Nat) : Option Nat :=
  let l := sortNat l
  if l.isEmpty then none
  else if l.length % 2 = 1 then some (2 * l.getD (l.length / 2) 0)
  else some (l.getD (l.length / 2 - 1) 0 + l.getD (l.length / 2) 0)

/-- The members of a group that R43 suspects, and whether it raises TIME_CONFLICT and for which members. -/
def State.groupJudge (s : State) (members : List Nat) : List Nat × List Nat :=
  let bad (i : Nat) : Bool := decide ((s.ctxOf i).unc > s.pNs)
  let good := members.filter (fun i => !bad i)
  let own := members.filter bad
  if good.length ≥ 3 then
    let sus := good.filter (fun i =>
      match median2 ((good.filter (fun j => j != i)).filterMap (fun j => (s.lag i j).map Int.natAbs)) with
      | some m => decide (m > 16)
      | none => false)
    (sus ++ own, [])
  else
    let known := members.filter (fun i => members.any (fun j => j != i && (s.lag i j).isSome))
    match known with
    | [i, j] =>
      match s.lag i j with
      | some l =>
        if l.natAbs > 8 then
          if bad i && !bad j then (i :: own, [])
          else if bad j && !bad i then (j :: own, [])
          else ([i, j] ++ own, [i, j])
        else (own, [])
      | none => (own, [])
    | _ => (own, [])

/-- COMPARISON_GROUP_LAG of one group (R43). A suspected member that is ACQUIRING, LOCKED or STALE enters TIME_SUSPECT; one in
TIME_SUSPECT stays there with its N_OK, and an EMPTY or RETIRED one keeps its state, which the rule does not name (DESIGN
CHOICE, log 223). -/
def State.groupStep (s : State) (ids : List Nat) (g : Nat) : State :=
  let members := ids.filter (fun n => s.group n == g)
  let (sus, conf) := s.groupJudge members
  let s1 := sus.foldl (fun s n =>
    let q := (s.ctxOf n).q
    if q == .acquiring || q == .locked || q == .stale then s.suspectCtx n else s) s
  if conf.isEmpty then s1
  else
    let s2 := conf.foldl (fun s n => s.ctxPut n { s.ctxOf n with conflict := true }) s1
    (s2.fup TIM_STATUS.TIME_CONFLICT).alarm 0x02 0x02 g 0

/-- The enabled contexts, rising. -/
def State.ctxIds (s : State) : List Nat := (tabKeys s.ctx).filter (fun n => (s.ctxOf n).q != .off)

/-- Value formation, history and comparison groups of a frame (R42, R43). -/
def State.formAll (s : State) (k : Nat) : State :=
  let f := Int.ofNat (s.fOf k)
  let ids := s.ctxIds
  let s1 := ids.foldl (fun s n => (s.formCtx f n).noteHist n) s
  (upTo 31).foldl (fun s g => if ids.any (fun n => s.group n == g + 1) then s.groupStep ids (g + 1) else s) s1

/-- The values of a frame formed anew after its CUTOFF, on a standby that has no main part to follow (R182). -/
def State.reform (s : State) (k : Nat) : State :=
  (s.ctxIds.filter (fun n => (s.ctxOf n).q == .locked || (s.ctxOf n).q == .stale)).foldl (fun s n =>
    let s1 := s.formCtx (Int.ofNat (s.fOf k)) n
    let c := s1.ctxOf n
    s1.ctxPut n { c with hist := c.value.map (·.x) :: c.hist.drop 1 }) s

/-! ## Enabling, steps, re-admission -/

/-- Enable a context with the configuration held in its registers (R40). -/
def State.ctxEnable (s : State) (n : Nat) : State :=
  let cw := match s.fget (fldAt SCX_CFG.CWIDTH n) with | 0 => 16 | 1 => 32 | 2 => 48 | _ => 64
  s.ctxPut n { ctxOff with
    q := if s.retired 0 n then .retired else .empty
    localMode := s.fget (fldAt SCX_CFG.MODE n) == 1, cwidth := cw, tick := s.fget (fldAt SCX_TICK.TICK n),
    hermite := s.fbit (fldAt SCX_CFG.HERMITE n) }

/-- Disable a context: buffer emptied, mapping reset (R40). -/
def State.ctxDisable (s : State) (n : Nat) : State :=
  (s.ctxPut n ctxOff).fset (fldAt SCX_MAP_RES.RES n) 0

/-- A step of `d` ns applied to the LOCAL contexts (R41). -/
def State.stepCtxs (s : State) (d : Nat) : State :=
  { s with ctx := s.ctx.map (fun p =>
      if p.2.localMode then
        (p.1, { p.2 with ofs := p.2.ofs + Int.ofNat d,
                         buf := p.2.buf.map (fun x => { x with t := x.t + Int.ofNat d }) })
      else p) }

end Sys2Proof.Machine
end

