-- ==== Sys2Proof/Machine/Operands.lean ====
section
/-!
DEFINITION. The operands the commands carry in bytes: the pier-protocol header and its checks (R283 to R285), SAMPLE,
COMMAND, STATUS and HARVEST payloads (R286, R287, R291, R292, R294), and the payload fields of host commands (R399).
-/

namespace Sys2Proof.Machine

/-! ## PDUs -/

/-- PDU types (R284). -/
def pduSample : Nat := 1
def pduCommand : Nat := 2
def pduStatus : Nat := 3
def pduManifest : Nat := 4
def pduLease : Nat := 5
def pduHarvest : Nat := 6
def pduImage : Nat := 7

/-- A PDU that has passed the checks of R285; `frame` is the 32-bit field. -/
structure Pdu where
  type : Nat
  node : Nat
  epoch : Nat
  frame : Nat
  seq : Nat
  payload : List Byte
  deriving DecidableEq, Repr

/-- A PDU as sent (R283). -/
def pduBytes (p : Pdu) : List Byte :=
  let h := leBytes 2 0x4758 ++ [1] ++ leBytes 1 p.type ++ leBytes 2 (p.node % 1024) ++ leBytes 2 p.payload.length
    ++ leBytes 4 p.epoch ++ leBytes 4 p.frame ++ leBytes 4 p.seq
  h ++ leBytes 4 (crc32c (h ++ p.payload)) ++ p.payload

/-- What the checks of R285 find. -/
inductive PduCheck where
  | ok (p : Pdu)
  | format
  | crc
  deriving DecidableEq, Repr

/-- Does a PDU type belong to UDP port BASE + `i` of an Ethernet port, or of a span (R272, R282). -/
def pduBelongs (span : Bool) (i type : Nat) : Bool :=
  if span then i == 5 && (type == pduManifest || type == pduLease || type == pduImage)
  else match i with
    | 0 => type == pduSample
    | 1 => type == pduCommand
    | 2 => type == pduStatus
    | 3 => type == pduLease
    | 4 => type == pduHarvest
    | _ => false

/-- The UDP port of a PDU type on the Ethernet ports, counted from BASE (R282). -/
def pduPort (type : Nat) : Nat :=
  if type = pduSample then 0 else if type = pduCommand then 1 else if type = pduStatus then 2 else if type = pduLease then 3
  else if type = pduHarvest then 4 else 5

/-- The checks of R285 on a datagram of the port of `type`: MAGIC, VERSION, TYPE and port, LENGTH, then the CRC. -/
def pduParse (type : Nat) (bs : List Byte) : PduCheck :=
  if bs.length < 24 ∨ uAt 2 bs 0 ≠ 0x4758 ∨ byteAt bs 2 ≠ 1 ∨ byteAt bs 3 ≠ type ∨ uAt 2 bs 6 + 24 ≠ bs.length then .format
  else if crc32c (bs.take 20 ++ bs.drop 24) ≠ uAt 4 bs 20 then .crc
  else .ok ⟨type, uAt 2 bs 4 % 1024, uAt 4 bs 8, uAt 4 bs 12, uAt 4 bs 16, bs.drop 24⟩

/-- The full frame number nearest to `own` that a 32-bit value stands for (R26). -/
def expandFrame (own v : Nat) : Nat := (Int.ofNat own + sx 32 (tc 32 (Int.ofNat v - Int.ofNat own))).toNat

/-- An entry of a SAMPLE payload (R286). -/
structure SampleIn where
  stream : Nat
  isLocal : Bool
  rate : Bool
  invalid : Bool
  stamp : Nat
  value : List Byte
  deriving DecidableEq, Repr

/-- The entries of a SAMPLE payload from offset `o`. -/
def sampleEntries (p : List Byte) : Nat → Nat → List SampleIn
  | 0, _ => []
  | n + 1, o =>
    let len := byteAt p (o + 3)
    let f := byteAt p (o + 2)
    if o + 12 + len > p.length then []
    else ⟨uAt 2 p o, bit f 0, bit f 1, bit f 2, uAt 8 p (o + 4), (p.drop (o + 12)).take len⟩
      :: sampleEntries p n (o + 12 + (len + 3) / 4 * 4)

/-- A COMMAND entry (R287). -/
structure ActCmd where
  act : Nat
  ver : Nat
  mode : Nat
  endA : Nat
  applyAt : Nat
  t : Word
  ang : Nat
  holdT : Nat
  rampT : Nat
  deriving DecidableEq, Repr

/-- A COMMAND entry as sent. -/
def actBytes (c : ActCmd) : List Byte :=
  leBytes 1 c.act ++ leBytes 1 c.ver ++ leBytes 1 c.mode ++ leBytes 1 c.endA ++ leBytes 8 c.applyAt ++ leBytes 4 c.t.toNat
    ++ leBytes 4 c.ang ++ leBytes 2 c.holdT ++ leBytes 2 c.rampT ++ leBytes 8 0

/-- A COMMAND payload (R287). -/
def commandBytes (dest slot stat guard period : Nat) (cs : List ActCmd) : List Byte :=
  leBytes 2 dest ++ leBytes 1 slot ++ leBytes 1 cs.length ++ leBytes 2 stat ++ leBytes 2 guard ++ leBytes 2 period
    ++ leBytes 2 0 ++ cs.flatMap actBytes

/-- The entries of a COMMAND payload. -/
def commandEntries (p : List Byte) : List ActCmd :=
  (upTo (byteAt p 3)).map (fun i =>
    let o := 12 + 32 * i
    ⟨byteAt p o, byteAt p (o + 1), byteAt p (o + 2), byteAt p (o + 3), uAt 8 p (o + 4), BitVec.ofNat 32 (uAt 4 p (o + 12)),
      uAt 4 p (o + 16), uAt 2 p (o + 20), uAt 2 p (o + 22)⟩)

/-- A thruster entry of a STATUS body (R292). -/
structure ThrEntry where
  act : Nat
  state : Nat
  ver : Nat
  t : Word
  ang : Nat
  applied : Nat
  deriving DecidableEq, Repr

/-- The thruster entries of a STATUS payload. -/
def thrEntries (p : List Byte) : List ThrEntry :=
  (upTo (byteAt p 8)).map (fun i =>
    let o := 12 + 16 * i
    ⟨byteAt p o, byteAt p (o + 1), byteAt p (o + 2), BitVec.ofNat 32 (uAt 4 p (o + 4)), uAt 4 p (o + 8), uAt 4 p (o + 12)⟩)

/-- The power entries of a STATUS payload: section, state, available power. -/
def powEntries (p : List Byte) : List (Nat × Nat × Word) :=
  (upTo (byteAt p 8)).map (fun i =>
    let o := 12 + 8 * i
    (byteAt p o, byteAt p (o + 1), BitVec.ofNat 32 (uAt 4 p (o + 4))))

/-- A HARVEST payload (R294). -/
structure HarvPdu where
  at_ : Nat
  id : Nat
  origin : Nat
  cause : Nat
  deriving DecidableEq, Repr

def harvestBytes (h : HarvPdu) : List Byte :=
  leBytes 8 h.at_ ++ leBytes 4 h.id ++ leBytes 2 h.origin ++ leBytes 1 h.cause ++ [0]

def harvestOf (p : List Byte) : HarvPdu := ⟨uAt 8 p 0, uAt 4 p 8, uAt 2 p 12 % 1024, byteAt p 14⟩

/-! ## Big-endian fields of Ethernet, IP and PTP frames -/

/-- The unsigned big-endian field of `n` bytes at offset `o`. -/
def beAt (n : Nat) (bs : List Byte) (o : Nat) : Nat := beNat ((bs.drop o).take n)

/-- The one's-complement sum of 16-bit big-endian words. -/
def ipSum : Nat → List Byte → Nat
  | 0, _ => 0
  | n + 1, bs => beNat (fitBytes 2 (bs.take 2)) + ipSum n (bs.drop 2)

/-- Internet checksum. -/
def ipCheck (bs : List Byte) : Nat :=
  let s := ipSum (bs.length / 2 + 1) bs
  let s1 := s % 65536 + s / 65536
  65535 - (s1 % 65536 + s1 / 65536)

/-! ## Decimal text (R405, R296) -/

/-- Decimal digits as a Nat. -/
def digitsNat (bs : List Byte) : Nat := bs.foldl (fun a b => a * 10 + (b.toNat - 48)) 0

/-- Value of an uppercase or lowercase hex digit. -/
def hexVal (c : Nat) : Option Nat :=
  if isDigit c then some (c - 48)
  else if 65 ≤ c ∧ c ≤ 70 then some (c - 55)
  else if 97 ≤ c ∧ c ≤ 102 then some (c - 87) else none

/-- A decimal number `[-]ddd[.ddd]` as mantissa and number of decimals. -/
def decimalOf (bs : List Byte) : Option (Int × Nat) :=
  let neg := byteAt bs 0 == 45
  let b := if neg then bs.drop 1 else bs
  let ip := b.takeWhile (fun c => c.toNat != 46)
  let fp := (b.drop ip.length).drop 1
  let ds := ip ++ fp
  if ds.isEmpty || !(ds.all (fun c => isDigit c.toNat)) then none
  else
    let v := Int.ofNat (digitsNat ds)
    some (if neg then -v else v, fp.length)

/-- Cut at a separator. -/
def splitOn (sep : Nat) : List Byte → List (List Byte)
  | [] => [[]]
  | b :: bs =>
    match splitOn sep bs with
    | [] => [[b]]
    | x :: xs => if b.toNat = sep then [] :: x :: xs else (b :: x) :: xs

/-- Bytes of an ASCII text. -/
def ascii (t : String) : List Byte := t.toList.map (fun c => BitVec.ofNat 8 c.toNat)

end Sys2Proof.Machine
end

