-- ==== Sys2Proof/Machine/Sentence.lean ====
section
/-!
DEFINITION. Values of bindings (R405, R532) and IEC 61162-1 sentences (R295, R296, R319, R320): framing checks, keys,
parsers and the delivery of parsed values to stream contexts.
-/

namespace Sys2Proof.Machine

/-! ## Field entries (R405) -/

/-- A field entry of a binding. -/
structure FieldE where
  ctx : Nat
  pos : Nat
  width : Nat
  fmt : Nat
  signed : Bool
  scale : Flt
  offset : Flt
  deriving DecidableEq, Repr

/-- The field entries of a BINDING body. -/
def fieldsOf (b : List Byte) : List FieldE :=
  (upTo (byteAt b 2)).map (fun i =>
    let o := 16 + 12 * i
    ⟨byteAt b o, byteAt b (o + 1), byteAt b (o + 2), byteAt b (o + 3) % 8, bit (byteAt b (o + 3)) 7, fltAt b (o + 4),
      fltAt b (o + 8)⟩)

/-- The format named by FMT bits [2:0]. -/
def vfmtOf (n : Nat) : VFmt := match n with | 0 => .int32 | 1 => .l32 | 2 => .b32 | 3 => .q31 | _ => .f32

/-- A 32-bit component as its format reads it. -/
def compOf (f : VFmt) (w : Nat) : Int := match f with | .b32 => Int.ofNat w | .f32 => Int.ofNat w | _ => sx 32 w

/-- The value formed from x (R405): one binary64 fused multiply-add, one rounding to the format, saturation. -/
def fieldVal (e : FieldE) (x : Dbl) : Int :=
  let v := dfma x (dofFlt e.scale) (dofFlt e.offset)
  match vfmtOf e.fmt with
  | .b32 => dToInt 0 (2 ^ 32 - 1) v
  | .f32 =>
    let w := dToFlt v
    if w == 0x7F800000 then 0x7F7FFFFF else if w == 0xFF800000 then 0xFF7FFFFF else Int.ofNat w.toNat
  | _ => dToInt (-(2 ^ 31)) (2 ^ 31 - 1) v

/-- A bit field of a CAN frame's data (R405, CANFIELD). -/
def canField (d : List Byte) (e : FieldE) : Int :=
  let v := leNat d >>> e.pos % 2 ^ e.width
  if e.signed then sx e.width v else Int.ofNat v

/-- Contexts named by field entries, each once, in order of first appearance. -/
def fieldCtxs : List FieldE → List Nat
  | [] => []
  | e :: es => e.ctx :: (fieldCtxs es).filter (fun c => c != e.ctx)

/-- Deliver the values of a CAN, UART or I450 binding to its contexts (R532): stamped by the 9160 at `stamp`. A context
one of whose fields is missing gets no sample. -/
def State.deliver (s : State) (b : List Byte) (vals : List (Option Int)) (stamp : Nat) : State :=
  let fs := (fieldsOf b).zip vals
  (fieldCtxs (fieldsOf b)).foldl (fun s n =>
    let c := s.ctxOf n
    let mine := fs.filter (fun p => p.1.ctx == n)
    if c.localMode || c.hermite then s.finc NET_PIER_ERR.MODE
    else if mine.any (fun p => p.2.isNone) then s
    else s.ctxSample n stamp stamp .reception (vfmtOf (match mine with | p :: _ => p.1.fmt | [] => 0))
      (mine.filterMap (·.2)) [] [] 0 0) s

/-! ## Sentences -/

/-- The checksum of the characters between the start and the asterisk. -/
def sentSum (bs : List Byte) : Nat := bs.foldl (fun a b => a ^^^ b.toNat) 0

/-- A sentence without its CR LF: starts with "$" or "!", at most 82 characters with CR LF, a right checksum (R295,
R319). The body between start and asterisk, none when it fails. -/
def sentBody (bs : List Byte) : Option (List Byte) :=
  let n := bs.length
  let st := byteAt bs 0
  if (st ≠ 36 ∧ st ≠ 33) ∨ n < 4 ∨ 80 < n ∨ byteAt bs (n - 3) ≠ 42 then none
  else
    let body := (bs.drop 1).take (n - 4)
    match hexVal (byteAt bs (n - 2)), hexVal (byteAt bs (n - 1)) with
    | some h, some l => if sentSum body = 16 * h + l then some body else none
    | _, _ => none

/-- Talker and formatter of a sentence body; for a proprietary one "P" and the manufacturer mnemonic (R320). -/
def sentKey (body : List Byte) : List Byte × List Byte :=
  if byteAt body 0 = 80 then (ascii "P" ++ [0], (body.drop 1).take 3)
  else (body.take 2, (body.drop 2).take 3)

/-- The comma-separated fields: field 0 is the address. -/
def sentFields (body : List Byte) : List (List Byte) := splitOn 44 body

/-- A decimal text field as binary64, correctly rounded (R405). -/
def decDbl (bs : List Byte) : Option Dbl :=
  (decimalOf bs).map (fun p => dofRat p.1 (10 ^ p.2))

/-- A latitude or longitude field `dd…mm.mmmm` with its hemisphere, in degrees. -/
def degDbl (bs h : List Byte) : Option Dbl :=
  match decimalOf bs with
  | none => none
  | some (v, k) =>
    let n := v.natAbs
    let whole := n / 10 ^ k
    let deg := whole / 100
    let minN := n - deg * 100 * 10 ^ k
    let q : Int := Int.ofNat (deg * 60 * 10 ^ k + minN)
    let neg := byteAt h 0 == 83 || byteAt h 0 == 87
    some (dofRat (if neg then -q else q) (60 * 10 ^ k))

/-- Does the parser take the sentence's values as valid (R405): the status or mode field says so. -/
def sentValid (parser : Nat) (fs : List (List Byte)) : Bool :=
  let f (i : Nat) : Nat := byteAt (fs.getD i []) 0
  match parser with
  | 0x02 => f 2 == 65
  | 0x03 => f 2 == 65
  | 0x04 => f 5 == 65
  | 0x05 => f 6 != 0 && f 6 != 48
  | 0x06 => f 9 != 78
  | _ => true

/-- x of a field entry in a sentence: the field at index POS. -/
def sentX (parser : Nat) (fs : List (List Byte)) (e : FieldE) : Option Dbl :=
  let f (i : Nat) : List Byte := fs.getD i []
  if parser = 0x05 ∧ (e.pos = 2 ∨ e.pos = 4) then degDbl (f e.pos) (f (e.pos + 1)) else decDbl (f e.pos)

/-- Parse a sentence body with a binding and deliver its values at the reception instant `t`. -/
def State.sentDeliver (s : State) (b body : List Byte) (t : Nat) : State :=
  let fs := sentFields body
  let p := byteAt b 1
  if !sentValid p fs then s
  else s.deliver b ((fieldsOf b).map (fun e => (sentX p fs e).map (fieldVal e))) t

end Sys2Proof.Machine
end

