-- ==== Sys2Proof/Machine/Can.lean ====
section
/-!
DEFINITION. CAN controllers and UARTs (R299 to R324): controller state, error counting, filtering, receive queues,
start-of-frame time, transmission, sentence framing.
-/

namespace Sys2Proof.Machine

/-- A controller as reset leaves it. -/
def canCtlOff : CanCtl := resetCtl
/-- Controller `n`. -/
def State.ctl (s : State) (n : Nat) : CanCtl := s.can.ctl.getD n canCtlOff

/-- Write controller `n` and the registers that show its queue (R322). -/
def State.ctlPut (s : State) (n : Nat) (c : CanCtl) : State :=
  let s1 := { s with can := { s.can with ctl := setAt s.can.ctl n c } }
  let pend := (c.bufs.zipIdx.map (fun p => if p.1.isSome then 2 ^ p.2 else 0)).sum
  (s1.fset (fldAt CAN_TXBUF.QFILL n) c.queue.length).fset (fldAt CAN_TXBUF.PEND n) pend

/-- Change controller `n`. -/
def State.ctlMod (s : State) (n : Nat) (f : CanCtl → CanCtl) : State := s.ctlPut n (f (s.ctl n))

/-- A flag of CAN_CTRL. -/
def State.cctrl (s : State) (f : Fld) (n : Nat) : Bool := s.fbit (fldAt f n)
/-- INIT_ACK of controller `n`. -/
def State.canInit (s : State) (n : Nat) : Bool := s.fbit (fldAt CAN_STAT.INIT_ACK n)
/-- Is controller `n` held (R303, R455): retired, or its domain D9 without power. -/
def State.canDead (s : State) (n : Nat) : Bool := s.retired 3 n || !bit s.sys.domOn 9
/-- Does controller `n` take part in traffic? -/
def State.canOn (s : State) (n : Nat) : Bool :=
  s.clocked && !s.canDead n && !s.canInit n && s.fbit (fldAt CAN_STAT.SYNC n) && s.fget (fldAt CAN_STAT.STATE n) != 2

/-! ## Controller state (R302, R303) -/

/-- Loaded buffers return to the head of the queue, in buffer order (R302). -/
def unload (c : CanCtl) : CanCtl :=
  { c with queue := c.bufs.filterMap id ++ c.queue, bufs := [none, none, none], loaded := [], onBus := none }

/-- A write of INIT = 1 (R302). -/
def State.canInitEnter (s : State) (n : Nat) : State :=
  let s1 := s.fset (fldAt CAN_CTRL.INIT n) 1
  if s1.canInit n then s1 else s1.ctlMod n (fun c => { c with initReq := true })

/-- INIT takes effect: the controller stops (R302). -/
def State.canStop (s : State) (n : Nat) : State :=
  ((s.ctlMod n (fun c => { (unload c) with initReq := false, boWait := false })).fset (fldAt CAN_STAT.INIT_ACK n) 1).fset
    (fldAt CAN_STAT.SYNC n) 0

/-- CAN_INIT_ACK (R302). -/
def State.canInitAck (s : State) (n : Nat) : State :=
  if (s.ctl n).initReq then s.canStop n else s

/-- A write of INIT = 0: bus integration, or bus-off recovery from this write; a retired controller stays held as under INIT (R302, R303). -/
def State.canInitLeave (s : State) (n : Nat) : State :=
  let s1 := s.fset (fldAt CAN_CTRL.INIT n) 0
  if s.retired 3 n then s1.ctlMod n (fun c => { c with initReq := false })
  else if s.canInit n then
    let s2 := s1.fset (fldAt CAN_STAT.INIT_ACK n) 0
    s2.ctlMod n (fun c => { c with initReq := false, boWait := s.fget (fldAt CAN_STAT.STATE n) == 2 })
  else s1.ctlMod n (fun c => { c with initReq := false })

/-- CAN_INTEGRATION: 11 recessive bits (R302). -/
def State.canIntegrate (s : State) (n : Nat) : State :=
  if s.canInit n || s.canDead n || s.fget (fldAt CAN_STAT.STATE n) == 2 then s else s.fset (fldAt CAN_STAT.SYNC n) 1

/-- A retired controller is held as under INIT (R303). -/
def State.canRetire (s : State) (n : Nat) : State := (s.canStop n).fset (fldAt CAN_STAT.RETIRED n) 1

/-- BUS_OFF (R303): buffers return, FLUSH_BO empties the queue, one error on the channel. -/
def State.busOff (s : State) (n : Nat) : State :=
  if !s.canOn n then s
  else
    let s1 := (((s.fset (fldAt CAN_STAT.STATE n) 2).fup (fldAt CAN_STAT.BO n)).fset (fldAt CAN_STAT.SYNC n) 0).finc (fldAt CAN_CNT.BUSOFF n)
    let s2 := s1.ctlMod n (fun c => { (unload c) with boWait := s.cctrl CAN_CTRL.ABO n })
    let s3 := if s.cctrl CAN_CTRL.FLUSH_BO n then
        (s2.fcount (fldAt CAN_CNT.TX_DROP n) (s2.ctl n).queue.length).ctlMod n (fun c => { c with queue := [] })
      else s2
    let (s4, ret) := (s3.event 0x0B 0x01 1 (evData n 0)).fltErr 3 n
    if ret then s4.canRetire n else s4

/-- BUS_OFF_RECOVERY: 128 sequences of 11 recessive bits (R303). -/
def State.busOffRecover (s : State) (n : Nat) : State :=
  if s.fget (fldAt CAN_STAT.STATE n) = 2 ∧ (s.ctl n).boWait ∧ !s.canDead n then
    ((((s.fset (fldAt CAN_STAT.STATE n) 0).fset (fldAt CAN_STAT.TEC n) 0).fset (fldAt CAN_STAT.REC n) 0).fset
      (fldAt CAN_STAT.SYNC n) 1).ctlMod n (fun c => { c with boWait := false })
  else s

/-- Error active or error passive by the counters (PRESUMED ISO 11898-1). -/
def State.canErrState (s : State) (n : Nat) : State :=
  if s.fget (fldAt CAN_STAT.TEC n) > 127 ∨ s.fget (fldAt CAN_STAT.REC n) > 127 then s.fset (fldAt CAN_STAT.STATE n) 1
  else s.fset (fldAt CAN_STAT.STATE n) 0

/-- Count receive errors (PRESUMED ISO 11898-1); in listen-only mode the counters stay (R304). -/
def State.recErr (s : State) (n by_ : Nat) : State :=
  if s.cctrl CAN_CTRL.LOM n then s else (s.fcount (fldAt CAN_STAT.REC n) by_).canErrState n

/-- A transmit error: TEC + 8, bus-off beyond 255 (PRESUMED ISO 11898-1). -/
def State.tecErr (s : State) (n : Nat) : State :=
  if s.fget (fldAt CAN_STAT.TEC n) + 8 > 255 then (s.fset (fldAt CAN_STAT.TEC n) 255).busOff n
  else (s.fset (fldAt CAN_STAT.TEC n) (s.fget (fldAt CAN_STAT.TEC n) + 8)).canErrState n

/-- A frame received without error lowers REC: by one, and from above 127 to a value ISO 11898-1 leaves open between 119
and 127. -/
def State.recOk (s : State) (n : Nat) : State :=
  let r := s.fget (fldAt CAN_STAT.REC n)
  if s.cctrl CAN_CTRL.LOM n then s
  else if r > 127 then ((s.fset (fldAt CAN_STAT.REC n) (119 + Config.freeWord s.free % 9)).tick1).canErrState n
  else (s.fset (fldAt CAN_STAT.REC n) (r - 1)).canErrState n

/-- A protocol exception (R299): the controller waits for 11 recessive bits; with PEX_DIS a form error. -/
def State.protoExc (s : State) (n : Nat) : State :=
  if s.cctrl CAN_CTRL.PEX_DIS n then (s.fset (fldAt CAN_STAT.LEC n) 2).recErr n 1
  else (s.fup (fldAt CAN_STAT.PEX n)).fset (fldAt CAN_STAT.SYNC n) 0

/-- CAN_BUS_ERROR during reception: `kind` is the code of R303, 7 a protocol exception; `eight` marks the errors
ISO 11898-1 counts eightfold. -/
def State.canBusError (s : State) (n kind : Nat) (eight : Bool) : State :=
  if !s.canOn n then s
  else if kind = 7 then s.protoExc n
  else (s.fset (fldAt CAN_STAT.LEC n) kind).recErr n (if eight then 8 else 1)

/-! ## Filters (R305 to R308) -/

/-- Does an element match an identifier (R305)? -/
def fltMatch (e : Nat × Nat × Nat) (m : CanMsg) : Bool :=
  let (w0, w1, w2) := e
  let ty := bits w0 30 2
  let id1 := bits w1 0 29
  let id2 := bits w2 0 29
  (bit w0 26 == m.ide) && (match bits w0 24 2 with | 0 => true | 1 => !m.fdf | 2 => m.fdf | _ => false)
    && (match ty with
      | 0 => decide (id1 ≤ m.id) && decide (m.id ≤ id2)
      | 1 => m.id == id1 || m.id == id2
      | 2 => (m.id &&& id2) == (id1 &&& id2)
      | _ => false)

/-- The first element that decides (R306): its index and word 0. -/
def fltFind (f : Tab (Nat × Nat × Nat)) (m : CanMsg) : Option (Nat × Nat) :=
  (f.find? (fun p => bits p.2.1 27 3 != 0 && fltMatch p.2 m)).map (fun p => (p.1, p.2.1))

/-- Is an element one that a WRITE accepts (R308)? -/
def fltOkElem (w0 w1 w2 : Nat) : Bool :=
  let ty := bits w0 30 2
  let ids := bits w1 0 29
  let id2 := bits w2 0 29
  ty != 3 && decide (bits w0 27 3 < 6) && bits w0 24 2 != 3
    && (bit w0 26 || (decide (ids ≤ 0x7FF) && (ty == 2 || decide (id2 ≤ 0x7FF))))
    && !(ty == 0 && decide (id2 < ids))

/-- Default filter element: a DISABLED RANGE (R308). -/
def fltDflt (_ : Nat) : Nat × Nat × Nat := (0, 0, 0)

/-- FILTER_WRITE (R308): a WRITE ignored, for the state or for its element, sets ERR (R322). -/
def State.filterWrite (s : State) (n idx : Nat) : State :=
  let s1 := s.fset (fldAt CAN_FLT_SEL.INDEX n) idx
  let w (a : Nat) : Nat := (s.reg (a + 0x100 * n)).toNat
  let (w0, w1, w2) := (w aCAN_FLT_DATA0, w aCAN_FLT_DATA1, w aCAN_FLT_DATA2)
  if !(s.inCfg || s.canInit n) || !fltOkElem w0 w1 w2 then s1.fup (fldAt CAN_FLT_SEL.ERR n)
  else s1.ctlMod n (fun c => { c with flt := tabSet fltDflt c.flt (idx % 1024) (w0, w1, w2) })

/-- FILTER_READ (R308). -/
def State.filterRead (s : State) (n idx : Nat) : State :=
  let (w0, w1, w2) := tabGet fltDflt (s.ctl n).flt (idx % 1024)
  (((s.fset (fldAt CAN_FLT_SEL.INDEX n) idx).fset (fldAt CAN_FLT_DATA0.DATA n) w0).fset (fldAt CAN_FLT_DATA1.DATA n) w1).fset
    (fldAt CAN_FLT_DATA2.DATA n) w2

/-- The elements of controller `n` as its CAN_FILTER objects give them (R404). -/
def State.loadFilters (s : State) (n : Nat) : State :=
  let els := (upTo 4).flatMap (fun b =>
    match s.obj 0x1E (4 * n + b) with
    | some o => (upTo 256).map (fun i => (256 * b + i, uAt 4 o (12 * i), uAt 4 o (12 * i + 4), uAt 4 o (12 * i + 8)))
    | none => [])
  s.ctlMod n (fun c => { c with flt := els.filter (fun p => p.2 != (0, 0, 0)) })

/-! ## Start-of-frame time (R311, R312) -/

/-- CAN_TSC: one count per 125 CLK_TS edges (80 CLK_CAN cycles). -/
def State.canTsc (s : State) : Nat := s.time.ticks / 125 % 2 ^ 32
/-- CAN_TSC `age` CLK_TS edges ago, at the hard-synchronisation edge of a frame's start of frame (R311). -/
def State.canTscAt (s : State) (age : Nat) : Nat := (s.time.ticks - age) / 125 % 2 ^ 32
/-- PH: CLK_CAN cycles since the last increment. -/
def State.canPh (s : State) : Nat := s.time.ticks % 125 * 16 / 25

/-- The cross-capture at a boundary event (R311). -/
def State.canCapture (s : State) : State :=
  let cap : CanCap := ⟨s.fNow, s.canTsc, s.canPh, s.time.steps != s.can.steps⟩
  let s1 := { s with can := { s.can with cap0 := s.can.cap1, cap1 := some cap, steps := s.time.steps } }
  (((s1.fset CAN_XCAP_CNT.COUNT cap.cnt).fset CAN_XCAP_PH.VALID 1).fset CAN_XCAP_PH.PH cap.ph).fset CAN_XCAP_FRAME.FRAME s.time.frame

/-- TIME_NS of a stamp (R312); none without a capture. -/
def State.canTime (s : State) (stamp : Nat) : Option Int :=
  match s.can.cap1 with
  | none => none
  | some c1 =>
    let q := sx 32 (tc 32 (Int.ofNat stamp - Int.ofNat c1.cnt))
    let d := q * 80 + 40 - Int.ofNat c1.ph
    match s.can.cap0 with
    | some c0 =>
      let m := Int.ofNat (tc 32 (Int.ofNat c1.cnt - Int.ofNat c0.cnt)) * 80 + Int.ofNat c1.ph - Int.ofNat c0.ph
      if c1.step ∨ m ≤ 0 then some (Int.ofNat c1.f + rndAway (d * 25) 2)
      else some (Int.ofNat c1.f + rndAway (d * (Int.ofNat c1.f - Int.ofNat c0.f)) m.toNat)
    | none => some (Int.ofNat c1.f + rndAway (d * 25) 2)

/-! ## Receive queues (R309, R310) -/

/-- The three fields of a queue's status. -/
def rxqSw (q : Nat) : Fld := if q = 0 then CAN_RXQ0_STAT.SW else CAN_RXQ1_STAT.SW
def rxqPut (q : Nat) : Fld := if q = 0 then CAN_RXQ0_STAT.PUT else CAN_RXQ1_STAT.PUT
def rxqGet (q : Nat) : Fld := if q = 0 then CAN_RXQ0_STAT.GET else CAN_RXQ1_STAT.GET
def rxqErr (q : Nat) : Fld := if q = 0 then CAN_RXQ0_STAT.ACK_ERR else CAN_RXQ1_STAT.ACK_ERR
def rxqOvf (q : Nat) : Fld := if q = 0 then CAN_CNT.RXQ0_OVF else CAN_CNT.RXQ1_OVF

/-- Store a frame in a receive queue (R309, R310). -/
def State.rxqStore (s : State) (n q : Nat) (m : CanMsg) (esi rtr : Bool) (elem : Option Nat) (stamp : Nat) : State :=
  if s.fget (fldAt (rxqSw q) n) ≥ 64 then (s.finc (fldAt (rxqOvf q) n)).event 0x0B 0x03 1 (evData n q)
  else
    let put := s.fget (fldAt (rxqPut q) n)
    let t := s.canTime stamp
    let ctrl := m.dlc % 16 + 16 * b2n m.fdf + 32 * b2n m.brs + 64 * b2n esi + 128 * b2n rtr + 256 * (elem.getD 0 % 1024)
      + 2 ^ 18 * b2n elem.isNone + 2 ^ 19 * b2n t.isSome
    let e := leBytes 4 (m.id % 2 ^ 29 + 2 ^ 29 * b2n m.ide) ++ leBytes 4 ctrl ++ leBytes 4 stamp ++ leBytes 4 0
      ++ leBytes 8 (tc 64 (t.getD 0)) ++ leBytes 8 0 ++ fitBytes 64 m.data
    let s1 := s.wrB rgnRxq (n * 12288 + q * 6144 + put * 96) e
    (s1.fset (fldAt (rxqPut q) n) (put + 1)).fset (fldAt (rxqSw q) n) (s.fget (fldAt (rxqSw q) n) + 1)

/-- RXQ_ACK (R310). -/
def State.rxqAck (s : State) (n q k : Nat) : State :=
  let sw := s.fget (fldAt (rxqSw q) n)
  if k % 128 > sw then s.fup (fldAt (rxqErr q) n)
  else (s.fset (fldAt (rxqSw q) n) (sw - k % 128)).fset (fldAt (rxqGet q) n) (s.fget (fldAt (rxqGet q) n) + k % 128)

/-- Pass a frame to binding `b` (R307, R405): samples stamped with the SOF time. -/
def State.canBind (s : State) (b : Nat) (m : CanMsg) (stamp : Nat) : State :=
  match s.canTime stamp with
  | none => s
  | some t =>
    (s.bindOf 1 (fun k => byteAt k 0 == b)).foldl (fun s p =>
      let vals := (fieldsOf p.2).map (fun e =>
        if e.pos + e.width ≤ 8 * m.data.length then some (fieldVal e (dofInt (canField m.data e))) else none)
      s.deliver p.2 vals t.toNat) s

/-- CAN_FRAME_RX: a frame received without error, whose start of frame came `age` CLK_TS edges ago (R299, R303 to R311). -/
def State.canRx (s : State) (n : Nat) (m : CanMsg) (esi rtr : Bool) (age : Nat) : State :=
  let stamp := s.canTscAt age
  if !s.canOn n then s
  else if m.fdf && !s.cctrl CAN_CTRL.FD_EN n then s.protoExc n
  else
    let s1 := s.recOk n
    if rtr && !s.cctrl CAN_CTRL.RMT n then s1
    else match fltFind (s.ctl n).flt m with
      | none =>
        match s.fget (fldAt CAN_CTRL.NOMATCH n) with
        | 1 => s1.rxqStore n 0 m esi rtr none stamp
        | 2 => s1.rxqStore n 1 m esi rtr none stamp
        | _ => s1
      | some (i, w0) =>
        match bits w0 27 3 with
        | 1 => s1.rxqStore n 0 m esi rtr (some i) stamp
        | 2 => s1.rxqStore n 1 m esi rtr (some i) stamp
        | 4 => s1.canBind (bits w0 16 8) m stamp
        | 5 => (s1.canBind (bits w0 16 8) m stamp).rxqStore n 0 m esi rtr (some i) stamp
        | _ => s1

/-! ## Transmission (R313 to R315) -/

/-- Why a submission is refused (R313). -/
inductive CanRefusal where
  | full | format | brsClassic
  deriving DecidableEq, Repr

/-- Submit an entry (R313). A later entry of the same logic instance and SEND_AT replaces the one queued (R353). -/
def State.canSubmit (s : State) (n : Nat) (m : CanMsg) (at_ : Nat) (inst mb : Option Nat) : State × Option CanRefusal :=
  let c := s.ctl n
  let drop (r : CanRefusal) : State × Option CanRefusal := (s.finc (fldAt CAN_CNT.TX_DROP n), some r)
  if m.brs && !m.fdf then drop .brsClassic
  else if (m.fdf && !s.cctrl CAN_CTRL.FD_EN n) || (m.brs && !s.cctrl CAN_CTRL.BRS_EN n) then drop .format
  else
    let same (e : CanEnt) : Bool := inst.isSome && e.inst == inst && e.at_ == at_
    if c.queue.any same then
      (s.ctlPut n { c with queue := c.queue.map (fun e => if same e then { e with msg := m } else e) }, none)
    else if c.queue.length ≥ 64 then drop .full
    else
      let s1 := s.ctlPut n { c with queue := c.queue ++ [⟨m, at_, inst, mb, s.can.ord⟩] }
      ({ s1 with can := { s1.can with ord := s1.can.ord + 1 } }, none)

/-- Bus priority (R314): the lower value wins. -/
def busPrio (m : CanMsg) : Nat :=
  if m.ide then (bits m.id 18 11) * 2 ^ 20 + 2 ^ 19 + bits m.id 0 18 else (m.id % 2 ^ 11) * 2 ^ 20

/-- The first of the entries with the least key. -/
def leastBy {α : Type} (key : α → Nat) : List α → Option α
  | [] => none
  | x :: xs => match leastBy key xs with | some y => if key y < key x then some y else some x | none => some x

/-- CAN_TX_LOAD (R304, R314): a free buffer takes the chosen eligible entry. -/
def State.canLoad (s : State) (n : Nat) : State :=
  let c := s.ctl n
  if s.canInit n || s.canDead n || s.cctrl CAN_CTRL.LOM n || s.fget (fldAt CAN_STAT.STATE n) == 2 || c.initReq then s
  else
    match (upTo 3).find? (fun b => (c.bufs.getD b none).isNone) with
    | none => s
    | some b =>
      let ok := c.queue.filter (fun e => decide (e.at_ ≤ s.now))
      let pick := leastBy (fun e => e.ord) (if s.cctrl CAN_CTRL.TXPRI n then ok
        else ok.filter (fun e => ok.all (fun x => decide (busPrio e.msg ≤ busPrio x.msg))))
      match pick with
      | none => s
      | some e => s.ctlPut n { c with queue := c.queue.filter (fun x => x.ord != e.ord), bufs := setAt c.bufs b (some e), loaded := c.loaded ++ [b], loadAt := setAt c.loadAt b s.time.ticks }

/-- The buffer the controller offers at CLK_TS edge `at_`, among those loaded by then (R314); a frame an abort found on the bus keeps it. -/
def State.canOffer (s : State) (n at_ : Nat) : Option Nat :=
  let c := s.ctl n
  let l := c.loaded.filter (fun b => decide (c.loadAt.getD b 0 ≤ at_))
  match c.onBus with
  | some b => some b
  | none =>
    if s.cctrl CAN_CTRL.TXPRI n then l.head?
    else leastBy (fun b => match c.bufs.getD b none with | some e => busPrio e.msg | none => 2 ^ 40) (sortNat l)

/-- Empty a buffer. -/
def State.canFree (s : State) (n b : Nat) : State :=
  s.ctlMod n (fun c => { c with bufs := setAt c.bufs b none, loaded := c.loaded.filter (fun x => x != b), onBus := none })

/-- CAN_TX_DONE (R303, R314, R315): the attempt of the buffer offered ends: 0 sent, 1 arbitration lost, 2 an error of code
`kind`. Its start of frame came `age` CLK_TS edges ago. A frame whose abort found it on the bus is not retried. -/
def State.canTxDone (s : State) (n how kind age : Nat) : State :=
  if !s.canOn n || s.cctrl CAN_CTRL.LOM n then s
  else
    match s.canOffer n (s.time.ticks - age) with
    | none => s
    | some b =>
      match (s.ctl n).bufs.getD b none with
      | none => s
      | some e =>
        let drop (s : State) : State :=
          if (s.cctrl CAN_CTRL.DAR n || (s.ctl n).onBus == some b) && ((s.ctl n).bufs.getD b none).isSome then (s.canFree n b).finc (fldAt CAN_CNT.TX_DROP n) else s
        if how = 0 then
          let s1 := (s.canFree n b).fset (fldAt CAN_LAST_TX.STAMP n) (s.canTscAt age)
          ((s1.fset (fldAt CAN_STAT.TEC n) (s1.fget (fldAt CAN_STAT.TEC n) - 1)).canErrState n).send (.can n)
            (leBytes 4 (e.msg.id % 2 ^ 29 + 2 ^ 29 * b2n e.msg.ide) ++ leBytes 1 e.msg.dlc ++ leBytes 1 (b2n e.msg.fdf + 2 * b2n e.msg.brs) ++ e.msg.data)
        else if how = 1 then drop s
        else
          let s1 := s.fset (fldAt CAN_STAT.LEC n) kind
          -- an error-passive transmitter does not count a missing acknowledgement (PRESUMED ISO 11898-1)
          let s2 := if kind = 3 ∧ s.fget (fldAt CAN_STAT.STATE n) = 1 then drop s1 else (drop s1).tecErr n
          s2

/-- Abort one buffer: emptied, its entry dropped and counted, unless its frame is already on the bus, as only the one offered can be
(`Config.txStarted`, read at State.free); that frame completes (R315). -/
def State.abortBuf (s : State) (n b : Nat) : State :=
  let offered := s.canOn n && !s.cctrl CAN_CTRL.LOM n && s.canOffer n s.time.ticks == some b
  if ((s.ctl n).bufs.getD b none).isNone || (s.ctl n).onBus == some b then s
  else if offered && Config.txStarted s.free then (s.ctlMod n (fun c => { c with onBus := some b })).tick1
  else
    let s1 := (s.ctlMod n (fun c => { c with bufs := setAt c.bufs b none, loaded := c.loaded.filter (fun x => x != b) })).finc (fldAt CAN_CNT.TX_DROP n)
    if offered then s1.tick1 else s1

/-- TX_ABORT (R315): each named buffer. -/
def State.txAbort (s : State) (n mask : Nat) : State := (bitIdx 3 mask).foldl (fun s b => s.abortBuf n b) s

/-! ## UARTs (R317 to R321) -/

def uartOff : UartSt := ⟨none, false, 0, none, []⟩
def State.uart (s : State) (n : Nat) : UartSt := s.can.uart.getD n uartOff
def State.uartPut (s : State) (n : Nat) (u : UartSt) : State := { s with can := { s.can with uart := setAt s.can.uart n u } }

/-- Duration of a character in ns: start, 8 data, parity and stop bits of 16 × DIV cycles of 250 MHz (R317). -/
def State.charNs (s : State) (n : Nat) : Nat :=
  let bitsN := 10 + b2n (s.fget (fldAt CAN_UCFG.PARITY n) != 0) + s.fget (fldAt CAN_UCFG.STOP2 n)
  bitsN * 16 * s.fget (fldAt CAN_UCFG.DIV n) * 4

/-- The bindings of a UART key: UART, talker, formatter (R320, R405). -/
def State.bindUart (s : State) (n : Nat) (body : List Byte) : List (Nat × List Byte) :=
  s.bindOf 2 (fun k => byteAt k 0 == n && (k.drop 1).take 2 == fitBytes 2 (sentKey body).1
    && (k.drop 3).take 3 == fitBytes 3 (sentKey body).2)

/-- A sentence framed to its CR LF (R319, R320). -/
def State.uartSentence (s : State) (n : Nat) (bs : List Byte) (t0 : Nat) : State :=
  match sentBody bs with
  | none => s.finc (fldAt CAN_UCNT.BAD n)
  | some body =>
    match s.bindUart n body with
    | [] => s.finc (fldAt CAN_UCNT.UNBOUND n)
    | l => l.foldl (fun s b => s.sentDeliver b.2 body t0) s

/-- A character of SENTENCE use (R317, R319): tag blocks are removed, a sentence runs from its start to CR LF. -/
def State.uartChar (s : State) (n c start : Nat) : State :=
  let u := s.uart n
  match u.line with
  | none =>
    if u.tag then s.uartPut n { u with tag := c != 92 }
    else if c = 92 then s.uartPut n { u with tag := true }
    else if c = 36 ∨ c = 33 then s.uartPut n { u with line := some [BitVec.ofNat 8 c], t0 := start }
    else s
  | some l =>
    if c = 36 ∨ c = 33 then (s.uartPut n { u with line := some [BitVec.ofNat 8 c], t0 := start }).finc (fldAt CAN_UCNT.BAD n)
    else if 82 ≤ l.length then (s.uartPut n { u with line := none }).finc (fldAt CAN_UCNT.BAD n)
    else if c = 10 ∧ byteAt l (l.length - 1) = 13 then (s.uartPut n { u with line := none }).uartSentence n (l.take (l.length - 1)) u.t0
    else s.uartPut n { u with line := some (l ++ [BitVec.ofNat 8 c]) }

/-- UART_CHARACTER_RX (R318 to R321): `err` 0 none, 1 framing or parity, 2 FIFO full. -/
def State.uartRx (s : State) (n c err : Nat) : State :=
  let use := s.fget (fldAt CAN_UCFG.USE n)
  if use = 0 ∨ !s.clocked ∨ !bit s.sys.domOn 9 then s
  else
    let start := s.now - s.charNs n
    let s0 := s.uartPut n { s.uart n with last := some start }
    if err = 1 then (s0.uartPut n { s0.uart n with line := none }).finc (fldAt CAN_UCNT.FRAMING n)
    else if err = 2 then s0.finc (fldAt CAN_UCNT.OVERRUN n)
    else if use = 1 then s0.uartChar n c start
    else s0

/-- UART_BREAK (R318). -/
def State.uartBreak (s : State) (n : Nat) : State :=
  if s.fget (fldAt CAN_UCFG.USE n) = 0 then s else s.fup (fldAt CAN_USTAT.BREAK n)

/-- ACTIVE of CAN_USTATn: a start bit in the last second. -/
def State.uartActive (s : State) (n : Nat) : Bool :=
  match (s.uart n).last with | some t => decide (s.now ≤ t + 1000000000) | none => false

/-- UART_SEND queues bytes in order (R317); UART_TX_DONE sends the oldest. -/
def State.uartQueue (s : State) (n : Nat) (bs : List Byte) : State :=
  s.uartPut n { s.uart n with tx := (s.uart n).tx ++ [bs] }
def State.uartTxDone (s : State) (n : Nat) : State :=
  match (s.uart n).tx with
  | [] => s
  | b :: r => (s.uartPut n { s.uart n with tx := r }).send (.uart n) b

end Sys2Proof.Machine
end

