-- ==== Sys2Proof/Machine/Blocks.lean ====
section
/-!
DEFINITION. The block library of the cyclic logic (R355 to R358, R365): one instance evaluated on its inputs, parameters,
state and Δ.
-/

namespace Sys2Proof.Machine

/-- An instance at reset values. -/
def lReset : LState := ⟨0, 0, 0, 0, 0, []⟩

/-- What an evaluation yields: the state with its outputs, and the flags of R358. -/
structure BlkR where
  st : LState
  sat : Bool
  divz : Bool
  deriving DecidableEq, Repr

/-- A result saturated to INT32. -/
def sat32 (x : Int) : Int := satS 32 x
def over32 (x : Int) : Bool := satS 32 x != x

/-- Outputs from state unchanged. -/
def blkOut (st : LState) (outs : List Int) : BlkR := ⟨{ st with outs := outs }, false, false⟩
/-- One saturated output. -/
def blkSat (st : LState) (x : Int) : BlkR := ⟨{ st with outs := [sat32 x] }, over32 x, false⟩
/-- A truth value as a signal. -/
def bI (b : Bool) : Int := if b then 1 else 0

/-- Rounded division to nearest, ties away from zero, of a signed divisor. -/
def rdivI (n d : Int) : Int := if d < 0 then rndAway (-n) d.natAbs else rndAway n d.natAbs

/-- Elapsed ms saturate at 2^32 - 1 (R355). -/
def etAdd (et : Int) (dt : Nat) : Int := Int.ofNat (satU 32 (et.toNat + dt))

/-- Boolean and edge blocks. -/
def blkBool (ty : Nat) (ins : List Int) (st : LState) : BlkR :=
  let i (n : Nat) : Bool := ins.getD n 0 != 0
  let all := ins.map (fun x => x != 0)
  match ty with
  | 0x01 => blkOut st [bI (all.all id)]
  | 0x02 => blkOut st [bI (all.any id)]
  | 0x03 => blkOut st [bI ((all.filter id).length % 2 == 1)]
  | 0x04 => blkOut st [bI (!i 0)]
  | 0x05 => let q := bI (i 0 || (st.q != 0 && !i 1)); blkOut { st with q := q } [q]
  | 0x06 => let q := bI (!i 1 && (i 0 || st.q != 0)); blkOut { st with q := q } [q]
  | 0x08 => blkOut { st with m := bI (i 0) } [bI (i 0 && st.m == 0)]
  | _ => blkOut { st with m := bI (i 0) } [bI (st.m != 0 && !i 0)]

/-- Timers: PT is parameter 0. -/
def blkTimer (ty : Nat) (pt : Nat) (ins : List Int) (st : LState) (dt : Nat) : BlkR :=
  let i := ins.getD 0 0 != 0
  let st1 := { st with m := bI i }
  match ty with
  | 0x0C =>
    let et := if i then (if st.m != 0 then etAdd st.et dt else 0) else 0
    blkOut { st1 with et := et } [bI (i && decide (Int.ofNat pt ≤ et)), et]
  | 0x0D =>
    let et := if !i then (if st.m == 0 then etAdd st.et dt else 0) else 0
    blkOut { st1 with et := et } [bI (i || decide (et < Int.ofNat pt)), et]
  | _ =>
    let (q, et) := if i && st.m == 0 && st.q == 0 then (true, 0) else if st.q != 0 then (true, etAdd st.et dt) else (false, st.et)
    let q' := q && decide (et < Int.ofNat pt)
    blkOut { st1 with et := et, q := bI q' } [bI q', et]

/-- Counters: CTU (CU, R), CTD (CD, LD), CTUD (CU, CD, R, LD); PV is parameter 0. -/
def blkCount (ty : Nat) (pv : Int) (ins : List Int) (st : LState) : BlkR :=
  let i (n : Nat) : Bool := ins.getD n 0 != 0
  let up := i 0 && st.m == 0
  match ty with
  | 0x10 =>
    let cv := if i 1 then 0 else if up then st.y + 1 else st.y
    ⟨{ st with m := bI (i 0), y := sat32 cv, outs := [bI (decide (pv ≤ sat32 cv)), sat32 cv] }, over32 cv, false⟩
  | 0x11 =>
    let cv := if i 1 then pv else if up then st.y - 1 else st.y
    ⟨{ st with m := bI (i 0), y := sat32 cv, outs := [bI (decide (sat32 cv ≤ 0)), sat32 cv] }, over32 cv, false⟩
  | _ =>
    let dn := i 1 && st.m2 == 0
    let cv := if i 2 then 0 else if i 3 then pv else st.y + bI up - bI dn
    ⟨{ st with m := bI (i 0), m2 := bI (i 1), y := sat32 cv,
               outs := [bI (decide (pv ≤ sat32 cv)), bI (decide (sat32 cv ≤ 0)), sat32 cv] }, over32 cv, false⟩

/-- CONV (R357): parameter 0 is 0 for F32 to INT32 and 1 for INT32 to F32, parameter 1 is S. -/
def blkConv (par : List Int) (a : Int) (st : LState) : BlkR :=
  let sh := par.getD 1 0
  if par.getD 0 0 = 0 then
    match fv (BitVec.ofNat 32 (tc 32 a)) with
    | .nan => ⟨{ st with outs := [0] }, true, false⟩
    | .inf n => ⟨{ st with outs := [if n then -(2 ^ 31) else 2 ^ 31 - 1] }, true, false⟩
    | .fin n m e => blkSat st ((fToIntV rndEven (.fin n m (e + sh))).getD 0)
  else
    let f := fofDy a (-sh)
    let inf := f == 0x7F800000 || f == 0xFF800000
    let g : Flt := if f == 0x7F800000 then 0x7F7FFFFF else if f == 0xFF800000 then 0xFF7FFFFF else f
    ⟨{ st with outs := [sx 32 g.toNat] }, inf, false⟩

/-- Arithmetic and selection blocks. SCALE: its outer sat takes in the sum with O (DEDUCED, log 137). LAG: what a division by zero, or a
product beyond 64 bits, leaves is open (log 137). -/
def blkArith (ty : Nat) (par ins : List Int) (st : LState) (dt : Nat) : BlkR :=
  let a := ins.getD 0 0
  let b := ins.getD 1 0
  let p (n : Nat) : Int := par.getD n 0
  match ty with
  | 0x18 => blkSat st (a + b)
  | 0x19 => blkSat st (a - b)
  | 0x1A => blkSat st (a * b)
  | 0x1B =>
    if b = 0 then ⟨{ st with outs := [if a = 0 then 0 else if a < 0 then -(2 ^ 31 - 1) else 2 ^ 31 - 1] }, false, true⟩
    else blkSat st (a.tdiv b)
  | 0x1C => blkSat st (Int.ofNat a.natAbs)
  | 0x1D => blkOut st [min (max a (p 0)) (p 1)]
  | 0x1E => blkOut st [minI ins]
  | 0x1F => blkOut st [maxI ins]
  | 0x20 =>
    blkOut st [bI (match p 0 with
      | 0 => a == b | 1 => a != b | 2 => decide (a < b) | 3 => decide (a ≤ b) | 4 => decide (b < a) | _ => decide (b ≤ a))]
  | 0x21 =>
    let q := if p 0 ≤ a then 1 else if a ≤ p 1 then 0 else st.q
    blkOut { st with q := q } [q]
  | 0x22 => blkOut st [bI (decide (p 0 ≤ a) && decide (a ≤ p 1))]
  | 0x24 => blkOut st [if a != 0 then ins.getD 2 0 else b]
  | 0x25 => blkOut st [if 0 ≤ a ∧ a ≤ 7 then ins.getD (a.toNat + 1) 0 else 0]
  | 0x26 =>
    let y := if b != 0 && st.m == 0 then a else st.y
    blkOut { st with m := bI (b != 0), y := y } [y]
  | 0x28 =>
    let sh := (p 1).toNat % 32
    let x := a * p 0 + (if sh = 0 then 0 else 2 ^ (sh - 1))
    let r := asr (satS 64 x) sh + p 2
    ⟨{ st with outs := [sat32 r] }, satS 64 x != x || over32 r, false⟩
  | 0x29 => blkConv par a st
  | 0x2A => blkOut st [sx 32 ((ins.zipIdx.map (fun q => if q.1 != 0 then 2 ^ q.2 else 0)).sum)]
  | 0x2B => blkOut st ((upTo 32).map (fun i => bI (bit (tc 32 a) i)))
  | 0x2C =>
    let lim := rdivI (p 0 * Int.ofNat dt) 1000
    let l := sat32 lim
    let d := a - st.y
    let y := if d.natAbs ≤ l.natAbs then a else if d < 0 then st.y - Int.ofNat l.natAbs else st.y + Int.ofNat l.natAbs
    ⟨{ st with y := y, outs := [y] }, over32 lim, false⟩
  | 0x2D =>
    let n := (a - st.y) * Int.ofNat dt
    let t := p 0 + Int.ofNat dt
    let y := if t = 0 ∨ satS 64 n ≠ n then sx 32 (Config.lagOpen (a - st.y) dt (p 0)).toNat else st.y + rdivI n t
    ⟨{ st with y := sat32 y, outs := [sat32 y] }, over32 y, t == 0⟩
  | 0x30 => blkOut st [bI (decide (p 0 ≤ Int.ofNat (ins.filter (fun x => x != 0)).length))]
  | _ =>
    let c := ins.getD 2 0
    blkOut st [if a ≤ b then (if b ≤ c then b else if a ≤ c then c else a) else (if a ≤ c then a else if b ≤ c then c else b)]

/-- Is a block type one of R357? -/
def blkKnown (ty : Nat) : Bool :=
  [0x01, 0x02, 0x03, 0x04, 0x05, 0x06, 0x08, 0x09, 0x0C, 0x0D, 0x0E, 0x10, 0x11, 0x12, 0x18, 0x19, 0x1A, 0x1B, 0x1C, 0x1D,
   0x1E, 0x1F, 0x20, 0x21, 0x22, 0x24, 0x25, 0x26, 0x28, 0x29, 0x2A, 0x2B, 0x2C, 0x2D, 0x30, 0x31, 0x38, 0x39, 0x3A, 0x3B,
   0x3C].contains ty

/-- Seed the edge detectors with the input of this cycle (R356): the inputs each block detects edges on. -/
def blkSeed (ty : Nat) (ins : List Int) (st : LState) : LState :=
  let i (n : Nat) : Int := bI (ins.getD n 0 != 0)
  if ty = 0x26 then { st with m := i 1 }
  else if ty = 0x12 then { st with m := i 0, m2 := i 1 }
  else { st with m := i 0 }

/-- Evaluate a block of the library that has no access to points, contexts or buses. -/
def blkEval (ty : Nat) (par ins : List Int) (st : LState) (dt : Nat) (seed : Bool) : BlkR :=
  let st := if seed then blkSeed ty ins st else st
  if ty ≤ 0x09 then blkBool ty ins st
  else if ty ≤ 0x0E then blkTimer ty (tc 32 (par.getD 0 0)) ins st dt
  else if ty ≤ 0x12 then blkCount ty (par.getD 0 0) ins st
  else blkArith ty par ins st dt

end Sys2Proof.Machine
end

