-- ==== Sys2Proof/Machine/Encoder.lean ====
section
/-!
DEFINITION. Encoder model images (R67 to R75): header, input table, layer table, the checks of R74, and the integer
evaluation of R72. An image is its bytes; fields are read where they lie.
-/

namespace Sys2Proof.Machine

/-- N_LAYERS, N_INPUTS, K_MIN, K_MAX, KIND and MACS of an image (R68). -/
def encKind (b : List Byte) : Nat := byteAt b 6
def encLayers (b : List Byte) : Nat := byteAt b 7
def encInputs (b : List Byte) : Nat := byteAt b 8
def encKMin (b : List Byte) : Nat := byteAt b 9
def encKMax (b : List Byte) : Nat := byteAt b 10
def encMacs (b : List Byte) : Nat := uAt 4 b 16
def encSize (b : List Byte) : Nat := uAt 4 b 12

/-- A layer table entry (R70). -/
structure EncLayer where
  type : Nat
  inA : Nat
  inB : Nat
  out : Nat
  inLen : Nat
  outLen : Nat
  kernel : Nat
  stride : Nat
  cIn : Nat
  cOut : Nat
  wOfs : Nat
  bOfs : Nat
  mult : Nat
  shift : Nat
  lo : Int
  hi : Int
  ph : Nat
  pw : Nat
  zero : Nat
  deriving DecidableEq, Repr

/-- Layer `l` of an image. -/
def encLayer (b : List Byte) (l : Nat) : EncLayer :=
  let e := b.drop (64 + 4 * encInputs b + 32 * l)
  ⟨byteAt e 0, byteAt e 1, byteAt e 2, byteAt e 3, uAt 2 e 4, uAt 2 e 6, byteAt e 8, byteAt e 9, byteAt e 10,
   byteAt e 11, uAt 4 e 12, uAt 4 e 16, uAt 2 e 20, byteAt e 22, sAt 2 e 24, sAt 2 e 26, uAt 2 e 28, uAt 2 e 30, byteAt e 23⟩

/-- The layers of an image, in order. -/
def encLayersOf (b : List Byte) : List EncLayer := (upTo (encLayers b)).map (encLayer b)

/-! ## Evaluation (R69, R71, R72) -/

/-- An input shifted by its table entry: right with rounding half towards plus infinity, left with saturation. -/
def encInput (s : Int) (x : Int) : Int :=
  if s > 0 then asr (satS 16 x + 2 ^ (s.toNat - 1)) s.toNat else satS 16 (satS 16 x * 2 ^ (-s).toNat)

/-- acc := sat32(acc + w * x), in ascending weight index; the flag says whether a saturation occurred. -/
def encDot (acc : Int × Bool) : List (Int × Int) → Int × Bool
  | [] => acc
  | (w, x) :: r =>
    let t := acc.1 + w * x
    encDot (satS 32 t, acc.2 || satS 32 t != t) r

/-- Requantisation of an accumulator (R72). -/
def encQuant (l : EncLayer) (a : Int × Bool) : Int × Bool :=
  let t := a.1 * Int.ofNat l.mult
  let t := if l.shift > 0 then asr (t + 2 ^ (l.shift - 1)) l.shift else t
  (satS 16 t, a.2 || satS 16 t != t)

/-- Signed bytes of the weight area. -/
def encW (wa : List Byte) (o n : Nat) : List Int := ((wa.drop o).take n).map (fun b => sx 8 b.toNat)

/-- Bias `o` of a layer. -/
def encBias (wa : List Byte) (l : EncLayer) (o : Nat) : Int := sAt 4 wa (l.bOfs + 4 * o)

/-- Input positions of a CONV1D layer. -/
def convPos (l : EncLayer) : Nat := if l.cIn = 0 then 0 else l.inLen / l.cIn
/-- Output positions of a CONV1D layer. -/
def convOut (l : EncLayer) : Nat := if l.stride = 0 then 0 else (convPos l - l.kernel) / l.stride + 1

/-- The outputs of one layer, each with its saturation flag. -/
def encLayerOut (wa : List Byte) (l : EncLayer) (a b : List Int) : List (Int × Bool) :=
  let x := a.take l.inLen
  match l.type with
  | 1 => (upTo l.outLen).map (fun o =>
      encQuant l (encDot (encBias wa l o, false) ((encW wa (l.wOfs + o * l.inLen) l.inLen).zip x)))
  | 2 => (upTo (convOut l)).flatMap (fun p => (upTo l.cOut).map (fun o =>
      encQuant l (encDot (encBias wa l o, false)
        ((encW wa (l.wOfs + o * l.kernel * l.cIn) (l.kernel * l.cIn)).zip (x.drop (p * l.stride * l.cIn))))))
  | 3 => x.map (fun v => (if v < 0 then 0 else v, false))
  | 4 => x.map (fun v => (clampI l.lo l.hi v, false))
  | 6 => ((x ++ b).take l.outLen).map (fun v => (v, false))
  | _ => x.map (fun v => (v, false))

/-- Run the layers; the buffers, then whether anything saturated; the terminal layer's elements are the result. -/
def encRun (wa : List Byte) : List EncLayer → List (List Int) → Bool → List Int × Bool
  | [], _, f => ([], f)
  | l :: ls, bufs, f =>
    let out := encLayerOut wa l (bufs.getD l.inA []) (bufs.getD l.inB [])
    let f' := f || out.any (·.2)
    if l.type = 5 then (out.map (·.1), f') else encRun wa ls (bufs.set l.out (out.map (·.1))) f'

/-- A patch as an encoder emits it: rows and columns, elements row-major, the quality scalar (R73). -/
structure EncOut where
  h : Nat
  w : Nat
  vals : List Int
  q : Nat
  sat : Bool
  deriving DecidableEq, Repr

/-- Evaluate an image on the features `feat` gives by code (R69 to R73). -/
def encEval (b : List Byte) (feat : Nat → Int) : EncOut :=
  let inp := (upTo (encInputs b)).map (fun n =>
    encInput (sx 8 (byteAt b (64 + 4 * n + 1))) (feat (byteAt b (64 + 4 * n))))
  let insat := (upTo (encInputs b)).any (fun n =>
    let x := feat (byteAt b (64 + 4 * n))
    let s := sx 8 (byteAt b (64 + 4 * n + 1))
    satS 16 x != x || (decide (s < 0) && satS 16 (satS 16 x * 2 ^ (-s).toNat) != satS 16 x * 2 ^ (-s).toNat))
  let ls := encLayersOf b
  let wa := (b.drop (uAt 4 b 20)).take (uAt 4 b 24)
  let (out, sat) := encRun wa ls (inp :: List.replicate 7 []) insat
  let last := ls.getLast?
  let h := match last with | some l => l.ph | none => 0
  let w := match last with | some l => l.pw | none => 0
  ⟨h, w, out.take (h * w), (clampI 0 32767 (out.getD (h * w) 0)).toNat, sat⟩

/-! ## Load checks (R67 to R71, R74) -/

/-- One layer against R70, R71 and R74: `written` the buffers written so far with their lengths. -/
def encLayerOk (waLen actMax : Nat) (l : EncLayer) (written : List (Nat × Nat)) (terminal : Bool) : Bool :=
  let has (i n : Nat) : Bool := written.any (fun w => w.1 == i && decide (n ≤ w.2))
  let wOk (n o : Nat) : Bool := decide (l.wOfs + n ≤ waLen) && decide (l.bOfs + 4 * o ≤ waLen)
  let noConv := l.kernel == 0 && l.stride == 0 && l.cIn == 0 && l.cOut == 0
  let noW := l.wOfs == 0 && l.bOfs == 0 && l.mult == 0 && l.shift == 0
  let noClamp := l.lo == 0 && l.hi == 0
  let noPatch := l.ph == 0 && l.pw == 0
  decide (l.inA ≤ 7) && has l.inA l.inLen && decide (l.inLen ≤ actMax) && decide (l.outLen ≤ actMax)
  && (terminal == (l.type == 5))
  && (if l.type == 5 then l.out == 0 && l.outLen == 0 else decide (1 ≤ l.out) && decide (l.out ≤ 7))
  && (l.type == 6 || l.inB == 255) && l.zero == 0
  && (match l.type with
    | 1 => wOk (l.inLen * l.outLen) l.outLen && decide (l.shift ≤ 31) && noConv && noClamp && noPatch
    | 2 => decide (1 ≤ l.kernel) && decide (l.kernel ≤ 15) && decide (1 ≤ l.stride) && decide (l.stride ≤ 4)
        && decide (1 ≤ l.cIn) && decide (1 ≤ l.cOut) && l.inLen == convPos l * l.cIn && decide (l.kernel ≤ convPos l)
        && l.outLen == convOut l * l.cOut && wOk (l.kernel * l.cIn * l.cOut) l.cOut && decide (l.shift ≤ 31)
        && noClamp && noPatch
    | 3 => l.outLen == l.inLen && noConv && noW && noClamp && noPatch
    | 4 => l.outLen == l.inLen && noConv && noW && noPatch
    | 5 => l.inLen == l.ph * l.pw + 1 && decide (1 ≤ l.ph) && decide (l.ph ≤ 32) && decide (1 ≤ l.pw)
        && decide (l.pw ≤ 32) && noConv && noW && noClamp
    | 6 => decide (l.inB ≤ 7) && decide (l.inLen ≤ l.outLen) && has l.inB (l.outLen - l.inLen) && noConv && noW
        && noClamp && noPatch
    | _ => false)

/-- The CRC of an encoder image (R68). -/
def encCrcOk (b : List Byte) : Bool :=
  crc32c (b.take 60 ++ (b.take (encSize b)).drop 64) == uAt 4 b 60

end Sys2Proof.Machine
end

