-- ==== Sys2Proof/Machine/Fixed.lean ====
section
/-!
DEFINITION. The fixed-point arithmetic of the control engines (R12, R13, R98 to R101): the A40 accumulator, the two-pass
product, narrowing, and rotations. A written value comes with the saturation groups it sets (R101), as a mask.
-/

namespace Sys2Proof.Machine

/-- An A40 accumulator and whether it saturated. -/
structure A40 where
  v : Int
  sat : Bool
  deriving DecidableEq, Repr

/-- An accumulator holding an F32 (the LSB is the same). -/
def a40 (i : Int) : A40 := ⟨satS 40 i, satS 40 i != i⟩

/-- acc := sat40(acc + i). -/
def A40.add (a : A40) (i : Int) : A40 := ⟨satS 40 (a.v + i), a.sat || satS 40 (a.v + i) != a.v + i⟩

/-- The two passes of the F16 × F32 product (R99). -/
def pass1 (c x : Int) : Int := 2 * c * asr x 16
/-- The second pass: the unsigned lower half, rounded half towards plus infinity. -/
def pass2 (c x : Int) : Int := asr (c * (x % 65536) + 2 ^ 14) 15

/-- acc + c * x for F16 `c` and F32 `x` (R99). -/
def A40.mac (a : A40) (c x : Int) : A40 := (a.add (pass1 c x)).add (pass2 c x)
/-- acc - c * x for F16 `c` and F32 `x`. DESIGN CHOICE (log 258): the rounded pass 2 of c * x is subtracted. -/
def A40.msub (a : A40) (c x : Int) : A40 := (a.add (- pass1 c x)).add (- pass2 c x)
/-- acc + c * x for two F16 values. -/
def A40.mac16 (a : A40) (c x : Int) : A40 := a.add (2 * c * x)
/-- acc - c * x for two F16 values. -/
def A40.msub16 (a : A40) (c x : Int) : A40 := a.add (-(2 * c * x))

/-- A written value and the saturation groups it set. -/
abbrev SatV := Int × Nat

/-- The flag of a group (R101). -/
def satBit (g : Nat) (b : Bool) : Nat := if b then 2 ^ g else 0

/-- Narrow the accumulator to F32 in group `g`. -/
def A40.f32 (a : A40) (g : Nat) : SatV :=
  (satS 32 a.v, satBit g (satS 32 a.v != a.v) ||| satBit 12 a.sat)
/-- Narrow the accumulator to F16 in group `g` (R13). -/
def A40.f16 (a : A40) (g : Nat) : SatV :=
  let r := asr (a.v + 2 ^ 15) 16
  (satS 16 r, satBit g (satS 16 r != r) ||| satBit 12 a.sat)

/-- Saturate an exact value to F32 in group `g`. -/
def toF32 (g : Nat) (i : Int) : SatV := (satS 32 i, satBit g (satS 32 i != i))

/-- Saturate an exact value to a 64-bit position in group `g`. -/
def toS64 (g : Nat) (i : Int) : SatV := (satS 64 i, satBit g (satS 64 i != i))

/-- Groups of R101. -/
def gObsPos : Nat := 0
def gObsVel : Nat := 1
def gObsBias : Nat := 2
def gObsWave : Nat := 3
def gLawP : Nat := 4
def gLawI : Nat := 5
def gLawD : Nat := 6
def gLawFf : Nat := 7
def gDemand : Nat := 8
def gSched : Nat := 9
def gProf : Nat := 10
def gTrack : Nat := 11
def gAcc : Nat := 12

/-- rot(psi): body to NED, horizontal part, on F32 values. -/
def rotF (g psi : Nat) (x y : Int) : SatV × SatV :=
  (((a40 0).mac (cosF16 psi) x |>.msub (sinF16 psi) y).f32 g,
   ((a40 0).mac (sinF16 psi) x |>.mac (cosF16 psi) y).f32 g)

/-- rot_t(psi): NED to body, horizontal part, on F32 values. -/
def rotTF (g psi : Nat) (n e : Int) : SatV × SatV :=
  (((a40 0).mac (cosF16 psi) n |>.mac (sinF16 psi) e).f32 g,
   ((a40 0).msub (sinF16 psi) n |>.mac (cosF16 psi) e).f32 g)

/-- A position difference in 2^-32 mm as an F32 of full scale 2^posExp mm (R98). -/
def posToF32 (g posExp : Nat) (d : Int) : SatV :=
  let r := asr (d + 2 ^ posExp) (posExp + 1)
  toF32 g r

/-- An F32 position increment in 2^-32 mm (R98). -/
def incOfF32 (posExp : Nat) (i : Int) : Int := i * 2 ^ (posExp + 1)

/-- The F16 at byte offset `o` of a body. -/
def f16At (b : List Byte) (o : Nat) : Int := sAt 2 b o

/-- A row of a 3 × 3 F16 matrix times an F32 vector, added to an accumulator. -/
def A40.row (a : A40) (m : List Int) (x : List Int) : A40 :=
  (m.zip x).foldl (fun a p => a.mac p.1 p.2) a
/-- A row subtracted. -/
def A40.rowSub (a : A40) (m : List Int) (x : List Int) : A40 :=
  (m.zip x).foldl (fun a p => a.msub p.1 p.2) a

/-- Row `i` of a 3 × 3 F16 matrix at offset `o`. -/
def matRow (b : List Byte) (o i : Nat) : List Int := (upTo 3).map (fun j => f16At b (o + 6 * i + 2 * j))

end Sys2Proof.Machine
end

