-- ==== Sys2Proof/Machine/Observer.lean ====
section
/-!
DEFINITION. The observer (R102 to R106): correction with the fix, commit, propagation, covariance; and the wind force
(R110). Everything is computed from the objects in force, the values of the stream contexts and the control checkpoint.
-/

namespace Sys2Proof.Machine

/-- POS_EXP (R98). -/
def State.posExp (s : State) : Nat := s.fget CEX_CFG.POS_EXP

/-- The observer object's body; an absent object has every coefficient 0. -/
def State.obsBody (s : State) : List Byte := (s.obj 0x0B 0).getD []

/-- Value components of a context at the last boundary. -/
def State.ctxVal (s : State) (n : Nat) : Option (List Int) := (s.ctxOf n).value.map (·.x)

/-- The format of a context's newest sample. -/
def State.ctxFmt (s : State) (n : Nat) : VFmt :=
  match (s.ctxOf n).buf.getLast? with | some y => y.fmt | none => .int32


/-- A component as binary32. -/
def asFlt (f : VFmt) (x : Int) : Flt :=
  if f == .f32 then BitVec.ofNat 32 (tc 32 x) else fofInt x

/-- Narrow a binary32 to `w` bits with 2^k LSB per unit, with the saturation flag of group `g`. -/
def fixSat (g w : Nat) (k : Int) (a : Flt) : SatV :=
  let r := fToFix w k a
  (r, satBit g (fToFix (w + 400) k a != r))

/-- A component as an F32 of group `g`: the signed formats as they are, binary32 narrowed under R13. -/
def asF32 (g : Nat) (f : VFmt) (x : Int) : SatV :=
  if f == .f32 then fixSat g 32 31 (BitVec.ofNat 32 (tc 32 x)) else toF32 g x

/-- Component `i` of a context named in the vessel object, as an F32 of a velocity quantity (R104). -/
def State.vesselF32 (s : State) (o i : Nat) : Option SatV :=
  match s.vesselCtx o with
  | some n => (s.ctxVal n).map (fun x => asF32 gObsVel (s.ctxFmt n) (x.getD i 0))
  | none => none

/-- Set saturation flags on the engine that executed the operation (R101). -/
def State.satFlags (s : State) (eng mask : Nat) : State :=
  s.fset (fldAt CEX_SAT.SAT eng) (s.fget (fldAt CEX_SAT.SAT eng) ||| mask)

/-! ## Wind (R110) -/

/-- C_j(γ): the F16 table of 37 entries at 10° steps, interpolated linearly (R110). DESIGN CHOICE (log 257): the interpolated
value is rounded half up to an F16 integer. -/
def windCoef (b : List Byte) (j g : Nat) : Int :=
  let p := (g % 2 ^ 32) * 36
  let i := p / 2 ^ 32
  let f := p % 2 ^ 32
  let c (k : Nat) : Int := f16At b (36 + 74 * j + 2 * k)
  c i + asr ((c (i + 1) - c i) * Int.ofNat f + 2 ^ 31) 32

/-- The wind value used in the frame whose boundary instant is `f`: the context's value, else the last no older than
10 s: the speed as the bits of its binary32, the direction. -/
def State.windVal (s : State) (f : Nat) : Option (List Int × Nat) :=
  let now := match s.vesselCtx 25 with
    | some n => (s.ctxVal n).map (fun x => ([Int.ofNat (asFlt (s.ctxFmt n) (x.getD 0 0)).toNat, x.getD 1 0], f))
    | none => none
  match now with
  | some x => some x
  | none =>
    match s.cex.wind with
    | some (x, t) => if f ≤ t + 10000000000 then some (x, t) else none
    | none => none

/-- τ_wind of the three degrees for a wind value (speed, direction), with flags. -/
def State.windForce (s : State) (w : Option (List Int × Nat)) : List Int × Nat :=
  match w, s.vesselCtx 25 with
  | some (x, _), some _ =>
    let b := s.vessel
    let q := fdiv (BitVec.ofNat 32 (tc 32 (x.getD 0 0))) (fltAt b 32)
    let q2 := fmul q q
    let fs := (upTo 3).map (fun j => fixSat gLawFf 32 31 (fmul (fofDy (windCoef b j (tc 32 (x.getD 1 0))) (-15)) q2))
    (fs.map (·.1), fs.foldl (fun a p => a ||| p.2) 0)
  | _, _ => ([0, 0, 0], 0)

/-! ## Correction (R103) -/

/-- The innovation of the fix against a prediction; 0 where the record has no fix (R103, R104). -/
def innov (posExp : Nat) (x : ObsX) (fix : FixRec) : List Int × Nat :=
  let pos (f : Int) (eta xi : Int) : SatV :=
    posToF32 gObsPos posExp (f * 2 ^ 32 - (eta + incOfF32 posExp xi))
  let yn := if bit fix.flags 0 then pos fix.north x.etaN (x.xi.getD 0 0) else (0, 0)
  let ye := if bit fix.flags 0 then pos fix.east x.etaE (x.xi.getD 2 0) else (0, 0)
  let yp := if bit fix.flags 1 then b32diff fix.heading (tc 32 (Int.ofNat x.etaP + x.xi.getD 4 0)) else 0
  ([yn.1, ye.1, yp], yn.2 ||| ye.2)

/-- x(k): the prediction corrected with the fix (R103). -/
def obsCorrect (b : List Byte) (posExp : Nat) (x : ObsX) (fix : FixRec) : ObsX × Nat :=
  let (y, f0) := innov posExp x fix
  let k (i j : Nat) : Int := f16At b (10 * i + 2 * j)
  let yi (i : Nat) : Int := y.getD i 0
  let xi := (upTo 6).map (fun m =>
    ((a40 (x.xi.getD m 0)).mac (k (m / 2) (m % 2)) (yi (m / 2))).f32 gObsWave)
  let d := (upTo 3).map (fun i => ((a40 0).mac (k i 2) (yi i)).f32 gObsPos)
  let di (i : Nat) : Int := (d.getD i (0, 0)).1
  let bb := (upTo 3).map (fun i => ((a40 (x.b.getD i 0)).mac (k i 3) (yi i)).f32 gObsBias)
  let etaP := tc 32 (Int.ofNat x.etaP + di 2)
  let (bx, by_) := rotTF gObsVel etaP (yi 0) (yi 1)
  let yb := [bx.1, by_.1, yi 2]
  let nu (i : Nat) (v : Int) : SatV := ((a40 v).row (matRow b 54 i) yb).f32 gObsVel
  let (u, v, r) := (nu 0 x.u, nu 1 x.v, nu 2 x.r)
  let en := toS64 gObsPos (x.etaN + incOfF32 posExp (di 0))
  let ee := toS64 gObsPos (x.etaE + incOfF32 posExp (di 1))
  let fl := [xi, d, bb, [bx, by_, u, v, r, en, ee]].flatten.foldl (fun a p => a ||| p.2) f0
  ({ etaN := en.1, etaE := ee.1,
     etaP := etaP, u := u.1, v := v.1, r := r.1, b := bb.map (·.1), xi := xi.map (·.1) }, fl)

/-! ## Propagation (R103, R104) -/

/-- x-(k+1) from x(k): `acc` the measured accelerations used in place of the model for u and v, `yaw` the measured yaw
rate, which r takes before the heading propagation in place of the model (R104). -/
def obsPropagate (b : List Byte) (posExp : Nat) (x : ObsX) (acc : Option (SatV × SatV)) (yaw : Option SatV)
    (tauApp tauWind : List Int) : ObsX × Nat :=
  let r0 := (yaw.getD (x.r, 0)).1
  let (n, e) := rotF gObsPos x.etaP x.u x.v
  let inc (v : Int) : SatV := ((a40 0).mac (f16At b 108) v).f32 gObsPos
  let (dn, de) := (inc n.1, inc e.1)
  let dp := ((a40 0).mac (f16At b 110) r0).f32 gObsPos
  let xi := (upTo 6).map (fun m =>
    let i := m / 2
    let p := 30 + 8 * i + 4 * (m % 2)
    ((a40 (x.xi.getD m 0)).mac (f16At b p) (x.xi.getD (2 * i) 0)
      |>.mac (f16At b (p + 2)) (x.xi.getD (2 * i + 1) 0)).f32 gObsWave)
  let bb := (upTo 3).map (fun i =>
    ((a40 (x.b.getD i 0)).msub (f16At b (10 * i + 8)) (x.b.getD i 0)).f32 gObsBias)
  let bi (i : Nat) : Int := (bb.getD i (0, 0)).1
  let (fx, fy) := rotTF gObsVel x.etaP (bi 0) (bi 1)
  let sum (j : Nat) (v : Int) : SatV := toF32 gObsVel (v + tauApp.getD j 0 + tauWind.getD j 0)
  let f := [sum 0 fx.1, sum 1 fy.1, sum 2 (bi 2)]
  let nu := [x.u, x.v, r0]
  let model (i : Nat) (v : Int) : SatV :=
    (((a40 v).rowSub (matRow b 72 i) nu).row (matRow b 90 i) (f.map (·.1))).f32 gObsVel
  let uv : SatV × SatV := match acc with
    | some (au, av) => (((a40 x.u).mac (f16At b 112) au.1).f32 gObsVel, ((a40 x.v).mac (f16At b 112) av.1).f32 gObsVel)
    | none => (model 0 x.u, model 1 x.v)
  let r : SatV := match yaw with | some _ => (r0, 0) | none => model 2 r0
  let en := toS64 gObsPos (x.etaN + incOfF32 posExp dn.1)
  let ee := toS64 gObsPos (x.etaE + incOfF32 posExp de.1)
  let meas : List SatV := (match acc with | some (au, av) => [au, av] | none => []) ++ yaw.toList
  let fl := [[n, e, dn, de, dp, fx, fy], xi, bb, f, [uv.1, uv.2, r, en, ee], meas].flatten.foldl (fun a p => a ||| p.2) 0
  ({ etaN := en.1, etaE := ee.1,
     etaP := tc 32 (Int.ofNat x.etaP + dp.1), u := uv.1.1, v := uv.2.1, r := r.1, b := bb.map (·.1),
     xi := xi.map (·.1) }, fl)

/-- The accelerations of R104: both contexts formed a value and the frame has no position fix. -/
def State.accMeas (s : State) (fix : FixRec) : Option (SatV × SatV) :=
  if bit fix.flags 0 then none
  else match s.vesselF32 27 0, s.vesselF32 28 0 with
    | some a, some b => some (a, b)
    | _, _ => none

/-- The yaw rate of R104 when the frame has no heading fix. -/
def State.yawMeas (s : State) (fix : FixRec) : Option SatV :=
  if bit fix.flags 1 then none else s.vesselF32 29 0

/-- The covariances for the next frame (R105); `ndr` counts the frames without fix up to and including this one. -/
def obsCov (b : List Byte) (p : ObsP) (ndr : Nat) (fix : FixRec) : ObsP :=
  let pos := bit fix.flags 0
  let q := fadd (fltAt b 116) (fmul (fmul (fofNat 2) (fofNat ndr)) (fltAt b 120))
  let hc := if bit fix.flags 1 then fix.varHdg else p.ph
  { nn := fadd (if pos then fix.varNN else p.nn) q, ne := if pos then fix.covNE else p.ne,
    ee := fadd (if pos then fix.varEE else p.ee) q, ph := fadd hc (fltAt b 124) }

/-- Propagate the observer from `x` with the values of this frame: the new prediction, and the flags set. -/
def State.obsNext (s : State) (x : ObsX) (fix : FixRec) (tauApp tauWind : List Int) : ObsX × Nat :=
  obsPropagate s.obsBody s.posExp x (s.accMeas fix) (s.yawMeas fix) tauApp tauWind

end Sys2Proof.Machine
end

