-- ==== Sys2Proof/Machine/Fusion.lean ====
section
/-!
DEFINITION. Reference alignment and grid fusion (R55 to R92): alignment, encoding, the grids, modes and conflict, the
fix and its record, refinement.
-/

namespace Sys2Proof.Machine

/-! ## Alignment (R57 to R61) -/

/-- A 3 × 3 binary32 matrix, row-major. -/
abbrev M3 := List Flt

/-- Entry (i, j). -/
def m3 (m : M3) (i j : Nat) : Flt := m.getD (3 * i + j) 0
/-- A product, each entry summed in order. -/
def m3mul (a b : M3) : M3 :=
  (upTo 9).map (fun n =>
    let i := n / 3
    let j := n % 3
    fadd (fadd (fmul (m3 a i 0) (m3 b 0 j)) (fmul (m3 a i 1) (m3 b 1 j))) (fmul (m3 a i 2) (m3 b 2 j)))
/-- A matrix times a vector. -/
def m3vec (a : M3) (v : List Flt) : List Flt :=
  (upTo 3).map (fun i =>
    fadd (fadd (fmul (m3 a i 0) (v.getD 0 0)) (fmul (m3 a i 1) (v.getD 1 0))) (fmul (m3 a i 2) (v.getD 2 0)))

/-- R(ψ, θ, φ) = Rz · Ry · Rx (R57). -/
def rot3 (psi theta phi : Nat) : M3 :=
  let (sz, cz, sy, cy, sx, cx) := (sinB psi, cosB psi, sinB theta, cosB theta, sinB phi, cosB phi)
  let o : Flt := fofNat 1
  let rz := [cz, fneg sz, 0, sz, cz, 0, 0, 0, o]
  let ry := [cy, 0, sy, 0, o, 0, fneg sy, 0, cy]
  let rx := [o, 0, 0, 0, cx, fneg sx, 0, sx, cx]
  m3mul (m3mul rz ry) rx

/-- Binary32 of a list of integers. -/
def fvec (l : List Int) : List Flt := l.map fofInt

/-- Round to L32 millimetres, ties away from zero. -/
def toMm (a : Flt) : Int := fSatInt rndAway 32 a

/-- Attitude used by alignment: heading, pitch, roll (R58). -/
structure Att where
  psi : Nat
  theta : Nat
  phi : Nat
  uncomp : Bool
  deriving DecidableEq, Repr

/-- Is a kind a heading kind (R55). -/
def headingKind (k : Nat) : Bool := k == 5 || k == 6

/-- All value components of a reference's contexts in order; none unless every context is LOCKED with a value. -/
def State.refVals (s : State) (c : RefCfg) : Option (List (VFmt × Int)) :=
  if c.ctxs.all (fun n => (s.ctxOf n).q == .locked && (s.ctxOf n).value.isSome) then
    some (c.ctxs.flatMap (fun n => ((s.ctxVal n).getD []).map (fun x => (s.ctxFmt n, x))))
  else none

/-- The sensor-frame vector v of a relative kind (R60), mm. -/
def sensorVec (kind : Nat) (x : List (VFmt × Int)) : List Flt :=
  let v (i : Nat) : Flt := match x[i]? with | some (f, a) => asFlt f a | none => 0
  let b (i : Nat) : Nat := match x[i]? with | some (_, a) => tc 32 a | none => 0
  match kind with
  | 1 => [v 0, v 1, 0]
  | 2 => [v 0, v 1, v 2]
  | _ => [fmul (v 0) (cosB (b 1)), fmul (v 0) (sinB (b 1)), 0]

/-- Range of a reference in cm for the feature RANGE (R69). -/
def rangeCm (kind : Nat) (x : List (VFmt × Int)) : Int :=
  let v := sensorVec kind x
  if kind = 3 ∨ kind = 4 then
    match x with | (f, a) :: _ => fSatInt rndUp 32 (fdiv (asFlt f a) (fofNat 10)) | [] => 0
  else if kind = 2 then
    let sq := fadd (fadd (fmul (v.getD 0 0) (v.getD 0 0)) (fmul (v.getD 1 0) (v.getD 1 0))) (fmul (v.getD 2 0) (v.getD 2 0))
    fSatInt rndUp 32 (fdiv (fsqrt sq) (fofNat 10))
  else 0

/-- An aligned measurement: position L32 or heading B32 (in `n`), and what refinement needs of it. -/
structure Aligned where
  n : Int
  e : Int
  far : Bool
  free : List Int          -- R · L + R · Rm · v, mm: what an anchor set at admission adds to the fix (R60)
  rot : M3
  rv : List Flt            -- v
  deriving DecidableEq, Repr

/-- Lever arm and mounting angles in force for a reference (R61, R64). -/
def refLever (c : RefCfg) (r : RefSt) : List Int := List.zipWith (· + ·) c.lever r.lever
def refMount (c : RefCfg) (r : RefSt) : List Nat :=
  List.zipWith (fun a b => tc 32 (Int.ofNat a + b)) c.mount r.mount

/-- The anchor in force: surveyed, or set at admission. -/
def refAnchor (c : RefCfg) (r : RefSt) : Option (List Int) := if c.atAdmission then r.anchor else some c.anchor

/-- Alignment of a position reference (R59 to R61); an anchor still to be set counts as the origin, and the caller does
not use the position. -/
def State.alignPos (s : State) (c : RefCfg) (r : RefSt) (att : Att) (x : List (VFmt × Int)) : Aligned :=
  let rot := rot3 att.psi att.theta att.phi
  let l := m3vec rot (fvec (refLever c r))
  let v := sensorVec c.kind x
  if c.kind = 0 then
    let d (i o : Nat) : Flt := fofInt ((match x[i]? with | some (_, a) => a | none => 0) - sAt 8 s.vessel o)
    let n := fmul (fltAt s.vessel 16) (d 0 0)
    let e := fmul (fltAt s.vessel 20) (d 1 8)
    let lim := fofNat 10000000
    ⟨toMm (fsub n (l.getD 0 0)), toMm (fsub e (l.getD 1 0)), flt lim (fabs n) || flt lim (fabs e), [0, 0, 0], rot, v⟩
  else
    let m := refMount c r
    let w := m3vec (m3mul rot (rot3 (m.getD 0 0) (m.getD 1 0) (m.getD 2 0))) v
    let a := fvec ((refAnchor c r).getD [0, 0, 0])
    let p (i : Nat) : Flt := fsub (fsub (a.getD i 0) (w.getD i 0)) (l.getD i 0)
    ⟨toMm (p 0), toMm (p 1), false, (upTo 3).map (fun i => toMm (fadd (l.getD i 0) (w.getD i 0))), rot, v⟩

/-- Alignment of a heading reference (R61). -/
def alignHdg (c : RefCfg) (r : RefSt) (x : List (VFmt × Int)) : Nat :=
  let h := match x with | (_, a) :: _ => a | [] => 0
  tc 32 (h - Int.ofNat ((refMount c r).getD 0 0))

/-! ## Patches and grids -/

/-- One cell of a placed patch: cell number, element value, weight e_r (R80). -/
structure PCell where
  cell : Nat
  v : Int
  e : Nat
  deriving DecidableEq, Repr

/-- A placed patch. -/
structure Patch where
  ref : Nat
  q : Nat
  total : Nat              -- E_r
  cells : List PCell       -- on the grid, rising cell number
  peak : Option Nat        -- the on-grid cell of the largest element
  deriving DecidableEq, Repr

/-- Insert a cell in order. -/
def pcIns (x : PCell) : List PCell → List PCell
  | [] => [x]
  | y :: ys => if x.cell ≤ y.cell then x :: y :: ys else y :: pcIns x ys

/-- Place an encoder's output: `at` gives the cell of element (a, b), none off the grid (R73). -/
def placePatch (ref : Nat) (o : EncOut) (pos : Nat → Nat → Option Nat) : Patch :=
  let vmax := maxI o.vals
  let w (v : Int) : Nat := exptOf (vmax - v).toNat
  let els := (upTo o.vals.length).map (fun n => (pos (n / max o.w 1) (n % max o.w 1), o.vals.getD n 0))
  let cells := els.filterMap (fun p => p.1.map (fun c => (⟨c, p.2, w p.2⟩ : PCell)))
  let peak := (els.filterMap (fun p => p.1.map (fun c => (c, p.2)))).foldl
    (fun (b : Option (Nat × Int)) p => match b with
      | none => some p
      | some (c, v) => if p.2 > v ∨ (p.2 = v ∧ p.1 < c) then some p else b) none
  ⟨ref, o.q, sumN (o.vals.map w), cells.foldr pcIns [], peak.map (·.1)⟩

/-- round_half_up(patch × q / 2^15) LL (R73). -/
def patchLL (v : Int) (q : Nat) : Int := asr (v * Int.ofNat q + 2 ^ 14) 15

/-- w_r of a cell (R80). -/
def patchSup (p : Patch) (c : PCell) : Nat := if p.total = 0 then 0 else 2 * p.q * c.e / p.total

/-- Add two sparse rows of rising keys; `n` bounds the walk. -/
def mergeAdd {α : Type} (add : α → α → α) : Nat → List (Nat × α) → List (Nat × α) → List (Nat × α)
  | 0, a, b => a ++ b
  | _, [], b => b
  | _, a, [] => a
  | n + 1, (k, x) :: a, (l, y) :: b =>
    if k = l then (k, add x y) :: mergeAdd add n a b
    else if k < l then (k, x) :: mergeAdd add n a ((l, y) :: b)
    else (l, y) :: mergeAdd add n ((k, x) :: a) b

/-- Sum of sparse rows. -/
def mergeAll {α : Type} (add : α → α → α) (l : List (List (Nat × α))) : List (Nat × α) :=
  l.foldl (fun a b => mergeAdd add (a.length + b.length) a b) []

/-- A sparse value. -/
def sparseAt : List (Nat × Nat) → Nat → Nat
  | [], _ => 0
  | (k, v) :: r, n => if k = n then v else if n < k then 0 else sparseAt r n

/-- The support grid S (R80). -/
def supportGrid (ps : List Patch) : List (Nat × Nat) :=
  mergeAll (fun a b => satU 32 (a + b)) (ps.map (fun p => p.cells.map (fun c => (c.cell, patchSup p c))))

/-- What a grid's rules need (R65, R81, R86). -/
structure Grid where
  nbr : Nat → List Nat         -- neighbours of a cell
  win : Nat → List Nat         -- cells of the mode window
  edge : Nat → Bool            -- on the edge, where no mode lies
  outside : Nat → Nat → Bool   -- cell outside the gate of a cell

/-- The modes of a support grid, best first: (cell, mass) (R81). -/
def modesOf (g : Grid) (s : List (Nat × Nat)) : List (Nat × Nat) :=
  let cand := s.filter (fun c => decide (0 < c.2) && !g.edge c.1 &&
    (g.nbr c.1).all (fun n => let x := sparseAt s n; decide (x ≤ c.2) && (decide (c.1 < n) || decide (x < c.2))))
  let ms := cand.map (fun c => (c.1, sumN ((g.win c.1).map (sparseAt s))))
  ms.foldl (fun l m =>
    let rec ins : List (Nat × Nat) → List (Nat × Nat)
      | [] => [m]
      | y :: ys => if y.2 < m.2 then m :: y :: ys else y :: ins ys
    ins l) []

/-- The side a reference takes in a conflict (R82): 1, 2 or 0 neutral. DESIGN CHOICE (log 230): the floor is taken of each cell's
term, not of the sum. -/
def sideOf (supMin : Nat) (p : Patch) (w1 w2 : List Nat) : Nat :=
  let share (w : List Nat) : Nat :=
    sumN ((p.cells.filter (fun c => w.contains c.cell)).map (fun c => if p.total = 0 then 0 else c.e * 65536 / p.total))
  let (a1, a2) := (share w1, share w2)
  if a1 ≥ supMin * 256 ∧ a1 ≥ 4 * a2 then 1
  else if a2 ≥ supMin * 256 ∧ a2 ≥ 4 * a1 then 2 else 0

/-- The judgement of a grid (R82): modes, whether in conflict, whether tied, and each reference's side. -/
structure Judge where
  modes : List (Nat × Nat)
  m2 : Option (Nat × Nat)
  conflict : Bool
  tied : Bool
  winner : Nat
  sides : List (Nat × Nat)     -- (reference, side)

/-- Judge the patches of u (R82). -/
def judgeGrid (g : Grid) (ratio supMin : Nat) (ps : List Patch) : Judge :=
  let ms := modesOf g (supportGrid ps)
  match ms with
  | [] => ⟨[], none, false, false, 0, []⟩
  | m1 :: _ =>
    let m2 := ms.find? (fun m => g.outside m.1 m1.1)
    match m2 with
    | none => ⟨ms, none, false, false, 0, []⟩
    | some m =>
      if m.2 * 256 > m1.2 * ratio then
        let (w1, w2) := (g.win m1.1, g.win m.1)
        let sides := ps.map (fun p => (p.ref, sideOf supMin p w1 w2))
        let n1 := (sides.filter (fun x => x.2 == 1)).length
        let n2 := (sides.filter (fun x => x.2 == 2)).length
        ⟨ms, m2, true, n1 == n2, if n1 > n2 then 1 else 2, sides⟩
      else ⟨ms, m2, false, false, 0, []⟩

/-! ## The position grid -/

/-- Cell edge in half millimetres (R65). -/
def cellH (k : Nat) : Nat := 25 * 2 ^ k
/-- The grid centre for a predicted coordinate in 2^-32 mm, in cells (R65). -/
def centreOf (k : Nat) (eta : Int) : Int := rndUp eta (cellH k * 2 ^ 31)
/-- A cell's coordinate in half millimetres: index `i`, centre `m` cells. -/
def cellPos (k : Nat) (m : Int) (i : Int) : Int := (m + i - 64) * Int.ofNat (cellH k)
/-- The index of the cell that contains a coordinate in mm. DESIGN CHOICE (log 254): a coordinate on the border of two cells lies in
the upper one. -/
def cellIdx (k : Nat) (m p : Int) : Int :=
  (2 * (2 * p - m * Int.ofNat (cellH k)) + Int.ofNat (cellH k)).fdiv (Int.ofNat (2 * cellH k)) + 64
/-- A half-millimetre coordinate as whole mm (R87). DESIGN CHOICE (log 229): at K = 0 a centre may lie on a half millimetre, which
is rounded away from zero. -/
def halfToMm (h : Int) : Int := rndAway h 2

/-- A symmetric 2 × 2 binary32 matrix. -/
structure S2 where
  nn : Flt
  ne : Flt
  ee : Flt
  deriving DecidableEq, Repr

/-- Its inverse. -/
def s2inv (m : S2) : S2 :=
  let det := fsub (fmul m.nn m.ee) (fmul m.ne m.ne)
  ⟨fdiv m.ee det, fneg (fdiv m.ne det), fdiv m.nn det⟩
/-- dᵀ M d. -/
def s2quad (m : S2) (a b : Flt) : Flt :=
  fadd (fmul a (fadd (fmul m.nn a) (fmul m.ne b))) (fmul b (fadd (fmul m.ne a) (fmul m.ee b)))
/-- The larger principal standard deviation. -/
def s2sigma (m : S2) : Flt :=
  let h := fofRat 1 2
  let a := fmul (fadd m.nn m.ee) h
  let d := fmul (fsub m.nn m.ee) h
  fsqrt (fadd a (fsqrt (fadd (fmul d d) (fmul m.ne m.ne))))

/-- Half millimetres as binary32 mm. -/
def hmm (h : Int) : Flt := fofDy h (-1)

/-- Does a displacement in mm lie outside the gate (R81)? `gate` in Q4.4. -/
def posOutside (gate : Nat) (sinv : S2) (x y : Flt) : Bool := flt (fofDy (Int.ofNat (gate * gate)) (-8)) (s2quad sinv x y)

/-- The position grid for a K and Σg (R65, R81). -/
def posGrid (k win gate : Nat) (sinv : S2) : Grid :=
  { nbr := fun c => [c - 129, c - 128, c - 127, c - 1, c + 1, c + 127, c + 128, c + 129]
    win := fun c =>
      let (i, j) := (c / 128, c % 128)
      let h := win / 2
      (upTo win).flatMap (fun a => (upTo win).filterMap (fun b =>
        if i + a < h ∨ j + b < h ∨ i + a - h > 127 ∨ j + b - h > 127 then none else some ((i + a - h) * 128 + (j + b - h))))
    edge := fun c => c / 128 == 0 || c / 128 == 127 || c % 128 == 0 || c % 128 == 127
    outside := fun c d =>
      let e := Int.ofNat (cellH k)
      posOutside gate sinv (hmm ((Int.ofNat (c / 128) - Int.ofNat (d / 128)) * e))
        (hmm ((Int.ofNat (c % 128) - Int.ofNat (d % 128)) * e)) }

/-- The prior of every cell (R77). -/
def posPrior (k : Nat) (mN mE etaN etaE : Int) (sinv : S2) : List Int :=
  let off (m eta : Int) (i : Nat) : Flt := fofDy (cellPos k m (Int.ofNat i) * 2 ^ 31 - eta) (-32)
  let es := (upTo 128).map (off mE etaE)
  (upTo 128).flatMap (fun i =>
    let dn := off mN etaN i
    es.map (fun de => fSatInt rndEven 32 (fmul (fmul (fneg (fofRat 1 2)) (s2quad sinv dn de)) (fofNat 256))))

/-- Add a patch to a dense grid, with INT32 saturation (R77). -/
def addPatch (q : Nat) : Nat → List Int → List PCell → List Int
  | _, [], _ => []
  | _, l, [] => l
  | i, x :: xs, c :: cs =>
    if c.cell = i then satS 32 (x + patchLL c.v q) :: addPatch q (i + 1) xs cs
    else x :: addPatch q (i + 1) xs (c :: cs)

/-- The largest element and its first index. -/
def peakOf (l : List Int) : Nat × Int :=
  let r := l.foldl (fun (a : Nat × Nat × Option Int) x =>
    match a with
    | (i, b, none) => (i + 1, b, some x)
    | (i, b, some v) => if x > v then (i + 1, i, some x) else (i + 1, b, some v)) (0, 0, none)
  (r.2.1, r.2.2.getD 0)

/-- A fix: coordinates, covariance, flat peak. -/
structure PosFix where
  n : Int
  e : Int
  cov : S2
  flat : Bool

/-- The refined peak (R78, R79); none on the edge. -/
def posPeak (k : Nat) (mN mE : Int) (sg : S2) (post : List Int) : Option PosFix :=
  let (c, v) := peakOf post
  let (i, j) := (c / 128, c % 128)
  if i = 0 ∨ i = 127 ∨ j = 0 ∨ j = 127 then none
  else
    let l (a b : Int) : Flt := fofInt (post.getD (Int.ofNat c + 128 * a + b).toNat 0)
    let two := fofNat 2
    let gn := fdiv (fsub (l 1 0) (l (-1) 0)) two
    let ge := fdiv (fsub (l 0 1) (l 0 (-1))) two
    let cc := fofInt v
    let hnn := fadd (fsub (l 1 0) (fmul two cc)) (l (-1) 0)
    let hee := fadd (fsub (l 0 1) (fmul two cc)) (l 0 (-1))
    let hne := fdiv (fadd (fsub (fsub (l 1 1) (l 1 (-1))) (l (-1) 1)) (l (-1) (-1))) (fofNat 4)
    let det := fsub (fmul hnn hee) (fmul hne hne)
    let ch := hmm (Int.ofNat (cellH k))
    if flt hnn 0 && fpos det then
      let inv := s2inv ⟨hnn, hne, hee⟩
      let half := fofRat 1 2
      let dN := fclamp (fneg (fadd (fmul inv.nn gn) (fmul inv.ne ge))) (fneg half) half
      let dE := fclamp (fneg (fadd (fmul inv.ne gn) (fmul inv.ee ge))) (fneg half) half
      let fix (m : Int) (i : Nat) (d : Flt) : Int :=
        toMm (fadd (hmm (cellPos k m (Int.ofNat i))) (fmul d ch))
      let sc (x : Flt) : Flt := fmul (fmul (fneg (fofNat 256)) (fmul ch ch)) x
      some ⟨fix mN i dN, fix mE j dE, ⟨sc inv.nn, sc inv.ne, sc inv.ee⟩, false⟩
    else
      some ⟨halfToMm (cellPos k mN (Int.ofNat i)), halfToMm (cellPos k mE (Int.ofNat j)), sg, true⟩

/-! ## The heading grid (R86) -/

/-- Radians of a B32 difference. -/
def b32rad (d : Int) : Flt := fmul (fofInt d) (fofRat 6283185307179586477 (10 ^ 18 * 2 ^ 32))

/-- Does a heading difference lie outside the gate of variance `v` (R86)? -/
def hdgOutside (gate : Nat) (v : Flt) (d : Int) : Bool :=
  flt (fofDy (Int.ofNat (gate * gate)) (-8)) (fdiv (fmul (b32rad d) (b32rad d)) v)

/-- The heading grid with gate variance `v`. -/
def hdgGrid (win gate : Nat) (v : Flt) : Grid :=
  { nbr := fun c => [(c + 4095) % 4096, (c + 1) % 4096]
    win := fun c => (upTo win).map (fun a => (c + 4096 + a - win / 2) % 4096)
    edge := fun _ => false
    outside := fun c d => hdgOutside gate v (b32diff (c * 2 ^ 20) (d * 2 ^ 20)) }

/-- The prior of every bin. -/
def hdgPrior (pred : Nat) (v : Flt) : List Int :=
  (upTo 4096).map (fun b =>
    let x := b32rad (b32diff (b * 2 ^ 20) pred)
    fSatInt rndEven 32 (fmul (fmul (fneg (fofRat 1 2)) (fdiv (fmul x x) v)) (fofNat 256)))

/-- The refined heading peak: heading, variance, flat. -/
def hdgPeak (v : Flt) (post : List Int) : Nat × Flt × Bool :=
  let (c, x) := peakOf post
  let l (a : Nat) : Flt := fofInt (post.getD ((c + a) % 4096) 0)
  let g := fdiv (fsub (l 1) (l 4095)) (fofNat 2)
  let h := fadd (fsub (l 1) (fmul (fofNat 2) (fofInt x))) (l 4095)
  if flt h 0 then
    let half := fofRat 1 2
    let d := fclamp (fneg (fdiv g h)) (fneg half) half
    let w := b32rad (2 ^ 20)
    (tc 32 (Int.ofNat (c * 2 ^ 20) + fSatInt rndAway 64 (fmul d (fofNat (2 ^ 20)))),
     fdiv (fmul (fneg (fofNat 256)) (fmul w w)) h, false)
  else (c * 2 ^ 20, v, true)

/-! ## One frame -/

/-- The coding of R56. -/
def refCode : RefState → Nat
  | .off => 0 | .noValue => 1 | .imageFault => 2 | .kUnsupported => 3 | .offgrid => 4 | .qzero => 5
  | .rejected => 6 | .disagree => 7 | .contrib => 8

/-- What encoding one reference yields: the reason it has no patch, or the patch; and the flags it sets. -/
structure RefRun where
  ref : Nat
  cfg : RefCfg
  reason : Option RefState
  patch : Option Patch
  al : Option Aligned
  hdg : Nat
  sat : Bool
  offgrid : Bool

/-- Everything a frame's features take from the prediction (R69). -/
structure FeatCtx where
  k : Nat
  att : Att
  pred : ObsX
  sigma : Flt
  mN : Int
  mE : Int

/-- Yaw rate in 2^-16 rad/s (R69). -/
def State.yawRateFeat (s : State) (r : Int) : Int :=
  fSatInt rndUp 32 (fmul (fofDy r (-15 - Int.ofNat (s.fget CEX_CFG.RATE_EXP))) (fofRat 3141592653589793238 (10 ^ 18)))

/-- Speed over ground in mm/s from body velocities (R69, R126). -/
def State.sogFlt (s : State) (u v : Int) : Flt :=
  let sc (x : Int) : Flt := fofDy x (Int.ofNat (s.fget CEX_CFG.VEL_EXP) - 31)
  fsqrt (fadd (fmul (sc u) (sc u)) (fmul (sc v) (sc v)))

/-- The feature of a code for a reference (R69). DESIGN CHOICE (log 231): SRCQ0 to SRCQ7 of a reference with several contexts are
the quality words of the first. DESIGN CHOICE (log 52): a feature is rounded to an integer half up. -/
def State.feature (s : State) (f : FeatCtx) (c : RefCfg) (x : List (VFmt × Int)) (al : Option Aligned) (hdg : Nat)
    (code : Nat) : Int :=
  let vals := c.ctxs.filterMap (fun n => (s.ctxOf n).value)
  let q := match vals with | v :: _ => v.q | [] => []
  let h := cellH f.k
  let d (m p : Int) : Int := rndUp ((2 * p - cellPos f.k m (cellIdx f.k m p)) * 256) h
  if code = 0 then (match al with | some a => d f.mN a.n | none => 0)
  else if code = 1 then (match al with | some a => d f.mE a.e | none => 0)
  else if code = 2 then asr (b32diff hdg f.pred.etaP) 16
  else if code = 3 then Int.ofNat f.k
  else if code ≤ 0x0B then Int.ofNat (q.getD (code - 4) 0)
  else if code = 0x0C then Int.ofNat (maxN (c.ctxs.map (fun n => (s.ctxOf n).unc)) / 1000)
  else if code = 0x0D then (s.fNow - maxI (vals.map (·.newest))).fdiv 100000
  else if code = 0x0E then Int.ofNat (b2n (vals.any (·.extrap)))
  else if code = 0x0F then asr (sx 32 f.att.phi) 16
  else if code = 0x10 then asr (sx 32 f.att.theta) 16
  else if code = 0x11 then s.yawRateFeat f.pred.r
  else if code = 0x12 then fSatInt rndUp 32 (s.sogFlt f.pred.u f.pred.v)
  else if code = 0x13 then fSatInt rndUp 32 (fmul (fdiv f.sigma (hmm (Int.ofNat h))) (fofNat 256))
  else if code = 0x14 then rangeCm c.kind x
  else 0

/-- Encode a reference for this frame (R56, R73). -/
def State.runRef (s : State) (f : FeatCtx) (r : Nat) (c : RefCfg) (st : RefSt) : RefRun :=
  let no (w : RefState) : RefRun := ⟨r, c, some w, none, none, 0, false, false⟩
  match s.refVals c with
  | none => no .noValue
  | some x =>
    let hd := headingKind c.kind
    match s.img 1 c.enc with
    | none => no .imageFault
    | some img =>
      if s.fus.imgBad.contains c.enc && !s.fus.imgNew.contains c.enc then no .imageFault
      else if !hd && (decide (f.k < encKMin img) || decide (encKMax img < f.k)) then no .kUnsupported
      else
        let hdg := if hd then alignHdg c st x else 0
        let al := if hd then none else some (s.alignPos c st f.att x)
        if !hd && c.kind != 0 && (refAnchor c st).isNone then { no .noValue with al := al }
        else
          let o := encEval img (s.feature f c x al hdg)
          let pos (a b : Nat) : Option Nat :=
            if hd then
              some (tc 12 (Int.ofNat ((hdg + 2 ^ 19) / 2 ^ 20) + Int.ofNat a + Int.ofNat b - Int.ofNat (o.h / 2)
                - Int.ofNat (o.w / 2)))
            else match al with
              | some p =>
                let i := cellIdx f.k f.mN p.n + Int.ofNat a - Int.ofNat (o.h / 2)
                let j := cellIdx f.k f.mE p.e + Int.ofNat b - Int.ofNat (o.w / 2)
                if i < 0 ∨ i > 127 ∨ j < 0 ∨ j > 127 then none else some (i.toNat * 128 + j.toNat)
              | none => none
          let p := placePatch r o pos
          if p.cells.isEmpty then ⟨r, c, some .offgrid, none, al, hdg, o.sat, true⟩
          else if o.q = 0 then ⟨r, c, some .qzero, none, al, hdg, o.sat, false⟩
          else ⟨r, c, none, some p, al, hdg, o.sat, false⟩

/-- An empty reference slot. -/
def refOff : RefSt :=
  ⟨.off, false, 0, 0, none, [0, 0, 0], [0, 0, 0], [0, 0, 0], [0, 0, 0], ⟨[], false, false⟩, false⟩

/-- Reference `r` of the fusion state. -/
def refOf (f : FusSt) (r : Nat) : RefSt := f.refs.getD r refOff
/-- Write reference `r`. -/
def refPut (f : FusSt) (r : Nat) (x : RefSt) : FusSt := { f with refs := f.refs.set r x }

/-- Apply the judgement to the references of u (R82): the new states, and the events in order. -/
def applyJudge (j : Judge) (persist : Nat) (u : List Patch) (f : FusSt) : FusSt × List (Nat × Nat) :=
  if j.modes.isEmpty || j.tied then (f, [])
  else u.foldl (fun (a : FusSt × List (Nat × Nat)) p =>
    let r := refOf a.1 p.ref
    let side := match j.sides.find? (fun x => x.1 == p.ref) with | some x => x.2 | none => 0
    if j.conflict && side != 0 && side != j.winner then
      let n := incSat 8 r.disCnt
      if n ≥ persist then
        (refPut a.1 p.ref { r with state := .rejected, rej := true, disCnt := n, agreeCnt := 0 },
         a.2 ++ [(2, p.ref)])
      else
        (refPut a.1 p.ref { r with state := .disagree, disCnt := n },
         if r.state == .disagree then a.2 else a.2 ++ [(1, p.ref)])
    else if !j.conflict || side == j.winner then (refPut a.1 p.ref { r with state := .contrib, disCnt := 0 }, a.2)
    else a) (f, [])

/-- Judge the re-admission of the REJECTED references of a grid against a fix (R83): `inside` tells whether a patch's
peak cell lies inside the gate of the fix. -/
def judgeRej (readmitN : Nat) (auto : Bool) (ps : List Patch) (inside : Nat → Bool) (f : FusSt) : FusSt × List Nat :=
  ps.foldl (fun (a : FusSt × List Nat) p =>
    let r := refOf a.1 p.ref
    match p.peak with
    | none => a
    | some c =>
      let n := if inside c then incSat 8 r.agreeCnt else 0
      let now := decide (n ≥ readmitN) && auto
      (refPut a.1 p.ref { r with agreeCnt := n, readmit := r.readmit || now }, if now then a.2 ++ [p.ref] else a.2))
    (f, [])

/-- K for this frame (R66): the K, the count of frames in which it could fall. -/
def chooseK (kMin kMax k cnt : Nat) (sigma : Flt) : Nat × Nat :=
  let k0 := if k < kMin then kMin else if k > kMax then kMax else k
  let e8 (k : Nat) : Flt := hmm (Int.ofNat (8 * cellH k))
  let fits (k : Nat) : Bool := fle sigma (e8 k)
  let k1 := if fits k0 then k0
    else match ((upTo 6).filter (fun x => decide (k0 < x) && decide (x ≤ kMax) && fits x)) with
      | x :: _ => x
      | [] => kMax
  if k1 ≠ k0 then (k1, 0)
  else if k1 > kMin && fle sigma (hmm (Int.ofNat (4 * cellH (k1 - 1)))) then
    if cnt + 1 ≥ 50 then (k1 - 1, 0) else (k1, cnt + 1)
  else (k1, 0)

/-- The gate covariance Σg (R77). -/
def gateCov (p : ObsP) (floor : Nat) : S2 :=
  let f2 := fmul (fofNat floor) (fofNat floor)
  ⟨fadd p.nn f2, p.ne, fadd p.ee f2⟩

/-- The gate variance of heading (R86). -/
def gateVar (ph : Flt) (hfloor : Nat) : Flt :=
  let h := fmul (fofNat hfloor) (fofRat 3141592653589793238 (10 ^ 18 * 180000))
  fadd ph (fmul h h)

/-- The record as bytes (R87). DESIGN CHOICE (log 232): a MODE2_RATIO of 65,536, two modes of equal mass, does not fit its two
bytes, which hold 0. -/
def fixBytes (pNs : Nat) (r : FixRec) : List Byte :=
  leBytes 8 (r.frame * pNs) ++ leBytes 4 r.frame ++ leBytes 4 (tc 32 r.north) ++ leBytes 4 (tc 32 r.east)
  ++ leBytes 4 r.heading ++ leBytes 4 r.varNN.toNat ++ leBytes 4 r.covNE.toNat ++ leBytes 4 r.varEE.toNat
  ++ leBytes 4 r.varHdg.toNat ++ leBytes 4 r.age ++ leBytes 2 r.contrib ++ leBytes 2 r.disagree
  ++ leBytes 2 r.rejected ++ leBytes 2 r.flags ++ leBytes 1 r.k ++ leBytes 1 (min r.nModes 255)
  ++ leBytes 2 r.ratio ++ leBytes 4 (tc 32 r.cN) ++ leBytes 4 (tc 32 r.cE)

/-- The references enabled in the configuration. -/
def State.refList (s : State) : List (Nat × RefCfg) :=
  (upTo 16).filterMap (fun r => (s.refCfg r).map (fun c => (r, c)))

/-- Roll and pitch for alignment at `f` (R58). -/
def State.tilt (s : State) (f : Nat) : Option (Nat × Nat × Nat) :=
  let now := match s.vesselCtx 24 with
    | some n => (s.ctxVal n).map (fun x => (tc 32 (x.getD 0 0), tc 32 (x.getD 1 0), f))
    | none => none
  match now with
  | some x => some x
  | none => match s.fus.mru with
    | some (a, b, t) => if f ≤ t + 1000000000 then some (a, b, t) else none
    | none => none

/-- Set a bit of a mask from a predicate over the references. -/
def refMask (f : FusSt) (p : RefSt → Bool) : Nat :=
  (upTo 16).foldl (fun m r => if p (refOf f r) then m ||| 2 ^ r else m) 0

/-- The derivative of Rm by mounting angle `j`, 0 yaw, 1 pitch, 2 roll: that factor's sines and cosines differentiated (R62). -/
def rotD (j psi theta phi : Nat) : M3 :=
  let f (i a : Nat) : Flt × Flt := if i = j then (cosB a, fneg (sinB a)) else (sinB a, cosB a)
  let (sz, cz) := f 0 psi
  let (sy, cy) := f 1 theta
  let (sx, cx) := f 2 phi
  let o (i : Nat) : Flt := if i = j then 0 else fofNat 1
  m3mul (m3mul [cz, fneg sz, 0, sz, cz, 0, 0, 0, o 0] [cy, 0, sy, 0, o 1, 0, fneg sy, 0, cy])
    [o 2, 0, 0, 0, cx, fneg sx, 0, sx, cx]

/-- The angle column of J for mounting angle `j`: −R · ∂Rm/∂angle · v, in mm per 0.01° (R62; the order of its products is the
model's, log 49). -/
def jacAngle (a : Aligned) (mount : List Nat) (j : Nat) : List Flt :=
  (m3vec (m3mul a.rot (rotD j (mount.getD 0 0) (mount.getD 1 0) (mount.getD 2 0))) a.rv).map
    (fun x => fneg (fmul x (fofRat 3141592653589793238 (10 ^ 18 * 18000))))

/-- One row of refinement data (R62): the residual fix minus aligned, then J by component and parameter. -/
def refineRow (c : RefCfg) (a : Aligned) (fn fe : Int) (mount : List Nat) : List Flt :=
  let lev (i j : Nat) : Flt := fneg (m3 a.rot i j)
  let cols := (upTo 3).map (jacAngle a mount)
  let ang (i j : Nat) : Flt := if c.kind = 0 then 0 else (cols.getD j []).getD i 0
  [fofInt (fn - a.n), fofInt (fe - a.e)]
    ++ (upTo 2).flatMap (fun i => (upTo 3).map (lev i) ++ (upTo 3).map (ang i))

/-- Publish the fusion state in the FUS_ registers (R93). -/
def State.fusShow (s : State) (f : FusSt) : State :=
  let s1 := (((s.fput FUS_STATUS.POSITION_UNCERTAIN f.posUnc).fput FUS_STATUS.REF_CONFLICT f.refConf).fput
    FUS_STATUS.HDG_CONFLICT f.hdgConf).fset FUS_STATUS.K f.k
  let s2 := (s1.fset FUS_REFMAP.CONTRIB (refMask f (fun r => r.state == .contrib))).fset FUS_REFMAP.DISAGREE
    (refMask f (fun r => r.state == .disagree))
  let s3 := (s2.fset FUS_REJECT.REJECTED (refMask f (·.rej))).fset FUS_REJECT.FROZEN (refMask f (·.acc.frozen))
  let s4 := s3.fset FUS_DRTIME.DRT (satU 32 f.drMs)
  (upTo 16).foldl (fun s r =>
    let x := refOf f r
    let b := FUS_REF_STAT.STATE
    (((s.fset (fldAt b r) (refCode x.state)).fset (fldAt FUS_REF_STAT.DIS_CNT r) x.disCnt).fset
      (fldAt FUS_REF_STAT.AGREE_CNT r) x.agreeCnt).fset (fldAt FUS_REF_STAT.IMAGE r)
      (match s.refCfg r with | some c => c.enc | none => 0)) s4

/-- The larger principal σ of Pp has reached DR_SIGMA (R85). -/
def drSigma (p : ObsP) (lim : Nat) : Bool := fle (fofNat lim) (s2sigma ⟨p.nn, p.ne, p.ee⟩)

/-- DR time, POSITION_UNCERTAIN, REF_CONFLICT and HDG_CONFLICT after a frame (R84 to R86). -/
def fusAlarms (f : FusSt) (pMs drLimit : Nat) (sig pos hdg tie htie : Bool) : FusSt :=
  let dr := if pos then 0 else f.drMs + pMs
  let run := if pos then f.fixRun + 1 else 0
  let hrun := if hdg then f.hfixRun + 1 else 0
  let unc := if decide (dr ≥ drLimit * 1000) || sig then true else if run ≥ 10 then false else f.posUnc
  { f with drMs := dr, fixRun := run, hfixRun := hrun, posUnc := unc,
           refConf := tie || (f.refConf && decide (run < 10)), hdgConf := htie || (f.hdgConf && decide (hrun < 10)) }

/-- Raise or clear an alarm to match a level. -/
def State.alarmLevel (s : State) (src low idx : Nat) (b : Bool) : State :=
  if b then s.alarm src low idx 0 else s.clearAlarm src low idx

/-- What the fusion of one frame yields: the registers' new state, the record, and what is shown of it. -/
structure FusFrame where
  fus : FusSt
  fix : FixRec
  /-- No position fix (R88). -/
  noPos : Bool
  /-- No heading fix (R88). -/
  noHdg : Bool
  /-- The bits of FUS_STATUS that the frame sets, in the order they are set. -/
  ups : List (Bool × Fld)
  /-- A conflict of modes on one of the grids (R82). -/
  conflict : Bool
  /-- Changes of a reference to be reported, with the reference: 2 an alarm, any other an event (R82). -/
  evs : List (Nat × Nat)
  deriving DecidableEq, Repr

/-- The fusion of the frame in progress (R56 to R89): heading, position, record, re-admission, anchors and refinement, from
the state alone. A retrodiction pass (`retro`) uses the K of the frame's checkpoint (R91). -/
def State.fuseFrame (s : State) (retro : Bool) : FusFrame :=
  let f0 := s.fus
  let pred := s.cex.obs.pred
  let pp := s.cex.obs.p
  let sg := gateCov pp (s.fget FUS_GATE.FLOOR)
  let sigma := s2sigma sg
  let (k, low) := if retro then (f0.k, f0.kLow)
    else chooseK (s.fget FUS_CFG.K_MIN) (s.fget FUS_CFG.K_MAX) f0.k f0.kLow sigma
  let (mN, mE) := (centreOf k pred.etaN, centreOf k pred.etaE)
  let tilt := s.tilt s.fNow
  let (roll, pitch) := match tilt with | some (a, b, _) => (a, b) | none => (0, 0)
  let refs := s.refList
  let gv := gateVar pp.ph (s.fget FUS_SUPPORT.HFLOOR)
  let (win, ratio, supMin) := (s.fget FUS_CFG.MODE_WIN, s.fget FUS_CFG.MODE_RATIO, s.fget FUS_SUPPORT.SUPPORT_MIN)
  let isRej (r : Nat) : Bool := (refOf f0 r).rej
  -- heading first (R58)
  let fc0 : FeatCtx := ⟨k, ⟨pred.etaP, pitch, roll, tilt.isNone⟩, pred, sigma, mN, mE⟩
  let hruns := (refs.filter (fun r => headingKind r.2.kind)).map (fun r => s.runRef fc0 r.1 r.2 (refOf f0 r.1))
  let hu := (hruns.filter (fun r => !isRej r.ref)).filterMap (·.patch)
  let hg := hdgGrid win (s.fget FUS_GATE.GATE_HDG) gv
  let hj := judgeGrid hg ratio supMin hu
  let persist := s.fget FUS_PERSIST.DIS_PERSIST
  let show0 (runs : List RefRun) (f : FusSt) : FusSt := runs.foldl (fun f r =>
    let x := refOf f r.ref
    match r.reason with
    | some w => refPut f r.ref { x with state := w }
    | none => if x.rej then refPut f r.ref { x with state := .rejected } else f) f
  let (f1, ev1) := applyJudge hj persist hu (show0 hruns f0)
  let hfix := if hj.modes.isEmpty || hj.tied then none
    else
      let used := hu.filter (fun p => (refOf f1 p.ref).state == .contrib)
      some (hdgPeak gv (used.foldl (fun g p => addPatch p.q 0 g p.cells) (hdgPrior pred.etaP gv)))
  let psi := match hfix with | some h => h.1 | none => pred.etaP
  -- position
  let fc : FeatCtx := { fc0 with att := ⟨psi, pitch, roll, tilt.isNone⟩ }
  let pruns := (refs.filter (fun r => !headingKind r.2.kind)).map (fun r => s.runRef fc r.1 r.2 (refOf f0 r.1))
  let pu := (pruns.filter (fun r => !isRej r.ref)).filterMap (·.patch)
  let sinv := s2inv sg
  let pg := posGrid k win (s.fget FUS_GATE.GATE) sinv
  let pj := judgeGrid pg ratio supMin pu
  let (f2, ev2) := applyJudge pj persist pu (show0 pruns f1)
  let noFix := pj.modes.isEmpty || pj.tied
  let peak := if noFix then none
    else
      let used := pu.filter (fun p => (refOf f2 p.ref).state == .contrib)
      posPeak k mN mE sg (used.foldl (fun g p => addPatch p.q 0 g p.cells) (posPrior k mN mE pred.etaN pred.etaE sinv))
  let edge := !noFix && peak.isNone
  -- record (R87 to R89)
  let (fn, fe, cov) := match peak with
    | some p => (p.n, p.e, p.cov)
    | none => (satS 32 (asr (pred.etaN + 2 ^ 31) 32), satS 32 (asr (pred.etaE + 2 ^ 31) 32), ⟨pp.nn, pp.ne, pp.ee⟩)
  let (hh, hv) := match hfix with | some (a, b, _) => (a, b) | none => (pred.etaP, pp.ph)
  let flat := (match peak with | some p => p.flat | none => false) || (match hfix with | some h => h.2.2 | none => false)
  let cs := refs.filter (fun r => (refOf f2 r.1).state == .contrib)
  let olds := cs.flatMap (fun r => r.2.ctxs.filterMap (fun n => ((s.ctxOf n).value).map (·.oldest)))
  let age := if olds.isEmpty then 0 else satU 32 (Int.ofNat s.fNow - minI olds).toNat
  let f3 := if retro then f2 else
    fusAlarms f2 s.time.period (s.fget FUS_DR.DR_LIMIT) (drSigma pp (s.fget FUS_DR.DR_SIGMA)) peak.isSome hfix.isSome
      pj.tied hj.tied
  let m1 := match pj.modes with | m :: _ => m.2 | [] => 0
  let flags := b2n peak.isSome + 2 * b2n hfix.isSome + 4 * b2n peak.isNone + 8 * b2n hfix.isNone
    + 16 * b2n f3.refConf + 32 * b2n f3.hdgConf + 64 * b2n f3.posUnc + 128 * b2n edge + 256 * b2n flat
    + 1024 * b2n tilt.isNone + 2048 * b2n (k != f0.last.k)
  let rec0 : FixRec :=
    { frame := s.time.frame, north := fn, east := fe, heading := hh, varNN := cov.nn, covNE := cov.ne, varEE := cov.ee,
      varHdg := hv, age := age, contrib := refMask f3 (fun r => r.state == .contrib),
      disagree := refMask f3 (fun r => r.state == .disagree), rejected := refMask f3 (·.rej), flags := flags, k := k,
      nModes := pj.modes.length,
      ratio := (match pj.m2 with | some m => if m1 = 0 then 0 else m.2 * 65536 / m1 | none => 0),
      cN := halfToMm (mN * Int.ofNat (cellH k)), cE := halfToMm (mE * Int.ofNat (cellH k)) }
  -- re-admission of the REJECTED (R83)
  let (rn, auto) := (s.fget FUS_PERSIST.READMIT_N, f0.autoReadmit)
  let rejOf (runs : List RefRun) : List Patch := (runs.filter (fun r => isRej r.ref)).filterMap (·.patch)
  let (f4, _) := match hfix with
    | some h => judgeRej rn auto (rejOf hruns)
        (fun c => !hdgOutside (s.fget FUS_GATE.GATE_HDG) gv (b32diff (c * 2 ^ 20) h.1)) f3
    | none => (f3, [])
  let (f5, adm) := match peak with
    | some p => judgeRej rn auto (rejOf pruns) (fun c => !posOutside (s.fget FUS_GATE.GATE) sinv
        (hmm (cellPos k mN (Int.ofNat (c / 128)) - 2 * p.n)) (hmm (cellPos k mE (Int.ofNat (c % 128)) - 2 * p.e))) f4
    | none => (f4, [])
  -- anchors set at admission, where the reference would contribute with them (R60; log 50)
  let anch := pruns.foldl (fun f r =>
    let x := refOf f r.ref
    match peak, r.al with
    | some p, some a =>
      let y := { x with anchor := some [p.n + a.free.getD 0 0, p.e + a.free.getD 1 0, a.free.getD 2 0] }
      let first := x.anchor.isNone && !x.rej && (s.runRef fc r.ref r.cfg y).reason.isNone
      if r.cfg.atAdmission && (first || adm.contains r.ref) then refPut f r.ref y else f
    | _, _ => f) f5
  -- refinement (R62, R63)
  let nh := (hruns.filter (fun r => (refOf f2 r.ref).state == .contrib)).length
  let acc (f : FusSt) (r : RefRun) : FusSt :=
    let x := refOf f r.ref
    let ok := x.state == .contrib
      && r.cfg.ctxs.all (fun n => (s.ctxOf n).q != .timeSuspect && (s.ctxOf n).q != .retired)
      && !f3.refConf && peak.isSome && !f3.posUnc && tilt.isSome
      && !(headingKind r.cfg.kind && f3.hdgConf)
    let row := if headingKind r.cfg.kind then
        match hfix with
        | some h => [fmul (fofInt (b32diff h.1 r.hdg)) (fofRat 36000 (2 ^ 32)), fneg (fofNat 1)]
        | none => []
      else match peak, r.al with
        | some p, some a => refineRow r.cfg a p.n p.e (refMount r.cfg x)
        | _, _ => []
    refPut f r.ref { x with acc :=
      { rows := if x.state == .contrib && !row.isEmpty then x.acc.rows ++ [row] else x.acc.rows,
        frozen := x.acc.frozen || !ok, single := x.acc.single || (headingKind r.cfg.kind && decide (nh < 2)) } }
  let f6 := (hruns ++ pruns).foldl acc anch
  let f7 := { f6 with k := k, kLow := low, mru := tilt, last := rec0, doneK := some s.time.frame,
                      refs := f6.refs.zipIdx.map (fun p =>
                        if (s.refCfg p.2).isSome then p.1 else { refOff with acc := ⟨[], true, false⟩ }) }
  let runs := hruns ++ pruns
  { fus := f7, fix := rec0, noPos := peak.isNone, noHdg := hfix.isNone,
    ups := [(pruns.any (fun r => match r.al with | some a => a.far | none => false), FUS_STATUS.ORIGIN_FAR),
            (runs.any (·.offgrid), FUS_STATUS.OFFGRID), (runs.any (·.sat), FUS_STATUS.ENC_SAT),
            (flat, FUS_STATUS.FLAT_PEAK), (edge, FUS_STATUS.EDGE_PEAK), (tilt.isNone, FUS_STATUS.TILT_UNCOMP)],
    conflict := hj.conflict || pj.conflict, evs := ev1 ++ ev2 }

/-- The record ring (R90), the registers, counts, events and alarms of a frame. -/
def State.fuseRecord (s : State) (x : FusFrame) : State :=
  let i := (s.fget FUS_REC.IDX + 1) % 64
  let s1 := (({ s with fus := x.fus }).wrB rgnFus (i * 64) (fixBytes s.pNs x.fix)).fset FUS_REC.IDX i
    |>.stage 6 0 (fixBytes s.pNs x.fix)
  let s2 := s1.fusShow x.fus
  let s3 := (s2.fput FUS_STATUS.DR x.noPos).fput FUS_STATUS.HDG_DR x.noHdg
  let s4 := x.ups.foldl (fun s u => if u.1 then s.fup u.2 else s) s3
  let s5 := (s4.fset FUS_CENTRE_N.CN (tc 32 x.fix.cN)).fset FUS_CENTRE_E.CE (tc 32 x.fix.cE)
  let s6 := if x.noPos then s5.fcount FUS_CNT.NOFIX 1 else s5
  let s7 := if x.conflict then s6.fcount FUS_CNT.CONFLICT 1 else s6
  let s8 := x.evs.foldl (fun s e =>
    if e.1 = 2 then s.alarm 0x04 0x02 e.2 0 else s.event 0x04 0x01 1 (evData e.2 0)) s7
  ((s8.alarmLevel 0x04 0x04 0 x.fus.refConf).alarmLevel 0x04 0x05 0 x.fus.hdgConf).alarmLevel 0x04 0x06 0 x.fus.posUnc

/-- The fusion phase of the frame in progress (R56 to R90). A retrodiction pass (`retro`) changes no counter, state, alarm or
record (R91). -/
def State.fuse (s : State) (retro : Bool) : State :=
  let x := s.fuseFrame retro
  if retro then { s with fus := { s.fus with last := x.fix } } else s.fuseRecord x

/-- A fusion phase that is late (R29, R82, R84): no fix, nothing evaluated; the record says so. DESIGN CHOICE (log 233): the record
then holds no contributor and no mode, MODE2_RATIO 0, the K in force and the centre of the record before it. -/
def State.fuseLate (s : State) : State :=
  let f0 := s.fus
  let pred := s.cex.obs.pred
  let pp := s.cex.obs.p
  let f1 := fusAlarms f0 s.time.period (s.fget FUS_DR.DR_LIMIT) (drSigma pp (s.fget FUS_DR.DR_SIGMA)) false false false false
  let flags := 4 + 8 + 16 * b2n f1.refConf + 32 * b2n f1.hdgConf + 64 * b2n f1.posUnc + 512
  let rec0 : FixRec :=
    { f0.last with frame := s.time.frame, north := satS 32 (asr (pred.etaN + 2 ^ 31) 32),
                   east := satS 32 (asr (pred.etaE + 2 ^ 31) 32), heading := pred.etaP, varNN := pp.nn, covNE := pp.ne,
                   varEE := pp.ee, varHdg := pp.ph, age := 0, contrib := 0, disagree := refMask f1 (fun r => r.state == .disagree),
                   rejected := refMask f1 (·.rej), flags := flags, k := f0.k, nModes := 0, ratio := 0 }
  let f2 := { f1 with last := rec0, doneK := some s.time.frame, mru := s.tilt s.fNow,
                      refs := f1.refs.map (fun r => { r with acc := { r.acc with frozen := true } }) }
  let i := (s.fget FUS_REC.IDX + 1) % 64
  let s1 := (({ s with fus := f2 }).wrB rgnFus (i * 64) (fixBytes s.pNs rec0)).fset FUS_REC.IDX i |>.stage 6 0 (fixBytes s.pNs rec0)
  let s2 := (((s1.fusShow f2).fup FUS_STATUS.DR).fup FUS_STATUS.HDG_DR).fcount FUS_CNT.NOFIX 1
  ((s2.alarmLevel 0x04 0x04 0 f2.refConf).alarmLevel 0x04 0x05 0 f2.hdgConf).alarmLevel 0x04 0x06 0 f2.posUnc

/-! ## Refinement at the minute (R62 to R64) -/

/-- Sum of binary32 values in order. -/
def fsumL (l : List Flt) : Flt := l.foldl fadd 0

/-- Column `c` of the rows, less its mean. -/
def centred (rows : List (List Flt)) (sub : Bool) (c : Nat) : List Flt :=
  let col := rows.map (fun r => r.getD c 0)
  if sub then
    let m := fdiv (fsumL col) (fofNat rows.length)
    col.map (fun x => fsub x m)
  else col

/-- Accumulate JᵀJ and Jᵀr of one parameter: the residual columns and the matching J columns, frame by frame. -/
def refineSums (rows : List (List Flt)) (sub : Bool) (pairs : List (Nat × Nat)) : Flt × Flt :=
  let cols := pairs.map (fun p => (centred rows sub p.1, centred rows sub p.2))
  (upTo rows.length).foldl (fun a f =>
    cols.foldl (fun (a : Flt × Flt) c =>
      let (r, j) := (c.1.getD f 0, c.2.getD f 0)
      (fadd a.1 (fmul j j), fadd a.2 (fmul j r))) a) (0, 0)

/-- The step of one parameter: -1, 0 or 1 (R62). DESIGN CHOICE (log 253): δ of one half rounds away from zero. -/
def refineStep (rows : List (List Flt)) (sub : Bool) (pairs : List (Nat × Nat)) : Int :=
  let (jj, jr) := refineSums rows sub pairs
  if !rows.isEmpty && fle (fmul (fofRat 3 100) (fofNat rows.length)) jj then
    clampI (-1) 1 (fSatInt rndAway 32 (fdiv jr jj))
  else 0

/-- REFINE_MINUTE for one reference: the values that take effect at the next boundary, whether a step was applied. DESIGN CHOICE (log
253): a step that the box takes back whole counts as applied. -/
def refineRef (c : RefCfg) (x : RefSt) : RefSt × Bool :=
  let clear : RefAcc := ⟨[], false, false⟩
  if x.acc.frozen then ({ x with acc := clear }, false)
  else
    let rows := x.acc.rows
    let (lv, mt) := if headingKind c.kind then
        ([0, 0, 0], [if x.acc.single then 0 else refineStep rows false [(0, 1)], 0, 0])
      else ((upTo 3).map (fun i => refineStep rows true [(0, 2 + i), (1, 8 + i)]),
            (upTo 3).map (fun i => refineStep rows true [(0, 5 + i), (1, 11 + i)]))
    let box (i : Nat) : Int := Int.ofNat (c.box.getD i 0)
    let lever := (upTo 3).map (fun i => clampI (- box i) (box i) (x.lever.getD i 0 + lv.getD i 0))
    let mount := (upTo 3).map (fun i => clampI (- box (3 + i)) (box (3 + i)) (x.mount.getD i 0 + 119305 * mt.getD i 0))
    ({ x with acc := clear, nextLever := lever, nextMount := mount }, (lv ++ mt).any (fun v => v != 0))

/-- The refinement of the minute, at a boundary where TIME_NS is a multiple of 60 s (R62). -/
def State.refineAt (s : State) : State :=
  if s.fNow % 60000000000 ≠ 0 then s
  else
    let (f, any) := (upTo 16).foldl (fun (p : FusSt × Bool) r => match s.refCfg r with
      | some c => let (x, b) := refineRef c (refOf p.1 r); (refPut p.1 r x, p.2 || b)
      | none => p) (s.fus, false)
    let s1 := ({ s with fus := f }).fusShow f
    if any then s1.fup FUS_STATUS.REFINE_STEP else s1

/-- The boundary of a frame for fusion: refined values and re-admissions take effect (R64, R83). DESIGN CHOICE (log 255): a re-admission
clears AGREE_CNT beside DIS_CNT. -/
def State.fusBoundary (s : State) : State :=
  let adm := (upTo 16).filter (fun r => (refOf s.fus r).readmit)
  let f := { s.fus with imgNew := [], refs := s.fus.refs.map (fun x =>
    let x := { x with lever := x.nextLever, mount := x.nextMount }
    if x.readmit then { x with readmit := false, rej := false, state := .contrib, disCnt := 0, agreeCnt := 0 } else x) }
  adm.foldl (fun s r => (s.clearAlarm 0x04 0x02 r).event 0x04 0x03 0 (evData r 0))
    (if adm.isEmpty && f == s.fus then s else ({ s with fus := f }).fusShow f)

end Sys2Proof.Machine
end

