-- ==== Sys2Proof/Machine/Profile.lean ====
section
/-!
DEFINITION. The profile generators and track following (R119 to R125): one step of a generator, the limits of the axes,
the path of a track and its point at an arc length.
-/

namespace Sys2Proof.Machine

/-- P in seconds, binary32. -/
def State.hSec (s : State) : Flt := fofRat (Int.ofNat s.time.period) 1000

/-- The limits of a generator. -/
structure Lim3 where
  v : Flt
  a : Flt
  j : Flt
  deriving DecidableEq, Repr

/-- brake(x, amax, jmax) (R120). -/
def brake (x : Flt) (l : Lim3) : Flt :=
  let a2 := fmul l.a l.a
  let j2 := fmul l.j l.j
  if fle x 0 then 0
  else if fle x (fdiv (fmul a2 l.a) j2) then fcbrt (fmul l.j (fmul x x))
  else
    fdiv (fadd (fdiv (fneg a2) l.j)
      (fsqrt (fadd (fdiv (fmul (fmul a2 l.a) l.a) j2) (fmul (fmul (fofNat 8) l.a) x)))) (fofNat 2)

/-- The sign of d, with sign(0) = +1. -/
def fsign (d : Flt) : Flt := if flt d 0 then fneg (fofNat 1) else fofNat 1

/-- The motion of one frame step towards a distance `d` (R120): the increment of p, then v and a; none is the capture. -/
def profMove (h d v a : Flt) (l : Lim3) : Option (Flt × Flt × Flt) :=
  let h2 := fmul h h
  let h3 := fmul h2 h
  if fle (fabs d) (fmul l.j h3) && fle (fabs v) (fmul l.j h2) && fle (fabs a) (fmul l.j h) then none
  else
    let s := fsign d
    let vg := fmul s (fmin l.v (brake (fsub (fabs d) (fmul (fabs v) h)) l))
    let two := fofNat 2
    let dv := fsub vg (fadd v (fdiv (fmul a (fabs a)) (fmul two l.j)))
    let ag := fmul (fsign dv) (fmin l.a (fsqrt (fmul (fmul two l.j) (fabs dv))))
    let j := fclamp (fdiv (fsub ag a) h) (fneg l.j) l.j
    let dp := fadd (fadd (fmul v h) (fdiv (fmul a h2) two)) (fdiv (fmul j h3) (fofNat 6))
    some (dp, fadd (fadd v (fmul a h)) (fdiv (fmul j h2) two), fadd a (fmul j h))

/-- A real value times n / d, rounded half towards plus infinity and saturated to 64 bits, with the flag of group `gr`. -/
def fScaleFix (gr n d : Nat) (a : Flt) : SatV :=
  match fv a with
  | .fin g m e =>
    toS64 gr (if e ≥ 0 then rndUp (sgnI g m * Int.ofNat (n * 2 ^ e.toNat)) d
      else rndUp (sgnI g m * Int.ofNat n) (d * 2 ^ (-e).toNat))
  | _ => fixSat gr 64 0 a

/-- One step of a linear generator (R120), with the flags of group `gr` (R101). -/
def genStep (gr : Nat) (h : Flt) (l : Lim3) (g : Gen) : Gen × Nat :=
  match profMove h (fofDy (g.target - g.p) (-32)) g.v g.a l with
  | none => ({ g with p := g.target, v := 0, a := 0 }, 0)
  | some (dp, v, a) =>
    let inc := fixSat gr 64 32 dp
    let p := toS64 gr (g.p + inc.1)
    ({ g with p := p.1, v := v, a := a }, inc.2 ||| p.2)

/-- One step of the heading generator, in degrees; the heading wraps, its increment can saturate. -/
def genStepH (h : Flt) (l : Lim3) (g : Gen) : Gen × Nat :=
  let d := b32diff (tc 32 g.target) (tc 32 g.p)
  match profMove h (fofDy (d * 360) (-32)) g.v g.a l with
  | none => ({ g with p := Int.ofNat (tc 32 g.target), v := 0, a := 0 }, 0)
  | some (dp, v, a) =>
    let inc := fScaleFix gProf (2 ^ 32) 360 dp
    ({ g with p := Int.ofNat (tc 32 (g.p + inc.1)), v := v, a := a }, inc.2)

/-- Limits in force: linear, heading. -/
def State.limLin (s : State) : Lim3 := ⟨s.cex.limits.getD 0 0, s.cex.limits.getD 1 0, s.cex.limits.getD 2 0⟩
def State.limHdg (s : State) : Lim3 := ⟨s.cex.limits.getD 3 0, s.cex.limits.getD 4 0, s.cex.limits.getD 5 0⟩

/-- Linear limits scaled by an axis factor, floored at 1/16 (R119). -/
def limAxis (l : Lim3) (f : Flt) : Lim3 :=
  let g := fmax f (fofRat 1 16)
  ⟨fmul l.v g, fmul l.a g, fmul l.j g⟩

/-- |cos θ| and |sin θ| of the direction to a target (R119); θ = 0 for a target at the reference. -/
def dirFactors (dn de : Int) : Flt × Flt :=
  if dn = 0 ∧ de = 0 then (fofNat 1, 0)
  else
    let (x, y) := (fofDy dn (-32), fofDy de (-32))
    let m := fsqrt (fadd (fmul x x) (fmul y y))
    (fdiv (fabs x) m, fdiv (fabs y) m)

/-- A position target: both generators' targets and factors (R119). -/
def State.setTarget (s : State) (n e : Int) : State :=
  let (gn, ge) := (s.cex.gN, s.cex.gE)
  let (fn, fe) := dirFactors (n - gn.p) (e - ge.p)
  { s with cex := { s.cex with gN := { gn with target := n, factor := fn }, gE := { ge with target := e, factor := fe } } }

/-! ## The path of a track (R123, R124) -/

/-- One piece of the path: a straight or an arc, in metres. -/
structure Seg where
  leg : Nat                -- waypoint it leads to
  len : Flt
  n : Flt                  -- start
  e : Flt
  tn : Flt                 -- unit tangent at the start
  te : Flt
  side : Int               -- 0 straight, +1 to starboard, -1 to port
  radius : Flt
  deriving DecidableEq, Repr

/-- A coordinate in 2^-32 mm as metres. -/
def fixToM (p : Int) : Flt := fdiv (fofDy p (-32)) (fofNat 1000)

/-- A coordinate in mm as metres. -/
def mToM (x : Int) : Flt := fdiv (fofInt x) (fofNat 1000)

/-- A waypoint with its position in 2^-32 mm. -/
def Waypoint.fine (w : Waypoint) : Waypoint := { w with n := w.n * 2 ^ 32, e := w.e * 2 ^ 32 }

/-- Length and unit tangent of a leg. -/
def legGeom (a b : Waypoint) : Flt × Flt × Flt :=
  let (dn, de) := (fsub (fixToM b.n) (fixToM a.n), fsub (fixToM b.e) (fixToM a.e))
  let l := fsqrt (fadd (fmul dn dn) (fmul de de))
  if fpos l then (l, fdiv dn l, fdiv de l) else (0, fofNat 1, 0)

/-- The turn at an interior waypoint: tangent length, radius, turn angle in rad, side, whether the radius was reduced; the tangent points
of an exact reversal fit at no radius, which is then reduced to 0 (R123). -/
def turnGeom (a b c : Waypoint) : Flt × Flt × Flt × Int × Bool :=
  let (l1, n1, e1) := legGeom a b
  let (l2, n2, e2) := legGeom b c
  let dot := fadd (fmul n1 n2) (fmul e1 e2)
  let crs := fsub (fmul n1 e2) (fmul e1 n2)
  let one := fofNat 1
  let den := fadd one dot
  if !fpos b.radius then (0, 0, 0, 0, false)
  else if !fpos den || !fpos (fabs crs) then (0, 0, 0, 0, flt dot 0)
  else
    let th := fdiv (fabs crs) den          -- tan of half the turn angle
    let half := fdiv (fmin l1 l2) (fofNat 2)
    let want := fmul b.radius th
    let cut := flt half want
    let t := if cut then half else want
    let r := if cut then fdiv half th else b.radius
    let ang := match cordic dot (fabs crs) with | some x => b32rad (Int.ofNat x) | none => 0
    (t, r, ang, if fpos crs then 1 else -1, cut)

/-- The pieces of a path from a trimmed start: `t0` is the tangent length at the first point. -/
def pathSegs : Nat → Flt → List Waypoint → List Seg
  | i, t0, a :: b :: rest =>
    let (l, tn, te) := legGeom a b
    let sn := fadd (fixToM a.n) (fmul tn t0)
    let se := fadd (fixToM a.e) (fmul te t0)
    match rest with
    | [] => [⟨i, fsub l t0, sn, se, tn, te, 0, 0⟩]
    | c :: _ =>
      let (t, r, ang, side, _) := turnGeom a b c
      let st := fsub (fsub l t0) t
      let straight : Seg := ⟨i, st, sn, se, tn, te, 0, 0⟩
      let arc : List Seg := if side = 0 then [] else
        [⟨i, fmul r ang, fadd sn (fmul tn st), fadd se (fmul te st), tn, te, side, r⟩]
      straight :: arc ++ pathSegs (i + 1) t (b :: rest)
  | _, _, _ => []

/-- Was any radius of the path reduced. -/
def pathReduced : List Waypoint → Bool
  | a :: b :: c :: r => (turnGeom a b c).2.2.2.2 || pathReduced (b :: c :: r)
  | _ => false

/-- Total length, m. -/
def pathLen (l : List Seg) : Flt := l.foldl (fun a s => fadd a s.len) 0

/-- The start of each leg on the path, m. -/
def legStarts (segs : List Seg) : List (Nat × Flt) :=
  (segs.foldl (fun (a : Flt × List (Nat × Flt)) s =>
    (fadd a.1 s.len, if a.2.any (fun x => x.1 == s.leg) then a.2 else a.2 ++ [(s.leg, a.1)])) (0, [])).2

/-- Point, tangent and leg at arc length `x` m, with the flags of the arc's angle in B32. -/
def pathAt (x : Flt) : List Seg → (Flt × Flt × Flt × Flt × Nat) × Nat
  | [] => ((0, 0, fofNat 1, 0, 0), 0)
  | s :: r =>
    if fle x s.len || r.isEmpty then
      if s.side = 0 then ((fadd s.n (fmul s.tn x), fadd s.e (fmul s.te x), s.tn, s.te, s.leg), 0)
      else
        let an := fScaleFix gTrack (2 ^ 32 * 10 ^ 18) 6283185307179586477 (fdiv x s.radius)
        let a := tc 32 an.1
        let (sn, cs) := (sinB a, cosB a)
        let sg := if s.side < 0 then fneg (fofNat 1) else fofNat 1
        let (nn, ne) := (fmul sg (fneg s.te), fmul sg s.tn)        -- unit normal towards the centre
        let (c1, c2) := (fmul s.radius sn, fmul s.radius (fsub (fofNat 1) cs))
        ((fadd s.n (fadd (fmul s.tn c1) (fmul nn c2)), fadd s.e (fadd (fmul s.te c1) (fmul ne c2)),
          fadd (fmul s.tn cs) (fmul nn sn), fadd (fmul s.te cs) (fmul ne sn), s.leg), an.2)
    else pathAt (fsub x s.len) r

/-- Metres as 2^-32 mm, with the flags of the track's group. -/
def mToFix (x : Flt) : SatV := fScaleFix gTrack (1000 * 2 ^ 32) 1 x

/-- What takes the place of VMAX at arc length `x` m (R124): the minimum over the present leg and every later leg, mm/s. -/
def trackVmax (path : List Waypoint) (segs : List Seg) (x : Flt) (leg : Nat) (l : Lim3) : Flt :=
  let vs := ((legStarts segs).filter (fun p => decide (leg ≤ p.1))).map (fun p =>
    let d := fmul (fsub p.2 x) (fofNat 1000)
    let sp := match path[p.1 + 1]? with | some w => w.speed | none => 0
    fadd sp (brake d l))
  match vs with
  | [] => l.v
  | v :: r => r.foldl fmin v

/-- The waypoint a leg leads to. -/
def legWp (path : List Waypoint) (leg : Nat) : Option Waypoint := path[leg + 1]?

/-- Velocities of the estimate in NED, mm/s binary32, and the yaw rate in degrees per second, with the flags of the rotation. -/
def State.nedVel (s : State) : (Flt × Flt × Flt) × Nat :=
  let x := s.cex.obs.x
  let ve := Int.ofNat (s.fget CEX_CFG.VEL_EXP)
  let (n, e) := rotF gProf x.etaP x.u x.v
  ((fofDy n.1 (ve - 31), fofDy e.1 (ve - 31), fofDy (x.r * 180) (-31 - Int.ofNat (s.fget CEX_CFG.RATE_EXP))), n.2 ||| e.2)

/-- Enter TRACK from the present reference position, at the speed of the estimate along the first leg: path, arc generator
(R123, R124). -/
def State.trackEnter (s : State) : State :=
  let c := s.cex
  let entry : Waypoint := ⟨c.gN.p, c.gE.p, 0, 0, false, 0⟩
  let path := entry :: c.track.map Waypoint.fine
  let segs := pathSegs 0 0 path
  let (tn, te) := match segs with | x :: _ => (x.tn, x.te) | [] => (fofNat 1, 0)
  let ((vn, ve, _), fl) := s.nedVel
  let v := fadd (fmul vn tn) (fmul ve te)
  let len := mToFix (pathLen segs)
  let c1 := { c with path := path, leg := 0, gS := ⟨0, v, 0, len.1, 0⟩, capt := putBits (putBits c.capt 0 1 1) 3 1 0 }
  let s1 := (({ s with cex := c1 }).satFlags (s.fget CEX_ASSIGN.PROF) (len.2 ||| fl)).fset CEX_FUNC.LEG 0
  if pathReduced path then s1.fup CEX_STATUS.TURN_REDUCED else s1

/-- Clear a bit of the notes on the profile generator (R96). -/
def State.captClear (s : State) (b : Nat) : State := { s with cex := { s.cex with capt := putBits s.cex.capt b 1 0 } }

/-- One step of track following (R124): the arc generator, the position and velocity references, the heading target, the
leg; the flag says that the end was captured. -/
def State.trackStep (s : State) : State × Bool :=
  let c := s.cex
  let segs := pathSegs 0 0 c.path
  let l := s.limLin
  let len := mToFix (pathLen segs)
  let g0 := { c.gS with target := len.1 }
  let vm := trackVmax c.path segs (fixToM g0.p) c.leg l
  let (g, f1) := genStep gTrack s.hSec { l with v := vm } g0
  let ((n, e, tn, te, leg), f2) := pathAt (fixToM g.p) segs
  let pn := mToFix n
  let pe := mToFix e
  let wp := legWp c.path leg
  let hdgT : Int := match wp with
    | some w => if w.course then
        Int.ofNat (tc 32 (Int.ofNat ((cordic tn te).getD 0) + Int.ofNat w.hdg)) else Int.ofNat w.hdg
    | none => c.gH.target
  let c1 := { c with
    gS := g, leg := leg,
    gN := { c.gN with p := pn.1, v := fmul tn g.v, a := fmul tn g.a, target := pn.1 },
    gE := { c.gE with p := pe.1, v := fmul te g.v, a := fmul te g.a, target := pe.1 },
    gH := { c.gH with target := hdgT } }
  let s1 := (({ s with cex := c1 }).satFlags (s.fget CEX_ASSIGN.PROF) (len.2 ||| f1 ||| f2 ||| pn.2 ||| pe.2)).fset CEX_FUNC.LEG leg
  let s2 := if leg ≠ c.leg then
      if bit c.capt 3 then s1.captClear 3 else s1.event 0x05 0x04 0 (evData leg 0)
    else s1
  (s2, decide (g.p = g.target) && g.v == 0)

/-- One step of the generators in force (R120, R124): track or position where `pos`, then heading where `hdg`; the flag is capture at the
end of the path. -/
def State.genSteps (s : State) (pos hdg : Bool) : State × Bool :=
  let lh := s.limHdg
  let ll := s.limLin
  let (s1, fin) := if !pos then (s, false)
    else if s.cex.func = 4 then s.trackStep
    else
      let c := s.cex
      let (n, f1) := genStep gProf s.hSec (limAxis ll c.gN.factor) c.gN
      let (e, f2) := genStep gProf s.hSec (limAxis ll c.gE.factor) c.gE
      (({ s with cex := { c with gN := n, gE := e } }).satFlags (s.fget CEX_ASSIGN.PROF) (f1 ||| f2), false)
  if !hdg then (s1, fin)
  else
  let (h, f3) := genStepH s.hSec lh s1.cex.gH
  (({ s1 with cex := { s1.cex with gH := h } }).satFlags (s.fget CEX_ASSIGN.PROF) f3, fin)

end Sys2Proof.Machine
end

