-- ==== Sys2Proof/Machine/Control.lean ====
section
/-!
DEFINITION. The control law, gain scheduling and DP functions (R94 to R118, R126 to R131), and the placement of the work
on the control engines (R96, R97).
-/

namespace Sys2Proof.Machine

/-! ## Gain sets (R126 to R129) -/

/-- Item of a gain set: kp 0, ki 1, kd 2, ffb 3, ffw 4, TAU_MAX 5, JOY_GAIN 6, JOY_DB 7. -/
def gainAt (g : List Int) (item j : Nat) : Int := g.getD (3 * item + j) 0

/-- A region's gain set: normal at offset 24, degraded at 72 (R534). -/
def State.gainSet (s : State) (r : Nat) (degr : Bool) : List Int :=
  let b := (s.obj 0x09 r).getD []
  (upTo 24).map (fun i => f16At b ((if degr then 72 else 24) + 2 * i))

/-- A point of the scheduling variables inside a region's box, widened by its margins or not (R127). -/
def inBox (b : List Byte) (wide : Bool) (pt : List Nat) : Bool :=
  (upTo 3).all (fun i =>
    let lo := uAt 2 b (4 * i)
    let hi := uAt 2 b (4 * i + 2)
    let ml := if wide then uAt 2 b (12 + 4 * i) else 0
    let mh := if wide then uAt 2 b (12 + 4 * i + 2) else 0
    let x := pt.getD i 0
    decide (lo ≤ x + ml) && decide (x ≤ hi + mh))

/-- The region of a frame (R127). -/
def State.regionFor (s : State) (cur : Nat) (pt : List Nat) : Nat :=
  let keep := cur != 0 && (match s.obj 0x09 cur with | some b => inBox b true pt | none => false)
  if keep then cur
  else
    match ((upTo 15).map (· + 1)).find? (fun r =>
        match s.obj 0x09 r with | some b => inBox b false pt | none => false) with
    | some r => r
    | none => 0

/-- The cross-fade formula (R129). -/
def xfade (a b : Int) (n x : Nat) : Int := a + (2 * (b - a) * Int.ofNat n + Int.ofNat x).fdiv (Int.ofNat (2 * x))

/-- The force full scales (R98). -/
def State.fullScale (s : State) (j : Nat) : Flt :=
  fofNat (if j = 0 then s.fget CEX_FS_X.FS else if j = 1 then s.fget CEX_FS_Y.FS else s.fget CEX_FS_N.FS)

/-- An F32 force in N or N·m. -/
def State.inNewton (s : State) (j : Nat) (x : Int) : Flt := fmul (fofDy x (-31)) (s.fullScale j)

/-- The bias in body axes, F32 (R108), with flags. -/
def biasBody (x : ObsX) : List Int × Nat :=
  let (a, b) := rotTF gLawFf x.etaP (x.b.getD 0 0) (x.b.getD 1 0)
  ([a.1, b.1, x.b.getD 2 0], a.2 ||| b.2)

/-- F_env, SOG and γ_env from the committed state (R126). -/
def State.schedPoint (s : State) (bias wind : List Int) : List Nat :=
  let x := s.cex.obs.x
  let f (j : Nat) : Flt := s.inNewton j (bias.getD j 0 + wind.getD j 0)
  let (fx, fy) := (f 0, f 1)
  let k := fofNat 1000
  let env := fsqrt (fadd (fmul (fdiv fx k) (fdiv fx k)) (fmul (fdiv fy k) (fdiv fy k)))
  let u16 (a : Flt) : Nat := satU 16 (fSatInt rndUp 64 a).toNat
  let gam := match cordic fx fy with
    | some a => ((sx 32 a).natAbs * 3600 + 2 ^ 31) / 2 ^ 32
    | none => 0
  [u16 env, u16 (s.sogFlt x.u x.v), gam]

/-- Gain scheduling of a frame (R126 to R129). -/
def State.schedule (s : State) (bias wind : List Int) : State :=
  let c := s.cex
  let reg := s.regionFor c.region (s.schedPoint bias wind)
  let degr := s.fus.posUnc
  let x := s.fget CEX_CFG.XFADE
  let change := !c.gains.isEmpty && (reg != c.region || degr != c.degr)
  let target := s.gainSet reg degr
  let n := if change then 1 else if c.fadeN = 0 ∨ c.fadeN ≥ x then 0 else c.fadeN + 1
  let frm := if change then c.gains else c.gainsFrom
  let gains := if n = 0 then target else List.zipWith (fun a b => xfade a b n x) frm target
  let regFrom := if change then c.region else c.regFrom
  let s1 := { s with cex := { c with region := reg, degr := degr, fadeN := n, gains := gains, gainsFrom := frm,
                                     regFrom := regFrom } }
  let s2 := if change then s1.fcount CEX_CNT.REGION_CHG 1 else s1
  (((s2.fset CEX_REGION.CUR reg).fset CEX_REGION.FROM regFrom).fset CEX_REGION.FADE_N n).fput CEX_STATUS.DEGR_GAINS degr

/-! ## Axes (R114) -/

/-- What moves an axis: nothing, the joystick, a speed set-point, or the reference. -/
inductive Axis where
  | idle | joy | speed | auto
  deriving DecidableEq, Repr

/-- The axis mode of degree `j` in a function (R114). -/
def axisOf (func : Nat) (ah : Bool) (j : Nat) : Axis :=
  match func with
  | 1 => if j = 2 ∧ ah then .auto else .joy
  | 2 => if j = 2 then .auto else .speed
  | 3 => .auto
  | 4 => .auto
  | _ => .idle

/-- Errors of the control law in the body frame (R107): position and velocity errors, with flags. -/
def State.lawErrors (s : State) : List Int × List Int × Nat :=
  let c := s.cex
  let x := c.obs.x
  let pe := s.posExp
  let ve := Int.ofNat (s.fget CEX_CFG.VEL_EXP)
  let re := Int.ofNat (s.fget CEX_CFG.RATE_EXP)
  let dn := posToF32 gObsPos pe (c.gN.p - x.etaN)
  let de := posToF32 gObsPos pe (c.gE.p - x.etaE)
  let (ex, ey) := rotTF gLawP x.etaP dn.1 de.1
  let ep := b32diff (tc 32 c.gH.p) x.etaP
  let vn := fixSat gProf 32 (31 - ve) c.gN.v
  let ve_ := fixSat gProf 32 (31 - ve) c.gE.v
  let vr := fixSat gProf 32 (31 + re) (fdiv c.gH.v (fofNat 180))
  let cs := cosF16 x.etaP
  let sn := sinF16 x.etaP
  let vx := if axisOf c.func c.autoHdg 0 == .speed then toF32 gLawD (c.spU - x.u)
    else ((a40 0).mac cs vn.1 |>.mac sn ve_.1 |>.add (- x.u)).f32 gLawD
  let vy := if axisOf c.func c.autoHdg 1 == .speed then toF32 gLawD (c.spV - x.v)
    else ((a40 0).msub sn vn.1 |>.mac cs ve_.1 |>.add (- x.v)).f32 gLawD
  let vp := toF32 gLawD (vr.1 - x.r)
  let fl := [dn, de, ex, ey, vn, ve_, vr, vx, vy, vp].foldl (fun a p => a ||| p.2) 0
  let zx := axisOf c.func c.autoHdg 0 == .speed
  ([if zx then 0 else ex.1, if zx then 0 else ey.1, ep], [vx.1, vy.1, vp.1], fl)

/-- The feed-forward terms (R108). -/
def ffTerms (gains bias wind : List Int) : List SatV :=
  (upTo 3).map (fun j =>
    ((a40 0).msub (gainAt gains 3 j) (bias.getD j 0) |>.msub (gainAt gains 4 j) (wind.getD j 0)).f32 gLawFf)

/-- The PID demand of a degree (R108): `ff` as formed in the frame before, since the rule assigns ff(j) after acc. -/
def pidDemand (gains : List Int) (ep ev integ ff : List Int) (j : Nat) : SatV :=
  ((a40 0).mac (gainAt gains 0 j) (ep.getD j 0) |>.mac (gainAt gains 2 j) (ev.getD j 0)
    |>.add (integ.getD j 0) |>.add (ff.getD j 0)).f16 gDemand

/-- hold(j): one of the conditions held in the frame before (R109). -/
def holdOf (c : CexSt) (j : Nat) : Bool := c.clampHold.getD j false || c.notAch.getD j false

/-- The demand of a degree was clamped from `d` to `out` with the sign of its position error (R109). -/
def clampHeld (d out e : Int) : Bool := (decide (out < d) && decide (0 < e)) || (decide (d < out) && decide (e < 0))

/-- The integrator update (R108). -/
def integStep (gains : List Int) (ep integ : List Int) (j : Nat) (hold : Bool) : SatV :=
  if hold then (integ.getD j 0, 0)
  else ((a40 (integ.getD j 0)).mac (gainAt gains 1 j) (ep.getD j 0)).f32 gLawI

/-! ## MPC demand (R111) -/

/-- The demand of frame `k` from an MPC result: the step forces interpolated at F(k+1); none beyond the last step. -/
def mpcForce (r : MpcRes) (k : Nat) : Option (List Flt) :=
  let el := k + 1 - r.k0
  let m := max r.m 1
  let i := el / m
  let a := r.u[i]?
  let b := r.u[i + 1]?
  match a, b with
  | some a, some b =>
    let w := fofRat (Int.ofNat (el % m)) m
    some ((upTo 3).map (fun j =>
      let x := a.getD j 0
      fadd x (fmul (fsub (b.getD j 0) x) w)))
  | some a, none => if el % m = 0 then some a else none
  | _, _ => none

/-- The MPC demand in F16, or none where R111 falls back to the PID. -/
def State.mpcDemand (s : State) : Option (List SatV) :=
  match s.cex.mpc with
  | none => none
  | some r =>
    if s.time.frame > r.setAt + 2 * s.fget SLV_CFG.MPC_M then none
    else (mpcForce r s.time.frame).map (fun f => (upTo 3).map (fun j =>
      fixSat gDemand 16 15 (fdiv (f.getD j 0) (s.fullScale j))))

/-- Does the function in force use the MPC law (R114). -/
def State.lawConf (s : State) : Bool :=
  let b := (s.obj 0x0E 0).getD []
  (s.cex.func == 3 && byteAt b 0 == 1) || (s.cex.func == 4 && byteAt b 1 == 1)

/-! ## Joystick (R114, R116) -/

/-- Joystick values of this frame and the state that holds the last ones (R116); JOY_HOLD is 0.5 s where no object gives it. -/
def State.joyStep (s : State) : State :=
  if s.cex.func ≠ 1 ∧ s.cex.func ≠ 2 then s
  else
    let v : Option (List SatV) := match s.vesselCtx 26 with
      | some n => (s.ctxVal n).map (fun x => (upTo 3).map (fun j => asF32 gDemand (s.ctxFmt n) (x.getD j 0)))
      | none => none
    match v with
    | some x =>
      let s1 := ({ s with cex := { s.cex with joy := x.map Prod.fst, joyMs := 0, joyN := 0 } }).satFlags (s.fget CEX_ASSIGN.LAW)
        (x.foldl (fun a (p : SatV) => a ||| p.2) 0)
      (s1.clearAlarm 0x05 0x03 0).fput CEX_STATUS.JOY_LOST false
    | none =>
      let ms := s.cex.joyMs + s.time.period
      let hold := match s.obj 0x0E 0 with | some b => uAt 4 b 4 | none => 500
      let n := if ms ≤ hold then 0 else min (s.cex.joyN + 1) (s.fget CEX_CFG.XFADE)
      (({ s with cex := { s.cex with joyMs := ms, joyN := n } }).alarm 0x05 0x03 0 0).fput CEX_STATUS.JOY_LOST true

/-- The joystick demand of a degree: deadband, gain (R114), and the blend to 0 (R116). -/
def joyDemand (c : CexSt) (gains : List Int) (x : Nat) (j : Nat) : SatV :=
  let v := if c.joyN = 0 then c.joy.getD j 0 else xfade (c.joy.getD j 0) 0 c.joyN x
  if v.natAbs ≤ (gainAt gains 7 j).natAbs * 65536 then (0, 0)
  else ((a40 0).mac (gainAt gains 6 j) v).f16 gDemand

/-! ## The law of a frame (R107 to R113) -/

/-- The control record (R131). DESIGN CHOICE (log 260): its AUTOHDG bit is that of the last SET_FUNCTION, in every function. -/
def State.cexRecord (s : State) (ctrlLate : Bool) (bias : List Int) : List Byte :=
  let c := s.cex
  let x := c.obs.x
  let fl := b2n c.lawMpc + 2 * b2n c.degr + 4 * b2n c.intHold + 8 * b2n ctrlLate + 16 * b2n c.profOwe
    + 32 * b2n c.stale + 64 * b2n c.wasLate + 128 * b2n (!bit s.fus.last.flags 0)
  leBytes 8 s.fNow ++ leBytes 4 s.time.frame ++ leBytes 1 (c.func + 8 * b2n c.autoHdg)
  ++ leBytes 1 (c.region + 16 * c.regFrom) ++ leBytes 1 c.fadeN ++ leBytes 1 fl
  ++ leBytes 4 (tc 32 (asr c.gN.p 32)) ++ leBytes 4 (tc 32 (asr c.gE.p 32)) ++ leBytes 4 (tc 32 c.gH.p)
  ++ leBytes 4 (tc 32 (asr x.etaN 32)) ++ leBytes 4 (tc 32 (asr x.etaE 32)) ++ leBytes 4 x.etaP
  ++ (upTo 3).flatMap (fun j => leBytes 4 (if c.func = 0 then 0 else (c.demand.getD j 0).toNat))
  ++ (upTo 3).flatMap (fun j => leBytes 4 (s.inNewton j (bias.getD j 0)).toNat)

/-- Hand the demand over and write the control record; in STANDBY none is handed over (R113, R118, R131). -/
def State.cexPublish (s : State) (ctrlLate : Bool) (bias : List Int) : State :=
  let i := (s.fget CEX_REC.IDX + 1) % 64
  let r := s.cexRecord ctrlLate bias
  let d (j : Nat) : Nat := (s.cex.demand.getD j 0).toNat
  let s1 := ((s.wrB rgnCex (i * 64) r).fset CEX_REC.IDX i).stage 7 0 r
  if s.cex.func = 0 then s1
  else ((s1.fset CEX_DEMAND_X.TAU (d 0)).fset CEX_DEMAND_Y.TAU (d 1)).fset CEX_DEMAND_N.TAU (d 2)

/-- The wind value and force taken for this frame (R110). -/
def State.windStep (s : State) : State × List Int × Nat :=
  let w := s.windVal s.fNow
  let (tau, fl) := s.windForce w
  let s1 := { s with cex := { s.cex with wind := match w with | some x => some x | none => s.cex.wind } }
  if w.isNone && (s.vesselCtx 25).isSome then
    ((if s.fbit CEX_STATUS.WIND_LOST then s1 else (s1.fup CEX_STATUS.WIND_LOST).event 0x05 0x07 1 (evData 0 0)), tau, fl)
  else if w.isNone then (s1.fup CEX_STATUS.WIND_LOST, tau, fl)
  else (s1, tau, fl)

/-- The law of the automatic axes in a frame (R111, R112). -/
structure LawPick where
  mpc : Bool               -- the MPC is the law in force
  stale : Bool             -- the MPC is wanted and has no usable result: the PID serves this frame
  n : Nat                  -- n of the blend, 0 none
  from_ : List Int         -- the demand a blend that began during another starts from; empty: the old law's own
  dem : List SatV
  deriving DecidableEq, Repr

/-- Choose and blend the laws: `pid` and `mpc` the demands of the two, both formed in every frame of a blend. A return to the MPC
after a fall-back is a law change, the fall-back itself is not blended (R111, R112; DEDUCED, logs 59 and 60). -/
def lawPick (c : CexSt) (x : Nat) (want : Bool) (pid : List SatV) (mpc : Option (List SatV)) : LawPick :=
  let use := want && mpc.isSome
  let stale := want && mpc.isNone
  let change := use != c.lawMpc && !stale
  let n := if stale then 0 else if change then 1 else if c.lawN = 0 ∨ c.lawN ≥ x then 0 else c.lawN + 1
  let frm : List Int := if change then (if c.lawN != 0 then c.tauPrev else []) else c.lawFrom
  let m (j : Nat) : SatV := match mpc with | some m => m.getD j (0, 0) | none => (c.tauPrev.getD j 0, 0)
  let p (j : Nat) : SatV := pid.getD j (0, 0)
  let dem (j : Nat) : SatV :=
    let new := if use then m j else p j
    let old := match frm[j]? with | some v => (v, 0) | none => if use then p j else m j
    if n = 0 then new else (xfade old.1 new.1 n x, old.2 ||| new.2)
  ⟨use, stale, n, frm, (upTo 3).map dem⟩

/-- Gain scheduling and the control law of the frame in progress (R107 to R113, R126 to R131). -/
def State.controlLaw (s : State) : State :=
  let eng := s.fget CEX_ASSIGN.LAW
  let (bias, f0) := biasBody s.cex.obs.x
  let wind := s.cex.obs.tauWind
  let s1 := (s.schedule bias wind).joyStep
  let c := s1.cex
  let g := c.gains
  let (ep, ev, f1) := s1.lawErrors
  let ffs := ffTerms g bias wind
  let pid := (upTo 3).map (pidDemand g ep ev c.integ c.ff)
  let ax (j : Nat) : Axis := axisOf c.func c.autoHdg j
  let held := (upTo 3).map (holdOf c)
  let ints := (upTo 3).map (fun j => if ax j == .idle || ax j == .joy then (c.integ.getD j 0, 0)
    else integStep g ep c.integ j (held.getD j false))
  let want := s1.lawConf
  let x := s1.fget CEX_CFG.XFADE
  let law := lawPick c x want pid (if want || c.lawMpc || c.lawN != 0 then s1.mpcDemand else none)
  let dem := (upTo 3).map (fun j => match ax j with
    | .idle => (0, 0)
    | .joy => joyDemand c g x j
    | .speed => law.dem.getD j (0, 0)
    | .auto => law.dem.getD j (0, 0))
  let lim (j : Nat) : Int := gainAt g 5 j
  let out := (upTo 3).map (fun j => clampI (- lim j) (lim j) (dem.getD j (0, 0)).1)
  let clamped := (upTo 3).any (fun j => (dem.getD j (0, 0)).1 != out.getD j 0)
  let hold := (upTo 3).map (fun j => clampHeld (dem.getD j (0, 0)).1 (out.getD j 0) (ep.getD j 0))
  let fl := [ffs, ints, dem, [((0 : Int), f0), (0, f1), (0, satBit gDemand clamped)]].flatten.foldl (fun a p => a ||| p.2) 0
  let demand := (upTo 3).map (fun j => fmul (fofDy (out.getD j 0) (-15)) (s1.fullScale j))
  let intHold := (upTo 3).any (fun j => held.getD j false && (ax j == .auto || ax j == .speed))
  let c1 := { c with intHold := intHold, integ := ints.map (·.1), ff := ffs.map (·.1), tauPrev := out, clampHold := hold,
                     lawMpc := law.mpc, lawN := law.n, lawFrom := law.from_, stale := law.stale, demand := demand,
                     lawK := some s.time.frame }
  let s2 := ({ s1 with cex := c1 }).satFlags eng fl
  let s3 := if intHold then s2.fup CEX_STATUS.INT_HOLD else s2
  let s4 := if law.stale then s3.fup CEX_STATUS.MPC_STALE else s3
  let s5 := (s4.fput CEX_STATUS.LAW law.mpc).fput CEX_STATUS.LAW_FADE (law.n != 0)
  s5.cexPublish false bias

/-- Count the frame as one with CTRL_LATE or PROF_LATE, once (R132). -/
def State.lateCount (s : State) : State :=
  if bit s.red.late 2 || bit s.red.late 3 then s else s.fcount CEX_CNT.LATE 1

/-- The control law is late (R96): the demand of frame k−1 is handed over unchanged. -/
def State.controlLate (s : State) : State :=
  let (bias, fb) := biasBody s.cex.obs.x
  let s1 := (({ s with cex := { s.cex with lawK := some s.time.frame } }).satFlags (s.fget CEX_ASSIGN.LAW) fb).fup CEX_STATUS.CTRL_LATE
  s1.lateCount.cexPublish true bias

/-! ## DP functions (R114 to R117) -/

/-- Preload of an integrator at capture (R117). -/
def preload (tauPrev ff : Int) : SatV := toF32 gLawI (tauPrev * 65536 - ff)

/-- The first unmet precondition of a function (R116), in the coding of PRECONDITION's DETAIL (R401). -/
def State.funcPre (s : State) (func : Nat) (ah : Bool) : Option Nat :=
  let fl := s.fus.last.flags
  let pos := bit fl 0
  let hdg := bit fl 1
  let joy := match s.vesselCtx 26 with | some n => (s.ctxOf n).q == .locked | none => false
  match func with
  | 1 => if ah && !hdg then some 2 else if !joy then some 4 else none
  | 2 => if !hdg then some 2 else none
  | 3 => if !pos then some 1 else if !hdg then some 2 else if s.fus.posUnc then some 3 else none
  | 4 => if !pos then some 1 else if !hdg then some 2 else if s.fus.posUnc then some 3
      else if s.cex.track.isEmpty then some 5 else none
  | _ => none

/-- Show the function (R114). -/
def State.showFunc (s : State) : State :=
  (s.fset CEX_FUNC.FUNC s.cex.func).fput CEX_FUNC.AUTOHDG (s.cex.autoHdg && s.cex.func == 1)

/-- Enter a function whose preconditions hold: capture under R117, the FUNC_CHANGE event. DESIGN CHOICE (log 259): a capture sets both
direction factors to 1. -/
def State.enterFunc (s : State) (func : Nat) (ah : Bool) : State :=
  let c := s.cex
  let x := c.obs.x
  let ((vn, ve, vr), fv) := s.nedVel
  let new (j : Nat) : Bool := axisOf func ah j != axisOf c.func c.autoHdg j
    && (axisOf func ah j == .auto || axisOf func ah j == .speed)
  let ff (j : Nat) : Int := c.ff.getD j 0
  let prev (j : Nat) : Int := if c.func = 0 then 0 else c.tauPrev.getD j 0
  let load (j : Nat) : SatV := if new j then preload (prev j) (ff j) else (c.integ.getD j 0, 0)
  let capN := new 0 && axisOf func ah 0 == Axis.auto
  let c1 := { c with
    func := func, autoHdg := ah, integ := (upTo 3).map (fun j => (load j).1),
    gN := if capN then ⟨x.etaN, vn, 0, x.etaN, fofNat 1⟩ else c.gN,
    gE := if capN then ⟨x.etaE, ve, 0, x.etaE, fofNat 1⟩ else c.gE,
    gH := if new 2 then ⟨Int.ofNat x.etaP, vr, 0, Int.ofNat x.etaP, fofNat 1⟩ else c.gH,
    spU := if new 0 && axisOf func ah 0 == Axis.speed then x.u else c.spU,
    spV := if new 1 && axisOf func ah 1 == Axis.speed then x.v else c.spV,
    joyMs := 0, joyN := 0, capt := b2n capN + 2 * b2n (new 2) + 4 }
  let s1 := ({ s with cex := c1 }).satFlags (s.fget CEX_ASSIGN.PROF) ((upTo 3).foldl (fun a j => a ||| (load j).2) fv)
  let s2 := if func = 4 ∧ c.func ≠ 4 then s1.trackEnter else s1
  s2.showFunc.event 0x05 0x06 0 (evData 0 func)

/-- Withdraw the demand: STANDBY (R116). -/
def State.funcStandby (s : State) : State :=
  if s.cex.func = 0 then s
  else (({ s with cex := { s.cex with func := 0, autoHdg := false, tauPrev := [0, 0, 0], demand := [0, 0, 0], clampHold := [false, false, false] } }).showFunc).event
    0x05 0x06 0 (evData 0 0)

/-- The profile step of a frame (R120, R124, R96), with the end of a track (R116): the heading target is then the heading reference, and
the direction factors stay (DESIGN CHOICE, log 259). An owed step is made by the generators that were not captured since. -/
def State.profileStep (s : State) : State :=
  let again := s.cex.profOwe
  let told := bit s.cex.capt 4
  let caps := s.cex.capt
  let s0 := { s with cex := { s.cex with profOwe := false, capt := caps / 8 * 8 } }
  let (s1, fin1) := s0.genSteps true true
  let (s2, fin2) := if again && !fin1 then
      let (t, f) := s1.genSteps (!bit caps 0) (!bit caps 1)
      (t, f || fin1)
    else (s1, fin1)
  if s2.cex.func = 4 ∧ fin2 then
    let last := s2.cex.path.getLast?
    let c := s2.cex
    let c1 := { c with func := 3, capt := 0,
                       gN := { c.gN with target := match last with | some w => w.n | none => c.gN.target },
                       gE := { c.gE with target := match last with | some w => w.e | none => c.gE.target },
                       gH := { c.gH with target := c.gH.p } }
    let s3 := ({ s2 with cex := c1 }).showFunc
    if told then s3 else (s3.event 0x05 0x05 0 (evData 0 0)).event 0x05 0x06 0 (evData 0 3)
  else s2

/-- The generator owes the step of this frame (R96). -/
def State.profOwed (s : State) : State :=
  (({ s with cex := { s.cex with profOwe := true } }).fup CEX_STATUS.PROF_LATE).lateCount

/-- The profile generator is late (R96): the reference of frame k−1 stands and the step is owed. -/
def State.profileLate (s : State) : State :=
  ({ s with cex := { s.cex with capt := s.cex.capt / 8 * 8 } }).profOwed

/-! ## The observer phase (R103, R96) -/

/-- Correct and commit x(k) (R103). -/
def State.obsCommit (s : State) : State :=
  let start := match s.cex.retroX with | some x => x | none => s.cex.obs.pred
  let (x, fl) := obsCorrect s.obsBody s.posExp start s.fus.last
  let (s1, tau, fw) := s.windStep
  let c := s1.cex
  ({ s1 with cex := { c with obs := { c.obs with x := x, tauWind := tau }, retroX := none,
                             wasLate := false, commitK := some s.time.frame, propOwed := true } }).satFlags (s.fget CEX_ASSIGN.OBS) (fl ||| fw)

/-- Propagate the committed state to the next boundary, with its covariance (R103, R105). -/
def State.obsProp (s : State) : State :=
  let c := s.cex
  let fix := s.fus.last
  let (pred, fl) := s.obsNext c.obs.x fix c.tauApp c.obs.tauWind
  let ndr := if bit fix.flags 0 then 0 else c.obs.ndr + 1
  let p := obsCov s.obsBody c.obs.p ndr fix
  ({ s with cex := { c with obs := { c.obs with pred := pred, p := p, ndr := ndr }, propOwed := false } }).satFlags
    (s.fget CEX_ASSIGN.OBS) fl

/-- The observer is late (R29, R96): x(k) is the prediction of F(k) made in frame k-1, whatever a retrodiction pass has found since; the
propagation is deferred. -/
def State.obsLate (s : State) : State :=
  let (s1, tau, fw) := s.windStep
  let c := s1.cex
  ({ s1 with cex := { c with obs := { c.obs with x := c.obs.pred, tauWind := tau }, retroX := none,
                             wasLate := true, commitK := some s.time.frame, propOwed := true } }).satFlags (s.fget CEX_ASSIGN.OBS) fw

/-! ## Engines (R96, R97) -/

/-- The control engines in service, rising. -/
def State.ceLive (s : State) : List Nat := (upTo 4).filter (fun n => !bit (s.fget CEX_ASSIGN.RETIRED) n)

/-- The engines for the observer, the law and the profile work among three or more in service: each piece of work stays where it is
while its engine is in service and carries no earlier piece, the rest go to the free engines in rising order, the law before the
others; then the spare (R96, R97). With `o` = `l`, the placement of a unit that had two engines, a third takes the law. Which of two
free engines takes it, where several came back while the unit did no frame work, is not stated (DESIGN CHOICE, log 225). -/
def cePick (live : List Nat) (o l p : Nat) : Nat × Nat × Nat × Option Nat :=
  let ok (n : Nat) : Bool := live.contains n
  let keepO := ok o
  let keepL := ok l && !(l == o)
  let keepP := ok p && !(p == o) && !(p == l)
  let free := live.filter (fun n => !((keepO && n == o) || (keepL && n == l) || (keepP && n == p)))
  let l1 := if keepL then l else free.headD l
  let free1 := if keepL then free else free.drop 1
  let o1 := if keepO then o else free1.headD o
  let free2 := if keepO then free1 else free1.drop 1
  let p1 := if keepP then p else free2.headD p
  (o1, l1, p1, (if keepP then free2 else free2.drop 1).head?)

/-- Place the work at a frame boundary after a retirement or a return (R96, R97). -/
def State.cePlace (s : State) : State :=
  let (o, l, p) := (s.fget CEX_ASSIGN.OBS, s.fget CEX_ASSIGN.LAW, s.fget CEX_ASSIGN.PROF)
  match s.ceLive with
  | [a, b] =>
    (((s.fset CEX_ASSIGN.OBS a).fset CEX_ASSIGN.LAW a).fset CEX_ASSIGN.PROF b).fset CEX_ASSIGN.SPARE_VALID 0
  | a :: b :: c :: r =>
    let (o1, l1, p1, sp) := cePick (a :: b :: c :: r) o l p
    let s1 := ((s.fset CEX_ASSIGN.OBS o1).fset CEX_ASSIGN.LAW l1).fset CEX_ASSIGN.PROF p1
    let s2 := match sp with
      | some n => (s1.fset CEX_ASSIGN.SPARE n).fup CEX_ASSIGN.SPARE_VALID
      | none => s1.fset CEX_ASSIGN.SPARE_VALID 0
    if o1 ≠ o ∨ l1 ≠ l ∨ p1 ≠ p then
      (s2.fup CEX_STATUS.ENG_MOVED).event 0x05 0x01 1 (evData 0 (if l1 ≠ l then l1 else if o1 ≠ o then o1 else p1))
    else s2
  | _ => s

end Sys2Proof.Machine
end

