-- ==== Sys2Proof/Machine/Solver.lean ====
section
/-!
DEFINITION. What the solver engines compute in both problems (R134, R138 to R143): sums in their fixed order, the check of
every value written, the regularised factorisation, the refined solve, and the run of iterations up to a stop.
-/

namespace Sys2Proof.Machine

/-! ## Values and sums (R134, R142) -/

/-- Does a value written pass the check of R142: no NaN, no infinity, at most 2^100 in magnitude? -/
def laneOk (x : Flt) : Bool := fle (fabs x) (fofDy 1 100)

/-- The terms of a dot product on the 32 logical lanes: `todo` the lanes still to take a term in this round, `done` those that
have, newest first. -/
def dotLanes : List (Flt × Flt) → List Flt → List Flt → Bool → List Flt × Bool
  | [], todo, done, ok => (done.reverse ++ todo, ok)
  | (a, b) :: ts, todo, done, ok =>
    let (todo, done) := if todo.isEmpty then (done.reverse, []) else (todo, done)
    let v := ffma a b (todo.headD 0)
    dotLanes ts todo.tail (v :: done) (ok && laneOk v)

/-- The lanes added as a tree, 2^n of them. -/
def laneTree : Nat → List Flt → Bool → Flt × Bool
  | 0, l, ok => (l.headD 0, ok)
  | n + 1, l, ok =>
    let m := List.zipWith fadd (l.take (2 ^ n)) (l.drop (2 ^ n))
    laneTree n m (ok && m.all laneOk)

/-- A dot product in the order of the PIPE style, and whether every value written passed (R134). -/
def dotPipe (ts : List (Flt × Flt)) : Flt × Bool :=
  let (l, ok) := dotLanes ts (List.replicate 32 0) [] true
  laneTree 5 l ok

/-- A sum of values in the order of the PIPE style. -/
def sumPipe (l : List Flt) : Flt := (dotPipe (l.map (fun x => (x, fofNat 1)))).1

/-! ## Double words (R140) -/

/-- What a solve notes as it runs: a value failed the check of R142; the pivots replaced (R141). -/
structure Lane where
  ovf : Bool
  pivots : Nat
  deriving DecidableEq, Repr

/-- A computation of an engine. -/
abbrev LaneM := StateM Lane

/-- Write a value (R142). -/
def wr (x : Flt) : LaneM Flt := fun l => (x, { l with ovf := l.ovf || !laneOk x })
/-- Write values. -/
def wrs (l : List Flt) : LaneM (List Flt) := l.mapM wr
/-- Write a sum. -/
def wrSum (p : Flt × Bool) : LaneM Flt := fun l => (p.1, { l with ovf := l.ovf || !p.2 || !laneOk p.1 })

/-- An exact two-sum: the rounded sum and what it lost (R140). -/
def twoSum (a b : Flt) : LaneM (Flt × Flt) := do
  let s ← wr (fadd a b)
  let t ← wr (fsub s a)
  let u ← wr (fsub s t)
  let v ← wr (fsub a u)
  let w ← wr (fsub b t)
  let e ← wr (fadd v w)
  pure (s, e)

/-- A double-word pair plus another, renormalised (R140). -/
def dwAdd (x y : Flt × Flt) : LaneM (Flt × Flt) := do
  let (s, t) ← twoSum x.1 y.1
  let u ← wr (fadd t x.2)
  let v ← wr (fadd u y.2)
  twoSum s v

/-- A product split exactly into a high and a low part by one FMA (R140). -/
def dwMul (a b : Flt) : LaneM (Flt × Flt) := do
  let h ← wr (fmul a b)
  let l ← wr (ffma a b (fneg h))
  pure (h, l)

/-- The lanes of a residual, as `dotLanes` in double words. -/
def dwLanes : List (Flt × Flt) → List (Flt × Flt) → List (Flt × Flt) → LaneM (List (Flt × Flt))
  | [], todo, done => pure (done.reverse ++ todo)
  | (a, b) :: ts, todo, done => do
    let (todo, done) := if todo.isEmpty then (done.reverse, []) else (todo, done)
    let x ← dwAdd (todo.headD (0, 0)) (← dwMul a b)
    dwLanes ts todo.tail (x :: done)

/-- The double-word lanes added as a tree. -/
def dwTree : Nat → List (Flt × Flt) → LaneM (Flt × Flt)
  | 0, l => pure (l.headD (0, 0))
  | n + 1, l => do
    let m ← ((l.take (2 ^ n)).zip (l.drop (2 ^ n))).mapM (fun p => dwAdd p.1 p.2)
    dwTree n m

/-- Double words added in a given order: each step adds entry `j` into entry `i`; what the order leaves is added from the left. -/
def dwMerge : List (Nat × Nat) → List (Flt × Flt) → LaneM (Flt × Flt)
  | [], l => l.tail.foldlM dwAdd (l.headD (0, 0))
  | (i, j) :: ms, l =>
    if i < l.length ∧ j < l.length ∧ i ≠ j then do
      let x ← dwAdd (l.getD i (0, 0)) (l.getD j (0, 0))
      dwMerge ms ((l.set i x).eraseIdx j)
    else dwMerge ms l

/-- A value worked out on its own, and whether every value written passed (R142). -/
def laneRun (m : LaneM Flt) : Flt × Bool := let (x, l) := m ⟨false, 0⟩; (x, !l.ovf)

/-- b − Σ a·x in double words, rounded once to binary32 (R140), in the order of the PIPE style (R134). -/
def resPipe (b : Flt) (ts : List (Flt × Flt)) : Flt × Bool := laneRun do
  let p ← dwTree 5 (← dwLanes ts (List.replicate 32 (0, 0)) [])
  let r ← dwAdd (b, 0) (fneg p.1, fneg p.2)
  wr (fadd r.1 r.2)

/-- The same in the order of the additions that a schedule gives: b first among the terms, then the products (R134, R140). -/
def resMerge (ms : List (Nat × Nat)) (b : Flt) (ts : List (Flt × Flt)) : Flt × Bool := laneRun do
  let ps ← ts.mapM (fun t => dwMul t.1 t.2)
  let r ← dwMerge ms ((b, 0) :: ps.map (fun p => (fneg p.1, fneg p.2)))
  wr (fadd r.1 r.2)

/-! ## Styles (R134, R135) -/

/-- The order of the sums and of the elimination in an execution style (R134, R135). -/
structure Style where
  dot : List (Flt × Flt) → Flt × Bool
  res : Flt → List (Flt × Flt) → Flt × Bool
  order : Nat → List Nat

/-- The PIPE style: lanes and tree, columns in order. -/
def stylePipe : Style := ⟨dotPipe, resPipe, upTo⟩

/-- The SCHED style of a schedule image: "the compiled schedule fixes the order of every operation", and its layout is not given, so
the rounded sums, the order of the additions of a residual and the order of elimination are open functions of the image (DESIGN
CHOICE, log 64). -/
def styleSched (img : List Byte) : Style :=
  { dot := fun ts => let x := Config.schedDot img ts; (x, laneOk x)
    res := fun b ts => resMerge (Config.schedMerge img (ts.length + 1)) b ts
    order := fun n => let o := Config.schedOrder img n; if o.isPerm (upTo n) then o else upTo n }

/-! ## Factorisation (R135, R140, R141) -/

/-- A square matrix, by rows. -/
abbrev Mat := List (List Flt)

/-- Entry (i, j). -/
def ment (m : Mat) (i j : Nat) : Flt := (m.getD i []).getD j 0

/-- δ of a factorisation: 2^(e − 20) with e the exponent of the largest diagonal entry, at least −100 (R141). -/
def pivotDelta (m : Mat) : Flt :=
  let dmax := (upTo m.length).foldl (fun a i => fmax a (fabs (ment m i i))) 0
  let e : Int := if flt dmax (fofDy 1 (-100)) then -100 else match fv dmax with
    | .fin _ n x => Int.ofNat n.log2 + x
    | _ => 128
  fofDy 1 (e - 20)

/-- Test a pivot and replace it where it is smaller than δ (R141). -/
def pivot (delta d : Flt) : LaneM Flt := fun l =>
  if flt (fabs d) delta then
    (if flt d 0 then fneg delta else delta, { l with pivots := l.pivots + 1 })
  else (d, l)

/-- One column of LDLᵀ: `low` holds the rows of L so far, `d` the pivots; the new rows and pivots (R135). -/
def ldlCol (st : Style) (m : Mat) (delta : Flt) (a : Mat × List Flt) (j : Nat) : LaneM (Mat × List Flt) := do
  let v ← wrs (List.zipWith fmul (a.1.getD j []) a.2)
  let s ← wrSum (st.dot ((a.1.getD j []).zip v))
  let x ← wr (fsub (ment m j j) s)
  let d ← pivot delta x
  let low ← (a.1.zipIdx).mapM (fun p => do
    if p.2 ≤ j then pure p.1
    else
      let s ← wrSum (st.dot (p.1.zip v))
      let x ← wr (fsub (ment m p.2 j) s)
      let y ← wr (fdiv x d)
      pure (p.1 ++ [y]))
  pure (low, a.2 ++ [d])

/-- LDLᵀ of a symmetric matrix, column by column: the rows of L below the unit diagonal, and D (R135, R141). -/
def ldl (st : Style) (m : Mat) : LaneM (Mat × List Flt) :=
  (upTo m.length).foldlM (ldlCol st m (pivotDelta m)) (m.map (fun _ => []), [])

/-- Forward substitution, row by row. -/
def ldlForward (st : Style) (low : Mat) (b : List Flt) : LaneM (List Flt) :=
  (low.zip b).foldlM (fun y p => do
    let s ← wrSum (st.dot (p.1.zip y))
    let x ← wr (fsub p.2 s)
    pure (y ++ [x])) []

/-- Backward substitution from the last row up: `x` holds the values of the rows after row `i - 1`. -/
def ldlBack (st : Style) (low : Mat) (z : List Flt) : Nat → List Flt → LaneM (List Flt)
  | 0, x => pure x
  | i + 1, x => do
    let s ← wrSum (st.dot (((low.drop (i + 1)).map (fun r => r.getD i 0)).zip x))
    let y ← wr (fsub (z.getD i 0) s)
    ldlBack st low z i (y :: x)

/-- A solve with a set of factors. -/
def ldlSolve (st : Style) (f : Mat × List Flt) (b : List Flt) : LaneM (List Flt) := do
  let y ← ldlForward st f.1 b
  let z ← wrs (List.zipWith fdiv y f.2)
  ldlBack st f.1 z z.length []

/-- A solve with `n` steps of iterative refinement (R140). -/
def ldlRefine (st : Style) (m : Mat) (f : Mat × List Flt) (b : List Flt) : Nat → List Flt → LaneM (List Flt)
  | 0, x => pure x
  | n + 1, x => do
    let r ← (m.zip b).mapM (fun p => wrSum (st.res p.2 (p.1.zip x)))
    let c ← ldlSolve st f r
    let y ← wrs (List.zipWith fadd x c)
    ldlRefine st m f b n y

/-- REFINE_N and REFINE_PIV (R140). -/
structure Refine where
  n : Nat
  piv : Nat
  deriving DecidableEq, Repr

/-- A matrix with its factors in the style's order, and the refinement steps each solve takes (R140). -/
structure Factors where
  perm : List Nat
  m : Mat
  f : Mat × List Flt
  steps : Nat

/-- Factorise a matrix; REFINE_PIV steps follow each solve where a pivot was replaced (R140, R141). -/
def factorise (st : Style) (rf : Refine) (m : Mat) : LaneM Factors := do
  let p := st.order m.length
  let mp := p.map (fun i => p.map (ment m i))
  let l ← get
  let f ← ldl st mp
  let l' ← get
  pure ⟨p, mp, f, if l.pivots < l'.pivots then rf.piv else rf.n⟩

/-- Solve with a set of factors. -/
def Factors.solve (st : Style) (f : Factors) (b : List Flt) : LaneM (List Flt) := do
  let bp := f.perm.map (fun i => b.getD i 0)
  let x ← ldlSolve st f.f bp
  let y ← ldlRefine st f.m f.f bp f.steps x
  pure ((upTo b.length).map (fun i => y.getD (f.perm.idxOf i) 0))

/-! ## The run of a solve (R139, R142) -/

/-- How a solve stops of itself. -/
inductive SolveEnd where
  /-- OPTIMAL. -/
  | optimal
  /-- ITER_CAP. -/
  | cap
  /-- OVERFLOW. -/
  | overflow
  deriving DecidableEq, Repr

/-- The iterations of a solve from a state, at most `n`: the state after each completed one with the pivots replaced so far, how it
stops, and the pivots replaced by then, those of a discarded iteration among them (R141). `conv` says whether the iteration found its
iterate converged and the iterate passes the check (R139). -/
def iterRun {σ : Type} (step : σ → LaneM (σ × Bool)) (ok : σ → Bool) : Nat → σ → Nat → List (σ × Nat) × SolveEnd × Nat
  | 0, _, p => ([], .cap, p)
  | n + 1, x, p =>
    let ((y, conv), l) := step x ⟨false, p⟩
    if l.ovf then ([], .overflow, l.pivots)
    else if conv && ok y then ([(y, l.pivots)], .optimal, l.pivots)
    else
      let (r, e) := iterRun step ok n y l.pivots
      ((y, l.pivots) :: r, e)

/-- A solve worked out: the result of each completed iteration that passed the check, with the pivots replaced by then, and how it
stops and with how many pivots replaced; `it0` says that iterate 0 was formed without overflow, `first` is its projection where that
passed the check (R139, R142). -/
structure Trace (α : Type) where
  it0 : Bool
  first : Option α
  its : List (Option α × Nat)
  stop : SolveEnd
  piv : Nat
  deriving DecidableEq, Repr

/-- A stop from outside (R143): how many iterations were complete, none before iterate 0 was; the status it gives. -/
structure Cut where
  n : Option Nat
  st : Nat
  deriving DecidableEq, Repr

/-- The outcome of a solve: the iterations completed, the status where a committed iterate exists, OVF, TIMED (R139 to R145). A solve
that needs no more iterations than a stop from outside allows has ended of itself. -/
def Trace.outcome {α : Type} (t : Trace α) (c : Option Cut) : Nat × Nat × Bool × Bool :=
  let own : Nat × Nat × Bool × Bool := match t.stop with
    | .optimal => (t.its.length, 0, false, false)
    | .cap => (t.its.length, 1, false, false)
    | .overflow => (t.its.length, 4, true, false)
  match c with
  | none => if t.it0 then own else (0, 4, true, false)
  | some ⟨none, st⟩ => (0, st, false, true)
  | some ⟨some n, st⟩ =>
    if !t.it0 then (0, 4, true, false)
    else if n < t.its.length || (n == t.its.length && t.stop == .overflow) then (n, st, false, true) else own

/-- The committed iterate at a stop, none where no iterate passed the check in time (R139, R143, R146). -/
def Trace.committed {α : Type} (t : Trace α) (c : Option Cut) : Option α :=
  if !t.it0 || c.any (fun x => x.n.isNone) then none
  else (t.its.take (t.outcome c).1).foldl (fun b o => match o.1 with | some v => some v | none => b) t.first

/-- The pivots replaced in the first `n` iterations. -/
def Trace.done {α : Type} (t : Trace α) (n : Nat) : Nat := (((t.its.take n).getLast?).map (·.2)).getD 0

/-- The pivots replaced by a stop (R141). A stop from outside cuts an iteration off at an open point: of the pivots it would have
replaced, at most `v` have been (DESIGN CHOICE, log 263). -/
def Trace.pivots {α : Type} (t : Trace α) (c : Option Cut) (v : Nat) : Nat :=
  let (n, _, ovf, timed) := t.outcome c
  if !t.it0 || c.any (fun x => x.n.isNone) then 0
  else if timed then
    let next := match t.its[n]? with | some y => y.2 | none => t.piv
    t.done n + min v (next - t.done n)
  else if ovf then t.piv else t.done n

/-- The infinity norm. -/
def normInf (l : List Flt) : Flt := l.foldl (fun a x => fmax a (fabs x)) 0

end Sys2Proof.Machine
end

