-- ==== Sys2Proof/Machine/Active.lean ====
section
/-!
DEFINITION. The primal active-set method of allocation (R158) on a problem with a diagonal cost, bounds and rows.
-/

namespace Sys2Proof.Machine

/-- A row a · x with its right-hand side. -/
structure QRow where
  a : List Flt
  b : Flt
  deriving DecidableEq, Repr

/-- min ½ xᵀ diag(h) x + cᵀ x with a · x = b on `eqs`, a · x ≤ b on `rows`, and bounds. -/
structure Qp where
  h : List Flt
  c : List Flt
  eqs : List QRow
  rows : List QRow
  lo : List (Option Flt)
  hi : List (Option Flt)
  deriving DecidableEq, Repr

/-- A value times a power of two. -/
def fpow2 (x : Flt) (e : Int) : Flt := fmul x (fofDy 1 e)

/-- A row in scaled variables, itself scaled by 2^f. -/
def QRow.scaled (v : Nat → Int) (f : Int) (r : QRow) : QRow :=
  ⟨(r.a.zipIdx).map (fun p => fpow2 p.1 (v p.2 + f)), fpow2 r.b f⟩

/-- The scaled problem: variable j is 2^(v j) times its scaled value (R138). -/
def Qp.scaled (v r : Nat → Int) (q : Qp) : Qp :=
  let ne := q.eqs.length
  { h := (q.h.zipIdx).map (fun p => fpow2 p.1 (2 * v p.2))
    c := (q.c.zipIdx).map (fun p => fpow2 p.1 (v p.2))
    eqs := (q.eqs.zipIdx).map (fun p => p.1.scaled v (r p.2))
    rows := (q.rows.zipIdx).map (fun p => p.1.scaled v (r (ne + p.2)))
    lo := (q.lo.zipIdx).map (fun p => p.1.map (fun x => fpow2 x (-(v p.2))))
    hi := (q.hi.zipIdx).map (fun p => p.1.map (fun x => fpow2 x (-(v p.2)))) }

/-- An iterate with its working set and the steps of length zero in a row (R158). A constraint's index: 2j the lower bound of variable j,
2j + 1 its upper bound, then the rows (DESIGN CHOICE, log 235). -/
structure AsSt where
  x : List Flt
  work : List Nat
  zeros : Nat
  deriving DecidableEq, Repr

/-- The working set of iterate 0: every bound and row it meets with equality, bit for bit (R158). -/
def Qp.work0 (st : Style) (q : Qp) (x : List Flt) : List Nat :=
  let n := q.h.length
  let bnd := (upTo n).flatMap (fun j =>
    (if q.lo.getD j none == some (x.getD j 0) then [2 * j] else []) ++ (if q.hi.getD j none == some (x.getD j 0) then [2 * j + 1] else []))
  bnd ++ (q.rows.zipIdx).filterMap (fun p => if (st.dot (p.1.a.zip x)).1 == p.1.b then some (2 * n + p.2) else none)

/-- The step and the multipliers of the equality-constrained problem on a working set: one KKT factorisation (R158). A variable at a
bound of the working set stays out of the matrix. -/
def Qp.kkt (st : Style) (rf : Refine) (q : Qp) (s : AsSt) : LaneM (List Flt × List Flt) := do
  let n := q.h.length
  let fixed (j : Nat) : Bool := s.work.any (fun c => decide (c < 2 * n) && c / 2 == j)
  let free := (upTo n).filter (fun j => !fixed j)
  let act := q.eqs ++ (s.work.filter (fun c => decide (2 * n ≤ c))).map (fun c => q.rows.getD (c - 2 * n) ⟨[], 0⟩)
  let nr := act.length
  let top := (free.zipIdx).map (fun p =>
    (upTo free.length).map (fun i => if i = p.2 then q.h.getD p.1 0 else 0) ++ act.map (fun r => r.a.getD p.1 0))
  let bot := act.map (fun r => free.map (fun j => r.a.getD j 0) ++ List.replicate nr 0)
  let g ← wrs (free.map (fun j => fneg (ffma (q.h.getD j 0) (s.x.getD j 0) (q.c.getD j 0))))
  let b ← act.mapM (fun r => do
    let t ← wrSum (st.dot (r.a.zip s.x))
    wr (fsub r.b t))
  let f ← factorise st rf (top ++ bot)
  let z ← f.solve st (g ++ b)
  let p := (upTo n).map (fun j => if fixed j then 0 else z.getD (free.idxOf j) 0)
  pure (p, z.drop free.length)

/-- The multipliers of the working set's inequalities, with their constraints (R158). -/
def Qp.mults (st : Style) (q : Qp) (s : AsSt) (lam : List Flt) : LaneM (List (Nat × Flt)) := do
  let n := q.h.length
  let ne := q.eqs.length
  let actRows := s.work.filter (fun c => decide (2 * n ≤ c))
  let act := q.eqs ++ actRows.map (fun c => q.rows.getD (c - 2 * n) ⟨[], 0⟩)
  let bnds ← (s.work.filter (fun c => decide (c < 2 * n))).mapM (fun c => do
    let j := c / 2
    let t ← wrSum (st.dot ((act.map (fun r => r.a.getD j 0)).zip lam))
    let g ← wr (ffma (q.h.getD j 0) (s.x.getD j 0) (q.c.getD j 0))
    let nu ← wr (fadd g t)
    -- a variable held from both sides keeps the side its multiplier favours
    let both := s.work.contains (2 * j) && s.work.contains (2 * j + 1)
    let m := if c % 2 = 0 then nu else fneg nu
    pure (c, if both then fmax m 0 else m))
  pure (bnds ++ actRows.zip (lam.drop ne))

/-- The constraint outside the working set that blocks a step first, with the length it leaves; ties to the lowest index (R158). -/
def Qp.block (st : Style) (q : Qp) (s : AsSt) (p : List Flt) : LaneM (Option (Nat × Flt)) := do
  let n := q.h.length
  let best (b : Option (Nat × Flt)) (c : Nat) (t : Flt) : Option (Nat × Flt) :=
    let t := fmax t 0
    match b with
    | none => if flt t (fofNat 1) then some (c, t) else none
    | some y => if flt t y.2 then some (c, t) else b
  let bnd ← (upTo n).foldlM (fun b j => do
    let (x, d) := (s.x.getD j 0, p.getD j 0)
    let side (c : Nat) (l : Option Flt) (go : Bool) (b : Option (Nat × Flt)) : LaneM (Option (Nat × Flt)) := match l with
      | some l => if go && !s.work.contains c then do
          let e ← wr (fsub l x)
          let t ← wr (fdiv e d)
          pure (best b c t)
        else pure b
      | none => pure b
    let b1 ← side (2 * j) (q.lo.getD j none) (flt d 0) b
    side (2 * j + 1) (q.hi.getD j none) (fpos d) b1) none
  (q.rows.zipIdx).foldlM (fun b r => do
    let c := 2 * n + r.2
    if s.work.contains c then pure b
    else
      let d ← wrSum (st.dot (r.1.a.zip p))
      let ax ← wrSum (st.dot (r.1.a.zip s.x))
      if fpos d then do
        let e ← wr (fsub r.1.b ax)
        let t ← wr (fdiv e d)
        pure (best b c t)
      else pure b) bnd

/-- EPS_P and EPS_D of allocation, and FEAS_TOL (R138). -/
def epsAllocP : Flt := fofRat 1 10000
def epsAllocD : Flt := fofRat 1 100000
def feasTol : Flt := fofRat 1 1000

/-- One iteration: the new iterate, and whether it has converged (R158). -/
def Qp.iter (st : Style) (rf : Refine) (q : Qp) (s : AsSt) : LaneM (AsSt × Bool) := do
  let (p, lam) ← q.kkt st rf s
  if fle (normInf p) epsAllocP then
    let ms ← q.mults st s lam
    let neg := ms.filter (fun m => flt m.2 (fneg epsAllocD))
    match neg with
    | [] => pure (s, true)
    | m :: rest =>
      -- after three steps of length zero in a row the lowest index leaves
      let less (a b : Nat × Flt) : Bool := if 3 ≤ s.zeros then decide (b.1 < a.1) else flt b.2 a.2 || (feq b.2 a.2 && decide (b.1 < a.1))
      let out := rest.foldl (fun a b => if less a b then b else a) m
      pure ({ s with work := s.work.filter (· != out.1) }, false)
  else
    match ← q.block st s p with
    | none => do
      let x ← wrs (List.zipWith fadd s.x p)
      pure ({ s with x := x, zeros := 0 }, false)
    | some (c, t) => do
      let x ← wrs (List.zipWith (fun a d => ffma t d a) s.x p)
      let n := q.h.length
      -- the variable of a blocking bound lies on it exactly
      let x := if c < 2 * n then
          x.set (c / 2) (((if c % 2 = 0 then q.lo else q.hi).getD (c / 2) none).getD 0)
        else x
      pure (⟨x, s.work ++ [c], if fpos t then 0 else s.zeros + 1⟩, false)

end Sys2Proof.Machine
end

