-- ==== Sys2Proof/Machine/Ipm.lean ====
section
/-!
DEFINITION. The interior-point method of the MPC (R148): predictor and corrector from one factorisation an iteration, on a problem
with a quadratic cost, equalities and inequalities.
-/

namespace Sys2Proof.Machine

/-- min ½ zᵀ h z + cᵀ z with a · z = b on `eqs` and a · z ≤ b on `rows`. -/
structure Ip where
  h : Mat
  c : List Flt
  eqs : List QRow
  rows : List QRow
  deriving DecidableEq, Repr

/-- The scaled problem: variable j is 2^(v j) times its scaled value (R138). -/
def Ip.scaled (v r : Nat → Int) (q : Ip) : Ip :=
  let ne := q.eqs.length
  { h := (q.h.zipIdx).map (fun p => (p.1.zipIdx).map (fun x => fpow2 x.1 (v p.2 + v x.2)))
    c := (q.c.zipIdx).map (fun p => fpow2 p.1 (v p.2))
    eqs := (q.eqs.zipIdx).map (fun p => p.1.scaled v (r p.2))
    rows := (q.rows.zipIdx).map (fun p => p.1.scaled v (r (ne + p.2))) }

/-- An iterate: variables, multipliers of the equalities, slacks and multipliers of the inequalities. -/
structure IpSt where
  z : List Flt
  y : List Flt
  w : List Flt
  lam : List Flt
  deriving DecidableEq, Repr

/-- Column `j` of rows. -/
def colOf (rs : List QRow) (j : Nat) : List Flt := rs.map (fun r => r.a.getD j 0)

/-- The residuals of an iterate: dual, primal, inequality, and the mean complementarity μ (R138, R148). -/
structure IpRes where
  rd : List Flt
  rp : List Flt
  rg : List Flt
  mu : Flt

/-- μ of slacks and multipliers. -/
def ipMu (st : Style) (w lam : List Flt) : LaneM Flt := do
  let s ← wrSum (st.dot (w.zip lam))
  if w.isEmpty then pure 0 else wr (fdiv s (fofNat w.length))

/-- Form the residuals. -/
def Ip.residuals (st : Style) (q : Ip) (s : IpSt) : LaneM IpRes := do
  let rd ← (q.h.zipIdx).mapM (fun p => do
    let t ← wrSum (st.dot ((p.1 ++ colOf q.eqs p.2 ++ colOf q.rows p.2).zip (s.z ++ s.y ++ s.lam)))
    wr (fadd t (q.c.getD p.2 0)))
  let rp ← q.eqs.mapM (fun r => do
    let t ← wrSum (st.dot (r.a.zip s.z))
    wr (fsub t r.b))
  let rg ← (q.rows.zip s.w).mapM (fun r => do
    let t ← wrSum (st.dot (r.1.a.zip s.z))
    let u ← wr (fsub t r.1.b)
    wr (fadd u r.2))
  let mu ← ipMu st s.w s.lam
  pure ⟨rd, rp, rg, mu⟩

/-- EPS_P, EPS_D and EPS_C of the MPC (R138). -/
def IpRes.small (r : IpRes) : Bool :=
  fle (normInf (r.rp ++ r.rg)) (fofRat 1 10000) && fle (normInf r.rd) (fofRat 1 10000) && fle r.mu (fofRat 1 1000000)

/-- The KKT matrix of an iterate: the inequalities condensed with λ/w (R148). -/
def Ip.matrix (st : Style) (q : Ip) (s : IpSt) : LaneM Mat := do
  let n := q.h.length
  let d ← wrs (List.zipWith fdiv s.lam s.w)
  let top ← (q.h.zipIdx).mapM (fun p => do
    let gd ← wrs (List.zipWith fmul (colOf q.rows p.2) d)
    let row ← (upTo n).mapM (fun j => do
      let t ← wrSum (st.dot (gd.zip (colOf q.rows j)))
      wr (fadd (p.1.getD j 0) t))
    pure (row ++ colOf q.eqs p.2))
  pure (top ++ q.eqs.map (fun r => (upTo n).map (fun j => r.a.getD j 0) ++ q.eqs.map (fun _ => 0)))

/-- The step of an iterate for complementarity residuals `rc` (R148). -/
def Ip.direction (st : Style) (q : Ip) (f : Factors) (s : IpSt) (r : IpRes) (rc : List Flt) : LaneM IpSt := do
  let n := q.h.length
  let e ← ((rc.zip (s.lam.zip r.rg)).zip s.w).mapM (fun p => do
    let t ← wr (ffma p.1.2.1 p.1.2.2 (fneg p.1.1))
    wr (fdiv t p.2))
  let b ← (r.rd.zipIdx).mapM (fun p => do
    let t ← wrSum (st.dot ((colOf q.rows p.2).zip e))
    wr (fneg (fadd p.1 t)))
  let x ← f.solve st (b ++ r.rp.map fneg)
  let dz := x.take n
  let dw ← (q.rows.zip r.rg).mapM (fun p => do
    let t ← wrSum (st.dot (p.1.a.zip dz))
    wr (fneg (fadd p.2 t)))
  let dl ← ((rc.zip (s.lam.zip dw)).zip s.w).mapM (fun p => do
    let t ← wr (fneg (ffma p.1.2.1 p.1.2.2 p.1.1))
    wr (fdiv t p.2))
  pure ⟨dz, x.drop n, dw, dl⟩

/-- min(1, 0.99 × the largest step that keeps every slack and multiplier positive) (R148). -/
def ipStep (v d : List Flt) : LaneM Flt :=
  (v.zip d).foldlM (fun a p =>
    if flt p.2 0 then do
      let t ← wr (fdiv (fneg p.1) p.2)
      let u ← wr (fmul (fofRat 99 100) t)
      pure (fmin a u)
    else pure a) (fofNat 1)

/-- Move by a step. -/
def ipAdd (t : Flt) (a d : List Flt) : LaneM (List Flt) := wrs (List.zipWith (fun x y => ffma t y x) a d)

/-- One iteration: residuals, factorisation, predictor, σ, corrector, step length, update; whether the residual tests of the new
iterate hold (R148). -/
def Ip.iter (st : Style) (rf : Refine) (q : Ip) (s : IpSt) : LaneM (IpSt × Bool) := do
  let r ← q.residuals st s
  let f ← factorise st rf (← q.matrix st s)
  let rc ← wrs (List.zipWith fmul s.w s.lam)
  let a ← q.direction st f s r rc
  let ta ← ipStep (s.w ++ s.lam) (a.w ++ a.lam)
  let mua ← ipMu st (← ipAdd ta s.w a.w) (← ipAdd ta s.lam a.lam)
  let ratio ← if s.w.isEmpty then pure 0 else wr (fdiv mua r.mu)
  let sq ← wr (fmul ratio ratio)
  let sigma ← wr (fmul sq ratio)
  let sm ← wr (fmul sigma r.mu)
  let rc' ← (rc.zip (a.w.zip a.lam)).mapM (fun p => do
    let t ← wr (ffma p.2.1 p.2.2 p.1)
    wr (fsub t sm))
  let d ← q.direction st f s r rc'
  let t ← ipStep (s.w ++ s.lam) (d.w ++ d.lam)
  let s' : IpSt := ⟨← ipAdd t s.z d.z, ← ipAdd t s.y d.y, ← ipAdd t s.w d.w, ← ipAdd t s.lam d.lam⟩
  let r' ← q.residuals st s'
  pure (s', r'.small)

end Sys2Proof.Machine
end

