-- ==== Sys2Proof/Machine/Alloc.lean ====
section
/-!
DEFINITION. Allocation (R153 to R163): status words, the bounds, powers and forces of a thruster, the snapshot and its slots.
-/

namespace Sys2Proof.Machine

/-! ## Status words (R144, R145) -/

/-- A status word. -/
def statWord (status iter : Nat) (pivot ovf timed : Bool) : Nat :=
  status + 16 * min iter 63 + 1024 * b2n pivot + 2048 * b2n ovf + 4096 * b2n timed

/-- STATUS of a status word. -/
def stStatus (w : Nat) : Nat := w % 16
/-- ITER of a status word. -/
def stIter (w : Nat) : Nat := w / 16 % 64
/-- TIMED of a status word. -/
def stTimed (w : Nat) : Bool := bit w 12
/-- NOT_RUN. -/
def stNotRun : Nat := 6

/-! ## One thruster (R153, R155, R156) -/

/-- Bounds of a thruster in a frame. -/
structure Bnd where
  lo : Flt
  hi : Flt
  aLo : Flt
  aHi : Flt
  deriving DecidableEq, Repr

/-- Has a kind an azimuth variable. -/
def kindAz (k : Nat) : Bool := k == 1 || k == 2

/-- The allocation object's body. -/
def State.allocBody (s : State) : List Byte := (s.obj 0x0D 0).getD []
/-- TRUST, SECTOR_T, STATUS_AGE, NA_TOL (R534). -/
def trustOf (b : List Byte) : Nat := uAt 4 b 460
def sectorT (b : List Byte) : Flt := fofDy (sAt 2 b 464) (-15)
def statusAge (b : List Byte) : Nat := uAt 1 b 466
def naTol (b : List Byte) (j : Nat) : Flt := fltAt b (468 + 4 * j)

/-- Is an angle strictly inside a sector taken clockwise. -/
def inSector (a : Nat) (p : Nat × Nat) : Bool :=
  let d := tc 32 (Int.ofNat a - Int.ofNat p.1)
  let w := tc 32 (Int.ofNat p.2 - Int.ofNat p.1)
  decide (0 < d) && decide (d < w)

/-- The bounds of R155 at a linearisation point. -/
def bounds (h : Flt) (trust : Nat) (st : Flt) (c : ThrCfg) (l : ThrLim) (t0 : Flt) (a0 : Nat) : Bnd :=
  let rt := fmul l.tRate h
  let inS := if kindAz c.kind then l.sect.find? (inSector a0) else none
  let thi := if inS.isSome then fmul l.fwd st else l.fwd
  let tlo := if c.kind = 1 then 0 else fneg l.rev
  let lo := fmax tlo (fsub t0 rt)
  let hi := fmin thi (fadd t0 rt)
  let rate := fmul (fmul l.aRate h) (fofRat 3141592653589793238 (180 * 10 ^ 18))
  let ra := fmin rate (b32rad (Int.ofNat trust))
  if !kindAz c.kind then ⟨lo, hi, 0, 0⟩
  else match inS with
    | some p =>
      let toEnd := tc 32 (Int.ofNat p.2 - Int.ofNat a0)
      let toStart := tc 32 (Int.ofNat a0 - Int.ofNat p.1)
      if toEnd ≤ toStart then ⟨lo, hi, 0, ra⟩ else ⟨lo, hi, fneg ra, 0⟩
    | none =>
      let up := l.sect.foldl (fun m p => fmin m (b32rad (Int.ofNat (tc 32 (Int.ofNat p.1 - Int.ofNat a0))))) ra
      let dn := l.sect.foldl (fun m p => fmin m (b32rad (Int.ofNat (tc 32 (Int.ofNat a0 - Int.ofNat p.2))))) ra
      ⟨lo, hi, fneg dn, up⟩

/-- P_i(|T|) (R156). -/
def powerAt (c : ThrCfg) (l : ThrLim) (t : Flt) : Flt :=
  let step := fdiv (fmax l.fwd l.rev) (fofNat 8)
  if !fpos step then c.ptab.getD 0 0
  else
    let x := fdiv (fabs t) step
    let j := min (fSatInt (fun n d => n.fdiv (Int.ofNat d)) 32 x).toNat 7
    let p (i : Nat) : Flt := c.ptab.getD i 0
    fadd (p j) (fmul (fsub (p (j + 1)) (p j)) (fsub x (fofNat j)))

/-- chord_i(T) over the bounds (R156). -/
def chord (c : ThrCfg) (l : ThrLim) (b : Bnd) (t : Flt) : Flt :=
  let p0 := powerAt c l b.lo
  if feq b.lo b.hi then p0
  else fadd p0 (fdiv (fmul (fsub (powerAt c l b.hi) p0) (fsub t b.lo)) (fsub b.hi b.lo))

/-- The thrust bound nearest zero (R156). -/
def tMin (b : Bnd) : Flt := fclamp 0 b.lo b.hi

/-- Force in the body frame of a thrust and an azimuth or rudder angle (R153, R160): X, Y in N and N in N·m. -/
def thrForce (c : ThrCfg) (t : Flt) (ang : Nat) : List Flt :=
  let (fx, fy) := match c.kind with
    | 1 => (fmul t (cosB ang), fmul t (sinB ang))
    | 2 => (t, fmul (fmul c.lift (fmax t 0)) (sinB ang))
    | _ => (fmul t (cosB c.dir), fmul t (sinB c.dir))
  [fx, fy, fsub (fmul (mToM c.x) fy) (fmul (mToM c.y) fx)]

/-- Radians as B32 units, ties to even (R160). -/
def radB32 (a : Flt) : Int :=
  match fv a with
  | .fin n m e =>
    let k := 2 ^ 32 * 10 ^ 18
    if e ≥ 0 then rndEven (sgnI n m * Int.ofNat (k * 2 ^ e.toNat)) 6283185307179586477
    else rndEven (sgnI n m * Int.ofNat k) (6283185307179586477 * 2 ^ (-e).toNat)
  | _ => 0

/-! ## The snapshot (R163) -/

/-- Feed sections of a thruster. -/
def feeds (c : ThrCfg) : List Nat := if c.feed2 < 16 then [c.feed1, c.feed2] else [c.feed1]

/-- The mask of the configured thrusters. -/
def State.thrMask (s : State) : Nat := s.thrIdx.foldl (fun m i => m ||| 2 ^ i) 0
/-- The mask of the configured sections. -/
def State.sectMask (s : State) : Nat :=
  (upTo 16).foldl (fun m i => if (s.obj 0x04 i).isSome then m ||| 2 ^ i else m) 0

/-- Is a section available (R163). -/
def State.sectOn (s : State) (i : Nat) : Bool :=
  (s.obj 0x04 i).isSome && (match (s.slv.sect.getD i none) with | some r => r.on | none => false)

/-- The PIER object of a node: PKIND, ZONE, WITNESS (R404). -/
def State.pierOf (s : State) (node : Nat) : Option (Nat × Nat × Bool) :=
  (s.cfg.objs.find? (fun o => idKind o.id == 0x10 && o.flags % 2 == 1 && uAt 2 o.body 0 == node)).map
    (fun o => (uAt 1 o.body 2, uAt 1 o.body 3, uAt 1 o.body 4 == 1))

/-- Is epoch `a` later than `b` (R192). -/
def later (a b : Nat) : Bool := decide (0 < sx 32 (tc 32 (Int.ofNat a - Int.ofNat b)))

/-- The own frame in which the last STATUS of a pier came. -/
def State.pierFrame (s : State) (node : Nat) : Option Nat := (s.red.piers.find? (fun p => p.1 == node)).map (·.2)

/-- The piers of the own zone whose STATUS is received and reports STARVED (R204): no older than STATUS_AGE. -/
def State.zoneStarved (s : State) : List Nat :=
  ((s.red.starved.map (·.1)).filter (fun n => match s.pierFrame n with
    | some f => decide (s.time.frame ≤ f + statusAge s.allocBody)
    | none => false)).filter (fun n => match s.pierOf n with
    | some z => z.2.1 == s.fget RED_CFG.ZONE && s.fget RED_CFG.ZONE != 0
    | none => false)

/-- A zone pier that starves later joins the ZONE unit at its next snapshot (R204). -/
def State.zoneJoin (s : State) : State :=
  if s.role == .zone then
    { s with red := { s.red with zonePiers := s.red.zonePiers ++ s.zoneStarved.filter (fun n => !s.red.zonePiers.contains n) } }
  else s

/-- The conditions ZONE_SPLIT puts on the pier of a thruster (R204): a ZONE unit has the piers it has taken; under ZONE_SPLIT the
holder leaves piers whose STATUS reports an accepted epoch other than its own, once a STATUS has come in a later frame than the one
in which that epoch was taken: before it, no command of the epoch has reached the pier (DEDUCED, log 237). -/
def State.zoneOk (s : State) (node : Nat) : Bool :=
  if s.role == .zone then s.red.zonePiers.contains node
  else if s.fbit RED_CFG.SPLIT_POLICY then
    !(s.red.pierEpoch.any (fun p => p.1 == node && p.2 != s.fget RED_EPOCH.EPOCH)
      && (match s.pierFrame node with | some f => decide (s.red.epochAt < f) | none => false))
  else true

/-- Is a thruster available in frame `k` (R163). -/
def State.thrOn (s : State) (k i : Nat) : Bool :=
  match s.thr i with
  | none => false
  | some c =>
    !bit s.slv.excl i && !bit s.slv.deadPath i && s.zoneOk c.node && (feeds c).any s.sectOn
      && (match s.slv.thr.getD i none with
          | some r => r.st == 0 && decide (k ≤ r.frame + statusAge s.allocBody)
          | none => false)

/-- avail_s and whether P_FALLBACK was used (R156). -/
def State.sectAvail (s : State) (f i : Nat) : Flt × Bool :=
  let fb : Flt := match s.obj 0x04 i with | some b => fltAt b 12 | none => 0
  match s.slv.sect.getD i none with
  | some r => if f ≤ r.at_ + 1000000000 then (r.avail, false) else (fb, true)
  | none => (fb, true)

/-- T0 and α0 of a thruster (R159). -/
def State.linPoint (s : State) (i : Nat) : Word × Nat :=
  match s.slv.base.getD i none with
  | some p => p
  | none => match s.slv.thr.getD i none with
    | some r => (r.t, r.ang)
    | none => (0, match s.thr i with | some c => if kindAz c.kind then c.dir else 0 | none => 0)

/-- An empty result. -/
def outNone : SlotOut :=
  ⟨List.replicate 32 0, List.replicate 32 0, List.replicate 32 0, [0, 0, 0], List.replicate 16 0, [false, false, false]⟩

/-- A slot outside the problem. -/
def slotIdle : SlotSt := ⟨0, 0, false, false, outNone, [], none, stNotRun⟩

/-- Is a scenario slot defined and enabled (R162). -/
def State.slotEn (s : State) (i : Nat) : Bool := bit (s.fget SLV_SCEN.EN) (i - 1) && (s.obj 0x0A i).isSome

/-- Is the allocation of frame `k` solved in the SCHED style: ALLOC_STYLE asks for it, its image is there and has not failed (R135). -/
def State.schedOn (s : State) (k : Nat) : Bool :=
  s.fget SLV_CFG.ALLOC_STYLE == 1 && (s.img 2 1).isSome && !(s.slv.pipe.any (fun f => decide (f ≤ k)))

/-- Take the snapshot of frame `k` (R163) and define its slots (R162): a slot whose sets are those of the snapshot is degenerate,
enabled or not. -/
def State.snapshot (s : State) (k : Nat) : State :=
  let thr := (upTo 32).foldl (fun m i => if s.thrOn k i then m ||| 2 ^ i else m) 0
  let sect := (upTo 16).foldl (fun m i => if s.sectOn i then m ||| 2 ^ i else m) 0
  let av := (upTo 16).map (fun i => s.sectAvail s.fNow i)
  let stale := (upTo 16).foldl (fun m i =>
    if (s.obj 0x04 i).isSome && (av.getD i (0, false)).2 then m ||| 2 ^ i else m) 0
  let u := s.thrMask &&& (2 ^ 32 - 1 - thr)
  let w := s.sectMask &&& (2 ^ 16 - 1 - sect)
  let degraded := s.op == .degraded || s.role == .zone
  let slot (i : Nat) : SlotSt :=
    if i = 0 then { slotIdle with u := u, w := w, run := true }
    else
      let b := (s.obj 0x0A i).getD []
      let wi := w ||| (uAt 2 b 4 &&& s.sectMask)
      let ui := u ||| (uAt 4 b 0 &&& s.thrMask) ||| s.thrIdx.foldl (fun m t =>
        match s.thr t with
        | some c => if (feeds c).all (fun f => bit wi f) then m ||| 2 ^ t else m
        | none => m) 0
      let dg := (s.obj 0x0A i).isSome && ui == u && wi == w
      { slotIdle with u := ui, w := wi, degen := dg, run := s.slotEn i && !dg && !degraded }
  let slots := (upTo 16).map slot
  let a : AllocSt :=
    { k := k, demand := [0, 0, 0], thr := thr, sect := sect, stale := stale, avail := av.map (·.1), short := 0,
      sched := s.schedOn k, lin := [], started := false, slots := slots, todo := [], busy := [], pass := 0, compared := false, sent := none,
      first := false, cmds := [], promo := none, sup := 0, supd := false, promoted := false, written := false }
  let dgm := (upTo 16).foldl (fun m i => if i != 0 && (slots.getD i slotIdle).degen then m ||| 2 ^ i else m) 0
  let s1 := { s with slv := { s.slv with allocs := (a :: s.slv.allocs).take 3, lost := 0, sLost := 0 } }
  let s2 := (((s1.fset SLV_AVAIL.THR thr).fset SLV_SECT.AVAIL sect).fset SLV_SECT.STALE stale).fset SLV_SCEN.DEGEN dgm
  if stale ≠ 0 then s2.fup SLV_STATUS.POWER_STALE else s2

end Sys2Proof.Machine
end

