-- ==== Sys2Proof/Machine/AllocSolve.lean ====
section
/-!
DEFINITION. The allocation problem and its solves (R135 to R137, R139, R142 to R146, R154 to R160): the limits of a slot, projection,
the variables and rows, the active-set run, the engines that take the slots, results and status words, promotion matching.
-/

namespace Sys2Proof.Machine

/-! ## A slot's problem (R154 to R157) -/

/-- A thruster of a slot's problem with its bounds. -/
structure PThr where
  i : Nat
  c : ThrCfg
  l : ThrLim
  b : Bnd
  t0 : Flt
  a0 : Nat
  f1 : Option Nat          -- sections it draws from in the slot
  f2 : Option Nat

/-- The thrusters in the problem of a slot. -/
def State.slotThr (s : State) (a : AllocSt) (sl : SlotSt) : List PThr :=
  let ab := s.allocBody
  (upTo 32).filterMap (fun i =>
    if bit sl.u i then none
    else match s.thr i, s.thrLim i with
      | some c, some l =>
        let (t0, a0) := a.lin.getD i (0, 0)
        let live (f : Nat) : Option Nat := if f < 16 ∧ !bit sl.w f then some f else none
        some ⟨i, c, l, bounds s.hSec (trustOf ab) (sectorT ab) c l t0 a0, t0, a0, live c.feed1, live c.feed2⟩
      | _, _ => none)

/-- Does a thruster split its power between two sections of the slot. -/
def PThr.dual (p : PThr) : Bool := p.f1.isSome && p.f2.isSome

/-- The slope and the value at T = 0 of a thruster's chord (R156). -/
def PThr.chordLine (p : PThr) : Flt × Flt :=
  let p0 := powerAt p.c p.l p.b.lo
  if feq p.b.lo p.b.hi then (0, p0)
  else
    let m := fdiv (fsub (powerAt p.c p.l p.b.hi) p0) (fsub p.b.hi p.b.lo)
    (m, fsub p0 (fmul m p.b.lo))

/-- What thruster `p` with power `x` and split `q` draws from section `k`. -/
def drawOf (p : PThr) (x q : Flt) (k : Nat) : Flt :=
  match p.f1, p.f2 with
  | some a, some b => if a = k then fsub x q else if b = k then q else 0
  | some a, none => if a = k then x else 0
  | none, some b => if b = k then x else 0
  | none, none => 0

/-- Does a thruster draw from a section. -/
def drawsFrom (p : PThr) (k : Nat) : Bool := p.f1 == some k || p.f2 == some k

/-- p_s of a section for thrusts and splits, summed in the order of the style (R134, R156). -/
def sectPower (st : Style) (ps : List PThr) (t q : List Flt) (k : Nat) : Flt :=
  (st.dot (((ps.zipIdx).filter (fun p => drawsFrom p.1 k)).map (fun p =>
    (drawOf p.1 (chord p.1.c p.1.l p.1.b (t.getD p.2 0)) (q.getD p.2 0) k, fofNat 1)))).1

/-- The thrusts of the minimum-power point; its splits are 0 (R156). -/
def tMins (ps : List PThr) : List Flt := ps.map (fun p => tMin p.b)

/-- p_s at the minimum-power point (DESIGN CHOICE, log 66: with every split 0). -/
def sectMin (st : Style) (ps : List PThr) (k : Nat) : Flt := sectPower st ps (tMins ps) (ps.map (fun _ => 0)) k

/-- The problem of a slot: style, thrusters, sections in it with their limits, the sections whose limit was raised (R156). -/
structure AProb where
  st : Style
  ps : List PThr
  lims : List (Nat × Flt)
  short : Nat

/-- The problem of a slot. The limit of a section is one for the problem: avail_s − RESERVE_s, raised to its minimum-power point (R156). -/
def State.slotProb (s : State) (a : AllocSt) (sl : SlotSt) : AProb :=
  let st := if a.sched then styleSched ((s.img 2 1).getD []) else stylePipe
  let ps := s.slotThr a sl
  let secs := (upTo 16).filter (fun k => (s.obj 0x04 k).isSome && !bit sl.w k)
  let res (k : Nat) : Flt := match s.obj 0x04 k with | some b => fltAt b 8 | none => 0
  let l := secs.map (fun k => (k, fsub (a.avail.getD k 0) (res k), sectMin st ps k))
  ⟨st, ps, l.map (fun x => (x.1, if flt x.2.1 x.2.2 then x.2.2 else x.2.1)),
    l.foldl (fun m x => if flt x.2.1 x.2.2 then m ||| 2 ^ x.1 else m) 0⟩

/-- An iterate by thruster of the problem: thrust, angle change, split. -/
structure PX where
  t : List Flt
  da : List Flt
  q : List Flt
  deriving DecidableEq, Repr

/-! ## Projection (R159) -/

/-- Splits within 0 and the chord. -/
def clipQ (ps : List PThr) (t q : List Flt) : List Flt :=
  (ps.zipIdx).map (fun p => if p.1.dual then fclamp (q.getD p.2 0) 0 (chord p.1.c p.1.l p.1.b (t.getD p.2 0)) else 0)

/-- The sections over their limit, in order: thrusts and splits of their thrusters are blended towards the minimum-power point. -/
def AProb.blend (p : AProb) (x : PX) : PX :=
  p.lims.foldl (fun x l =>
    let cur := sectPower p.st p.ps x.t x.q l.1
    if flt l.2 cur then
      let pm := sectMin p.st p.ps l.1
      let d := fsub cur pm
      let f := if fpos d then fdiv (fsub l.2 pm) d else 0
      let mix (lo v : List Flt) : List Flt := (p.ps.zipIdx).map (fun y =>
        let (m, w) := (lo.getD y.2 0, v.getD y.2 0)
        if drawsFrom y.1 l.1 then fadd m (fmul f (fsub w m)) else w)
      { x with t := mix (tMins p.ps) x.t, q := mix [] x.q }
    else x) x

/-- Projection: clip, sections, splits (R159). -/
def AProb.project (p : AProb) (x : PX) : PX :=
  let t := (p.ps.zipIdx).map (fun y => fclamp (x.t.getD y.2 0) y.1.b.lo y.1.b.hi)
  let da := (p.ps.zipIdx).map (fun y => fclamp (x.da.getD y.2 0) y.1.b.aLo y.1.b.aHi)
  let y := p.blend ⟨t, da, clipQ p.ps t x.q⟩
  { y with q := clipQ p.ps y.t y.q }

/-- Iterate 0: T := T0, δα := 0, projected (R159). -/
def AProb.start (p : AProb) : PX := p.project ⟨p.ps.map (·.t0), p.ps.map (fun _ => 0), p.ps.map (fun _ => 0)⟩

/-- A projected iterate as commands, achieved force, planned powers and degrees not achieved (R160). -/
def State.outOf (s : State) (a : AllocSt) (p : AProb) (x : PX) : SlotOut :=
  let angs := (p.ps.zipIdx).map (fun y =>
    if kindAz y.1.c.kind then tc 32 (Int.ofNat y.1.a0 + radB32 (x.da.getD y.2 0)) else 0)
  let ach := (p.ps.zipIdx).foldl (fun f y =>
    List.zipWith fadd f (thrForce y.1.c (x.t.getD y.2 0) (angs.getD y.2 0))) [0, 0, 0]
  let all {α : Type} (d : Nat → α) (v : List α) : List α := (upTo 32).map (fun i =>
    match p.ps.findIdx? (fun y => y.i == i) with | some n => v.getD n (d i) | none => d i)
  let angD (i : Nat) : Nat := match s.thr i with
    | some c => if kindAz c.kind then (a.lin.getD i (0, 0)).2 else 0
    | none => 0
  let sec := (upTo 16).map (fun k => if p.lims.any (fun l => l.1 == k) then sectPower p.st p.ps x.t x.q k else 0)
  let na := (upTo 3).map (fun j => flt (naTol s.allocBody j) (fabs (fsub (a.demand.getD j 0) (ach.getD j 0))))
  ⟨all (fun _ => 0) x.t, all angD angs, all (fun _ => 0) x.q, ach, sec, na⟩

/-! ## Variables, rows and cost (R153, R154, R157) -/

/-- X, Y and N of a force applied at a thruster. -/
def withMoment (c : ThrCfg) (fx fy : Flt) : List Flt := [fx, fy, fsub (fmul (mToM c.x) fy) (fmul (mToM c.y) fx)]

/-- The force of one newton of thrust of a thruster at its linearisation point (R153). -/
def PThr.forceT (p : PThr) : List Flt :=
  match p.c.kind with
  | 1 => withMoment p.c (cosB p.a0) (sinB p.a0)
  | 2 => withMoment p.c (fofNat 1) 0
  | _ => withMoment p.c (cosB p.c.dir) (sinB p.c.dir)

/-- The force of one radian of angle change at the linearisation point (R153). -/
def PThr.forceA (p : PThr) : List Flt :=
  if p.c.kind = 1 then withMoment p.c (fneg (fmul p.t0 (sinB p.a0))) (fmul p.t0 (cosB p.a0))
  else withMoment p.c 0 (fmul p.c.lift (fmax p.t0 0))

/-- The thrusters of a problem with an angle variable, and those with a split. -/
def AProb.az (p : AProb) : List PThr := p.ps.filter (fun x => kindAz x.c.kind)
def AProb.du (p : AProb) : List PThr := p.ps.filter PThr.dual

/-- A row over the variables of R154: coefficients of the thrusts, the angles, the slacks, the sections, the splits. -/
def AProb.row (p : AProb) (fT fA : PThr → Flt) (fS : Nat → Flt) (fP : Nat → Flt) (fQ : PThr → Flt) : List Flt :=
  p.ps.map fT ++ p.az.map fA ++ (upTo 3).map fS ++ p.lims.map (fun l => fP l.1) ++ p.du.map fQ

/-- The power a section draws without thrust: the chords at T = 0 of the thrusters wholly or first on it. -/
def AProb.sectBase (p : AProb) (k : Nat) : Flt :=
  (p.st.dot ((p.ps.filter (fun x => if x.dual then x.f1 == some k else drawsFrom x k)).map (fun x => (x.chordLine.2, fofNat 1)))).1

/-- The problem as a quadratic program over the variables in the order of R154: the force rows, the section rows, q_i at most its chord,
the bounds, the cost of R157. -/
def State.slotQp (s : State) (a : AllocSt) (p : AProb) : Qp :=
  let ab := s.allocBody
  let two := fofNat 2
  let no {α : Type} (_ : α) : Flt := 0
  let wt (x : PThr) := fltAt ab (12 + 4 * x.i)
  let wa (x : PThr) := fltAt ab (140 + 4 * x.i)
  let we (x : PThr) := fltAt ab (268 + 4 * x.i)
  let one (x y : Nat) : Flt := if x = y then fofNat 1 else 0
  let force (j : Nat) : QRow :=
    ⟨p.row (fun x => x.forceT.getD j 0) (fun x => x.forceA.getD j 0) (one j) no no, a.demand.getD j 0⟩
  let sect (k : Nat) : QRow :=
    ⟨p.row (fun x => if (if x.dual then x.f1 == some k else drawsFrom x k) then fneg x.chordLine.1 else 0) no no (one k)
      (fun x => if x.f1 == some k then fofNat 1 else if x.f2 == some k then fneg (fofNat 1) else 0), p.sectBase k⟩
  let split (y : PThr) : QRow :=
    ⟨p.row (fun x => if x.i = y.i then fneg y.chordLine.1 else 0) no no no (fun x => one x.i y.i), y.chordLine.2⟩
  let free {α : Type} (l : List α) : List (Option Flt) := l.map (fun _ => none)
  { h := p.row (fun x => fmul two (fadd (wt x) (we x))) (fun x => fmul two (wa x)) (fun j => fmul two (fltAt ab (4 * j))) no no
    c := p.row (fun x => fneg (fmul two (fmul (wt x) x.t0))) no no (fun k => fltAt ab (396 + 4 * k)) no
    eqs := (upTo 3).map force ++ p.lims.map (fun l => sect l.1)
    rows := p.du.map split
    lo := p.ps.map (fun x => some x.b.lo) ++ p.az.map (fun x => some x.b.aLo) ++ free (upTo 3) ++ free p.lims ++ p.du.map (fun _ => some 0)
    hi := p.ps.map (fun x => some x.b.hi) ++ p.az.map (fun x => some x.b.aHi) ++ free (upTo 3) ++ p.lims.map (fun l => some l.2) ++ free p.du }

/-- The variables of an iterate: slacks and planned powers recomputed (R159). -/
def AProb.vec (p : AProb) (q : Qp) (x : PX) : List Flt :=
  let at_ (f : PThr → Bool) (v : List Flt) : List Flt := ((p.ps.zipIdx).filter (fun y => f y.1)).map (fun y => v.getD y.2 0)
  let da := at_ (fun y => kindAz y.c.kind) x.da
  let slack := (q.eqs.take 3).map (fun r => fsub r.b (p.st.dot (r.a.zip (x.t ++ da))).1)
  x.t ++ da ++ slack ++ p.lims.map (fun l => sectPower p.st p.ps x.t x.q l.1) ++ at_ PThr.dual x.q

/-- An iterate from the variables. -/
def AProb.unvec (p : AProb) (v : List Flt) : PX :=
  let n := p.ps.length
  let na := p.az.length
  let pick (f : PThr → Bool) (o : Nat) : List Flt := (p.ps.zipIdx).map (fun y =>
    if f y.1 then v.getD (o + ((p.ps.take y.2).filter f).length) 0 else 0)
  ⟨v.take n, pick (fun y => kindAz y.c.kind) n, pick PThr.dual (n + na + 3 + p.lims.length)⟩

/-- Does a projected iterate pass the check of R139: finite values, and no section above its limit by more than FEAS_TOL in the scaled
problem; thrusts, angles and splits lie within their bounds by projection. -/
def AProb.passes (p : AProb) (o : SlotOut) : Bool :=
  (o.t ++ o.ach ++ o.sec).all laneOk && (p.lims.zipIdx).all (fun l =>
    fle (fpow2 (fsub (o.sec.getD l.1.1 0) l.1.2) (-(Config.scaleExp 0 (p.ps.length + p.az.length + 3 + l.2)))) feasTol)

/-- REFINE_N and REFINE_PIV in force. -/
def State.refineCfg (s : State) : Refine := ⟨s.fget SLV_CFG.REFINE_N, s.fget SLV_CFG.REFINE_PIV⟩

/-- The solve of a slot worked out: its projected iterates and how it stops of itself (R139, R142, R158). -/
def State.slotTrace (s : State) (a : AllocSt) (sl : SlotSt) : Trace SlotOut :=
  let p := s.slotProb a sl
  let q0 := s.slotQp a p
  let n := q0.h.length
  let v (j : Nat) : Int := Config.scaleExp 0 j
  let q := q0.scaled v (fun i => Config.scaleExp 0 (n + i))
  let x0 := ((p.vec q0 p.start).zipIdx).map (fun y => fpow2 y.1 (-(v y.2)))
  let out (x : AsSt) : SlotOut := s.outOf a p (p.project (p.unvec ((x.x.zipIdx).map (fun y => fpow2 y.1 (v y.2)))))
  let ok (x : AsSt) : Bool := p.passes (out x)
  let (r, e) := iterRun (q.iter p.st s.refineCfg) ok (s.fget SLV_CFG.ITER_ALLOC) ⟨x0, q.work0 p.st x0, 0⟩ 0
  let o0 := s.outOf a p p.start
  ⟨x0.all laneOk && (o0.t ++ o0.ach ++ o0.sec).all laneOk, if p.passes o0 then some o0 else none,
    r.map (fun y => (if ok y.1 then some (out y.1) else none, y.2)), e.1, e.2⟩

/-! ## The slots of a frame (R136, R137, R143) -/

/-- The allocation of frame `k`. -/
def State.allocOf (s : State) (k : Nat) : Option AllocSt := s.slv.allocs.find? (fun a => a.k == k)

/-- Write the allocation of a frame. -/
def State.allocPut (s : State) (a : AllocSt) : State :=
  { s with slv := { s.slv with allocs := s.slv.allocs.map (fun b => if b.k == a.k then a else b) } }

/-- Is an engine retired; engines in the order SV, SA, SB, CE0 to CE3, SE0, SE1, FE0, FE1, LE0, LE1, DSE, GTE, NTE. -/
def State.engDead (s : State) (n : Nat) : Bool := bit (s.fget DIA_RET_ENG.ENG) n
/-- The solver engines in service, SE0 first. -/
def State.seList (s : State) : List Nat := (upTo 2).filter (fun i => !s.engDead (7 + i))
/-- How many solver engines are in service. -/
def State.seLive (s : State) : Nat := s.seList.length

/-- The free engines among `ses` take the next slots in order (R136). -/
def AllocSt.assign (a : AllocSt) (ses : List Nat) : AllocSt :=
  let idle := ses.filter (fun e => !(a.busy.any (fun b => b.1 == e)))
  { a with busy := a.busy ++ idle.zip a.todo, todo := a.todo.drop idle.length }

/-- Is a slot being solved (R136). -/
def AllocSt.solving (a : AllocSt) (i : Nat) : Bool := a.busy.any (fun b => b.2 == i)

/-- Start the allocation phase of the frame: the demand, the linearisation point, iterate 0 of each slot to be solved, NOT_RUN of the
others, the engines take the first slots (R118, R136, R139, R159, R162). -/
def State.allocStart (s : State) : State :=
  match s.allocOf s.time.frame with
  | none => s
  | some a =>
    if a.started then s
    else if s.cex.func = 0 then
      (upTo 16).foldl (fun s i => s.fset (fldAt SLV_SLOT.STAT i) stNotRun)
        (s.allocPut { a with lin := (upTo 32).map s.linPoint, started := true })
    else
      let a1 := { a with demand := s.cex.demand, lin := (upTo 32).map s.linPoint, started := true }
      let outs := a1.slots.map (fun sl =>
        if sl.run then let p := s.slotProb a1 sl; (s.outOf a1 p p.start, p.short) else (outNone, 0))
      let slots := (a1.slots.zip outs).map (fun p => if p.1.run then { p.1 with it0 := p.2.1 } else p.1)
      let short := outs.foldl (fun m o => m ||| o.2) 0
      let todo := (slots.zipIdx).filterMap (fun p => if p.1.run then some p.2 else none)
      let s1 := s.allocPut ({ a1 with slots := slots, short := short, todo := todo }.assign s.seList)
      let s2 := (upTo 16).foldl (fun s i => s.fset (fldAt SLV_SLOT.STAT i) stNotRun) s1
      let s3 := (bitIdx 16 short).foldl (fun s k => s.event 0x06 0x05 1 (evData k 0)) s2
      if short ≠ 0 then s3.fup SLV_STATUS.POWER_SHORT else s3

/-- Count a solve's status word in the SLV_ registers (R171). -/
def State.slvCount (s : State) (w pivots : Nat) : State :=
  let up (b : Bool) (f : Fld) (s : State) : State := if b then s.fup f else s
  let st := stStatus w
  let s1 := up (decide (pivots ≠ 0)) SLV_STATUS.PIVOT_PERTURBED (up (bit w 11) SLV_STATUS.OVF
    (up (st == 2 || st == 3 || st == 7) SLV_STATUS.DEADLINE (up (st == 5) SLV_STATUS.FALLBACK s)))
  let s2 := s1.fcount SLV_CNT.PIVOT pivots
  let s3 := if stTimed w then s2.fcount SLV_CNT.DEADLINE 1 else s2
  let s4 := if bit w 11 then s3.fcount SLV_CNT2.OVF 1 else s3
  if st = 5 then s4.fcount SLV_CNT2.FALLBACK 1 else s4

/-- What a slot holds when its solve stops, of itself or cut from outside, and the pivots replaced, `v` at most in an iteration cut off
(R139 to R146). -/
def SlotSt.stopped (sl : SlotSt) (tr : Trace SlotOut) (c : Option Cut) (v : Nat) : SlotSt × Nat :=
  let (n, st, ovf, timed) := tr.outcome c
  let last := tr.committed c
  let w := statWord (if last.isNone then 5 else st) n (decide (tr.pivots c v ≠ 0)) ovf timed
  ({ sl with its := (tr.its.take n).map (·.1), out := some (last.getD sl.it0), stat := w }, tr.pivots c v)

/-- An open bound on the pivots that an iteration cut off had replaced (R141, R143; DESIGN CHOICE, log 263). -/
def State.freePiv (s : State) : Nat := Config.freeWord s.free / 2 ^ 33

/-- The solve of slot `i` stops: its result and status word; the engine takes the next slot (R136, R139 to R146). -/
def State.slotStop (s : State) (a : AllocSt) (i : Nat) (c : Option Cut) (v : Nat) : State :=
  let sl := a.slots.getD i slotIdle
  let (x, piv) := sl.stopped (s.slotTrace a sl) c v
  let a1 := { a with slots := a.slots.set i x, busy := a.busy.filter (fun b => b.2 != i) }
  ((s.allocPut (a1.assign s.seList)).fset (fldAt SLV_SLOT.STAT i) x.stat).slvCount x.stat piv

/-- A stop at an instant only the engine knows: an open number of iterations, none before iterate 0; status `st`, or `fact` inside a
factorisation (R143; DESIGN CHOICE, log 243). -/
def State.freeCut (s : State) (cap st fact : Nat) : Cut :=
  let v := Config.freeWord s.free
  let n := v % 2 ^ 32 % (cap + 2)
  ⟨if n = 0 then none else some (n - 1), if bit v 32 then fact else st⟩

/-- An allocation in which no further solve starts or returns: the slots still running end at the deadline, those not taken stay NOT_RUN
(R137, R143). -/
def State.slotsClose (s : State) : State :=
  match s.allocOf s.time.frame with
  | none => s
  | some a =>
    if a.busy.isEmpty && a.todo.isEmpty then s
    else
      let s1 := s.allocPut { a with todo := [] }
      let s2 := a.busy.foldl (fun s b =>
        match s.allocOf s.time.frame with
        | some a => (s.slotStop a b.2 (some (s.freeCut (s.fget SLV_CFG.ITER_ALLOC) 2 3)) s.freePiv).tick1
        | none => s) s1
      s2

/-- Solver engine `e` (0, 1) has been retired: the allocation slot on it ends ABANDONED, the other engine carries the rest (R137, R143). -/
def State.slotAbandon (s : State) (e : Nat) : State :=
  match s.allocOf s.time.frame with
  | none => s
  | some a => match a.busy.find? (fun b => b.1 == e) with
    | some b => (s.slotStop a b.2 (some (s.freeCut (s.fget SLV_CFG.ITER_ALLOC) 7 7)) s.freePiv).tick1
    | none => s

/-- NOT_RUN of SLV_STATUS: an enabled slot that is not degenerate did not run (R137, R171). -/
def State.slotsNotRun (s : State) : State :=
  match s.allocOf s.time.frame with
  | none => s
  | some a =>
    if a.started && (a.slots.zipIdx).any (fun p =>
        (p.2 == 0 || s.slotEn p.2) && !p.1.degen && p.1.out.isNone) then s.fup SLV_STATUS.NOT_RUN else s

/-- The allocation was the release of R118. -/
def AllocSt.released (a : AllocSt) : Bool :=
  let sl := a.slots.getD 0 slotIdle
  a.started && sl.out.isNone && sl.it0 == outNone && a.busy.isEmpty && a.todo.isEmpty

/-- The result a slot stands for. -/
def AllocSt.result (a : AllocSt) (i : Nat) : SlotOut := let sl := a.slots.getD i slotIdle; sl.out.getD sl.it0

/-! ## Promotion (R164 to R166) -/

/-- The match of R164 in an allocation for U' and W'. -/
def AllocSt.matchSlot (a : AllocSt) (u w : Nat) : Option Nat :=
  ((upTo 15).map (· + 1)).find? (fun i =>
    let sl := a.slots.getD i slotIdle
    sl.run && !sl.degen && sl.u == u && sl.w == w)

/-- May a slot be promoted (R164). -/
def AllocSt.promotable (a : AllocSt) (i : Nat) : Bool :=
  let sl := a.slots.getD i slotIdle
  sl.out.isSome && bit a.pass i && stStatus sl.stat != 5 && stStatus sl.stat != stNotRun

/-- U' and W' of an allocation after the events since its snapshot. -/
def State.uPrime (s : State) (a : AllocSt) (lost sLost : Nat) : Nat × Nat :=
  let w := (s.sectMask &&& (2 ^ 16 - 1 - a.sect)) ||| sLost
  let u := (s.thrMask &&& (2 ^ 32 - 1 - a.thr)) ||| lost
  let u := u ||| s.thrIdx.foldl (fun m t =>
    match s.thr t with
    | some c => if (feeds c).all (fun f => bit w f) then m ||| 2 ^ t else m
    | none => m) 0
  (u, w)

end Sys2Proof.Machine
end

