-- ==== Sys2Proof/Machine/Capability.lean ====
section
/-!
DEFINITION. The capability polytope and margin (R168, R169), the allocation record and the force of the allocation dispatched (R160,
R170).
-/

namespace Sys2Proof.Machine

/-! ## Capability margin (R168, R169) -/

/-- N_X, N_H, N_ROWS, N_SOFT of the MPC object, and the place of its G rows and W_CAP. -/
def mpcRows (b : List Byte) : Nat := byteAt b 2
def mpcG (b : List Byte) (r : Nat) : List Flt := fltsAt b (b.length - 4 - 12 * mpcRows b + 12 * r) 3
/-- g · u in the order of R134. -/
def dot3 (a b : List Flt) : Flt := (dotPipe (a.zip b)).1

/-- The power factor min(1, avail/RATED), the larger of a dual-fed thruster's two (R168). -/
def State.powFactor (s : State) (avail : List Word) (w : Nat) (c : ThrCfg) : Flt :=
  (feeds c).foldl (fun m f =>
    if bit w f then m
    else
      let rated : Flt := match s.obj 0x04 f with | some b => fltAt b 4 | none => 0
      fmax m (fmin (fofNat 1) (fdiv (avail.getD f 0) rated))) 0

/-- h_r of a slot: the supports of its thrusters, summed in the order of R134 (R168). -/
def State.capRow (s : State) (a : AllocSt) (sl : SlotSt) (g : List Flt) : Flt :=
  sumPipe ((upTo 32).filterMap (fun i =>
    if bit sl.u i then none
    else match s.thr i, s.thrLim i with
      | some c, some l =>
        let gx := fsub (g.getD 0 0) (fmul (g.getD 2 0) (mToM c.y))
        let gy := fadd (g.getD 1 0) (fmul (g.getD 2 0) (mToM c.x))
        let f := s.powFactor a.avail sl.w c
        let sup := if c.kind = 1 then fmul (fmul l.fwd f) (fsqrt (fadd (fmul gx gx) (fmul gy gy)))
          else
            let d := if c.kind = 2 then gx else fadd (fmul gx (cosB c.dir)) (fmul gy (sinB c.dir))
            fmax (fmul (fmul l.fwd f) d) (fneg (fmul (fmul l.rev f) d))
        some sup
      | _, _ => none))

/-- The margin of R169, Q1.15: `us` the inputs of the steps. -/
def State.margin (s : State) (a : AllocSt) (sl : SlotSt) (us : List (List Word)) : Int :=
  let b := (s.obj 0x0C 0).getD []
  let rows := (upTo (mpcRows b)).map (fun r => (mpcG b r, s.capRow a sl (mpcG b r)))
  let bad := us.any (fun u => rows.any (fun r => !fpos r.2 && fpos (dot3 r.1 u)))
  if bad then -32768
  else
    let vals := us.flatMap (fun u => (rows.filter (fun r => fpos r.2)).map (fun r => fdiv (dot3 r.1 u) r.2))
    match vals with
    | [] => fToFix 16 15 (fofNat 1)
    | v :: vs => fToFix 16 15 (fsub (fofNat 1) (vs.foldl fmax v))

/-- Write a margin with its status; AGE 0 (R169, R171). -/
def State.capPut (s : State) (i : Nat) (m : Int) (st : Nat) : State :=
  ((s.fset (fldAt SLV_CAP.MARGIN i) (tc 16 m)).fset (fldAt SLV_CAP.STATUS i) st).fset (fldAt SLV_CAP.AGE i) 0

/-- CAP_LOW of R169. -/
def State.capLow (s : State) : State :=
  let low (i : Nat) : Bool :=
    bit (s.fget SLV_SCEN.EN) (i - 1) && decide (s.fget (fldAt SLV_CAP.AGE i) < 4095)
      && decide (s.fsgn (fldAt SLV_CAP.MARGIN i) < s.slv.capWarn)
  let ids := (upTo 15).map (· + 1)
  let s1 := ids.foldl (fun s i => s.alarmLevel 0x06 0x03 i (low i)) s
  s1.fput SLV_STATUS.CAP_LOW (ids.any low)

/-- A new MPC period: every AGE counts one; CAP_WARN is taken (R169, R171). -/
def State.capAge (s : State) : State :=
  let s1 := (upTo 16).foldl (fun s i => s.finc (fldAt SLV_CAP.AGE i)) s
  ({ s1 with slv := { s1.slv with capWarn := s1.fsgn SLV_CAP_CFG.CAP_WARN } }).capLow

/-! ## The record (R170) -/

/-- The allocation record of a frame. -/
def State.allocRecord (s : State) (a : AllocSt) : List Byte :=
  let i := a.sent.getD 0
  let sl := a.slots.getD (if a.supd then a.sup % 16 else i) slotIdle
  let o := sl.out.getD sl.it0
  let fl := b2n a.promoted + 2 * b2n a.supd + 4 * b2n (o.notAch.getD 0 false) + 8 * b2n (o.notAch.getD 1 false)
    + 16 * b2n (o.notAch.getD 2 false) + 32 * b2n (a.short != 0) + 64 * b2n (a.stale != 0) + 128 * b2n (s.op == .degraded)
  let slk (j : Nat) : Flt := fsub (a.demand.getD j 0) (o.ach.getD j 0)
  leBytes 8 (s.fOf a.k) ++ leBytes 4 a.k ++ leBytes 1 i ++ leBytes 1 fl ++ leBytes 2 a.sect ++ leBytes 4 a.thr
  ++ (upTo 3).flatMap (fun j => leBytes 4 (o.ach.getD j 0).toNat)
  ++ (upTo 3).flatMap (fun j => leBytes 4 (slk j).toNat)
  ++ leBytes 4 (s.fget SLV_MPC_K0.K0) ++ leBytes 2 (match s.cex.mpc with | some m => m.stat | none => stNotRun)
  ++ leBytes 1 (a.sup % 16 + 16 * min (a.sup / 16) 15) ++ [0]
  ++ (upTo 16).flatMap (fun k => leBytes 2 (satU 16 (fSatInt rndUp 64 (o.sec.getD k 0)).toNat))
  ++ (upTo 16).flatMap (fun k => leBytes 2 (a.slots.getD k slotIdle).stat)
  ++ leBytes 12 0

/-- Write the allocation record of a frame to its ring and the recorder (R170, R473). -/
def State.allocRecPut (s : State) (a : AllocSt) : State :=
  let i := (s.fget SLV_REC.IDX + 1) % 64
  let b := s.allocRecord a
  ((s.wrB rgnSlv (i * 128) b).fset SLV_REC.IDX i).stage 8 0 b

/-- A force normalised for the observer (R98, R103). DESIGN CHOICE (log 262): its saturation flags are those of the velocity estimates,
which it enters. -/
def State.tauNorm (s : State) (f : List Flt) : List Int × Nat :=
  let r := (upTo 3).map (fun j => fixSat gObsVel 32 31 (fdiv (f.getD j 0) (s.fullScale j)))
  (r.map (·.1), r.foldl (fun a p => a ||| p.2) 0)

/-- The achieved force of the allocation dispatched for a frame, normalised for the observer (R160). -/
def State.tauOf (s : State) (a : AllocSt) : List Int × Nat :=
  match a.sent with
  | none => ([0, 0, 0], 0)
  | some i =>
    let sl := a.slots.getD (if a.supd then a.sup % 16 else i) slotIdle
    let o := sl.out.getD sl.it0
    s.tauNorm o.ach

end Sys2Proof.Machine
end

