-- ==== Sys2Proof/Machine/Listed.lean ====
section
/-!
DEFINITION. Host commands listed in the manifest and applied at their points (R115, R400): DP functions, set-points,
limits, tracks, the origin, scenarios, exclusions, alignment, re-admission (R64, R83, R114 to R125, R163, R409).
-/

namespace Sys2Proof.Machine

/-! ## Opcodes of listed commands (R408 to R411) -/

def opAlignCommit : Nat := 0x020C
def opAlignRevert : Nat := 0x020D
def opSetFunction : Nat := 0x0301
def opSetPosition : Nat := 0x0302
def opSetSpeed : Nat := 0x0303
def opSetLimits : Nat := 0x0304
def opTrackLoad : Nat := 0x0305
def opTrackAppend : Nat := 0x0306
def opSetOrigin : Nat := 0x0307
def opScenEnable : Nat := 0x0308
def opThrExclude : Nat := 0x0309
def opRefReadmit : Nat := 0x030A
def opSetAutoreadmit : Nat := 0x030B
def opLogChange : Nat := 0x0604
def opReadmit : Nat := 0x0B05

/-- What applying a listed command answers: the state, and on a failure the block, the status and DETAIL (R400). -/
abbrev Applied := State × Option (Nat × Nat × Nat)

/-- Raise CMD_REJECTED of a listed command (R400). -/
def State.cmdRejected (s : State) (c : CmdE) (src st det : Nat) : State :=
  let old := s.hif.curTag
  let s1 := { s with hif := { s.hif with curTag := some (c.tag.getD 0) } }
  let s2 := s1.event src 0xF0 1 (leBytes 2 st ++ leBytes 2 c.op ++ leBytes 4 s.time.frame ++ leBytes 4 det)
  { s2 with hif := { s2.hif with curTag := old } }

/-- A waypoint of TRACK_LOAD and TRACK_APPEND (R409). -/
def wpAt (b : List Byte) (o : Nat) : Waypoint :=
  ⟨sAt 4 b o, sAt 4 b (o + 4), fltAt b (o + 8), fltAt b (o + 12), byteAt b (o + 16) == 1, uAt 4 b (o + 20)⟩

/-- The waypoints of a track payload. -/
def wpsOf (b : List Byte) : List Waypoint := (upTo (byteAt b 0)).map (fun i => wpAt b (4 + 24 * i))

/-- SET_POSITION (R119): position targets in AUTO_POSITION; a heading target where yaw is automatic and not on a track. -/
def State.applyPosition (s : State) (p : List Byte) : Applied :=
  let c := s.cex
  let wantP := bit (byteAt p 0) 0
  let wantH := bit (byteAt p 0) 1
  let okP := c.func == 3
  let okH := c.func != 4 && axisOf c.func c.autoHdg 2 == Axis.auto
  if (wantP && !okP) || (wantH && !okH) then (s, some (0x05, 0x3108, 0))
  else
    let s1 := if wantP then s.setTarget (sAt 4 p 4) (sAt 4 p 8) else s
    let s2 := if wantH then { s1 with cex := { s1.cex with gH := { s1.cex.gH with target := Int.ofNat (uAt 4 p 12) } } } else s1
    (s2, none)

/-- SET_SPEED, while AUTO_HEADING (R114). -/
def State.applySpeed (s : State) (p : List Byte) : Applied :=
  if s.cex.func ≠ 2 then (s, some (0x05, 0x3108, 0))
  else
    let ve := Int.ofNat (s.fget CEX_CFG.VEL_EXP)
    let u := fixSat gLawD 32 (31 - ve) (fltAt p 0)
    let v := fixSat gLawD 32 (31 - ve) (fltAt p 4)
    (({ s with cex := { s.cex with spU := u.1, spV := v.1 } }).satFlags (s.fget CEX_ASSIGN.LAW) (u.2 ||| v.2), none)

/-- SET_LIMITS (R119). -/
def State.applyLimits (s : State) (p : List Byte) : Applied :=
  ({ s with cex := { s.cex with limits := fltsAt p 0 6 } }, none)

/-- TRACK_LOAD and TRACK_APPEND (R123, R125). -/
def State.applyTrack (s : State) (p : List Byte) (append : Bool) : Applied :=
  let c := s.cex
  let w := wpsOf p
  if append then
    if c.track.length + w.length > 64 then (s, some (0x05, 0x5105, 0))
    else if c.func ≠ 4 then ({ s with cex := { c with track := c.track ++ w } }, none)
    else
      let add := w.map Waypoint.fine
      let s1 := { s with cex := { c with track := c.track ++ w, path := c.path ++ add } }
      -- a turn at the old end or at an appended waypoint whose radius does not fit (R123)
      (if pathReduced (lastN 2 c.path ++ add) then s1.fup CEX_STATUS.TURN_REDUCED else s1, none)
  else if c.func = 4 then (s, some (0x05, 0x3104, 0))
  else ({ s with cex := { c with track := w } }, none)

/-- Move an observer state by (ΔN, ΔE) mm. -/
def shiftX (dn de : Int) (x : ObsX) : ObsX := { x with etaN := x.etaN - dn * 2 ^ 32, etaE := x.etaE - de * 2 ^ 32 }
/-- Move a list of north, east, down in mm. -/
def shift3 (dn de : Int) (l : List Int) : List Int := [l.getD 0 0 - dn, l.getD 1 0 - de, l.getD 2 0]
/-- Move the observer. -/
def shiftObs (dn de : Int) (o : ObsSt) : ObsSt := { o with x := shiftX dn de o.x, pred := shiftX dn de o.pred }
/-- Move the anchors set at admission. -/
def shiftFus (dn de : Int) (f : FusSt) : FusSt :=
  { f with refs := f.refs.map (fun r => { r with anchor := r.anchor.map (shift3 dn de) }) }
/-- Move a generator. -/
def shiftGen (d : Int) (g : Gen) : Gen := { g with p := g.p - d * 2 ^ 32, target := g.target - d * 2 ^ 32 }
/-- Move a waypoint. -/
def shiftWp (dn de : Int) (w : Waypoint) : Waypoint := { w with n := w.n - dn, e := w.e - de }
/-- Move the surveyed anchor of a REFERENCE object. -/
def shiftRefObj (dn de : Int) (o : Obj) : Obj :=
  let a := shift3 dn de ((upTo 3).map (fun i => sAt 4 o.body (56 + 4 * i)))
  if idKind o.id = 0x05 then { o with body := o.body.take 56 ++ a.flatMap (fun v => leBytes 4 (tc 32 v)) }
  else o

/-- SET_ORIGIN (R409, R59). -/
def State.applyOrigin (s : State) (p : List Byte) : Applied :=
  let c := s.cex
  if axisOf c.func c.autoHdg 0 == Axis.auto then (s, some (0x05, 0x3108, 0))
  else
    let b := s.vessel
    let dl := sAt 8 p 0 - sAt 8 b 0
    let dm := sAt 8 p 8 - sAt 8 b 8
    let dn := toMm (fmul (fltAt b 16) (fofInt dl))
    let de := toMm (fmul (fltAt b 20) (fofInt dm))
    let objs := s.cfg.objs.map (fun o =>
      if o.id = objId 0x01 0 then originScale { o with body := p.take 16 ++ b.drop 16 } else shiftRefObj dn de o)
    let ck (k : Ckpt) : Ckpt := { k with fus := shiftFus dn de k.fus, obs := shiftObs dn de k.obs, x := shiftX dn de k.x }
    let c1 := { c with obs := shiftObs dn de c.obs, retroX := c.retroX.map (shiftX dn de), ckpts := c.ckpts.map ck,
                       gN := shiftGen dn c.gN, gE := shiftGen de c.gE, track := c.track.map (shiftWp dn de),
                       path := c.path.map (shiftWp (dn * 2 ^ 32) (de * 2 ^ 32)) }
    let s1 := { s with cfg := { s.cfg with objs := objs }, fus := shiftFus dn de s.fus, cex := c1 }
    (s1.storeObjs ((objs.filter (fun o => idKind o.id == 0x01 || idKind o.id == 0x05)).map (·.id)), none)

/-- SCEN_ENABLE (R162); CAP_LOW is evaluated anew (R169). -/
def State.applyScen (s : State) (p : List Byte) : Applied := ((s.fset SLV_SCEN.EN (uAt 2 p 0 / 2)).capLow, none)

/-- THR_EXCLUDE (R163). -/
def State.applyExclude (s : State) (p : List Byte) : Applied := ({ s with slv := { s.slv with excl := uAt 4 p 0 } }, none)

/-- A REFERENCE body with lever arm and mounting angles moved by the refined differences. -/
def refCommitBody (b : List Byte) (r : RefSt) : List Byte :=
  b.take 8 ++ (upTo 3).flatMap (fun i => leBytes 4 (tc 32 (sAt 4 b (8 + 4 * i) + r.lever.getD i 0)))
    ++ (upTo 3).flatMap (fun i => leBytes 4 (tc 32 (Int.ofNat (uAt 4 b (20 + 4 * i)) + r.mount.getD i 0))) ++ b.drop 32

/-- A reference of a checkpoint after its surveyed values have moved by the refined differences `x`: the alignment in force in
that frame stays what it was (R91). -/
def resurvey (x r : RefSt) : RefSt :=
  { r with lever := List.zipWith (· - ·) r.lever x.lever, mount := List.zipWith (· - ·) r.mount x.mount }

/-- ALIGN_COMMIT: the refined values become the surveyed ones, in this unit's own REFERENCE object, in flash too (R64, R408). A step that
takes effect at the next boundary still does. -/
def State.applyAlignCommit (s : State) (p : List Byte) : Applied :=
  let r := byteAt p 0
  let id := objId 0x05 r
  match findObj s.cfg.objs id with
  | none => (s, none)
  | some o =>
    let x := refOf s.fus r
    let o1 := { o with body := refCommitBody o.body x }
    let x1 := { x with lever := [0, 0, 0], mount := [0, 0, 0], nextLever := List.zipWith (· - ·) x.nextLever x.lever,
                       nextMount := List.zipWith (· - ·) x.nextMount x.mount }
    let ck (k : Ckpt) : Ckpt := { k with fus := refPut k.fus r (resurvey x (refOf k.fus r)) }
    let s1 := { s with cfg := { s.cfg with objs := putObj s.cfg.objs o1 }, fus := refPut s.fus r x1,
                       cex := { s.cex with ckpts := s.cex.ckpts.map ck } }
    (s1.storeObjs [id], none)

/-- ALIGN_REVERT: the surveyed values are restored (R64). -/
def State.applyAlignRevert (s : State) (p : List Byte) : Applied :=
  let r := byteAt p 0
  let x := refOf s.fus r
  ({ s with fus := refPut s.fus r { x with lever := [0, 0, 0], mount := [0, 0, 0], nextLever := [0, 0, 0],
                                           nextMount := [0, 0, 0], acc := { x.acc with rows := [] } } }, none)

/-- REF_READMIT at the boundary it takes effect at (R83); an anchor set at admission is set anew (R60). -/
def State.applyReadmitRef (s : State) (p : List Byte) : Applied :=
  let r := byteAt p 0
  let x := refOf s.fus r
  if !x.rej then (s, some (0x04, 0x3109, 0))
  else ({ s with fus := refPut s.fus r { x with readmit := true, anchor := none } }, none)

/-- SET_AUTOREADMIT: the value in force and FUS_CFG.AUTO_READMIT (R83, R93). -/
def State.applyAuto (s : State) (p : List Byte) : Applied :=
  let on := byteAt p 0 == 1
  ({ s with fus := { s.fus with autoReadmit := on } }.fput FUS_CFG.AUTO_READMIT on, none)

/-- SET_FUNCTION at the capture point (R116, R117). -/
def State.applyFunction (s : State) (p : List Byte) : Applied :=
  let f := byteAt p 0
  let ah := byteAt p 1 == 1
  match s.funcPre f ah with
  | some d => (s, some (0x05, 0x3101, d))
  | none => (s.enterFunc f ah, none)

/-- READMIT of a command path, at the snapshot of the frame that lists it (R486). -/
def State.applyReadmitPath (s : State) (p : List Byte) : Applied :=
  let i := uAt 2 p 2
  let s1 := (s.readmitCh 5 i).retCleared 5 i
  ({ s1 with slv := { s1.slv with deadPath := s1.slv.deadPath &&& (2 ^ 32 - 1 - 2 ^ i) } }, none)

/-- Apply one listed command, by its opcode. -/
def State.applyCmd (s : State) (c : CmdE) : State :=
  let r : Applied :=
    if c.op = opSetFunction then s.applyFunction c.payload
    else if c.op = opSetPosition then s.applyPosition c.payload
    else if c.op = opSetSpeed then s.applySpeed c.payload
    else if c.op = opSetLimits then s.applyLimits c.payload
    else if c.op = opTrackLoad then s.applyTrack c.payload false
    else if c.op = opTrackAppend then s.applyTrack c.payload true
    else if c.op = opSetOrigin then s.applyOrigin c.payload
    else if c.op = opScenEnable then s.applyScen c.payload
    else if c.op = opThrExclude then s.applyExclude c.payload
    else if c.op = opAlignCommit then s.applyAlignCommit c.payload
    else if c.op = opAlignRevert then s.applyAlignRevert c.payload
    else if c.op = opRefReadmit then s.applyReadmitRef c.payload
    else if c.op = opSetAutoreadmit then s.applyAuto c.payload
    else if c.op = opReadmit then s.applyReadmitPath c.payload
    else (s, none)
  match r.2 with
  | some (src, st, det) => r.1.cmdRejected c src st det
  | none => r.1

/-- The point a listed command applies at (R400). -/
inductive ListPoint where
  | snapshot | profile | capture | next | cycle
  deriving DecidableEq, Repr

/-- The point of an opcode. DESIGN CHOICE (log 256): ALIGN_COMMIT and ALIGN_REVERT, to which R64 gives none, apply at the snapshot. -/
def pointOf (op : Nat) : ListPoint :=
  if op = opSetFunction then .capture
  else if op = opSetPosition ∨ op = opSetSpeed ∨ op = opSetLimits ∨ op = opTrackLoad ∨ op = opTrackAppend ∨ op = opSetOrigin then
    .profile
  else if op = opRefReadmit ∨ op = opSetAutoreadmit then .next
  else if op = opLogChange then .cycle
  else .snapshot

/-- The commands of the frame with the point each applies at: a set-point command after a DP-function command applies
with it, at the capture (R400). -/
def withPoints (cs : List CmdE) : List (CmdE × ListPoint) :=
  (cs.foldl (fun (a : List (CmdE × ListPoint) × Bool) c =>
    let p := pointOf c.op
    let p1 := if p == .profile && a.2 then .capture else p
    (a.1 ++ [(c, p1)], a.2 || p == .capture)) ([], false)).1

/-- Apply the listed commands of the frame at a point, in order. -/
def State.applyAt (s : State) (pt : ListPoint) : State :=
  ((withPoints s.red.cmds).filter (fun p => p.2 == pt)).foldl (fun s p => s.applyCmd p.1) s

end Sys2Proof.Machine
end

