-- ==== Sys2Proof/Machine/Net.lean ====
section
/-!
DEFINITION. Ethernet ports, the pier protocol and IEC 61162-450 (R269 to R274, R282 to R286, R295 to R297): port
state, stamps, PDUs sent and received, SAMPLE entries, 450 datagrams, ARP, ICMP and IGMP, link changes.
-/

namespace Sys2Proof.Machine

/-! ## The unit and its ports -/

/-- The node id of a unit of the set: REDUNDANCY object, NODE_A, NODE_B, NODE_C (R534). -/
def State.nodeOf (s : State) (u : Nat) : Nat := uAt 2 ((s.obj 0x13 0).getD []) (8 + 2 * u)
/-- The own unit letter. -/
def State.unit (s : State) : Nat := s.fget RED_CFG.UNIT
/-- The own node id. -/
def State.ownNode (s : State) : Nat := s.nodeOf s.unit
/-- The unit of the set with a node id. -/
def State.unitOf (s : State) (node : Nat) : Option Nat :=
  (upTo (s.fget RED_CFG.SET_N)).find? (fun u => s.nodeOf u == node)

/-- The network blocks run: RUN in the native mode with no reset held, and not in REPLAY (R479). -/
def State.netOn (s : State) : Bool :=
  s.pwr == .run && !s.sys.yd && s.sys.held.isNone && s.op != .replay && !s.sys.recovery && !bit (s.fget DIA_RET_ENG.ENG) 15

/-- Is an Ethernet port in use: enabled and not retired (R297, R484). -/
def State.ethOn (s : State) (n : Nat) : Bool :=
  decide (n < 4) && s.fbit (fldAt NET_PORT_CFG.EN n) && !s.retired 1 n && s.netOn

/-- Does a port carry the pier protocol (R271). -/
def State.pierOn (s : State) (n : Nat) : Bool := s.ethOn n && s.fbit (fldAt NET_PORT_CFG.PIER n)

/-- The Ethernet ports every pier-protocol PDU is sent on. -/
def State.pierPorts (s : State) : List Nat := (upTo 4).filter s.pierOn

/-- An ingress timestamp of port `n` for a frame whose start is at the ball now (R273, R274). -/
def State.stampIn (s : State) (n : Nat) : Int := Int.ofNat s.now - s.fsgn (fldAt NET_PORT_DLY.ING n)
/-- An egress timestamp of port `n` (R274). -/
def State.stampOut (s : State) (n : Nat) : Int := Int.ofNat s.now + s.fsgn (fldAt NET_PORT_DLY.EGR n)

/-! ## Frames (R270, R272) -/

/-- The MAC address of a port: the base address in OTP plus the port number. -/
def macOf (n : Nat) : List Byte := beBytes 6 ((Config.otpMac + n) % 2 ^ 48)

/-- IPv4 address and VLAN of an Ethernet port: the NETWORK object (R534). -/
def State.ipOf (s : State) (n : Nat) : Nat := uAt 4 ((s.obj 0x11 0).getD []) (16 * n)
/-- Mask and gateway of an Ethernet port. -/
def State.maskOf (s : State) (n : Nat) : Nat := uAt 4 ((s.obj 0x11 0).getD []) (16 * n + 4)
def State.gateOf (s : State) (n : Nat) : Nat := uAt 4 ((s.obj 0x11 0).getD []) (16 * n + 8)
def State.vlanOf (s : State) (n : Nat) : Nat := uAt 2 ((s.obj 0x11 0).getD []) (16 * n + 12)

/-- An Ethernet frame of a port: tagged with the port's VLAN and a priority when one is set (R270). -/
def State.ethFrame (s : State) (n prio type : Nat) (dst : List Byte) (body : List Byte) : List Byte :=
  let v := s.vlanOf n
  dst ++ macOf n ++ (if bit v 15 then beBytes 2 0x8100 ++ beBytes 2 (prio * 8192 + v % 4096) else [])
    ++ beBytes 2 type ++ body

/-- Does a port accept a frame with the given 802.1Q VID: an untagged one, and one tagged with the VLAN of the port. -/
def State.vidOk (s : State) (n : Nat) (vid : Option Nat) : Bool :=
  match vid with | none => true | some x => bit (s.vlanOf n) 15 && x == s.vlanOf n % 4096

/-- An IPv4 header without options, or with Router Alert, for a protocol, addresses and body. -/
def ipv4 (ttl proto src dst : Nat) (alert : Bool) (body : List Byte) : List Byte :=
  let opt : List Byte := if alert then beBytes 4 0x94040000 else []
  let hl := 5 + opt.length / 4
  let h (c : Nat) : List Byte := beBytes 1 (64 + hl) ++ [0] ++ beBytes 2 (4 * hl + body.length) ++ beBytes 4 0
    ++ beBytes 1 ttl ++ beBytes 1 proto ++ beBytes 2 c ++ beBytes 4 src ++ beBytes 4 dst ++ opt
  h (ipCheck (h 0)) ++ body

/-- The Ethernet address of an IPv4 multicast group. -/
def mcastMac (g : Nat) : List Byte := beBytes 3 0x01005E ++ beBytes 3 (g % 2 ^ 23)

/-- A UDP datagram over IPv4. -/
def udp4 (src dst port : Nat) (body : List Byte) : List Byte :=
  let l := 8 + body.length
  let h (c : Nat) : List Byte := beBytes 2 (Config.udpSource port) ++ beBytes 2 port ++ beBytes 2 l ++ beBytes 2 c
  let c := ipCheck (beBytes 4 src ++ beBytes 4 dst ++ beBytes 2 17 ++ beBytes 2 l ++ h 0 ++ body)
  ipv4 Config.ipTtl 17 src dst false (h (if c = 0 then 65535 else c) ++ body)

/-- Is an IPv4 address a multicast group. -/
def isGroup (a : Nat) : Bool := a / 2 ^ 28 % 16 == 14

/-- The Ethernet address a datagram for `a` goes to: the group's, the host's on the port's own network, else the gateway's. -/
def State.hopMac (s : State) (n a : Nat) : List Byte :=
  if isGroup a then mcastMac a
  else Config.macAt n (if a &&& s.maskOf n = s.ipOf n &&& s.maskOf n then a else s.gateOf n)

/-- A UDP datagram as Ethernet port `n` sends it. -/
def State.udpFrame (s : State) (n prio dst port : Nat) (body : List Byte) : List Byte :=
  s.ethFrame n prio 0x0800 (s.hopMac n dst) (udp4 (s.ipOf n) dst port body)

/-- The address of unit `u` on its spans. -/
def spanIp (u : Nat) : Nat := 0xA9FE0001 + u

/-- The frame that carries a PDU of `type` on Ethernet port `n`: to NET_PIER_GRP on its port, priority 6 (R270, R282). -/
def State.pduFrame (s : State) (n type : Nat) (pdu : List Byte) : List Byte :=
  s.udpFrame n 6 (s.fget NET_PIER_GRP.GROUP) (s.fget NET_PIER_CFG.BASE_PORT + pduPort type) pdu

/-- The frame that carries a PDU on span `n` (R272). -/
def State.spanFrame (s : State) (n : Nat) (pdu : List Byte) : List Byte :=
  List.replicate 6 255 ++ macOf (4 + n) ++ beBytes 2 0x0800 ++ udp4 (spanIp s.unit) 0xFFFFFFFF (s.fget NET_PIER_CFG.BASE_PORT + 5) pdu

/-! ## PDUs sent (R271, R283) -/

/-- The SEQ of the next PDU of a type. -/
def State.nextSeq (s : State) (type : Nat) : Nat := s.net.seqOut.getD type 0

/-- Count a PDU sent. -/
def State.seqUp (s : State) (type : Nat) : State :=
  { s with net := { s.net with seqOut := s.net.seqOut.set type ((s.nextSeq type + 1) % 2 ^ 32) } }

/-- A PDU of this unit, with the epoch it knows and the frame given. -/
def State.ownPdu (s : State) (type frame : Nat) (p : List Byte) : List Byte :=
  pduBytes ⟨type, s.ownNode, s.fget RED_EPOCH.EPOCH, frame % 2 ^ 32, s.nextSeq type, p⟩

/-- Send a PDU on every pier port. -/
def State.pierSend (s : State) (type frame : Nat) (p : List Byte) : State :=
  let b := s.ownPdu type frame p
  (s.pierPorts.foldl (fun s n => s.send (.eth n) (s.pduFrame n type b)) s).seqUp type

/-! ## PDUs received (R271, R285) -/

/-- Note the SEQ of an accepted PDU and count a gap (R285); `path` 0 is the network, 1 and 2 the spans. -/
def State.noteSeq (s : State) (p : Pdu) (path : Nat) : State :=
  let key := (p.node * 8 + p.type) * 4 + path
  let gap := match s.net.lastSeq.find? (fun x => x.1 == key) with
    | some x => p.seq != (x.2 + 1) % 2 ^ 32
    | none => false
  let s1 := { s with net := { s.net with
    lastSeq := (key, p.seq) :: s.net.lastSeq.filter (fun x => x.1 != key) } }
  if gap then s1.finc NET_PIER_DUP.GAP else s1

/-- The unit at the other end of a span (R175). -/
def State.spanUnit (s : State) (n : Nat) : Nat :=
  match s.fget RED_CFG.SET_N with
  | 2 => 1 - s.unit
  | 3 => if n = 0 then (s.unit + 1) % 3 else (s.unit + 2) % 3
  | _ => 3

/-- Is a datagram of `len` bytes one that its port takes as pier traffic: on an Ethernet port in its VLAN to the pier group, on a span from
the configured neighbour to all, on one of the eight ports (R270 to R272, R282). -/
def State.viaOk (s : State) (v : Via) (len : Nat) : Bool :=
  let base := s.fget NET_PIER_CFG.BASE_PORT
  decide (base ≤ v.udp) && decide (v.udp < base + 8) &&
    (if 4 ≤ v.port then
       s.netOn && decide (v.port < 6) && !s.retired 2 (v.port - 4) && v.vid.isNone && decide (s.spanUnit (v.port - 4) < 3)
         && v.src == spanIp (s.spanUnit (v.port - 4)) && v.dst == 0xFFFFFFFF && decide (len ≤ 8972)
     else s.pierOn v.port && s.vidOk v.port v.vid && v.dst == s.fget NET_PIER_GRP.GROUP && decide (len ≤ 1472))

/-- Take a datagram as a PDU of `type`: the PDU if it is accepted (R271, R285). -/
def State.pduIn (s : State) (v : Via) (type : Nat) (bs : List Byte) : State × Option Pdu :=
  let span := decide (4 ≤ v.port)
  if !s.viaOk v bs.length then (s, none)
  else if !pduBelongs span (v.udp - s.fget NET_PIER_CFG.BASE_PORT) type then (s.finc NET_PIER_ERR.FORMAT, none)
  else match pduParse type bs with
    | .format => (s.finc NET_PIER_ERR.FORMAT, none)
    | .crc => (s.finc NET_PIER_ERR.CRC, none)
    | .ok p =>
      if p.node = s.ownNode then (s, none)
      else if span then (s.noteSeq p (v.port - 3), some p)
      else
        let recent := s.net.seen.filter (fun x => decide (s.now ≤ x.2.2.2 + 100000000))
        let s1 := { s with net := { s.net with seen := recent } }
        if recent.any (fun x => x.1 == p.node && x.2.1 == p.type && x.2.2.1 == p.seq) then (s1.finc NET_PIER_DUP.DUP, none)
        else
          let s2 := { s1 with net := { s1.net with seen := s1.net.seen ++ [(p.node, p.type, p.seq, s.now)] } }
          (s2.noteSeq p 0, some p)

/-! ## SAMPLE (R286) -/

/-- The 16-bit quality words that follow the value in a VALUE field. -/
def qualWords (b : List Byte) (o : Nat) : List Nat := (upTo ((b.length - o) / 2)).map (fun i => uAt 2 b (o + 2 * i))

/-- One SAMPLE entry at one of its contexts: `is` the places of the context's components in the value. -/
def State.sampleCtx (s : State) (node : Nat) (e : SampleIn) (fs : List FieldE) (n : Nat) (tRx : Int) : State :=
  let c := s.ctxOf n
  let nc := fs.length
  let is := (upTo nc).filter (fun i => (fs.getD i ⟨0, 0, 0, 0, false, 0, 0⟩).ctx == n)
  let fmt := match fs.find? (fun f => f.ctx == n) with | some f => vfmtOf f.fmt | none => .int32
  if e.isLocal != c.localMode || e.rate != c.hermite then s.finc NET_PIER_ERR.MODE
  else
    let x := is.map (fun i => compOf fmt (uAt 4 e.value (4 * i)))
    let v := if e.rate then is.map (fun i => sAt 4 e.value (4 * nc + 4 * i)) else []
    let q := qualWords e.value (if e.rate then 8 * nc else 4 * nc)
    s.ctxSample n e.stamp tRx.toNat .source fmt x v q node e.stream

/-- One SAMPLE entry (R286). -/
def State.sampleEntry (s : State) (node : Nat) (tRx : Int) (e : SampleIn) : State :=
  if e.invalid then s
  else match s.bindOf 0 (fun k => uAt 2 k 0 == node && uAt 2 k 2 == e.stream) with
    | [] => s.finc NET_PIER_ERR.UNBOUND
    | bs => bs.foldl (fun s b => (fieldCtxs (fieldsOf b.2)).foldl (fun s n => s.sampleCtx node e (fieldsOf b.2) n tRx) s) s

/-- A SAMPLE PDU (R286). -/
def State.sampleRx (s : State) (v : Via) (bs : List Byte) : State :=
  match s.pduIn v pduSample bs with
  | (s1, none) => s1
  | (s1, some p) => (sampleEntries p.payload (byteAt p.payload 0) 4).foldl (fun s e => s.sampleEntry p.node (s.stampIn v.port) e) s1

/-! ## IEC 61162-450 (R295, R296) -/

/-- A parsed datagram line: tag block parameters and sentence. -/
structure Line450 where
  src : List Byte
  grp : Option (Nat × Nat × Nat)   -- line, total, group id
  sent : List Byte
  deriving DecidableEq, Repr

/-- The tag block of a line, without its backslashes, with a right checksum; none when it is wrong. -/
def tagOk (t : List Byte) : Option (List (List Byte)) :=
  let n := t.length
  if n < 3 ∨ byteAt t (n - 3) ≠ 42 then none
  else match hexVal (byteAt t (n - 2)), hexVal (byteAt t (n - 1)) with
    | some h, some l => if sentSum (t.take (n - 3)) = 16 * h + l then some (splitOn 44 (t.take (n - 3))) else none
    | _, _ => none

/-- A tag block parameter `x:`. -/
def tagParam (ps : List (List Byte)) (x : Nat) : Option (List Byte) :=
  (ps.find? (fun p => byteAt p 0 == x && byteAt p 1 == 58)).map (fun p => p.drop 2)

/-- The three numbers of a g: parameter. -/
def grpOf (g : List Byte) : Option (Nat × Nat × Nat) :=
  match splitOn 45 g with
  | [a, b, c] => some (digitsNat a, digitsNat b, digitsNat c)
  | _ => none

/-- One line of a datagram: an optional tag block between backslashes, then the sentence. -/
def lineOf (l : List Byte) : Option Line450 :=
  match splitOn 92 l with
  | [sent] => some ⟨[], none, sent⟩
  | _ :: rest =>
    let tags := (rest.dropLast).filter (fun t => !t.isEmpty)
    let ps := tags.map tagOk
    if ps.any (·.isNone) then none
    else
      let all := ps.flatMap (fun p => p.getD [])
      some ⟨(tagParam all 115).getD [], (tagParam all 103).bind grpOf, rest.getLast?.getD []⟩
  | [] => none

/-- Lines of a datagram, without CR and LF. -/
def linesOf (bs : List Byte) : List (List Byte) :=
  ((splitOn 10 bs).map (fun l => l.filter (fun b => b.toNat != 13))).filter (fun l => !l.isEmpty)

/-- The bindings of an I450 key: slot, source, talker, formatter (R405). -/
def State.bind450 (s : State) (slot : Nat) (src : List Byte) (body : List Byte) : List (Nat × List Byte) :=
  s.bindOf 3 (fun k => byteAt k 0 == slot && (k.drop 1).take 6 == fitBytes 6 src
    && (k.drop 7).take 2 == fitBytes 2 (sentKey body).1 && (k.drop 9).take 3 == fitBytes 3 (sentKey body).2)

/-- Pass one checked sentence to its parser (R296). -/
def State.sent450 (s : State) (slot : Nat) (src body : List Byte) (t : Nat) : State :=
  match s.bind450 slot src body with
  | [] => s.finc NET_450_CNT.UNSUP
  | bs => bs.foldl (fun s b => s.sentDeliver b.2 body t) (s.finc NET_450_CNT.OK)

/-- One line: a lone sentence at once, a line of a group when the group is complete (R296). -/
def State.line450 (s : State) (slot : Nat) (t : Nat) (l : Line450) : State :=
  match sentBody l.sent with
  | none => s.finc NET_450_CNT.BAD
  | some body =>
    match l.grp with
    | none => s.sent450 slot l.src body t
    | some (i, n, id) =>
      let same (g : Grp450) : Bool := g.slot == slot && g.src == l.src && g.id == id
      let rest := s.net.grps.filter (fun g => !same g)
      let cur := s.net.grps.find? same
      let g : Grp450 := match cur with | some g => g | none => ⟨slot, l.src, id, n, 1, []⟩
      if i ≠ g.next ∨ n ≠ g.total then ({ s with net := { s.net with grps := rest } }).finc NET_450_CNT.BAD
      else
        let ls := g.lines ++ [body]
        if i = n then ls.foldl (fun s b => s.sent450 slot l.src b t) { s with net := { s.net with grps := rest } }
        else { s with net := { s.net with grps := rest ++ [{ g with next := i + 1, lines := ls }] } }

/-- The 450 slot of a group address and port. -/
def State.slot450 (s : State) (addr port : Nat) : Option Nat :=
  (upTo 8).find? (fun n => s.fget (fldAt NET_450_ADDR.GROUP n) == addr && addr != 0
    && s.fget (fldAt NET_450_PORT.PORT n) == port)

/-- A 450 datagram on an Ethernet port, sent to `addr`:`port` (R295, R296). -/
def State.rx450 (s : State) (i : Tagged) (addr port : Nat) (bs : List Byte) : State :=
  if !(s.ethOn i.port && s.fbit (fldAt NET_PORT_CFG.I450 i.port) && s.vidOk i.port i.vid) then s
  else match s.slot450 addr port with
    | none => s
    | some slot =>
      if bs.take 6 ≠ ascii "UdPbC" ++ [0] then s.finc NET_450_CNT.UNSUP
      else
        let ls := (linesOf (bs.drop 6)).map lineOf
        if ls.any (·.isNone) then s.finc NET_450_CNT.BAD
        else
          let ls := ls.filterMap id
          let srcs := ls.map (·.src)
          -- groups left incomplete by an earlier datagram of the same source
          let dead := s.net.grps.filter (fun g => g.slot == slot && srcs.contains g.src)
          let s1 := dead.foldl (fun s g => ({ s with net := { s.net with grps := s.net.grps.filter (· != g) } }).finc
            NET_450_CNT.BAD) s
          let t := (s.stampIn i.port).toNat
          ls.foldl (fun s l => s.line450 slot t l) s1

/-! ## ARP, ICMP and IGMP (R270) -/

/-- A received frame: source, type and body; none when its VLAN is not the port's. -/
def State.ethIn (s : State) (n : Nat) (f : List Byte) : Option (List Byte × Nat × List Byte) :=
  let v := s.vlanOf n
  let src := (f.drop 6).take 6
  if beAt 2 f 12 = 0x8100 then
    if bit v 15 && decide (beAt 2 f 14 % 4096 = v % 4096) then some (src, beAt 2 f 16, f.drop 18) else none
  else some (src, beAt 2 f 12, f.drop 14)

/-- The multicast groups joined on a port (R270): PTP over IPv4, the pier group, the 450 groups. -/
def State.groupsOf (s : State) (n : Nat) : List Nat :=
  (if bit (s.fget TIM_PTP_CFG.PORTS) n && s.fget TIM_PTP_CFG.TRANSPORT == 0 then
     0xE0000181 :: (if s.fbit TIM_PTP_CFG.DELAY then [0xE000006B] else []) else [])
  ++ (if s.fbit (fldAt NET_PORT_CFG.PIER n) then [s.fget NET_PIER_GRP.GROUP] else [])
  ++ (if s.fbit (fldAt NET_PORT_CFG.I450 n) then
       ((upTo 8).map (fun i => s.fget (fldAt NET_450_ADDR.GROUP i))).filter (· != 0) else [])

/-- An IGMPv2 membership report for a group. -/
def State.igmpReport (s : State) (n g : Nat) : State :=
  let m (c : Nat) : List Byte := [0x16, 0] ++ beBytes 2 c ++ beBytes 4 g
  s.send (.eth n) (s.ethFrame n 0 0x0800 (mcastMac g) (ipv4 1 2 (s.ipOf n) g true (m (ipCheck (m 0)))))

/-- Membership reports for every group joined on a port. -/
def State.igmpReports (s : State) (n : Nat) : State := (s.groupsOf n).foldl (fun s g => s.igmpReport n g) s

/-- An ARP request, ICMP echo request or IGMP query received on an Ethernet port is answered (R270). -/
def State.arpIcmpIgmp (s : State) (n : Nat) (f : List Byte) : State :=
  if !s.ethOn n then s
  else match s.ethIn n f with
    | none => s
    | some (src, ty, b) =>
      if ty = 0x0806 then
        if beAt 2 b 6 = 1 ∧ beAt 4 b 24 = s.ipOf n then
          s.send (.eth n) (s.ethFrame n 0 0x0806 src (b.take 6 ++ beBytes 2 2 ++ macOf n ++ beBytes 4 (s.ipOf n)
            ++ (b.drop 8).take 10))
        else s
      else if ty = 0x0800 then
        let hl := 4 * (byteAt b 0 % 16)
        let pl := (b.drop hl).take (beAt 2 b 2 - hl)
        if byteAt b 9 = 1 ∧ byteAt pl 0 = 8 ∧ beAt 4 b 16 = s.ipOf n then
          let m (c : Nat) : List Byte := [0, 0] ++ beBytes 2 c ++ pl.drop 4
          s.send (.eth n) (s.ethFrame n 0 0x0800 src (ipv4 Config.ipTtl 1 (s.ipOf n) (beAt 4 b 12) false (m (ipCheck (m 0)))))
        else if byteAt b 9 = 2 ∧ byteAt pl 0 = 0x11 then
          let g := beAt 4 pl 4
          if g = 0 then s.igmpReports n else if (s.groupsOf n).contains g then s.igmpReport n g else s
        else s
      else s

/-! ## Links (R484) -/

/-- The link of a port goes up or down: LINK and SPEED, the LINK event; a loss is one transient error of an Ethernet
port's channel (R297, R412, R484). -/
def State.linkChange (s : State) (n : Nat) (up fast : Bool) : State :=
  if 6 ≤ n ∨ !s.netOn ∨ (n < 4 ∧ !s.fbit (fldAt NET_PORT_CFG.EN n)) then s
  else if s.fbit (fldAt NET_PORT_STAT.LINK n) == up then s
  else
    let spd := if 4 ≤ n then true else if s.fbit (fldAt NET_PORT_CFG.AUTO n) then fast else s.fbit (fldAt NET_PORT_CFG.SPEED n)
    let s1 := (s.fput (fldAt NET_PORT_STAT.LINK n) up).fput (fldAt NET_PORT_STAT.SPEED n) (up && spd)
    if 4 ≤ n then s1
    else
      let s2 := s1.event 0x0A 0x01 0 (evData n (b2n up))
      if up then s2.igmpReports n
      else
        let (s3, ret) := s2.fltErr 1 n
        if ret then s3.fup (fldAt NET_PORT_STAT.RETIRED n) else s3

end Sys2Proof.Machine
end

