-- ==== Sys2Proof/Machine/Ptp.lean ====
section
/-!
DEFINITION. Precision Time Protocol (R275 to R281, R298) and the corrections of TIME_NS it makes (R18 to R22, R24):
INC, slews, armed steps, domains, the servo, holdover, the PTP messages sent.
-/

namespace Sys2Proof.Machine

/-! ## INC, slews, steps -/

/-- The limits of INC (R19). -/
def incMin : Nat := 0x07FEF9DB23
def incMax : Nat := 0x08010624DD

/-- Load INC at the next CLK_TS edge, limited under R19 (R20). -/
def State.incWrite (s : State) (w : Nat) : State :=
  let c := if w < incMin then incMin else if w > incMax then incMax else w
  let s1 := { s with time := { s.time with incLoad := some (BitVec.ofNat 40 c) } }
  if c = w then s1
  else ((s1.fset TIM_INC_FRAC.FRAC (c % 2 ^ 32)).fset TIM_INC_INT.INT (c / 2 ^ 32)).fup TIM_INC_INT.CLAMPED

/-- The INC in force, or the one about to be. -/
def State.incNow (s : State) : Nat := (s.time.incLoad.getD s.time.inc).toNat

/-- The servo writes INC: both halves, then the load (R278, R20). -/
def State.servoInc (s : State) (w : Nat) : State :=
  (((s.fset TIM_INC_FRAC.FRAC (w % 2 ^ 32)).fset TIM_INC_INT.INT (w / 2 ^ 32)).incWrite w)

/-- Show whether a slew is in progress. -/
def State.showSlew (s : State) : State :=
  let b := s.time.slewLeft != 0
  (s.fput TIM_SLEW.SLEWING b).fput TIM_STATUS.SLEWING b

/-- Request a slew of `ns` at a rate in ppb; it replaces any remainder (R22). -/
def State.slewReq (s : State) (ns : Int) (rate : Nat) : State :=
  ({ s with time := { s.time with slewLeft := ns * 2 ^ 32, slewRate := rate } }).showSlew

/-- The rate of a slew in progress never exceeds SLEW_MAX, a new SLEW_MAX included (R22). -/
def State.slewCap (s : State) : State :=
  { s with time := { s.time with slewRate := min s.time.slewRate (s.fget TIM_SLEW.SLEW_MAX) } }

/-- A slew has ended: SLEWING clears (R22). -/
def State.slewEnd (s : State) : State := if s.time.slewLeft = 0 then s.showSlew else s

/-- Drop the slew in progress at a reset that restarts the servo (R22). -/
def State.slewDrop (s : State) : State := ({ s with time := { s.time with slewLeft := 0 } }).showSlew

/-- Arm a step of a correction of `d` ns, at least P: N frames at a boundary at least 2 frames away (R24, R25). -/
def State.armStep (s : State) (d : Nat) : State :=
  let n := d / s.pNs
  { s with
    time := { s.time with armed := some (s.time.frame + 3, n) }
    net := { s.net with ptp := { s.net.ptp with stepR := Int.ofNat (d % s.pNs) } } }

/-! ## Domains (R276, R277) -/

/-- An empty domain. -/
def domOff : DomSt := resetDom

/-- Does a master announce the ARB timescale: bit 3 of its flags, PTP timescale, is 0 (R275). -/
def annArb (a : Ann) : Bool := !bit a.flags 3

/-- Domain 0 (primary) or 1 (secondary). -/
def State.dom (s : State) (i : Nat) : DomSt := if i = 0 then s.net.ptp.pri else s.net.ptp.sec

/-- State of a domain in the coding of R276. -/
def domCode (clsMax : Nat) (d : DomSt) : Nat :=
  match d.best with
  | none => 0
  | some m => if m.ann.cls > clsMax || annArb m.ann then 3 else if d.nMeas < 16 then 1 else 2

/-- State of domain `i`. -/
def State.domState (s : State) (i : Nat) : Nat := domCode (s.fget TIM_DOM_CFG.CLASS_MAX) (s.dom i)

/-- Is domain `i` USABLE. -/
def State.usable (s : State) (i : Nat) : Bool := s.domState i == 2

/-- The path delay entry of an Ethernet port: the domain's end to end, the port's own peer to peer (R277). -/
def State.pathIdx (s : State) (port : Nat) : Nat := if s.fbit TIM_PTP_CFG.DELAY then port else 0
/-- The path delay of domain `d` on a port. -/
def State.pathOf (s : State) (d : DomSt) (port : Nat) : PathSt := d.paths.getD (s.pathIdx port) resetPath
/-- Set it. -/
def State.pathPut (s : State) (d : DomSt) (port : Nat) (p : PathSt) : DomSt := { d with paths := d.paths.set (s.pathIdx port) p }

/-- Write domain `i`, its registers, and since when it is USABLE; TIM_OFS keeps the last offset (R298). -/
def State.domPut (s : State) (i : Nat) (d : DomSt) : State :=
  let st := domCode (s.fget TIM_DOM_CFG.CLASS_MAX) d
  let d1 := { d with usableAt := if st = 2 then some (d.usableAt.getD s.now) else none }
  let cls := match d.best with | some m => m.ann.cls % 256 | none => 255
  let p := s.net.ptp
  let s1 := { s with net := { s.net with ptp := if i = 0 then { p with pri := d1 } else { p with sec := d1 } } }
  let f := if i = 0 then TIM_OFS_PRI.O else TIM_OFS_SEC.O
  let ofs := match d.last with | some o => tc 32 (satS 32 o) | none => s.fget f
  let mpd := tc 32 (satS 32 (s.pathOf d (match d.best with | some m => m.ann.port | none => 0)).mpd)
  if i = 0 then
    (((s1.fset TIM_SRV_STAT.ST_PRI st).fset TIM_SRV_STAT.CLASS_PRI cls).fset TIM_OFS_PRI.O ofs).fset TIM_MPD_PRI.MPD mpd
  else
    (((s1.fset TIM_SRV_STAT.ST_SEC st).fset TIM_SRV_STAT.CLASS_SEC cls).fset TIM_OFS_SEC.O ofs).fset TIM_MPD_SEC.MPD mpd

/-- The tracked domain with a domain number (R276). -/
def State.domIdx (s : State) (n : Nat) : Option Nat :=
  if n = s.fget TIM_DOM_CFG.PRI_DOMAIN then some 0
  else if s.fbit TIM_DOM_CFG.SEC_EN ∧ n = s.fget TIM_DOM_CFG.SEC_DOMAIN then some 1 else none

/-- Does an Ethernet port run PTP. -/
def State.ptpOn (s : State) (n : Nat) : Bool := s.ethOn n && bit (s.fget TIM_PTP_CFG.PORTS) n

/-- Does an Ethernet port take a PTP message: in its VLAN, over the transport of all ports (R270, R275). -/
def State.ptpIn (s : State) (n : Nat) (w : Wire) : Bool :=
  s.ptpOn n && s.vidOk n w.vid && w.l2 == s.fbit TIM_PTP_CFG.TRANSPORT

/-- Lexicographic order of ranks. -/
def rankLt : List Nat → List Nat → Bool
  | a :: x, b :: y => if a < b then true else if a = b then rankLt x y else false
  | _, _ => false

/-- The data-set comparison of the default BMCA. -/
def rankOf (a : Ann) : List Nat := [a.prio1, a.cls, a.acc, a.variance, a.prio2, a.gm, a.steps, a.src]

/-- The best of the masters heard. -/
def bestMaster : List Master → Option Master
  | [] => none
  | m :: ms => match bestMaster ms with
    | none => some m
    | some b => if rankLt (rankOf b.ann) (rankOf m.ann) then some b else some m

/-- Choose the parent of a domain; a change of grandmaster identity clears its measurements (R276, R277). -/
def domBest (d : DomSt) : DomSt :=
  let b := bestMaster d.masters
  let same := match d.best, b with | some x, some y => x.ann.gm == y.ann.gm | none, none => true | _, _ => false
  if same then { d with best := b }
  else { d with best := b, nMeas := 0, last := none, paths := d.paths.map (fun p => { p with req := none, last16 := [], n := 0 }) }

/-- Drop the masters whose announceReceiptTimeout has passed. -/
def domAlive (now : Nat) (d : DomSt) : DomSt := domBest { d with masters := d.masters.filter (fun m => decide (now < m.ends)) }

/-! ## Selection (R279 to R281) -/

/-- Servo states of R278. -/
def svFree : Nat := 0
def svAcquire : Nat := 1
def svLocked : Nat := 2
def svTransition : Nat := 3
def svHoldover : Nat := 4

/-- The servo's state. -/
def State.servo (s : State) : Nat := s.fget TIM_SRV_STAT.SERVO
/-- The selected domain. -/
def State.sel (s : State) : Nat := s.fget TIM_SRV_STAT.SEL

/-- Update the servo's record. -/
def State.ptpMod (s : State) (f : PtpSt → PtpSt) : State := { s with net := { s.net with ptp := f s.net.ptp } }

/-- Time spent in LOCKED so far. -/
def State.lockedNs (s : State) : Nat :=
  s.net.ptp.lockNs + (if s.servo = svLocked then s.now - s.net.ptp.lockAt else 0)

/-- Enter a servo state: leaving LOCKED ends n_fwd; the first LOCKED clears TIME_UNSET (R278, R279). -/
def State.setServo (s : State) (v : Nat) : State :=
  let l := s.lockedNs
  let s1 := (s.ptpMod (fun p => { p with lockNs := l, lockAt := s.now, good := 0, bad := 0,
                                         nFwd := if v = svLocked then p.nFwd else 0 })).fset TIM_SRV_STAT.SERVO v
  if v = svLocked then s1.fset TIM_STATUS.TIME_UNSET 0 else s1

/-- DOMAIN_SWITCH: select domain `i` without a phase or frequency step and enter TRANSITION (R280). -/
def State.domSwitch (s : State) (i : Nat) (count : Bool) : State :=
  let s1 := (s.fset TIM_SRV_STAT.SEL i).setServo svTransition
  let s2 := s1.ptpMod (fun p => { p with prev := none, nFwd := 0, transAt := s.now })
  let s3 := if count then s2.finc TIM_SRV_CNT.SWITCH else s2
  s3.event 0x02 0x03 0 (evData i 0)

/-- The INC of HOLDOVER: the mean of the values written over the last 60 s in LOCKED (R281). -/
def State.holdInc (s : State) : Nat :=
  let l := s.lockedNs
  let v := s.net.ptp.incs.filter (fun p => decide (l ≤ p.1 + 60000000000))
  if v.isEmpty then s.incNow else (rndAway (Int.ofNat (v.map (·.2)).sum) v.length).toNat

/-- Enter HOLDOVER (R280, R281). -/
def State.enterHoldover (s : State) : State :=
  let s1 := (s.ptpMod (fun p => { p with holdSel := s.sel })).servoInc s.holdInc
  ((s1.setServo svHoldover).finc TIM_SRV_CNT.HOLDOVER).alarm 0x02 0x04 0 0

/-- The consequences of a change of domain state (R279, R280, R281). -/
def State.domJudge (s : State) : State :=
  let u0 := s.usable 0
  let u1 := s.usable 1
  if s.servo = svFree then
    if (u0 || u1) && s.op != .boot then
      ((s.fset TIM_SRV_STAT.SEL (if u0 then 0 else 1)).setServo svAcquire).ptpMod
        (fun p => { p with started := true, prev := none })
    else s
  else if s.servo = svHoldover then
    if u0 || u1 then
      let i := if u0 then 0 else 1
      (s.clearAlarm 0x02 0x04 0).domSwitch i (i != s.net.ptp.holdSel)
    else s
  else
    let other := 1 - s.sel
    let st := s.domState s.sel
    if (st = 0 ∨ st = 3) ∧ s.usable other then s.domSwitch other true
    else if !u0 && !u1 then s.enterHoldover
    else s

/-- A master of a domain is ignored from now on (R275). -/
def domDrop (d : DomSt) (src port : Nat) : DomSt :=
  domBest { d with masters := d.masters.filter (fun m => m.ann.src != src || m.ann.port != port) }

/-- ANNOUNCE_RX: a master at another Announce rate, or that sends Sync at another rate, is ignored (R275, R276). -/
def State.announce (s : State) (a : Ann) : State :=
  match s.domIdx a.domain with
  | none => s
  | some i =>
    let d := s.dom i
    if !s.ptpIn a.port a.wire then s
    else if a.logAnn < -3 || a.logAnn > 2 then (s.domPut i (domDrop d a.src a.port)).domJudge
    else if d.offRate.contains (a.src, a.port) then s
    else
      let t := 3 * (if a.logAnn < 0 then 1000000000 / 2 ^ a.logAnn.natAbs else 1000000000 * 2 ^ a.logAnn.natAbs)
      let ms := d.masters.filter (fun m => m.ann.src != a.src || m.ann.port != a.port)
      (s.domPut i (domBest { d with masters := ms ++ [⟨a, s.now + t⟩] })).domJudge

/-- ANNOUNCE_TIMEOUT: masters not heard within announceReceiptTimeout are dropped (R276), in the other domain too, so that both are judged
together (R280). -/
def State.announceTimeout (s : State) (i : Nat) : State :=
  let i := i % 2
  let s1 := s.domPut i (domAlive s.now (s.dom i))
  (s1.domPut (1 - i) (domAlive s.now (s1.dom (1 - i)))).domJudge

/-! ## The servo (R278) -/

/-- Reduce a rational. -/
def qNorm (n : Int) (d : Nat) : Q := let g := Nat.gcd n.natAbs d; if g = 0 then ⟨0, 1⟩ else ⟨n / Int.ofNat g, d / g⟩

/-- y + k × (num / den), clamped to ±500,000 ppb. -/
def yNext (y : Q) (kn : Int) (kd : Nat) (num den : Int) : Q :=
  let (num, den) := if den < 0 then (-num, -den) else (num, den)
  let d := y.d * kd * den.toNat
  let n := y.n * Int.ofNat (kd * den.toNat) + kn * num * Int.ofNat y.d
  if n > 500000 * Int.ofNat d then ⟨500000, 1⟩ else if n < -(500000 * Int.ofNat d) then ⟨-500000, 1⟩ else qNorm n d

/-- round(2^35 × (1 − y × 10^-9)). -/
def incOfY (y : Q) : Nat :=
  (rndAway (2 ^ 35 * (Int.ofNat (1000000000 * y.d) - y.n)) (1000000000 * y.d)).toNat

/-- y seeded from the INC in force, in whole ppb (R278). -/
def yOfInc (inc : Nat) : Q := ⟨rndAway ((2 ^ 35 - Int.ofNat inc) * 1000000000) (2 ^ 35), 1⟩

/-- Write y with its register. -/
def State.setY (s : State) (y : Q) : State :=
  (s.ptpMod (fun p => { p with y := y })).fset TIM_FREQ.Y (tc 32 (satS 32 (rndAway (y.n * 256) y.d)))

/-- May this unit arm its own step (R25, R279). -/
def State.mayArm (s : State) : Bool := s.role != .standby && s.role != .isolated

/-- SLEW_MAX, or in TRANSITION the lower of it and SW_SLEW (R278). -/
def State.slewRateNow (s : State) : Nat :=
  let m := s.fget TIM_SLEW.SLEW_MAX
  if s.servo = svTransition then min m (100 * s.fget TIM_SRV_CFG.SW_SLEW) else m

/-- Arm a step of `-o`, or on a standby or isolated unit slew (R25). -/
def State.stepOrSlew (s : State) (o : Int) : State :=
  if s.mayArm then (if s.time.armed.isNone then s.armStep (-o).toNat else s) else s.slewReq (-o) s.slewRateNow

/-- The lock counters of R278. -/
def State.lockCount (s : State) (o : Int) : State :=
  let thr := s.fget TIM_SRV_CFG.LOCK_THR
  let p := s.net.ptp
  let good := if o.natAbs ≤ thr then p.good + 1 else 0
  let bad := if o.natAbs > 4 * thr then p.bad + 1 else 0
  let s1 := s.ptpMod (fun p => { p with good := good, bad := bad })
  if s.servo = svAcquire ∧ 16 ≤ good then s1.setServo svLocked
  else if s.servo = svLocked ∧ 16 ≤ bad then s1.setServo svAcquire
  else s1

/-- One accepted measurement of the selected domain (R278). -/
def State.servoRun (s : State) (o t2 : Int) : State :=
  let p := s.net.ptp
  if s.servo = svLocked ∧ -o ≥ Int.ofNat s.pNs then
    let s1 := s.ptpMod (fun p => { p with nFwd := p.nFwd + 1 })
    if p.nFwd + 1 = 8 ∧ s.time.armed.isNone then
      let other := 1 - s.sel
      match (s.dom other).last with
      | some oo =>
        if s.usable other && decide (oo.natAbs ≤ s.fget TIM_SRV_CFG.LOCK_THR) then s1.domSwitch other true
        else s1.stepOrSlew o
      | none => s1.stepOrSlew o
    else s1
  else
    let fresh := p.prev.isNone || p.nFwd != 0
    let (o1, tp) := if fresh then (o, t2) else p.prev.getD (o, t2)
    let sl : Int := if fresh then 0 else s.time.slewAdded
    -- ef = ((o - o1) - sl × 2^-32) / ((t2 - tp) × 10^-9), ppb
    let num := ((o - o1) * 2 ^ 32 - sl) * 1000000000
    let den := (t2 - tp) * 2 ^ 32
    let (kn, kd) : Int × Nat :=
      if s.servo = svAcquire then (1, 2)
      else if s.servo = svTransition then (1, 4 * 2 ^ s.fget TIM_SRV_CFG.KF_SHIFT)
      else (1, 2 ^ s.fget TIM_SRV_CFG.KF_SHIFT)
    let y := if fresh then p.y
      else if den = 0 then yNext p.y kn kd (sx 32 (Config.freeWord s.free)) 1
      else yNext p.y kn kd num den
    let inc := incOfY y
    let s1 := ((s.setY y).servoInc inc).tick1
    let incs := if s.servo = svLocked then
        (p.incs ++ [(s.lockedNs, inc)]).filter (fun x => decide (s.lockedNs ≤ x.1 + 60000000000)) else p.incs
    let s2 := { (s1.ptpMod (fun p => { p with prev := some (o, t2), nFwd := 0, incs := incs })) with
                time := { s1.time with slewAdded := 0 } }
    let s3 := if s.servo = svAcquire ∧ -o ≥ Int.ofNat s.pNs then s2.stepOrSlew o else s2.slewReq (-o) s.slewRateNow
    s3.lockCount o

/-- INITIAL_SET during BOOT: TIME_NS is set directly and the servo enters ACQUIRE (R279); the RTC becomes valid (R459). -/
def State.initialSet (s : State) (o : Int) : State :=
  let s0 := { (s.instMove (-o)) with time := { s.time with ns := BitVec.ofInt 64 (Int.ofNat s.now - o) } }
  let s1 := { s0.leakJump with sys := { s0.sys with rtc := s0.now / 8, rtcValid := true } }
  ((s1.fset TIM_SRV_STAT.SEL (if s1.usable 0 then 0 else 1)).setServo svAcquire).ptpMod
    (fun p => { p with started := true, prev := none })

/-- The rate a master sends Sync at, as its domain notes it: one at another rate is ignored, until it sends at an accepted one (R275). -/
def State.syncRate (s : State) (i : Nat) (m : SyncMsg) : State :=
  let d := s.dom i
  let off := d.offRate.filter (· != (m.src, m.port))
  if m.logSync < -7 || m.logSync > 0 then (s.domPut i (domDrop { d with offRate := off ++ [(m.src, m.port)] } m.src m.port)).domJudge
  else if d.offRate.contains (m.src, m.port) then s.domPut i { d with offRate := off }
  else s

/-- SYNC_RX (R277 to R280). -/
def State.syncRx (s : State) (m : SyncMsg) : State :=
  match s.domIdx m.domain with
  | none => s
  | some i =>
    if !s.ptpIn m.port m.wire then s
    else
      let s0 := s.syncRate i m
      let d := s0.dom i
      let p := s0.pathOf d m.port
      let fromBest := match d.best with | some b => b.ann.src == m.src && b.ann.port == m.port | none => false
      if !fromBest || p.n = 0 then s0
      else
        let t2 := m.t2 - s.fsgn (fldAt NET_PORT_DLY.ING m.port)
        let o := t2 - m.t1 - m.cf - p.mpd
        let s1 := s0.domPut i { d with nMeas := min 16 (d.nMeas + 1), last := some o }
        if s1.servo = svFree ∧ s1.op = .boot then (if s1.usable i then s1.initialSet o else s1)
        else
          let s2 := s1.domJudge
          if s2.sel = i ∧ (s2.servo = svAcquire ∨ s2.servo = svLocked ∨ s2.servo = svTransition) then s2.servoRun o t2 else s2

/-- DELAY_RESP_RX: a path delay measurement, gated and averaged, of the domain or peer to peer of the port (R277). -/
def State.delayRx (s : State) (m : DelayMsg) : State :=
  match s.domIdx m.domain with
  | none => s
  | some i =>
    let d := s.dom i
    let p := s.pathOf d m.port
    match p.req with
    | none => s
    | some (seq, t3) =>
      if !s.ptpIn m.port m.wire || seq != m.seq then s
      else
        let v := if s.fbit TIM_PTP_CFG.DELAY then rndAway ((s.stampIn m.port - t3) - (m.t5 - m.t4) - m.cf) 2
          else (m.t4 - t3) - m.cf
        let p1 := { p with req := none }
        if p.n < 16 ∨ (v - p.mpd).natAbs ≤ 10 * s.fget TIM_SRV_CFG2.PD_GATE then
          let l := lastN 16 (p.last16 ++ [v])
          s.domPut i (s.pathPut d m.port { p1 with last16 := l, n := min 16 (p.n + 1), mpd := rndAway (sumI l) l.length })
        else (s.domPut i (s.pathPut d m.port p1)).finc TIM_SRV_CNT.GATED

/-- TRANSITION_END: TRANSITION becomes LOCKED after TRANS_T seconds (R280). -/
def State.transitionEnd (s : State) : State :=
  if s.servo = svTransition ∧ s.net.ptp.transAt + s.fget TIM_SRV_CFG2.TRANS_T * 1000000000 ≤ s.now then s.setServo svLocked
  else s

/-- PRIMARY_REVERT (R280). -/
def State.primaryRevert (s : State) : State :=
  let ready := match s.net.ptp.pri.usableAt with
    | some t => decide (t + s.fget TIM_SRV_CFG2.REVERT_T * 1000000000 ≤ s.now)
    | none => false
  if s.fbit TIM_DOM_CFG.REVERT && s.sel == 1 && ready && s.usable 0
      && (s.servo == svAcquire || s.servo == svLocked || s.servo == svTransition) then s.domSwitch 0 true
  else s

/-- The servo restarts: FREE, y seeded from the INC in force, no slew (R278, R22). -/
def State.servoRestart (s : State) : State :=
  let y := yOfInc s.incNow
  let s1 := s.ptpMod (fun _ => ⟨domOff, domOff, y, none, 0, 0, 0, 0, [], 0, 0, false, 0, 0, 0⟩)
  (((s1.setY y).fset TIM_SRV_STAT.SERVO svFree).fset TIM_SRV_STAT.SEL 0).slewDrop

/-! ## Messages sent (R275) -/

/-- The clock identity: an EUI-64 from the base MAC address. -/
def clockId : List Byte := let m := macOf 0; m.take 3 ++ beBytes 2 0xFFFE ++ m.drop 3

/-- A PTP message: header of IEEE 1588-2019, then the body. -/
def ptpMsg (type domain port seq flags ctl : Nat) (cf log : Int) (body : List Byte) : List Byte :=
  beBytes 1 type ++ beBytes 1 0x12 ++ beBytes 2 (34 + body.length) ++ beBytes 1 domain ++ [0] ++ beBytes 2 flags
    ++ beBytes 8 (tc 64 (cf * 65536)) ++ beBytes 4 0 ++ clockId ++ beBytes 2 (port + 1) ++ beBytes 2 seq
    ++ beBytes 1 ctl ++ beBytes 1 (tc 8 log) ++ body

/-- A PTP timestamp. -/
def ptpStamp (t : Int) : List Byte := beBytes 6 (t.toNat / 1000000000) ++ beBytes 4 (t.toNat % 1000000000)

/-- Is a port MASTER in a domain: boundary clock, a parent elsewhere, and nothing better heard on the port (R275). -/
def State.masterOn (s : State) (i port : Nat) : Bool :=
  s.fbit TIM_PTP_CFG.BC && s.ptpOn port && (match (s.dom i).best with
    | none => false
    | some b => b.ann.port != port && (match bestMaster ((s.dom i).masters.filter (fun m => m.ann.port == port)) with
        | none => true
        | some m => m.ann.gm != b.ann.gm || decide (b.ann.steps + 1 < m.ann.steps)))

/-- Is a port SLAVE in a domain. -/
def State.slaveOn (s : State) (i port : Nat) : Bool :=
  s.ptpOn port && (match (s.dom i).best with | some b => b.ann.port == port | none => false)

/-- The Announce of a MASTER port: the parent's grandmaster data. -/
def annBody (b : Ann) (t : Int) : List Byte :=
  ptpStamp t ++ beBytes 2 b.utc ++ [0] ++ beBytes 1 b.prio1 ++ beBytes 1 b.cls ++ beBytes 1 b.acc ++ beBytes 2 b.variance
    ++ beBytes 1 b.prio2 ++ beBytes 8 b.gm ++ beBytes 2 (b.steps + 1) ++ beBytes 1 b.source

/-- The frame that carries a PTP message of `type` on a port: over UDP/IPv4 to the PTP group and port of IEEE 1588 Annex C, or over IEEE
802.3 (Annex E); peer delay messages have addresses of their own (R270, R275). -/
def State.ptpFrame (s : State) (n type : Nat) (msg : List Byte) : List Byte :=
  let peer := type == 2 || type == 3 || type == 10
  if s.fbit TIM_PTP_CFG.TRANSPORT then s.ethFrame n 6 0x88F7 (beBytes 6 (if peer then 0x0180C200000E else 0x011B19000000)) msg
  else s.udpFrame n 6 (if peer then 0xE000006B else 0xE0000181) (if type < 8 then 319 else 320) msg

/-- Send a PTP message of `type` on a port. -/
def State.ptpOut (s : State) (n type domain seq flags ctl : Nat) (cf log : Int) (body : List Byte) : State :=
  s.send (.eth n) (s.ptpFrame n type (ptpMsg type domain n seq flags ctl cf log body))

/-- PTP_MESSAGE_INTERVAL on a port in a domain: `what` 0 Sync with its Follow_Up, 1 Announce, 2 Delay_Req or Pdelay_Req. -/
def State.ptpSend (s : State) (port domain what : Nat) : State :=
  match s.domIdx domain with
  | none => s
  | some i =>
    let q := s.net.ptp.seq % 65536
    let up (s : State) : State := s.ptpMod (fun p => { p with seq := p.seq + 1 })
    let eg := s.stampOut port
    let d := s.dom i
    let asked (s : State) : State := s.domPut i (s.pathPut d port { s.pathOf d port with req := some (q, eg) })
    match what with
    | 0 =>
      if s.masterOn i port then up ((s.ptpOut port 0 domain q 0x0200 0 0 (-3) (ptpStamp 0)).ptpOut port 8 domain q 0 2 0 (-3) (ptpStamp eg))
      else s
    | 1 =>
      match d.best with
      | some b => if s.masterOn i port then up (s.ptpOut port 11 domain q (b.ann.flags % 64) 5 0 0 (annBody b.ann eg)) else s
      | none => s
    | _ =>
      if s.fbit TIM_PTP_CFG.DELAY then
        if s.ptpOn port then up (asked (s.ptpOut port 2 domain q 0 5 0 0 (ptpStamp 0 ++ List.replicate 10 0))) else s
      else if s.slaveOn i port then up (asked (s.ptpOut port 1 domain q 0 1 0 (-3) (ptpStamp 0)))
      else s

/-- DELAY_REQ_RX: answered as master or peer (R275). -/
def State.delayReq (s : State) (m : ReqMsg) : State :=
  match s.domIdx m.domain with
  | none => s
  | some i =>
    let t := s.stampIn m.port
    if !s.ptpIn m.port m.wire then s
    else if m.peer then
      if s.fbit TIM_PTP_CFG.DELAY then
        (s.ptpOut m.port 3 m.domain m.seq 0x0200 5 0 127 (ptpStamp t ++ beBytes 10 m.src)).ptpOut m.port 10 m.domain m.seq 0 5 m.cf 127
          (ptpStamp (s.stampOut m.port) ++ beBytes 10 m.src)
      else s
    else if !s.fbit TIM_PTP_CFG.DELAY && s.masterOn i m.port then
      s.ptpOut m.port 9 m.domain m.seq 0 3 m.cf (-3) (ptpStamp t ++ beBytes 10 m.src)
    else s

end Sys2Proof.Machine
end

