-- ==== Sys2Proof/Machine/Red.lean ====
section
/-!
DEFINITION. The redundancy set (R172 to R213): roles and epochs, LEASE, spans, the keystone decision, declarations,
transfers and handback, the manifest as built and as received, comparison and disagreement.
-/

namespace Sys2Proof.Machine

/-! ## Roles, epochs (R173, R174, R192) -/

/-- Update the redundancy record. -/
def State.redMod (s : State) (f : RedSt → RedSt) : State := { s with red := f s.red }

/-- The coding of RED_ROLE.ROLE. -/
def roleCode : Role → Nat
  | .none => 0 | .ready => 1 | .standby => 2 | .active => 3 | .isolated => 4 | .zone => 5 | .solo => 6

/-- Does a role hold the right to dispatch (R174). -/
def Role.dispatches (r : Role) : Bool := r == .active || r == .zone || r == .solo
/-- Does a role hold the full keystone. -/
def Role.holds (r : Role) : Bool := r == .active || r == .solo

/-- The operating state that goes with a role (R174): DEGRADED as the last boundary found the control engines (R7). -/
def State.opFor (s : State) (r : Role) : OpState :=
  let degr := s.fbit CEX_ASSIGN.DEGRADED
  match r with
  | .none => s.op
  | .ready => .ready
  | .standby => if degr then .degraded else .standby
  | .isolated => if degr then .degraded else .standby
  | _ => if degr then .degraded else .active

/-- Does a role permit the safety outputs (R218)? -/
def Role.energises (r : Role) : Bool := r != .none && r != .ready

/-- The safety outputs drop as soon as the role no longer permits them (R218). -/
def State.safRole (s : State) : State :=
  if s.role.energises then s
  else ({ s with saf := { s.saf with out := [0, 0] } }).fset SAF_STATUS.ENERGISED 0

/-- A unit that gives the keystone up knows of no holder until it hears one (R214). -/
def State.holderGone (s : State) : State :=
  if s.role.holds && s.fget RED_ROLE.HOLDER == s.unit then s.fset RED_ROLE.HOLDER 3 else s

/-- Does the unit dispatch: a role that does, and no entry into SAFE due (R174, R199). -/
def State.dispatches (s : State) : Bool := s.role.dispatches && !s.red.safeDue

/-- Show whether this unit is qualified; where qualification is lost the count starts anew (R210). -/
def State.setQual (s : State) (b : Bool) : State :=
  let s1 := s.fput RED_ROLE.QUALIFIED b
  if b then s1 else s1.fset RED_QUAL.COUNT 0

/-- A request for an image, what it has gathered and a catch-up end (R206, R209). -/
def State.reqGone (s : State) : State :=
  (s.redMod (fun x => { x with reqAt := none, imgRx := none, catchB := none, manBuf := [] })).fset RED_ROLE.CATCHUP 0

/-- Take a role (R173, R174). A unit that dispatches requests no image (R206); one that takes the keystone ends its declaration (R199);
a READY unit is not qualified (R210). -/
def State.setRole (s : State) (r : Role) : State :=
  let s0 := if r.holds then s else s.holderGone
  let s1 := (({ s0 with role := r, op := s.opFor r }).fset RED_ROLE.ROLE (roleCode r)).safRole
  let s2 := if r.dispatches then s1.reqGone else if r == .ready then s1.setQual false else s1
  if r.holds then (s2.redMod (fun x => { x with declare := 0, safeTrip := false })).clearAlarm 0x07 0x02 0 else s2

/-- Note an epoch: the highest known is kept in the D0 ledger header (R192, R487). -/
def State.noteEpoch (s : State) (e : Nat) : State :=
  if later e s.d0.epochHi then { s with d0 := { s.d0 with epochHi := e } } else s

/-- The next epoch (R192). -/
def State.nextEpoch (s : State) : Nat := (s.d0.epochHi + 1) % 2 ^ 32

/-- Hold epoch `e` of holder `u`, with the frame in which this unit took it (R192, R204). -/
def State.setEpoch (s : State) (e u : Nat) : State :=
  ((s.fset RED_EPOCH.EPOCH e).fset RED_ROLE.HOLDER u).redMod (fun x => { x with
    epochAt := if s.fget RED_EPOCH.EPOCH = e then x.epochAt else s.time.frame })

/-- Take the next epoch as this unit's own. -/
def State.takeEpoch (s : State) : State :=
  let e := s.nextEpoch
  ((s.noteEpoch e).setEpoch e s.unit).redMod (fun x => { x with validTo := none })

/-- Enter SAFE: role NONE, the demand withdrawn (R116, R173). -/
def State.toSafe (s : State) : State :=
  let s1 := (s.funcStandby.holderGone.reqGone).setQual false
  ((({ s1 with role := .none, op := .safe }).fset RED_ROLE.ROLE 0).redMod (fun x => { x with safeDue := false })).safRole

/-- Declare failure: no further COMMAND or MANIFEST PDU; SAFE at the next boundary for reasons 1 and 2, READY for the others
(R199, R97, R137, R232). -/
def State.declareFail (s : State) (reason : Nat) : State :=
  let s1 := (s.redMod (fun x => { x with declare := reason, plan := none,
                                         safeDue := x.safeDue || reason == 1 || reason == 2 })).fup RED_STATUS.DECLARED
  let s2 := (s1.alarm 0x07 0x02 0 reason).ledger 0x0012 (leBytes 1 reason)
  if reason = 1 ∨ reason = 2 then s2 else s2.setRole .ready

/-! ## Links (R176, R191, R201, R202) -/

/-- KEY_LEASE. -/
def State.keyLease (s : State) : Nat := s.fget RED_CFG.KEY_LEASE

/-- Did something last happen within `n` frames before frame `k`? -/
def recent (k n : Nat) (last : Option Nat) : Bool := match last with | some f => decide (k ≤ f + n) | none => false

/-- A span. -/
def spanOff : SpanSt := ⟨false, none, 0, 0, [], 65535⟩
def State.span (s : State) (n : Nat) : SpanSt := s.red.spans.getD n spanOff
def State.spanPut (s : State) (n : Nat) (x : SpanSt) : State :=
  let s1 := s.redMod (fun r => { r with spans := r.spans.set n x })
  if n = 0 then s1.fput RED_LINK.SPAN0_UP x.up else s1.fput RED_LINK.SPAN1_UP x.up

/-- The spans that are up. -/
def State.spansUp (s : State) : List Nat := (upTo 2).filter (fun n => (s.span n).up)

/-- Piers whose STATUS arrived in the last STATUS_AGE frames (R194). -/
def State.piersSeen (s : State) : Nat :=
  (s.red.piers.filter (fun p => decide (s.time.frame ≤ p.2 + statusAge s.allocBody))).length

/-- The alarms of a holder's links (R202). -/
def State.holderLinks (s : State) : State :=
  if !s.role.holds || s.fget RED_CFG.SET_N == 1 then s
  else
    let down := s.spansUp.isEmpty
    let seen := recent s.time.frame s.keyLease s.red.thrStat
    let lvl (s : State) (low : Nat) (f : Fld) (b : Bool) : State := (s.alarmLevel 0x07 low 0 b).fput f b
    lvl (lvl (lvl s 0x04 RED_STATUS.SPAN_LOST (down && seen)) 0x05 RED_STATUS.NET_PATH (!down && !seen)) 0x06 RED_STATUS.SPLIT
      (down && !seen)

/-- SPAN_DOWN: no correct LEASE from the neighbour in 3 consecutive frames (R176, R484). -/
def State.spanDown (s : State) (n : Nat) : State :=
  let x := s.span n
  let gone := match x.last with | some f => decide (f + 3 < s.time.frame) | none => true
  if x.up && gone then
    let (s1, ret) := (s.spanPut n { x with up := false, run := 0, rtt := 65535 }).fltErr 2 n
    (if ret then s1.fup (fldAt NET_PORT_STAT.RETIRED (4 + n)) else s1).holderLinks
  else s

/-- SPAN_UP: 20 consecutive frames with a correct LEASE, up to now (R176); a retired span is held down (R484). -/
def State.spanUp (s : State) (n : Nat) : State :=
  let x := s.span n
  if !x.up && decide (20 ≤ x.run) && recent s.time.frame 1 x.last && !s.retired 2 n then
    (if s.hasAlarm 0x0F 0x02 (n + 2 * 4096) then (s.spanPut n { x with up := true }).retCleared 2 n
     else s.spanPut n { x with up := true }).holderLinks
  else s

/-! ## LEASE (R190, R194, R195) -/

/-- An unheard unit. -/
def State.lease (s : State) (u : Nat) : Option LeaseSt := s.red.leases.getD u none

/-- The own score of the last health report. -/
def State.ownHealth (s : State) : Nat :=
  match s.unit with | 0 => s.fget RED_HEALTH.A | 1 => s.fget RED_HEALTH.B | _ => s.fget RED_HEALTH.C

/-- Show a unit's score. -/
def State.showHealth (s : State) (u h : Nat) : State :=
  match u with | 0 => s.fset RED_HEALTH.A h | 1 => s.fset RED_HEALTH.B h | _ => s.fset RED_HEALTH.C h

/-- FLAGS of the own LEASE (R195). -/
def State.leaseFlags (s : State) : Nat :=
  let r := s.red
  let k := s.time.frame
  let silent := !s.role.holds && decide (r.bootAt + s.keyLease ≤ k)
    && !recent k s.keyLease r.holdLease
  let qual := (s.role == .standby || s.role == .isolated) && s.fbit RED_ROLE.QUALIFIED
  let split := s.role == .zone || (s.role == .isolated && s.hasAlarm 0x07 0x06 0)
  b2n (r.declare != 0) + 2 * b2n r.safeTrip + 4 * b2n qual + 8 * b2n r.reqAt.isSome
    + 16 * b2n silent + 32 * b2n (match r.plan with | some p => !p.2.2 && s.role.holds | none => false)
    + 64 * b2n (match r.plan with | some p => p.2.2 && s.role.holds | none => false) + 128 * b2n split

/-- The payload of the own LEASE of frame `k`, with the ECHO of its path; `heard` is the mask of units heard. -/
def State.leaseBytes (s : State) (k echo heard : Nat) : List Byte :=
  let r := s.red
  let hold := s.fget RED_ROLE.HOLDER
  leBytes 1 s.unit ++ leBytes 1 (roleCode s.role) ++ leBytes 1 (if hold = 3 then 255 else hold) ++ leBytes 1 s.ownHealth
    ++ leBytes 4 s.leaseFlags ++ leBytes 4 (if s.role.holds then k + s.keyLease else 0)
    ++ leBytes 4 (match r.plan with | some p => if s.role.holds then p.1 else 0 | none => 0)
    ++ leBytes 4 r.digest ++ leBytes 1 (r.misShown.getD (s.fget RED_MISMATCH.COUNT)) ++ leBytes 1 s.keyLease ++ leBytes 2 s.piersSeen
    ++ leBytes 4 s.hash ++ leBytes 2 echo
    ++ leBytes 1 (b2n (s.span 0).up + 2 * b2n (s.span 1).up + 4 * heard) ++ leBytes 1 r.declare

/-- LEASE_SEND: one LEASE on each span and on the network, early in frame `k` (R176, R190). -/
def State.leaseSend (s : State) (k : Nat) : State :=
  let heard := s.fget RED_LINK.LEASE_NET ||| s.fget RED_LINK.LEASE_SPAN
  let q := s.nextSeq pduLease
  let net := s.ownPdu pduLease k (s.leaseBytes k 0 heard)
  let s1 := s.pierPorts.foldl (fun s n => s.send (.eth n) (s.pduFrame n pduLease net)) s
  let s2 := (upTo 2).foldl (fun s n =>
      let x := s.span n
      let s' := s.send (.span n) (s.spanFrame n (s.ownPdu pduLease k (s.leaseBytes k (x.rxSeq % 65536) heard)))
      s'.spanPut n { x with sent := (q, s.now) :: x.sent.take 7 }) s1
  let s3 := (s2.seqUp pduLease).fset RED_LINK.LEASE_NET 0
  (s3.fset RED_LINK.LEASE_SPAN 0).redMod (fun x => { x with misShown := none, digSent := x.digest })

/-- Stage a received PDU for the recorder (R473). -/
def State.stagePdu (s : State) (stamp : Int) (bs : List Byte) : State :=
  if s.fbit DIA_CFG.REC_PDU then s.stage 4 0 (leBytes 8 (tc 64 stamp) ++ bs) else s

/-- A holder steps back for a later epoch: READY, nothing further sent, no declaration (R192, R205). -/
def State.yieldKey (s : State) : State := (s.setRole .ready).redMod (fun x => { x with plan := none })

/-! ## Disagreement (R188, R189) -/

/-- Who is faulty by R189, from the digests and scores of the units: none, or a unit. -/
def faultyOf (setN act a : Nat) (b : Option Nat) (dig health : Nat → Nat) : Option Nat :=
  match setN, b with
  | 3, some b =>
    if dig a = dig b ∧ dig a ≠ dig act then some act
    else if dig act = dig a ∧ dig b ≠ dig act then some b
    else if dig act = dig b ∧ dig a ≠ dig act then some a
    else none
  | _, _ => if health act < health a then some act else if health a < health act then some a else none

/-- DISAGREEMENT_RESOLVE as this unit applies it, on the scores and digests of the LEASEs of the frame: of its own LEASE too (R189). -/
def State.resolve (s : State) (act a : Nat) (b : Option Nat) : State :=
  let dig (u : Nat) : Nat := if u = s.unit then s.red.digSent else match s.lease u with | some l => l.digest | none => 0
  let hea (u : Nat) : Nat := if u = s.unit then s.ownHealth else match s.lease u with | some l => l.health | none => 0
  match faultyOf (s.fget RED_CFG.SET_N) act a b dig hea with
  | none => ((s.fup RED_STATUS.DISAGREE).alarm 0x07 0x03 0 0).redMod (fun x => { x with matchRun := 0 })
  | some u =>
    if u ≠ s.unit then s
    else if u = act then s.declareFail 4
    else (s.setRole .ready).redMod (fun x => { x with reqAt := some s.time.frame })

/-- The LEASE of a standby received in this frame (R189). -/
def State.standbyLease (s : State) (u : Nat) : Option LeaseSt :=
  if bit (s.fget RED_LINK.LEASE_NET ||| s.fget RED_LINK.LEASE_SPAN) u then (s.lease u).filter (fun l => l.role == 2) else none

/-- The other standbys whose LEASE came in this frame. -/
def State.otherStandby (s : State) (act a : Nat) : Option Nat :=
  (upTo 3).find? (fun u => u != act && u != a && (u == s.unit || (s.standbyLease u).isSome))

/-- Clear DISAGREE (R189). -/
def State.disagreeClear (s : State) : State :=
  ((s.fset RED_STATUS.DISAGREE 0).clearAlarm 0x07 0x03 0).redMod (fun x => { x with matchRun := 0 })

/-- The holder's part in R189, at its CUTOFF, on all the LEASEs of the frame: it resolves where a standby's shows a count that has reached
MISMATCH_N. Comparing nothing itself, it takes a frame in which every standby's LEASE shows MISMATCH 0 as one of the MATCH
frames that clear DISAGREE (DEDUCED, log 265). -/
def State.holderJudge (s : State) : State :=
  let sb := (upTo 3).filter (fun u => u != s.unit && (s.standbyLease u).isSome)
  let mis (u : Nat) : Nat := match s.standbyLease u with | some l => l.mis | none => 0
  if !s.role.holds || sb.isEmpty then s
  else match sb.find? (fun u => decide (s.fget RED_CFG.MISMATCH_N ≤ mis u)) with
    | some a => s.resolve s.unit a (s.otherStandby s.unit a)
    | none =>
      if !s.hasAlarm 0x07 0x03 0 then s
      else
        let s1 := s.redMod (fun x => { x with matchRun := if sb.all (fun u => mis u == 0) then x.matchRun + 1 else 0 })
        if s1.fget RED_CFG2.QUALIFY_N ≤ s1.red.matchRun then s1.disagreeClear else s1

/-! ## LEASE received (R191, R192, R205) -/

/-- The LEASE fields of a payload. -/
def leaseOf (own : Nat) (p : Pdu) (old : Option LeaseSt) : LeaseSt :=
  let b := p.payload
  ⟨p.node, p.epoch, byteAt b 1, byteAt b 2, byteAt b 3, uAt 4 b 4, expandFrame own (uAt 4 b 8),
    expandFrame own (uAt 4 b 12), uAt 4 b 16, uAt 2 b 22, uAt 4 b 24, byteAt b 30, byteAt b 31, byteAt b 20,
    old.bind (·.net), old.bind (·.span)⟩

/-- Is a role code one that dispatches. -/
def roleClaims (r : Nat) : Bool := r == 3 || r == 5 || r == 6

/-- A LEASE from unit `u` has been taken on a path: the keystone as this unit knows it (R190 to R192, R205). -/
def State.leaseTake (s : State) (u : Nat) (l : LeaseSt) (span : Bool) : State :=
  let k := s.time.frame
  let cur := s.fget RED_EPOCH.EPOCH
  let s0 := s.noteEpoch l.epoch
  let s1 := if roleClaims l.role then s0.redMod (fun x => { x with claimAt := some k }) else s0
  -- a declaration of the holder this unit follows
  let s2 := if u = s.fget RED_ROLE.HOLDER ∧ (bit l.flags 0 ∨ bit l.flags 1) then s1.redMod (fun x => { x with declHolder := true })
    else s1
  if l.role = 3 ∨ l.role = 6 then
    if s.role.holds then
      if later l.epoch cur then (s2.setEpoch l.epoch u).yieldKey else s2
    else if s.role == .zone then
      s2.redMod (fun x => { x with plan := if bit l.flags 6 then some (l.atFrame, u, true) else x.plan })
    else if later cur l.epoch then s2
    else
      let fresh := later l.epoch cur || s.fget RED_ROLE.HOLDER != u
      let v := if fresh then l.validTo else match s.red.validTo with | some v => max v l.validTo | none => l.validTo
      let s3 := s2.setEpoch l.epoch u
      let s4 := s3.redMod (fun x => { x with
        validTo := some v, holdLease := some k, holdSpan := if span then some k else x.holdSpan, holdNet := if span then x.holdNet else some k,
        plan := if bit l.flags 5 then some (l.atFrame, s.unit, false) else if bit l.flags 6 then some (l.atFrame, s.unit, true)
          else none })
      let diff := l.hash != s.hash
      let s5 := (s4.alarmLevel 0x07 0x07 0 diff).fput RED_STATUS.CONFIG_DIFF diff
      let s6 := if diff then s5.reqGone else s5
      if diff && (s.role == .standby || s.role == .isolated) then s6.setRole .ready else s6
  else if l.role = 5 ∧ s.role.holds ∧ s.red.plan.isNone then
    s2.redMod (fun x => { x with plan := some (k + 2, u, true) })
  else s2

/-- LEASE_RX on Ethernet port 0 to 3 or span 4, 5 (R176, R191, R192). -/
def State.leaseRx (s : State) (via : Via) (bs : List Byte) : State :=
  let n := via.port
  match s.pduIn via pduLease bs with
  | (s1, none) => s1
  | (s1, some p) =>
    let u := byteAt p.payload 0
    let span := decide (4 ≤ n)
    if u ≥ 3 ∨ p.payload.length ≠ 32 ∨ (span ∧ (u ≠ s.spanUnit (n - 4) ∨ p.node ≠ s.nodeOf u)) then s1
    else
      let k := s.time.frame
      let s2 := s1.stagePdu (s.stampIn n) bs
      let s3 := if span then
          let i := n - 4
          let x := s2.span i
          let run := match x.last with | some f => if f = k then x.run else if f + 1 = k then x.run + 1 else 1 | none => 1
          let echo := uAt 2 p.payload 28
          let rtt := match x.sent.find? (fun q => q.1 % 65536 == echo) with
            | some q => satU 16 (s.now - q.2)
            | none => x.rtt
          (s2.spanPut i { x with last := some k, run := run, rxSeq := p.seq, rtt := rtt }).fset RED_LINK.LEASE_SPAN
            (s2.fget RED_LINK.LEASE_SPAN ||| 2 ^ u)
        else s2.fset RED_LINK.LEASE_NET (s2.fget RED_LINK.LEASE_NET ||| 2 ^ u)
      let l0 := leaseOf k p (s.lease u)
      let l := if span then { l0 with span := some k } else { l0 with net := some k }
      let s4 := ((s3.redMod (fun x => { x with leases := x.leases.set u (some l) })).showHealth u l.health).leaseTake u l span
      -- requests for an image or a refresh (R206)
      if bit l.flags 3 && s4.role.holds && !s4.red.imgWait.contains u then
        s4.redMod (fun x => { x with imgWait := x.imgWait ++ [u] })
      else s4

/-- Does the configuration of this unit differ from the holder's, by the last LEASE of the holder (R172)? -/
def State.hashDiff (s : State) : Bool :=
  match s.lease (s.fget RED_ROLE.HOLDER) with
  | some l => l.hash != s.hash
  | none => false

/-! ## The keystone decision (R196, R197, R198, R203, R204) -/

/-- The successor (R196): the qualified standbys heard within KEY_LEASE frames, and this unit. -/
def State.successor (s : State) : Option Nat :=
  let k := s.time.frame
  let cand (u : Nat) : Option Nat :=
    if u = s.unit then (if s.fbit RED_ROLE.QUALIFIED && (s.role == .standby || s.role == .isolated) then some s.ownHealth else none)
    else match s.lease u with
      | some l => if bit l.flags 2 && (recent k s.keyLease l.net || recent k s.keyLease l.span) then some l.health else none
      | none => none
  (upTo (s.fget RED_CFG.SET_N)).foldl (fun (b : Option Nat) u =>
    match cand u, b with
    | some h, some v => if h > (cand v).getD 0 then some u else b
    | some _, none => some u
    | none, _ => b) none

/-- Proof of silence in frame `j` (R196). -/
def State.silence (s : State) (j : Nat) : Bool :=
  let witnesses := (s.cfg.objs.filter (fun o => idKind o.id == 0x10 && o.flags % 2 == 1 && uAt 1 o.body 4 == 1)).map
    (fun o => (uAt 2 o.body 0, uAt 1 o.body 3))
  let zones := (upTo 5).filter (fun z => z != 0 && witnesses.any (fun w => w.2 == z))
  let since := s.fOf (j - 2)
  !zones.isEmpty && zones.all (fun z => witnesses.any (fun w => w.2 == z
    && s.red.silent.any (fun p => p.1 == w.1 && decide (since ≤ p.2))))

/-- TAKEOVER: ACTIVE with the next epoch (R198). -/
def State.takeOver (s : State) : State :=
  let old := s.fget RED_EPOCH.EPOCH
  let s1 := ((s.takeEpoch).setRole .active).holderLinks
  let new := s1.fget RED_EPOCH.EPOCH
  let s2 := (((s1.fset RED_HELD.EPOCH new).fup RED_STATUS.TAKEOVER).finc RED_CNT.TAKEOVER).redMod
    (fun x => { x with plan := none, declHolder := false, following := false, man := none })
  let d := leBytes 4 old ++ leBytes 4 new
  (s2.event 0x07 0x01 2 d).ledger 0x0011 d

/-- ZONE_ENTRY (R204). -/
def State.zoneEnter (s : State) : State :=
  let s1 := ((s.takeEpoch).setRole .zone).redMod (fun x => { x with zonePiers := s.zoneStarved })
  (s1.fup RED_STATUS.ZONE_ENTRY).alarm 0x07 0x0C 0 0

/-- The split policy (R203, R204). -/
def State.splitPolicy (s : State) : State :=
  if s.fbit RED_CFG.SPLIT_POLICY && !s.zoneStarved.isEmpty then s.zoneEnter
  else ((s.setRole .isolated).fup RED_STATUS.SPLIT).alarm 0x07 0x06 0 0

/-- Request a refresh or a resynchronisation (R187, R206). -/
def State.reqImage (s : State) : State :=
  if s.red.reqAt.isSome then s else s.redMod (fun x => { x with reqAt := some s.time.frame })

/-- disp_seen: a COMMAND PDU of the current epoch observed in frames j - KEY_LEASE to j - 1 (R197). -/
def State.dispSeen (s : State) (j : Nat) : Bool :=
  recent j s.keyLease (if s.red.dispAt == some j then s.red.dispOld else s.red.dispAt)

/-- Does the unit follow a holder's manifest: as STANDBY, or awaiting the one of the successor (R182, R197). -/
def State.follows (s : State) : Bool := s.role == .standby || (s.role == .isolated && s.red.await)

/-- On a standby every window after CUTOFF lies 0.05 P later (R182). -/
def State.shift (s : State) : Nat := if s.follows then 5 else 0

/-- KEYSTONE_DECISION of the frame in progress (R197, R201). -/
def State.keyDecide (s : State) : State :=
  if s.role.holds || s.role == .zone || s.fget RED_CFG.SET_N == 1 then s
  else
    let j := s.time.frame
    let kl := s.keyLease
    let leaseOk := match s.red.validTo with | some v => decide (j ≤ v) | none => false
    let spanOk := recent j 1 s.red.holdSpan
    let declared := s.red.declHolder
    let disp := s.dispSeen j
    let sil := s.silence j
    let qual := s.fbit RED_ROLE.QUALIFIED
    let suc := s.successor
    let mine := qual && suc == some s.unit
    let s1 := ((s.redMod (fun x => { x with declHolder := false, await := false })).fput RED_LINK.SILENCE sil).fput RED_LINK.DISP_SEEN disp
    if s.role == .standby || s.role == .isolated then
      let noSuc (s : State) (b : Bool) : State := (s.alarmLevel 0x07 0x08 0 b).fput RED_STATUS.NO_SUCCESSOR b
      let s2 := if declared then noSuc s1 suc.isNone else s1
      if declared && mine then s2.takeOver
      else if !leaseOk && !disp && sil && mine then s2.takeOver
      else if !leaseOk && !disp && sil then
        (if suc.isNone then noSuc s2 true else s2).redMod (fun x => { x with await := true })
      else if !leaseOk && !disp then s2.splitPolicy
      else if !spanOk then
        let s3 := if recent j kl s.red.holdNet then (((s2.clearAlarm 0x07 0x05 0).fset RED_STATUS.NET_PATH 0).clearAlarm 0x07 0x06 0).fset
          RED_STATUS.SPLIT 0 else s2
        ((s3.setRole .isolated).fput RED_STATUS.SPAN_LOST true).alarm 0x07 0x04 0 0
      else
        let np := !recent j kl s.red.holdNet
        let s3 := (s2.alarmLevel 0x07 0x05 0 np).fput RED_STATUS.NET_PATH np
        let s4 := if declared then s3 else noSuc s3 false
        if s.role == .isolated then
          ((((s4.setRole .standby).clearAlarm 0x07 0x04 0).fset RED_STATUS.SPAN_LOST 0).clearAlarm 0x07 0x06 0).fset
            RED_STATUS.SPLIT 0 |>.reqImage
        else s4
    else s1

/-- PATH_LOSS: a holder without thruster STATUS for KEY_LEASE frames (R199, R202). -/
def State.pathLoss (s : State) : State :=
  let k := s.time.frame
  if !s.role.holds || recent k s.keyLease s.red.thrStat then s.holderLinks
  else
    let seen := (upTo 3).any (fun u => match s.lease u with
      | some l => bit l.flags 2 && decide (0 < l.piersSeen) && (recent k s.keyLease l.net || recent k s.keyLease l.span)
      | none => false)
    if !s.spansUp.isEmpty && seen then s.declareFail 3 else s.holderLinks

/-- A successor of a planned transfer whose LEASE was missed in either frame before AT_FRAME cancels it (R200). -/
def State.planWatch (s : State) (ended : Nat) : State :=
  match s.red.plan with
  | some (at_, u, false) =>
    let heard := match s.lease u with | some l => l.net == some ended || l.span == some ended | none => false
    if s.role.holds && decide (at_ ≤ ended + 2) && decide (ended < at_) && !heard then
      ((s.redMod (fun x => { x with plan := none })).fup RED_STATUS.TRANSFER_FAIL).event 0x07 0x0B 1 (evData u 0)
    else s
  | _ => s

/-- TRANSFER_EXECUTE at F(AT_FRAME) (R200): the former holder keeps QUALIFIED as it is, follows the successor in the epoch that unit takes,
and counts its own last LEASE, of frame AT_FRAME - 1, as the last of a holder (DEDUCED, log 266). -/
def State.transferExec (s : State) : State :=
  match s.red.plan with
  | some (at_, u, false) =>
    if s.time.frame ≠ at_ then s
    else if s.role.holds then
      (((s.setRole .standby).noteEpoch s.nextEpoch).setEpoch s.nextEpoch u).redMod (fun x => { x with
        plan := none, validTo := some (at_ - 1 + s.keyLease), holdSpan := some (at_ - 1), holdNet := some (at_ - 1), holdLease := some (at_ - 1) })
    else if s.role == .standby && s.fbit RED_ROLE.QUALIFIED && s.successor == some s.unit then s.takeOver
    else s.redMod (fun x => { x with plan := none })
  | _ => s

/-- HANDBACK at F(AT_FRAME) (R205). -/
def State.handback (s : State) : State :=
  match s.red.plan with
  | some (at_, _, true) =>
    if s.time.frame ≠ at_ then s
    else if s.role.holds then
      let s1 := (s.takeEpoch).fset RED_HELD.EPOCH s.nextEpoch
      ((s1.fup RED_STATUS.HANDBACK).event 0x07 0x0D 0 (evData s.unit 0)).redMod (fun x => { x with plan := none })
    else if s.role == .zone then
      (((s.setRole .ready).fup RED_STATUS.HANDBACK).clearAlarm 0x07 0x0C 0).redMod
        (fun x => { x with plan := none, reqAt := some s.time.frame })
    else s
  | _ => s

end Sys2Proof.Machine
end

