-- ==== Sys2Proof/Machine/Manifest.lean ====
section
/-!
DEFINITION. The manifest (R177 to R187): what it lists, its segments, its intake, the inputs a following standby takes
from it, STATUS PDUs as listed, comparison with the observed commands.
-/

namespace Sys2Proof.Machine

/-! ## Samples used (R42, R177) -/

/-- The samples a value at `f` is formed from, with their ROLE (R180): the choice of R42. -/
def usedSamples (hermite : Bool) (tpUs extrap : Nat) (buf : List Sample) (f : Int) : List (Nat × Sample) :=
  let within := gapOk tpUs extrap
  match buf.find? (fun y => y.t == f) with
  | some y => [(0, y)]
  | none =>
    let br := match bracket f buf with
      | some (a, b) => if within (f - a.t) then [(1, a), (2, b)] else []
      | none => []
    if !br.isEmpty then br
    else match buf.reverse with
      | [] => []
      | y :: r =>
        if !within (f - y.t) then []
        else if hermite then [(3, y)]
        else match r with
          | [] => []
          | m :: _ => [(3, y), (4, m)]

/-- Bytes of a component. -/
def compBytes (f : VFmt) (x : Int) : List Byte := if f == .i64 then leBytes 8 (tc 64 x) else leBytes 4 (tc 32 x)

/-- VALUE bytes of a sample: value, rate, quality words (R180). -/
def sampleVal (x : Sample) : List Byte :=
  x.x.flatMap (compBytes x.fmt) ++ x.v.flatMap (compBytes x.fmt) ++ x.q.flatMap (leBytes 2)

/-- The sample entries of frame `k` (R177). -/
def State.sampleEs (s : State) (k : Nat) : List SampE :=
  s.ctxIds.flatMap (fun n =>
    let c := s.ctxOf n
    if c.value.isNone then []
    else (usedSamples c.hermite (s.fget (fldAt SCX_PERIOD.TP n)) (s.fget (fldAt SCX_LIM.EXTRAP n)) c.buf (Int.ofNat (s.fOf k))).map
      (fun p => ⟨n, p.1, c.unc, tc 64 p.2.t, sampleVal p.2⟩))

/-- A sample entry as sent (R180). -/
def sampBytes (e : SampE) : List Byte :=
  leBytes 1 e.ctx ++ leBytes 1 e.role ++ leBytes 2 e.value.length ++ leBytes 4 e.unc ++ leBytes 8 e.stamp ++ e.value
/-- A STATUS entry as sent. -/
def statEBytes (e : Nat × List Byte) : List Byte := leBytes 2 e.1 ++ leBytes 2 e.2.length ++ e.2
/-- A host-command entry as sent. -/
def cmdEBytes (c : CmdE) : List Byte := leBytes 2 c.op ++ leBytes 2 c.payload.length ++ leBytes 4 c.sess ++ c.payload
/-- An MPC commit entry as sent. -/
def mpcEBytes (m : MpcE) : List Byte :=
  leBytes 4 m.k0 ++ leBytes 2 m.stat ++ leBytes 1 m.u.length ++ [0]
    ++ m.u.flatMap (fun f => (upTo 3).flatMap (fun j => leBytes 4 (f.getD j 0).toNat))

/-! ## Building and sending (R177 to R181) -/

/-- The fixed part (R178). -/
def manFixed (tov : Nat) (m : Manifest) (nRetro part seg : Nat) : List Byte :=
  leBytes 8 tov ++ leBytes 4 m.flags ++ leBytes 4 m.stepAt ++ leBytes 4 m.stepN ++ leBytes 2 m.samples.length
    ++ leBytes 2 m.stats.length ++ leBytes 2 m.cmds.length ++ leBytes 2 nRetro ++ leBytes 1 part ++ leBytes 1 seg
    ++ leBytes 2 0 ++ (upTo 16).flatMap (fun i => leBytes 2 (m.slotStat.getD i 0))

/-- Pack entries into segments of at most 8,192 bytes, the fixed part of 64 included; entries are never split. -/
def packSegs : List (List Byte) → List Byte → List (List Byte)
  | [], cur => [cur]
  | e :: es, cur => if cur.length + e.length > 8128 ∧ !cur.isEmpty then cur :: packSegs es e else packSegs es (cur ++ e)

/-- The entries of a main part, in section order. -/
def manEntries (m : Manifest) : List (List Byte) :=
  m.samples.map sampBytes ++ m.stats.map statEBytes ++ m.cmds.map cmdEBytes
    ++ (match m.mpc with | some e => [mpcEBytes e] | none => [])

/-- The PDU payloads of a part. -/
def manSegs (tov : Nat) (m : Manifest) (nRetro part : Nat) (es : List (List Byte)) : List (List Byte) :=
  let segs := packSegs es []
  (segs.zipIdx).map (fun p => manFixed tov m nRetro part (16 * p.2 + (segs.length - 1) % 16) ++ p.1)

/-- Send a manifest part on every span that is up (R177). -/
def State.manSend (s : State) (k : Nat) (segs : List (List Byte)) : State :=
  segs.foldl (fun s p =>
    let b := s.ownPdu pduManifest k p
    (s.spansUp.foldl (fun s n => s.send (.span n) (s.spanFrame n b)) s).seqUp pduManifest) s

/-- FLAGS of the manifest of the frame in progress (R179). -/
def State.manFlags (s : State) : Nat :=
  s.red.latePrev % 128 + 128 * b2n s.time.armed.isSome + 256 * b2n s.red.mpcSent.isSome + 512 * b2n (s.op == .degraded)
    + 1024 * b2n (s.role == .zone) + 2048 * b2n (bit s.red.latePrev 11)

/-- The main part this unit composes for the frame in progress (R177). -/
def State.manOwn (s : State) : Manifest :=
  let k := s.time.frame
  let prev := s.allocOf (k - 1)
  { node := s.ownNode, epoch := s.fget RED_EPOCH.EPOCH, frame := k, flags := s.manFlags,
    stepAt := match s.time.armed with | some a => a.1 % 2 ^ 32 | none => 0,
    stepN := match s.time.armed with | some a => a.2 | none => 0,
    slotStat := match prev with | some a => a.slots.map (·.stat) | none => List.replicate 16 stNotRun,
    samples := s.sampleEs k, stats := s.red.used.map (fun x => (x.node, x.bytes)), cmds := s.red.cmds, mpc := s.red.mpcSent }

/-- A main part as one byte sequence for the recorder and the state image: fixed part, then every entry. -/
def manBytes (tov : Nat) (m : Manifest) : List Byte := manFixed tov m 0 0 0 ++ (manEntries m).flatten

/-! ## STATUS PDUs as listed (R163, R180, R291) -/

/-- Take the contents of one listed STATUS: thruster states and section power. -/
def State.statTake (s : State) (k : Nat) (x : StatIn) : State :=
  let kind := byteAt x.bytes 0
  if kind = 0 then
    (thrEntries x.bytes).foldl (fun s e =>
      match s.thrIdx.find? (fun i => match s.thr i with | some c => c.node == x.node && c.act == e.act | none => false) with
      | some i => { s with slv := { s.slv with thr := s.slv.thr.set i (some ⟨k, e.state, e.t, e.ang⟩) } }
      | none => s) s
  else if kind = 1 then
    (powEntries x.bytes).foldl (fun s e =>
      match s.obj 0x04 e.1 with
      | some b => if uAt 2 b 0 = x.node then
          { s with slv := { s.slv with sect := s.slv.sect.set e.1 (some ⟨x.at_, e.2.1 == 0, e.2.2⟩) } } else s
      | none => s) s
  else s

/-- List the waiting STATUS PDUs for the frame and take them. -/
def State.listStats (s : State) : State :=
  let l := s.red.inbox
  let s1 := s.redMod (fun x => { x with used := l, inbox := [] })
  l.foldl (fun s x => s.statTake s.time.frame x) s1

/-- List the waiting host commands for the frame (R115). -/
def State.listCmds (s : State) : State :=
  let k := s.time.frame
  s.redMod (fun x => { x with
    cmds := (x.listQ.filter (fun c => decide (c.frame ≤ k))).map (·.cmd)
    listQ := x.listQ.filter (fun c => decide (k < c.frame)) })

/-! ## Receiving (R182) -/

/-- Sample entries from an offset. -/
def getSamps (b : List Byte) : Nat → Nat → List SampE × Nat
  | 0, o => ([], o)
  | n + 1, o =>
    let len := uAt 2 b (o + 2)
    let r := getSamps b n (o + 16 + len)
    (⟨byteAt b o, byteAt b (o + 1), uAt 4 b (o + 4), uAt 8 b (o + 8), (b.drop (o + 16)).take len⟩ :: r.1, r.2)
/-- STATUS entries. -/
def getStats (b : List Byte) : Nat → Nat → List (Nat × List Byte) × Nat
  | 0, o => ([], o)
  | n + 1, o =>
    let len := uAt 2 b (o + 2)
    let r := getStats b n (o + 4 + len)
    ((uAt 2 b o, (b.drop (o + 4)).take len) :: r.1, r.2)
/-- Host-command entries. -/
def getCmds (b : List Byte) : Nat → Nat → List CmdE × Nat
  | 0, o => ([], o)
  | n + 1, o =>
    let len := uAt 2 b (o + 2)
    let r := getCmds b n (o + 8 + len)
    (⟨uAt 2 b o, uAt 4 b (o + 4), none, (b.drop (o + 8)).take len⟩ :: r.1, r.2)
/-- An MPC commit entry. -/
def getMpc (b : List Byte) (o : Nat) : MpcE :=
  ⟨uAt 4 b o, uAt 2 b (o + 4), (upTo (byteAt b (o + 6))).map (fun i =>
    (upTo 3).map (fun j => BitVec.ofNat 32 (uAt 4 b (o + 8 + 12 * i + 4 * j))))⟩

/-- A main part from the fixed part of its first segment and the entries of all. -/
def manOf (node epoch frame : Nat) (fixed es : List Byte) : Manifest :=
  let (sa, o1) := getSamps es (uAt 2 fixed 20) 0
  let (st, o2) := getStats es (uAt 2 fixed 22) o1
  let (cm, o3) := getCmds es (uAt 2 fixed 24) o2
  { node := node, epoch := epoch, frame := frame, flags := uAt 4 fixed 8, stepAt := uAt 4 fixed 12, stepN := uAt 4 fixed 16,
    slotStat := (upTo 16).map (fun i => uAt 2 fixed (32 + 2 * i)), samples := sa, stats := st, cmds := cm,
    mpc := if bit (uAt 4 fixed 8) 8 then some (getMpc es o3) else none }

/-- Put a segment of port `n`; the completed part when it is the last missing one of the first copy to be complete (R182). -/
def State.segPut (s : State) (n : Nat) (p : Pdu) (k : Nat) : State × Option ManRx :=
  let b := p.payload
  let (part, sg, cnt) := (byteAt b 28, byteAt b 29 / 16, byteAt b 29 % 16 + 1)
  let alike (r : ManRx) : Bool := r.node == p.node && r.frame == k && r.part == part && r.epoch == p.epoch
  let same (r : ManRx) : Bool := r.span == n && alike r
  let old : ManRx := (s.red.rx.find? same).getD ⟨n, p.node, p.epoch, k, part, cnt, []⟩
  if old.segs.any (fun x => x.1 == sg) || s.red.rx.any (fun r => alike r && r.segs.length == r.count) then (s, none)
  else
    let new := { old with segs := old.segs ++ [(sg, b)] }
    let rest := (s.red.rx.filter (fun r => !same r)).filter (fun r => decide (k < r.frame + 4))
    (s.redMod (fun x => { x with rx := rest ++ [new] }), if new.segs.length = cnt then some new else none)

/-- The bodies of the segments in order, without their fixed parts. -/
def ManRx.body (r : ManRx) : List Byte :=
  (upTo r.count).flatMap (fun i => match r.segs.find? (fun x => x.1 == i) with | some x => x.2.drop 64 | none => [])
/-- The fixed part of the first segment. -/
def ManRx.fixed (r : ManRx) : List Byte :=
  match r.segs.find? (fun x => x.1 == 0) with | some x => x.2.take 64 | none => []

/-! ## Following (R183) -/

/-- Split the VALUE bytes of a listed sample as its context holds it. -/
def sampleOf (hermite : Bool) (fmt : VFmt) (nc : Nat) (e : SampE) : Sample :=
  let w := if fmt == .i64 then 8 else 4
  let rd (i : Nat) : Int := if fmt == .i64 then sAt 8 e.value (8 * i) else compOf fmt (uAt 4 e.value (4 * i))
  let rv (i : Nat) : Int := if fmt == .i64 then sAt 8 e.value (8 * (nc + i)) else sAt 4 e.value (4 * (nc + i))
  ⟨sx 64 e.stamp, fmt, (upTo nc).map rd, if hermite then (upTo nc).map rv else [],
    qualWords e.value (if hermite then 2 * w * nc else w * nc)⟩

/-- Format and number of components a context takes from its bindings: a GNSS position is two 64-bit components (R257),
otherwise the field entries that name the context. -/
def State.ctxShape (s : State) (n : Nat) : VFmt × Nat :=
  let fs := s.bindings.flatMap (fun b => (fieldsOf b.2).map (fun f => (uAt 1 b.2 0, uAt 1 b.2 4, f)))
  let mine := fs.filter (fun p => p.2.2.ctx == n)
  match mine with
  | [] => (.int32, 1)
  | p :: _ => if p.1 = 4 then (if p.2.1 = 2 then (vfmtOf p.2.2.fmt, 1) else (.i64, 2)) else (vfmtOf p.2.2.fmt, mine.length)

/-- The contexts of a frame as a manifest lists them: only listed contexts have a value, with the listed UNC. Any other enabled context
is STALE in it, so that a late sample the holder lists may yet form its value (R49, R52; DEDUCED, log 252). -/
def State.followCtx (s : State) (m : Manifest) : Tab Ctx :=
  let ids := ((s.ctx.filter (fun p => p.2.q != .off)).map (·.1) ++ m.samples.map (·.ctx)).foldl
    (fun l n => if l.contains n then l else insSorted n l) []
  ids.filterMap (fun n =>
    let own := s.ctxOf n
    let herm := s.fbit (fldAt SCX_CFG.HERMITE n)
    let (fmt, nc) := s.ctxShape n
    let es := m.samples.filter (fun e => e.ctx == n)
    let buf := es.foldl (fun b e => bufPut b (sampleOf herm fmt nc e)) []
    let v := formValue herm (s.fget (fldAt SCX_PERIOD.TP n)) (s.fget (fldAt SCX_LIM.EXTRAP n)) s.free buf (Int.ofNat (s.fOf m.frame))
    let unc := match es with | e :: _ => e.unc | [] => 0
    some (n, { own with q := if v.isSome then .locked else .stale, hermite := herm, unc := unc, buf := buf, value := v }))

/-- Run a part of the frame's work on the listed contexts while following, on the own ones otherwise. -/
def State.onInputs (s : State) (f : State → State) : State :=
  if s.red.following then
    let own := s.ctx
    { f { s with ctx := s.red.fctx } with ctx := own }
  else f s

/-- Frame `k` is unfollowable (R185). -/
def State.markUnfol (s : State) (k : Nat) : State :=
  if s.red.unfol.contains k then s
  else (s.redMod (fun x => { x with unfol := (k :: x.unfol).take 8 })).fcount RED_CNT.UNFOLLOW 1

/-! ## Comparison (R185, R186, R188, R210) -/

/-- The iterate of the own run the named status word stands for (R146); none where the own run did not reach it. -/
def slotAt (sl : SlotSt) (w : Nat) : Option SlotOut :=
  if stStatus w = 5 then some sl.it0
  else if stTimed w then
    if stIter w = 0 then some sl.it0
    else if stIter w ≤ sl.its.length then
      some ((sl.its.take (stIter w)).foldl (fun b o => match o with | some v => v | none => b) sl.it0)
    else none
  else sl.out

/-- One observed stream compared with the own result for the named slot: equal, or within tolerance (R185, R186); none
where there is nothing to compare with. -/
def State.cmpStream (s : State) (a : AllocSt) (exact : Bool) (o : ObsCmd) : Option Bool :=
  let sl := a.slots.getD o.slot slotIdle
  match (if s.cex.func = 0 then some outNone else slotAt sl o.stat) with
  | none => none
  | some r =>
    let (t, ang) := if s.cex.func = 0 then ((0 : Word), 0) else (r.t.getD o.thr 0, r.ang.getD o.thr 0)
    if exact then some (t == o.t && ang == o.ang && (stTimed o.stat || stTimed sl.stat || sl.stat == o.stat || s.cex.func == 0))
    else match s.thr o.thr, s.thrLim o.thr with
      | some c, some l =>
        let tol := fmul (fofRat (Int.ofNat c.tolT) 65536) l.fwd
        some (fle (fabs (fsub t o.t)) tol && decide ((b32diff o.ang ang).natAbs ≤ c.tolA))
      | _, _ => some false

/-- The digest of this unit's commands of a frame: CRC-32C over thrust and angle of every thruster, slot by slot (R189). -/
def allocDigest (a : AllocSt) : Nat :=
  crc32c (a.slots.flatMap (fun sl => match sl.out with
    | some o => (upTo 32).flatMap (fun i => leBytes 4 (o.t.getD i 0).toNat ++ leBytes 4 (o.ang.getD i 0))
    | none => []))

/-- The counts after an outcome: MATCH, MISMATCH or NONE (R188, R189, R210). -/
def State.cmpCount (s : State) (k : Nat) (followable : Bool) (r : Option Bool) : State :=
  match r with
  | none => s
  | some true =>
    let qn := s.fget RED_CFG2.QUALIFY_N
    let s1 := s.fset RED_MISMATCH.COUNT 0
    let s2 := if followable && s.role == .standby then
        let n := min qn (s1.fget RED_QUAL.COUNT + 1)
        let s' := s1.fset RED_QUAL.COUNT n
        if n = qn ∧ !s'.fbit RED_ROLE.QUALIFIED ∧ !s'.hasAlarm 0x07 0x03 0 then
          (s'.setQual true).event 0x07 0x09 0 (evData s.unit 0) else s'
      else s1
    let s3 := s2.redMod (fun x => { x with matchRun := x.matchRun + 1 })
    if s3.hasAlarm 0x07 0x03 0 ∧ qn ≤ s3.red.matchRun then s3.disagreeClear else s3
  | some false =>
    let n := s.fget RED_MISMATCH.COUNT + 1
    let full := decide (s.fget RED_CFG.MISMATCH_N ≤ n)
    let s1 := ((((s.fset RED_MISMATCH.COUNT (if full then 0 else n)).fset RED_MISMATCH.LAST (k % 65536)).fset RED_QUAL.COUNT 0)).redMod
      (fun x => { x with matchRun := 0, misShown := if full then some n else x.misShown })
    if full then
      let act := s.fget RED_ROLE.HOLDER
      s1.resolve act s.unit (s1.otherStandby act s.unit)
    else s1

/-- COMPARISON_CONCLUDE of frame `k` (R186). A unit that compares nothing has the digest of the frame all the same (R189, R194). -/
def State.conclude (s : State) (k : Nat) : State :=
  if s.red.concluded == some k then s
  else
    let s0 := s.redMod (fun x => { x with concluded := some k })
    match s.allocOf k with
    | none => s0
    | some a =>
      let os := s.red.obs.filter (fun o => o.frame == k)
      let s1 := s0.redMod (fun x => { x with digest := allocDigest a })
      if s.role != .standby && s.role != .isolated then s1
      else
        -- a timed result the own run did not reach makes the frame unfollowable (R146)
        let short := os.any (fun o => (s.cmpStream a true o).isNone)
        let s2 := if short then s1.markUnfol k else s1
        let exact := s.follows && !s2.red.unfol.contains k
        let rs := os.filterMap (fun o => if short then (match a.slots[o.slot]? with
            | some sl => if sl.out.isSome then s.cmpStream a false { o with stat := sl.stat } else none
            | none => none) else s.cmpStream a exact o)
        let r := if rs.isEmpty then none else some (rs.all id)
        s2.cmpCount k exact r

/-- The slot the holder sent in a frame, as observed (R160, R167). -/
def State.noteSent (s : State) (k slot ver : Nat) : State :=
  match s.allocOf k with
  | some a => s.allocPut (if ver = 0 then { a with sent := some slot } else { a with sup := slot + 16 * ver, supd := true })
  | none => s

/-- The streams of a COMMAND payload of frame `k`, for comparison and for the next iterate 0, which after a RELEASE starts from the STATUS
(R159, R186). -/
def State.obsPayload (s : State) (k : Nat) (b : List Byte) : State :=
  (commandEntries b).foldl (fun s e =>
    match s.thrIdx.find? (fun i => match s.thr i with
        | some c => c.node == uAt 2 b 0 % 1024 && c.act == e.act
        | none => false) with
    | none => s
    | some i =>
      let o : ObsCmd := ⟨k, byteAt b 2 % 16, uAt 2 b 4, e.ver, i, e.t, e.ang⟩
      let s' := s.redMod (fun x => { x with obs := x.obs.filter (fun y => !(y.frame == k && y.thr == i && y.ver == e.ver)) ++ [o] })
      { s' with slv := { s'.slv with base := s'.slv.base.set i (if e.mode = 0 then some (e.t, e.ang) else none) } })
    (s.noteSent k (byteAt b 2 % 16) (maxN ((commandEntries b).map (·.ver))))

/-- A COMMAND PDU of the holder observed (R186, R159, R197). -/
def State.commandRx (s : State) (via : Via) (bs : List Byte) : State :=
  match s.pduIn via pduCommand bs with
  | (s1, none) => s1
  | (s1, some p) =>
    let s2 := (s1.stagePdu (s.stampIn via.port) bs).noteEpoch p.epoch
    if p.epoch ≠ s.fget RED_EPOCH.EPOCH ∨ s.dispatches then s2
    else
      let now := s.time.frame
      (s2.redMod (fun x => { x with
        dispAt := some now, dispOld := if x.dispAt == some now then x.dispOld else x.dispAt, holdNet := some now })).obsPayload
        (expandFrame now p.frame) p.payload

end Sys2Proof.Machine
end

