-- ==== Sys2Proof/Machine/Mpc.lean ====
section
/-!
DEFINITION. The MPC and the scenario MPC over a period (R44 to R47, R136, R137, R147 to R151, R169): the problem and its solve, when a
run starts, whether the commit of the observer keeps it, how it stops, and its result.
-/

namespace Sys2Proof.Machine

/-- Write the solver record. -/
def State.slvMod (s : State) (f : SlvSt → SlvSt) : State := { s with slv := f s.slv }
/-- Write the control record. -/
def State.cexMod (s : State) (f : CexSt → CexSt) : State := { s with cex := f s.cex }

/-- The fusion engines in service. -/
def State.feLive (s : State) : Nat := ((upTo 2).filter (fun i => !s.engDead (9 + i))).length

/-- M, the MPC period in frames (R44). -/
def State.mpcM (s : State) : Nat := max 1 (s.fget SLV_CFG.MPC_M)

/-- The MPC problem object and its schedule are present and sound (R135). -/
def State.mpcReady (s : State) : Bool :=
  (s.obj 0x0C 0).isSome && (s.img 2 0).isSome && !s.slv.mpcBad && decide (0 < s.seLive)

/-! ## The MPC object (R534) -/

/-- N_X, N_H and N_SOFT. -/
def mpcNx (b : List Byte) : Nat := byteAt b 0
def mpcNh (b : List Byte) : Nat := byteAt b 1
def mpcSoft (b : List Byte) : Nat := byteAt b 3

/-- The offset of item `i`: A, B, C0, D, Q, QT, WU, WD, DU_MAX, SLK0, MU0, SPEC_TOL, SOFT. -/
def mpcOfs (b : List Byte) (i : Nat) : Nat :=
  let n := mpcNx b
  4 + sumN ([4 * n * n, 12 * n, 72 * n, 24 * n, 4 * n * n, 4 * n * n, 36, 36, 12, 4, 4, 20].take i)

/-- A matrix item of `c` columns. -/
def mpcMat (b : List Byte) (i r c : Nat) : Mat := (upTo r).map (fun k => fltsAt b (mpcOfs b i + 4 * c * k) c)

/-- A soft state bound as a row at most a bound, with its linear and quadratic penalty. -/
def mpcSoftRow (b : List Byte) (j : Nat) : List Flt × Flt × Flt × Flt :=
  let n := mpcNx b
  let o := mpcOfs b 12 + j * (4 * n + 16)
  let (row, bd) := (fltsAt b o n, fltAt b (o + 4 * n))
  let neg := uAt 4 b (o + 4 * n + 4) == 1
  (if neg then row.map fneg else row, if neg then fneg bd else bd, fltAt b (o + 4 * n + 8), fltAt b (o + 4 * n + 12))

/-- W_CAP. -/
def mpcWcap (b : List Byte) : Flt := fltAt b (b.length - 4)

/-! ## The problem (R147, R149, R168, R169) -/

/-- A matrix times a vector, in the order of the style. -/
def matVec (st : Style) (m : Mat) (x : List Flt) : List Flt := m.map (fun r => (st.dot (r.zip x)).1)

/-- The observer state in its full-scale units: η, ν, b, ξ (R98, R102, R534). -/
def State.obsReal (s : State) (x : ObsX) : List Flt :=
  let pos (v : Int) : Flt := fofDy v (-32 - Int.ofNat s.posExp)
  let f32 (v : Int) : Flt := fofDy v (-31)
  [pos x.etaN, pos x.etaE, f32 (sx 32 x.etaP)] ++ ([x.u, x.v, x.r] ++ (x.b.take 3) ++ (x.xi.take 6)).map f32

/-- η_ref + t × M × P × ν_ref in the units of x(0); the heading on the turn of the initial state (R14, R147). -/
def State.refReal (s : State) (x : ObsX) (t : Nat) : List Flt :=
  let r := s.slv.mpcRef
  let h := fofRat (Int.ofNat (t * s.mpcM * s.time.period)) 1000
  let v (j : Nat) : Flt := r.v.getD j 0
  let pos (j : Nat) : Flt := fpow2 (fadd (fofDy (r.p.getD j 0) (-32)) (fmul h (v j))) (-(Int.ofNat s.posExp))
  let hd := fofDy (sx 32 x.etaP + b32diff (tc 32 (r.p.getD 2 0)) x.etaP) (-31)
  [pos 0, pos 1, fadd hd (fdiv (fmul h (v 2)) (fofNat 180))]

/-- The style of the MPC: SCHED always (R135). -/
def State.mpcStyle (s : State) : Style := styleSched ((s.img 2 0).getD [])

/-- The problem of slot `i` (0 the MPC) from an observer state and its wind force, with the result in force and the snapshot of frame k0 − 1. -/
def State.mpcProb (s : State) (x : ObsX) (wind : List Int) (i : Nat) : MpcProb :=
  let b := (s.obj 0x0C 0).getD []
  let st := s.mpcStyle
  let n := mpcNx b
  let nh := mpcNh b
  let tau := (wind.take 3).map (fun v => fofDy v (-31))
  let real := s.obsReal x ++ tau
  let c0 := mpcMat b 2 n 18
  let u := match s.cex.mpc with | some r => r.u | none => []
  let last := (u.getLast?).getD [0, 0, 0]
  { x0 := matVec st c0 real
    d := matVec st (mpcMat b 3 n 6) ((x.b.take 3).map (fun v => fofDy v (-31)) ++ tau)
    xref := (upTo nh).map (fun t => matVec st c0 (s.refReal x (t + 1)))
    warm := (upTo nh).map (fun t => (u.drop 1).getD t last)
    prev := u.headD [0, 0, 0]
    poly := match s.slv.mpcSnap with
      | some a => (upTo (mpcRows b)).map (fun r => (mpcG b r, s.capRow a (a.slots.getD i slotIdle) (mpcG b r)))
      | none => []
    soft := i != 0 }

/-- The states of a rollout: x(t+1) = A x(t) + B u(t) + d (R147). -/
def mpcRoll (st : Style) (a bm : Mat) (d : List Flt) : List Flt → List (List Flt) → List (List Flt)
  | _, [] => []
  | x, u :: us =>
    let y := List.zipWith fadd (List.zipWith fadd (matVec st a x) (matVec st bm u)) d
    y :: mpcRoll st a bm d y us

/-- Inputs of a step scaled towards zero along their ray until every row holds (R149). -/
def rayScale (st : Style) (poly : List (List Word × Word)) (u : List Flt) : List Flt :=
  let f := poly.foldl (fun f r =>
    let g := (st.dot (r.1.zip u)).1
    if flt r.2 g then fmin f (fmax 0 (fdiv r.2 g)) else f) (fofNat 1)
  u.map (fmul f)

/-- The variables from inputs: states by rollout, slacks as the violation of their rows. Order: inputs, states, slacks of the soft state
bounds, slacks of the soft polytope rows, each step by step. -/
def MpcProb.vec (p : MpcProb) (st : Style) (b : List Byte) (us : List (List Flt)) : List Flt :=
  let n := mpcNx b
  let xs := mpcRoll st (mpcMat b 0 n n) (mpcMat b 1 n 3) p.d p.x0 us
  let excess (row : List Flt) (bd : Flt) (x : List Flt) : Flt := fmax 0 (fsub (st.dot (row.zip x)).1 bd)
  us.flatten ++ xs.flatten
    ++ xs.flatMap (fun x => (upTo (mpcSoft b)).map (fun j => let r := mpcSoftRow b j; excess r.1 r.2.1 x))
    ++ (if p.soft then us.flatMap (fun u => p.poly.map (fun r => excess r.1 r.2 u)) else [])

/-- A dense row from the blocks it is not zero in: offset and entries. -/
def blockRow (n : Nat) (l : List (Nat × List Flt)) : List Flt :=
  (upTo n).map (fun j => match l.find? (fun p => decide (p.1 ≤ j) && decide (j < p.1 + p.2.length)) with
    | some p => p.2.getD (j - p.1) 0
    | none => 0)

/-- M + Mᵀ, the Hessian of a quadratic form. -/
def symOf (m : Mat) : Mat := (upTo m.length).map (fun i => (upTo m.length).map (fun j => fadd (ment m i j) (ment m j i)))

/-- The MPC as a quadratic program (R147): dynamics, the polytope, the rate bound, the soft state bounds, the slacks, the cost
(DESIGN CHOICE, log 242). -/
def MpcProb.ip (p : MpcProb) (st : Style) (b : List Byte) : Ip :=
  let n := mpcNx b
  let nh := mpcNh b
  let ns := mpcSoft b
  let np := if p.soft then p.poly.length else 0
  let (oX, oS) := (3 * nh, 3 * nh + n * nh)
  let oP := oS + ns * nh
  let nz := oP + np * nh
  let (a, bm) := (mpcMat b 0 n n, mpcMat b 1 n 3)
  let (q, qt) := (symOf (mpcMat b 4 n n), symOf (mpcMat b 5 n n))
  let (wu, wd) := (symOf (mpcMat b 6 3 3), symOf (mpcMat b 7 3 3))
  let neg (m : Mat) : Mat := m.map (fun r => r.map fneg)
  let one (k i : Nat) : List Flt := (upTo k).map (fun j => if i = j then fofNat 1 else 0)
  let row (l : List (Nat × List Flt)) : List Flt := blockRow nz l
  let hU (t i : Nat) : List Flt :=
    let own := List.zipWith fadd (wu.getD i []) (wd.getD i [])
    row ([(3 * t, if t + 1 < nh then List.zipWith fadd own (wd.getD i []) else own)]
      ++ (if t = 0 then [] else [(3 * (t - 1), (neg wd).getD i [])]) ++ (if t + 1 < nh then [(3 * (t + 1), (neg wd).getD i [])] else []))
  let wX (t : Nat) : Mat := if t + 1 < nh then q else qt
  let steps (k : Nat) (f : Nat → Nat → List Flt) : Mat := (upTo nh).flatMap (fun t => (upTo k).map (f t))
  let two := fofNat 2
  let du (j : Nat) : Flt := fltAt b (mpcOfs b 8 + 4 * j)
  let rate (t j : Nat) (s : Bool) : QRow :=
    let e := one 3 j
    let e' := e.map fneg
    ⟨row ([(3 * t, if s then e else e')] ++ (if t = 0 then [] else [(3 * (t - 1), if s then e' else e)])),
     if t = 0 then (if s then fadd (du j) (p.prev.getD j 0) else fsub (du j) (p.prev.getD j 0)) else du j⟩
  { h := steps 3 hU ++ steps n (fun t i => row [(oX + n * t, (wX t).getD i [])])
      ++ steps ns (fun t j => row [(oS + ns * t + j, [fmul two (mpcSoftRow b j).2.2.2])])
      ++ steps np (fun t r => row [(oP + np * t + r, [fmul two (mpcWcap b)])])
    c := (upTo nh).flatMap (fun t => if t = 0 then (matVec st wd p.prev).map fneg else [0, 0, 0])
      ++ (upTo nh).flatMap (fun t => (matVec st (wX t) (p.xref.getD t [])).map fneg)
      ++ (upTo nh).flatMap (fun _ => (upTo ns).map (fun j => (mpcSoftRow b j).2.2.1)) ++ List.replicate (np * nh) 0
    eqs := (upTo nh).flatMap (fun t => (upTo n).map (fun i =>
      ⟨row ([(oX + n * t, one n i), (3 * t, (neg bm).getD i [])] ++ (if t = 0 then [] else [(oX + n * (t - 1), (neg a).getD i [])])),
       if t = 0 then fadd ((matVec st a p.x0).getD i 0) (p.d.getD i 0) else p.d.getD i 0⟩))
    rows := (upTo nh).flatMap (fun t => (p.poly.zipIdx).map (fun r =>
        ⟨row ([(3 * t, r.1.1)] ++ (if p.soft then [(oP + np * t + r.2, [fneg (fofNat 1)])] else [])), r.1.2⟩))
      ++ (upTo nh).flatMap (fun t => (upTo 3).flatMap (fun j => [rate t j true, rate t j false]))
      ++ (upTo nh).flatMap (fun t => (upTo ns).map (fun j =>
        ⟨row [(oX + n * t, (mpcSoftRow b j).1), (oS + ns * t + j, [fneg (fofNat 1)])], (mpcSoftRow b j).2.1⟩))
      ++ (upTo (nz - oS)).map (fun j => ⟨row [(oS + j, [fneg (fofNat 1)])], 0⟩) }

/-- The step inputs of the variables. -/
def mpcInputs (b : List Byte) (z : List Flt) : List (List Flt) := (upTo (mpcNh b)).map (fun t => (z.drop (3 * t)).take 3)

/-- Projection of inputs: a soft polytope binds iterate 0 only (R149, R169). -/
def MpcProb.project (p : MpcProb) (st : Style) (it0 : Bool) (us : List (List Flt)) : List (List Flt) :=
  if p.soft && !it0 then us else us.map (rayScale st p.poly)

/-- The MPC or scenario MPC worked out (R139, R147 to R149). DESIGN CHOICE (log 264): the slacks of iterate 0 are those of the projected
inputs. -/
def State.mpcTrace (s : State) (p : MpcProb) : Trace (List (List Word)) :=
  let b := (s.obj 0x0C 0).getD []
  let st := s.mpcStyle
  let k := 1 + b2n p.soft
  let q0 := p.ip st b
  let n := q0.h.length
  let v (j : Nat) : Int := Config.scaleExp k j
  let q := q0.scaled v (fun i => Config.scaleExp k (n + i))
  let down (z : List Flt) : List Flt := (z.zipIdx).map (fun y => fpow2 y.1 (-(v y.2)))
  let slack (z : List Flt) : List Flt := q.rows.map (fun r => fsub r.b (st.dot (r.a.zip z)).1)
  let pass (us : List (List Flt)) : Bool :=
    let z := down (p.vec st b us)
    z.all laneOk && (slack z).all (fun x => fle (fneg feasTol) x)
  let u0 := p.project st true p.warm
  let z0 := down (p.vec st b u0)
  let w0 := (slack z0).map (fmax (fltAt b (mpcOfs b 9)))
  let x0 : IpSt := ⟨z0, q.eqs.map (fun _ => 0), w0, w0.map (fun w => fdiv (fltAt b (mpcOfs b 10)) w)⟩
  let proj (x : IpSt) : List (List Flt) := p.project st false (mpcInputs b ((x.z.zipIdx).map (fun y => fpow2 y.1 (v y.2))))
  let (r, e) := iterRun (q.iter st s.refineCfg) (fun x => pass (proj x)) (s.fget SLV_CFG.ITER_MPC) x0 0
  ⟨(x0.z ++ x0.w ++ x0.lam).all laneOk, if pass u0 then some u0 else none,
    r.map (fun y => (if pass (proj y.1) then some (proj y.1) else none, y.2)), e.1, e.2⟩

/-! ## Runs (R44, R45, R136, R137) -/

/-- Show the MPC run in SLV_MPC (R171). -/
def State.showMpc (s : State) : State :=
  let (run, spec) := match s.slv.mpc with | some m => (m.stop.isNone, m.spec) | none => (false, false)
  (s.fput SLV_MPC.RUNNING run).fput SLV_MPC.SPEC spec

/-- The components of the observer state by SPEC_TOL group: position, heading, velocity, bias, wave (R45, R102). -/
def specGroups (a b : ObsX) : List (List Nat) :=
  let d (x y : List Int) : List Nat := (x.zip y).map (fun p => (p.1 - p.2).natAbs)
  [[(a.etaN - b.etaN).natAbs, (a.etaE - b.etaE).natAbs], [(b32diff a.etaP b.etaP).natAbs],
   d [a.u, a.v, a.r] [b.u, b.v, b.r], d a.b b.b, d a.xi b.xi]

/-- Is the committed state within SPEC_TOL of the prediction; equality passes (R45). -/
def State.specOk (s : State) (a b : ObsX) : Bool :=
  let body := (s.obj 0x0C 0).getD []
  (specGroups a b).zipIdx.all (fun g => g.1.all (fun x => decide (x ≤ uAt 4 body (mpcOfs body 11 + 4 * g.2))))

/-- Drop every MPC and scenario MPC in progress (R47, R150). -/
def State.mpcDrop (s : State) : State := (s.slvMod (fun x => { x with mpc := none, scen := none })).showMpc

/-- The first solver engine that no MPC solve in progress holds (R136; DESIGN CHOICE, log 244). -/
def State.seFree (s : State) : Option Nat :=
  let held (e : Nat) : Bool := (s.slv.mpc.any (fun m => m.stop.isNone && m.eng == e)) || (s.slv.scen.any (fun m => m.2.stop.isNone && m.2.eng == e))
  s.seList.find? (fun e => !held e)

/-- MPC_START: at F(k) with k mod M = 0 the MPC starts from the observer's prediction (R44), on the references of the generators as they
stand (R147). -/
def State.mpcStart (s : State) : State :=
  let k := s.time.frame
  if k % s.mpcM ≠ 0 then s
  else
    let c := s.cex
    let s1 := (s.capAge).slvMod (fun x => { x with mpcSnap := s.allocOf (k - 1), mpcPrev := x.mpcSnap, mpc := none, scen := none,
                                                   mpcRef := ⟨[c.gN.p, c.gE.p, c.gH.p], [c.gN.v, c.gE.v, c.gH.v]⟩ })
    let x := c.obs.pred
    if s.mpcReady then (s1.slvMod (fun y => { y with mpc := some ⟨k, true, x, s1.mpcProb x c.obs.tauWind 0, s1.seFree.getD 0, none⟩ })).showMpc
    else s1.showMpc

/-- The next enabled slot after the one solved last, in round-robin order (R169). -/
def State.scenPick (s : State) : Option Nat :=
  ((upTo 15).map (fun i => (s.slv.scenNext + i) % 15 + 1)).find? (fun i =>
    bit (s.fget SLV_SCEN.EN) (i - 1) && (s.obj 0x0A i).isSome)

/-- Start the scenario MPC of the period, from the committed state x(k0), on a free engine, once; in DEGRADED no failure scenario is computed. -/
def State.scenStart (s : State) (k0 : Nat) : State :=
  if !s.mpcReady || s.op == .degraded || s.slv.scenK == some k0 then s
  else match s.scenPick, s.seFree with
    | some i, some e =>
      let x := s.slv.k0X
      s.slvMod (fun y => { y with scen := some (i, ⟨k0, false, x, s.mpcProb x s.slv.k0Wind i, e, none⟩), scenK := some k0 })
    | _, _ => s

/-- SPECULATION_CHECK at the commit of frame k0: the run is kept, or restarted from the committed state and the result in force (R45,
R149); with two engines the scenario MPC starts (R136). -/
def State.specCheck (s0 : State) : State :=
  let x := s0.cex.obs.x
  let s := if s0.time.frame % s0.mpcM = 0 then s0.slvMod (fun y => { y with k0X := x, k0Wind := s0.cex.obs.tauWind }) else s0
  let s1 := match s.slv.mpc with
    | some m =>
      if m.spec && m.k0 == s.time.frame then
        if s.specOk x m.pred then
          ((s.slvMod (fun y => { y with mpc := some { m with spec := false } })).fcount TIM_CNT_SPEC.KEEP 1).showMpc
        else
          ((s.slvMod (fun y => { y with mpc := some ⟨m.k0, false, x, s.mpcProb x s.cex.obs.tauWind 0, m.eng, none⟩ })).fcount TIM_CNT_SPEC.DISCARD 1).showMpc
      else s
    | none => s
  if s.time.frame % s.mpcM = 0 && s.seLive == 2 then s1.scenStart s.time.frame else s1

/-! ## Stops and results (R139, R143, R150, R151) -/

/-- The frame at whose CUTOFF a result returned now is used: the first CUTOFF instant still to come (R150). -/
def State.commitFrame (s : State) : Nat :=
  if s.atPct s.time.frame s.time.cutoff < s.now then s.time.frame + 1 else s.time.frame

/-- What a run returns at a stop, of itself or cut from outside: the result, and the pivots replaced (R139 to R145). Without a committed
iterate it is FALLBACK, the projected warm start. -/
def State.mpcResult (s : State) (m : MpcRun) (c : Option Cut) : MpcRes × Nat :=
  let tr := s.mpcTrace m.prob
  let (n, st, ovf, timed) := tr.outcome c
  let u := tr.committed c
  (⟨m.k0, s.mpcM, u.getD (m.prob.project s.mpcStyle true m.prob.warm),
    statWord (if u.isNone then 5 else st) n (decide (tr.pivots c s.freePiv ≠ 0)) ovf timed, s.commitFrame⟩, tr.pivots c s.freePiv)

/-- The MPC (`which` 0) or the scenario MPC (1) in progress stops. -/
def State.mpcEnd (s : State) (which : Nat) (c : Option Cut) : State :=
  if which = 0 then
    match s.slv.mpc with
    | some m =>
      let (r, piv) := s.mpcResult m c
      ((s.slvMod (fun x => { x with mpc := some { m with stop := some r } })).slvCount r.stat piv).showMpc
    | none => s
  else
    match s.slv.scen with
    | some (i, m) =>
      let (r, piv) := s.mpcResult m c
      (s.slvMod (fun x => { x with scen := some (i, { m with stop := some r }) })).slvCount r.stat piv
    | none => s

/-- The MPC or scenario MPC still solving, with its period. -/
def State.mpcOpen (s : State) (which : Nat) : Option MpcRun :=
  let m := if which = 0 then s.slv.mpc else s.slv.scen.map (·.2)
  m.filter (fun m => m.stop.isNone)

/-- Do the allocation slots of the frame in progress hold the engines: from 0.42 P until all have returned (R136), on a standby 0.05 P later
(R182)? -/
def State.mpcSuspended (s : State) : Bool :=
  decide (s.atPct s.time.frame (42 + s.shift) ≤ s.now) && decide (s.now < s.atPct s.time.frame (65 + s.shift)) && s.time.cutDone &&
    (match s.allocOf s.time.frame with
    | some a => !a.started || !a.busy.isEmpty || !a.todo.isEmpty
    | none => false)

/-- MPC_SOLVE_STOP of the MPC (`which` 0) or the scenario MPC (1): of itself, or with `cut` at F(k0+M) after `n` iterations, inside a
factorisation or not (R139, R143). A suspended solve does not stop (R136). -/
def State.mpcStop (s : State) (which : Nat) (cut : Bool) (n : Option Nat) (fact : Bool) : State :=
  match s.mpcOpen which with
  | none => s
  | some m =>
    if s.mpcSuspended || (cut && decide (s.now < s.fOf (m.k0 + s.mpcM))) then s
    else if cut then (s.mpcEnd which (some ⟨n, if fact then 3 else 2⟩)).tick1
    else s.mpcEnd which none

/-- Solver engine `e` (0, 1) has been retired: the MPC and the scenario MPC on it end ABANDONED (R143). -/
def State.mpcAbandon (s : State) (e : Nat) : State :=
  (upTo 2).foldl (fun s w => match s.mpcOpen w with
    | some m => if m.eng = e then (s.mpcEnd w (some (s.freeCut (s.fget SLV_CFG.ITER_MPC) 7 7))).tick1 else s
    | none => s) s

/-- The snapshot that the polytopes of the period beginning at frame `k0` come from (R168); a standby takes a listed result when the next
period has begun. -/
def State.snapOf (s : State) (k0 : Nat) : Option AllocSt :=
  (s.slv.mpcSnap.filter (fun a => a.k + 1 == k0)).or (s.slv.mpcPrev.filter (fun a => a.k + 1 == k0))

/-- Put a result in force (R46, R150, R151): the registers, the margin of S0 (R169). -/
def State.mpcTake (s : State) (r : MpcRes) : State :=
  let s1 := s.cexMod (fun c => { c with mpc := some { r with setAt := s.time.frame } })
  let s2 := ((s1.fset SLV_MPC.STATUS (stStatus r.stat)).fset SLV_MPC.ITER (stIter r.stat)).fset SLV_MPC_K0.K0 r.k0
  match s2.snapOf r.k0 with
  | some a => (s2.capPut 0 (s2.margin a (a.slots.getD 0 slotIdle) r.u) (stStatus r.stat)).capLow
  | none => s2

/-- The instant at which a stopped MPC returns has come: a CUTOFF after the stop, or F(k0+M) (R150). -/
def State.mpcDue (s : State) (m : MpcRun) (r : MpcRes) : Bool :=
  (s.time.cutDone && decide (r.setAt ≤ s.time.frame)) || decide (m.k0 + r.m ≤ s.time.frame)

/-- Does an own result differ bit for bit from the listed one, both deterministic (R151)? -/
def mpcDiffers (r : MpcRes) (e : MpcE) : Bool := !stTimed r.stat && !stTimed e.stat && (r.u != e.u || r.stat != e.stat)

/-- A standby's own result returns: compared with the listed one of its period where that has come, else kept for it (R151). -/
def State.mpcJudge (s : State) (r : MpcRes) : State :=
  match s.slv.mpcLst.filter (fun e => expandFrame s.time.frame e.k0 == r.k0) with
  | some e =>
    let s1 := s.slvMod (fun x => { x with mpcLst := none })
    if mpcDiffers r e then s1.cmpCount s.time.frame true (some false) else s1
  | none => s.slvMod (fun x => { x with mpcOwn := some r })

/-- MPC_COMMIT: a stopped MPC returns at the next CUTOFF, or at F(k0+M) (R46, R150). FALLBACK is not committed. A follower keeps its
result for comparison and takes the listed one (R151). With one engine the scenario MPC starts now (R137). DESIGN CHOICE (log 251): a
speculative run that stopped before the CUTOFF of k0 is held past it, to the first CUTOFF after the SPECULATION_CHECK of k0. -/
def State.mpcCommit (s : State) : State :=
  match s.slv.mpc with
  | some m =>
    match m.stop with
    | some r =>
      if !s.mpcDue m r || m.spec then s
      else
        let s1 := (s.slvMod (fun x => { x with mpc := none })).showMpc
        let s2 :=
          if s.role == .standby then s1.mpcJudge r
          else if stStatus r.stat = 5 then s1
          else
            let s2 := s1.mpcTake r
            if s.dispatches then s2.redMod (fun x => { x with mpcSent := some ⟨r.k0, r.stat, r.u⟩ }) else s2
        if s2.seLive = 1 && decide (s2.time.frame < m.k0 + r.m) then s2.scenStart m.k0 else s2
    | none => s
  | none => s

/-- The listed MPC result of a manifest (R151): in force on every unit; a deterministic own result that differs is a
mismatch, now or when it returns. -/
def State.mpcListed (s : State) (e : MpcE) : State :=
  let k0 := expandFrame s.time.frame e.k0
  let own : Option MpcRes :=
    ((s.slv.mpc.bind (·.stop)).filter (fun r => r.k0 == k0)).or (s.slv.mpcOwn.filter (fun r => r.k0 == k0))
  let differs := own.any (fun r => mpcDiffers r e)
  let s1 := (s.slvMod (fun x => { x with
    mpcLst := if own.isNone then some e else none,
    mpc := x.mpc.filter (fun m => !(m.k0 == k0 && m.stop.isSome)), mpcOwn := x.mpcOwn.filter (fun r => r.k0 != k0) })).showMpc
  let s2 := s1.mpcTake ⟨k0, s.mpcM, e.u, e.stat, s.time.frame⟩
  if differs then s2.cmpCount s.time.frame true (some false) else s2

/-- SCENARIO_MPC_DONE: the margin of the slot, CAP_LOW (R169). FALLBACK and NOT_RUN leave the margin. -/
def State.scenDone (s : State) : State :=
  match s.slv.scen with
  | some (i, m) =>
    match m.stop with
    | some r =>
      let s1 := ((s.slvMod (fun x => { x with scen := none, scenNext := i })).fset SLV_MPC.SCEN_SLOT i).fset SLV_MPC.SCEN_STATUS (stStatus r.stat)
      if stStatus r.stat = 5 ∨ stStatus r.stat = 6 then s1
      else match s1.slv.mpcSnap with
        | some a => (s1.capPut i (s1.margin a (a.slots.getD i slotIdle) r.u) (stStatus r.stat)).capLow
        | none => s1
    | none => s
  | none => s

/-- At F(k0+M) what still solves ends by its deadline, and what has stopped returns (R143, R150, R169). -/
def State.mpcClose (s : State) : State :=
  let s1 := (upTo 2).foldl (fun s w => match s.mpcOpen w with
    | some m =>
      if m.k0 + s.mpcM ≤ s.time.frame then (s.mpcEnd w (some (s.freeCut (s.fget SLV_CFG.ITER_MPC) 2 3))).tick1 else s
    | none => s) s
  let s2 := s1.mpcCommit
  if s2.time.frame % s2.mpcM = 0 then s2.scenDone else s2

end Sys2Proof.Machine
end

