-- ==== Sys2Proof/Machine/Logic.lean ====
section
/-!
DEFINITION. The cyclic logic: images and their checks (R346, R347, R350, R362, R9), cycles, publication, overrun, stops
(R352 to R361), program states (R363), on-line change (R364 to R366), exchange (R367, R368).
-/

namespace Sys2Proof.Machine

/-- Change the logic state. -/
def State.lgcMod (s : State) (f : LgcSt → LgcSt) : State := { s with lgc := f s.lgc }

/-- A task without a program. -/
def taskOff : LTask := ⟨none, 0, none, true, none, none⟩
def State.ltask (s : State) (t : Nat) : LTask := s.lgc.tasks.getD t taskOff
def State.ltaskPut (s : State) (t : Nat) (x : LTask) : State := s.lgcMod (fun l => { l with tasks := setAt l.tasks t x })

/-- LOG_STATUS.STATE (R363). -/
def lgEmpty : Nat := 0
def lgStopped : Nat := 1
def lgRunning : Nat := 2
def lgFault : Nat := 3
def State.lgState (s : State) : Nat := s.fget LOG_STATUS.STATE

/-- Set the program state, with its event (R363, R412). -/
def State.setLg (s : State) (v : Nat) : State :=
  if s.lgState = v then s else (s.fset LOG_STATUS.STATE v).event 0x0D 0x04 0 (evData 0 v)

/-! ## Images (R362) -/

/-- The cycle of a code in ms; none when it is refused for the P in force (R347). -/
def cycleMs (p code : Nat) : Option Nat :=
  if code = 0x01 then some 1
  else if code = 0x02 then (if p = 5 then none else some 2)
  else if code = 0x05 then some 5
  else if 0x81 ≤ code ∧ code ≤ 0xE4 then some ((code - 0x80) * p)
  else none

/-- Header fields. -/
def imgTasks (b : List Byte) : Nat := byteAt b 6
def imgProg (b : List Byte) : Nat := uAt 4 b 8
def imgCyc (b : List Byte) (t : Nat) : Nat := byteAt b (16 + t)
def imgWcet (b : List Byte) (t : Nat) : Nat := uAt 4 b (20 + 4 * t)
def imgSize (b : List Byte) : Nat := uAt 4 b 28

/-- The CRC of a logic image (R362). -/
def lgcCrcOk (b : List Byte) : Bool :=
  crc32c (b.take 60 ++ (b.take (imgSize b)).drop 64) == uAt 4 b 60 && decide (64 ≤ imgSize b) && decide (imgSize b ≤ b.length)

/-- PT_OUT instances name points of their task's class, each once (R350). -/
def State.ptOutOk (s : State) (is : List Config.LInst) : Bool :=
  let outs := is.filter (fun i => i.ty == 0x39)
  let pts := outs.map (fun i => (i.par.getD 0 0).toNat)
  outs.all (fun i => (s.ptInfo (i.par.getD 0 0).toNat).2 == 4 + i.task) && pts.eraseDups.length == pts.length

/-- The ERR a load is refused with, 0 when it is accepted, and the instances (R362, R371). -/
def State.lgcCheck (s : State) (b : List Byte) : Nat × List Config.LInst :=
  let p := s.time.period
  let nt := imgTasks b
  if !lgcCrcOk b || !Config.sigOk 2 b then (1, [])
  else
    match Config.logicInsts b with
    | none => (2, [])
    | some is =>
      if uAt 4 b 0 ≠ 0x4C475847 ∨ uAt 2 b 4 ≠ 1 ∨ nt = 0 ∨ 2 < nt ∨ byteAt b 7 ≠ 0 ∨ !zeroAt b 18 2 ∨ !zeroAt b 40 20
        ∨ (nt = 1 ∧ imgCyc b 1 ≠ 0) ∨ is.any (fun i => !blkKnown i.ty) ∨ imgSize b + 104 ≠ b.length
        ∨ uAt 2 b 14 ≠ (is.map (fun i => i.online.length)).sum then (2, [])
      else if uAt 2 b 12 = 0 ∨ 16384 < uAt 2 b 12 ∨ is.length ≠ uAt 2 b 12 ∨ is.any (fun i => decide (16384 ≤ i.id) || decide (nt ≤ i.task))
        ∨ (is.map (·.id)).eraseDups.length ≠ is.length ∨ !s.ptOutOk is then (3, [])
      else if (upTo nt).any (fun t => (cycleMs p (imgCyc b t)).isNone) then (4, [])
      else if (upTo nt).any (fun t => decide (375000 * (cycleMs p (imgCyc b t)).getD 0 < imgWcet b t)) then (5, [])
      else (0, is)

/-- Byte offset above which nothing lies below the lowest image slot in use (R9). "A slot holds space only while an image is in it": a
LOGIC transfer whose IMG_END has not come holds none, so a capture can be accepted into its slot and the load then overwrites the
snapshot (DESIGN CHOICE, log 133). -/
def State.poolTop (s : State) : Nat :=
  if s.lgc.slot = 2 ∨ s.lgc.pendSlot = 2 then 0x800000
  else if s.lgc.slot = 1 ∨ s.lgc.pendSlot = 1 then 0xA00000 else 0xC00000

/-- The slot an image is loaded into: the upper one unless the program's image is in it (R9). -/
def State.freeSlot (s : State) : Nat := if s.lgc.slot = 1 then 2 else 1
/-- Base offset of a slot. -/
def slotBase (n : Nat) : Nat := if n = 2 then 0x800000 else 0xA00000

/-- Show a loaded image in the LOG_ registers (R369, R370). -/
def State.showProg (s : State) : State :=
  match s.lgc.img with
  | none => ((upTo 2).foldl (fun s t => (s.fset (fldAt LOG_TASK_CFG.CYCLE t) 0).fset (fldAt LOG_TASK_CFG.N_INST t) 0) s).fset LOG_PROG_ID.ID 0
  | some b =>
    ((upTo 2).foldl (fun s t =>
      (s.fset (fldAt LOG_TASK_CFG.CYCLE t) (if t < imgTasks b then imgCyc b t else 0)).fset (fldAt LOG_TASK_CFG.N_INST t)
        ((s.lgc.insts.filter (fun i => i.task == t)).length)) s).fset LOG_PROG_ID.ID (imgProg b)

/-- The states a new image takes over (R367): id, type and layout version match. -/
def carry (old new : List Config.LInst) (st : List (Nat × LState)) : List (Nat × LState) :=
  new.filterMap (fun i =>
    if old.any (fun o => o.id == i.id && o.ty == i.ty && o.ver == i.ver) then (st.find? (fun p => p.1 == i.id)) else none)

/-- The overlay that flash holds for a program (R364). -/
def LgcSt.stored (l : LgcSt) (prog : Nat) : List (Nat × Nat × Int) :=
  match l.saved with
  | some (i, o) => if i = prog then o else []
  | none => []

/-- The overlay is lost and what flash holds returns: the logic domain was reset (R364, R457). -/
def State.lgcStored (s : State) : State := s.lgcMod (fun l => { l with ovl := l.stored l.ovlId })

/-- Put an image in force as the program (R363, R367). -/
def State.lgcInstall (s : State) (b : List Byte) (slot : Nat) (is : List Config.LInst) : State :=
  (s.lgcMod (fun l => { l with
    img := some b, slot := slot, insts := is, states := carry l.insts is l.states, groups := [],
    ovl := if l.ovlId = imgProg b then l.ovl else l.stored (imgProg b), ovlId := imgProg b })).showProg

/-- Load an image at IMG_END (R362, R363): ERR, and the state. It replaces a stopped program and with it any image still pending, whose
slot it takes (R367; DESIGN CHOICE, log 133). -/
def State.lgcLoad (s : State) (b : List Byte) : State × Nat :=
  let (e, is) := s.lgcCheck b
  if e ≠ 0 then (s.fset LOG_STATUS.ERR e, e)
  else
    let sl := s.freeSlot
    let s1 := s.wrPool (slotBase sl) b
    if s.lgState = lgRunning then (s1.lgcMod (fun l => { l with pend := some b, pendSlot := sl }), 0)
    else
      let s2 := (s1.lgcInstall b sl is).lgcMod (fun l => { l with pend := none, pendSlot := 0 })
      ((s2.fset LOG_STATUS.ERR 0).setLg lgStopped, 0)

/-! ## Stops (R359 to R361, R363) -/

/-- The tasks stop: no cycle runs, nothing is published. The cycle executed last stays known to a resumption (R355). -/
def State.lgcIdle (s : State) : State :=
  s.lgcMod (fun l => { l with tasks := l.tasks.map (fun t => { t with run := none, startAt := none, stopAt := none, seed := true }) })

/-- Stop with a fault (R359 to R361): ERR, the alarm, HELD points. -/
def State.lgcFault (s : State) (err : Nat) : State :=
  if s.lgState ≠ lgRunning then s
  else (((s.lgcIdle.ptHold.fset LOG_STATUS.ERR err).fset LOG_STATUS.FAULT 1).setLg lgFault).alarm 0x0D 0x02 0 err

/-- The program has stopped at its boundary (R361, R363). A pending image and its slot stay pending, here and at a fault: the rules do
not say what becomes of them (DESIGN CHOICE, log 133). -/
def State.lgcStopped (s : State) : State := (s.lgcIdle.ptHold).setLg lgStopped

/-- The instant of the next frame boundary. -/
def State.nextBound (s : State) : Nat := if s.time.inFrame then s.fOf (s.time.frame + 1) else (s.now / s.pNs + 1) * s.pNs

/-- The first frame boundary at or after an instant (R353). -/
def State.boundFrom (s : State) (t : Nat) : Nat := (t + s.pNs - 1) / s.pNs * s.pNs

/-- The alarm clears, ERR is NONE and the program is RUNNING (R363). -/
def State.lgcRuns (s : State) : State :=
  let s1 := if s.fbit LOG_STATUS.FAULT then (s.fset LOG_STATUS.FAULT 0).clearAlarm 0x0D 0x02 0 else s
  (s1.fset LOG_STATUS.ERR 0).setLg lgRunning

/-- The tasks of the program start at or after `at_` (R363, R356). -/
def State.lgcStart (s : State) (at_ : Nat) : State :=
  let nt := match s.lgc.img with | some b => imgTasks b | none => 0
  (s.lgcMod (fun l => { l with resume := false, tasks := (upTo 2).map (fun t =>
    { taskOff with startAt := if t < nt then some at_ else none }) })).lgcRuns

/-- The tasks resume at or after `at_`: Δ counts from the cycle executed last (R355, R360). -/
def State.lgcResume (s : State) (at_ : Nat) : State :=
  let nt := match s.lgc.img with | some b => imgTasks b | none => 0
  (s.lgcMod (fun l => { l with resume := false, tasks := l.tasks.zipIdx.map (fun p =>
    { p.1 with startAt := if p.2 < nt then some at_ else none }) })).lgcRuns

/-- LOG_STOP (R363). -/
def State.lgcStop (s : State) : State :=
  let at_ := s.nextBound
  s.lgcMod (fun l => { l with tasks := l.tasks.map (fun t => if t.startAt.isSome then { t with stopAt := some at_ } else t) })

/-- A cycle of the loaded program that P refuses stops a running program, and shows in ERR of a stopped one (R347; DEDUCED, log 276). -/
def State.lgcPeriod (s : State) : State :=
  match s.lgc.img with
  | some b =>
    if (upTo (imgTasks b)).any (fun t => (cycleMs s.time.period (imgCyc b t)).isNone) then
      (if s.lgState = lgStopped then s.fset LOG_STATUS.ERR 4 else s.lgcFault 4)
    else s
  | none => s

/-- D6 is shed (R360): the program stops; it resumes when D6 returns. -/
def State.lgcShed (s : State) : State :=
  if s.lgState = lgRunning then (s.lgcFault 9).lgcMod (fun l => { l with resume := true }) else s

/-- A program that has just been started stops at once for what already stands against it: both engines retired, D6 without power, a
cycle that P refuses (R347, R360; DEDUCED, log 276). -/
def State.lgcHalt (s : State) : State :=
  if s.fget LOG_STATUS.LE_RETIRED = 3 then s.lgcFault 8
  else if !bit s.sys.domOn 6 then s.lgcShed
  else s.lgcPeriod

/-! ## On-line change (R364 to R366) -/

/-- The † parameters of each block, as places in its parameter row (R357). -/
def blkOpen (ty : Nat) : List Nat :=
  match ty with
  | 0x0C | 0x0D | 0x0E | 0x10 | 0x11 | 0x12 | 0x2C | 0x2D | 0x30 => [0]
  | 0x1D | 0x21 | 0x22 => [0, 1]
  | 0x28 => [0, 2]
  | _ => []

/-- The parameters of an instance with the overlay. -/
def parOf (ovl : List (Nat × Nat × Int)) (i : Config.LInst) : List Int :=
  ovl.foldl (fun p c => if c.1 = i.id then setAt p c.2.1 c.2.2 else p) i.par

/-- The changes of a LOG_CHANGE page (R411): instance, parameter, value. -/
def changesOf (p : List Byte) : List (Nat × Nat × Int) :=
  (upTo (byteAt p 6)).map (fun i => (uAt 2 p (8 + 8 * i), byteAt p (10 + 8 * i), sAt 4 p (12 + 8 * i)))

/-- The failure of a change group (R364), none when it may be applied. -/
def State.groupFault (s : State) (p : List Byte) : Option Nat :=
  let prog := (s.reg aLOG_PROG_ID).toNat
  let ch := changesOf p
  let t := byteAt p 7
  let inst (n : Nat) : Option Config.LInst := s.lgc.insts.find? (fun i => i.id == n)
  if uAt 4 p 0 ≠ prog ∨ s.lgc.img.isNone then some 0x310C
  else if ch.any (fun c => match inst c.1 with
      | some i => i.task != t || !i.online.contains c.2.1 || !(blkOpen i.ty).contains c.2.1
      | none => true) then some 0x5107
  else
    let ovl := s.lgc.ovl ++ ch
    if (s.lgc.insts.filter (fun i => ch.any (fun c => c.1 == i.id))).any (fun i =>
        let q := parOf ovl i
        (i.ty == 0x21 && decide (q.getD 0 0 ≤ q.getD 1 0)) || (i.ty == 0x1D && decide (q.getD 1 0 < q.getD 0 0))) then some 0x5108
    else none

/-- Apply one group, or reject it on this unit (R364, R366, R400). -/
def State.groupApply (s : State) (c : CmdE) : State :=
  match s.groupFault c.payload with
  | some st => (s.finc LOG_ONL.REJECTED).cmdRejected c 0x0D st 0
  | none => (s.lgcMod (fun l => { l with ovl := l.ovl ++ changesOf c.payload, ovlId := imgProg (l.img.getD []) })).fset LOG_ONL.LAST_SEQ (uAt 2 c.payload 4)

/-- The groups due at a cycle start of task `t` at `b` (R352, R366). -/
def State.groupsDue (s : State) (t b : Nat) : State :=
  let due (g : LGroup) : Bool := byteAt g.cmd.payload 7 == t && decide (g.from_ ≤ b)
  let now := s.lgc.groups.filter due
  now.foldl (fun s g => s.groupApply g.cmd) (s.lgcMod (fun l => { l with groups := l.groups.filter (fun g => !due g) }))

/-- The groups the frame that ends has listed wait for their cycle start (R366); without a running program they are
rejected at once. -/
def State.takeGroups (s : State) (bound : Nat) : State :=
  (s.red.cmds.filter (fun c => c.op == opLogChange)).foldl (fun s c =>
    if s.lgState = lgRunning then s.lgcMod (fun l => { l with groups := l.groups ++ [⟨bound, c⟩] })
    else (s.finc LOG_ONL.REJECTED).cmdRejected c 0x0D 0x310C 0) s

/-! ## The cycle (R352 to R358) -/

/-- The value of an input: a constant, an output of this cycle, else of the cycle before. -/
def srcVal (now old : List (Nat × LState)) : Config.LSrc → Int
  | .k v => v
  | .of i o =>
    match now.find? (fun p => p.1 == i) with
    | some p => p.2.outs.getD o 0
    | none => match old.find? (fun p => p.1 == i) with | some p => p.2.outs.getD o 0 | none => 0

/-- What a cycle gathers as its instances execute. -/
structure LAcc where
  st : List (Nat × LState)
  pts : List (Nat × Int × Bool)
  cans : List (Nat × Nat × CanMsg × Nat)
  evs : List Nat
  sat : Bool
  divz : Bool
  deriving DecidableEq, Repr

/-- A CAN_TX instance's frame: parameters MODE, ID, IDE, DLC, controller, ZONE; inputs EN, D0, D1 (R357). -/
def canOf (par ins : List Int) : CanMsg :=
  let dlc := (par.getD 3 0).toNat
  ⟨(par.getD 1 0).toNat % 2 ^ 29, par.getD 2 0 != 0, false, false, dlc,
   (leBytes 4 (tc 32 (ins.getD 1 0)) ++ leBytes 4 (tc 32 (ins.getD 2 0))).take dlc⟩

/-- Execute one instance on the snapshot. -/
def State.lgcInst (s : State) (dt : Nat) (seed : Bool) (old : List (Nat × LState)) (a : LAcc) (i : Config.LInst) : LAcc :=
  let st := match old.find? (fun p => p.1 == i.id) with | some p => p.2 | none => lReset
  let par := parOf s.lgc.ovl i
  let ins := i.ins.map (srcVal a.st old)
  let en := ins.getD 0 0 != 0
  let m := if seed then bI en else st.m
  let edge := en && m == 0
  if i.ty = 0x38 then
    let n := (par.getD 0 0).toNat
    { a with st := a.st ++ [(i.id, { st with outs := [sx 32 (s.ptVal n), bI (s.ptQual n == 1), sx 32 (s.ptStamp n / 1000000)] })] }
  else if i.ty = 0x3A then
    let v := (s.ctxOf (par.getD 0 0).toNat).value
    let x := match v with | some v => sx 32 (tc 32 (v.x.getD 0 0)) | none => 0
    { a with st := a.st ++ [(i.id, { st with outs := [x, bI v.isSome] })] }
  else if i.ty = 0x39 then
    { a with st := a.st ++ [(i.id, st)], pts := a.pts ++ [((par.getD 0 0).toNat, ins.getD 0 0, ins.getD 1 1 != 0)] }
  else if i.ty = 0x3B then
    let fire := if par.getD 0 0 = 0 then en else edge
    { a with st := a.st ++ [(i.id, { st with m := bI en })],
             cans := if fire then a.cans ++ [(i.id, (par.getD 4 0).toNat, canOf par ins, (par.getD 5 0).toNat)] else a.cans }
  else if i.ty = 0x3C then
    { a with st := a.st ++ [(i.id, { st with m := bI en })], evs := if edge then a.evs ++ [(par.getD 0 0).toNat] else a.evs }
  else
    let r := blkEval i.ty par ins st dt seed
    { a with st := a.st ++ [(i.id, r.st)], sat := a.sat || r.sat, divz := a.divz || r.divz }

/-- Publish a finished cycle at boundary `b` (R353, R354). -/
def State.lgcPublish (s : State) (t b : Nat) (r : LRun) : State :=
  let s1 := r.pts.foldl (fun s p => s.ptWrite p.1 (tc 32 p.2.1) (if p.2.2 then 1 else 0) b) s
  let ids := (s.lgc.insts.filter (fun i => i.task == t)).map (·.id)
  let s2 := s1.lgcMod (fun l => { l with states := l.states.filter (fun p => !ids.contains p.1) ++ r.states })
  let may (z : Nat) : Bool := s.role == .active || s.role == .solo || (s.role == .zone && z == s.fget RED_CFG.ZONE)
  let s3 := r.cans.foldl (fun s c => if may c.2.2.2 then (s.canSubmit c.2.1 c.2.2.1 (s.boundFrom b) (some c.1) none).1 else s) s2
  (s3.fwrap (fldAt LOG_TASK_CYC.COUNT t)).ltaskPut t { s3.ltask t with run := none }

/-- Start a cycle of task `t` at boundary `b` (R352, R355, R356). -/
def State.lgcCycle (s : State) (t b : Nat) : State :=
  let s1 := s.groupsDue t b
  let x := s1.ltask t
  let ms := b / 1000000
  let dt := match x.prev with
    | some (p, st) => satU 32 (ms - p - (s1.time.steps - st))
    | none => 0
  let is := s1.lgc.insts.filter (fun i => i.task == t)
  let a := is.foldl (s1.lgcInst dt x.seed s1.lgc.states) ⟨[], [], [], [], false, false⟩
  let s2 := s1.ltaskPut t { x with
    run := some ⟨b, false, a.st, a.pts, a.cans⟩, prev := some (ms, s1.time.steps), seed := false }
  let s3 := if a.sat then s2.fup LOG_STATUS.SAT else s2
  let s4 := if a.divz then s3.fup LOG_STATUS.DIVZ else s3
  a.evs.foldl (fun s c => s.event 0x0D 0x03 0 (leBytes 2 c)) s4

/-- Cycle length of task `t` in ns. -/
def State.cycNs (s : State) (t : Nat) : Nat :=
  match s.lgc.img with
  | some b => (cycleMs s.time.period (imgCyc b t)).getD 0 * 1000000
  | none => 0

/-- The tasks with a boundary now, and that boundary: a whole multiple of C not handled yet (R347). -/
def State.cycDue (s : State) : List (Nat × Nat) :=
  (upTo 2).filterMap (fun t =>
    let x := s.ltask t
    let c := s.cycNs t
    let b := s.now / c * c
    if c = 0 ∨ b ≤ x.lastB then none
    else match x.startAt with | some a => if a ≤ b then some (t, b) else none | none => none)

/-- The order in which tasks that start together run (R360). -/
def State.cycOrder (s : State) (l : List (Nat × Nat)) : List (Nat × Nat) :=
  match l with
  | [a, b] => if s.cycNs b.1 < s.cycNs a.1 then [b, a] else [a, b]
  | l => l

/-- The program may run: D6 has power, an engine lives, no replay (R360, R480); while the unit catches up its cycles are part of the
catch-up (R209). -/
def State.lgcOn (s : State) : Bool :=
  s.clocked && s.lgState == lgRunning && bit s.sys.domOn 6 && s.op != .replay && !s.sys.yd && s.red.catchB.isNone

/-- The task of a retired engine moves to the other one at its boundary (R360). -/
def State.lgcMove (s : State) (t : Nat) : State :=
  let e := s.fget (fldAt LOG_TASK_CFG.ENGINE t)
  let dead := s.fget LOG_STATUS.LE_RETIRED
  if bit dead e && !bit dead (1 - e) then s.fset (fldAt LOG_TASK_CFG.ENGINE t) (1 - e) else s

/-- One task at its boundary after publication: it stops, skips a cycle, or starts one (R352, R359, R363). -/
def State.cycTurn (s : State) (tb : Nat × Nat) : State :=
  let (t, b) := tb
  let x := s.ltask t
  let skipped := if x.lastB = 0 then 1 else (b - x.lastB) / s.cycNs t
  let s1 := (s.lgcMove t).ltaskPut t { x with lastB := b }
  if x.run.isSome then
    ((s1.fcount (fldAt LOG_TASK_CNT.OVERRUN t) (if skipped = 0 then 1 else skipped)).fup LOG_STATUS.OVERRUN).event 0x0D 0x01 1 (evData t 0)
  else match x.stopAt with
    | some a =>
      if a ≤ b then
        let s2 := s1.ltaskPut t { s1.ltask t with startAt := none, stopAt := none }
        if s2.lgc.tasks.all (fun x => x.startAt.isNone) then s2.lgcStopped else s2
      else s1.lgcCycle t b
    | none => s1.lgcCycle t b

/-- LOGIC_CYCLE_START (R352): publication of every cycle that ends here, then each task. -/
def State.cycleStart (s : State) : State :=
  if !s.lgcOn then s
  else
    let due := s.cycOrder s.cycDue
    let s1 := due.foldl (fun s tb =>
      match (s.ltask tb.1).run with | some r => if r.done then s.lgcPublish tb.1 tb.2 r else s | none => s) s
    due.foldl State.cycTurn s1

/-- The cycles of frame `k` executed in a catch-up, back to back: at each boundary what ends there is published, then each task runs (R209). -/
def State.lgcCatch (s : State) (k : Nat) : State :=
  if s.lgState ≠ lgRunning ∨ s.sys.yd then s
  else (upTo s.time.period).foldl (fun s m =>
    let due := s.cycOrder ((upTo 2).filterMap (fun t =>
      let c := s.cycNs t / 1000000
      if c = 0 ∨ m % c ≠ 0 ∨ (s.ltask t).startAt.isNone then none else some (t, s.fOf k + m * 1000000)))
    let s1 := due.foldl (fun s tb => match (s.ltask tb.1).run with | some r => s.lgcPublish tb.1 tb.2 r | none => s) s
    due.foldl (fun s tb =>
      let t := (s.ltaskPut tb.1 { s.ltask tb.1 with lastB := tb.2 }).lgcCycle tb.1 tb.2
      let x := t.ltask tb.1
      t.ltaskPut tb.1 { x with run := x.run.map (fun r => { r with done := true }) }) s1) s

/-- An adopted image: the cycle in progress is dropped, the next one is that at F(b) (R208, R209). -/
def State.lgcAdopt (s : State) (b : Nat) : State :=
  (upTo 2).foldl (fun s t =>
    let c := s.cycNs t
    s.ltaskPut t { s.ltask t with run := none, lastB := s.fOf b - c, prev := (s.ltask t).prev.map (fun p => ((s.fOf b - c) / 1000000, p.2)) }) s

/-- LOGIC_CYCLE_DONE: the cycle of task `t` has finished execution in `us` µs (R359, R370). -/
def State.cycleDone (s : State) (t us : Nat) : State :=
  let x := s.ltask t
  match x.run with
  | none => s
  | some r =>
    let s1 := s.ltaskPut t { x with run := some { r with done := true } }
    let u := satU 16 us
    let s2 := s1.fset (fldAt LOG_TASK_TIME.LAST t) u
    if s.fget (fldAt LOG_TASK_TIME.MAX t) < u then s2.fset (fldAt LOG_TASK_TIME.MAX t) u else s2

/-- LOGIC_WATCHDOG: a cycle still running at 8 × C (R359). -/
def State.lgcWatchdog (s : State) : State :=
  if (upTo 2).any (fun t => match (s.ltask t).run with
      | some r => !r.done && decide (r.start + 8 * s.cycNs t ≤ s.now) | none => false) then s.lgcFault 6 else s

/-- A logic engine is retired (R360): the cycle that runs on it is abandoned, or the program stops. Its task moves at its next boundary; a
cycle that has finished is published. -/
def State.leRetired (s : State) (e : Nat) : State :=
  let s1 := s.fset LOG_STATUS.LE_RETIRED (putBits (s.fget LOG_STATUS.LE_RETIRED) e 1 1)
  let s2 := (upTo 2).foldl (fun s t =>
    let x := s.ltask t
    if s.fget (fldAt LOG_TASK_CFG.ENGINE t) = e ∧ x.run.any (fun r => !r.done) then
      (s.finc (fldAt LOG_TASK_CNT.ABANDONED t)).ltaskPut t { x with run := none }
    else s) s1
  if s2.fget LOG_STATUS.LE_RETIRED = 3 then s2.lgcFault 8 else s2

/-- A logic engine returns: each task runs on its own engine again where that engine lives. -/
def State.leReturned (s : State) (e : Nat) : State :=
  let s1 := s.fset LOG_STATUS.LE_RETIRED (putBits (s.fget LOG_STATUS.LE_RETIRED) e 1 0)
  if bit (s1.fget LOG_STATUS.LE_RETIRED) e then s1 else s1.fset (fldAt LOG_TASK_CFG.ENGINE e) e

/-- D6 is restored (R360, R356). -/
def State.lgcRestore (s : State) : State :=
  if s.lgc.resume && s.lgState == lgFault then (s.lgcResume s.nextBound).lgcHalt else s

/-- Is a cycle of either task running at boundary `b`, once those that end there have ended (R368)? -/
def State.lgcBusy (s : State) : Bool := s.lgc.tasks.any (fun t => match t.run with | some r => !r.done | none => false)

/-- PROGRAM_EXCHANGE at a frame boundary (R367, R368): the old program stops without publication, the new one starts. -/
def State.lgcExchange (s : State) (b : Nat) : State :=
  match s.lgc.pend with
  | none => s
  | some im =>
    let (e, is) := s.lgcCheck im
    if e ≠ 0 then (s.fset LOG_STATUS.ERR e).lgcMod (fun l => { l with pend := none, pendSlot := 0 })
    else
      let sl := s.lgc.pendSlot
      let s1 := (s.lgcIdle.ptHold.lgcMod (fun l => { l with pend := none, pendSlot := 0 })).lgcInstall im sl is
      s1.lgcStart b

/-- Image and states are lost (R363). -/
def State.lgcEmpty (s : State) : State :=
  (((s.lgcIdle.lgcMod (fun l => { l with
    img := none, slot := 0, pend := none, pendSlot := 0, insts := [], states := [], ovl := [], ovlId := 0, groups := [],
    resume := false })).fset LOG_STATUS.STATE 0).fset LOG_STATUS.FAULT 0).showProg

end Sys2Proof.Machine
end

