-- ==== Sys2Proof/Machine/Gnss.lean ====
section
/-!
DEFINITION. The GNSS baseband and the time pulse (R243 to R268). What the receiver measures and solves comes with the
commands; channels, validity, fix types, samples, records, the pulse generator and snapshots are the rules'.
-/

namespace Sys2Proof.Machine

/-- Change the GNSS state. -/
def State.gnsMod (s : State) (f : GnsSt → GnsSt) : State := { s with gns := f s.gns }

/-- The baseband works: enabled, in RUN with D8 powered and GTE alive, and no replay (R267, R455, R480). In YD-22 mode
YD_GNS_CFG enables it (R426). -/
def State.gnssOn (s : State) : Bool :=
  s.clocked && s.pwr == .run && (if s.sys.yd then bit (s.ydReg 0xA6) 0 else s.fbit GNS_CFG.EN) && bit s.sys.domOn 8
    && !s.engDead 14 && s.op != .replay

/-! ## Channels (R245 to R250) -/

/-- An idle channel. -/
def chanIdle : GChan := ⟨0, 0, 0, 0, 0, 0, 0, 0, none⟩
def chanDflt (_ : Nat) : GChan := chanIdle
def State.chan (s : State) (n : Nat) : GChan := tabGet chanDflt s.gns.chans n

/-- Channels of an antenna in TRACK. -/
def State.nTrack (s : State) (ant : Nat) : Nat := ((upTo 64).filter (fun i => (s.chan (64 * ant + i)).st == 3)).length
/-- Show the number of channels in TRACK (R268). -/
def State.showTrack (s : State) : State :=
  (s.fset GNS_STATUS.TRACK_A (s.nTrack 0)).fset GNS_STATUS.TRACK_B (s.nTrack 1)
/-- Write a channel. -/
def State.chanPut (s : State) (n : Nat) (c : GChan) : State :=
  (s.gnsMod (fun g => { g with chans := tabSet chanDflt g.chans n c })).showTrack

/-- Channel states (R247). -/
def chSearch : Nat := 1
def chPullIn : Nat := 2
def chTrack : Nat := 3
def chLost : Nat := 4

/-- The signals of a system: SIG code and band, 0 L1, 1 L5 (R244, R253). -/
def sigsOf (sys : Nat) : List (Nat × Nat) :=
  match sys with | 0 => [(0, 0), (4, 1)] | 1 => [(1, 0), (5, 1)] | 2 => [(2, 0), (6, 1)] | _ => [(3, 0)]
/-- The band of a signal. -/
def sigBand (sig : Nat) : Nat := if sig ≥ 4 then 1 else 0
/-- Satellite numbers of a system (PRESUMED: 32, 36, 63 and 10). -/
def prnMax (sys : Nat) : Nat := match sys with | 0 => 32 | 1 => 36 | 2 => 63 | _ => 10

/-- Is a stream in use: its antenna and band enabled, its samples active (R243, R245). YD-22 mode
uses streams 0 and 1, and with LEGACY_SIG stream 0 alone (R426). -/
def State.strmOn (s : State) (n : Nat) : Bool :=
  if s.sys.yd then s.fbit (fldAt GNS_IF_STAT.ACTIVE n) && (n == 0 || (n == 1 && !bit (s.ydReg 0xA6) 1))
  else s.fbit (fldAt GNS_IF_STAT.ACTIVE n) && (n < 2 || s.fbit GNS_CFG.ANT_B_EN) && (n % 2 == 0 || s.fbit GNS_CFG.L5_EN)

/-- The selected PTP domain is locked (R249, R262, R298). -/
def State.ptpLocked (s : State) : Bool := s.servo == svLocked || s.servo == svTransition

/-- Code period of a signal in ns (PRESUMED, log 268). -/
def sigPeriod (sig : Nat) : Nat := match sig with | 1 => 4000000 | 2 => 10000000 | _ => 1000000

/-- What slews and steps have added to TIME_NS since the instant of the last solution, ps (R259). -/
def State.bMove (s : State) : Int := rndAway ((s.time.moved - s.gns.bMoved) * 1000) (2 ^ 32)

/-- b of the last solution, with what TIME_NS has been moved by since (R259, R261). -/
def State.bCur (s : State) : Int := s.gns.b + s.bMove

/-- b at an instant: by its rate over the time that has passed since the solution, and with what TIME_NS has been moved by since (R253,
R259, R266). -/
def State.bNow (s : State) (t : Nat) : Int :=
  s.bCur + rndAway (s.gns.bRate * (Int.ofNat t - Int.ofNat s.gns.bAt - s.bMove / 1000)) 1000000000

/-- The fusion record of the frame before, where it has POS_VALID (R87, R249). -/
def State.recBefore (s : State) : Option (List Byte) :=
  let i := s.fget FUS_REC.IDX
  [s.rdB rgnFus (i * 64) 64, s.rdB rgnFus ((i + 63) % 64 * 64) 64].find? (fun b =>
    decide (uAt 4 b 8 = (s.time.frame + (2 ^ 32 - 1)) % 2 ^ 32) && bit (uAt 2 b 50) 0)

/-- Position aiding (R249, R267): latitude and longitude in 2^-48 semicircle with their error in m, from the fusion record of the frame
before; else the last PVT fix, or the coarse fix taken after it. The error of the record is its larger σ (log 268). -/
def State.aidPos (s : State) : Option ((Int × Int) × Nat) :=
  match s.recBefore with
  | some b =>
    let deg (o c k : Nat) : Int := sAt 8 s.vessel c + fToFix 64 0 (fdiv (fofInt (sAt 4 b o)) (fltAt s.vessel k))
    let v := (fToFix 64 0 (fmax (fltAt b 24) (fltAt b 32))).toNat
    some ((deg 12 0 16, deg 16 8 20), isqrt v / 1000 + 1)
  | none =>
    match s.gns.coarseAt with
    | some t =>
      if s.gns.lastValid.all (fun l => decide (l < t)) then
        some ((sx 32 (s.fget GNS_COARSE_LAT.ANG) * 2 ^ 17, sx 32 (s.fget GNS_COARSE_LON.ANG) * 2 ^ 17), s.fget GNS_COARSE_STAT.SIGMA)
      else s.gns.pos.map (fun p => (p, Config.aidPosErr s.now))
    | none => s.gns.pos.map (fun p => (p, Config.aidPosErr s.now))

/-- The error of TIME_NS against GNSS time in ns: b where a solution tells it. -/
def State.aidTime (s : State) : Nat := if s.gns.bValid then (s.bNow s.now).natAbs / 1000 + 1 else Config.aidTimeErr s.now

/-- The row of R248 in force for a satellite. -/
def State.aidRow (s : State) (sys prn : Nat) : Nat :=
  let alm := s.gns.alm.contains (sys, prn)
  let know := alm || s.gns.eph.any (fun e => e.1 == sys && e.2.1 == prn)
  let near := match s.aidPos with | some p => decide (p.2 ≤ 3000) | none => false
  if know && !s.fbit TIM_STATUS.TIME_UNSET && decide (s.aidTime ≤ 1000000) && near then 0 else if alm then 1 else 2

/-- The search window of a signal (R248, R249): the clock term is 50 ppb of the carrier about the TCXO offset that INC implies
(y = 1 - INC × 2^-35, R278), or 600 ppb about zero; what no rule computes comes from Config (log 268). -/
def State.window (s : State) (sys prn sig : Nat) : SrchWin :=
  let band := sigBand sig
  let carrier : Nat := if band = 0 then 1575420000 else 1176450000
  let row := s.aidRow sys prn
  let base : Nat := match row with | 0 => 500000 | 1 => 1500000 | _ => 5000000
  let pred := if row = 2 then 0 else Config.predDoppler sys prn band s.now (s.aidPos.map (·.1))
  let code := match row, s.aidPos with
    | 0, some p => min (sigPeriod sig) (s.aidTime + (p.2 * 1000000000 + 299792457) / 299792458)
    | _, _ => sigPeriod sig
  if s.ptpLocked then
    ⟨row, code, pred + rndAway ((2 ^ 35 - Int.ofNat s.time.inc.toNat) * Int.ofNat (carrier * 1000)) (2 ^ 35), base + carrier * 50 / 1000000⟩
  else ⟨row, code, pred, base + carrier * 600 / 1000000⟩

/-- Systems enabled, in the order of R246; in YD-22 mode with LEGACY_SIG GPS alone (R426). -/
def State.sysOn (s : State) (sys : Nat) : Bool :=
  if s.sys.yd then !bit (s.ydReg 0xA6) 1 || sys == 0 else bit (s.fget GNS_CFG.SYS_EN) sys
/-- Is a satellite usable: its system enabled and no unhealthy flag (R246). -/
def State.satOk (s : State) (sys prn : Nat) : Bool := s.sysOn sys && !s.gns.sick.contains (sys, prn)

/-- Insert by descending elevation, then system, then PRN. -/
def skyIns (x : Sky) : List Sky → List Sky
  | [] => [x]
  | y :: ys =>
    if y.elev < x.elev ∨ (y.elev = x.elev ∧ (x.sys < y.sys ∨ (x.sys = y.sys ∧ x.prn < y.prn))) then x :: y :: ys else y :: skyIns x ys
def skySort (l : List Sky) : List Sky := l.foldr skyIns []

/-- The PRNs of the enabled systems in ascending order. -/
def State.prnOrder (s : State) : List (Nat × Nat) :=
  (upTo 4).flatMap (fun y => if s.sysOn y then (upTo (prnMax y)).map (fun p => (y, p + 1)) else [])

/-- The satellites a cold search goes through, from the cursor: those without an almanac (R246; DEDUCED, log 269). -/
def State.coldOrder (s : State) (ant : Nat) : List (Nat × Nat) :=
  let all := s.prnOrder
  let c := s.gns.cursor.getD ant 0 % (if all.length = 0 then 1 else all.length)
  (all.drop c ++ all.take c).filter (fun p => s.satOk p.1 p.2 && !s.gns.alm.contains p)

/-- What becomes of channel `n` before free channels are assigned (R246): a tracked signal keeps its channel while its
satellite lies at or above ELEV_MASK - 2 degrees; channels converging or reacquiring keep theirs; the others are free, as are those
whose antenna or band is not in use. -/
def State.chanKeep (s : State) (sky : List Sky) (n : Nat) (c : GChan) : Bool :=
  let up := match sky.find? (fun x => x.sys == c.sys && x.prn == c.prn) with
    | some x => decide (x.elev ≥ 100 * Int.ofNat (s.fget GNS_CFG.ELEV_MASK) - 200)
    | none => true
  s.strmOn (2 * (n / 64) + sigBand c.sig) && s.satOk c.sys c.prn
    && ((c.st == chTrack && up) || c.st == chPullIn || c.st == chLost)

/-- Assign a list of signals to the free channels of an antenna. -/
def State.chanAssign (s : State) : List Nat → List (Nat × Nat × Nat) → State
  | n :: ns, (sys, prn, sig) :: r =>
    (s.chanPut n { chanIdle with st := chSearch, sys := sys, prn := prn, sig := sig, win := some (s.window sys prn sig) }).chanAssign ns r
  | _, _ => s

/-- CHANNEL_ALLOCATION of one antenna (R246): the satellites of the almanac by elevation, then the search of the others. -/
def State.allocAnt (s : State) (sky : List Sky) (ant : Nat) : State :=
  let ids := (upTo 64).map (fun i => 64 * ant + i)
  let s1 := ids.foldl (fun s n => if s.chanKeep sky n (s.chan n) then s else s.chanPut n chanIdle) s
  let held (sys prn sig : Nat) : Bool := ids.any (fun n => let c := s1.chan n; c.st != 0 && c.sys == sys && c.prn == prn && c.sig == sig)
  let free := ids.filter (fun n => (s1.chan n).st == 0)
  let mask := 100 * Int.ofNat (s.fget GNS_CFG.ELEV_MASK)
  let seen := (skySort (sky.filter (fun x => decide (x.elev ≥ mask) && s.gns.alm.contains (x.sys, x.prn) && s.satOk x.sys x.prn))).map
    (fun x => (x.sys, x.prn))
  let want (l : List (Nat × Nat)) : List (Nat × Nat × Nat) := l.flatMap (fun p => (sigsOf p.1).filterMap (fun g =>
    if s.strmOn (2 * ant + g.2) && !held p.1 p.2 g.1 then some (p.1, p.2, g.1) else none))
  let warm := want seen
  let cold := want (s.coldOrder ant)
  let s2 := s1.chanAssign free (warm ++ cold)
  match (cold.take (free.length - warm.length)).getLast? with
  | some w => s2.gnsMod (fun g => { g with cursor := setAt g.cursor ant (s.prnOrder.idxOf (w.1, w.2.1) + 1) })
  | none => s2

/-- CHANNEL_ALLOCATION, once at each whole second (R245, R246): `duty` is the magnitude-bit share of each stream in 0.5 %. -/
def State.chanAlloc (s : State) (duty : List Nat) (sky : List Sky) : State :=
  let sec := s.now / 1000000000
  if !s.gnssOn || s.gns.allocSec == some sec then s
  else
    let s1 := (upTo 4).foldl (fun s n => s.fset (fldAt GNS_IF_STAT.MAG_DUTY n) (duty.getD n 0)) s
    ((s1.gnsMod (fun g => { g with allocSec := some sec })).allocAnt sky 0).allocAnt sky 1

/-- SIGNAL_ACQUIRED, TRACK_LOCK, LOCK_LOST, CHANNEL_LOST_TIMEOUT (R247). -/
def State.chanAcquired (s : State) (n : Nat) : State :=
  let c := s.chan n
  if s.gnssOn && c.st == chSearch then s.chanPut n { c with st := chPullIn, win := none } else s
def State.chanLock (s : State) (n : Nat) : State :=
  let c := s.chan n
  if s.gnssOn && (c.st == chPullIn || c.st == chLost) then s.chanPut n { c with st := chTrack, lockAt := s.now } else s
def State.chanLoss (s : State) (n : Nat) : State :=
  let c := s.chan n
  if s.gnssOn && c.st == chTrack then s.chanPut n { c with st := chLost, lostAt := s.now } else s
def State.chanTimeout (s : State) : State :=
  (upTo 128).foldl (fun s n =>
    let c := s.chan n
    if c.st == chLost && decide (c.lostAt + 1000000000 < s.now) then
      s.chanPut n { c with st := chSearch, win := some (s.window c.sys c.prn c.sig) } else s) s

/-- GNSS_IF_LOST of stream `n`: its channels drop to IDLE (R245). -/
def State.ifLost (s : State) (n : Nat) : State :=
  if !s.fbit (fldAt GNS_IF_STAT.ACTIVE n) then s
  else
    let s1 := s.fset (fldAt GNS_IF_STAT.ACTIVE n) 0
    let s2 := (upTo 64).foldl (fun s i =>
      let m := 64 * (n / 2) + i
      let c := s.chan m
      if c.st != 0 && sigBand c.sig == n % 2 then s.chanPut m chanIdle else s) s1
    s2.alarm 0x09 0x01 n 0
/-- GNSS_IF_ACTIVE (R245). -/
def State.ifActive (s : State) (n : Nat) : State :=
  if s.clocked && (if s.sys.yd then bit (s.ydReg 0xA6) 0 else s.fbit GNS_CFG.EN) then
    (s.fset (fldAt GNS_IF_STAT.ACTIVE n) 1).clearAlarm 0x09 0x01 n else s

/-- Show what navigation data is held. -/
def State.showNav (s : State) : State :=
  (s.fput GNS_STATUS.ALMANAC (!s.gns.alm.isEmpty)).fput GNS_STATUS.EPHEM (!s.gns.eph.isEmpty)

/-- NAVIGATION_DATA (R246, R263). -/
def State.navData (s : State) (m : NavMsg) : State :=
  if !s.gnssOn then s
  else
    let key := (m.sys, m.prn)
    let s1 := s.gnsMod (fun g => { g with
      alm := if m.alm && !g.alm.contains key then g.alm ++ [key] else g.alm,
      eph := if m.eph then g.eph.filter (fun e => (e.1, e.2.1) != key) ++ [(m.sys, m.prn, s.now)] else g.eph,
      sick := if m.healthy then g.sick.filter (fun x => x != key) else if g.sick.contains key then g.sick else g.sick ++ [key] })
    let s2 := if m.healthy then s1
      else (upTo 128).foldl (fun s n => let c := s.chan n; if c.st != 0 && (c.sys, c.prn) == key then s.chanPut n chanIdle else s) s1
    let s3 := match m.leap with
      | some (l, nx) =>
        ((s2.gnsMod (fun g => { g with leap := l, leapNext := nx })).fset GNS_TP_STAT.LEAP l).fput GNS_TP_STAT.LEAP_PENDING nx.isSome
      | none => s2
    s3.showNav

/-! ## RTCM (R244, R255) -/

/-- Messages used: 1005, 1006 and MSM4, MSM7 of four systems. -/
def rtcmKnown (m : Nat) : Bool := [1005, 1006, 1074, 1077, 1094, 1097, 1124, 1127, 1114, 1117].contains m

/-- RTCM_FRAME_RX from UART `num`, or in a datagram to UDP port `num` on an Ethernet port in use and in its VLAN. -/
def State.rtcmRx (s : State) (src : RtcmVia) (num : Nat) (bs : List Byte) : State :=
  let cfg := s.fget GNS_RTCM_CFG.SRC
  let named := match src with
    | .uart => cfg == 1 && s.fget GNS_RTCM_CFG.UART == num && s.fget (fldAt CAN_UCFG.USE num) == 2
    | .udp i => cfg == 2 && s.fget GNS_RTCM_CFG.UDP_PORT == num && s.ethOn i.port && s.vidOk i.port i.vid
  if !s.gnssOn || !named then s
  else
    let n := bs.length
    let len := beAt 2 bs 1 % 1024
    if byteAt bs 0 ≠ 0xD3 ∨ n ≠ len + 6 ∨ crc24q (bs.take (n - 3)) ≠ beAt 3 bs (n - 3) then s.finc GNS_RTCM_CNT.CRC_ERR
    else
      let msg := beAt 2 bs 3 / 16
      let stn := beAt 2 bs 4 % 4096
      if !rtcmKnown msg || (!s.fbit GNS_RTCM_BASE.ANY && stn != s.fget GNS_RTCM_BASE.STATION_ID) then s.finc GNS_RTCM_CNT.IGNORED
      else
        (s.finc GNS_RTCM_CNT.OK).gnsMod (fun g =>
          if msg ≤ 1006 then { g with base := some stn } else { g with obs := some (stn, s.now) })

/-- RTK may run: a station position, and observations of that station no older than AGE_MAX (R255). -/
def State.rtkOk (s : State) : Bool :=
  match s.gns.base, s.gns.obs with
  | some b, some (o, t) => b == o && decide (s.now ≤ t + s.fget GNS_RTCM_CFG.AGE_MAX * 1000000000)
  | _, _ => false

/-- AMBIGUITY_FIXED: the result of antenna 0, 1 or of the baseline, 2, waits for the next latch (R255, R256). -/
def State.ambiguity (s : State) (i ratio : Nat) : State :=
  if s.gnssOn && !s.sys.yd then s.gnsMod (fun g => { g with amb := setAt g.amb i (some ratio) }) else s

/-- The results that apply from this latch: a set is fixed when it passes the ratio test of 3.0. -/
def ambApply (g : GnsSt) : GnsSt :=
  (upTo 3).foldl (fun g i =>
    match g.amb.getD i none with
    | some r => { g with ratio := setAt g.ratio i r, fixed := setAt g.fixed i (decide (300 ≤ r)), amb := setAt g.amb i none }
    | none => g) g

/-! ## The latch (R252, R253) -/

/-- GPS week number of an instant of TIME_NS, its offset b taken off. -/
def State.gpsWeek (s : State) (t : Nat) : Nat :=
  tc 16 (((Int.ofNat t * 1000 - s.bNow t).fdiv 1000000000000 - 315964819).fdiv 604800)

/-- The multipath indicator: 0 to 1,000 (R251). -/
def mpOf (v : Nat) : Nat := min 1000 v

/-- The measurement entry of a channel (R253). -/
def measBytes (f : Nat) (n : Nat) (c : GChan) (m : GnssMeas) : List Byte :=
  leBytes 1 c.sys ++ leBytes 1 c.prn ++ leBytes 1 c.sig
    ++ leBytes 1 (b2n (decide (64 ≤ n)) + 2 * b2n m.half + 4 * b2n m.txOk + 8 * b2n m.adrOk + 16 * b2n (m.slips != 0))
    ++ leBytes 2 (satU 16 m.cn0) ++ leBytes 2 (satU 16 ((f - c.lockAt) / 100000000)) ++ leBytes 8 m.tx ++ leBytes 8 (tc 64 m.adr)
    ++ leBytes 4 (tc 32 m.doppler) ++ leBytes 2 (mpOf m.mp) ++ leBytes 1 c.slips ++ [0]

/-- What a channel latches; a channel no measurement comes with latches open values. -/
def State.measOf (s : State) (meas : List GnssMeas) (n : Nat) : GnssMeas :=
  match meas.find? (fun m => m.ch == n) with
  | some m => m
  | none =>
    let w (i : Nat) : Nat := Config.freeWord (s.free + 8 * n + i)
    ⟨n, w 0 % 2 ^ 16, w 1 % 2 ^ 64, sx 64 (w 2), sx 32 (w 3), w 4 % 1001, 0, bit (w 5) 0, bit (w 5) 1, bit (w 5) 2⟩

/-- GNSS_LATCH at F(k), k mod N = 0 (R252, R253). -/
def State.gnssLatch (s : State) (meas : List GnssMeas) : State :=
  let k := s.time.frame
  let n := s.fget GNS_MEAS_CFG.N
  if !s.gnssOn || s.sys.yd || n == 0 || k % n != 0 then s
  else
    let f := s.fNow
    let trk := (upTo 128).filter (fun i => (s.chan i).st == chTrack)
    let s1 := trk.foldl (fun s i =>
      let m := s.measOf meas i
      let c := s.chan i
      (s.fcount GNS_CNT.SLIPS m.slips).chanPut i { c with cn0 := m.cn0, slips := (c.slips + m.slips) % 256 }) s
    let stp := s.time.steps != s.gns.steps
    let hd := leBytes 8 f ++ leBytes 4 k ++ leBytes 1 trk.length ++ leBytes 1 (b2n s.gns.bValid + 2 * b2n stp)
      ++ leBytes 2 (s.gpsWeek f) ++ leBytes 8 (tc 64 (s.bNow f)) ++ leBytes 4 (tc 32 s.gns.bRate) ++ leBytes 1 s.gns.leap
      ++ [0, 0, 0]
    let body := trk.flatMap (fun i => measBytes f i (s1.chan i) (s.measOf meas i))
    let i := (s.fget GNS_MREC.IDX + 1) % 16
    let s2 := (s1.wrB rgnMrec (i * 4128) (hd ++ body)).fset GNS_MREC.IDX i
    let s3 := s2.gnsMod (fun g => { (ambApply g) with latch := some (k, f), latMoved := s.time.moved, steps := s.time.steps })
    { s3 with free := s3.free + 1024 }

/-! ## b_pps (R259 to R264) -/

/-- Generator states (R261). -/
def tpNone : Nat := 0
def tpLocked : Nat := 1
def tpHoldover : Nat := 2
def tpSlewing : Nat := 3
def tpOff : Nat := 4
def State.tp (s : State) : Nat := s.fget GNS_TP_STAT.STATE
def State.setTp (s : State) (v : Nat) : State := s.fset GNS_TP_STAT.STATE v

/-- b_pps in ps. -/
def State.bPps (s : State) : Int := s.gns.bq.fdiv (2 ^ 32)

/-- Add to b_pps what slews and steps have added to TIME_NS, in LOCKED and SLEWING (R261). -/
def State.ppsFold (s : State) : State :=
  let d := (s.time.moved - s.gns.seen) * 1000
  s.gnsMod (fun g => { g with
    bq := if s.tp = tpLocked ∨ s.tp = tpSlewing then g.bq + d else g.bq, seen := s.time.moved })

/-- Set b_pps. -/
def State.setB (s : State) (ps : Int) : State := s.gnsMod (fun g => { g with bq := ps * 2 ^ 32 })

/-- A read of GNS_CLK_B_LO: the low word, and the high word latched (R268). -/
def State.showB (s : State) : State :=
  let s1 := s.ppsFold
  let v := tc 64 s1.bPps
  (s1.fset GNS_CLK_B_LO.B v).fset GNS_CLK_B_HI.B (v / 2 ^ 32)

/-- GNSS_HOLDOVER at a whole second (R262). -/
def State.tpHold (s : State) : State :=
  let sec := s.now / 1000000000
  let old := match s.gns.lastValid with | some t => decide (t + 1000000000 < sec * 1000000000) | none => true
  if (s.tp == tpLocked || s.tp == tpSlewing) && old then
    let s1 := s.ppsFold
    let s2 := ((s1.setTp tpHoldover).fset GNS_TP_UNC.UNC (satU 32 s.gns.bSig)).finc GNS_CNT.HOLDOVERS
    (s2.gnsMod (fun g => { g with run := 0, holdSec := some sec })).alarm 0x09 0x02 0 0
  else s

/-- CABLE of an output in ps. -/
def State.cablePs (s : State) (o : Nat) : Int := sx 16 (s.gns.pps.getD o 0) * 1000

/-- The second of output `o` whose ideal instant, moved by `ofs` ps, is the last one not after now (R260). -/
def State.tpSec (s : State) (o : Nat) (ofs : Int) : Int :=
  (Int.ofNat s.now * 1000 + ofs - s.bPps + s.cablePs o).fdiv 1000000000000

/-- The leap second announced has passed: TAI - UTC changes (R260). -/
def State.leapTurn (s : State) : State :=
  match s.gns.leapNext with
  | some (t, l) =>
    if t < s.now / 1000000000 then
      ((s.gnsMod (fun g => { g with leap := l, leapNext := none })).fset GNS_TP_STAT.LEAP l).fset GNS_TP_STAT.LEAP_PENDING 0
    else s
  | none => s

/-- The CLK_PER edge nearest an ideal instant, in 2^-33 ns, and QERR in ps: edges lie at the CLK_TS ticks and midway
between them; ties go to the earlier edge (R260). -/
def State.tpEdge (s : State) (tPs : Int) : Int × Int :=
  let c2 := 2 * Int.ofNat (s.now * 2 ^ 32 + s.time.frac.toNat)
  let inc := Int.ofNat s.time.inc.toNat
  let t2 := tPs * 2 ^ 33
  let d := 2 * (t2 - 1000 * c2) - 1000 * inc
  let j := - ((-d).fdiv (2000 * inc))
  let e := c2 + j * inc
  (e, rndAway (e * 1000 - t2) (2 ^ 33))

/-- Does the generator drive pulses (R261)? -/
def State.tpDrives (s : State) : Bool := s.tp == tpLocked || s.tp == tpHoldover || s.tp == tpSlewing

/-- Write the time-pulse record of output `o` and second `sec` (R263). -/
def State.tpRecord (s : State) (o : Nat) (sec : Int) (revised : Bool) : State :=
  let t := sec * 1000000000000 + s.bPps - s.cablePs o
  let (e, q) := s.tpEdge t
  let sn := sec.toNat
  let sk := s.gns.skip.contains sn
  let noP := sk || !bit (s.gns.pps.getD o 0) 31 || !s.tpDrives
  let (leap, pend) := match s.gns.leapNext with
    | some (t, l) => if t < sn then (l, false) else (s.gns.leap, true)
    | none => (s.gns.leap, false)
  let b := leBytes 8 (tc 64 (e.fdiv (2 ^ 33))) ++ leBytes 8 sn ++ leBytes 2 (tc 16 q) ++ leBytes 1 s.tp
    ++ leBytes 1 (b2n sk + 2 * b2n noP + 4 * b2n pend + 8 * b2n revised + 16 * o) ++ leBytes 4 (s.fget GNS_TP_UNC.UNC)
    ++ leBytes 1 leap ++ [0, 0, 0] ++ leBytes 4 s.gns.seq
  let i := (s.fget GNS_TREC.IDX + 1) % 64
  let s1 := (s.wrB rgnTrec (i * 32) b).fset GNS_TREC.IDX i
  let s2 := s1.gnsMod (fun g => { g with seq := (g.seq + 1) % 2 ^ 32, recd := setAt g.recd o (some sn) })
  let s3 := if o = 0 then s2.fset GNS_TP_STAT.QERR (tc 16 q) else s2
  s3.event 0x09 0x04 0 (evData 0 o)

/-- Has a pulse of output `o` been recorded that is still to come? -/
def State.tpDue (s : State) (o : Nat) : Bool :=
  match s.gns.recd.getD o none with
  | some r => s.tpDrives && bit (s.gns.pps.getD o 0) 31 && !s.gns.skip.contains r && (s.gns.drv.getD o none).all (fun d => decide (d < r))
  | none => false

/-- The second record of a pulse suppressed after its first (R263). -/
def State.tpRevise (s : State) (o : Nat) : State :=
  match s.gns.recd.getD o none with
  | some r => s.tpRecord o (Int.ofNat r) true
  | none => s

/-- Settings that take effect at a whole second (R268); an output they switch off has the record of its coming pulse revised (R263). -/
def State.tpSettings (s : State) : State :=
  let due := (upTo 2).filter (fun o => s.tpDue o)
  let s1 := s.gnsMod (fun g => { g with pps := [(s.reg aGNS_PPS0_CFG).toNat, (s.reg aGNS_PPS1_CFG).toNat], tau := s.fget GNS_TP_CFG.TAU })
  (due.filter (fun o => !bit (s1.gns.pps.getD o 0) 31)).foldl (fun s o => s.tpRevise o) s1

/-- TP_SECOND, once a second (R261 to R264). -/
def State.tpSecond (s : State) : State :=
  let sec := s.now / 1000000000
  if s.gns.tpAt == some sec then s
  else
    let s0 := (s.tpHold.ppsFold.tpSettings.leapTurn).gnsMod (fun g => { g with tpAt := some sec })
    let step := match s0.gns.stepSec with | some t => decide (t ≤ sec) | none => false
    let tau := if s0.gns.tau = 0 then 1 else s0.gns.tau
    if step then
      ((((s0.setB s0.bCur).setTp tpLocked).fup GNS_TP_STAT.STEP).finc GNS_CNT.TP_STEPS).gnsMod (fun g => { g with stepSec := none })
        |>.clearAlarm 0x09 0x02 0 |>.event 0x09 0x03 1 (evData 0 0) |>.fset GNS_TP_UNC.UNC (satU 32 s0.gns.bSig)
    else if s0.tp = tpLocked then s0.setB (s0.bPps + rndAway (s0.bCur - s0.bPps) tau)
    else if s0.tp = tpSlewing then
      let d := s0.bCur - s0.bPps
      let s1 := s0.setB (s0.bPps + clampI (-20000) 20000 d)
      if s1.bPps = s0.bCur then (s1.setTp tpLocked).fset GNS_TP_UNC.UNC (satU 32 s0.gns.bSig) else s1
    else if s0.tp = tpHoldover && s0.gns.holdSec != some sec then
      s0.fset GNS_TP_UNC.UNC (satU 32 (s0.fget GNS_TP_UNC.UNC + if s0.ptpLocked then 1 else 500))
    else s0

/-- The generator and the solution follow GNS_CFG.EN and the power state (R261, R267): off, every fix, ambiguity set and solution is gone,
and the pulses recorded and still to come are revised (R255, R256, R263, R268). -/
def State.tpCheck (s : State) : State :=
  let on := s.fbit GNS_CFG.EN && s.pwr == .run && !s.sys.yd && s.op != .replay && bit s.sys.domOn 8
  if !on && s.tp != tpOff then
    let due := (upTo 2).filter (fun o => s.tpDue o)
    let s1 := due.foldl (fun s o => s.tpRevise o) (s.ppsFold.setTp tpOff)
    let s2 := (((s1.fset GNS_TP_UNC.UNC (2 ^ 32 - 1)).fset GNS_STATUS.FIX_A 0).fset GNS_STATUS.FIX_B 0).fset GNS_STATUS.HDG_VALID 0
    (s2.gnsMod (fun g => { g with
      chans := [], latch := none, lastValid := none, bValid := false, run := 0, stepSec := none, skip := [], rtk := [0, 0], ratio := [0, 0, 0]
      fixed := [false, false, false], amb := [none, none, none] })).showTrack
      |>.clearAlarm 0x09 0x02 0
  else if on && s.tp == tpOff then (s.setTp tpNone).gnsMod (fun g => { g with seen := s.time.moved })
  else s

/-- TP_RECORD_WRITE: the record of each output whose t_s - 500 ms has come, in every state but OFF (R263, R267). -/
def State.tpRecords (s : State) : State :=
  let s0 := s.ppsFold
  if s0.tp == tpOff || !s0.clocked then s0
  else (upTo 2).foldl (fun s o =>
    let sec := s.tpSec o 500000000000
    let isNew := match s.gns.recd.getD o none with | some r => decide (Int.ofNat r < sec) | none => decide (0 ≤ sec)
    if isNew then s.tpRecord o sec false else s) s0

/-- TIME_PULSE: each output whose edge has come is driven (R260). -/
def State.tpPulse (s : State) : State :=
  let s0 := s.ppsFold
  if !s0.tpDrives || !s0.clocked then s0
  else (upTo 2).foldl (fun s o =>
    let sec := s.tpSec o 4000
    let isNew := match s.gns.drv.getD o none with | some r => decide (Int.ofNat r < sec) | none => decide (0 ≤ sec)
    if !isNew then s
    else
      let s1 := s.gnsMod (fun g => { g with drv := setAt g.drv o (some sec.toNat), skip := g.skip.filter (fun x => decide (sec ≤ Int.ofNat x + 1)) })
      let cfg := s.gns.pps.getD o 0
      if bit cfg 31 && !s.gns.skip.contains sec.toNat then
        s1.send (.pps o) (leBytes 8 sec.toNat ++ leBytes 2 (bits cfg 16 10) ++ leBytes 1 (bits cfg 30 1))
      else s1) s0

/-- A step of TIME_NS in HOLDOVER: the pulses of the next second are suppressed (R264). -/
def State.tpStepped (s : State) : State :=
  if s.tp ≠ tpHoldover then s
  else
    let sec (o : Nat) : Int := s.tpSec o 0 + 1
    let s1 := s.gnsMod (fun g => { g with skip := g.skip ++ [(sec 0).toNat] ++ (if sec 1 = sec 0 then [] else [(sec 1).toNat]) })
    (upTo 2).foldl (fun s o =>
      if s.gns.recd.getD o none == some (sec o).toNat then s.tpRecord o (sec o) true else s) s1

/-! ## Solutions (R254 to R257, R261, R264) -/

/-- Is a solution valid (R254)? -/
def posValid (p : GnssPos) : Bool := decide (3 + p.nSys ≤ p.nSat) && decide (p.pdop ≤ 600) && p.resid

/-- Write a sample into the contexts of a GNSS binding (R257, R405): 0 antenna A, 1 antenna B, 2 heading. -/
def State.gnssSample (s : State) (key f : Nat) (fmt : VFmt) (x v : List Int) (q : List Nat) : State :=
  (s.bindOf 4 (fun k => byteAt k 0 == key)).foldl (fun s b =>
    (fieldCtxs (fieldsOf b.2)).foldl (fun s n =>
      let c := s.ctxOf n
      if c.localMode || c.hermite != !v.isEmpty then s.finc NET_PIER_ERR.MODE
      else s.ctxSample n f s.now .instant fmt x v q 0 0) s) s

/-- One antenna: fix type, status, sample (R254, R255, R257). -/
def State.antSolve (s : State) (ant f : Nat) (p : Option GnssPos) : State :=
  let fixF := if ant = 0 then GNS_STATUS.FIX_A else GNS_STATUS.FIX_B
  let en := ant == 0 || s.fbit GNS_CFG.ANT_B_EN
  match p with
  | some p =>
    if !(en && posValid p) then (s.fset fixF 0).gnsMod (fun g => { g with rtk := setAt g.rtk ant 0 })
    else
      let rtk := s.rtkOk
      let ty := if rtk then (if s.gns.fixed.getD ant false then 3 else 2) else 1
      let s1 := (s.fset fixF ty).gnsMod (fun g => { g with
        rtk := setAt g.rtk ant ty, pos := some (p.lat, p.lon),
        fixed := if rtk then g.fixed else setAt g.fixed ant false, ratio := if rtk then g.ratio else setAt g.ratio ant 0 })
      let age := match s.gns.obs with | some (_, t) => satU 16 ((s.now - t) / 100000000) | none => 0xFFFF
      s1.gnssSample ant f .i64 [p.lat, p.lon] [p.latRate, p.lonRate]
        [ty, p.nSat, satU 16 p.sN, satU 16 p.sE, age, if rtk then s.gns.ratio.getD ant 0 else 0, mpOf p.mp, p.pdop]
  | none => (s.fset fixF 0).gnsMod (fun g => { g with rtk := setAt g.rtk ant 0 })

/-- The moving-baseline heading (R256, R257). -/
def State.hdgSolve (s : State) (f : Nat) (h : Option GnssHdg) : State :=
  let len := s.fget GNS_HDG_CFG.LEN
  match h with
  | some h =>
    let ok := s.fbit GNS_CFG.HDG_EN && s.fbit GNS_CFG.ANT_B_EN && len != 0 && s.gns.fixed.getD 2 false
      && decide ((h.len - Int.ofNat len).natAbs ≤ s.fget GNS_HDG_CFG.LEN_TOL) && decide (5 ≤ h.n)
    if !ok then s.fset GNS_STATUS.HDG_VALID 0
    else
      (s.fset GNS_STATUS.HDG_VALID 1).gnssSample 2 f .b32 [Int.ofNat (h.hdg % 2 ^ 32)] []
        [3, h.n, satU 16 h.sig, tc 16 (satS 16 (h.len - Int.ofNat len)), tc 16 (satS 16 h.pitch), s.gns.ratio.getD 2 0, mpOf h.mp, 0]
  | none => s.fset GNS_STATUS.HDG_VALID 0

/-- b from a valid solution, and what the generator makes of it (R261, R262, R264). -/
def State.tpSolve (s : State) (t : Nat) (p : GnssPos) : State :=
  let s1 := s.ppsFold.gnsMod (fun g => { g with
    b := p.b, bRate := p.bRate, bAt := t, bMoved := g.latMoved, bSig := p.bSig, bValid := true, lastValid := some s.now, run := g.run + 1 })
  if s1.tp = tpNone then ((s1.setB s1.bCur).setTp tpLocked).fset GNS_TP_UNC.UNC (satU 32 p.bSig)
  else if s1.tp = tpLocked then s1.fset GNS_TP_UNC.UNC (satU 32 p.bSig)
  else if s1.tp = tpHoldover ∧ s1.gns.stepSec.isNone ∧ 5 ≤ s1.gns.run then
    let d := s1.bCur - s1.bPps
    if d.natAbs ≤ 1000000 then (s1.setTp tpSlewing).clearAlarm 0x09 0x02 0
    else
      let a := s1.tpSec 0 500000000000 + 1
      let b := s1.tpSec 1 500000000000 + 1
      let sec := (if a < b then b else a).toNat
      s1.gnsMod (fun g => { g with stepSec := some sec, skip := g.skip ++ [sec] })
  else s1

/-- GNSS_SOLUTION of the latch that waits (R254 to R257, R261). -/
def State.gnssSolve (s : State) (a b : Option GnssPos) (h : Option GnssHdg) : State :=
  match s.gns.latch with
  | none => s
  | some (_, f) =>
    if !s.gnssOn || s.sys.yd then s
    else
      let s1 := s.gnsMod (fun g => { g with latch := none })
      let s2 := ((s1.antSolve 0 f a).antSolve 1 f b).hdgSolve f h
      let okB := s.fbit GNS_CFG.ANT_B_EN
      match (match a with | some p => if posValid p then some p else none | none => none),
            (match b with | some p => if okB && posValid p then some p else none | none => none) with
      | some p, _ => s2.tpSolve f p
      | none, some p => s2.tpSolve f p
      | none, none => s2.gnsMod (fun g => { g with bValid := false, run := 0 })

/-! ## Snapshots (R265 to R267) -/

/-- The lengths configured, in ms. -/
def State.snapLens (s : State) : List Nat :=
  [s.fget GNS_SNAP_CFG.LEN0, s.fget GNS_SNAP_CFG.LEN1, s.fget GNS_SNAP_CFG.LEN2, s.fget GNS_SNAP_CFG.LEN3]
/-- Is the buffer free for a trigger: no capture waits or runs, nothing unreleased unless OVERWRITE, and it fits (R9, R265). -/
def State.snapOk (s : State) : Bool :=
  s.gns.trig.isNone && !s.fbit GNS_SNAP_STAT.BUSY && (!s.fbit GNS_SNAP_STAT.FULL || s.fbit GNS_SNAP_CFG.OVERWRITE)
    && decide (64 + 31250 * s.snapLens.sum ≤ s.poolTop)
/-- A trigger: 0 command, 1 harvest. The result says whether a capture will begin. -/
def State.snapTrig (s : State) (kind : Nat) : State × Bool :=
  if s.snapOk then (s.gnsMod (fun g => { g with trig := some kind }), true) else (s.finc GNS_SNAP_STAT.IGNORED, false)

/-- b at an instant where it is known, else 0 (R266). -/
def State.bKnown (s : State) (t : Nat) : Int := if s.gns.bValid then s.bNow t else 0

/-- Capture starts at the first boundary after the trigger (R265). -/
def State.snapStart (s : State) : State :=
  match s.gns.trig with
  | none => s
  | some k =>
    ((s.gnsMod (fun g => { g with trig := none, snap := some ⟨k, s.snapLens, s.now, s.bKnown s.now⟩ })).fset GNS_SNAP_STAT.BUSY 1).fset
      GNS_SNAP_STAT.FULL 0

/-- Byte offset of each stream's data (R266). -/
def snapOfs (lens : List Nat) : List Nat :=
  (upTo 4).map (fun i => if lens.getD i 0 = 0 then 0 else 64 + 31250 * (lens.take i).sum)
/-- The header (R266). -/
def snapHeader (x : SnapSt) : List Byte :=
  let strm := ((upTo 4).map (fun i => if x.lens.getD i 0 = 0 then 0 else 2 ^ i)).sum
  let b := leBytes 4 0x534E5047 ++ leBytes 1 strm ++ leBytes 1 x.trig ++ [0, 0] ++ leBytes 8 x.t0
    ++ (upTo 4).flatMap (fun i => leBytes 2 (x.lens.getD i 0)) ++ (snapOfs x.lens).flatMap (leBytes 4)
    ++ leBytes 8 (tc 64 x.b) ++ List.replicate 12 0
  b ++ leBytes 4 (crc32c b)

/-- Write a snapshot: header and samples. -/
def State.snapWrite (s : State) (x : SnapSt) (samples : List Byte) : State :=
  ((s.wrPool 0 (snapHeader x ++ samples.take (31250 * x.lens.sum))).fset GNS_SNAP_STAT.BUSY 0).fset GNS_SNAP_STAT.FULL 1

/-- SNAP_DONE: the capture has run for its longest stream (R265, R266). -/
def State.snapDone (s : State) (samples : List Byte) : State :=
  match s.gns.snap with
  | some x =>
    if s.fbit GNS_SNAP_STAT.BUSY && decide (x.t0 + maxN x.lens * 1000000 ≤ s.now) then
      (s.snapWrite x samples).event 0x09 0x06 0 (evData 0 0)
    else s
  | none => s

/-- Writing RELEASE (R265). -/
def State.snapRelease (s : State) : State :=
  if s.fbit GNS_SNAP_STAT.BUSY then s else (s.fset GNS_SNAP_STAT.FULL 0).gnsMod (fun g => { g with snap := none })

/-- HARBOUR_SNAPSHOT (R267). -/
def State.harbourSnap (s : State) (fix : CoarseFix) (samples : List Byte) : State :=
  let due := decide (s.gns.harbAt + s.fget GNS_HARB_CFG.SNAP_INT * 1000000000 ≤ s.now)
  if s.pwr != .harbour || !s.fbit GNS_CFG.EN || !due then s
  else
    let s1 := s.gnsMod (fun g => { g with harbAt := s.now, snap := some ⟨2, [20, 0, 0, 0], s.now, 0⟩ })
    let s2 := s1.snapWrite ⟨2, [20, 0, 0, 0], s.now, 0⟩ samples
    let fresh := s.gns.eph.any (fun e => decide (s.now < e.2.2 + 14400000000000))
    if fresh && decide (5 ≤ fix.sats) then
      let s3 := (((s2.fset GNS_COARSE_LAT.ANG (tc 32 fix.lat)).fset GNS_COARSE_LON.ANG (tc 32 fix.lon)).fset GNS_COARSE_STAT.SIGMA
        (satU 16 fix.sigma)).fset GNS_COARSE_STAT.NOFIX 0
      (s3.gnsMod (fun g => { g with coarseAt := some s.now })).event 0x09 0x05 0 (evData 0 0)
    else s2.fset GNS_COARSE_STAT.NOFIX 1

/-- AGE of the coarse fix in s (R268). -/
def State.coarseAge (s : State) : Nat :=
  match s.gns.coarseAt with | some t => satU 15 ((s.now - t) / 1000000000) | none => 0x7FFF

/-- GNS_FORGET (R411): bit 0 almanac, 1 ephemerides, 2 last position. -/
def State.gnsForget (s : State) (what : Nat) : State :=
  (s.gnsMod (fun g => { g with
    alm := if bit what 0 then [] else g.alm, sick := if bit what 0 then [] else g.sick,
    eph := if bit what 1 then [] else g.eph,
    pos := if bit what 2 then none else g.pos, coarseAt := if bit what 2 then none else g.coarseAt })).showNav

end Sys2Proof.Machine
end

