-- ==== Sys2Proof/Machine/Panel.lean ====
section
/-!
DEFINITION. The panel driver: requests, panel frames, waveforms, DC balance, the crack loop (R491 to R503).
-/

namespace Sys2Proof.Machine

/-- Write the panel record. -/
def State.pnlMod (s : State) (f : PnlSt → PnlSt) : State := { s with pnl := f s.pnl }

/-- A pod without work. -/
def podIdle (_ : Nat) : Pod := ⟨none, none, none, 0⟩
/-- The level a driver starts from. -/
def levDflt (_ : Nat) : Nat := 4
/-- A DC counter at the start. -/
def dcDflt (_ : Nat) : Int := 0

/-- Pod `p`. -/
def State.pod (s : State) (p : Nat) : Pod := tabGet podIdle s.pnl.pods p
/-- Write pod `p`. -/
def State.podPut (s : State) (p : Nat) (x : Pod) : State := s.pnlMod (fun q => { q with pods := tabSet podIdle q.pods p x })

/-- Segments in the chain. -/
def State.segN (s : State) : Nat := 64 * (s.fget PNL_CFG.NDRV + 1)
/-- The pod of a segment; 255 when unused (R493). -/
def State.segPod (s : State) (i : Nat) : Nat :=
  match s.obj 0x18 0 with | some b => if i < s.segN then byteAt b (28 + i) else 255 | none => 255
/-- The segments of a pod, ascending. -/
def State.podSegs (s : State) (p : Nat) : List Nat := (upTo 512).filter (fun i => s.segPod i == p)

/-- The waveform table in force (R497). -/
def State.wave (s : State) : Option (List Byte) := s.img 4 0

/-- May a new waveform or balancing run start (R495)? -/
def State.pnlFree (s : State) : Bool :=
  s.sys.low % 64 == 0 && !s.pnl.crack && s.fbit PNL_CFG.EN && s.wave.isSome && bit s.sys.domOn 11

/-- Does the driver run at all: RUN in the native mode, outside BOOT and REPLAY (R413, R479)? -/
def State.pnlOn (s : State) : Bool :=
  s.clocked && s.pwr == .run && !s.sys.yd && s.op != .boot && s.op != .replay && bit s.sys.domOn 11

/-- The pods whose work satisfies `p`, as a mask. -/
def State.podMask (s : State) (p : Pod → Bool) : Nat := s.pnl.pods.foldl (fun m x => if p x.2 then m ||| 2 ^ x.1 else m) 0

/-- Show the pods and the driver's state (R503). -/
def State.showPnl (s : State) : State :=
  let s1 := ((s.fset PNL_RUN.POD (s.podMask (·.run.isSome))).fset PNL_QUEUE.POD (s.podMask (·.queue.isSome))).fset PNL_PEND.POD
    (s.podMask (·.pend.isSome))
  let unk := (upTo 512).any (fun i => s1.segPod i != 255 && tabGet levDflt s1.pnl.lev i == 4)
  ((((((s1.fset PNL_STATUS.BAND s1.pnl.band).fput PNL_STATUS.UNKNOWN unk).fput PNL_STATUS.CRACK s1.pnl.crack).fput PNL_STATUS.HELD
    (!s1.pnlFree)).fput PNL_STATUS.TABLE_VALID s1.wave.isSome).fput PNL_STATUS.HVEN s1.pnl.hven).fput PNL_STATUS.DRIVING
    (s1.pnl.pods.any (fun x => x.2.run.isSome))

/-- PNL_UPDATE (R494): the status. A pod whose request has not started counts as one with a request queued. -/
def State.pnlUpdate (s : State) (p : Nat) (levels : List Nat) : State × Nat :=
  let x := s.pod p
  let s1 := s.podPut p { x with queue := some levels, from_ := if x.run.isNone && x.pend.isNone then s.now + 1000000 else 0 }
  if x.queue.isSome then ((s1.finc PNL_CNT.REPLACED).showPnl, 0x1101) else (s1.showPnl, 0)

/-- The waveform of a segment from its present level to a new one, at the band in force (R496, R497). -/
def State.segWave (s : State) (i new : Nat) : List Nat :=
  let b := s.wave.getD []
  let o := 16 + 20 * ((tabGet levDflt s.pnl.lev i * 4 + new) * 8 + s.pnl.band)
  let c := uAt 16 b (o + 4)
  (upTo (byteAt b o)).map (fun f => bits c (2 * f) 2)

/-- A run that drives a request (R496). -/
def State.runOf (s : State) (p : Nat) (levels : List Nat) : PodRun :=
  ⟨levels, (s.podSegs p).zipIdx.map (fun x => s.segWave x.1 (levels.getD x.2 0)), 0, false⟩

/-- The last frame of a run. -/
def State.runLen (s : State) (p : Nat) (r : PodRun) : Nat :=
  if r.balance then (if (s.podSegs p).any (fun i => tabGet dcDflt s.pnl.dc i != 0) then r.n + 1 else r.n)
  else maxN (r.waves.map (·.length))

/-- A segment's code in a frame of a run. -/
def State.segCode (s : State) (r : PodRun) (i j : Nat) : Nat :=
  if r.balance then
    let c := tabGet dcDflt s.pnl.dc i
    if c > 0 then 2 else if c < 0 then 1 else 0
  else (r.waves.getD j []).getD r.n 0

/-- End the runs that have come to their end; a balancing run is followed by the pod's request (R494, R500). -/
def State.podEnd (s : State) (p : Nat) : State :=
  let x := s.pod p
  match x.run with
  | none => s
  | some r =>
    if r.n < s.runLen p r then s
    else if r.balance then
      match x.queue with
      | some q => s.podPut p { x with run := some (s.runOf p q), queue := none }
      | none => s.podPut p { x with run := some (s.runOf p r.levels) }
    else
      let s1 := s.pnlMod (fun q => { q with lev := ((s.podSegs p).zipIdx).foldl (fun t y =>
        tabSet levDflt t y.1 (r.levels.getD y.2 0)) q.lev })
      (((s1.podPut p { x with run := none }).finc PNL_CNT.DONE).event 0x10 0x02 0 (evData p 0))

/-- Has a pod work that may begin in the frame at `t`? -/
def podDue (t : Nat) (x : Pod) : Bool := x.run.isNone && (x.pend.isSome || (x.queue.isSome && decide (x.from_ ≤ t)))

/-- Start a pod's pending or queued work (R496, R500). -/
def State.podStart (s : State) (t p : Nat) : State :=
  let x := s.pod p
  if !podDue t x then s
  else match x.pend with
    | some l =>
      if (s.podSegs p).any (fun i => tabGet dcDflt s.pnl.dc i != 0) then
        s.podPut p { x with run := some ⟨l, [], 0, true⟩, pend := none }
      else match x.queue with
        | some q => s.podPut p { x with run := some (s.runOf p q), pend := none, queue := none }
        | none => s.podPut p { x with run := some (s.runOf p l), pend := none }
    | none => match x.queue with
      | some q => s.podPut p { x with run := some (s.runOf p q), queue := none }
      | none => s

/-- A DC counter after a code (R499); the flag marks a saturation. -/
def dcNext (c : Int) (code : Nat) : Int × Bool :=
  let n := if code = 1 then c + 1 else if code = 2 then c - 1 else c
  (satS 16 n, satS 16 n != n)

/-- Drive one frame of a pod: counters, levels of segments that end, the frame count (R496, R499). -/
def State.podDrive (s : State) (p : Nat) : State :=
  let x := s.pod p
  match x.run with
  | none => s
  | some r =>
    let s1 := (s.podSegs p).zipIdx.foldl (fun s y =>
      let (c, sat) := dcNext (tabGet dcDflt s.pnl.dc y.1) (s.segCode r y.1 y.2)
      let done := !r.balance && decide ((r.waves.getD y.2 []).length ≤ r.n + 1)
      let s' := s.pnlMod (fun q => { q with dc := tabSet dcDflt q.dc y.1 c
                                            lev := if done then tabSet levDflt q.lev y.1 (r.levels.getD y.2 0) else q.lev })
      if sat then s'.fup PNL_STATUS.DC_SAT else s') s
    let s2 := s1.podPut p { x with run := some { r with n := r.n + 1 } }
    if r.balance then s2.finc PNL_BALCNT.FRAMES else s2

/-- Threshold T_b of band `b` (R498, R503). -/
def State.bandT (s : State) (b : Nat) : Int :=
  let n := (b - 1) / 2
  s.fsgn (if b % 2 = 1 then fldAt PNL_BAND.T_LO n else fldAt PNL_BAND.T_HI n)

/-- The band at a frame start (R498). -/
def State.bandStep (s : State) : State :=
  let pt := s.fget PNL_TEMP_CFG.POINT
  if !s.fbit PNL_TEMP_CFG.TEMP_EN || s.ptQual pt != 1 then
    (s.pnlMod (fun q => { q with band := s.fget PNL_CFG.BAND_DEFAULT })).fset PNL_STATUS.TEMP_INVALID 1
  else
    let t := sx 32 (s.ptVal pt)
    let up := maxN ((upTo 8).filter (fun b => b == 0 || decide (s.bandT b ≤ t)))
    let keep := maxN ((upTo 8).filter (fun b => b == 0 || decide (s.bandT b - 10 ≤ t)))
    let b := if s.pnl.band < up then up else min s.pnl.band keep
    ((s.pnlMod (fun q => { q with band := b })).fset PNL_STATUS.TEMP_INVALID 0).fset PNL_TEMP.TEMP (tc 16 t)

/-- The codes of a panel frame, highest segment first (R492). -/
def State.pnlCodes (s : State) : List Byte :=
  ((upTo s.segN).reverse).map (fun i =>
    let p := s.segPod i
    match (s.pod p).run with
    | some r => if p = 255 then 0 else BitVec.ofNat 8 (s.segCode r i ((s.podSegs p).idxOf i))
    | none => 0)

/-- PANEL_FRAME at a whole multiple of 20 ms (R492 to R500). -/
def State.panelFrame (s : State) : State :=
  let t := s.now / 20000000
  if !s.pnlOn || t ≤ s.pnl.lastF then s
  else
    let s1 := (s.pnlMod (fun q => { q with lastF := t })).bandStep
    let pods := tabKeys s1.pnl.pods
    let s2 := pods.foldl State.podEnd s1
    let due := s2.pnlFree && s2.pnl.pods.any (fun x => podDue (t * 20000000) x.2)
    let work := due || s2.pnl.pods.any (fun x => x.2.run.isSome)
    if !s2.pnl.hven then
      if work then ((s2.pnlMod (fun q => { q with hven := true })).send .panel (List.replicate s2.segN 0)).showPnl else s2.showPnl
    else
      let s3 := if due then pods.foldl (fun s p => s.podStart (t * 20000000) p) s2 else s2
      let s4 := s3.send .panel s3.pnlCodes
      let s5 := pods.foldl State.podDrive s4
      (if work then s5 else s5.pnlMod (fun q => { q with hven := false })).showPnl

/-- Drive stops at the end of the panel frame in progress: every pod in a run becomes pending, its segments UNKNOWN
(R500). -/
def State.pnlStop (s : State) : State :=
  let s1 := (tabKeys s.pnl.pods).foldl (fun s p =>
    let x := s.pod p
    match x.run with
    | none => s
    | some r =>
      let s' := (s.podPut p { x with run := none, pend := some r.levels }).finc PNL_CNT.INTERRUPTED
      s'.pnlMod (fun q => { q with lev := (s.podSegs p).foldl (fun t i => tabSet levDflt t i 4) q.lev })) s
  (s1.pnlMod (fun q => { q with hven := false })).showPnl

/-- The driver as it starts after its state was lost (R501). -/
def State.pnlClear (s : State) : State :=
  s.pnlMod (fun q => { q with pods := [], lev := [], dc := [], band := 0, hven := false, ref := none, beyond := 0, crack := false,
                              lastF := 0 })

/-- CRACK_MEASURE at a whole second: the loop resistance in Ω, none when open (R502). -/
def State.crackMeasure (s : State) (r : Option Nat) : State :=
  if !s.pnlOn || !s.fbit PNL_CRK_CFG.CRK_EN then s
  else
    let v := match r with | some x => if x ≤ 30000 then some x else none | none => none
    let s1 := s.fset PNL_CRK.R_LOOP (v.getD 0xFFFF)
    let set (s : State) : State :=
      if s.pnl.crack then s
      else ((s.pnlMod (fun q => { q with crack := true })).pnlStop).alarm 0x10 0x01 0 0
    match v, s.pnl.ref with
    | none, _ => (set s1).showPnl
    | some x, none => ((s1.pnlMod (fun q => { q with ref := some x, beyond := 0 })).fset PNL_CRK.R_REF x).showPnl
    | some x, some f =>
      let off := decide ((Int.ofNat x - Int.ofNat f).natAbs > s1.fget PNL_CRK_CFG.STEP)
      let n := if off then s1.pnl.beyond + 1 else 0
      let s2 := s1.pnlMod (fun q => { q with beyond := n })
      (if n ≥ 2 then set s2 else s2).showPnl

/-- PNL_RESUME (R502). -/
def State.pnlResume (s : State) : State :=
  ((s.pnlMod (fun q => { q with crack := false, ref := none, beyond := 0 })).clearAlarm 0x10 0x01 0).showPnl

end Sys2Proof.Machine
end

