-- ==== Sys2Proof/Machine/Harvest.lean ====
section
/-!
DEFINITION. Harvest triggers (R294, R468 to R470): the command, HARVEST_IN, a safety trip, a HARVEST PDU. The latch is in
Diag.lean.
-/

namespace Sys2Proof.Machine

/-- Write the diagnostics record. -/
def State.diaMod (s : State) (f : DiaSt → DiaSt) : State := { s with dia := f s.dia }

/-- Show the harvests pending (R490). -/
def State.showHarv (s : State) : State := s.fset DIA_HARV.PENDING s.dia.harv.length

/-- Take a harvest into the pending ones; ignored and counted while eight are pending (R470). -/
def State.harvPend (s : State) (h : Harv) : State :=
  if s.dia.harv.length ≥ 8 then s.finc DIA_HARV.IGNORED
  else (s.diaMod (fun d => { d with harv := d.harv ++ [h] })).showHarv

/-- The HARVEST payload (R294). -/
def harvBytes (at_ id node cause : Nat) : List Byte :=
  leBytes 8 at_ ++ leBytes 4 id ++ leBytes 2 node ++ leBytes 1 cause ++ [0]

/-- A local trigger at instant `t` (R469). -/
def State.harvLocal (s : State) (t id cause : Nat) : State :=
  if s.sys.yd || s.dia.harv.length ≥ 8 then (if s.sys.yd then s else s.finc DIA_HARV.IGNORED)
  else if s.fbit NET_PIER_CFG.HARV_SEND then
    let at_ := t + s.fget NET_PIER_CFG.HARV_LEAD * 1000000
    (s.harvPend ⟨at_, id, s.ownNode, cause, 4⟩).pierSend pduHarvest s.time.frame (harvBytes at_ id s.ownNode cause)
  else s.harvPend ⟨t, id, s.ownNode, cause, 0⟩

/-- A safety trip has set the first latch of the frame (R468): at most one harvest per frame. -/
def State.harvTrip (s : State) : State :=
  if s.dget DIA_CFG.ON_TRIP = 0 || s.dia.tripFrame == some s.time.frame then s
  else (s.diaMod (fun d => { d with tripFrame := some s.time.frame })).harvLocal s.now (s.time.frame % 2 ^ 32) 2

/-- HARVEST_IN: accepted 100 ns after its rise; DIA_HARV_ID then rises by one (R468). -/
def State.harvestIn (s : State) : State :=
  if s.sys.yd || !s.clocked || s.dget DIA_CFG.HIN_EN = 0 then s
  else
    let id := s.fget DIA_HARV_ID.ID
    let s1 := s.harvLocal (s.now - 100) id 1
    let s2 := s1.fset DIA_HARV_ID.ID (id + 1)
    { s2 with diaF := tabSet regReset s2.diaF aDIA_HARV_ID (s2.reg aDIA_HARV_ID) }

/-- HARVEST_PDU_RX (R294, R470): the repeat of an origin and ID within 10 s, and an instant more than 1 s ahead, are
ignored. -/
def State.harvestRx (s : State) (via : Via) (bs : List Byte) : State :=
  match s.pduIn via pduHarvest bs with
  | (s1, none) => s1
  | (s1, some p) =>
    let b := p.payload
    let (at_, id, org, cause) := (uAt 8 b 0, uAt 4 b 8, uAt 2 b 12 % 1024, byteAt b 14)
    let s2 := s1.stagePdu (s.stampIn via.port) bs
    let known := s2.net.harvIds.filter (fun x => decide (s2.now ≤ x.2.2 + 10000000000))
    if cause > 2 || known.any (fun x => x.1 == org && x.2.1 == id) then s2
    else
      let s3 := { s2 with net := { s2.net with harvIds := known ++ [(org, id, s2.now)] } }
      if s3.now + 1000000000 < at_ then s3.finc DIA_HARV.IGNORED
      else s3.harvPend ⟨at_, id, org, cause, (if at_ < s3.now then 1 else 0) + 2⟩

end Sys2Proof.Machine
end

