-- ==== Sys2Proof/Machine/Trestle.lean ====
section
/-!
DEFINITION. The trestle (R30 to R34, R118, R161, R287, R288): dispatch, failure events and their promotion (R163 to R166),
STATUS PDUs (R291).
-/

namespace Sys2Proof.Machine

/-- Does the unit run frame work (R97, R279)? Not while it catches up (R209). -/
def State.runs (s : State) : Bool :=
  s.pwr == .run && s.sys.held.isNone && !s.sys.yd && s.time.inFrame
    && s.red.catchB.isNone
    && (s.op == .ready || s.op == .standby || s.op == .active || s.op == .degraded || s.op == .safe)

/-! ## Commands of a slot (R31, R287, R288) -/

/-- The streams this unit commands, in thruster order; a ZONE unit commands its starved piers only (R204). -/
def State.streams (s : State) : List (Nat × ThrCfg) :=
  s.thrIdx.filterMap (fun i => match s.thr i with
    | some c => if s.role == .zone && !s.zoneOk c.node then none else some (i, c)
    | none => none)

/-- APPLY_AT of a command of frame `k` (R31). -/
def State.applyAtNs (s : State) (k : Nat) (c : ThrCfg) : Nat := s.fOf (k + 1) + c.off * 1000

/-- A COMMAND entry of frame `k` (R287, R288). -/
def State.entryOf (s : State) (k ver : Nat) (rel : Bool) (o : SlotOut) (i : Nat) (c : ThrCfg) : ActCmd :=
  ⟨c.act, ver, b2n rel, c.endA, s.applyAtNs k c, if rel then 0 else o.t.getD i 0, if rel then 0 else o.ang.getD i 0,
    c.holdT, c.rampT⟩

/-- One COMMAND PDU per destination node, in rising node order (R287); SF4 sees them leave a port in use with its link up (R228). -/
def State.cmdSend (s : State) (k slot stat : Nat) (es : List (Nat × ActCmd)) : State :=
  let nodes := es.foldl (fun l e => if l.contains e.1 then l else insSorted e.1 l) []
  let s1 := nodes.foldl (fun s n =>
    s.pierSend pduCommand k (commandBytes n slot stat (s.fget TIM_SUP_CFG.GUARD) (s.time.period * 1000)
      ((es.filter (fun e => e.1 == n)).map (·.2)))) s
  if nodes.isEmpty || s.pierPorts.all (fun n => !s.fbit (fldAt NET_PORT_STAT.LINK n)) then s1
  else { s1 with saf := { s1.saf with cmdK := some k } }

/-- The recorder's OUTPUT entry: APPLY_AT, THRUST, ANGLE, VERSION, SLOT, STAT of each command (R473). -/
def outputBytes (slot stat : Nat) (es : List ActCmd) : List Byte :=
  es.flatMap (fun e => leBytes 8 e.applyAt ++ leBytes 4 e.t.toNat ++ leBytes 4 e.ang ++ leBytes 1 e.ver ++ leBytes 1 slot
    ++ leBytes 2 stat)

/-- Note a promotion sent (R166, R171). -/
def State.promoNote (s : State) (k slot : Nat) (sup : Bool) : State :=
  let s1 := (((s.fset SLV_PROMO.FRAME k).fput SLV_PROMO.SUPERSEDE sup).fset SLV_PROMO.SLOT slot).fup SLV_STATUS.PROMOTED
  (s1.fcount SLV_CNT2.PROMO 1).event 0x06 0x01 0 (evData slot (b2n sup))

/-- Count a failure event without promotion (R164). -/
def State.promoMiss (s : State) : State :=
  ((s.fcount SLV_CNT2.PROMO_MISS 1).fup SLV_STATUS.PROMO_MISS).event 0x06 0x02 1 (evData 0 0)

/-! ## Dispatch (R28, R161, R165) -/

/-- The slot a frame dispatches: the promotion that can be promoted, else S0; none where S0 has not passed (R161, R227). -/
def AllocSt.pick (a : AllocSt) : Option Nat :=
  if !(bit a.pass 0) then none
  else match a.promo with
    | some i => if a.promotable i then some i else some 0
    | none => some 0

/-- DISPATCH of frame `k`: COMMAND PDUs of the chosen slot, version 0. -/
def State.dispatchRun (s : State) (a : AllocSt) : State :=
  match a.pick with
  | none => s
  | some i =>
    let rel := a.released
    let o := a.result i
    let stat := if rel then stNotRun else (a.slots.getD i slotIdle).stat
    let es := s.streams.map (fun p => (p.2.node, s.entryOf a.k 0 rel o p.1 p.2))
    let sent : List Sent := s.streams.map (fun p =>
      let e := s.entryOf a.k 0 rel o p.1 p.2
      ⟨p.1, 0, e.t, e.ang⟩)
    let promoted := i != 0
    let a1 := { a with sent := some i, first := true, cmds := sent, promoted := promoted, promo := none }
    let base := (upTo 32).map (fun t =>
      if rel || !bit a.thr t then none else some (o.t.getD t 0, o.ang.getD t 0))
    let s1 := (s.cmdSend a.k i stat es).allocPut a1
    let s2 := (s1.slvMod (fun x => { x with base := base })).stage 5 1 (outputBytes i stat (es.map (·.2)))
    if promoted then s2.promoNote a.k i false
    else if a.promo.isSome then s2.promoMiss else s2

/-- The DISPATCH window of the frame in progress, 0.70 P to 0.80 P, on a unit that may dispatch (R28, R174). -/
def State.dispatchDue (s : State) (a : AllocSt) : Bool :=
  s.runs && s.dispatches && a.started && a.compared && a.sent.isNone
    && decide (s.atPct a.k 70 ≤ s.now) && decide (s.now ≤ s.atPct a.k 80)

/-! ## Failure events (R163 to R166, R34) -/

/-- The commands of a supersede: the streams whose command differs between what was sent and the promoted slot. -/
def State.supSet (s : State) (a : AllocSt) (i : Nat) : List (Nat × ThrCfg) :=
  let o := a.result i
  s.streams.filter (fun p => match a.cmds.find? (fun c => c.thr == p.1) with
    | some c => c.t != o.t.getD p.1 0 || c.ang != o.ang.getD p.1 0
    | none => true)

/-- tau_app and the not-achieved flags of a dispatched allocation (R103, R109, R160); the checkpoint of the frame in progress follows, a
propagation already made stands (DEDUCED, log 245). -/
def State.tauPut (s : State) (a : AllocSt) (i : Nat) : State :=
  let (tau, fl) := s.tauOf a
  ({ s with cex := { s.cex with tauApp := tau, notAch := (a.result i).notAch, ckpts := s.cex.ckpts.map (fun (c : Ckpt) =>
      if c.frame = s.time.frame then { c with tauApp := tau } else c) } }).satFlags (s.fget CEX_ASSIGN.OBS) fl

/-- The version of the next supersede of a frame (R32). -/
def AllocSt.nextVer (a : AllocSt) : Nat := if a.supd then a.sup / 16 + 1 else 1

/-- SUPERSEDE, all or nothing (R34): every stream of the set passes TIME_NS at or below apply-at - G - MG. The flag says
that the set was sent. -/
def State.supersede (s : State) (a : AllocSt) (i : Nat) : State × Bool :=
  let set := s.supSet a i
  let lim := (s.fget TIM_SUP_CFG.GUARD + s.fget TIM_SUP_CFG.MARGIN) * 1000
  if set.isEmpty || a.nextVer ≥ 256 || !(set.all (fun p => decide (s.now + lim ≤ s.applyAtNs a.k p.2))) then (s, false)
  else
    let o := a.result i
    let v := a.nextVer
    let stat := (a.slots.getD i slotIdle).stat
    let es := set.map (fun p => (p.2.node, s.entryOf a.k v false o p.1 p.2))
    let cmds := a.cmds.map (fun c =>
      if set.any (fun p => p.1 == c.thr) then { c with ver := v, t := o.t.getD c.thr 0, ang := o.ang.getD c.thr 0 } else c)
    let a1 := { a with cmds := cmds, sup := i + 16 * v, supd := true }
    let base := (s.slv.base.zipIdx).map (fun p =>
      if p.1.isSome && set.any (fun q => q.1 == p.2) then some (o.t.getD p.2 0, o.ang.getD p.2 0) else p.1)
    let s1 := ((s.cmdSend a.k i stat es).allocPut a1).slvMod (fun x => { x with base := base })
    let s2 := if a.k + 1 = s1.time.frame then s1.tauPut a1 i else s1
    ((s2.stage 5 1 (outputBytes i stat (es.map (·.2)))).promoNote a.k i true, true)

/-- One allocation at a failure event (R164, R165): before its first COMMAND PDU the match waits for the dispatch, after it
the match is superseded; the flag says that a promotion waits or was sent. -/
def State.failAlloc (s : State) (u w : Nat) (a : AllocSt) : State × Bool :=
  let m := a.matchSlot u w
  if a.sent.isNone then
    if a.k = s.time.frame then (s.allocPut { a with promo := m }, m.isSome) else (s, false)
  else match m with
    | some i => if a.promotable i && !a.released then s.supersede a i else (s, false)
    | none => (s, false)

/-- FAILURE_EVENT with the thrusters and sections lost by it (R163, R164). -/
def State.failEvent (s : State) (lost sLost : Nat) : State :=
  let s1 := s.slvMod (fun x => { x with lost := x.lost ||| lost, sLost := x.sLost ||| sLost })
  if !s1.dispatches then s1
  else match s1.slv.allocs with
    | [] => s1
    | a :: _ =>
      let (u, w) := s1.uPrime a s1.slv.lost s1.slv.sLost
      let open_ := s1.slv.allocs.filter (fun x => decide (s1.time.frame ≤ x.k + 1))
      let (s2, ok) := open_.foldl (fun (p : State × Bool) x =>
        let (s', b) := p.1.failAlloc u w x
        (s', p.2 || b)) (s1, false)
      if ok then s2 else s2.promoMiss

/-- The command paths of the thrusters of a mask have been retired: a failure event where the newest snapshot holds one available (R163). -/
def State.pathsLost (s : State) (m : Nat) : State :=
  let s1 := s.slvMod (fun x => { x with deadPath := x.deadPath ||| m })
  match s1.slv.allocs with
  | [] => s1
  | a :: _ =>
    let lost := m &&& a.thr &&& (2 ^ 32 - 1 - s1.slv.lost)
    if !s1.runs || lost = 0 then s1 else s1.failEvent lost 0

/-! ## STATUS PDUs (R291 to R293) -/

/-- Replace the entry of a key. -/
def putKey {α : Type} (l : List (Nat × α)) (k : Nat) (v : α) : List (Nat × α) := l.filter (fun p => p.1 != k) ++ [(k, v)]

/-- The thruster of a node and actuator. -/
def State.thrAt (s : State) (node act : Nat) : Option Nat :=
  s.thrIdx.find? (fun i => match s.thr i with | some c => c.node == node && c.act == act | none => false)

/-- Thrusters and sections that a STATUS reports lost and the newest snapshot holds available (R163). -/
def State.statLost (s : State) (x : StatIn) : Nat × Nat :=
  match s.slv.allocs with
  | [] => (0, 0)
  | a :: _ =>
    if byteAt x.bytes 0 = 0 then
      ((thrEntries x.bytes).foldl (fun m e => match s.thrAt x.node e.act with
        | some i => if e.state ≠ 0 ∧ bit a.thr i ∧ !bit s.slv.lost i then m ||| 2 ^ i else m
        | none => m) 0, 0)
    else if byteAt x.bytes 0 = 1 then
      (0, (powEntries x.bytes).foldl (fun m e => match s.obj 0x04 e.1 with
        | some b => if uAt 2 b 0 = x.node ∧ e.2.1 ≠ 0 ∧ bit a.sect e.1 ∧ !bit s.slv.sLost e.1 then m ||| 2 ^ e.1 else m
        | none => m) 0)
    else (0, 0)

/-- STATUS_PDU_RX: the indications (R290), the PDU for the next snapshot, a failure event (R163). -/
def State.statusRx (s : State) (via : Via) (bs : List Byte) : State :=
  match s.pduIn via pduStatus bs with
  | (s1, none) => s1
  | (s1, some p) =>
    let b := p.payload
    if b.length < 8 ∨ uAt 2 b 6 + 8 ≠ b.length ∨ byteAt b 0 > 3 ∨ (byteAt b 0 = 2 ∧ 64 < uAt 2 b 6) then s1
    else if byteAt b 0 = 3 then s1.noteEpoch p.epoch
    else
      let k := s1.time.frame
      let x : StatIn := ⟨p.node, s1.now, expandFrame k p.frame, p.epoch, b⟩
      let fl := byteAt b 1
      let sr := if byteAt b 0 = 2 then s1.stagePdu (s.stampIn via.port) bs else s1
      let s2 := (sr.noteEpoch p.epoch).redMod (fun r => { r with
        piers := putKey r.piers p.node k
        silent := if bit fl 0 then putKey r.silent p.node s1.now else r.silent
        starved := if bit fl 1 then putKey r.starved p.node p.epoch else r.starved.filter (fun q => q.1 != p.node)
        pierEpoch := putKey r.pierEpoch p.node p.epoch
        thrStat := if byteAt b 0 = 0 then some k else r.thrStat
        inbox := if byteAt b 0 ≤ 1 then r.inbox.filter (fun q => q.node != p.node || byteAt q.bytes 0 != byteAt b 0) ++ [x]
          else r.inbox })
      let (lost, sLost) := s2.statLost x
      let s3 := s2.holderLinks
      if s3.runs && (lost != 0 || sLost != 0) then s3.failEvent lost sLost else s3

end Sys2Proof.Machine
end

