-- ==== Sys2Proof/Machine/Frame.lean ====
section
/-!
DEFINITION. The frame: its boundary (R23 to R27), the work at the boundary, CUTOFF (R42, R115, R163, R177), following a
manifest (R182 to R184), the phases and their late outcomes (R28, R29, R96).
-/

namespace Sys2Proof.Machine

/-- Change the time record. -/
def State.timeMod (s : State) (f : TimeSt → TimeSt) : State := { s with time := f s.time }

/-- Do frame boundaries occur: in RUN and HARBOUR outside BOOT (R279). -/
def State.bounds (s : State) : Bool := s.clocked && !s.sys.yd && s.op != .boot

/-! ## The boundary (R23 to R27) -/


/-- Abandon a retrodiction pass that has not finished (R51). -/
def State.retroAbort (s : State) : State :=
  if s.cex.retroRun.isSome then
    (((s.cexMod (fun c => { c with retroRun := none })).fcount TIM_CNT_RETRO.ABORT 1).fup TIM_STATUS.RETRO_ABORT).event 0x02 0x06 1
      (evData 0 0)
  else s

/-- A speculative MPC run that a step discards is counted as under R45 (R47). -/
def State.specLost (s : State) : State :=
  match s.slv.mpc with
  | some m => if m.spec then s.fcount TIM_CNT_SPEC.DISCARD 1 else s
  | none => s

/-- TIME_STEP at the edge that would have produced F(k): N frames are added (R24, R41, R47, R51). A pass still running there has
not finished by F(k). -/
def State.timeStep (s : State) (k n : Nat) : State :=
  let add := n * s.pNs
  let s0 := (s.retroAbort.specLost).leakTo ((s.fOf k - 1) / 1000000)
  let s1 := s0.timeMod (fun t => { t with
    ns := BitVec.ofNat 64 (t.ns.toNat + add), armed := none, stepNs := (k + n) * s.pNs, slewAdded := t.slewAdded + Int.ofNat (add * 2 ^ 32),
    moved := t.moved + Int.ofNat (add * 2 ^ 32), steps := t.steps + add / 1000000 })
  let s2 := (((s1.leakJump.instMove (Int.ofNat add)).fup TIM_STATUS.STEPPED).fset TIM_STEP_LOG.SKIPPED n).stepCtxs add
  let s3 := s2.fcount TIM_CNT_RETRO.MISS s2.retro.length
  let s4 := ({ s3 with retro := [] }).cexMod (fun c => { c with ckpts := [], retroRun := none, retroRes := none, retroX := none })
  let s5 := (s4.mpcDrop).ledger 0x0010 (leBytes 4 k ++ leBytes 4 (k + n))
  let s6 := s5.event 0x02 0x01 0 (leBytes 8 k ++ leBytes 8 (k + n))
  let r := s6.net.ptp.stepR
  if r = 0 then s6 else (s6.ptpMod (fun p => { p with stepR := 0 })).slewReq r s6.slewRateNow

/-- The frame configuration in force from the boundary at `at_` (R27): PERIOD at a whole multiple of 20 ms, CUTOFF and RETRO_H at
once; G within 0.2 P (R33). -/
def State.loadFrameCfg (s : State) (at_ : Nat) : State :=
  let p := periodMs (s.fget TIM_FRAME_CFG.PERIOD)
  let np := if at_ % 20000000 = 0 then p else s.time.period
  let s1 := s.timeMod (fun t => { t with period := np, cutoff := s.fget TIM_FRAME_CFG.CUTOFF, retroH := s.fget TIM_FRAME_CFG.RETRO_H })
  if np = s.time.period then s1
  else if s1.fget TIM_SUP_CFG.GUARD > np * 200 then s1.fset TIM_SUP_CFG.GUARD (np * 200) else s1

/-! ## Engines at the boundary (R7, R96, R97, R137) -/

/-- Engine `e` returns to service at a boundary (R7, R486); a control engine takes up work where work is placed. -/
def State.engReturn (s : State) (e : Nat) (work : Bool) : State :=
  let s1 := (s.fltPut 4 e fltOk).showRet 4 e false
  if 3 ≤ e ∧ e < 7 then
    let s2 := (s1.fset CEX_ASSIGN.RETIRED (putBits (s1.fget CEX_ASSIGN.RETIRED) (e - 3) 1 0)).retCleared 4 e
    if work then s2.cePlace else s2.cexMod (fun c => { c with moving := true })
  else s1.retCleared 4 e

/-- Control engines that return, work that moves, DEGRADED (R7, R96, R97): wherever frame work runs, in SAFE too, whose operating state
stays. -/
def State.engBoundary (s : State) : State :=
  let work := s.op == .ready || s.op == .standby || s.op == .active || s.op == .degraded || s.op == .safe
  let s1 := s.cex.returning.foldl (fun s e => s.engReturn e work) (s.cexMod (fun c => { c with returning := [] }))
  if !work then s1
  else
    let s2 := if s1.cex.moving then (s1.cexMod (fun c => { c with moving := false })).cePlace else s1
    let s3 := s2.fput CEX_ASSIGN.DEGRADED (decide (s2.ceLive.length ≤ 2))
    let s4 := if s3.role == .none || s3.op == .safe then s3 else { s3 with op := s3.opFor s3.role }
    s4.alarmLevel 0x05 0x02 0 (decide (s4.ceLive.length ≤ 2))

/-- A unit that lacks engines or made a unit-local trip enters SAFE at the boundary (R199, R97, R137, R232). -/
def State.safeDue (s : State) : State :=
  if s.red.safeDue && (s.op == .ready || s.op == .standby || s.op == .active || s.op == .degraded) then s.toSafe else s

/-! ## What the ended frame leaves (R159, R160, R109) -/

/-- A unit that does not dispatch takes a stream it has not observed from its own result; for a standby the frame that
builds on it is unfollowable (R159). -/
def State.settle (s : State) (k : Nat) : State :=
  if s.dispatches then s
  else match s.allocOf k with
    | none => s
    | some a =>
      if !a.started then s
      else
        let i := a.sent.getD (match a.promo with | some p => if a.promotable p then p else 0 | none => 0)
        let o := a.result i
        let miss := (bitIdx 32 a.thr).filter (fun t => !(s.red.obs.any (fun x => x.frame == k && x.thr == t)))
        let rel := a.released
        let base := (upTo 32).map (fun t =>
          if !bit a.thr t then none
          else if miss.contains t then (if rel then none else some (o.t.getD t 0, o.ang.getD t 0))
          else s.slv.base.getD t none)
        let s1 := (s.slvMod (fun x => { x with base := base })).allocPut { a with sent := some i }
        if miss.isEmpty || s.role != .standby then s1 else s1.markUnfol (k + 1)

/-- tau_app and the not-achieved flags from the allocation whose commands apply from this boundary (R103, R109, R160). A
frame without dispatch leaves the force of the commands that stand. -/
def State.tauTake (s : State) (k : Nat) : State :=
  match s.allocOf k with
  | none => s
  | some a =>
    match a.sent with
    | none => s
    | some i => s.tauPut a (if a.supd then a.sup % 16 else i)

/-- Turn the redundancy record to the new frame. -/
def State.redTurn (s : State) : State :=
  s.redMod (fun x => { x with
    latePrev := x.late, late := 0, following := false, fctx := [],
    prevMan := match x.man with | some m => manBytes (s.fOf m.frame) m | none => x.prevMan,
    man := none, cmds := [], used := [], obs := x.obs.filter (fun o => decide (s.time.frame ≤ o.frame + 66)) })

/-- A match that waited for the dispatch of a frame that was withheld is no promotion (R164). -/
def State.promoEnd (s : State) (k : Nat) : State :=
  match s.allocOf k with
  | some a => if s.dispatches && a.sent.isNone && a.promo.isSome then (s.allocPut { a with promo := none }).promoMiss else s
  | none => s

/-- Begin frame `k`: what the ended frame leaves, engines, the deferred propagation, refined values (R23, R64, R83, R96). -/
def State.beginFrame (s : State) (k : Nat) : State :=
  let ended := s.time.frame
  let s1 := if s.runs then ((s.applyAt .next).promoEnd ended).settle ended else s
  let s2 := (s1.planWatch ended).retroAbort
  let s3 := (s2.redTurn.timeMod (fun t => { t with frame := k, inFrame := true, cutDone := false })).fset TIM_FRAME_NUM.FRAME k
  let s4 := (s3.safeDue).engBoundary
  if !s4.runs then s4
  else
    let s5 := if s4.cex.propOwed then s4.obsProp else s4
    let s6 := (s5.tauTake ended).fusBoundary
    let s7 := { s6 with retro := s6.retro.filter (fun r => decide (s6.time.frame ≤ r.frame + 8)
      && (!s6.follows || r.listed || decide (k ≤ r.frame))) }
    s7.mpcClose.mpcStart.holderLinks

/-- FRAME_BOUNDARY without what other chapters add: the number of the frame, a step at an armed boundary (R23, R24). -/
def State.frameTurn (s : State) : State :=
  let k0 := s.now / s.pNs
  let s1 := match s.time.armed with
    | some (ka, n) => if ka ≤ k0 then s.timeStep ka n else s
    | none => s
  let s2 := s1.loadFrameCfg (s1.now / s1.pNs * s1.pNs)
  s2.beginFrame (s2.now / s2.pNs)

/-- Is a boundary due: boundaries run and TIME_NS has reached a frame that has not begun (R23). -/
def State.boundDue (s : State) : Bool := s.bounds && decide (s.time.frame < s.now / s.pNs)

/-- BOOT ends: the values last written are all in force, and the frame that TIME_NS lies in has no boundary; the first is that of
the next (R23, R27, R279). In YD-22 mode the period is 20 ms (R414). -/
def State.framesBegin (s : State) : State :=
  let s1 := if s.sys.yd then s.timeMod (fun t => { t with period := 20 }) else s.loadFrameCfg 0
  s1.timeMod (fun t => { t with frame := s1.now / s1.pNs, inFrame := false, cutDone := false })

/-! ## Command paths (R484, class 5) -/

/-- Did LATE_CMD of a node rise (R484)? -/
def State.lateRose (s : State) (x : StatIn) : Bool :=
  match s.red.lateCmd.find? (fun p => p.1 == x.node) with
  | some p => decide (0 < sx 16 (tc 16 (Int.ofNat (uAt 2 x.bytes 4) - Int.ofNat p.2)))
  | none => false

/-- The thrusters whose listed STATUS shows the last due command not applied, or LATE_CMD risen. -/
def State.badPaths (s : State) : Nat :=
  let k := s.time.frame
  let due := match s.allocOf (k - 2) with | some a => a.sent.isSome | none => false
  s.red.used.foldl (fun m x =>
    if byteAt x.bytes 0 ≠ 0 then m
    else
      let rose := s.lateRose x
      (thrEntries x.bytes).foldl (fun m e =>
        let miss := due && decide (sx 32 (tc 32 (Int.ofNat e.applied - Int.ofNat (k - 2))) < 0)
        match s.thrAt x.node e.act with
        | some i => if rose || miss then m ||| 2 ^ i else m
        | none => m) m) 0

/-- Judge the command paths on the listed STATUS PDUs; the paths retired so are one failure event (R163). -/
def State.judgePaths (s : State) : State :=
  let bad := s.badPaths
  let seen := s.red.used.filter (fun x => byteAt x.bytes 0 == 0)
  let s1 := s.redMod (fun r => { r with lateCmd := seen.foldl (fun l x =>
    (l.filter (fun p => p.1 != x.node)) ++ [(x.node, uAt 2 x.bytes 4)]) r.lateCmd })
  let (s2, dead) := (bitIdx 32 bad).foldl (fun (p : State × Nat) i =>
    let (s', ret) := p.1.fltErr 5 i
    (s', if ret then p.2 ||| 2 ^ i else p.2)) (s1, 0)
  s2.pathsLost dead

/-! ## CUTOFF (R42, R49, R115, R163, R177) -/

/-- Keep the checkpoint of the frame: the buffers as they stand, the fusion and observer state it starts from (R49). -/
def State.ckptPush (s : State) (ctx : Tab Ctx) : State :=
  let c : Ckpt := ⟨s.time.frame, ctx, s.fus, s.cex.obs, s.cex.tauApp, s.cex.obs.pred, s.fus.last⟩
  s.cexMod (fun x => { x with ckpts := lastN s.time.retroH (x.ckpts ++ [c]) })

/-- Keep what a later derivation of the frame starts from (R184, R96). -/
def State.redoPush (s : State) : State :=
  s.redMod (fun x => { x with redo := lastN 2 (x.redo ++ [⟨s.time.frame, s.fus, s.cex, x.cmds, none⟩]) })

/-- Inputs taken: snapshot, scenario, exclusion and alignment commands, the checkpoint with the alignment they leave (R91), set-point
commands, the profile step (R163, R400, R120). -/
def State.afterInputs (s : State) (ctx : Tab Ctx) : State :=
  let s1 := ((s.applyAt .snapshot).ckptPush ctx).zoneJoin.snapshot s.time.frame
  let s2 := s1.redoPush.applyAt .profile
  if s2.ceLive.contains (s2.fget CEX_ASSIGN.PROF) then s2.profileStep
  else s2.profileLate.redMod (fun x => { x with late := x.late ||| 8 })

/-- The frame on the unit's own inputs: samples, STATUS PDUs and, for a holder, its host commands. -/
def State.ownInputs (s : State) : State :=
  let s1 := if s.dispatches then s.listCmds else s
  let s2 := (s1.listStats).judgePaths
  s2.afterInputs s2.ctx

/-- MANIFEST_SEAL: the holder seals, records and sends its main part (R177, R473). -/
def State.manifestSeal (s : State) : State :=
  let m := s.manOwn
  let k := s.time.frame
  let s1 := s.manSend k (manSegs (s.fOf k) m 0 0 (manEntries m))
  (s1.stage 1 1 (manBytes (s.fOf k) m)).redMod (fun x => { x with man := some m, mpcSent := none })

/-! ## Following (R182 to R184) -/

/-- Correct, commit and propagate on the inputs of a frame derived again. -/
def State.rederiveRun (s : State) (flags : Nat) : State :=
  let s1 := s.applyAt .profile
  let s2 := if bit flags 3 then s1.profileLate else s1.profileStep
  let s3 := if bit flags 0 then s2.fuseLate else s2.fuse false
  let s4 := if bit flags 1 then s3.obsLate else s3.obsCommit
  let s5 := s4.applyAt .capture
  let s6 := if bit flags 2 then s5.controlLate else s5.controlLaw
  s6.obsProp

/-- Flags of CEX_SAT that a calculation in a scratch copy `t` of the state set (R13, R101). -/
def State.satFrom (s t : State) : State := (upTo 4).foldl (fun s n => s.satFlags n (t.fget (fldAt CEX_SAT.SAT n))) s

/-- Derive frame k-1 again by the outcome the holder had: the state carried from frame to frame is taken, with what the boundary since
has changed in it: re-admissions, SET_AUTOREADMIT, a refinement minute (R184, R92, R93). -/
def State.rederive (s : State) (flags : Nat) : State :=
  let j := s.time.frame - 1
  if flags % 16 = 0 ∧ !bit flags 11 then s
  else match s.red.redo.find? (fun r => r.frame == j), s.cex.ckpts.find? (fun c => c.frame == j) with
    | some r, some c =>
      let t := ({ s with fus := r.fus, cex := r.cex, ctx := c.ctx }).timeMod (fun t => { t with frame := j })
      let t1 := (((t.redMod (fun x => { x with cmds := r.cmds, following := false })).rederiveRun flags).applyAt .next).fusBoundary
      let t2 := ({ t1 with time := s.time }).refineAt
      { s.satFrom t1 with
               fus := { t2.fus with imgBad := s.fus.imgBad, imgNew := s.fus.imgNew }
               cex := { t1.cex with tauApp := s.cex.tauApp, notAch := s.cex.notAch, mpc := s.cex.mpc, ckpts := s.cex.ckpts,
                                    returning := s.cex.returning, moving := s.cex.moving, retroRun := s.cex.retroRun,
                                    retroRes := s.cex.retroRes } }
    | _, _ => s

/-- Do checkpoints hold a retrodicted sample, in the buffers of its frame e (R49)? -/
def retroHeld (pNs : Nat) (cks : List Ckpt) (r : RetroS) : Bool :=
  cks.any (fun c => Int.ofNat c.frame == r.s.t.fdiv (Int.ofNat pNs) && (tabGet ctxDflt c.ctx r.ctx).buf.any (fun y => y.t == r.s.t))

/-- A pass applied: its checkpoints and the observer's next starting state (R49, R50). The samples its checkpoints hold leave the
history; the others stay for a later pass that re-runs their frames (R51). -/
def State.retroTake (s : State) (cks : List Ckpt) (x : ObsX) : State :=
  ({ (s.cexMod (fun c => { c with ckpts := cks, retroX := some x })) with
    retro := s.retro.filter (fun r => decide (s.time.frame < r.frame) || !retroHeld s.pNs cks r) }).fcount TIM_CNT_RETRO.APPLIED 1

/-- Adopt a pass the holder applied, or drop it (R52). -/
def State.retroAdopt (s : State) (applied : Bool) : State :=
  match s.cex.retroRes with
  | some (cks, x) =>
    let s1 := s.cexMod (fun c => { c with retroRes := none })
    if applied then s1.retroTake cks x else s1
  | none => s

/-- The step a manifest of the holder announces: the unit applies it at that boundary and no other (R25). One whose boundary has passed
arms nothing, and a manifest of an earlier frame takes back nothing a later one announced. -/
def State.stepNote (s : State) (m : Manifest) : State :=
  if s.role.holds then s
  else s.timeMod (fun t =>
    let at_ := expandFrame t.frame m.stepAt
    { t with armed := if bit m.flags 7 then (if t.frame < at_ then some (at_, m.stepN) else t.armed)
                      else if t.frame ≤ expandFrame t.frame m.frame then none else t.armed })

/-- The frame in progress followed on its main part (R182 to R184). -/
def State.followFrame (s : State) (m : Manifest) : State :=
  let k := s.time.frame
  let s1 := (if m.flags % 16 ≠ 0 ∨ bit m.flags 11 then s.markUnfol (k - 1) else s).conclude (k - 1)
  let s2 := (s1.rederive m.flags).retroAdopt (bit m.flags 6)
  let ctx := s2.followCtx m
  let used : List StatIn := m.stats.map (fun e => ⟨e.1, s2.now, k, 0, e.2⟩)
  let s3 := s2.redMod (fun x => { x with following := true, man := some m, fctx := ctx, cmds := m.cmds, used := used, inbox := [] })
  let s4 := (used.foldl (fun s x => s.statTake k x) s3).judgePaths
  let s5 := match m.mpc with | some e => s4.mpcListed e | none => s4
  let s6 := s5.afterInputs ctx
  s6.stage 1 0 (manBytes (s.fOf k) m)

/-- A main part not complete by CUTOFF + 0.05 P: the frame is unfollowable, the comparison of the frame before concludes,
own samples are used, with the values they form now, and a refresh is requested (R182, R185 to R187). -/
def State.unfollow (s : State) : State :=
  let k := s.time.frame
  let s1 := (((s.reform k).markUnfol k).conclude (k - 1)).retroAdopt false
  let s2 := (s1.ownInputs).reqImage
  let m := s2.manOwn
  (s2.stage 1 1 (manBytes (s.fOf k) m)).redMod (fun x => { x with man := some m })

/-- CUTOFF of the frame in progress. -/
def State.cutoffRun (s : State) : State :=
  let k := s.time.frame
  let s1 := ((s.formAll k).timeMod (fun t => { t with cutDone := true })).mpcCommit
  if s1.follows then
    match s1.red.nextMan with
    | some m =>
      let s2 := s1.redMod (fun x => { x with nextMan := none })
      if m.frame = k then s2.followFrame m else s2
    | none => s1
  else
    let s2 := ((s1.holderJudge).conclude (k - 1)).ownInputs
    if s2.dispatches then s2.manifestSeal else s2

/-- Is CUTOFF of the frame in progress due. -/
def State.cutDue (s : State) : Bool :=
  s.runs && !s.time.cutDone && decide (s.atPct s.time.frame s.time.cutoff ≤ s.now)

/-- A main part of a frame has been completed: one not complete by CUTOFF + 0.05 P is not followed (R182). -/
def State.manComplete (s : State) (m : Manifest) : State :=
  if !s.follows || !s.runs then s
  else if m.frame = s.time.frame && s.time.cutDone && s.red.man.isNone then
    if s.now ≤ s.atPct m.frame (s.time.cutoff + 5) then s.followFrame m else s
  else if s.time.frame ≤ m.frame && s.red.man.isNone || decide (s.time.frame < m.frame) then
    s.redMod (fun x => { x with nextMan := some m })
  else s

/-- Is MANIFEST_TIMEOUT due: a standby without the main part at CUTOFF + 0.05 P (R182). -/
def State.manTimeout (s : State) : Bool :=
  s.runs && s.follows && s.time.cutDone && s.red.man.isNone
    && decide (s.atPct s.time.frame (s.time.cutoff + 5) ≤ s.now)

end Sys2Proof.Machine
end

