-- ==== Sys2Proof/Machine/Phases.lean ====
section
/-!
DEFINITION. The phases of a frame after CUTOFF (R28, R94), late phases (R29, R96), retrodiction (R48 to R52), what is sent
and recorded at the end of a frame (R170, R177, R292), refinement at the minute (R62), the health report (R212, R213).
-/

namespace Sys2Proof.Machine

/-! ## Windows (R28, R182) -/

/-- Has the instant `h` hundredths into the frame been reached? -/
def State.past (s : State) (h : Nat) : Bool := decide (s.atPct s.time.frame h ≤ s.now)
/-- Is TIME_NS at or before the instant `h` hundredths into the frame? -/
def State.upToPct (s : State) (h : Nat) : Bool := decide (s.now ≤ s.atPct s.time.frame h)

/-- The inputs of the frame stand: CUTOFF is past and, on a standby, the main part is followed or given up. -/
def State.inputsIn (s : State) : Bool := s.runs && s.time.cutDone && s.red.man.isSome || (s.runs && s.time.cutDone && !s.follows)

/-- Has the phase of this frame been done? -/
def State.isNow (s : State) (k : Option Nat) : Bool := k == some s.time.frame

/-! ## Fusion, observer, control law (R82, R94, R103, R108) -/

/-- May fusion of the frame run: its inputs stand, an engine lives, its window is open. -/
def State.fusionDue (s : State) : Bool :=
  s.inputsIn && !s.isNow s.fus.doneK && decide (0 < s.feLive) && s.upToPct (35 + s.shift)

/-- FUSION_PHASE within its window. -/
def State.fusionPhase (s : State) : State := if s.fusionDue then s.onInputs (State.fuse · false) else s

/-- Note what the observer phase committed in the frame's checkpoint (R49). -/
def State.ckptFix (s : State) : State :=
  s.cexMod (fun c => { c with ckpts := c.ckpts.map (fun k =>
    if k.frame = s.time.frame then { k with x := c.obs.x, fix := s.fus.last } else k) })

/-- OBSERVER_COMMIT: correct and commit, SPECULATION_CHECK, the listed function commands, propagate (R45, R103, R117). -/
def State.observerPhase (s : State) : State :=
  if s.inputsIn && s.isNow s.fus.doneK && !s.isNow s.cex.commitK && s.upToPct (42 + s.shift)
      && s.ceLive.contains (s.fget CEX_ASSIGN.OBS) then
    let s1 := (s.onInputs State.obsCommit).specCheck
    ((s1.onInputs (State.applyAt · .capture)).onInputs State.obsProp).ckptFix
  else s

/-- Note the control state that the law of the frame starts from (R96). -/
def State.lawNote (s : State) : State :=
  s.redMod (fun x => { x with redo := x.redo.map (fun r => if r.frame = s.time.frame then { r with law := some s.cex } else r) })

/-- CONTROL_LAW within its window. -/
def State.controlPhase (s : State) : State :=
  if s.inputsIn && s.isNow s.cex.commitK && !s.isNow s.cex.lawK && s.upToPct (42 + s.shift)
      && s.ceLive.contains (s.fget CEX_ASSIGN.LAW) then s.lawNote.onInputs State.controlLaw
  else s

/-! ## Allocation (R136, R139, R143) -/

/-- ALLOCATION_PHASE at F(k)+0.42 P. -/
def State.allocationPhase (s : State) : State :=
  if s.inputsIn && s.isNow s.cex.lawK && s.past (42 + s.shift) && decide (0 < s.seLive) then s.allocStart else s

/-- The allocation in which slot `i` is being solved. -/
def State.slotOpen (s : State) (i : Nat) : Option AllocSt :=
  match s.allocOf s.time.frame with
  | some a => if s.runs && a.started && a.solving i then some a else none
  | none => none

/-- SLOT_RETURN: the solve of slot `i` stops of itself, by convergence, the cap or overflow (R139, R142). -/
def State.slotReturn (s : State) (i : Nat) : State :=
  match s.slotOpen i with
  | none => s
  | some a => if s.upToPct (65 + s.shift) then s.slotStop a i none 0 else s

/-- SOLVE_DEADLINE of slot `i`, at most 5 µs after it: `n` iterations completed, or iterate 0 not formed, inside a factorisation or not
(R143). -/
def State.slotDeadline (s : State) (i : Nat) (n : Option Nat) (fact : Bool) : State :=
  match s.slotOpen i with
  | none => s
  | some a =>
    if s.past (65 + s.shift) && decide (s.now ≤ s.atPct s.time.frame (65 + s.shift) + 5000) then
      (s.slotStop a i (some ⟨n, if fact then 3 else 2⟩) s.freePiv).tick1
    else s

/-! ## Late phases (R29, R96) -/

/-- The profile step of this frame is undone: the reference of frame k-1 stands and a step is owed (R96). What a function command of the
frame has captured stands; a track entered in it begins at the reference of frame k-1. Events that the undone step raised are not
raised again (DEDUCED, log 261). -/
def State.profUndo (s : State) : State :=
  match s.red.redo.find? (fun r => r.frame == s.time.frame) with
  | none => s.profileLate
  | some r =>
    let c := s.cex
    let o := r.cex
    let (capP, capH, cmd) := (bit c.capt 0, bit c.capt 1, bit c.capt 2)
    let back (keep : Bool) (g o : Gen) : Gen := if keep then g else { g with p := o.p, v := o.v, a := o.a }
    let entered := cmd && c.func == 4 && o.func != 4
    let ended := o.func == 4 && c.func == 3 && !cmd
    let keepN := capP && !entered
    let s1 := s.cexMod (fun c => { c with
      gN := if ended then o.gN else back keepN c.gN o.gN, gE := if ended then o.gE else back keepN c.gE o.gE,
      gH := if ended then o.gH else back capH c.gH o.gH,
      gS := if entered then c.gS else back false c.gS o.gS, leg := if entered then c.leg else o.leg,
      func := if ended then 4 else c.func,
      capt := if entered then c.capt
        else c.capt + 8 * b2n (c.leg != o.leg && !bit c.capt 3) + 16 * b2n (ended && !bit c.capt 4) })
    let s2 := if entered then s1.trackEnter else s1.fset CEX_FUNC.LEG o.leg
    s2.showFunc.profOwed

/-- The law of this frame is undone, its engine having been retired before the hand-over at 0.42 P: what it produced is not used, region
and cross-fade do not advance, the demand of frame k-1 is handed over (R96). The record it wrote is replaced (DESIGN CHOICE, log 226). -/
def State.lawUndo (s : State) : State :=
  match (s.red.redo.find? (fun r => r.frame == s.time.frame)).bind (·.law) with
  | none => s.controlLate
  | some o =>
    let s1 := s.cexMod (fun c => { c with
      integ := o.integ, ff := o.ff, tauPrev := o.tauPrev, clampHold := o.clampHold, lawMpc := o.lawMpc, lawN := o.lawN,
      lawFrom := o.lawFrom, joy := o.joy, joyMs := o.joyMs, joyN := o.joyN, region := o.region, regFrom := o.regFrom,
      fadeN := o.fadeN, degr := o.degr, gains := o.gains, gainsFrom := o.gainsFrom, stale := o.stale, intHold := o.intHold,
      demand := o.demand })
    let began := !o.gains.isEmpty && (s.cex.region != o.region || s.cex.degr != o.degr)
    let s1 := if began then s1.fset CEX_CNT.REGION_CHG (s1.fget CEX_CNT.REGION_CHG - 1) else s1
    let s2 := ((s1.fset CEX_REGION.CUR o.region).fset CEX_REGION.FROM o.regFrom).fset CEX_REGION.FADE_N o.fadeN
    let s3 := ((s2.fput CEX_STATUS.DEGR_GAINS o.degr).fput CEX_STATUS.LAW o.lawMpc).fput CEX_STATUS.LAW_FADE (o.lawN != 0)
    (s3.fset CEX_REC.IDX ((s3.fget CEX_REC.IDX + 63) % 64)).controlLate

/-- A bit of the FLAGS of the next manifest (R179), and the standby's part: unfollowable, a refresh (R185, R187). -/
def State.lateBit (s : State) (b : Nat) : State :=
  let s1 := s.redMod (fun x => { x with late := x.late ||| 2 ^ b })
  if s1.follows then (s1.markUnfol s1.time.frame).reqImage else s1

/-- PHASE_LATE event with TIM_STATUS[3:0] (R412). -/
def State.lateEvent (s : State) : State := s.event 0x02 0x05 1 (evData 0 (bits (s.reg aTIM_STATUS).toNat 0 4))

/-- The observer of the frame is late: the prediction stands, the propagation is deferred (R29, R96). -/
def State.observerLate (s : State) : State :=
  let s1 := ((s.onInputs State.obsLate).specCheck).onInputs (State.applyAt · .capture)
  (s1.ckptFix.fup TIM_STATUS.OBS_LATE).lateBit 1

/-- PHASE_LATE: 0 fusion, 1 observer, 2 control law, 3 profile generator, 4 cross-check, 5 dispatch. -/
def State.phaseLate (s : State) (ph : Nat) : State :=
  let sh := s.shift
  match ph with
  | 0 => if s.inputsIn && !s.isNow s.fus.doneK && s.past (35 + sh) then
      (((s.onInputs State.fuseLate).fup TIM_STATUS.FUSION_LATE).lateBit 0).lateEvent else s
  | 1 => if s.inputsIn && s.isNow s.fus.doneK && !s.isNow s.cex.commitK && s.past (42 + sh) then s.observerLate.lateEvent else s
  | 2 => if s.inputsIn && s.isNow s.cex.commitK && !s.isNow s.cex.lawK && s.past (42 + sh) then
      s.controlLate.lateBit 2 else s
  | 3 => if s.inputsIn && !s.isNow s.cex.commitK && s.past (35 + sh) && !bit s.red.late 3 then
      s.profUndo.lateBit 3 else s
  | 4 => match s.allocOf s.time.frame with
    | some a => if s.runs && s.role != .none && a.started && !a.compared && s.past (70 + sh) && !bit s.red.late 4 then
        ((s.fup TIM_STATUS.XCHK_LATE).lateBit 4).lateEvent else s
    | none => s
  | 5 => match s.allocOf s.time.frame with
    | some a => if s.runs && s.dispatches && a.sent.isNone && a.pick.isSome && s.past 80 && !bit s.red.late 5 then
        ((s.fup TIM_STATUS.DISPATCH_LATE).lateBit 5).lateEvent else s
    | none => s
  | _ => s

/-! ## Retrodiction (R48 to R52, R91) -/

/-- The late samples a pass in this frame's slack may use: a standby's are those the holder listed, any other unit's its own
(R52). -/
def State.retroMine (s : State) (r : RetroS) : Bool := r.frame == s.time.frame && r.listed == s.follows

/-- The late samples of the slack of frame `k`; beyond 64 they go to the next frame's slack (R181). -/
def State.retroTrim (s : State) : State :=
  let k := s.time.frame
  let mine := s.retro.filter s.retroMine
  let beyond := mine.drop 64
  let keep := beyond.filter (fun r => s.inHorizon (k + 1) r.s.t)
  { (s.fcount TIM_CNT_RETRO.MISS (beyond.length - keep.length)) with
    retro := s.retro.filter (fun r => !s.retroMine r) ++ mine.take 64 ++ keep.map (fun r => { r with frame := k + 1 }) }

/-- The frame e of a retrodicted sample: floor(t / P) (R48). -/
def State.retroAt (s : State) (r : RetroS) : Int := r.s.t.fdiv (Int.ofNat s.pNs)

/-- RETRO_PASS: the single pass of the slack begins, from the smallest e of its samples; samples of passes that were not applied join it
where it re-runs their frames (R49, R51). -/
def State.retroStart (s : State) : State :=
  if !s.runs || !s.past 80 || s.cex.retroRun.isSome || !s.isNow s.cex.commitK then s
  else
    let s1 := s.retroTrim
    let mine := s1.retro.filter s1.retroMine
    let e := minI (mine.map s1.retroAt)
    if mine.isEmpty then s1
    else s1.cexMod (fun c => { c with
      retroRun := some (s1.retro.filter (fun r => s1.retroMine r || (decide (r.frame < s.time.frame) && decide (e ≤ s1.retroAt r)))) })

/-- A frame's buffers with the late samples of its time or later inserted. -/
def retroCtx (pNs k : Nat) (t : Tab Ctx) (xs : List RetroS) : Tab Ctx :=
  xs.foldl (fun t r =>
    let c := tabGet ctxDflt t r.ctx
    if r.s.t.fdiv (Int.ofNat pNs) > Int.ofNat k || c.q == .off || c.buf.any (fun y => y.t == r.s.t) then t
    else tabSet ctxDflt t r.ctx { c with buf := bufPut c.buf r.s }) t

/-- Form the values of a frame again (R42): a context that forms one is LOCKED in that frame, one that forms none STALE. -/
def State.retroValues (s : State) (k : Nat) : State :=
  { s with ctx := s.ctx.map (fun p =>
      if p.2.q == .locked || p.2.q == .stale then
        let v := formValue p.2.hermite (s.fget (fldAt SCX_PERIOD.TP p.1)) (s.fget (fldAt SCX_LIM.EXTRAP p.1)) s.free p.2.buf
          (Int.ofNat (s.fOf k))
        (p.1, { p.2 with value := v, q := if v.isSome then .locked else .stale })
      else p) }

/-- One frame of the pass: value formation, fusion, observer, from the observer state the pass has reached (R49, R91); the saturation
flags of the observer's engine with what the frame has set (R101). -/
def State.retroFrame (s : State) (c : Ckpt) (o : ObsSt) (xs : List RetroS) : Ckpt × ObsSt × Nat :=
  let ctx := retroCtx s.pNs c.frame c.ctx xs
  let t := { s with ctx := ctx, fus := { c.fus with k := c.fix.k }, cex := { s.cex with obs := o, tauApp := c.tauApp, retroX := none } }
  let t1 := (t.timeMod (fun x => { x with frame := c.frame })).retroValues c.frame
  let t2 := ((t1.fuse true).obsCommit).obsProp
  ({ c with ctx := t1.ctx, obs := o, x := t2.cex.obs.x, fix := t2.fus.last }, t2.cex.obs,
    t2.fget (fldAt CEX_SAT.SAT (s.fget CEX_ASSIGN.OBS)))

/-- The pass over the checkpoints from frame `e` on. -/
def State.retroFold (s : State) (xs : List RetroS) : List Ckpt → ObsSt → List Ckpt × ObsSt × Nat
  | [], o => ([], o, 0)
  | c :: cs, o =>
    let (c', o', f) := s.retroFrame c o xs
    let (r, o2, g) := s.retroFold xs cs o'
    (c' :: r, o2, f ||| g)

/-- The result of a pass: the checkpoints, the state the observer of the next frame starts from, the saturation flags. -/
def State.retroCalc (s : State) (xs : List RetroS) : Option (List Ckpt × ObsX × Nat) :=
  let k := s.time.frame
  let es := (xs.filter (fun r => r.frame == k)).map (fun r => r.s.t.fdiv (Int.ofNat s.pNs))
  let e := minI es
  let head := s.cex.ckpts.filter (fun c => decide (Int.ofNat c.frame < e))
  match s.cex.ckpts.filter (fun c => decide (e ≤ Int.ofNat c.frame)) with
  | [] => none
  | c :: cs =>
    let (r, o, f) := s.retroFold xs (c :: cs) c.obs
    some (head ++ r, o.pred, f)

/-- RETRO_PASS_DONE before F(k+1): the checkpoints and the observer's next starting state; a follower waits for the
holder's word (R50, R52). Samples the checkpoints do not hold now stay in the history (R51). -/
def State.retroDone (s : State) : State :=
  match s.cex.retroRun with
  | none => s
  | some xs =>
    if s.fOf (s.time.frame + 1) ≤ s.now then s
    else
      let s1 := s.cexMod (fun c => { c with retroRun := none })
      match s.retroCalc xs with
      | none => s1
      | some (cks, x, f) =>
        let s2 := s1.satFlags (s.fget CEX_ASSIGN.OBS) f
        if s.follows then s2.cexMod (fun c => { c with retroRes := some (cks, x) })
        else (s2.retroTake cks x).redMod (fun r => { r with late := r.late ||| 2 ^ 6 })

/-- RETRO_SUPPLEMENT_SEND at F(k)+0.80 P (R177, R181). -/
def State.retroSupp (s : State) : State :=
  if !s.runs || !s.dispatches || !s.past 80 then s
  else
    let s0 := s.retroTrim
    let k := s0.time.frame
    let es : List SampE := (s0.retro.filter s0.retroMine).map (fun r =>
      ⟨r.ctx, 5, (s0.ctxOf r.ctx).unc, tc 64 r.s.t, sampleVal r.s⟩)
    match s0.red.man with
    | none => s0
    | some m =>
      let m1 := { m with samples := [], stats := [], cmds := [], mpc := none }
      let b := es.map sampBytes
      let s1 := s0.manSend k (manSegs (s0.fOf k) m1 es.length 1 b)
      if es.isEmpty then s1 else s1.stage 2 1 (manFixed (s0.fOf k) m1 es.length 1 0 ++ b.flatten)

/-- A supplement received complete: the samples of the slack are those it lists (R52). -/
def State.suppRx (s : State) (r : ManRx) : State :=
  if !s.follows || r.frame != s.time.frame || !s.red.following then s
  else
    let es := (getSamps r.body (uAt 2 r.fixed 26) 0).1
    let xs : List RetroS := es.map (fun e =>
      let (fmt, nc) := s.ctxShape e.ctx
      ⟨e.ctx, sampleOf (s.fbit (fldAt SCX_CFG.HERMITE e.ctx)) fmt nc e, r.node, 0, r.frame, true⟩)
    let s1 := { s with retro := s.retro.filter (fun x => !(x.listed && x.frame == r.frame)) ++ xs }
    if xs.isEmpty then s1 else s1.stage 2 0 (r.fixed ++ r.body)

/-- The epoch of a manifest is taken where the successor's is awaited (R197): of a unit of the set, later than the one known, and not one
that a ZONE unit publishes (DEDUCED, log 249). -/
def State.manEpoch (s : State) (p : Pdu) : State :=
  match (upTo (s.fget RED_CFG.SET_N)).find? (fun u => s.nodeOf u == p.node) with
  | some u =>
    if s.red.await && later p.epoch (s.fget RED_EPOCH.EPOCH) && !bit (uAt 4 p.payload 8) 10 then
      s.setEpoch p.epoch u
    else s
  | none => s

/-- MANIFEST_RX on a span (R178, R182). -/
def State.manifestRx (s : State) (via : Via) (bs : List Byte) : State :=
  match s.pduIn via pduManifest bs with
  | (s1, none) => s1
  | (s0, some p) =>
    let s1 := if s0.role.holds || p.payload.length < 64 then s0.noteEpoch p.epoch else (s0.noteEpoch p.epoch).manEpoch p
    if s1.role.holds || p.payload.length < 64 || p.epoch ≠ s1.fget RED_EPOCH.EPOCH then s1
    else
      let k := expandFrame s1.time.frame p.frame
      match s1.segPut via.port p k with
      | (s2, none) => s2
      | (s2, some r) =>
        if r.part = 1 then s2.suppRx r
        else
          let m := manOf r.node r.epoch r.frame r.fixed r.body
          let s3 := if s2.red.reqAt.isSome || s2.red.catchB.isSome then
              s2.redMod (fun x => { x with manBuf := lastN 64 (x.manBuf ++ [m]) }) else s2
          if bit m.flags 10 then s3 else (s3.stepNote m).manComplete m

/-! ## End of the frame -/

/-- LATE of the CONTROLLER body (R292). -/
def lateByte (f : Nat) : Nat :=
  b2n (bit f 0) + 2 * b2n (bit f 1) + 4 * b2n (bit f 4) + 8 * b2n (bit f 5) + 16 * b2n (bit f 2) + 32 * b2n (bit f 3)

/-- The coding of OPSTATE (R292). -/
def opCode : OpState → Nat
  | .boot => 0 | .config => 1 | .ready => 2 | .standby => 3 | .active => 4 | .degraded => 5 | .safe => 6 | .replay => 7

/-- The CONTROLLER STATUS payload (R291, R292). -/
def State.ctrlStatus (s : State) : List Byte :=
  let sent := match s.allocOf s.time.frame with | some a => if s.dispatches then a.sent.getD 0 else 0 | none => 0
  let hold := s.fget RED_ROLE.HOLDER
  leBytes 1 3 ++ leBytes 1 (4 * b2n (s.servo == svLocked)) ++ leBytes 2 (if hold = 3 then 0 else s.nodeOf hold % 1024) ++ leBytes 2 0
    ++ leBytes 2 8 ++ leBytes 1 (roleCode s.role) ++ leBytes 1 (opCode s.op) ++ leBytes 1 s.ownHealth
    ++ leBytes 1 (lateByte s.red.late) ++ leBytes 1 sent ++ leBytes 3 0

/-- CONTROLLER_STATUS_SEND between F(k)+0.80 P and F(k)+0.85 P. -/
def State.ctrlStatusSend (s : State) : State :=
  if s.bounds && s.time.inFrame && s.past 80 && s.upToPct 85 then s.pierSend pduStatus s.time.frame s.ctrlStatus else s

/-- ALLOC_RECORD_WRITE at F(k+1)+0.80 P (R170); a unit that does not dispatch records the OUTPUT of the slot the holder
named (R473). -/
def State.allocRecordRun (s : State) : State :=
  match s.allocOf (s.time.frame - 1) with
  | none => s
  | some a =>
    if !s.runs || !s.past 80 || a.written || !a.started then s
    else
      let s1 := (s.allocRecPut a).allocPut { a with written := true }
      if s.dispatches then s1
      else
        let i := a.sent.getD 0
        let es := s1.streams.map (fun p => s1.entryOf a.k 0 a.released (a.result i) p.1 p.2)
        s1.stage 5 0 (outputBytes i (a.slots.getD i slotIdle).stat es)

/-- REFINE_MINUTE at a boundary where TIME_NS is a multiple of 60 s (R62). -/
def State.refineMinute (s : State) : State := if !s.runs || s.time.cutDone then s else s.refineAt

/-! ## Health (R212, R213) -/

/-- Contexts in RETIRED. -/
def State.ctxRetired (s : State) : Nat := (s.ctx.filter (fun p => p.2.q == .retired)).length

/-- Has a CRC fault of its image stopped the logic program (R362, R363)? -/
def State.lgcImgBad (s : State) : Bool := s.fget LOG_STATUS.STATE == 3 && s.fget LOG_STATUS.ERR == 7

/-- The conditions of R212 in table order with their deductions; `k` how often each applies. A unit alone in its
set has no configured neighbour (R176), so no span of it is down (DEDUCED, log 240). -/
def State.healthRows (s : State) : List Nat :=
  let dead (l : List Nat) : Nat := (l.filter s.engDead).length
  let spans := if s.fget RED_CFG.SET_N = 1 then 0 else ((upTo 2).filter (fun n => !(s.span n).up)).length
  let within60 (t : Option Nat) : Bool := match t with | some t => decide (s.now ≤ t + 60000000000) | none => false
  [24 * dead [3, 4, 5, 6], 40 * dead [7, 8, 9, 10], 16 * dead [11, 12, 13, 14], 64 * dead [15], 8 * spans,
   8 * popCount 4 (s.fget DIA_RET_IO.ETH), min 32 s.ctxRetired, 8 * b2n (decide (16 < s.red.ecc)), 32 * b2n s.red.clkWarn,
   16 * b2n (s.sys.low != 0 || within60 s.red.supplyAt), 48 * b2n (!s.fus.imgBad.isEmpty || s.slv.mpcBad || s.slv.pipe.isSome || s.lgcImgBad), 64 * b2n (within60 s.red.sasbAt)]

/-- The corrected errors the scrub has counted in the second, from outside the model (R8, R211; DESIGN CHOICE, log 239). -/
def State.eccNote (s : State) (n : Nat) : State := s.redMod (fun x => { x with ecc := satU 32 (x.ecc + n) })

/-- HEALTH_RECOMPUTE at a whole second: the score, the report, the event (R212, R213). -/
def State.healthRun (s : State) : State :=
  if !s.clocked || s.sys.yd then s
  else
    let rows := s.healthRows
    let h := 255 - sumN rows
    let ded := rows.zipIdx.foldl (fun m p => if p.1 ≠ 0 then m ||| 2 ^ p.2 else m) 0
    let s1 := s.showHealth s.unit h
    let i := (s1.fget RED_HREP.IDX + 1) % 64
    let rtt (n : Nat) : Nat := if (s.span n).up then (s.span n).rtt else 65535
    let b := leBytes 8 (s.now / 1000000000 * 1000000000) ++ leBytes 1 (65 + s.unit) ++ leBytes 1 h ++ leBytes 1 (roleCode s.role)
      ++ leBytes 1 (b2n (s.fbit RED_ROLE.QUALIFIED) + 2 * b2n (s.fbit RED_STATUS.DISAGREE)) ++ leBytes 2 (s.fget DIA_RET_ENG.ENG)
      ++ leBytes 2 ded ++ leBytes 4 s.red.ecc ++ leBytes 2 (rtt 0) ++ leBytes 2 (rtt 1) ++ leBytes 2 s.ctxRetired
      ++ leBytes 2 s.red.slices ++ leBytes 4 s.hash
    let s2 := ((s1.wrB rgnHrep (i * 32) b).fset RED_HREP.IDX i).redMod (fun x => { x with ecc := 0, clkWarn := false, slices := 0 })
    s2.event 0x07 0x0E 0 (evData s.unit h)

end Sys2Proof.Machine
end

