-- ==== Sys2Proof/Machine/Saf.lean ====
section
/-!
DEFINITION. The two-channel safety functions (R215 to R242): trips and latches, emergency stops, drive-off, command
plausibility, the pipeline watchdog, the cross-comparison, acknowledgement and reset, the change log, the password.
-/

namespace Sys2Proof.Machine

/-- Change the safety record. -/
def State.safMod (s : State) (f : SafSt → SafSt) : State := { s with saf := f s.saf }

/-- Latches of a channel: 0 SA, 1 SB. -/
def State.latch (s : State) (ch : Nat) : Nat := s.saf.latch.getD ch 0
/-- Outputs a channel energises. -/
def State.safOut (s : State) (ch : Nat) : Nat := s.saf.out.getD ch 0

/-- Show latches and outputs in SAF_STATUS (R242). -/
def State.showSaf (s : State) : State :=
  (s.fset SAF_STATUS.TRIPPED (s.latch 0 ||| s.latch 1)).fset SAF_STATUS.ENERGISED (s.safOut 0 &&& s.safOut 1)

/-- Is a channel running without fault. -/
def State.chanOk (s : State) (ch : Nat) : Bool := if ch = 0 then s.fbit SAF_STATUS.SA_OK else s.fbit SAF_STATUS.SB_OK
/-- Does a channel run: without fault, or with an output fault alone (R231). -/
def State.chanRuns (s : State) (ch : Nat) : Bool := s.chanOk ch || bit s.saf.outFault ch
/-- Show whether a channel runs without fault. -/
def State.setChan (s : State) (ch : Nat) (b : Bool) : State :=
  let s1 := s.safMod (fun x => { x with outFault := putBits x.outFault ch 1 0 })
  if ch = 0 then s1.fput SAF_STATUS.SA_OK b else s1.fput SAF_STATUS.SB_OK b

/-! ## Trips (R232 to R234) -/

/-- Record the cause of a trip of one group: the first is kept, later ones are counted; an ARMED group is disarmed (R234,
R236). -/
def State.tripCause (s : State) (g cause det : Nat) : State :=
  let armed := bit (s.fget SAF_STATUS.ARMED) g
  if bit (s.latch 0 ||| s.latch 1) g && !armed then s.finc (fldAt SAF_CAUSE.MORE g)
  else
    let s1 := (((s.fset (fldAt SAF_CAUSE.CAUSE g) cause).fset (fldAt SAF_CAUSE.DETAIL g) det).fset (fldAt SAF_CAUSE.FRAME g)
      s.time.frame)
    let s2 := if armed then s1.fset SAF_STATUS.ARMED (putBits (s1.fget SAF_STATUS.ARMED) g 1 0)
      else s1.fset (fldAt SAF_CAUSE.MORE g) 0
    (s2.alarmD 0x08 0x01 g (evData g cause ++ leBytes 1 det)).ledger 0x0020 (leBytes 1 g ++ leBytes 1 cause ++ leBytes 1 det)

/-- A channel sets its latches and drops its outputs. -/
def State.latchSet (s : State) (ch mask : Nat) : State :=
  (s.safMod (fun x => { x with latch := x.latch.set ch ((x.latch.getD ch 0) ||| mask)
                               out := x.out.set ch ((x.out.getD ch 0) &&& (15 - mask % 16)) })).showSaf

/-- What a unit-local trip does to the unit: SAFE_TRIP, the declaration of a holder, SAFE at the next boundary (R199, R232). -/
def State.unitTrip (s : State) : State :=
  if s.op != .ready && s.op != .standby && s.op != .active && s.op != .degraded then s
  else
    let s1 := s.redMod (fun x => { x with safeTrip := true, safeDue := true })
    if s.dispatches then s1.declareFail 2 else s1

/-- Is a cause unit-local (R232)? -/
def causeLocal (c : Nat) : Bool := c == 7 || c == 8 || c == 9 || c == 10

/-- TRIP of groups, detected by the channels of `chs`; a single channel passes it on through the mailbox where `pass`. -/
def State.trip (s : State) (chs : List Nat) (mask cause det : Nat) (pass : Bool) : State :=
  let fresh := mask % 16 &&& (15 - ((s.latch 0 ||| s.latch 1) % 16)) != 0
  let s0 := if fresh then s.harvTrip else s
  let s1 := (bitIdx 4 mask).foldl (fun s g => s.tripCause g cause det) s0
  let s2 := chs.foldl (fun s ch => s.latchSet ch mask) s1
  let s3 := match chs with
    | [ch] => if pass then s2.safMod (fun x => { x with msgs := x.msgs ++ [⟨1 - ch, mask⟩] }) else s2
    | _ => s2
  if causeLocal cause then s3.unitTrip else s3

/-- TRIP_PROPAGATE: the trips passed through the mailbox set the other channel's latches (R234). -/
def State.tripPass (s : State) : State :=
  s.saf.msgs.foldl (fun s m => s.latchSet m.chan m.groups) (s.safMod (fun x => { x with msgs := [] }))

/-- A frame whose predecessor has not failed SF3 starts the count anew (R227). -/
def State.sf3Boundary (s : State) : State :=
  if s.saf.sf3K.any (fun k => s.time.frame ≤ k + 1) then s else s.fset SAF_RUN.SF3 0

/-- Energise at a frame boundary what R218 permits. -/
def State.safBoundary (s0 : State) : State :=
  let s := s0.sf3Boundary
  if s.sys.yd || !s.role.energises then s.safRole
  else
    let en := s.fget SAF_CFG.GROUP_EN
    (s.safMod (fun x => { x with out := (upTo 2).map (fun ch =>
      if s.chanOk ch then en &&& (15 - x.latch.getD ch 0 % 16) else 0) })).showSaf

/-! ## Emergency stops (R221, R222) and the SAFE_RST pair (R236) -/

/-- The group mask of an ESTOP pair. -/
def State.estMap (s : State) (n : Nat) : Nat := bits (s.fget SAF_EST_MAP.MAP) (4 * n) 4
/-- DISC_T in ns. -/
def State.discT (s : State) : Nat := s.fget SAF_CFG.DISC_T * 10000000

/-- One pair after a level change: demand, discrepancy, the clearing of DISC. -/
def State.estPair (s : State) (oldA oldB n : Nat) : State :=
  let (a, b) := (bit (s.fget SAF_ESTOP.LEVEL_A) n, bit (s.fget SAF_ESTOP.LEVEL_B) n)
  let map := s.estMap n
  if map = 0 then s
  else
    let tripIn (s : State) (ch : Nat) (was now : Bool) : State := if was && !now then s.trip [ch] map 2 n true else s
    let s1 := tripIn (tripIn s 0 (bit oldA n) a) 1 (bit oldB n) b
    let (ra, rb) := s1.saf.rise.getD n (0, 0)
    let ra' := if a && !bit oldA n then s1.now else ra
    let rb' := if b && !bit oldB n then s1.now else rb
    let disc := bit (s1.fget SAF_ESTOP.DISC) n
    let seen := if disc && !a && !b then s1.saf.seenOff ||| 2 ^ n else s1.saf.seenOff
    let old := s1.saf.diffAt.getD n none
    let d := if a != b then (match old with | some t => some t | none => some s1.now) else none
    let s2 := s1.safMod (fun x => { x with rise := x.rise.set n (ra', rb'), seenOff := seen, diffAt := x.diffAt.set n d })
    let s3 := s2.fset SAF_ESTOP.DEMAND (putBits (s2.fget SAF_ESTOP.DEMAND) n 1 (b2n (!a || !b)))
    let gap := if ra' ≤ rb' then rb' - ra' else ra' - rb'
    if disc && a && b && bit seen n && decide (gap ≤ s.discT) then
      ((s3.safMod (fun x => { x with seenOff := putBits x.seenOff n 1 0 })).fset SAF_ESTOP.DISC
        (putBits (s3.fget SAF_ESTOP.DISC) n 1 0)).clearAlarm 0x08 0x04 n
    else s3

/-- The SAFE_RST inputs after a level change. -/
def State.rstPair (s : State) (oldA oldB : Bool) : State :=
  let (a, b) := (s.fbit SAF_ESTOP.RST_A, s.fbit SAF_ESTOP.RST_B)
  let up (old new : Bool) (l : List Nat) (i : Nat) : List Nat := if !old && new then l.set i s.now else l
  let dn (old new : Bool) (l : List Nat) (i : Nat) : List Nat := if old && !new then l.set i s.now else l
  s.safMod (fun x =>
    let begin := !x.press && (a || b)
    { x with rstOn := up oldB b (up oldA a x.rstOn 0) 1, rstOff := dn oldB b (dn oldA a x.rstOff 0) 1,
             press := x.press || begin, both := (x.both && !begin) || (a && b) })

/-- ESTOP_CHANGE: the filtered levels of the inputs (R221): masks of the ESTOP pairs and the two SAFE_RST levels. -/
def State.estopChange (s : State) (la lb : Nat) (ra rb : Bool) : State :=
  let (oa, ob) := (s.fget SAF_ESTOP.LEVEL_A, s.fget SAF_ESTOP.LEVEL_B)
  let (pa, pb) := (s.fbit SAF_ESTOP.RST_A, s.fbit SAF_ESTOP.RST_B)
  let s1 := (((s.fset SAF_ESTOP.LEVEL_A la).fset SAF_ESTOP.LEVEL_B lb).fput SAF_ESTOP.RST_A ra).fput SAF_ESTOP.RST_B rb
  ((upTo 4).foldl (fun s n => s.estPair oa ob n) s1).rstPair pa pb

/-- The pairs judged from their levels as they stand, where the map has changed from `old` or DISC has been cleared (R221, R222): demand,
discrepancy from now, and a demand trips the groups that are newly mapped (DEDUCED, log 246). -/
def State.estAnew (s : State) (old : Nat) : State :=
  if s.sys.yd then s
  else (upTo 4).foldl (fun s n =>
    let (a, b) := (bit (s.fget SAF_ESTOP.LEVEL_A) n, bit (s.fget SAF_ESTOP.LEVEL_B) n)
    let map := s.estMap n
    let new := map &&& (15 - bits old (4 * n) 4)
    let d := if map = 0 ∨ a == b then none else some ((s.saf.diffAt.getD n none).getD s.now)
    let s1 := (s.safMod (fun x => { x with diffAt := x.diffAt.set n d })).fset SAF_ESTOP.DEMAND
      (putBits (s.fget SAF_ESTOP.DEMAND) n 1 (b2n (map != 0 && (!a || !b))))
    let s2 := if new = 0 ∨ a then s1 else s1.trip [0] new 2 n true
    if new = 0 ∨ b then s2 else s2.trip [1] new 2 n true) s

/-- DISC_TIMEOUT: pairs whose inputs have differed for longer than DISC_T (R222). -/
def State.discTimeout (s : State) : State :=
  (upTo 4).foldl (fun s n =>
    match s.saf.diffAt.getD n none with
    | some t =>
      if s.estMap n ≠ 0 ∧ t + s.discT < s.now ∧ !bit (s.fget SAF_ESTOP.DISC) n then
        ((s.safMod (fun x => { x with seenOff := putBits x.seenOff n 1 0 })).fset SAF_ESTOP.DISC
          (putBits (s.fget SAF_ESTOP.DISC) n 1 1)).alarm 0x08 0x04 n 0
      else s
    | none => s) s

/-! ## The change log (R241, R487) -/

/-- Append an entry to the change log in flash and its short form to the mirror in D0. -/
def State.changeLog (s : State) (sess obj op result : Nat) (old new : List Byte) : State :=
  let seq := s.d0.clSeq
  let b := leBytes 8 s.now ++ leBytes 4 seq ++ leBytes 4 sess ++ leBytes 2 obj ++ leBytes 1 op ++ leBytes 1 result
    ++ fitBytes 48 old ++ fitBytes 48 new ++ leBytes 8 0
  let e := b ++ leBytes 4 (crc32c b)
  let m := leBytes 8 s.now ++ leBytes 4 seq ++ leBytes 4 sess ++ leBytes 2 obj ++ leBytes 1 op ++ leBytes 1 result
    ++ fitBytes 4 old ++ fitBytes 4 new
  let h := s.d0.clHead
  let s1 := (s.wrB rgnClog ((seq - 1) % 1024 * 128) e).wrB rgnLed (64 + 32 * h) (m ++ leBytes 4 (crc32c m))
  ({ s1 with d0 := { s1.d0 with clSeq := seq + 1, clHead := (h + 1) % 16 } }).fset SAF_LOG.SEQ seq

/-! ## Acknowledgement and reset (R235, R236) -/

/-- ACK_WIN (R235). -/
def ackWin : Nat := 30000000000

/-- Why the acknowledgement of a group with a cause is refused: none, or the code of ACK_REFUSED (R235, R401). -/
def State.ackWhy (s : State) (g cause : Nat) : Option Nat :=
  let held := s.fget (fldAt SAF_CAUSE.CAUSE g)
  let pairs := (upTo 4).filter (fun n => bit (s.estMap n) g)
  let bad := pairs.any (fun n => !bit (s.fget SAF_ESTOP.LEVEL_A) n || !bit (s.fget SAF_ESTOP.LEVEL_B) n || bit (s.fget SAF_ESTOP.DISC) n)
  if cause ≠ held then some 1
  else if bad then some 2
  else if s.saf.sf2Held.contains true && bit (s.fget SAF_SF2_CFG.GROUPS) g then some 3
  else if (causeLocal held || held == 1) && s.role == .none then some 4
  else none

/-- Make groups ARMED (R235). -/
def State.arm (s : State) (mask : Nat) : State :=
  let s1 := (s.fset SAF_STATUS.ARMED (s.fget SAF_STATUS.ARMED ||| mask)).safMod (fun x =>
    { x with armedTo := (x.armedTo.zipIdx).map (fun p => if bit mask p.2 then s.now + ackWin else p.1) })
  (bitIdx 4 mask).foldl (fun s g => s.event 0x08 0x02 0 (evData g 0)) s1

/-- ACK_WINDOW_EXPIRY: ARMED groups whose window has run out are disarmed. -/
def State.armExpire (s : State) : State :=
  let a := s.fget SAF_STATUS.ARMED
  s.fset SAF_STATUS.ARMED ((upTo 4).foldl (fun m g =>
    if bit m g && decide (s.saf.armedTo.getD g 0 ≤ s.now) then putBits m g 1 0 else m) a)

/-- Step 2: the latches of the ARMED groups clear, CLEARED then LATCH_CLEARED for each, and the log entry (R236, R241). -/
def State.latchClear (s : State) (sess : Nat) : State :=
  let m := s.fget SAF_STATUS.ARMED
  let s1 := s.safMod (fun x => { x with latch := x.latch.map (fun l => l &&& (15 - m)) })
  let s2 := (s1.fset SAF_STATUS.ARMED 0).showSaf
  let s3 := (bitIdx 4 m).foldl (fun s g =>
    let c := s.fget (fldAt SAF_CAUSE.CAUSE g)
    let d := s.fget (fldAt SAF_CAUSE.DETAIL g)
    let s' := s.setReg (aSAF_CAUSE + 4 * g) 0
    (s'.clearAlarmD 0x08 0x01 g (evData g c ++ leBytes 1 d)).event 0x08 0x03 0 (evData g 0)) s2
  s3.changeLog sess 65535 5 0 [] []

/-- Distance of two instants. -/
def gapNs (a b : Nat) : Nat := if a ≤ b then b - a else a - b

/-- Was the press within bounds (R236)? -/
def State.pressOk (s : State) : Bool :=
  let (onA, onB) := (s.saf.rstOn.getD 0 0, s.saf.rstOn.getD 1 0)
  let (offA, offB) := (s.saf.rstOff.getD 0 0, s.saf.rstOff.getD 1 0)
  let from_ := max onA onB
  let to_ := min offA offB
  s.saf.both && decide (gapNs onA onB ≤ 100000000) && decide (gapNs offA offB ≤ 100000000)
    && decide (from_ + 100000000 ≤ to_) && decide (to_ ≤ from_ + 5000000000)

/-- SAFE_RST_RELEASE: a press has ended with both inputs released; one out of bounds or with no group ARMED is counted, one within bounds is
step 2 where the pair is its source (R236). -/
def State.rstRelease (s : State) : State :=
  if !s.saf.press || s.fbit SAF_ESTOP.RST_A || s.fbit SAF_ESTOP.RST_B then s
  else
    let s1 := s.safMod (fun x => { x with press := false, both := false })
    if s.pressOk && s.fget SAF_STATUS.ARMED != 0 then (if s.fbit SAF_CFG.RST_SRC then s1 else s1.latchClear 0)
    else s1.finc SAF_CNT.RST_IGNORED

/-! ## Drive-off and excursion (SF2; R224, R225) -/

/-- Truth of the three conditions in a frame: EXC, HDG, DRV, the three quantities, and which conditions were evaluated. -/
structure Sf2Now where
  exc : Bool
  hdg : Bool
  drv : Bool
  warn : Bool
  ePos : Nat
  eHdg : Nat
  vR : Int
  eval : List Bool         -- were EXC, HDG, DRV evaluated
  deriving DecidableEq, Repr

/-- The SF2 quantities of the frame in progress from its control record (R224). -/
def State.sf2 (s : State) : Sf2Now :=
  let c := s.cex
  let x := c.obs.x
  let dn := sx 32 (tc 32 (asr c.gN.p 32)) - sx 32 (tc 32 (asr x.etaN 32))
  let de := sx 32 (tc 32 (asr c.gE.p 32)) - sx 32 (tc 32 (asr x.etaE 32))
  let e := isqrt (dn * dn + de * de).toNat
  let h := (b32diff (tc 32 c.gH.p) x.etaP).natAbs * 36000 / 2 ^ 32
  let pos := c.func == 3 || c.func == 4
  let yaw := axisOf c.func c.autoHdg 2 == Axis.auto
  let k := s.time.frame
  let old := s.saf.hist.find? (fun r => r.frame + 8 == k)
  let run := (upTo 8).all (fun i => s.saf.hist.any (fun r => r.frame + (i + 1) == k && r.pos))
  let v : Int := match old with
    | some r => ((Int.ofNat e - Int.ofNat r.ePos) * 1000).fdiv (Int.ofNat (8 * s.time.period))
    | none => 0
  let thr (f : Fld) (k : Nat) : Nat := s.fget f * k
  { exc := pos && thr SAF_SF2_POS.EXC_TRIP 10 != 0 && decide (thr SAF_SF2_POS.EXC_TRIP 10 ≤ e),
    hdg := yaw && thr SAF_SF2_CFG.HDG_TRIP 1 != 0 && decide (thr SAF_SF2_CFG.HDG_TRIP 1 ≤ h),
    drv := pos && run && thr SAF_SF2_DRV.DRV_V 1 != 0 && thr SAF_SF2_DRV.DRV_R 10 != 0
      && decide (thr SAF_SF2_DRV.DRV_R 10 ≤ e) && decide (Int.ofNat (thr SAF_SF2_DRV.DRV_V 1) ≤ v),
    warn := pos && thr SAF_SF2_POS.EXC_WARN 10 != 0 && decide (thr SAF_SF2_POS.EXC_WARN 10 ≤ e),
    ePos := e, eHdg := h, vR := v, eval := [pos, yaw, pos && run] }

/-- Count a condition; the flag says that its count has just reached SF2_N. -/
def State.sf2Count (s : State) (f : Fld) (b : Bool) : State × Bool :=
  let n := s.fget f
  let m := if b then satU 2 (n + 1) else 0
  (s.fset f m, b && decide (n < s.fget SAF_SF2_CFG.SF2_N) && decide (s.fget SAF_SF2_CFG.SF2_N ≤ m))

/-- Evaluate SF2 in the cross-check window of a frame with a control record. -/
def State.sf2Run (s : State) : State :=
  if !s.isNow s.cex.lawK || (s.saf.hist.head?.any (fun r => r.frame == s.time.frame)) then s
  else
    let q := s.sf2
    let pos := s.cex.func == 3 || s.cex.func == 4
    let s0 := s.safMod (fun x => { x with
      hist := (⟨s.time.frame, q.ePos, pos⟩ :: x.hist).take 9
      sf2Q := [Int.ofNat q.ePos, Int.ofNat q.eHdg, q.vR]
      sf2Held := (x.sf2Held.zip (q.eval.zip [q.exc, q.hdg, q.drv])).map (fun p => if p.2.1 then p.2.2 else p.1) })
    let s1 := (s0.fset SAF_SF2_NOW.E_POS (satU 16 (q.ePos / 10))).fset SAF_SF2_NOW.V_R (tc 16 (satS 16 q.vR))
    let s2 := (s1.alarmLevel 0x08 0x05 0 q.warn).fput SAF_STATUS.EXCURSION q.warn
    let (s3, e) := s2.sf2Count SAF_RUN.EXC q.exc
    let (s4, h) := s3.sf2Count SAF_RUN.HDG q.hdg
    let (s5, d) := s4.sf2Count SAF_RUN.DRV q.drv
    let m := s.fget SAF_SF2_CFG.GROUPS
    let t (s : State) (b : Bool) (c : Nat) : State := if b then s.trip [0, 1] m c 0 false else s
    t (t (t s5 e 4) h 5) d 6

/-! ## Command plausibility (SF3; R226, R227) and the comparison (SF5; R229, R230) -/

/-- The epoch of the holder: its manifest's while it is followed, else the one this unit holds or last took. -/
def State.holderEpoch (s : State) : Nat :=
  match s.red.man with
  | some m => if s.red.following && !s.role.holds then m.epoch else s.fget RED_EPOCH.EPOCH
  | none => s.fget RED_EPOCH.EPOCH

/-- Does the command of a thruster in a slot's result pass SF3: its epoch, apply-at and thruster, thrust, rates, sectors (R226)? -/
def State.sf3Cmd (s : State) (a : AllocSt) (sl : SlotSt) (o : SlotOut) (i : Nat) : Bool :=
  match s.thr i, s.thrLim i with
  | some c, some l =>
    let t : Flt := o.t.getD i 0
    let ang := o.ang.getD i 0
    let (t0, a0) := a.lin.getD i (0, 0)
    let e := s.entryOf a.k 0 false o i c
    if bit sl.u i then feq t 0
    else if s.fget RED_EPOCH.EPOCH ≠ s.holderEpoch ∨ e.applyAt ≠ s.fOf (a.k + 1) + c.off * 1000 then false
    else
      let m := fofRat (Int.ofNat (s.fget SAF_CFG.PL_MARG)) 256
      let one := fadd (fofNat 1) m
      let wide := fmul m l.fwd
      let lo := if c.kind = 1 then (0 : Flt) else fneg l.rev
      let inT := fle (fsub lo wide) t && fle t (fadd l.fwd wide)
      let rate := fle (fabs (fsub t t0)) (fmul (fmul l.tRate s.hSec) one)
      let d := b32diff ang a0
      let turn := fle (fabs (fofDy (d * 360) (-32))) (fmul (fmul l.aRate s.hSec) one)
      let sect := l.sect.all (fun p =>
        if !inSector ang p then true
        else if !inSector a0 p then false
        else  -- a move, towards the nearer edge
          let toEnd := tc 32 (Int.ofNat p.2 - Int.ofNat a0)
          let toStart := tc 32 (Int.ofNat a0 - Int.ofNat p.1)
          if toEnd ≤ toStart then decide (0 < d) else decide (d < 0))
      inT && rate && (!kindAz c.kind || (turn && sect))
  | _, _ => true

/-- The first thruster whose command in slot `i` fails. -/
def State.sf3Fail (s : State) (a : AllocSt) (i : Nat) : Option Nat :=
  let sl := a.slots.getD i slotIdle
  (bitIdx 32 s.thrMask).find? (fun t => !s.sf3Cmd a sl (a.result i) t)

/-- The slots the cross-check covers: those that returned, but for FALLBACK and NOT_RUN, and S0 always (R161). -/
def AllocSt.checked (a : AllocSt) : List Nat :=
  (upTo 16).filter (fun i => i == 0 || ((a.slots.getD i slotIdle).out.isSome && stStatus (a.slots.getD i slotIdle).stat != 5
    && stStatus (a.slots.getD i slotIdle).stat != stNotRun))

/-- The slots a channel passes; the release of R118 has no allocation to fail. -/
def State.sf3Pass (s : State) (a : AllocSt) : List Nat :=
  if a.released then [0] else a.checked.filter (fun i => (s.sf3Fail a i).isNone)

/-- The comparison word of a channel (R229). -/
def State.safWord (s : State) (a : AllocSt) (ch : Nat) (pass : List Nat) : List Byte :=
  let crc (i : Nat) : List Byte := leBytes 4 (crc32c ((upTo 32).flatMap (fun t =>
    leBytes 4 ((a.result i).t.getD t 0).toNat ++ leBytes 4 ((a.result i).ang.getD t 0))))
  a.checked.flatMap crc ++ leBytes 2 (pass.foldl (fun m i => m ||| 2 ^ i) 0) ++ s.saf.sf2Q.flatMap (fun v => leBytes 8 (tc 64 v))
    ++ leBytes 4 (s.reg aSAF_RUN).toNat ++ leBytes 1 (s.safOut ch) ++ leBytes 1 (s.latch ch) ++ leBytes 4 (s.fget SAF_HASH.HASH)

/-- CROSS_CHECK: SF2, then SF3 and the comparison word of each channel that ends it in its window: `chans` bit 0 SA, bit 1
SB (R224 to R229). -/
def State.crossCheck (s : State) (chans : Nat) : State :=
  if s.sys.yd || !s.past (65 + s.shift) || !s.upToPct (70 + s.shift) then s
  else
    let s1 := s.slotsClose.slotsNotRun.sf2Run
    match s1.allocOf s1.time.frame with
    | none => s1
    | some a =>
      if !s1.runs || s1.role == .none || !a.started || a.compared then s1
      else
        let pass := s1.sf3Pass a
        (upTo 2).foldl (fun s ch =>
          if bit chans ch && s.chanRuns ch then
            s.safMod (fun x => { x with words := x.words.set ch (some ⟨a.k, s1.safWord a ch pass, pass⟩) })
          else s) s1

/-- S0 passed or failed SF3 in the frame: two consecutive frames trip (R227). -/
def State.sf3Count (s : State) (a : AllocSt) : State :=
  match (if a.released then none else s.sf3Fail a 0) with
  | none => (s.fset SAF_RUN.SF3 0).safMod (fun x => { x with sf3K := none })
  | some t =>
    let n := if s.saf.sf3K.any (fun k => k + 1 = a.k) then satU 2 (s.fget SAF_RUN.SF3 + 1) else 1
    let s1 := (s.fset SAF_RUN.SF3 n).safMod (fun x => { x with sf3K := some a.k })
    if 2 ≤ n then s1.trip [0, 1] 15 7 t false else s1

/-- In role NONE there is no comparison (R211), but where a channel stopped by a fault could not pass its trip, the other one goes on until
it has latched (R231; DEDUCED, log 236). -/
def State.sf5Alone (s : State) : Bool :=
  (upTo 2).any (fun ch => !s.chanRuns ch && s.chanRuns (1 - ch) && s.latch (1 - ch) % 16 != 15)

/-- XCHK_LATE: a word has not been written in time, whatever kept it back (R29, R230). -/
def State.xchkLate (s : State) : State :=
  if bit s.red.late 4 then s else ((s.fup TIM_STATUS.XCHK_LATE).lateBit 4).lateEvent

/-- A mismatch: the count rises; the second in a row trips every group (R230). -/
def State.sf5Miss (s : State) (det : Nat) : State :=
  let n := satU 2 (s.fget SAF_RUN.SF5 + 1)
  let s1 := (s.fset SAF_RUN.SF5 n).redMod (fun x => { x with sasbAt := some s.now })
  if n = 2 then s1.trip [0, 1] 15 9 det false else s1

/-- The words of a frame compared: the slots both channels passed, none where the words differ or one is missing; `bad` as in SF5_COMPARE
(R227, R230). -/
def State.sf5Words (s : State) (a : AllocSt) (bad : Nat) : State :=
  let w (ch : Nat) : Option SafWord := match s.saf.words.getD ch none with
    | some x => if x.frame = a.k then some x else none
    | none => none
  let late := (w 0).isNone || (w 1).isNone
  let s0 := if late then s.xchkLate else s
  let miss := late || bit bad 0 || bit bad 1
  let (same, pass) := match w 0, w 1 with
    | some x, some y => (decide (x.word = y.word) && !miss && !bit bad 2, x.pass.filter (fun i => y.pass.contains i))
    | _, _ => (false, [])
  let mask := if same then pass.foldl (fun m i => m ||| 2 ^ i) 0 else 0
  let s1 := s0.allocPut { a with pass := mask, compared := true }
  let s2 := if late then s1 else s1.sf3Count a
  let s3 := if bit mask 0 then s2 else s2.fcount SAF_CNT.WITHHELD 1
  if same then s3.fset SAF_RUN.SF5 0 else s3.sf5Miss (b2n (!miss))

/-- SF5_COMPARE at F(k)+0.70 P; `bad` bit 0, 1: the word of SA, SB reads as missing for an uncorrectable error; bit 2: the
words differ although both were formed (R216, R230). Without an allocation both words are missing. In role NONE the count starts anew
(R211). -/
def State.sf5Compare (s : State) (bad : Nat) : State :=
  if s.role == .none && !s.sf5Alone then s.fset SAF_RUN.SF5 0
  else if s.sys.yd || !s.runs || !s.past (70 + s.shift) then s
  else
    let s1 := s.slotsClose
    match s1.allocOf s1.time.frame with
    | some a => if a.compared then s else s1.sf5Words a bad
    | none => if bit s1.red.late 4 then s1 else (s1.xchkLate.fcount SAF_CNT.WITHHELD 1).sf5Miss 0

/-- Is a thruster in the problem of the frame in progress: by its snapshot, or, where none was taken, by the STATUS at hand (R163, R228). -/
def State.sf4Thr (s : State) : Bool :=
  match s.allocOf s.time.frame with
  | some a => a.thr != 0
  | none => (upTo 32).any (s.thrOn s.time.frame)

/-- SF4_CHECK at F(j)+0.80 P, once a frame: a frame with a dispatch is one in which a COMMAND PDU has left a port (R228). -/
def State.sf4Check (s : State) : State :=
  let k := s.time.frame
  if s.sys.yd || !s.runs || !s.past 80 then s
  else if !s.dispatches then (s.safMod (fun x => { x with sf4On := false })).fset SAF_RUN.SF4 0
  else if s.saf.sf4K == some k then s
  else
    let sent := s.saf.cmdK == some k
    let s1 := s.safMod (fun x => { x with sf4K := some k, sf4On := x.sf4On || sent })
    if !s.sf4Thr || !s1.saf.sf4On then s1
    else if sent then s1.fset SAF_RUN.SF4 0
    else
      let n := satU 2 (s1.fget SAF_RUN.SF4 + 1)
      let s2 := s1.fset SAF_RUN.SF4 n
      if n = 3 then s2.trip [0, 1] 15 8 0 false else s2

/-! ## Outputs and channels (R220, R231, R456) -/

/-- A channel fault: its outputs drop, every group latches with cause CHANNEL; it is passed on where the channel still can
(R231). -/
def State.chanFault (s : State) (ch det : Nat) (pass stop : Bool) : State :=
  let s1 := s.trip [ch] 15 10 det pass
  if stop then s1.setChan ch false else s1

/-- CHANNEL_FAULT: kind 0 the clock monitor, 1 memory, 2 the instruction test. -/
def State.channelFault (s : State) (ch kind : Nat) : State :=
  if s.sys.yd || ch > 1 || kind > 2 then s else s.chanFault ch (2 * kind + ch) (kind != 0) true

/-- OUTPUT_FAULT: a read-back level differs from the commanded one for more than 500 µs (R220); SA_OK or SB_OK clears and the channel runs
on (R231, R242). -/
def State.outputFault (s : State) (ch : Nat) : State :=
  if s.sys.yd || ch > 1 then s
  else
    let ran := s.chanRuns ch
    (s.chanFault ch (6 + ch) true true).safMod (fun x => { x with outFault := if ran then x.outFault ||| 2 ^ ch else x.outFault })

/-- The level of a channel's outputs: off during its test pulse (R220). -/
def State.safPin (s : State) (ch : Nat) : Nat := if s.now < s.saf.pulseTo.getD ch 0 then 0 else s.safOut ch

/-- Is a pulse due: SA at a whole second plus 250 ms, SB plus 750 ms, for 300 µs (R220; DEDUCED, log 247). -/
def State.pulseDue (s : State) (ch : Nat) : Bool :=
  let at_ := 250000000 + 500000000 * ch
  let m := s.now % 1000000000
  decide (at_ ≤ m) && decide (m < at_ + 300000) && decide (s.saf.pulseTo.getD ch 0 ≤ s.now)

/-- TEST_PULSE of a channel: its energised outputs are switched off for 300 µs; `stuck` those that do not read back de-energised (R220). -/
def State.testPulse (s : State) (ch stuck : Nat) : State :=
  if s.sys.yd || ch > 1 || !s.fbit SAF_CFG.TPULSE || !s.chanOk ch || !s.pulseDue ch then s
  else
    let s1 := s.safMod (fun x => { x with pulseTo := x.pulseTo.set ch (s.now + 300000) })
    if stuck &&& s.safOut ch = 0 then s1 else s1.outputFault ch

/-- A threshold event of the filter chain asserted: the groups the SAFETY object maps (R223). -/
def State.anaTrip (s : State) (ch ev : Nat) : State :=
  let b := (s.obj 0x1A 0).getD []
  let m := (upTo 8).foldl (fun m i =>
    let o := 20 + 4 * i
    if byteAt b (o + 3) = 1 ∧ byteAt b o = ch ∧ byteAt b (o + 1) = ev then m ||| byteAt b (o + 2) % 16 else m) 0
  if m = 0 ∨ s.sys.yd then s else s.trip [0, 1] m 3 ch false

/-- Every DISC fault cleared, the pairs judged anew from the filtered inputs (R222, R457). -/
def State.discClear (s : State) : State :=
  ((upTo 4).foldl (fun s n => s.clearAlarm 0x08 0x04 n)
    ((s.safMod (fun x => { x with diffAt := [none, none, none, none], seenOff := 0 })).fset SAF_ESTOP.DISC 0)).estAnew
      (s.fget SAF_EST_MAP.MAP)

/-- Every latch set with cause POWER_ON, the TRIP alarm of each group raised, every DISC fault cleared (R234, R236). -/
def State.safPowerOn (s : State) : State :=
  let s1 := s.safMod (fun x => { x with latch := [0, 0], out := [0, 0], msgs := [] })
  let s2 := (upTo 4).foldl (fun s g => (s.setReg (aSAF_CAUSE + 4 * g) 0).tripCause g 1 0) (s1.fset SAF_STATUS.ARMED 0)
  (((s2.latchSet 0 15).latchSet 1 15).showSaf).discClear

/-! ## Password and session (R238 to R240) -/

/-- Iterations of PBKDF2 (R238). -/
def pwIter : Nat := 20000

/-- Does a password match the stored one? -/
def pwMatches (r : PwRec) (pw : List Byte) : Bool := pbkdf2 pw r.salt pwIter == r.hash

/-- The delay before the next attempt after F failures, s (R239). -/
def pwDelay (f : Nat) : Nat := if f < 3 then 0 else min 3600 (15 * 2 ^ (f - 3))

/-- Seconds until the next attempt is accepted (R239). -/
def State.pwWait (s : State) : Nat :=
  let end_ := s.saf.pwAt + pwDelay s.d0.pwFails * 1000000000
  if s.d0.pwFails < 3 ∨ end_ ≤ s.now then 0 else min (pwDelay s.d0.pwFails) ((end_ - s.now + 999999999) / 1000000000)

/-- A failed attempt: F, the ledger, the events; the delay begins at the third (R239). -/
def State.pwFail (s : State) : State :=
  let f := satU 8 (s.d0.pwFails + 1)
  let s1 := { s with d0 := { s.d0 with pwFails := f }, saf := { s.saf with pwAt := s.now } }
  let s2 := (((s1.finc SAF_CNT.PW_FAIL).fset SAF_PW.FAILS f).ledger 0x0021 (leBytes 1 f)).event 0x08 0x06 1 (evData f 0)
  if f < 3 then s2
  else
    let d := pwDelay f
    ((s2.ledger 0x0022 (leBytes 4 d)).event 0x08 0x07 1 (evData d 0)).changeLog 0 65535 4 0 [] []

/-- A successful attempt sets F to 0. -/
def State.pwOk (s : State) : State := ({ s with d0 := { s.d0 with pwFails := 0 } }).fset SAF_PW.FAILS 0

/-- Are the characters and the length of a password allowed (R238)? -/
def pwValid (pw : List Byte) : Bool :=
  decide (8 ≤ pw.length) && decide (pw.length ≤ 32) && pw.all (fun c => decide (0x21 ≤ c.toNat) && decide (c.toNat ≤ 0x7E))

/-- Store a new password with a salt of the random source (R238). -/
def State.pwStore (s : State) (pw : List Byte) : State :=
  let salt := leBytes 8 (Config.freeWord s.free % 2 ^ 64) ++ leBytes 8 (Config.freeWord (s.free + 1) % 2 ^ 64)
  (({ s with free := s.free + 2 }).safMod (fun x => { x with pw := some ⟨salt, pbkdf2 pw salt pwIter⟩ })).fput SAF_STATUS.PW_SET true

/-- Close the safety session; staged safety objects are discarded. -/
def State.safClose (s : State) : State :=
  ({ s with cfg := { s.cfg with safSess := none, safStaged := [] } }).fset SAF_STATUS.SESSION 0

/-- SAF_SESSION_TIMEOUT: 600 s with no safety command (R240). -/
def State.safTimeout (s : State) : State :=
  match s.cfg.safSess with
  | some x => if x.last + 600000000000 ≤ s.now then s.safClose else s
  | none => s

/-- The bytes of the safety configuration that are hashed: SAFETY, then each THR_LIMITS, ascending (R240). -/
def safBytes (os : List Obj) : List Byte :=
  let of (k : Nat) : List Obj := os.filter (fun o => idKind o.id == k)
  (of 0x1A ++ of 0x03).flatMap objBytes

/-- SHA-384 of a safety configuration. -/
def safDigest (os : List Obj) : List Byte := sha384 (safBytes os)

/-- The 32-bit prefix of a digest: byte 0 in bits [31:24] (R240). -/
def digest32 (d : List Byte) : Nat := beNat (d.take 4)

end Sys2Proof.Machine
end

