-- ==== Sys2Proof/Machine/Flags.lean ====
section
/-!
DEFINITION. What a register shows: the word held in the register file, with the fields that follow other state at every
instant (R53, R93, R171, R242, R268, R322, R324, R398, R467, R490, R503).
-/

namespace Sys2Proof.Machine

/-- Set a field of a word. -/
def wset (w : Nat) (f : Fld) (v : Nat) : Nat := putBits w f.lo f.w v

/-- Signed ns of slew still to apply, towards zero, saturating at ±(2^31 − 1) (R53). -/
def State.slewRem (s : State) : Nat :=
  tc 32 (clampI (-2147483647) 2147483647 (Int.tdiv s.time.slewLeft (2 ^ 32)))

/-- MACS of the image each enabled reference names, 0 where there is none (R75). -/
def State.refMacs (s : State) : List Nat :=
  (upTo 16).map (fun r => match s.refCfg r with
    | some c => ((s.img 1 c.enc).map encMacs).getD 0
    | none => 0)

/-- The MAC sum of the references of a mask. -/
def maskSum : List Nat → Nat → Nat
  | [], _ => 0
  | m :: ms, k => (if k % 2 = 1 then m else 0) + maskSum ms (k / 2)

/-- The references assigned to FE1: the sums differ least (R75). "Ties going to FE0" (DESIGN CHOICE, log 228): FE0 takes the
larger sum, and of assignments still equal the one that leaves the lowest-numbered reference to FE0, then the next. -/
def State.fe1Mask (s : State) : Nat :=
  let l := s.refMacs.reverse
  let tot := sumN l
  let key (k : Nat) : Nat :=
    let m := maskSum l k
    2 * ((Int.ofNat tot) - 2 * Int.ofNat m).natAbs + b2n (decide (tot < 2 * m))
  let best := (upTo 65536).foldl (fun b k => if key k < key b then k else b) 0
  sumN ((upTo 16).map (fun r => if bit best (15 - r) then 2 ^ r else 0))

/-- A refined minus surveyed value of the selected reference (R64): 0 to 2 lever arm, 3 roll, 4 pitch, 5 yaw. -/
def State.alnWord (s : State) (i : Nat) : Nat :=
  match s.fus.refs[s.fget FUS_ALN_SEL.REF]? with
  | some r => tc 32 (if i < 3 then r.lever.getD i 0 else r.mount.getD (5 - i) 0)
  | none => 0

/-- GNS_CHAN_STAT of the selected channel (R268); channels 0 to 63 belong to antenna A. -/
def State.chanWord (s : State) : Nat :=
  let n := s.fget GNS_CHAN_SEL.CH
  let c := s.chan n
  let w := wset (wset (wset 0 GNS_CHAN_STAT.CN0 (satU 8 (c.cn0 / 25))) GNS_CHAN_STAT.PRN c.prn) GNS_CHAN_STAT.SIG c.sig
  wset (wset (wset w GNS_CHAN_STAT.SYS c.sys) GNS_CHAN_STAT.ANT (n / 64)) GNS_CHAN_STAT.STATE c.st

/-- HIF_STATUS (R398). -/
def State.hifStatus (s : State) : Nat :=
  let b (f : Fld) (v : Bool) (w : Nat) : Nat := wset w f (b2n v)
  b HIF_STATUS.READY s.hif.ready (b HIF_STATUS.MODE_YD_PIN s.sys.pinYd (b HIF_STATUS.HOST_SEL_PIN s.sys.pinHost
    (b HIF_STATUS.PATH s.sys.hostSel (b HIF_STATUS.SAF_SESSION s.cfg.safSess.isSome
      (b HIF_STATUS.CFG_SESSION s.cfg.cfgSess.isSome (b HIF_STATUS.UNCOMMITTED s.cfg.uncommitted (opCode s.op)))))))

/-- Is a dip in force: a rail other than VBAT has not recovered from its warning (R445). -/
def State.inDip (s : State) : Bool := s.sys.low % 64 != 0

/-- PMU_STATUS (R467). -/
def State.pmuStatus (s : State) : Nat :=
  let b (f : Fld) (v : Bool) (w : Nat) : Nat := wset w f (b2n v)
  wset (b PMU_STATUS.HOLD_OK s.sys.holdOk (b PMU_STATUS.BAT_LOW (bit s.sys.low 6) (b PMU_STATUS.SHEDDING
    (s.fget PMU_SHED.SHED != 0) (b PMU_STATUS.DIP s.inDip (if s.pwr == .harbour then 3 else 4))))) PMU_STATUS.DOM_ON s.sys.domOn

/-- PMU_VMON of the selected rail (R467). -/
def State.vmonWord (s : State) : Nat :=
  let r := s.fget PMU_VMON_SEL.RAIL
  wset (wset 0 PMU_VMON.MIN_MV (s.sys.mvMin.getD r 0xFFFF)) PMU_VMON.MV (s.sys.mv.getD r 0)

/-- DIA_FLT_LEVEL of the selected channel (R490). -/
def State.fltWord (s : State) : Nat :=
  let c := s.fltOf (s.dget DIA_FLT_SEL.CLASS) (s.dget DIA_FLT_SEL.INDEX)
  wset (wset (wset 0 DIA_FLT_LEVEL.ERRORS c.errors) DIA_FLT_LEVEL.RETIRED (b2n c.retired)) DIA_FLT_LEVEL.L c.level

/-- PNL_SEG of the selected segment (R503). -/
def State.segWord (s : State) : Nat :=
  let i := s.fget PNL_SEG_SEL.SEG
  wset (wset (wset 0 PNL_SEG.DC (tc 16 (tabGet dcDflt s.pnl.dc i))) PNL_SEG.POD (s.segPod i)) PNL_SEG.LEVEL
    (tabGet levDflt s.pnl.lev i)

/-- The system registers: HIF_ and PMU_. -/
def State.viewSys (s : State) (a w : Nat) : Nat :=
  if a = aHIF_ID then
    wset (wset (wset 0 HIF_ID.DEVICE 0x9160) HIF_ID.REV Config.siliconRev) HIF_ID.FW
      (if s.hif.ready && !s.sys.recovery then Config.fwIface else 0)
  else if a = aHIF_STATUS then s.hifStatus
  else if a = aPMU_STATUS then s.pmuStatus
  else if a = aPMU_RTC_S then s.sys.rtc / 125000000
  else if a = aPMU_RTC_SUB then
    wset (s.sys.rtc % 125000000 * 32768 / 125000000) PMU_RTC_SUB.VALID (b2n s.sys.rtcValid)
  else if a = aPMU_VMON then s.vmonWord
  else if a = aPMU_BOOT then wset w PMU_BOOT.COUNTER s.d0.arCtr
  else w

/-- The registers of time, fusion, solver, safety and GNSS. -/
def State.viewCore (s : State) (a w : Nat) : Nat :=
  if a = aTIM_NOW_LO then s.now
  else if a = aTIM_SLEW_REM then s.slewRem
  else if a = aFUS_ALN_DX then s.alnWord 0
  else if a = aFUS_ALN_DY then s.alnWord 1
  else if a = aFUS_ALN_DZ then s.alnWord 2
  else if a = aFUS_ALN_ROLL then s.alnWord 3
  else if a = aFUS_ALN_PITCH then s.alnWord 4
  else if a = aFUS_ALN_YAW then s.alnWord 5
  else if aFUS_REF_STAT ≤ a ∧ a < aFUS_REF_STAT + 64 then
    wset w FUS_REF_STAT.FE (b2n (bit s.fe1Mask ((a - aFUS_REF_STAT) / 4)))
  else if a = aSLV_STATUS then
    wset w SLV_STATUS.SE_RETIRED (b2n (s.engDead 7) + 2 * b2n (s.engDead 8))
  else if a = aSAF_STATUS then
    wset (wset w SAF_STATUS.LOCKOUT (b2n (s.pwWait != 0))) SAF_STATUS.ENERGISED (s.safPin 0 &&& s.safPin 1)
  else if a = aRED_LINK then wset w RED_LINK.PIERS_SEEN (satU 16 s.piersSeen)
  else if a = aSAF_PW then wset w SAF_PW.WAIT (satU 16 s.pwWait)
  else if a = aGNS_CLK_B_LO then tc 64 s.ppsFold.bPps
  else if a = aGNS_CHAN_STAT then s.chanWord
  else if a = aGNS_COARSE_STAT then wset w GNS_COARSE_STAT.AGE s.coarseAge
  else w

/-- SHADOW: a unit in any role but ACTIVE, SOLO and ZONE submits no CAN_TX entries (R354). In BOOT the reset value shows (DEDUCED,
log 276). -/
def State.shadow (s : State) : Bool := s.op != .boot && s.role != .active && s.role != .solo && s.role != .zone

/-- The registers of CAN, the logic, diagnostics and the panel. -/
def State.viewIo (s : State) (a w : Nat) : Nat :=
  if a = aCAN_TSC then s.canTsc
  else if 0xD100 ≤ a ∧ (regTemplate a).1 = aCAN_USTAT then
    wset w CAN_USTAT.ACTIVE (b2n (s.uartActive (regTemplate a).2))
  else if a = aDIA_REC_WP_LO then s.recd.wp
  else if a = aDIA_REC_WP_HI then s.dia.recLatch.toNat
  else if a = aDIA_LEDGER then wset (wset w DIA_LEDGER.CL_HEAD s.d0.clHead) DIA_LEDGER.HEAD s.d0.head
  else if a = aDIA_FLT_LEVEL then s.fltWord
  else if a = aPNL_SEG then s.segWord
  else if a = aLOG_STATUS then wset w LOG_STATUS.SHADOW (b2n s.shadow)
  else w

/-- The word a register shows. -/
def State.view (s : State) (a : Nat) : Word :=
  let w := (s.reg a).toNat
  BitVec.ofNat 32
    (if a < 0x1000 ∨ (0xB400 ≤ a ∧ a < 0xB800) then s.viewSys a w
     else if a < 0xAC00 then s.viewCore a w
     else s.viewIo a w)

/-- A field as a register shows it. -/
def State.vget (s : State) (f : Fld) : Nat := bits (s.view f.addr).toNat f.lo f.w

end Sys2Proof.Machine
end

