-- ==== Sys2Proof/Machine/Image.lean ====
section
/-!
DEFINITION. State images (R206 to R209): capture and transfer by the holder, reception, adoption, catch-up, failure.
-/

namespace Sys2Proof.Machine

/-- What an image carries besides the manifest tail (R208). -/
structure ImgSt where
  fus : FusSt              -- FUSION_STATE
  ckpts : List Ckpt        -- FUSION_CKPT
  cex : CexSt              -- CONTROL_CKPT, MPC
  allocs : List AllocSt    -- ALLOC
  base : List (Option (Word × Nat))
  thr : List (Option ThrStat)
  sect : List (Option SectStat)
  excl : Nat
  scenEn : Nat             -- SCENARIO
  scenNext : Nat
  caps : List Nat          -- words of SLV_CAP
  logic : List (Nat × LState)   -- LOGIC
  frameCfg : Nat × Nat × Nat    -- TIME: P, CUTOFF, RETRO_H
  armed : Option (Nat × Nat)
  deriving DecidableEq, Repr

end Sys2Proof.Machine

namespace Sys2Proof.Config

/-- The bytes of section 1 to 8 of an image: R208 gives their contents and not their layout. -/
opaque imgSection : Nat → Machine.ImgSt → List Byte

/-- What sections 1 to 8, as type and bytes, stand for; none where they cannot be read. -/
opaque imgRead : List (Nat × List Byte) → Option Machine.ImgSt

end Sys2Proof.Config

namespace Sys2Proof.Machine

/-- The state at the present boundary, as an image carries it. -/
def State.imgState (s : State) : ImgSt :=
  { fus := s.fus, ckpts := s.cex.ckpts, cex := s.cex, allocs := s.slv.allocs.take 1, base := s.slv.base, thr := s.slv.thr,
    sect := s.slv.sect, excl := s.slv.excl, scenEn := s.fget SLV_SCEN.EN, scenNext := s.slv.scenNext,
    caps := (upTo 16).map (fun i => (s.reg (aSLV_CAP + 4 * i)).toNat), logic := s.lgc.states,
    frameCfg := (s.time.period, s.time.cutoff, s.time.retroH), armed := s.time.armed }

/-- The section table of sections laid one after the other (R207). -/
def imgTable : Nat → List (Nat × List Byte) → List Byte
  | _, [] => []
  | o, (t, b) :: r => leBytes 2 t ++ leBytes 2 0 ++ leBytes 4 o ++ leBytes 4 b.length ++ imgTable (o + b.length) r

/-- An image: the section table, then the sections. -/
def imgBytes (secs : List (Nat × List Byte)) : List Byte :=
  leBytes 4 secs.length ++ imgTable (4 + 12 * secs.length) secs ++ secs.flatMap (·.2)

/-- The sections of an image. -/
def imgSecs (b : List Byte) : List (Nat × List Byte) :=
  (upTo (uAt 4 b 0)).map (fun i =>
    let o := 4 + 12 * i
    (uAt 2 b o, (b.drop (uAt 4 b (o + 4))).take (uAt 4 b (o + 8))))

/-- The segments of an image: the payload of each PDU (R207). -/
def imgSegs (tov target crc total : Nat) : Nat → Nat → List Byte → List (List Byte)
  | 0, _, _ => []
  | n + 1, o, b =>
    if b.isEmpty then []
    else
      let d := b.take 8192
      (leBytes 8 tov ++ leBytes 4 total ++ leBytes 4 o ++ leBytes 2 d.length ++ leBytes 1 target ++ leBytes 1 0 ++ leBytes 4 crc ++ d)
        :: imgSegs tov target crc total n (o + d.length) (b.drop 8192)

/-- The image of the present boundary (R207, R208). -/
def State.imgNow (s : State) : List Byte :=
  let st := s.imgState
  imgBytes (((upTo 8).map (fun i => (i + 1, Config.imgSection (i + 1) st))) ++ [(9, s.red.prevMan)])

/-- Capture and send the image of the unit that has waited longest (R206): one image at a time. -/
def State.imgCapture (s : State) : State :=
  match s.red.imgWait with
  | [] => s
  | u :: rest =>
    if !s.role.holds || !s.runs then s
    else
      let b := s.imgNow
      let k := s.time.frame
      let segs := imgSegs (s.fOf k) u (crc32c b) b.length (b.length / 8192 + 1) 0 b
      let spans := s.spansUp.filter (fun n => s.spanUnit n == u)
      let s1 := segs.foldl (fun s p =>
        let d := s.ownPdu pduImage k p
        (spans.foldl (fun s n => s.send (.span n) (s.spanFrame n d)) s).seqUp pduImage) s
      s1.redMod (fun x => { x with imgWait := rest })

/-- Drop what a request has gathered and count the failure (R206, R209). -/
def State.imgDrop (s : State) : State :=
  let s1 := s.redMod (fun x => { x with reqAt := none, imgRx := none, catchB := none, manBuf := [] })
  (((s1.fset RED_ROLE.CATCHUP 0).fup RED_STATUS.RESYNC_FAIL).event 0x07 0x0A 1 (evData s.unit 0))

/-- Adopt an image as of F(b): what stays is what belongs to this unit's own engines and ports (R208, R209). -/
def State.imgAdopt (s : State) (b : Nat) (st : ImgSt) (tail : List Byte) : State :=
  let c := { st.cex with ckpts := st.ckpts, returning := s.cex.returning, moving := s.cex.moving, retroRun := none, retroRes := none }
  let slv := { s.slv with allocs := st.allocs, base := st.base, thr := st.thr, sect := st.sect, excl := st.excl,
                          scenNext := st.scenNext, mpc := none, scen := none }
  let s1 := { s with fus := { st.fus with imgBad := s.fus.imgBad, imgNew := s.fus.imgNew }, cex := c, slv := slv, retro := [],
                     lgc := { s.lgc with states := st.logic.filter (fun p => s.lgc.insts.any (fun i => i.id == p.1)) } }
  let s2 := ((s1.fput FUS_CFG.AUTO_READMIT st.fus.autoReadmit).fset SLV_SCEN.EN st.scenEn).timeMod (fun t => { t with
    period := st.frameCfg.1, cutoff := st.frameCfg.2.1, retroH := st.frameCfg.2.2, armed := st.armed })
  let s3 := st.caps.zipIdx.foldl (fun s p => s.setReg (aSLV_CAP + 4 * p.2) (BitVec.ofNat 32 p.1)) s2
  let s4 := s3.redMod (fun x => { x with reqAt := none, imgRx := none, catchB := some b, prevMan := tail, redo := [], rx := [],
                                         man := none, nextMan := none, following := false })
  ((((s4.fusShow s4.fus).showFunc.showMpc).lgcAdopt b).finc RED_CNT.RESYNC).fset RED_ROLE.CATCHUP 1

/-- An image received whole: refused with a reserved section or a wrong CRC, else adopted. -/
def State.imgWhole (s : State) (r : ImgRx) : State :=
  let b := (r.segs.foldl (fun (acc : List Byte) x => acc.take x.1 ++ x.2 ++ acc.drop (x.1 + x.2.length)) (List.replicate r.total 0))
  let secs := imgSecs b
  if crc32c b ≠ r.crc || secs.any (fun p => p.1 = 0 || 9 < p.1) then s.imgDrop
  else match Config.imgRead (secs.filter (fun p => p.1 != 9)) with
    | none => s.imgDrop
    | some st => s.imgAdopt r.b st (((secs.find? (fun p => p.1 == 9)).map (·.2)).getD [])

/-- STATE_IMAGE_RX on a span: a segment for this unit while its request is in force, in a role that requests (R206, R207). -/
def State.imageRx (s : State) (via : Via) (bs : List Byte) : State :=
  match s.pduIn via pduImage bs with
  | (s1, none) => s1
  | (s1, some p) =>
    let b := p.payload
    let (total, ofs, len) := (uAt 4 b 8, uAt 4 b 12, uAt 2 b 16)
    if byteAt b 18 ≠ s1.unit || !(s1.role == .ready || s1.role == .standby || s1.role == .isolated) || s1.red.reqAt.isNone || len = 0 || 8192 < len || 8388608 < total || total < ofs + len
        || b.length < 24 + len then s1
    else
      let k := uAt 8 b 0 / s1.pNs
      let old : ImgRx := match s1.red.imgRx with
        | some r => if r.b = k ∧ r.crc = uAt 4 b 20 ∧ r.total = total then r else ⟨k, total, uAt 4 b 20, []⟩
        | none => ⟨k, total, uAt 4 b 20, []⟩
      let new := if old.segs.any (fun x => x.1 == ofs) then old else { old with segs := old.segs ++ [(ofs, (b.drop 24).take len)] }
      let s2 := (s1.redMod (fun x => { x with imgRx := some new })).fset RED_ROLE.CATCHUP 1
      if sumN (new.segs.map (fun x => x.2.length)) = total then s2.imgWhole new else s2

/-! ## Catch-up (R209) -/

/-- The force of the commands observed for frame `j` as tau_app, and the degrees it does not achieve; a thruster not observed counts
with the command that stands. -/
def State.obsForce (s : State) (j : Nat) : State :=
  let f := s.thrIdx.foldl (fun f i => match s.thr i with
    | none => f
    | some c =>
      let (t, ang) := match (s.red.obs.filter (fun o => o.frame == j && o.thr == i)).getLast? with
        | some o => (o.t, o.ang)
        | none => (s.slv.base.getD i none).getD (0, 0)
      List.zipWith fadd f (thrForce c t ang)) [0, 0, 0]
  let (tau, fl) := s.tauNorm f
  let na := (upTo 3).map (fun i => flt (naTol s.allocBody i) (fabs (fsub (s.cex.demand.getD i 0) (f.getD i 0))))
  (s.cexMod (fun c => { c with tauApp := tau, notAch := na })).satFlags (s.fget CEX_ASSIGN.OBS) fl

/-- One frame executed from its manifest, outside the frame windows: an unfollowable one (R185; DEDUCED, log 248). -/
def State.catchFrame (s : State) (b : Nat) (m : Manifest) : State :=
  let j := m.frame
  let s0 := ((s.timeMod (fun t => { t with frame := j })).redTurn).markUnfol j
  let s1 := if s0.cex.propOwed then s0.obsProp else s0
  let s2 := (if j = b then s1.tauTake (j - 1) else s1.obsForce (j - 1)).fusBoundary
  let s3 := s2.refineAt.rederive m.flags
  let ctx := s3.followCtx m
  let used : List StatIn := m.stats.map (fun e => ⟨e.1, s3.now, j, 0, e.2⟩)
  let s4 := s3.redMod (fun x => { x with following := true, man := some m, fctx := ctx, cmds := m.cmds, used := used })
  let s5 := used.foldl (fun s x => s.statTake j x) s4
  let s6 := match m.mpc with | some e => s5.mpcListed e | none => s5
  let s7 := s6.afterInputs ctx
  let s8 := (s7.onInputs (State.fuse · false)).onInputs State.obsCommit
  let s9 := ((s8.onInputs (State.applyAt · .capture)).onInputs State.obsProp).ckptFix
  (((s9.onInputs State.controlLaw).lgcCatch j).applyAt .next).takeGroups (s9.fOf (j + 1))

/-- The buffered manifests of frames b up to k - 1, in order; none while one is missing. -/
def State.catchList (s : State) (b k : Nat) : Option (List Manifest) :=
  ((upTo (k - b)).map (· + b)).foldr (fun j acc => match acc, s.red.manBuf.find? (fun m => m.frame == j) with
    | some l, some m => some (m :: l)
    | _, _ => none) (some [])

/-- CATCH_UP_DONE: caught up before CUTOFF + 0.05 P of the frame in progress (R209); a unit whose configuration differs from the holder's
stays READY (R172). -/
def State.catchUp (s : State) : State :=
  match s.red.catchB with
  | none => s
  | some b =>
    let k := s.time.frame
    match s.catchList b k with
    | none => s
    | some ms =>
      if decide (b + 64 < k) || decide (s.atPct k (s.time.cutoff + 5) ≤ s.now) then s
      else
        let s1 := (ms.foldl (fun s m => s.catchFrame b m) s).timeMod (fun t => { t with frame := k })
        let next := s1.red.manBuf.find? (fun m => m.frame == k)
        let s2 := (s1.redTurn.redMod (fun x => { x with catchB := none, manBuf := [], nextMan := next })).fset RED_ROLE.CATCHUP 0
        let s3 := if s2.cex.propOwed then s2.obsProp else s2
        let s4 := (if k = b then s3.tauTake (k - 1) else s3.obsForce (k - 1)).fusBoundary
        let s5 := if s4.role == .ready && !s4.hashDiff then (s4.setRole .standby).setQual false else s4
        if s5.cutDue then s5.cutoffRun else s5

/-- RESYNC_FAIL: the image is not complete within 32 frames of the request, or the unit not current within 64 frames of b
(R206, R209). -/
def State.resyncFail (s : State) : State :=
  let late := (match s.red.reqAt with | some r => decide (r + 32 < s.time.frame) | none => false)
    || (match s.red.catchB with | some b => decide (b + 64 < s.time.frame) | none => false)
  if late then s.imgDrop else s

/-- A READY unit whose configuration matches the holder's requests an image (R206). -/
def State.readyReq (s : State) : State :=
  let h := s.fget RED_ROLE.HOLDER
  let ok := match s.lease h with | some l => l.hash == s.hash && recent s.time.frame s.keyLease (match l.net, l.span with
    | some a, some b => some (max a b) | some a, none => some a | none, x => x) | none => false
  if s.role == .ready && s.runs && h ≠ 3 && h ≠ s.unit && ok && s.red.catchB.isNone then s.reqImage else s

end Sys2Proof.Machine
end

