-- ==== Sys2Proof/Machine/Diag.lean ====
section
/-!
DEFINITION. The harvest latch (R469 to R472), ledger commits (R487 to R489), the recorder (R473 to R478).
-/

namespace Sys2Proof.Machine

/-! ## Harvest (R469 to R472) -/

/-- Words of registers as they show. -/
def State.words (s : State) (as : List Nat) : List Byte := as.flatMap (fun a => leBytes 4 (s.view a).toNat)

/-- QSTATE of SC0 to SC255, four bits each (R471). -/
def State.qNibbles (s : State) : List Byte :=
  (upTo 128).map (fun i => BitVec.ofNat 8 (qCode (s.ctxOf (2 * i)).q + 16 * qCode (s.ctxOf (2 * i + 1)).q))

/-- Bytes 64 to 1,019 of a harvest record: the blocks in order (R471). -/
def State.harvBlocks (s : State) : List Byte :=
  let w := s.words
  let mv (i : Nat) : List Byte := leBytes 2 (s.sys.mv.getD i 0)
  w [aTIM_INC_FRAC, aTIM_INC_INT, aTIM_STATUS, aTIM_SLEW_REM, aTIM_SRV_STAT, aTIM_OFS_PRI, aTIM_OFS_SEC, aTIM_FREQ]
  ++ s.qNibbles
  ++ w [aFUS_STATUS, aFUS_REFMAP, aFUS_REJECT, aFUS_DRTIME, aFUS_CENTRE_N, aFUS_CENTRE_E, aFUS_REC] ++ leBytes 4 0
  ++ w [aCEX_ASSIGN, aCEX_FUNC, aCEX_STATUS, aCEX_REGION, aCEX_DEMAND_X, aCEX_DEMAND_Y, aCEX_DEMAND_N, aCEX_REC]
  ++ w [aSLV_STATUS, aSLV_AVAIL, aSLV_SECT, aSLV_MPC, aSLV_MPC_K0, aSLV_PROMO, aSLV_REC, aSLV_SLOT]
  ++ w [aRED_ROLE, aRED_EPOCH, aRED_HELD, aRED_LINK, aRED_STATUS, aRED_MISMATCH, aRED_QUAL, aRED_HEALTH]
  ++ w [aSAF_STATUS, aSAF_CAUSE, aSAF_CAUSE + 4, aSAF_CAUSE + 8, aSAF_CAUSE + 12, aSAF_ESTOP, aSAF_RUN, aSAF_SF2_NOW]
  ++ w [aGNS_STATUS, aGNS_TP_STAT, aGNS_TP_UNC, aGNS_CLK_B_LO, aGNS_CLK_B_HI, aGNS_MREC, aGNS_TREC, aGNS_IF_STAT]
  ++ w ((upTo 6).map (fun n => aNET_PORT_STAT + 4 * n)) ++ leBytes 8 0
  ++ w ((upTo 8).map (fun n => aCAN_STAT + 0x100 * n)) ++ w ((upTo 8).map (fun n => aCAN_TXBUF + 0x100 * n))
  ++ w ((upTo 32).map (fun n => aSDF_CH_STAT + 0x20 * n))
  ++ w [aLOG_STATUS, aLOG_PROG_ID, aLOG_ONL, aLOG_TASK_CYC, aLOG_TASK_CYC + 16, aLOG_TASK_TIME, aLOG_TASK_TIME + 16]
  ++ leBytes 4 0
  ++ w [aPMU_STATUS, aPMU_SHED, aPMU_DIP] ++ (upTo 8).flatMap mv ++ leBytes 4 0
  ++ w ((upTo 8).map (fun i => aPNL_STATUS + 4 * i))
  ++ w [aDIA_RET_ENG, aDIA_RET_IO, aDIA_RET_CMD, aDIA_REC_STAT, aDIA_RPL_STAT, aDIA_LEDGER] ++ leBytes 8 0
  ++ w [aHIF_STATUS, aHIF_CMD_CI, aHIF_RSP_PI, aHIF_EVT_PI]
  ++ (upTo 16).flatMap (fun e =>
       leBytes 4 (Config.engPc e s.free % 2 ^ 31 + 2 ^ 31 * b2n (s.engDead e)))

/-- A harvest record (R471). -/
def State.harvRec (s : State) (h : Harv) (flags : Nat) : List Byte :=
  let head := leBytes 8 s.now ++ leBytes 8 h.at_ ++ leBytes 4 (s.now / s.pNs) ++ leBytes 4 h.id ++ leBytes 2 h.origin
    ++ leBytes 1 h.cause ++ leBytes 1 flags ++ leBytes 4 s.dia.harvSeq ++ leBytes 32 0
  let b := fitBytes 1020 (head ++ s.harvBlocks)
  b ++ leBytes 4 (crc32c b)

/-- Write one harvest's record to the ring, then the event and the recorder entry (R472). -/
def State.harvPut (s : State) (h : Harv) (rec : List Byte) : State :=
  let i := (s.fget DIA_HREC.IDX + 1) % 16
  let s1 := (s.wrB rgnHarv (i * 1024) rec).fset DIA_HREC.IDX i
  let s2 := s1.diaMod (fun d => { d with harvSeq := (d.harvSeq + 1) % 2 ^ 32 })
  let s3 := s2.event 0x0F 0x01 0 (leBytes 4 h.id ++ leBytes 1 (h.flags % 2))
  (s3.stage 10 0 rec).ledger 0x0050 (leBytes 4 h.id ++ leBytes 1 h.cause)

/-- HARVEST_LATCH: at the first edge at or after AT the words are latched and each harvest due gets its record (R469 to
R472). Words of every record are those of the latch. -/
def State.harvestLatch (s : State) : State :=
  let due := s.dia.harv.filter (fun h => decide (h.at_ ≤ s.now))
  if due.isEmpty || !s.clocked then s
  else
    let latched := s
    let s1 := (s.diaMod (fun d => { d with harv := d.harv.filter (fun h => decide (s.now < h.at_)) })).showHarv.tick1
    let (s2, snap) := if s1.fbit GNS_SNAP_CFG.ON_HARVEST then s1.snapTrig 1 else (s1, false)
    let extra := 8 * b2n snap + 16 * b2n (decide (1 < due.length))
    due.foldl (fun s h =>
      s.harvPut h (({ latched with dia := { latched.dia with harvSeq := s.dia.harvSeq } }).harvRec h (h.flags + extra))) s2

/-! ## The ledger (R487 to R489) -/

/-- An entry of the ring: TIME, SEQ, TYPE, FRAME, DATA, CRC. -/
def ledBytes (e : LedReq) (seq : Nat) : List Byte :=
  let b := leBytes 8 e.time ++ leBytes 4 seq ++ leBytes 2 e.type ++ leBytes 4 e.frame ++ fitBytes 10 e.data
  b ++ leBytes 4 (crc32c b)

/-- Write an entry, then the header. -/
def State.ledPut (s : State) (e : LedReq) : State :=
  let s1 := s.wrB rgnLed (576 + 32 * s.d0.head) (ledBytes e s.d0.nextSeq)
  { s1 with d0 := { s1.d0 with head := (s1.d0.head + 1) % 110, nextSeq := (s1.d0.nextSeq + 1) % 2 ^ 32 } }

/-- Commit the oldest request, whatever the supply. When the queue empties with entries dropped, one LOST entry follows. -/
def State.ledHead (s : State) : State :=
  match s.d0.queue with
  | [] => s
  | e :: r =>
    let s1 := { (s.ledPut e) with d0 := { (s.ledPut e).d0 with queue := r } }
    if r.isEmpty && decide (0 < s1.d0.lostNew) then
      { s1 with d0 := { s1.d0 with queue := [⟨s.now, s.time.frame, 0x00FF, leBytes 4 s1.d0.lostNew⟩], lostNew := 0 } }
    else s1

/-- LEDGER_COMMIT: one queued request, unless commits are held (R445, R448). -/
def State.ledgerCommit (s : State) : State := if s.writesHeld then s else s.ledHead

/-- The ledger header (R487). -/
def State.ledHeader (s : State) : List Byte :=
  let d := s.d0
  let b := leBytes 4 0x4C445847 ++ leBytes 2 1 ++ leBytes 1 d.head ++ leBytes 1 d.clHead ++ leBytes 4 d.epochHi
    ++ leBytes 4 d.clSeq ++ leBytes 1 d.pwFails ++ leBytes 1 d.arCtr ++ leBytes 2 0 ++ leBytes 4 d.nextSeq ++ leBytes 4 d.lost
    ++ leBytes 32 0
  b ++ leBytes 4 (crc32c b)

/-- The ledger's 4,096 bytes. -/
def State.ledImage (s : State) : List Byte := s.ledHeader ++ s.rdB rgnLed 64 4032

/-! ## The recorder (R473 to R478) -/

/-- Write the recorder record. -/
def State.recMod (s : State) (f : RecSt → RecSt) : State := { s with recd := f s.recd }

/-- Show the staging fill and the sink in force (R490). -/
def State.showRec (s : State) : State :=
  ((s.fset DIA_REC_STAT.FILL (recUsed s.recd * 100 / 2097152)).fset DIA_REC_STAT.SINK s.recd.sink).fset DIA_REC_STAT.PORT s.recd.port

/-- Payload of a MARK (R473). -/
def markBytes (code n : Nat) : List Byte := leBytes 2 code ++ leBytes 4 n

/-- Payload of a CONFIG: every object in force, then each image in force. -/
def State.recConfig (s : State) : List Byte :=
  s.cfg.objs.flatMap objBytes
    ++ s.cfg.imgs.flatMap (fun i => leBytes 1 i.kind ++ leBytes 1 i.slot ++ leBytes 2 0 ++ leBytes 4 (imgCrc i))

/-- Stage the CHECKPOINT of the present boundary. -/
def State.recCkpt (s : State) : State := (s.stage 12 0 s.imgNow).recMod (fun r => { r with ckptAt := s.now })

/-- A recording starts (R477). -/
def State.recStart (s : State) (sink port : Nat) : State :=
  let s1 := s.recMod (fun r => { r with sink := sink, port := port, startAt := s.now, ckptAt := s.now })
  (((s1.stage 13 0 (markBytes 1 0)).stage 11 0 s1.recConfig).recCkpt).showRec

/-- A recording stops (R477). -/
def State.recStop (s : State) : State :=
  ((s.stage 13 0 (markBytes 2 0)).recMod (fun r => { r with sink := 0 })).showRec

/-- REC_CTRL at its boundary (R477): entries staged before go to the old sink. -/
def State.recApply (s : State) : State :=
  match s.recd.req with
  | none => s
  | some (sink, port) =>
    let s1 := s.recMod (fun r => { r with req := none })
    if sink = s1.recd.sink && (sink != 2 || port == s1.recd.port) then s1
    else
      let s2 := if s1.recd.sink = 0 then s1 else s1.recStop
      if sink = 0 then s2 else s2.recStart sink port

/-- REC_CHECKPOINT: CKPT_INT counted from the start, captured at a boundary (R473, R477). -/
def State.recCheckpoint (s : State) : State :=
  if s.recd.sink = 0 || s.time.cutDone || s.now < s.recd.ckptAt + s.dget DIA_CFG.CKPT_INT * 1000000000 || !s.clocked then s
  else
    let at_ := s.recd.ckptAt
    let n := (s.now - at_) / (s.dget DIA_CFG.CKPT_INT * 1000000000)
    (s.stage 12 0 s.imgNow).recMod (fun r => { r with ckptAt := at_ + n * s.dget DIA_CFG.CKPT_INT * 1000000000 })

/-- What a block takes from staging. -/
structure RecPick where
  bytes : List Byte
  first : Option Nat       -- place of the first header that begins among them
  rest : List RecEntry
  into : Nat
  deriving DecidableEq, Repr

/-- Gather up to `room` bytes of the entries of one sink and port, oldest first; `ofs` bytes are gathered already. -/
def recGather (sink port : Nat) : List RecEntry → Nat → Nat → Nat → RecPick
  | [], _, _, _ => ⟨[], none, [], 0⟩
  | e :: es, into, room, ofs =>
    if e.sink ≠ sink ∨ e.port ≠ port ∨ room = 0 then ⟨[], none, e :: es, into⟩
    else
      let left := e.bytes.length - into
      if left ≤ room then
        let p := recGather sink port es 0 (room - left) (ofs + left)
        ⟨e.bytes.drop into ++ p.bytes, if into = 0 then some ofs else p.first, p.rest, p.into⟩
      else ⟨(e.bytes.drop into).take room, if into = 0 then some ofs else none, e :: es, into + room⟩

/-- A block: header and entry bytes (R475). -/
def State.recBlock (s : State) (p : RecPick) : List Byte :=
  let h := leBytes 4 0x43525847 ++ leBytes 8 s.recd.bseq ++ leBytes 1 s.unit ++ leBytes 1 0
    ++ leBytes 2 (match p.first with | some o => 32 + o | none => 0xFFFF) ++ leBytes 2 p.bytes.length ++ leBytes 10 0
  h ++ leBytes 4 (crc32c (h ++ p.bytes)) ++ p.bytes

/-- The block that can be written now for a sink: a full one, or what is left of a recording that has ended; with `flush`
whatever is staged. -/
def State.recNext (s : State) (sink : Nat) (flush : Bool) : Option RecPick :=
  match s.recd.staged with
  | [] => none
  | e :: _ =>
    if e.sink ≠ sink then none
    else
      let p := recGather sink e.port s.recd.staged s.recd.into 4064 0
      let ended := p.rest.isEmpty && (s.recd.sink != sink || s.recd.port != e.port) || (match p.rest with
        | r :: _ => r.sink != sink || r.port != e.port | [] => false)
      if p.bytes.length = 4064 || ended || flush then some p else none

/-- Staging after a block: it is shorter, and below 50 % a MARK reports what was refused (R474). -/
def State.recTook (s : State) (p : RecPick) : State :=
  let s1 := (s.recMod (fun r => { r with staged := p.rest, into := p.into, bseq := r.bseq + 1 })).showRec
  if 0 < s1.recd.gapNew && recUsed s1.recd * 2 < 2097152 then
    let n := s1.recd.gapNew
    ((s1.recMod (fun r => { r with gapNew := 0 })).stage 13 0 (markBytes 4 n)).fup DIA_REC_STAT.GAP
  else s1

/-- Size of the recorder ring (R460): to the end of the device, of 64 MB to 1 GB. -/
def recRing : Nat := (max 0x4000000 (min Config.flashSize 0x40000000) - 0x3100000) / 65536 * 65536

/-- Erase a 64 KB sector of the ring. -/
def State.recErase (s : State) (o : Nat) : State :=
  { s with mem := s.mem.filter (fun c => !(decide (cell rgnRing o ≤ c.1) && decide (c.1 < cell rgnRing (o + 65536)))) }

/-- Write one block to the flash ring (R475): before a sector is written the one after it is erased. A write that fails
leaves staging as it was. -/
def State.recFlash (s : State) (p : RecPick) : State :=
  let (s0, ok) := s.flashTry
  if !ok then s0
  else
    let w := s0.recd.wp
    let s1 := if w % 65536 = 0 then s0.recErase ((w + 65536) % recRing) else s0
    ((s1.wrB rgnRing w (s1.recBlock p)).recMod (fun r => { r with wp := (w + 4096) % recRing })).recTook p

/-- REC_BLOCK_WRITE: writes wait during a dip (R445). -/
def State.recBlockWrite (s : State) : State :=
  if s.writesHeld then s
  else match s.recNext 1 false with | some p => s.recFlash p | none => s

/-- Send one block as four datagrams (R476). -/
def State.recSend (s : State) (n : Nat) (p : RecPick) : State :=
  let b := fitBytes 4096 (s.recBlock p)
  let q := s.recd.bseq
  ((upTo 4).foldl (fun s i =>
    s.send (.eth n) (s.udpFrame n 0 (s.fget DIA_REC_ADDR.ADDR) (s.fget DIA_REC_PORT.PORT)
      (leBytes 8 q ++ leBytes 1 i ++ leBytes 7 0 ++ (b.drop (1024 * i)).take 1024))) s).recTook p

/-- REC_BLOCK_SEND: staging drains at the port's rate; a port without link sends nothing. -/
def State.recBlockSend (s : State) : State :=
  match s.recd.staged with
  | e :: _ =>
    if s.clocked && s.ethOn e.port && s.fbit (fldAt NET_PORT_STAT.LINK e.port) then
      match s.recNext 2 false with | some p => s.recSend e.port p | none => s
    else s
  | [] => s

/-- Drain staging to the sinks its entries name, at most `n` blocks (R451, R478); what cannot be sent is dropped. -/
def State.recDrain (s : State) : Nat → State
  | 0 => s
  | n + 1 =>
    match s.recd.staged with
    | [] => s
    | e :: _ =>
      match s.recNext e.sink true with
      | none => s
      | some p =>
        if e.sink = 1 then (s.recFlash p).recDrain n
        else if s.ethOn e.port && s.fbit (fldAt NET_PORT_STAT.LINK e.port) then (s.recSend e.port p).recDrain n
        else s.recMod (fun r => { r with staged := [], into := 0 })

/-- Staging is dropped and the recorder is off (R457, R478). -/
def State.recOff (s : State) : State :=
  (s.recMod (fun r => { r with sink := 0, port := 0, req := none, staged := [], into := 0, gapNew := 0 })).showRec

/-- LEAK_TICK (R484): the buckets are brought up to the millisecond TIME_NS has reached. -/
def State.leakTick (s : State) : State := s.leakTo (s.now / 1000000)

end Sys2Proof.Machine
end

