-- ==== Sys2Proof/Machine/Replay.lean ====
section
/-!
DEFINITION. Replay (R479 to R483): blocks and entries read back, the checkpoint adopted, recorded frames run and compared.
-/

namespace Sys2Proof.Machine

/-- Change the replay. -/
def State.rplMod (s : State) (f : Replay → Replay) : State := s.diaMod (fun d => { d with rpl := d.rpl.map f })

/-- Replay states and reasons (R482). -/
def rplLoading : Nat := 1
def rplRunning : Nat := 2
def rplWaiting : Nat := 3
def rplDone : Nat := 4
def rplStopped : Nat := 5

/-- Show the replay's state and its buffer. -/
def State.showRpl (s : State) (st reason : Nat) : State :=
  ((s.fset DIA_RPL_STAT.STATE st).fset DIA_RPL_STAT.REASON reason).fset DIA_RPL_STAT.BUF
    (match s.dia.rpl with | some r => r.blocks.length | none => 0)

/-- REPLAY_ENTER (R479): the unit is in REPLAY with role NONE, the recorder is off. -/
def State.rplEnter (s : State) (flash : Bool) (start : Nat) : State :=
  let r : Replay := {
    flash := flash, start := start, pos := none, bseq := none, blocks := [], bytes := [], joined := false,
    part := [], ents := [], cfg := none, ckpt := none, run := none, k := 0, frameCfg := (s.time.period, s.time.cutoff, s.time.retroH),
    fus := s.fus, cex := s.cex, slv := s.slv, red := s.red, regs := s.regs }
  let s1 := (if s.recd.sink = 0 then s else s.recStop).recMod (fun x => { x with req := none })
  let s2 := ({ s1 with op := .replay }).setRole .none
  (((s2.diaMod (fun d => { d with rpl := some r })).showRpl rplLoading 0).tpCheck).showPnl

/-- Stop the replay with a reason. -/
def State.rplStop (s : State) (reason : Nat) : State := s.showRpl rplStopped reason

/-! ## Blocks and entries -/

/-- A block read back is whole (R475). -/
def blockOk (b : List Byte) : Bool :=
  uAt 4 b 0 == 0x43525847 && decide (uAt 2 b 16 ≤ 4064) && decide (32 + uAt 2 b 16 ≤ b.length)
    && crc32c (b.take 28 ++ (b.drop 32).take (uAt 2 b 16)) == uAt 4 b 28

/-- REPLAY_FEED: one block into the buffer; none while it is full (R482). -/
def State.rplFeed (s : State) (b : List Byte) : Option State :=
  match s.dia.rpl with
  | none => some s
  | some r =>
    if s.fget DIA_RPL_STAT.STATE = rplStopped then some s
    else if r.blocks.length ≥ 64 then none
    else
      let last := match r.blocks.getLast? with | some x => some (uAt 8 x 4) | none => r.bseq
      let q := uAt 8 b 4
      if !blockOk b then some (s.rplStop 4)
      else match last with
        | some l =>
          if q ≤ l then some (s.rplStop 5) else if q ≠ l + 1 then some (s.rplStop 4)
          else some ((s.rplMod (fun r => { r with blocks := r.blocks ++ [b] })).showRpl (s.fget DIA_RPL_STAT.STATE) 0)
        | none => some ((s.rplMod (fun r => { r with blocks := r.blocks ++ [b] })).showRpl (s.fget DIA_RPL_STAT.STATE) 0)

/-- The next block of the source and the replay after it; none when the buffer is empty or the write pointer is reached. -/
def State.rplNext (s : State) (r : Replay) : Option (List Byte × Replay) :=
  if r.flash then
    let p := r.pos.getD s.recd.wp
    if r.pos == some s.recd.wp then none
    else some (s.rdB rgnRing p 4096, { r with pos := some ((p + 4096) % recRing) })
  else match r.blocks with
    | [] => none
    | b :: bs => some (b, { r with blocks := bs })

/-- Cut whole entries off a byte sequence: the entries with their CONT flags, and what is left. -/
def cutEntries : Nat → List Byte → List (RecIn × Bool) × List Byte
  | 0, b => ([], b)
  | n + 1, b =>
    let len := uAt 2 b 14
    let tot := 16 + (len + 3) / 4 * 4
    if b.length < 16 ∨ b.length < tot then ([], b)
    else
      let e : RecIn := ⟨uAt 8 b 0, uAt 4 b 8, byteAt b 12, bit (byteAt b 13) 1, (b.drop 16).take len⟩
      let (es, rest) := cutEntries n (b.drop tot)
      ((e, bit (byteAt b 13) 0) :: es, rest)

/-- Join fragments: the fragments held so far, and the entries they and the new ones complete. -/
def joinParts : List Byte → List (RecIn × Bool) → List Byte × List RecIn
  | part, [] => (part, [])
  | part, (e, true) :: es => joinParts (part ++ e.body) es
  | part, (e, false) :: es => let (p, r) := joinParts [] es; (p, { e with body := part ++ e.body } :: r)

/-- A CONFIG entry: objects, then images (R473). -/
def cfgEntry : Nat → List Byte → RecCfg
  | 0, _ => ⟨[], []⟩
  | n + 1, b =>
    if b.length < 8 then ⟨[], []⟩
    else if byteAt b 2 = 1 ∧ 12 ≤ b.length then
      let len := uAt 4 b 4
      let c := cfgEntry n (b.drop (12 + len))
      { c with objs := ⟨uAt 2 b 0, byteAt b 3, (b.drop 12).take len⟩ :: c.objs }
    else
      let c := cfgEntry n (b.drop 8)
      { c with imgs := (byteAt b 0, byteAt b 1, uAt 4 b 4) :: c.imgs }

/-- Take one entry: while the checkpoint is sought, CONFIG and CHECKPOINT entries are noted and what precedes the latest
checkpoint is dropped. -/
def rplEnt (r : Replay) (e : RecIn) : Replay :=
  if r.run.isSome then { r with ents := r.ents ++ [e] }
  else if e.type = 11 then { r with cfg := some (cfgEntry e.body.length e.body), ents := r.ents ++ [e] }
  else if e.type = 12 ∧ e.time ≤ r.start then { r with ckpt := some ⟨e, r.cfg⟩, ents := [] }
  else { r with ents := r.ents ++ [e] }

/-- Take a block: false when it is a gap (R482). -/
def rplTake (r : Replay) (b : List Byte) : Replay × Bool :=
  if !blockOk b then (r, r.bseq.isNone)
  else
    let q := uAt 8 b 4
    let inOrder := match r.bseq with | some l => q == l + 1 | none => true
    if !inOrder then (r, false)
    else
      let body := (b.drop 32).take (uAt 2 b 16)
      let first := uAt 2 b 14
      let new := if r.joined then body else if first = 0xFFFF then [] else body.drop (first - 32)
      let (es, rest) := cutEntries (r.bytes.length + new.length) (r.bytes ++ new)
      let (part, done) := joinParts r.part es
      let r1 := { r with bseq := some q, joined := r.joined || first != 0xFFFF, bytes := rest, part := part }
      (done.foldl rplEnt r1, true)

/-- The places of the MANIFEST entries among those held. -/
def manPlaces (es : List RecIn) : List Nat := (es.zipIdx.filter (fun p => p.1.type == 1)).map (·.2)

/-- Can the replay go on without reading further: the checkpoint is settled, or a frame and its successor's manifest are
held. -/
def rplReady (r : Replay) : Bool :=
  if r.run.isSome then decide (2 ≤ (manPlaces r.ents).length) else r.ents.any (fun e => decide (r.start < e.time))

/-- What reading has come to. -/
inductive RplRead where
  | ready | empty | gap
  deriving DecidableEq, Repr

/-- Read blocks until the replay can go on, the source is empty, or a gap is met. -/
def State.rplPull (s : State) : Nat → Replay → Replay × RplRead
  | 0, r => (r, if rplReady r then .ready else .empty)
  | n + 1, r =>
    if rplReady r then (r, .ready)
    else match s.rplNext r with
      | none => (r, .empty)
      | some (b, r1) =>
        let (r2, ok) := rplTake r1 b
        if ok then s.rplPull n r2 else (r2, .gap)

/-! ## The replay area (R480) -/

/-- The state in which recorded frames run: objects, registers and runtime state of the replay area, entries staged apart. -/
def State.rplArea (s : State) (r : Replay) (objs : List Obj) : State :=
  { s with
    regs := r.regs, fus := { r.fus with imgBad := s.fus.imgBad, imgNew := s.fus.imgNew }, cex := r.cex, slv := r.slv, red := r.red, ctx := [], retro := [],
    op := .standby, role := .standby, cfg := { s.cfg with objs := objs },
    recd := { s.recd with sink := 1, staged := [], into := 0, gapNew := 0 },
    time := { s.time with period := r.frameCfg.1, cutoff := r.frameCfg.2.1, retroH := r.frameCfg.2.2, armed := none } }

/-- What a run in the replay area leaves of it. -/
def rplBack (r : Replay) (t : State) : Replay :=
  { r with fus := t.fus, cex := t.cex, slv := t.slv, red := t.red, regs := t.regs,
           frameCfg := (t.time.period, t.time.cutoff, t.time.retroH) }

/-- Load the recorded configuration and adopt the checkpoint (R480). -/
def State.rplLoad (s : State) (r : Replay) : State :=
  match r.ckpt with
  | none => s.rplStop 1
  | some c =>
    match c.cfg with
    | none => s.rplStop 2
    | some g =>
      if g.objs.any (fun o => !idExists o.id || (objFault (idKind o.id) (idIdx o.id) o.body).isSome) then s.rplStop 2
      else if g.imgs.any (fun i => !(s.cfg.imgs.any (fun x => x.kind == i.1 && x.slot == i.2.1 && imgCrc x == i.2.2))) then s.rplStop 3
      else
        let secs := imgSecs c.ent.body
        match Config.imgRead (secs.filter (fun p => p.1 != 9)) with
        | none => s.rplStop 1
        | some st =>
          let area := (s.rplArea r g.objs).loadObjs g.objs
          let t := area.imgAdopt c.ent.frame st (((secs.find? (fun p => p.1 == 9)).map (·.2)).getD [])
          let t1 := t.redMod (fun x => { x with catchB := none })
          (s.rplMod (fun q => { (rplBack q t1) with run := some g.objs, k := c.ent.frame - 1 })).showRpl rplRunning 0

/-! ## A recorded frame (R480, R481) -/

/-- The commands of an OUTPUT entry: APPLY_AT, THRUST, ANGLE, VERSION, SLOT, STAT. -/
def outPieces (b : List Byte) : List (List Byte) := (upTo (b.length / 20)).map (fun i => (b.drop (20 * i)).take 20)

/-- The frame an OUTPUT entry belongs to. -/
def State.outFrame (s : State) (b : List Byte) : Nat := uAt 8 b 0 / s.pNs - 1

/-- Take the slot an OUTPUT entry names as sent, and compare its commands with the own result: the thrusters that differ. -/
def State.rplOutput (s : State) (b : List Byte) : State × List Nat :=
  let k := s.outFrame b
  match s.allocOf k with
  | none => (s, [])
  | some a =>
    let ver := byteAt b 16
    let i := byteAt b 17
    let set := if ver = 0 then s.streams else s.supSet a i
    let stat := if a.released then stNotRun else (a.slots.getD i slotIdle).stat
    let own := set.map (fun p => (p.1, outputBytes i stat [s.entryOf k ver a.released (a.result i) p.1 p.2]))
    let diff := (List.zip own ((outPieces b).map some ++ List.replicate own.length none)).filter (fun x => x.2 != some x.1.2)
    let a1 := if ver = 0 then { a with sent := some i, pass := a.pass ||| 2 ^ i, compared := true, first := true, promoted := i != 0,
                                       cmds := set.map (fun p => let e := s.entryOf k 0 a.released (a.result i) p.1 p.2; ⟨p.1, 0, e.t, e.ang⟩) }
      else { a with sup := i + 16 * ver, supd := true, promoted := true }
    (s.allocPut a1, diff.map (fun x => 0x0100 + x.1.1))

/-- Take every OUTPUT entry of frame `k`. -/
def State.rplOutputs (s : State) (k : Nat) (es : List RecIn) : State × List Nat :=
  (es.filter (fun e => e.type == 5 && s.outFrame e.body == k)).foldl (fun (p : State × List Nat) e =>
    let (s1, d) := p.1.rplOutput e.body
    (s1, p.2 ++ d)) (s, [])

/-- Take the COMMAND PDUs recorded in a frame (R159). -/
def State.rplPdus (s : State) (k : Nat) (es : List RecIn) : State :=
  (es.filter (fun e => e.type == 4)).foldl (fun s e =>
    match pduParse pduCommand (e.body.drop 8) with
    | .ok p => s.obsPayload (expandFrame k p.frame) p.payload
    | _ => s) s

/-- How the solve of a slot with recorded status word `w` ends in replay, where deadlines are not checked: of itself, or after the
recorded ITER of a timed result; FALLBACK before iterate 0 (R146). -/
def rplCut (w : Nat) : Option Cut :=
  if !stTimed w then none else some ⟨if stStatus w = 5 then none else some (stIter w), stStatus w⟩

/-- Solve the slots of frame `k` with the recorded status words; a slot recorded as NOT_RUN is left (R146). -/
def State.rplSlots (s : State) (k : Nat) (stats : Option (List Nat)) : State :=
  let s1 := (upTo 16).foldl (fun s i =>
    match s.allocOf k with
    | none => s
    | some a =>
      let w := match stats with | some l => l.getD i stNotRun | none => 0
      if !a.started || !(a.solving i || a.todo.contains i) || stStatus w = stNotRun then s else s.slotStop a i (rplCut w) (if bit w 10 then 2 ^ 31 else 0)) s
  match s1.allocOf k with
  | some a => s1.allocPut { a with todo := [], busy := [] }
  | none => s1

/-- The retro pass of a frame on the samples its supplement lists (R52). -/
def State.rplRetro (s : State) (es : List RecIn) : State :=
  match es.find? (fun e => e.type == 2) with
  | none => s
  | some e =>
    let l := (getSamps (e.body.drop 64) (uAt 2 e.body 26) 0).1
    let xs : List RetroS := l.map (fun x =>
      let (fmt, nc) := s.ctxShape x.ctx
      ⟨x.ctx, sampleOf (s.fbit (fldAt SCX_CFG.HERMITE x.ctx)) fmt nc x, 0, 0, s.time.frame, true⟩)
    s.cexMod (fun c => { c with retroRes := (s.retroCalc xs).map (fun p => (p.1, p.2.1)) })

/-- Run one frame in the replay area on its manifest `m` and the entries of its group `es`; `nf` are the FLAGS of the next
manifest, which say how the frame ended on the holder. The second value lists the streams that differ. -/
def State.rplFrame (t : State) (m : Manifest) (es : List RecIn) (nf : Nat) (stats : Option (List Nat)) : State × List Nat :=
  let j := m.frame
  let (t0, d0) := t.rplOutputs (j - 1) es
  let t1 := (t0.settle (j - 1)).timeMod (fun x => { x with frame := j })
  let rec0 := (es.find? (fun e => e.type == 8)).map (·.body)
  let slv := match t1.allocOf (j - 1), rec0 with | some a, some b => t1.allocRecord a != b | _, _ => false
  let t2 := ((t1.redTurn.tauTake (j - 1)).fusBoundary.refineAt).retroAdopt (bit m.flags 6)
  let ctx := t2.followCtx m
  let used : List StatIn := m.stats.map (fun e => ⟨e.1, t2.now, j, 0, e.2⟩)
  let t3 := ({ t2 with op := if bit m.flags 9 then .degraded else .standby }).redMod
    (fun x => { x with following := true, man := some m, fctx := ctx, cmds := m.cmds, used := used })
  let t4 := (used.foldl (fun s x => s.statTake j x) t3).judgePaths
  let t5 := match m.mpc with | some e => t4.mpcListed e | none => t4
  let t6 := (((t5.applyAt .snapshot).ckptPush ctx).snapshot j).redoPush.applyAt .profile
  let t7 := if bit nf 3 then t6.profileLate else t6.profileStep
  let t8 := t7.onInputs (fun s => if bit nf 0 then s.fuseLate else s.fuse false)
  let t9 := (t8.onInputs (fun s => if bit nf 1 then s.obsLate else s.obsCommit)).onInputs (State.applyAt · .capture)
  let t10 := if bit nf 1 then t9 else (t9.onInputs State.obsProp)
  let t11 := (t10.ckptFix).onInputs (fun s => if bit nf 2 then s.controlLate else s.controlLaw)
  let t12 := if bit nf 1 then t11.onInputs State.obsProp else t11
  let t13 := ((t12.allocStart).rplSlots j stats).rplPdus j es
  let (t14, d1) := t13.rplOutputs j es
  let t15 := (t14.rplRetro es).applyAt .next
  let mine (ty : Nat) : Option (List Byte) :=
    ((t15.recd.staged.filter (fun e => byteAt e.bytes 12 == ty)).head?).map (fun e => (e.bytes.drop 16).take (uAt 2 e.bytes 14))
  let diff (ty n : Nat) : List Nat := match (es.find? (fun e => e.type == ty)), mine ty with
    | some e, some b => if e.body = b then [] else [n]
    | some _, none => [n]
    | none, _ => []
  ({ t15 with recd := { t15.recd with staged := [] } }, diff 6 0 ++ diff 7 1 ++ (if slv then [2] else []) ++ d0 ++ d1)

/-- Report the differences of a frame (R481); with RPL_STOP = 1 the first stops the replay. -/
def State.rplReport (s : State) (k : Nat) (ds : List Nat) : State :=
  let stop := s.dget DIA_CFG.RPL_STOP = 1
  let s1 := (if stop then ds.take 1 else ds).foldl (fun s d =>
    (s.event 0x0F 0x04 2 (leBytes 4 k ++ leBytes 2 d)).finc DIA_RPL_CNT.MISMATCH) s
  let s2 := (s1.finc DIA_RPL_CNT.FRAMES).fset DIA_RPL_FRAME.FRAME k
  if stop && !ds.isEmpty then s2.rplStop 6 else s2

/-- The manifest of an entry. -/
def entMan (e : RecIn) : Manifest := manOf 0 0 e.frame (e.body.take 64) (e.body.drop 64)

/-- Run the oldest frame held; `last` when no manifest follows it. -/
def State.rplOne (s : State) (r : Replay) (objs : List Obj) : State :=
  match manPlaces r.ents with
  | [] => s
  | i :: more =>
    let n := match more with | j :: _ => j | [] => r.ents.length
    let grp := (r.ents.take n).drop i
    let next := (r.ents.drop n).head?.map entMan
    match grp with
    | [] => s
    | e :: _ =>
      let m := entMan e
      if r.ents.take n |>.any (fun x => x.type == 13 && uAt 2 x.body 0 == 4) then s.rplStop 4
      else if m.frame ≠ (r.k + 1) % 2 ^ 32 then s.rplStop 4
      else
        let nf := match next with | some x => x.flags | none => 0
        let (t, ds) := (s.rplArea r objs).rplFrame m grp nf (next.map (·.slotStat))
        (s.rplMod (fun q => { (rplBack q t) with k := m.frame, ents := q.ents.drop n })).rplReport m.frame ds

/-- REPLAY_FRAME (R480 to R482): read on, then load the checkpoint or run one recorded frame. -/
def State.replayFrame (s : State) : State :=
  match s.dia.rpl with
  | none => s
  | some r0 =>
    let st := s.fget DIA_RPL_STAT.STATE
    if st = rplStopped ∨ st = rplDone ∨ s.op ≠ .replay then s
    else
      let (r, got) := s.rplPull (if r0.flash then recRing / 4096 + 1 else 65) r0
      let s1 := (s.diaMod (fun d => { d with rpl := some r })).showRpl (if r.run.isSome then rplRunning else rplLoading) 0
      match got, r.run with
      | .gap, _ => s1.rplStop 4
      | .ready, none => s1.rplLoad r
      | .ready, some objs => s1.rplOne r objs
      | .empty, none => if r.flash then s1.rplLoad r else s1.showRpl rplWaiting 0
      | .empty, some objs =>
        if r.flash then
          let s2 := s1.rplOne r objs
          if s2.fget DIA_RPL_STAT.STATE = rplStopped then s2 else s2.showRpl rplDone 0
        else s1.showRpl rplWaiting 0

end Sys2Proof.Machine
end

