-- ==== Sys2Proof/Machine/Yd.lean ====
section
/-!
DEFINITION. YD-22 mode (R413 to R437): the register protocol, the control cycle and its arithmetic, the pseudo-inverse
allocation, the CAN message set and buffers, and the duplex pins. A cycle is worked out whole at its start and released
at its T_calc.
-/

namespace Sys2Proof.Machine

/-- Change the YD-22 state. -/
def State.ydMod (s : State) (f : YdSt → YdSt) : State := { s with yd := f s.yd }

/-- The YD-22 personality runs: SV has booted and loaded the registers (R419). -/
def State.ydOn (s : State) : Bool := s.sys.yd && s.clocked && s.yd.ready

/-- Set bits of YD_ALARM. -/
def State.ydAlarm (s : State) (m : Nat) : State := s.ydPut 0x04 (s.ydReg 0x04 ||| m)

/-! ## Registers (R418 to R422) -/

/-- Is an address the low half of a pair (R418, R420, R422, R434)? -/
def ydLow (a : Nat) : Bool :=
  [0x08, 0x0A, 0x10, 0x12, 0x1A, 0x1C, 0xA0, 0xA2, 0xC3, 0xC5].contains a
  || (decide (0x20 ≤ a) && decide (a < 0x50) && [0, 2, 4, 6, 10, 12, 14].contains (a % 16))
/-- Is an address the high half of a pair? -/
def ydHigh (a : Nat) : Bool := decide (0 < a) && ydLow (a - 1)
/-- Are the registers of a pair read only? -/
def ydPairRo (lo : Nat) : Bool := [0x10, 0x12, 0xA0, 0xA2, 0x2E, 0x3E, 0x4E].contains lo

/-- A message buffer as reset leaves it. -/
def ydMb0 (_ : Nat) : YdMb := ⟨0, 0, 0, 0, [0, 0, 0, 0, 0, 0, 0, 0]⟩
def State.ydBuf (s : State) (k : Nat) : YdMb := tabGet ydMb0 s.yd.mb k
def State.ydBufPut (s : State) (k : Nat) (m : YdMb) : State := s.ydMod (fun y => { y with mb := tabSet ydMb0 y.mb k m })
/-- The buffer YD_MB_SEL names: controller × 16 + buffer. -/
def State.ydSel (s : State) : Nat := s.ydReg 0xC0 % 32

/-- The engines of YD_SELFTEST: SV, CE0, CE1, GTE, NTE (R420). -/
def ydEngs : List Nat := [0, 3, 4, 14, 15]

/-- What a register holds for a read (R420, R421, R434). -/
def State.ydVal (s : State) (a : Nat) : Nat :=
  let m := s.ydBuf s.ydSel
  match a with
  | 0x02 => s.ydReg 2 + 0x8000 * b2n s.yd.saving.isSome + 0x100 * b2n s.yd.capture
  | 0x03 => s.ydReg 3 + 0x8000 * b2n s.yd.ready + 0x4000 * b2n s.yd.fault + 0x2000 * b2n s.yd.master
  | 0xB2 => s.fget (fldAt CAN_STAT.STATE 0) + 4 * s.fget (fldAt CAN_STAT.STATE 1)
  | 0xC1 => m.cfg
  | 0xC2 => m.stat
  | 0xC3 => m.id % 65536
  | 0xC4 => m.id / 65536
  | 0xC5 => m.mask % 65536
  | 0xC6 => m.mask / 65536
  | 0xC7 => uAt 2 m.data 0
  | 0xC8 => uAt 2 m.data 2
  | 0xC9 => uAt 2 m.data 4
  | 0xCA => uAt 2 m.data 6
  | 0xCB => sumN ((upTo 16).map (fun b => 2 ^ b * ((s.ydBuf b).stat % 2)))
  | 0xCC => sumN ((upTo 16).map (fun b => 2 ^ b * ((s.ydBuf (16 + b)).stat % 2)))
  | 0xD1 => b2n s.yd.master + 2 * b2n s.yd.pinIn + 4 * b2n s.yd.conflict
  | 0xF0 => s.ydReg 0xF0 + 0x8000 * b2n s.yd.unset
  | 0xF1 => sumN (ydEngs.zipIdx.map (fun p => 2 ^ p.2 * b2n (s.engDead p.1)))
  | _ => s.ydReg a

/-- Give up mastery (R436). -/
def State.ydGiveUp (s : State) : State :=
  if s.yd.master then (s.ydMod (fun y => { y with master := false })).ledger 0x0042 [0] else s
/-- Become master (R436). -/
def State.ydBecome (s : State) : State :=
  if s.yd.master then s
  else ((s.ydMod (fun y => { y with master := true })).ydPut 0xD2 (s.ydReg 0xD2 + 1)).ledger 0x0042 [1]
/-- FAULT: no THR_CMD, MASTER_OUT low, a ledger entry (R415). -/
def State.ydFault (s : State) : State :=
  if s.yd.fault then s else ((s.ydMod (fun y => { y with fault := true })).ydGiveUp).ledger 0x0041 []

/-- The writable registers kept by SAVE, outside the message buffers (R416, R420). -/
def ydSaved (a : Nat) : Bool :=
  [0x02, 0x08, 0x09, 0x0A, 0x0B, 0x0C, 0x18, 0x19, 0x1A, 0x1B, 0x1C, 0x1D, 0x1E, 0x1F, 0x93, 0xA6, 0xB0, 0xB1, 0xB3, 0xB4, 0xC0,
   0xD0].contains a
  || (decide (0x20 ≤ a) && decide (a < 0x50) && decide (a % 16 < 14)) || (decide (0x50 ≤ a) && decide (a < 0x90) && decide (a % 8 < 5))

/-- The write of a waiting SAVE: the stored image is replaced, or SAVE_FAIL set (R416). -/
def State.ydSaveTry (s : State) : State :=
  match s.yd.saving with
  | none => s
  | some im =>
    if s.writesHeld then s
    else
      let (s1, ok) := s.flashTry
      let s2 := s1.ydMod (fun y => { y with saving := none })
      if ok then { s2 with flash := { s2.flash with yd := some im } } else s2.ydAlarm 0x200

/-- SAVE: the image is taken at the write (R416). -/
def State.ydSave (s : State) : State :=
  let regs := s.yd.regs.filter (fun p => ydSaved p.1)
  let mb := s.yd.mb.filterMap (fun p =>
    let m := { p.2 with cfg := putBits p.2.cfg 13 1 0, stat := 0 }
    if m = ydMb0 p.1 then none else some (p.1, m))
  (s.ydMod (fun y => { y with saving := some (regs, mb) })).ydSaveTry

/-- The bit timing of controller `n` from YD_CAN_RATE: the table of R301 with BRP 8, 4, 2 or 1 (R432). -/
def State.ydRate (s : State) (n : Nat) : State :=
  let r := bits (s.ydReg 0xB0) (2 * n) 2
  let s1 := (s.canStop n).fset (fldAt CAN_NBT.NBRP n) (2 ^ (3 - r) - 1)
  s1.canInitLeave n

/-- kN and kE, formed whenever the origin is written, at 2^17 times its latitude (R59, R426). -/
def State.ydOrigin (s : State) : State :=
  let lat := sx 32 (s.ydReg 0x1A + 65536 * s.ydReg 0x1B) * 2 ^ 17
  s.ydMod (fun y => { y with kN := kNorth lat, kE := kEast lat })

/-- A write of YD_CONTROL (R421, R436). SRST is requested, and performed by its own command. -/
def State.ydControl (s : State) (v : Nat) : State :=
  if v % 8 > 3 then s
  else
    let s1 := (s.ydPut 2 (v &&& 0x97)).ydMod (fun y => { y with modeWr := true, capture := y.capture || bit v 8 })
    let s2 := if bit v 15 then s1.ydSave else s1
    let s3 := if bit v 14 then { s2 with sys := { s2.sys with rstReq := some (.srst, 1) } } else s2
    if bit v 4 && bit v 7 then s3 else s3.ydGiveUp

/-- The queue entry of a message buffer is still waiting or loaded. -/
def State.ydQueued (s : State) (k : Nat) : Bool :=
  let c := s.ctl (k / 16)
  c.queue.any (fun e => e.mb == some k) || c.bufs.any (fun b => match b with | some e => e.mb == some k | none => false)

/-- TX_REQ clears when the frame has left (R434). -/
def State.ydTxSync (s : State) : State :=
  (upTo 32).foldl (fun s k =>
    let m := s.ydBuf k
    if bit m.cfg 13 && !s.ydQueued k then s.ydBufPut k { m with cfg := putBits m.cfg 13 1 0 } else s) s

/-- Setting TX_REQ of an enabled transmit buffer submits its frame (R434). -/
def State.ydTxReq (s : State) (k : Nat) : State :=
  let m := s.ydBuf k
  if !(bit m.cfg 15 && bit m.cfg 14) || bit m.cfg 13 then s
  else
    let dlc := m.cfg % 16
    let msg : CanMsg := ⟨m.id % 2 ^ 29, bit m.id 31, false, false, dlc, m.data.take dlc⟩
    match s.canSubmit (k / 16) msg 0 none (some k) with
    | (s1, none) => s1.ydBufPut k { m with cfg := putBits m.cfg 13 1 1 }
    | (s1, some _) => s1

/-- A write of a register of the message buffer window (R434). -/
def State.ydMbWrite (s : State) (a v : Nat) : State :=
  let k := s.ydSel
  let m := s.ydBuf k
  match a with
  | 0xC0 => s.ydPut 0xC0 (v % 32)
  | 0xC1 =>
    if v % 16 > 8 then s
    else
      let s1 := s.ydBufPut k { m with cfg := (v &&& 0xC00F) + 0x2000 * b2n (bit m.cfg 13) }
      if bit v 13 then s1.ydTxReq k else s1
  | 0xC2 => s.ydBufPut k { m with stat := m.stat - (m.stat &&& v) }
  | _ =>
    if 0xC7 ≤ a ∧ a ≤ 0xCA then
      if bit m.cfg 14 && bit m.cfg 13 then s
      else
        let o := 2 * (a - 0xC7)
        s.ydBufPut k { m with data := m.data.take o ++ leBytes 2 v ++ m.data.drop (o + 2) }
    else s

/-- What a write of a plain register stores; none: the write is ignored (R420, R422). -/
def ydStore (a v : Nat) : Option Nat :=
  let between (lo hi : Nat) : Option Nat := if lo ≤ v ∧ v ≤ hi then some v else none
  match a with
  | 0x0C => some v
  | 0x18 => between 0 1
  | 0x19 => between 1 0x7FFF
  | 0x1E => some v
  | 0x1F => some v
  | 0x93 => between 100 5000
  | 0xA6 => some (v % 4)
  | 0xB0 => some (v % 16)
  | 0xB1 => some (v % 8192)
  | 0xB3 => between 100 5000
  | 0xB4 => some v
  | 0xD0 => some (v &&& 5)
  | _ =>
    if 0x20 ≤ a ∧ a < 0x50 then (if a % 16 = 8 ∨ a % 16 = 9 then some (v &&& 0x1F1F) else none)
    else if 0x50 ≤ a ∧ a < 0x90 then
      match a % 8 with
      | 0 => if v % 4 ≤ 1 then some (v &&& 0x8003) else none
      | 3 => between 1 65535
      | 1 => some v
      | 2 => some v
      | 4 => some v
      | _ => none
    else none

/-- Load both halves of a pair (R418, R434). -/
def State.ydLoadPair (s : State) (lo l h : Nat) : State :=
  let k := s.ydSel
  let m := s.ydBuf k
  if ydPairRo lo then s
  else if lo = 0xC3 then s.ydBufPut k { m with id := (l + 65536 * h) &&& 0x9FFFFFFF }
  else if lo = 0xC5 then s.ydBufPut k { m with mask := (l + 65536 * h) &&& 0x1FFFFFFF }
  else
    let s1 := (s.ydPut lo l).ydPut (lo + 1) h
    if lo = 0x1A ∨ lo = 0x1C then s1.ydOrigin else s1

/-- A write of one register (R418 to R422). -/
def State.ydWrite (s : State) (a v : Nat) : State :=
  if !s.ydOn then s
  else if ydLow a then (if ydPairRo a then s else s.ydMod (fun y => { y with low := some (a, v) }))
  else if ydHigh a then
    match s.yd.low with
    | some (b, l) => if b = a - 1 then (s.ydMod (fun y => { y with low := none })).ydLoadPair (a - 1) l v
        else s.ydLoadPair (a - 1) (s.ydVal (a - 1)) v
    | none => s.ydLoadPair (a - 1) (s.ydVal (a - 1)) v
  else if a = 0x02 then s.ydControl v
  else if a = 0x04 then s.ydPut 4 (s.ydReg 4 - (s.ydReg 4 &&& v))
  else if 0xC0 ≤ a ∧ a ≤ 0xCC then s.ydMbWrite a v
  else match ydStore a v with
    | none => s
    | some w =>
      let old := s.ydReg a
      let s1 := s.ydPut a w
      if a = 0xB0 then (upTo 2).foldl (fun s n => if bits old (2 * n) 2 != bits w (2 * n) 2 then s.ydRate n else s) s1 else s1

/-- A read of one register with what it brings about (R418 to R420). -/
def State.ydRead (s : State) (a : Nat) : State × Nat :=
  if !s.ydOn then (s, 0)
  else
    match (match s.yd.high with | some (b, h) => if b = a then some h else none | none => none) with
    | some h => (s.ydMod (fun y => { y with high := none }), h)
    | none =>
      let v := s.ydVal a
      let s1 := if ydLow a then s.ydMod (fun y => { y with high := some (a + 1, s.ydVal (a + 1)) }) else s
      let s2 := if a = 0x03 then s1.ydMod (fun y => { y with intLow := false }) else if a = 0xF3 then s1.ydPut 0xF3 0 else s1
      (s2, v)

/-- Count an ignored opcode or an incomplete register (R417, R420). -/
def State.ydSpiErr (s : State) : State := if s.ydOn then s.ydPut 0xF3 (min 65535 (s.ydReg 0xF3 + 1)) else s

/-- Read `n` registers from an address, which wraps from 0xFF to 0x00, high byte first (R417). -/
def State.ydReadN (s : State) (a : Nat) : Nat → State × List Byte
  | 0 => (s, [])
  | n + 1 =>
    let (s1, v) := s.ydRead (a % 256)
    let (s2, r) := s1.ydReadN (a + 1) n
    (s2, (leBytes 2 v).reverse ++ r)

/-- Write data words from an address (R417); a last byte alone is a register left incomplete. -/
def State.ydWriteN (s : State) (a : Nat) : List Byte → State
  | h :: l :: r => (s.ydWrite (a % 256) (256 * h.toNat + l.toNat)).ydWriteN (a + 1) r
  | [_] => s.ydSpiErr
  | [] => s

/-- A READ transaction that clocks `n` data bytes (R417). -/
def State.ydSpiReadOp (s : State) (addr n : Nat) : State :=
  if !s.sys.yd then s
  else
    let (s1, bs) := s.ydReadN addr (n / 2)
    let (s2, last) := if n % 2 = 1 then (s1.ydSpiErr, [BitVec.ofNat 8 ((if s1.ydOn then s1.ydVal ((addr + n / 2) % 256) else 0) / 256)])
      else (s1, [])
    s2.send .spi (bs ++ last)

/-- Any transaction but a READ: its bytes from the opcode on (R417). -/
def State.ydSpiWriteOp (s : State) (bs : List Byte) : State :=
  if !s.sys.yd then s
  else match bs with
    | [] => s
    | op :: r =>
      if op.toNat = 3 then (match r with | a :: d => s.ydSpiReadOp a.toNat d.length | [] => s.ydSpiErr)
      else if op.toNat ≠ 2 then s.ydSpiErr
      else match r with
        | [] => s.ydSpiErr
        | a :: d => s.ydWriteN a.toNat d

/-! ## Inputs and the estimate (R426) -/

/-- The copy of the registers a cycle works on (R418). -/
abbrev YdCopy := Nat → Nat
/-- A signed pair of the copy. -/
def ydPair (r : YdCopy) (a : Nat) : Int := sx 32 (r a + 65536 * r (a + 1))

/-- An input received within YD_MSG_TO of C(n) (R426). -/
def ydFresh (r : YdCopy) (cn : Nat) (x : Option YdIn) : Bool :=
  match x with | some x => decide (cn ≤ x.at_ + 1000000 * r 0xB3) | none => false

/-- An input of the message set, if it is there. -/
def YdSt.inp (y : YdSt) (i : Nat) : Option YdIn := y.ins.getD i none
/-- Its bytes. -/
def YdSt.inpB (y : YdSt) (i : Nat) : List Byte := match y.inp i with | some x => x.data | none => []

/-- The inputs of a cycle and whether each is OK. -/
structure YdInputs where
  gnss : Option GnssPos
  hdgOk : Bool
  windOk : Bool
  pos2Ok : Bool
  joyOk : Bool
  hdg : Nat
  rate : Nat
  windV : Nat
  windDir : Nat
  posN : Int
  posE : Int
  joy : List Int
  deriving DecidableEq, Repr

/-- The inputs of cycle `n` (R426). -/
def State.ydInputs (s : State) (r : YdCopy) (n : Nat) : YdInputs :=
  let cn := n * 100000000
  let h := s.yd.inpB 0
  let w := s.yd.inpB 1
  let p := s.yd.inpB 2
  let j := s.yd.inpB 3
  let fix := if bit (r 0xA6) 0 then
      match s.yd.fix.find? (fun x => x.1 + 1 == n) with | some (_, some g) => if posValid g then some g else none | _ => none
    else none
  { gnss := fix, hdgOk := ydFresh r cn (s.yd.inp 0) && uAt 1 h 4 != 0, windOk := ydFresh r cn (s.yd.inp 1),
    pos2Ok := ydFresh r cn (s.yd.inp 2), joyOk := ydFresh r cn (s.yd.inp 3), hdg := uAt 2 h 0, rate := uAt 2 h 2,
    windV := uAt 2 w 0, windDir := uAt 2 w 2, posN := sAt 4 p 0, posE := sAt 4 p 4, joy := [sAt 2 j 0, sAt 2 j 2, sAt 2 j 4] }

/-- The selected source of position is OK. -/
def ydSrcOk (r : YdCopy) (i : YdInputs) : Bool := if r 0x18 = 1 then i.pos2Ok else i.gnss.isSome

/-- The raw position in mm (R426, R59). -/
def ydRaw (y : YdSt) (r : YdCopy) (i : YdInputs) : Int × Int :=
  if r 0x18 = 1 then (i.posN, i.posE)
  else match i.gnss with
    | none => (0, 0)
    | some g =>
      let north := fmul y.kN (fofInt (g.lat - ydPair r 0x1A * 2 ^ 17))
      let east := fmul y.kE (fofInt (g.lon - ydPair r 0x1C * 2 ^ 17))
      let c := cosB (i.hdg * 65536)
      let sn := sinB (i.hdg * 65536)
      let lx := fofInt (10 * sx 16 (r 0x1E))
      let ly := fofInt (10 * sx 16 (r 0x1F))
      (fSatInt rndEven 32 (fsub north (fsub (fmul lx c) (fmul ly sn))),
       fSatInt rndEven 32 (fsub east (fadd (fmul lx sn) (fmul ly c))))

/-- The estimate: filtered, or seeded when the source returns to OK (R426). -/
def ydEstimate (y : YdSt) (r : YdCopy) (i : YdInputs) : Option (Int × Int) :=
  if !ydSrcOk r i then y.pf
  else
    let p := ydRaw y r i
    match y.pf with
    | none => some p
    | some f =>
      if !y.srcOk then some p
      else
        let go (f p : Int) : Int := f + asr ((p - f) * Int.ofNat (r 0x19)) 15
        some (go f.1 p.1, go f.2 p.2)

/-- MODE in force at C(n) and the POS_LOST and HDG_LOST bits of YD_ALARM (R429). -/
def ydMode (y : YdSt) (r : YdCopy) (i : YdInputs) : Nat × Nat :=
  let src := ydSrcOk r i
  if y.modeWr then
    let m := r 0x02 % 8
    let m1 := if m = 3 ∧ !src then 2 else m
    (if m1 ≥ 2 ∧ !i.hdgOk then 1 else m1, 0)
  else
    let posLost := decide (y.mode = 3) && !src
    let hdgLost := decide (y.mode ≥ 2) && !i.hdgOk
    (if hdgLost then 1 else if posLost then 2 else y.mode, 4 * b2n posLost + 2 * b2n hdgLost)

/-! ## The law (R427 to R429) -/

/-- A value and whether forming it saturated. -/
structure YdV where
  v : Int
  sat : Bool
  deriving DecidableEq, Repr

/-- sat32 (R427). -/
def ydSat (x : Int) : YdV := ⟨satS 32 x, decide (satS 32 x ≠ x)⟩
/-- mulsh: the exact product shifted arithmetically and saturated (R427). -/
def ydMulsh (c : Int) (sh : Nat) (x : Int) : YdV := ydSat (asr (c * x) sh)
/-- A saturating sum of a value and another, keeping whether anything saturated. -/
def YdV.add (a b : YdV) : YdV := let x := ydSat (a.v + b.v); ⟨x.v, a.sat || b.sat || x.sat⟩
/-- clamp to -lim..lim; with a negative limit the rule gives no result: `open_`. -/
def ydClamp (lim open_ x : Int) : Int := if lim < 0 then open_ else clampI (-lim) lim x

/-- What the law leaves of an axis. -/
structure YdAxisRes where
  demand : Int
  ax : YdAxis
  sat : Bool
  deriving DecidableEq, Repr

/-- One axis under the PID (R428); `b` its block, `e` its error, `w` its wind term. -/
def ydPid (r : YdCopy) (b : Nat) (a : YdAxis) (e : YdV) (w : Int) (o1 o2 : Int) : YdAxisRes :=
  let eP := if a.auto then a.e else e.v
  let i0 := if a.auto then a.i else 0
  let sh1 := r (b + 8)
  let sh2 := r (b + 9)
  let d := ydSat (e.v - eP)
  let i1 := YdV.add ⟨i0, false⟩ (ydMulsh (ydPair r (b + 2)) (bits sh1 8 5) e.v)
  let i := ydClamp (ydPair r (b + 10)) o1 i1.v
  let u1 := YdV.add (ydMulsh (ydPair r b) (bits sh1 0 5) e.v) ⟨i, i1.sat⟩
  let u2 := u1.add (ydMulsh (ydPair r (b + 4)) (bits sh2 0 5) d.v)
  let u3 := u2.add (ydMulsh (ydPair r (b + 6)) (bits sh2 8 5) w)
  ⟨ydClamp (ydPair r (b + 12)) o2 u3.v, ⟨i, e.v, true⟩, e.sat || d.sat || u3.sat⟩

/-- One axis under the joystick (R429): the per mille of OLIM, truncated, 0 inside the deadband. A result that the DEMAND
pair cannot hold has no stated value: `open_`. -/
def ydJoy (r : YdCopy) (b : Nat) (a : YdAxis) (jp : Int) (ok : Bool) (open_ : Int) : YdAxisRes :=
  let j := if !ok || decide (absN jp ≤ r 0xB4) then 0 else jp
  let q := (j * ydPair r (b + 12)).tdiv 1000
  ⟨if satS 32 q = q then q else open_, { a with auto := false }, false⟩

/-- The errors of R428 from the set-points and the estimate. -/
def ydErrors (sp : Int × Int) (spH : Nat) (pf : Int × Int) (hdg : Nat) : List YdV :=
  let dn := ydSat (sp.1 - pf.1)
  let de := ydSat (sp.2 - pf.2)
  let c := cosF16 (hdg * 65536)
  let s := sinF16 (hdg * 65536)
  let ex := ydSat (asr (dn.v * c + de.v * s) 15)
  let ey := ydSat (asr (de.v * c - dn.v * s) 15)
  [⟨ex.v, ex.sat || dn.sat || de.sat⟩, ⟨ey.v, ey.sat⟩, ⟨sx 16 ((spH + 65536 - hdg) % 65536), false⟩]

/-- The three axes in a mode (R428, R429); `op` gives open values by number. -/
def ydLaw (r : YdCopy) (i : YdInputs) (mode : Nat) (axes : List YdAxis) (errs : List YdV) (op : Nat → Int) : List YdAxisRes :=
  let v2 := Int.ofNat (i.windV * i.windV)
  let wx := if i.windOk then asr (v2 * cosF16 (i.windDir * 65536)) 15 else 0
  let wy := if i.windOk then asr (v2 * sinF16 (i.windDir * 65536)) 15 else 0
  (upTo 3).map (fun j =>
    let b := 0x20 + 16 * j
    let a := axes.getD j ⟨0, 0, false⟩
    let auto := decide (mode = 3) || (decide (mode = 2) && decide (j = 2))
    if mode = 0 then ⟨0, { a with auto := false }, false⟩
    else if auto then ydPid r b a (errs.getD j ⟨0, false⟩) (if j = 0 then wx else wy) (op (3 * j)) (op (3 * j + 1))
    else ydJoy r b a (i.joy.getD j 0) i.joyOk (op (3 * j + 2)))

/-! ## Allocation (R430, R431) -/

/-- The thruster is enabled. -/
def ydEn (r : YdCopy) (t : Nat) : Bool := bit (r (0x50 + 8 * t)) 15
/-- It is an AZIMUTH. -/
def ydAz (r : YdCopy) (t : Nat) : Bool := r (0x50 + 8 * t) % 4 == 1

/-- The availability set of cycle `n` (R430). -/
def State.ydAvail (s : State) (r : YdCopy) (cn : Nat) : Nat :=
  sumN ((upTo 8).map (fun t =>
    let ok := match s.yd.fb.getD t none with
      | some x => decide (cn ≤ x.at_ + 1000000 * r 0x93) && uAt 1 x.data 4 == 0
      | none => false
    2 ^ t * b2n (ydEn r t && ok)))

/-- A column of B: its thruster and its three rows (R430). -/
structure YdCol where
  t : Nat
  x : Flt
  y : Flt
  n : Flt
  deriving DecidableEq, Repr

/-- The columns of a thruster. -/
def ydCols (r : YdCopy) (t : Nat) : List YdCol :=
  let cm (a : Nat) : Flt := fmul (fofInt (sx 16 (r a))) (fofRat 1 100)
  let x := cm (0x50 + 8 * t + 1)
  let y := cm (0x50 + 8 * t + 2)
  if ydAz r t then [⟨t, fofInt 1, 0, fneg y⟩, ⟨t, 0, fofInt 1, x⟩]
  else
    let a := r (0x50 + 8 * t + 4) * 65536
    let dx := cosB a
    let dy := sinB a
    [⟨t, dx, dy, fsub (fmul x dy) (fmul y dx)⟩]

/-- A sum of products in the order written. -/
def ydDot : List (Flt × Flt) → Flt
  | [] => 0
  | p :: ps => ps.foldl (fun acc q => fadd acc (fmul q.1 q.2)) (fmul p.1 p.2)

/-- Q row by row, none when SINGULAR (R430). -/
def ydMatrix (r : YdCopy) (avail : Nat) : Option (List (Nat × List Flt)) :=
  let cols := (bitIdx 8 avail).flatMap (ydCols r)
  let row (i : Nat) (c : YdCol) : Flt := if i = 0 then c.x else if i = 1 then c.y else c.n
  let m (i j : Nat) : Flt := ydDot (cols.map (fun c => (row i c, row j c)))
  let a := m 0 0
  let b := m 0 1
  let c := m 0 2
  let d := m 1 1
  let e := m 1 2
  let f := m 2 2
  -- adjugate of the symmetric matrix [a b c; b d e; c e f]
  let A := fsub (fmul d f) (fmul e e)
  let B := fsub (fmul c e) (fmul b f)
  let C := fsub (fmul b e) (fmul c d)
  let D := fsub (fmul a f) (fmul c c)
  let E := fsub (fmul b c) (fmul a e)
  let F := fsub (fmul a d) (fmul b b)
  let det := fadd (fadd (fmul a A) (fmul b B)) (fmul c C)
  let tr := fadd (fadd a d) f
  if cols.isEmpty || flt (fabs det) (fmul (fofDy 1 (-20)) (fmul (fmul tr tr) tr)) then none
  else
    let inv := [[A, B, C], [B, D, E], [C, E, F]].map (fun l => l.map (fun x => fdiv x det))
    let at_ (i j : Nat) : Flt := (inv.getD i []).getD j 0
    some (cols.map (fun q => (q.t, (upTo 3).map (fun j => ydDot [(q.x, at_ 0 j), (q.y, at_ 1 j), (q.n, at_ 2 j)]))))

/-- The force components of a thruster among the rows' results. -/
def ydComp (f : List (Nat × Flt)) (t : Nat) : List Flt := (f.filter (fun p => p.1 == t)).map Prod.snd
/-- T of a thruster (R431). -/
def ydThrust (c : List Flt) : Flt :=
  match c with | [x] => x | x :: y :: _ => fsqrt (fadd (fmul x x) (fmul y y)) | [] => 0

/-- What allocation yields: CMD_T and CMD_A by thruster, YD_ALLOC without RECOMP, YD_SCALE. -/
structure YdAl where
  cmds : List (Nat × Nat × Nat)
  flags : Nat
  scale : Nat
  deriving DecidableEq, Repr

/-- Allocation of a demand (R430, R431); `held` gives CMD_A as it stands. -/
def ydAlloc (r : YdCopy) (mat : Option (List (Nat × List Flt))) (avail : Nat) (dem : List Int) (held : Nat → Nat) : YdAl :=
  let ens := (upTo 8).filter (ydEn r)
  match mat with
  | none => ⟨ens.map (fun t => (t, 0, held t)), 4, 0x7FFF⟩
  | some q =>
    let d := dem.map fofInt
    let f := q.map (fun p => (p.1, ydDot (p.2.zip d)))
    let tmax (t : Nat) : Flt := fofNat (100 * r (0x50 + 8 * t + 3))
    let on := bitIdx 8 avail
    let ratio := on.foldl (fun m t => fmax m (fdiv (fabs (ydThrust (ydComp f t))) (tmax t))) 0
    let scaled := flt (fofInt 1) ratio
    let f1 := if scaled then f.map (fun p => (p.1, fdiv p.2 ratio)) else f
    let cmd (t : Nat) : Nat × Nat × Nat :=
      if !bit avail t then (t, 0, held t)
      else
        let c := ydComp f1 t
        let ct := tc 16 (fSatInt rndEven 16 (fdiv (fmul (fofInt 1000) (ydThrust c)) (tmax t)))
        let ang := match c with
          | [x, y] => (match cordic x y with | some z => (z + 2 ^ 15) / 65536 % 65536 | none => held t)
          | _ => held t
        (t, ct, ang)
    ⟨ens.map cmd, b2n scaled, if scaled then min 0x7FFF (absN (fSatInt rndEven 32 (fdiv (fofInt 32768) ratio))) else 0x7FFF⟩

/-! ## The cycle (R423 to R425) -/

/-- A pair as two register writes. -/
def ydPairW (a : Nat) (i : Int) : List (Nat × Nat) := [(a, tc 32 i % 65536), (a + 1, tc 32 i / 65536)]

/-- Write a list of registers. -/
def State.ydPuts (s : State) (l : List (Nat × Nat)) : State := l.foldl (fun s p => s.ydPut p.1 p.2) s

/-- Mastery at C(n) (R435, R436). -/
def State.ydMastery (s : State) : State :=
  let ctl := s.ydReg 2
  let dup := s.ydReg 0xD0
  let want := bit ctl 4 && bit ctl 7 && s.yd.mode != 0 && !s.yd.fault
  if !want then s.ydGiveUp
  else if s.yd.master then s
  else if !bit dup 2 then s.ydBecome
  else if !s.yd.pinIn && (bit dup 0 || decide (s.yd.pinAt + 200000000 ≤ s.now)) then s.ydBecome
  else s

/-- The cycle of C(n) on the copy of the registers (R423). -/
def State.ydCycle (s : State) (n : Nat) : State :=
  let cn := n * 100000000
  let r : YdCopy := s.ydVal
  let y := s.yd
  let i := s.ydInputs r n
  let pf := ydEstimate y r i
  let (mode, lost) := ydMode y r i
  let spN := if y.capture then (match pf with | some p => p.1 | none => ydPair r 0x08) else ydPair r 0x08
  let spE := if y.capture then (match pf with | some p => p.2 | none => ydPair r 0x0A) else ydPair r 0x0A
  let spH := if y.capture then i.hdg else r 0x0C
  let avail := s.ydAvail r cn
  let gone := (upTo 8).any (fun t => bit y.avail t && ydEn r t && !bit avail t)
  let blocks := avail :: (upTo 8).flatMap (fun t => (upTo 5).map (fun o => r (0x50 + 8 * t + o)))
  let recomp := decide (y.thrOld ≠ some blocks)
  let mat := if recomp then ydMatrix r avail else y.mat
  let errs := ydErrors (spN, spE) spH (pf.getD (0, 0)) i.hdg
  let law := ydLaw r i mode y.axes errs (fun k => sx 32 (Config.freeWord (s.free + k)))
  let dem := law.map (fun x => x.demand)
  let al := ydAlloc r mat avail dem (fun t => r (0x50 + 8 * t + 6))
  let us := 1800 + 450 * popCount 8 avail + 900 * (al.flags % 2) + 3200 * b2n recomp
  let st := 0x1000 * b2n i.gnss.isSome + 0x800 * b2n i.hdgOk + 0x400 * b2n i.pos2Ok + 0x200 * b2n i.windOk + 0x100 * b2n i.joyOk + mode
  let words := [(0x06, us / 10), (0x91, al.flags + 2 * b2n recomp), (0x92, al.scale), (0x14, i.hdg), (0x15, i.rate),
      (0x16, i.windV), (0x17, i.windDir)]
    ++ (match pf with | some p => ydPairW 0x10 p.1 ++ ydPairW 0x12 p.2 | none => [])
    ++ (dem.zipIdx.flatMap (fun p => ydPairW (0x2E + 16 * p.2) p.1))
    ++ al.cmds.flatMap (fun c => [(0x50 + 8 * c.1 + 5, c.2.1), (0x50 + 8 * c.1 + 6, c.2.2)])
  let out : YdOut := { n := n, at_ := cn + 1000 * us, words := words, cmds := al.cmds,
                       alarm := b2n (law.any (fun x => x.sat)) + 0x10 * b2n mat.isNone }
  let s1 := s.ydMod (fun y => { y with
    pf := pf, srcOk := ydSrcOk r i, mode := mode, modeWr := false, capture := false, avail := avail, mat := mat,
    thrOld := some blocks, axes := law.map (fun x => x.ax), out := some out })
  let s2 := s1.ydPuts ([(0x03, st), (0x90, avail)] ++ (if y.capture then ydPairW 0x08 spN ++ ydPairW 0x0A spE ++ [(0x0C, spH)] else [])
    ++ (upTo 8).map (fun t => (0x50 + 8 * t + 7, r (0x50 + 8 * t + 7) % 256 + 0x8000 * b2n (bit avail t))))
  let s3 := s2.ydAlarm (lost + 8 * b2n gone)
  { s3.ydMastery with free := s.free + 9 }

/-- YD_CYCLE_START at C(n): the GNSS latch, the CE that carries the cycle, and the cycle while RUN = 1 (R414, R415, R423). -/
def State.ydStart (s : State) : State :=
  let n := s.now / 100000000
  if !s.ydOn || n ≤ s.yd.cycleAt then s
  else
    let alive (e : Nat) : Bool := !s.engDead e && bit s.sys.domOn 3
    let ce := if alive s.yd.ce then s.yd.ce else if alive (7 - s.yd.ce) then 7 - s.yd.ce else s.yd.ce
    let s1 := s.ydMod (fun y => { y with cycleAt := n, ce := ce, latch := if s.gnssOn then some n else none })
    if bit (s.ydReg 2) 4 && alive ce then s1.ydCycle n else s1

/-- Submit a frame of the message set: an extended identifier, SEND_AT = 0 (R425, R432). -/
def State.ydSend (s : State) (n code : Nat) (bs : List Byte) : State :=
  (s.canSubmit n ⟨s.ydReg 0xB1 * 65536 + code, true, false, false, 8, bs⟩ 0 none none).1

/-- A master's check of MASTER_IN at release: does it submit (R436)? -/
def State.ydReleaseOk (s : State) : State × Bool :=
  let dup := s.ydReg 0xD0
  if !s.yd.master || s.yd.fault then (s, false)
  else if bit dup 2 && s.yd.pinIn then
    let s1 := (s.ydMod (fun y => { y with conflict := true })).ydAlarm 0x80
    if bit dup 0 then (s1, true) else (s1.ydGiveUp, false)
  else (s.ydMod (fun y => { y with conflict := false }), true)

/-- YD_RELEASE at C(n) + T_calc (R419, R424, R425, R432, R436). -/
def State.ydRelease (s : State) : State :=
  match s.yd.out with
  | none => s
  | some o =>
    if !s.ydOn || s.now < o.at_ then s
    else
      let s1 := (((s.ydPuts o.words).ydAlarm o.alarm).ydPut 0x05 (s.ydReg 0x05 + 1)).ydMod (fun y => { y with out := none, intLow := true })
      let (s2, go) := s1.ydReleaseOk
      let prio := s2.ydReg 0xD0 % 2
      let cyc := s2.ydReg 0x05
      let s3 := if go && s2.yd.mode != 0 then
          o.cmds.foldl (fun s c => s.ydSend 0 (0x100 + c.1)
            (leBytes 2 c.2.1 ++ leBytes 2 c.2.2 ++ leBytes 1 cyc ++ leBytes 1 (b2n (bit (s.ydReg 2) 4) + 2 * b2n s.yd.master) ++ [0, 0])) s2
        else s2
      let st := leBytes 2 (s3.ydVal 3)
      let alm := leBytes 2 (s3.ydReg 4)
      (s3.ydSend 0 (0x1F0 + prio) (leBytes 2 cyc ++ st ++ alm ++ [0, 0])).ydSend 1 (0x2F0 + prio)
        (leBytes 2 (s3.ydReg 0x14) ++ st ++ alm ++ leBytes 2 cyc)

/-! ## Reception, the pins, GNSS, self-test -/

/-- The codes of R432 on a bus, with PRIO 0 and 1. -/
def ydCode (n code : Nat) : Bool :=
  if n = 0 then (decide (0x100 ≤ code) && decide (code < 0x108)) || (decide (0x180 ≤ code) && decide (code < 0x188)) || code / 2 == 0xF8
  else (decide (0x200 ≤ code) && decide (code < 0x204)) || code / 2 == 0x178

/-- A frame of the message set (R432). -/
def State.ydTake (s : State) (n code : Nat) (m : CanMsg) : State :=
  let x : YdIn := ⟨fitBytes 8 m.data, s.now⟩
  if n = 0 ∧ 0x180 ≤ code ∧ code < 0x188 then
    if m.dlc < 5 then s
    else
      let t := code - 0x180
      let a := 0x50 + 8 * t + 7
      (s.ydMod (fun y => { y with fb := setAt y.fb t (some x) })).ydPut a (s.ydReg a / 256 * 256 + uAt 1 m.data 4)
  else if n = 1 ∧ 0x200 ≤ code ∧ code < 0x204 then
    let need := match code with | 0x200 => 5 | 0x201 => 4 | 0x202 => 8 | _ => 6
    if m.dlc < need then s else s.ydMod (fun y => { y with ins := setAt y.ins (code - 0x200) (some x) })
  else s

/-- YD_CAN_RX (R316, R432, R433): message set, else the first matching receive buffer, else discarded. Data bytes beyond the
DLC of a stored frame are open. -/
def State.ydCanRx (s : State) (n : Nat) (m : CanMsg) (rtr : Bool) : State :=
  if !s.ydOn || n > 1 || !s.canOn n then s
  else if m.fdf then s.protoExc n
  else
    let s1 := s.recOk n
    if rtr then s1
    else if m.ide && m.id / 65536 == s.ydReg 0xB1 && ydCode n (m.id % 65536) then s1.ydTake n (m.id % 65536) m
    else
      let hit (b : Nat) : Bool :=
        let x := s.ydBuf (16 * n + b)
        bit x.cfg 15 && !bit x.cfg 14 && bit x.id 31 == m.ide && (m.id &&& x.mask) == (x.id % 2 ^ 29 &&& x.mask)
      match (upTo 16).find? hit with
      | none => s1
      | some b =>
        let x := s.ydBuf (16 * n + b)
        let len := min 8 m.dlc
        let data := m.data.take len ++ (leBytes 8 (Config.freeWord s.free)).drop (m.data.take len).length
        (s1.ydBufPut (16 * n + b) { x with data := data, stat := 1 + 2 * b2n (x.stat % 2 == 1 || bit x.stat 1) }).tick1

/-- MASTER_IN_ACCEPT: a level stable for 2 ms (R435). Glarvex mode ignores the ball. -/
def State.ydPin (s : State) (high : Bool) : State :=
  if !s.ydOn || s.yd.pinIn == high then s else s.ydMod (fun y => { y with pinIn := high, pinAt := s.now })

/-- GNSS_SOLUTION of antenna A in YD-22 mode (R414, R420, R426): the fix of the latch, its registers, and the RTC at the
first valid solution while it is not VALID. -/
def State.ydGnss (s : State) (p : Option GnssPos) : State :=
  match s.yd.latch with
  | none => s
  | some n =>
    if !s.ydOn || !s.gnssOn then s
    else
      let ok := match p with | some g => posValid g | none => false
      let s1 := s.ydMod (fun y => { y with latch := none, fix := (n, if ok then p else none) :: y.fix.take 1 })
      match p with
      | none => s1.ydPuts [(0xA4, 0), (0xA5, 0xFFFF)]
      | some g =>
        let s2 := s1.ydPuts [(0xA4, 256 * (g.nSat % 256) + b2n ok), (0xA5, min 0xFFFF g.hdop)]
        if !ok then s2
        else
          let s3 := (s2.ydPuts (ydPairW 0xA0 (rndUp g.lat (2 ^ 17)) ++ ydPairW 0xA2 (rndUp g.lon (2 ^ 17)))).gnsMod
            (fun x => { x with pos := some (g.lat, g.lon) })
          if s3.sys.rtcValid then s3
          else { s3 with sys := { s3.sys with rtcValid := true, rtc := ((1000 * Int.ofNat s.now - g.b).fdiv 8000).toNat } }

/-- An engine has retired in YD-22 mode (R415). -/
def State.ydEngRetired (s : State) (e : Nat) : State :=
  if !s.sys.yd || !ydEngs.contains e then s
  else
    let s1 := ((s.ydAlarm 0x100).ledger 0x0040 (leBytes 1 (ydEngs.idxOf e))).ydMod
      (fun y => if y.ce = e then { y with out := none } else y)
    if (e != 3 && e != 4) || (s1.engDead 3 && s1.engDead 4) then s1.ydFault else s1

/-- The score of YD_HEALTH: R212 over the tests of R415. -/
def State.ydHealth (s : State) : State :=
  if !s.ydOn then s
  else
    let dead (l : List Nat) : Nat := (l.filter s.engDead).length
    let dip := s.sys.low != 0 || (match s.red.supplyAt with | some t => decide (s.now ≤ t + 60000000000) | none => false)
    let h := 255 - (24 * dead [3, 4] + 16 * dead [14] + 64 * dead [15] + 8 * b2n (decide (16 < s.red.ecc)) + 32 * b2n s.red.clkWarn
      + 16 * b2n dip)
    { s.ydPut 0xF0 h with red := { s.red with ecc := 0, clkWarn := false } }

/-- Bus-off of a controller in YD-22 mode shows in YD_ALARM (R421); TX_REQ follows the queue. `s` is the state before. -/
def State.ydCanAfter (s s' : State) : State :=
  if !s'.ydOn then s'
  else
    let off (n : Nat) : Bool := s'.fget (fldAt CAN_STAT.STATE n) == 2 && s.fget (fldAt CAN_STAT.STATE n) != 2
    (s'.ydAlarm (0x20 * b2n (off 0) + 0x40 * b2n (off 1))).ydTxSync

/-- Count a supply dip or a clock warning in YD_SUPPLY (R420): `o` 0 or 8, the place of the count. -/
def State.ydSupply (s : State) (o : Nat) : State :=
  if !s.sys.yd then s
  else s.ydPut 0xF2 (putBits (s.ydReg 0xF2) o 8 (min 255 (bits (s.ydReg 0xF2) o 8 + 1)))

/-- D8 has lost its power: no fix, and GNSS_OK clears (R446). -/
def State.ydGnssOff (s : State) : State :=
  if !s.sys.yd then s
  else (s.ydMod (fun y => { y with latch := none, fix := [] })).ydPut 0x03 (putBits (s.ydReg 0x03) 12 1 0)

/-- The YD-22 personality starts (R413, R414, R416, R419): registers from the saved image or their reset values, CAN0 and
CAN1 for classical frames, READY. TIME_NS has been loaded. -/
def State.ydBoot (s : State) : State :=
  let (regs, mb) := match s.flash.yd with | some im => im | none => ([], [])
  let s1 := s.ydMod (fun y => { y with
    regs := regs, mb := mb, ready := true, modeWr := true, ce := 3, pinAt := s.now, cycleAt := s.now / 100000000 })
  let can (s : State) (n : Nat) : State :=
    (((s.fset (fldAt CAN_CTRL.FD_EN n) 0).fset (fldAt CAN_CTRL.BRS_EN n) 0).fset (fldAt CAN_CTRL.TXPRI n) 0).ydRate n
  ((can (can s1 0) 1).ydOrigin).ydHealth

end Sys2Proof.Machine
end

