-- ==== Sys2Proof/Machine/Engines.lean ====
section
/-!
DEFINITION. What the retirement of an engine does to the work it carried (R7, R96, R97, R137, R360, R415), the test slices
and image checks of self-test (R211, R76, R135), and the return to service (R486). Engines are numbered SV, SA, SB, CE0 to
CE3, SE0, SE1, FE0, FE1, LE0, LE1, DSE, GTE, NTE.
-/

namespace Sys2Proof.Machine

/-- Does the unit do frame work, so that a loss of engines is a failure (R97, R137)? -/
def State.working (s : State) : Bool := s.op == .ready || s.op == .standby || s.op == .active || s.op == .degraded

/-- Too few engines are left (R97, R137, R199): the unit declares with reason ENGINE and enters SAFE at the next boundary. -/
def State.engFail (s : State) : State := if s.working && !s.red.safeDue then s.declareFail 1 else s

/-- Control engine `n` has been retired: nothing it produced for a hand-over still to come is used (R7, R96, R97). -/
def State.ceOut (s : State) (n : Nat) : State :=
  let s1 := (s.fset CEX_ASSIGN.RETIRED (putBits (s.fget CEX_ASSIGN.RETIRED) n 1 1)).cexMod (fun c => { c with moving := true })
  let s2 := if s1.runs && s1.time.cutDone && s1.fget CEX_ASSIGN.PROF == n && !s1.isNow s1.cex.lawK && !bit s1.red.late 3 then
      s1.profUndo.lateBit 3 else s1
  let s3 := if s2.runs && s2.fget CEX_ASSIGN.LAW == n && s2.isNow s2.cex.lawK && !s2.past (42 + s2.shift) && !bit s2.red.late 2 then
      s2.lawUndo.lateBit 2 else s2
  if s3.ceLive.length ≤ 1 then s3.engFail else s3

/-- Solver engine `n` has been retired: what it solves ends ABANDONED, the other engine carries the rest (R137, R143). -/
def State.solverOut (s : State) (n : Nat) : State :=
  let s1 := (s.slotAbandon n).mpcAbandon n
  if s1.seLive = 0 then s1.engFail else s1

/-- What follows the retirement of engine `e` in its block. -/
def State.engOut (s : State) (e : Nat) : State :=
  let s1 := if s.runs then s.lateBit 11 else s
  let s2 := if 3 ≤ e ∧ e < 7 then s1.ceOut (e - 3)
    else if e = 7 ∨ e = 8 then s1.solverOut (e - 7)
    else if e = 11 ∨ e = 12 then s1.leRetired (e - 11)
    else s1
  if s2.sys.yd then s2.ydEngRetired e else s2

/-- Retire engine `e` at once (R484). -/
def State.engRetire (s : State) (e : Nat) : State :=
  if e = 1 ∨ e = 2 then s.channelFault (e - 1) 1
  else if 15 < e ∨ s.engDead e then s
  else (s.retire 4 e true).engOut e

/-- The engine that reads a poisoned word takes a hard error (R485). -/
def State.poisonRead (s : State) (w : Nat × Nat) (e : Nat) : State :=
  ({ s with dia := { s.dia with poison := s.dia.poison.filter (· != w) } }).engRetire e

/-- Fusion begins: a poisoned word of reference `i` is read by the engine that serves it, of any other place (from 16 on) by the first
engine (DESIGN CHOICE, log 238). -/
def State.poisonFus (s : State) : State :=
  match s.dia.poison.find? (fun w => w.1 == 1) with
  | some w =>
    let live := (upTo 2).filter (fun n => !s.engDead (9 + n))
    if s.fusionDue then s.poisonRead w (9 + (if decide (w.2 < 16) && bit s.fe1Mask w.2 && live.contains 1 then 1 else live.headD 0)) else s
  | none => s

/-- The solver at work: a poisoned word at an even place is read by the engine of the MPC or of the scenario MPC, at an odd place by that of
the first slot in progress (DESIGN CHOICE, log 238). -/
def State.poisonSlv (s : State) : State :=
  s.dia.poison.foldl (fun s w =>
    let reader : Option Nat := if w.1 ≠ 2 then none
      else if w.2 % 2 = 0 then (if s.mpcSuspended then none else ((s.mpcOpen 0).or (s.mpcOpen 1)).map (·.eng))
      else (s.allocOf s.time.frame).bind (fun a => a.busy.head?.map (·.1))
    match reader with | some e => s.poisonRead w (7 + e) | none => s) s

/-- ENGINE_HARD_ERROR (R484): a hard error, or with `hard` false work not started within 50 µs and dispatched again, which is a
transient error. -/
def State.engError (s : State) (e : Nat) (hard : Bool) : State :=
  if !s.clocked then s
  else if hard then s.engRetire e
  else if 15 < e ∨ s.engDead e ∨ e = 1 ∨ e = 2 then s
  else
    let (s1, ret) := s.fltErr 4 e
    if ret then s1.engOut e else s1

/-- The engines that test slices rotate through (R211, R415). -/
def State.sliceEngs (s : State) : List Nat :=
  if s.sys.yd then [0, 3, 4, 14, 15] else [0, 3, 4, 5, 6, 7, 8, 9, 10, 11, 12, 13, 14, 15]

/-- ENGINE_TEST_SLICE in the slack of a frame: the next engine in service, and whether its signature matched (R211). -/
def State.testSlice (s : State) (pass : Bool) : State :=
  let on := if s.sys.yd then s.ydOn else s.clocked && s.role != .none && s.time.inFrame && s.past 80
  let l := s.sliceEngs
  let i := s.red.nextSlice % l.length
  match (l.drop i ++ l.take i).find? (fun e => !s.engDead e) with
  | none => s
  | some e =>
    if !on then s
    else
      let s1 := s.redMod (fun x => { x with nextSlice := (l.idxOf e + 1) % l.length })
      if pass then s1.redMod (fun x => { x with slices := x.slices + 1 }) else s1.engRetire e

/-- The CRC of one loaded image has failed (R76, R135, R362, R415): kind and slot of R407. -/
def State.imageBad (s : State) (p : Nat × Nat) : State :=
  match p.1 with
  | 0 => if s.sys.yd then s.ydFault else s
  | 1 =>
    if (s.img 1 p.2).isNone || s.fus.imgBad.contains p.2 then s
    else (({ s with fus := { s.fus with imgBad := s.fus.imgBad ++ [p.2], imgNew := s.fus.imgNew ++ [p.2] } }).fup FUS_STATUS.IMAGE_FAULT).alarm 0x04 0x07 p.2 0
  | 2 =>
    if (s.img 2 p.2).isNone then s
    else
      let s1 := s.fup SLV_STATUS.SCHED_FAULT
      if p.2 = 0 then (s1.slvMod (fun x => { x with mpcBad := true })).mpcDrop
      else (s1.slvMod (fun x => { x with pipe := x.pipe.or (some (s.time.frame + 1)) })).alarm 0x06 0x04 0 0
  | 3 => if s.lgState == lgRunning then s.lgcFault 7 else s
  | _ => s

/-- The CRC run over the bytes of a loaded image (R68, R135, R407); the CRC of a firmware or logic image is not given. -/
def imgCrcOk (i : Img) : Bool :=
  match i.kind with
  | 1 => encCrcOk i.bytes
  | 2 => Config.schedCrcOk i.bytes
  | 4 | 5 => crc32c (i.bytes.take (i.bytes.length - 4)) == uAt 4 i.bytes (i.bytes.length - 4)
  | _ => true

/-- IMAGE_CRC_CHECK, once per second: the CRC of every loaded image is run over the bytes held (R76, R135, R211); `upset` names
the images whose memory has lost a bit outside the model, which fail as well. Self-test runs in every role except NONE. -/
def State.imageCheck (s : State) (upset : List (Nat × Nat)) : State :=
  if !(if s.sys.yd then s.ydOn else s.clocked && s.role != .none) then s
  else (((s.cfg.imgs.filter (fun i => !imgCrcOk i)).map (fun i => (i.kind, i.slot))) ++ upset).foldl State.imageBad s

/-- READMIT of an engine (R486): its full test; passed, it returns at the next frame boundary. -/
def State.readmitEngine (s : State) (e : Nat) : State :=
  let s1 := ((s.fltPut 4 e { s.fltOf 4 e with level := 0 }).event 0x0F 0x03 0 (evData e 0)).ledger 0x0031 (leBytes 1 4 ++ [0] ++ leBytes 2 e)
  if Config.testOk s.free then (s1.cexMod (fun c => { c with returning := c.returning.filter (· != e) ++ [e] })).tick1
  else ((s1.event 0x0F 0x02 2 (evData e 4)).ledger 0x0030 (leBytes 1 4 ++ [1] ++ leBytes 2 e)).tick1

end Sys2Proof.Machine
end

