-- ==== Sys2Proof/Machine/Sdf.lean ====
section
/-!
DEFINITION. The sigma-delta filter chain (R325 to R345): clocks and captures, CIC and FIR, resampling on the frame grid,
suppression, threshold events, coefficient banks. The modulator bits a channel takes come with the commands.
-/

namespace Sys2Proof.Machine

/-- A channel field. -/
def State.sch (s : State) (f : Fld) (n : Nat) : Nat := s.fget (fldAt f n)
def State.schb (s : State) (f : Fld) (n : Nat) : Bool := s.fbit (fldAt f n)

/-- CLK_FAB cycles per modulator period (R325). -/
def dMod (rate : Nat) : Nat := match rate with | 0 => 25 | 1 => 50 | _ => 100
def State.dModOf (s : State) (n : Nat) : Nat := dMod (s.fget (fldAt SDF_CLK_CFG.RATE (n / 8)))

/-- CLK_FAB cycles since the group clock was enabled or its RATE last changed: four per CLK_TS edge (R10). -/
def State.fabSince (s : State) (g : Nat) : Nat := 4 * (s.time.ticks - s.sdf.onAt.getD g 0)
/-- Modulator bits since the group clock was enabled, and CLK_FAB cycles since the last modulator edge (R334). -/
def State.modCount (s : State) (g : Nat) : Nat := s.sdf.base.getD g 0 + s.fabSince g / dMod (s.fget (fldAt SDF_CLK_CFG.RATE g))
def State.modPh (s : State) (g : Nat) : Nat := s.fabSince g % dMod (s.fget (fldAt SDF_CLK_CFG.RATE g))

/-- A running channel. -/
def State.sdfCh (s : State) (n : Nat) : Option SdfCh := s.sdf.ch.getD n none
def State.sdfPut (s : State) (n : Nat) (c : Option SdfCh) : State := { s with sdf := { s.sdf with ch := setAt s.sdf.ch n c } }

/-- A word of a coefficient bank (R330). -/
def bankDflt (_ : Nat) : Word := 0
def State.bankW (s : State) (b i : Nat) : Nat := (tabGet bankDflt s.sdf.banks (b * 2048 + i)).toNat
/-- GDF of a channel, 0 with FIR_BYP (R329). -/
def State.gdf (s : State) (n : Nat) : Nat :=
  if s.schb SDF_CH_CFG.FIR_BYP n then 0 else s.bankW (s.sch SDF_CH_CFG.FBANK n) 64 % 2 ^ 16
/-- CIC outputs per FIR output. -/
def State.firMul (s : State) (n : Nat) : Nat := if s.schb SDF_CH_CFG.FIR_BYP n then 1 else 2

/-- D_grp in units of T_mod / 512 (R335). -/
def State.dGrp (s : State) (n : Nat) : Nat :=
  let nn := s.sch SDF_CH_CFG.ORDER n
  let r := s.sch SDF_CH_CFG.R n
  nn * (r - 1) * 256 + s.gdf n * r * 2 + 8 * s.firMul n * r * 512
/-- T_f in units of T_mod / 512. -/
def State.tFir (s : State) (n : Nat) : Nat := s.firMul n * s.sch SDF_CH_CFG.R n * 512
/-- SETTLE_MIN (R339). -/
def State.settleMin (s : State) (n : Nat) : Nat := (s.dGrp n + s.tFir n - 1) / s.tFir n
/-- Is an instant within the window of R338: T_mod is 2 × d_mod ns. -/
def State.inWindow (s : State) (n : Nat) (c : SdfCh) (t : Int) : Bool :=
  decide ((t - c.tEv) * 256 < Int.ofNat ((s.dGrp n + c.settle * s.tFir n) * s.dModOf n))

/-- The instant of the next modulator edge of a group. -/
def State.nextEdge (s : State) (g : Nat) : Int :=
  Int.ofNat (s.now + 2 * (dMod (s.fget (fldAt SDF_CLK_CFG.RATE g)) - s.modPh g))

/-- t(k, j) (R333). -/
def State.sdfInst (s : State) (n k j : Nat) : Int := Int.ofNat (s.fOf k) + rndAway (Int.ofNat (j * s.pNs)) (s.sch SDF_CH_OUT.L n)

/-- The first output instant at or after now. -/
def State.gridFrom (s : State) (n : Nat) : Nat × Nat :=
  if !s.time.inFrame then (s.time.frame + 1, 0)
  else match (upTo (s.sch SDF_CH_OUT.L n)).find? (fun j => decide (Int.ofNat s.now ≤ s.sdfInst n s.time.frame j)) with
    | some j => (s.time.frame, j)
    | none => (s.time.frame + 1, 0)

/-! ## The event word and the events (R341 to R343) -/

/-- Write the event word to its point (R343). -/
def State.sdfWord (s : State) (n : Nat) : State :=
  if !s.schb SDF_CH_PT.PT_EN n then s
  else
    let w := s.sch SDF_CH_STAT.HI n + 2 * s.sch SDF_CH_STAT.LO n + 4 * s.sch SDF_CH_STAT.MOD_FAULT n + 8 * s.sch SDF_CH_STAT.SUPPR n
    let p := s.sch SDF_CH_PT.POINT n + 1
    if (s.ptInfo p).2 = 3 then s.ptWrite p w 1 s.now else s

/-- Set a status bit of the channel and write the event word if it changed. -/
def State.sdfFlag (s : State) (n : Nat) (f : Fld) (b : Bool) : State :=
  if s.schb f n == b then s else (s.fput (fldAt f n) b).sdfWord n

/-- Event states after a decision: the safety channels, the word, the SEEN bits, the event (R343). -/
def State.sdfEvents (s : State) (n : Nat) (hi lo : Bool) : State :=
  let wasH := s.schb SDF_CH_STAT.HI n
  let wasL := s.schb SDF_CH_STAT.LO n
  if hi == wasH && lo == wasL then s
  else
    let s1 := ((s.fput (fldAt SDF_CH_STAT.HI n) hi).fput (fldAt SDF_CH_STAT.LO n) lo).sdfWord n
    let s2 := if hi && !wasH then (s1.fup (fldAt SDF_CH_STAT.HI_SEEN n)).anaTrip n 0 else s1
    let s3 := if lo && !wasL then (s2.fup (fldAt SDF_CH_STAT.LO_SEEN n)).anaTrip n 1 else s2
    s3.event 0x0C 0x02 0 (evData n (b2n hi + 2 * b2n lo))

/-- A write of the event enables: a disabled event is deasserted, and FAULT_HI asserts HI while MOD_FAULT stands (R341, R342). -/
def State.sdfEnables (s : State) (n : Nat) : State :=
  if (s.sdfCh n).isNone then s
  else
    let hi := s.schb SDF_CH_STAT.HI n || (s.schb SDF_CH_STAT.MOD_FAULT n && s.schb SDF_CH_THR_CFG.FAULT_HI n)
    s.sdfEvents n (hi && s.schb SDF_CH_THR_CFG.HI_EN n) (s.schb SDF_CH_STAT.LO n && s.schb SDF_CH_THR_CFG.LO_EN n)

/-- One event's state and counts after a source sample: `up` and `down` are the two comparisons, `pers` the persistence. -/
def persist (on up down : Bool) (pers cs cc : Nat) : Bool × Nat × Nat :=
  if on then
    let cc := if down then cc + 1 else 0
    if cc ≥ pers then (false, 0, 0) else (true, 0, cc)
  else
    let cs := if up then cs + 1 else 0
    if cs ≥ pers then (true, 0, 0) else (false, cs, 0)

/-- A source sample (R341, R342): `y` in Q1.31, its newest bit at `t`. -/
def State.sdfSample (s : State) (n : Nat) (y t : Int) : State :=
  match s.sdfCh n with
  | none => s
  | some c =>
    if s.schb SDF_CH_STAT.MOD_FAULT n || s.inWindow n c t then
      s.sdfPut n (some { c with hiSet := 0, hiClr := 0, loSet := 0, loClr := 0 })
    else
      let v := asr y 16
      let hs := sx 16 (s.sch SDF_CH_THR_HI.SET n)
      let hh := Int.ofNat (s.sch SDF_CH_THR_HI.HYS n)
      let ls := sx 16 (s.sch SDF_CH_THR_LO.SET n)
      let lh := Int.ofNat (s.sch SDF_CH_THR_LO.HYS n)
      let (h, a, b) := persist (s.schb SDF_CH_STAT.HI n) (decide (v ≥ hs)) (decide (v < hs - hh)) (s.sch SDF_CH_THR_CFG.PERS_HI n) c.hiSet c.hiClr
      let (l, d, e) := persist (s.schb SDF_CH_STAT.LO n) (decide (v ≤ ls)) (decide (v > ls + lh)) (s.sch SDF_CH_THR_CFG.PERS_LO n) c.loSet c.loClr
      let s1 := s.sdfPut n (some { c with hiSet := a, hiClr := b, loSet := d, loClr := e })
      s1.sdfEvents n (h && s.schb SDF_CH_THR_CFG.HI_EN n) (l && s.schb SDF_CH_THR_CFG.LO_EN n)

/-! ## The chain (R327 to R329) -/

/-- A 48-bit wrap, read as signed. -/
def w48 (x : Int) : Int := sx 48 (tc 48 x)

/-- The integrators after a bit: each uses the one before as just updated. -/
def integ (x : Int) : List Int → List Int
  | [] => []
  | i :: is => let v := w48 (i + x); v :: integ v is

/-- The combs: the value passed on and the registers. -/
def comb (v : Int) : List Int → Int × List Int
  | [] => (v, [])
  | c :: cs => let (o, r) := comb (w48 (v - c)) cs; (o, v :: r)

/-- The smallest B with 2^B ≥ m. -/
def bitsFor (m : Nat) : Nat := if m ≤ 1 then 0 else (m - 1).log2 + 1

/-- Narrow a CIC output to Q1.31 (R328). -/
def cicNarrow (r n : Nat) (cic : Int) : Int :=
  let b := bitsFor (r ^ n)
  if b ≤ 31 then satS 32 (cic * Int.ofNat (2 ^ (31 - b)))
  else satS 32 (asr (cic + Int.ofNat (2 ^ (b - 32))) (b - 31))

/-- Σ of products of two lists. -/
def dot : List Int → List Int → Int
  | a :: as, b :: bs => a * b + dot as bs
  | _, _ => 0

/-- One modulator bit through the chain: the channel, the CIC output and the FIR output it completes, if any. `h` is the
FIR bank, none with FIR_BYP. -/
def chainBit (order r gdf : Nat) (h : Option (List Int)) (c : SdfCh) (x : Int) : SdfCh × Option Int × Option Int :=
  let ig := integ x c.ig
  let c1 := { c with ig := ig, n := c.n + 1 }
  if (c.n + 1) % r ≠ 0 then (c1, none, none)
  else
    let (v, cb) := comb (ig.getD (order - 1) 0) c.cb
    let y := cicNarrow r order v
    let cs := (y :: c.cs).take 64
    let c2 := { c1 with cb := cb, nc := c.nc + 1, cs := cs }
    let pos := Int.ofNat (1024 * (c.first + c.n + 1)) - Int.ofNat (512 * order * (r - 1)) - Int.ofNat (4 * gdf * r)
    match h with
    | none => ({ c2 with fs := (pos, y) :: c.fs }, some y, some y)
    | some hs =>
      if (c.nc + 1) % 2 ≠ 0 then (c2, some y, none)
      else
        let f := satS 32 (asr (dot hs cs + 2 ^ 22) 23)
        ({ c2 with fs := (pos, f) :: c.fs }, some y, some f)

/-- The FIR coefficients of a channel, none with FIR_BYP. -/
def State.firOf (s : State) (n : Nat) : Option (List Int) :=
  if s.schb SDF_CH_CFG.FIR_BYP n then none
  else some ((upTo 64).map (fun i => sx 32 (s.bankW (s.sch SDF_CH_CFG.FBANK n) i)))

/-- TIME_NS of bit `b` of a group by its latest capture at nominal rate; now without one. -/
def State.bitTime (s : State) (g b : Nat) : Int :=
  match s.sdf.caps.getD g [] with
  | c :: _ => Int.ofNat c.f + ((Int.ofNat b - Int.ofNat c.c) * Int.ofNat (dMod (s.fget (fldAt SDF_CLK_CFG.RATE g))) - Int.ofNat c.ph) * 2
  | [] => Int.ofNat s.now

/-- MOD_FAULT sets (R327, R342). -/
def State.modFault (s : State) (n : Nat) : State :=
  if s.schb SDF_CH_STAT.MOD_FAULT n then s
  else
    let s1 := ((s.sdfFlag n SDF_CH_STAT.MOD_FAULT true).sdfFlag n SDF_CH_STAT.SUPPR true).alarm 0x0C 0x01 n 0
    s1.sdfEnables n

/-- Restart the window of R338 at `t`. -/
def State.sdfWindow (s : State) (n : Nat) (t : Int) : State :=
  match s.sdfCh n with
  | some c => (s.sdfPut n (some { c with tEv := t })).sdfFlag n SDF_CH_STAT.SUPPR true
  | none => s

/-- MOD_FAULT clears; that counts as an input switch (R327, R338). -/
def State.modClear (s : State) (n : Nat) (t : Int) : State :=
  if !s.schb SDF_CH_STAT.MOD_FAULT n then s
  else ((s.sdfFlag n SDF_CH_STAT.MOD_FAULT false).clearAlarm 0x0C 0x01 n).sdfWindow n t

/-- Run-length watch of the selected input; IDLE never sets MOD_FAULT (R327). -/
def State.sdfRunLen (s : State) (n : Nat) (b : Bool) (t : Int) : State :=
  match s.sdfCh n with
  | none => s
  | some c =>
    let run := if c.lastBit == some b then c.run + 1 else 1
    let quiet := if run ≥ 128 then 0 else c.quiet + 1
    let s1 := s.sdfPut n (some { c with lastBit := some b, run := run, quiet := quiet })
    if run ≥ 128 then (if s.sch SDF_CH_CFG.SRC n = 2 then s1 else s1.modFault n)
    else if s1.schb SDF_CH_STAT.MOD_FAULT n && decide (quiet ≥ 1024) then s1.modClear n t
    else s1

/-- One bit of the channel's input; IDLE replaces it with the pattern 1, 0 (R326). -/
def State.sdfBit (s : State) (n : Nat) (bIn : Bool) : State :=
  match s.sdfCh n with
  | none => s
  | some c0 =>
    let b := if s.sch SDF_CH_CFG.SRC n = 2 then c0.n % 2 == 0 else bIn
    let t := s.bitTime (n / 8) (c0.first + c0.n + 1)
    let s1 := s.sdfRunLen n b t
    match s1.sdfCh n with
    | none => s1
    | some c =>
      let (c1, cic, fir) := chainBit (s.sch SDF_CH_CFG.ORDER n) (s.sch SDF_CH_CFG.R n) (s.gdf n) (s.firOf n) c (if b then 1 else -1)
      let s2 := s1.sdfPut n (some c1)
      let src := if s.schb SDF_CH_THR_CFG.THR_SRC n then fir else cic
      match src with | some y => s2.sdfSample n y t | none => s2

/-- The bit channel `n` takes of a modulator period, of the bits of the two balls of its pair, the even one first (R326). -/
def State.sdfIn (s : State) (n : Nat) (p : Bool × Bool) : Bool :=
  if (s.sch SDF_CH_CFG.SRC n == 1) == (n % 2 == 1) then p.1 else p.2

/-- One modulator period of a pair of balls: both channels of the pair take the bit each selects. -/
def State.sdfPair (s : State) (i : Nat) (p : Bool × Bool) : State :=
  let s1 := s.sdfBit (2 * i) (s.sdfIn (2 * i) p)
  s1.sdfBit (2 * i + 1) (s1.sdfIn (2 * i + 1) p)

/-- Modulator bits arrive at the balls of the pair of channel `n`. -/
def State.sdfFeed (s : State) (n : Nat) (bs : List (Bool × Bool)) : State :=
  if s.clocked && bit s.sys.domOn 7 && !s.engDead 13 then bs.foldl (fun s p => s.sdfPair (n / 2) p) s else s

/-! ## Resampling (R333 to R337) -/

/-- The bit position u of an instant of frame `k`, in 1/1,024 bit; none while F(k) has no capture (R334). -/
def State.bitPos (s : State) (g k : Nat) (t : Int) : Option Int :=
  let d := Int.ofNat (dMod (s.fget (fldAt SDF_CLK_CFG.RATE g)))
  match (s.sdf.caps.getD g []).find? (fun c => c.k == k) with
  | none => none
  | some c1 =>
    let a := t - Int.ofNat c1.f
    match (s.sdf.caps.getD g []).find? (fun c => c.k + 1 == k) with
    | some c0 =>
      let df := Int.ofNat c1.f - Int.ofNat c0.f
      if c1.step ∨ df ≤ 0 then some (Int.ofNat c1.c * 1024 + rndAway (1024 * (2 * Int.ofNat c1.ph + a)) (2 * d).toNat)
      else
        let m := (Int.ofNat c1.c - Int.ofNat c0.c) * d + Int.ofNat c1.ph - Int.ofNat c0.ph
        some (Int.ofNat c1.c * 1024 + rndAway (1024 * (Int.ofNat c1.ph * df + a * m)) (d * df).toNat)
    | none => some (Int.ofNat c1.c * 1024 + rndAway (1024 * (2 * Int.ofNat c1.ph + a)) (2 * d).toNat)

/-- What the resampler makes of a position: not yet, nothing (the chain does not reach back so far), or the output. -/
inductive Resamp where
  | wait | gone | y (v : Int)
  deriving DecidableEq, Repr

/-- The resampler (R334): `h p` is phase `p` of the bank; `fs` newest first. -/
def resample (h : Nat → List Int) (fs : List (Int × Int)) (u : Int) : Resamp :=
  match fs.findIdx? (fun f => decide (f.1 ≤ u)) with
  | none => if fs.length < 9 then .wait else .gone
  | some i =>
    if i < 8 then .wait
    else
      let p0 := (fs.getD i (0, 0)).1
      let w := (fs.getD (i - 1) (0, 0)).1 - p0
      let p := (rndAway (64 * (u - p0)) w.toNat).toNat
      let (i', p') := if p = 64 then (i - 1, 0) else (i, p)
      if i' < 8 then .wait
      else
        let taps := (upTo 16).map (fun j => (fs.getD (i' + 7 - j) (0, 0)).2)
        .y (satS 32 (asr (dot (h p') taps + 2 ^ 22) 23))

/-- Advance the channel to its next output. -/
def sdfNext (l : Nat) (c : SdfCh) : SdfCh := if c.j + 1 < l then { c with j := c.j + 1 } else { c with k := c.k + 1, j := 0 }

/-- The channel at a frame that has started: where its next frame never will, it goes on at the first later one that did (R337). -/
def State.sdfGrid (s : State) (g : Nat) (c : SdfCh) : SdfCh :=
  let caps := s.sdf.caps.getD g []
  if caps.any (fun x => x.k == c.k) then c
  else match (caps.filter (fun x => decide (c.k < x.k))).getLast? with
    | some x => { c with k := x.k, j := 0 }
    | none => c

/-- Deliver an output (R336). -/
def State.sdfDeliver (s : State) (n j : Nat) (y t : Int) : State :=
  let s1 := (s.fset (fldAt SDF_VAL.VALUE n) (tc 32 y)).sdfFlag n SDF_CH_STAT.SUPPR false
  let p := s.sch SDF_CH_PT.POINT n
  let s2 := if s.schb SDF_CH_PT.PT_EN n && (s.ptInfo p).2 == 3 then s1.ptWrite p (tc 32 y) 1 t.toNat else s1
  let x := s.sch SDF_CH_OUT.CTX n
  let dv := s.sch SDF_CH_OUT.CTX_DIV n
  if s.schb SDF_CH_OUT.CTX_EN n && j % dv == 0 && !(s.ctxOf x).localMode && !(s.ctxOf x).hermite then
    s2.ctxSample x t.toNat s.now .instant .q31 [y] [] [] 0 0
  else s2

/-- The channel's next output, if the chain has reached it (R333 to R338). -/
def State.sdfOutput (s : State) (n : Nat) : State :=
  match s.sdfCh n with
  | none => s
  | some c' =>
    let c := s.sdfGrid (n / 8) c'
    let t := s.sdfInst n c.k c.j
    match s.bitPos (n / 8) c.k t with
    | none => s
    | some u =>
      let rb := s.sch SDF_CH_CFG.RBANK n
      let h (p : Nat) : List Int := (upTo 16).map (fun i => sx 32 (s.bankW rb (65 + 16 * p + i)))
      let c1 := { (sdfNext (s.sch SDF_CH_OUT.L n) c) with fs := c.fs.take 64 }
      match resample h c.fs u with
      | .wait => s
      | .gone => s.sdfPut n (some c1)
      | .y v =>
        let s1 := s.sdfPut n (some c1)
        if s.schb SDF_CH_STAT.MOD_FAULT n || s.inWindow n c t then s1 else s1.sdfDeliver n c.j v t

/-! ## Start, stop, switch (R338 to R340) -/

/-- FIR load of a channel as a fraction of MAC/s: 32 × f_mod / R (R332). -/
def State.firLoad (s : State) (n : Nat) : Nat × Nat :=
  if s.schb SDF_CH_CFG.FIR_BYP n then (0, 1) else (16000000000, s.dModOf n * s.sch SDF_CH_CFG.R n)
def fracAdd (a b : Nat × Nat) : Nat × Nat := (a.1 * b.2 + b.1 * a.2, a.2 * b.2)
def State.loadSum (s : State) (ns : List Nat) : Nat × Nat := (ns.map s.firLoad).foldl fracAdd (0, 1)
/-- The running channels. -/
def State.sdfRunning (s : State) : List Nat := (upTo 32).filter (fun n => (s.sdfCh n).isSome)
/-- Show the load in force (R332). -/
def State.showLoad (s : State) : State :=
  let l := s.loadSum s.sdfRunning
  s.fset SDF_LOAD.MACS (l.1 / (l.2 * 1000000))

/-- Is a context not SRC_PTP, or with HERMITE: by the values in force at its last enabling, or those its registers hold (R40, R336). -/
def State.ctxUnfit (s : State) (x : Nat) : Bool :=
  if s.fbit (fldAt SCX_CFG.EN x) then (s.ctxOf x).localMode || (s.ctxOf x).hermite
  else s.fget (fldAt SCX_CFG.MODE x) == 1 || s.fbit (fldAt SCX_CFG.HERMITE x)

/-- Would a start of channel `n` beside `others` be refused (R340)? 0 no. -/
def State.startErr (s : State) (n : Nat) (others : List Nat) : Nat :=
  let valid (b : Nat) : Bool := bit (s.fget SDF_BANK_STAT.VALID) b && !bit (s.fget SDF_BANK_STAT.LOADING) b
  let l := s.loadSum (n :: others)
  let lf := s.sch SDF_CH_OUT.L n
  let dv := s.sch SDF_CH_OUT.CTX_DIV n
  let x := s.sch SDF_CH_OUT.CTX n
  if !s.fbit (fldAt SDF_CLK_CFG.EN (n / 8)) then 1
  else if !valid (s.sch SDF_CH_CFG.RBANK n) || (!s.schb SDF_CH_CFG.FIR_BYP n && !valid (s.sch SDF_CH_CFG.FBANK n)) then 2
  else if l.1 > l.2 * 1000000000 then 3
  else if lf = 0 ∨ 200 < lf ∨ 10 * s.time.period < lf ∨ dv = 0 ∨ lf < dv then 4
  else if s.schb SDF_CH_OUT.CTX_EN n && s.ctxUnfit x then 5
  else 0

/-- Start a channel whose start is not refused (R338, R339). -/
def State.sdfBegin (s : State) (n : Nat) : State :=
  let m := s.settleMin n
  let st := s.sch SDF_CH_SETTLE.SETTLE n
  let (k, j) := s.gridFrom n
  let c : SdfCh := {
    first := s.modCount (n / 8), n := 0, ig := List.replicate (s.sch SDF_CH_CFG.ORDER n) 0,
    cb := List.replicate (s.sch SDF_CH_CFG.ORDER n) 0, nc := 0, cs := [], fs := [], k := k, j := j, tEv := s.nextEdge (n / 8),
    settle := if st < m then m else st, lastBit := none, run := 0, quiet := 0, hiSet := 0, hiClr := 0, loSet := 0, loClr := 0 }
  let s1 := (((s.sdfPut n (some c)).fset (fldAt SDF_CH_SETTLE.SETTLE_MIN n) m).fset (fldAt SDF_CH_CFG.EN n) 1).fset (fldAt SDF_CH_STAT.ERR n) 0
  let s2 := (((s1.fset (fldAt SDF_CH_STAT.RUN n) 1).fset (fldAt SDF_CH_STAT.SUPPR n) 1).fset (fldAt SDF_CH_STAT.MOD_FAULT n) 0)
  (((s2.clearAlarm 0x0C 0x01 n).sdfEvents n false false).sdfWord n).showLoad

/-- A refused start: EN stays 0, ERR is set (R340). -/
def State.startRefused (s : State) (n e : Nat) : State :=
  ((s.fset (fldAt SDF_CH_CFG.EN n) 0).fset (fldAt SDF_CH_STAT.ERR n) e).event 0x0C 0x03 1 (evData n e)

/-- SDF_CHANNEL_START. -/
def State.sdfStart (s : State) (n : Nat) : State :=
  let e := s.startErr n (s.sdfRunning.filter (fun m => m != n))
  if e = 0 then s.sdfBegin n else s.startRefused n e

/-- SDF_CHANNEL_STOP (R340). -/
def State.sdfStop (s : State) (n : Nat) : State :=
  if (s.sdfCh n).isNone then s.fset (fldAt SDF_CH_CFG.EN n) 0
  else
    let s1 := ((s.sdfPut n none).fset (fldAt SDF_CH_CFG.EN n) 0).fset (fldAt SDF_CH_STAT.RUN n) 0
    let s2 := ((s1.sdfEvents n false false).fset (fldAt SDF_CH_STAT.SUPPR n) 0).sdfWord n
    let p := s.sch SDF_CH_PT.POINT n
    let s3 := if s.schb SDF_CH_PT.PT_EN n && (s.ptInfo p).2 == 3 then s2.ptWrite p (s2.ptVal p) 0 s.now else s2
    s3.showLoad

/-- SDF_START of the channels of a mask (R411): the first refused channel and its ERR, or all start. -/
def State.sdfStartAll (s : State) (mask : Nat) : State × Option (Nat × Nat) :=
  let ns := (bitIdx 32 mask).filter (fun n => (s.sdfCh n).isNone)
  let others (n : Nat) : List Nat := s.sdfRunning ++ ns.filter (fun m => m != n)
  match (ns.map (fun n => (n, s.startErr n (others n)))).find? (fun p => p.2 != 0) with
  | some (n, e) => (s.startRefused n e, some (n, e))
  | none => (ns.foldl State.sdfBegin s, none)

/-- INPUT_SWITCH: SRC written to a new value while running (R338). -/
def State.inputSwitch (s : State) (n src : Nat) : State :=
  if src = 3 ∨ src = s.sch SDF_CH_CFG.SRC n then s
  else (s.fset (fldAt SDF_CH_CFG.SRC n) src).sdfWindow n (s.nextEdge (n / 8))

/-- The group clock is switched on (R325, R334). -/
def State.sdfClock (s : State) (g : Nat) : State :=
  { s with sdf := { s.sdf with onAt := setAt s.sdf.onAt g s.time.ticks, base := setAt s.sdf.base g 0, caps := setAt s.sdf.caps g [] } }

/-- A group clock's configuration has changed from the word `old`: the clock is switched on, or at another RATE counts on from the bits
counted; the captures of the former rate no longer serve (R325, R334; DEDUCED, log 275). -/
def State.clkSwitch (s : State) (g old : Nat) : State :=
  if !s.fbit (fldAt SDF_CLK_CFG.EN g) then s
  else if wf old SDF_CLK_CFG.EN = 0 then s.sdfClock g
  else if wf old SDF_CLK_CFG.RATE = s.fget (fldAt SDF_CLK_CFG.RATE g) then s
  else
    let c := s.sdf.base.getD g 0 + s.fabSince g / dMod (wf old SDF_CLK_CFG.RATE)
    { s with sdf := { s.sdf with onAt := setAt s.sdf.onAt g s.time.ticks, base := setAt s.sdf.base g c, caps := setAt s.sdf.caps g [] } }

/-- A boundary: captures of the groups whose clock runs, the grids after a step or a change of P (R334, R337). -/
def State.sdfBoundary (s : State) (oldP : Nat) : State :=
  let k := s.time.frame
  let stp := s.time.steps != s.sdf.steps
  let s1 := (upTo 4).foldl (fun s g =>
    if s.fbit (fldAt SDF_CLK_CFG.EN g) && bit s.sys.domOn 7 then
      let cs := (⟨k, s.fOf k, s.modCount g, s.modPh g, stp⟩ :: s.sdf.caps.getD g []).take 8
      { s with sdf := { s.sdf with caps := setAt s.sdf.caps g cs } }
    else s) { s with sdf := { s.sdf with steps := s.time.steps } }
  s1.sdfRunning.foldl (fun s n =>
    if s.time.period ≠ oldP then
      if 10 * s.time.period < s.sch SDF_CH_OUT.L n then
        let s2 := s.sdfStop n
        (s2.fset (fldAt SDF_CH_STAT.ERR n) 6).event 0x0C 0x03 1 (evData n 6)
      else
        match s.sdfCh n with
        | some c => (s.sdfPut n (some { c with k := k, j := 0 })).sdfWindow n (Int.ofNat s.now)
        | none => s
    else
      match s.sdfCh n with
      | some c =>
        if c.k < k && ((s.sdf.caps.getD (n / 8) []).find? (fun x => x.k == c.k)).isNone then s.sdfPut n (some { c with k := k, j := 0 }) else s
      | none => s) s1

/-! ## Coefficient banks (R330, R331) -/

/-- Does a running channel name a bank (R331)? -/
def State.bankUsed (s : State) (b : Nat) : Bool :=
  s.sdfRunning.any (fun n => s.sch SDF_CH_CFG.RBANK n == b || (!s.schb SDF_CH_CFG.FIR_BYP n && s.sch SDF_CH_CFG.FBANK n == b))

/-- BANK_OPEN: the write sets BANK and ADDR and opens the bank. -/
def State.bankOpen (s : State) (b addr : Nat) : State :=
  let s1 := (s.fset SDF_BANK_CTRL.BANK b).fset SDF_BANK_CTRL.ADDR addr
  let b := b % 8
  if s.bankUsed b then s1.fup SDF_BANK_CTRL.ERR
  else (s1.fset SDF_BANK_STAT.LOADING (putBits (s.fget SDF_BANK_STAT.LOADING) b 1 1)).fset SDF_BANK_STAT.VALID
    (putBits (s.fget SDF_BANK_STAT.VALID) b 1 0)

/-- Put a word of a bank. -/
def State.bankPut (s : State) (b i : Nat) (w : Word) : State :=
  { s with sdf := { s.sdf with banks := tabSet bankDflt s.sdf.banks (b * 2048 + i) w } }

/-- BANK_DATA_WRITE. -/
def State.bankData (s : State) (w : Word) : State :=
  let b := s.fget SDF_BANK_CTRL.BANK
  let a := s.fget SDF_BANK_CTRL.ADDR
  if !bit (s.fget SDF_BANK_STAT.LOADING) b || decide (1088 < a) then s
  else (s.bankPut b a w).fset SDF_BANK_CTRL.ADDR (a + 1)

/-- Is a bank's word one COMMIT accepts (R331)? -/
def bankWordOk (i w : Nat) : Bool := if i = 64 then decide (w ≤ 0x4000) else sx 32 w == sx 24 w

/-- BANK_COMMIT. -/
def State.bankCommit (s : State) : State :=
  let b := s.fget SDF_BANK_CTRL.BANK
  if !bit (s.fget SDF_BANK_STAT.LOADING) b then s.fup SDF_BANK_CTRL.ERR
  else
    let s1 := s.fset SDF_BANK_STAT.LOADING (putBits (s.fget SDF_BANK_STAT.LOADING) b 1 0)
    if (upTo 1089).all (fun i => bankWordOk i (s.bankW b i)) then s1.fset SDF_BANK_STAT.VALID (putBits (s.fget SDF_BANK_STAT.VALID) b 1 1)
    else s1.fup SDF_BANK_CTRL.ERR

/-- A bank loaded from the words of an image (R407). -/
def State.bankLoad (s : State) (b : Nat) (bs : List Byte) : State :=
  let s1 := (upTo 1089).foldl (fun s i => s.bankPut b i (BitVec.ofNat 32 (uAt 4 bs (4 * i)))) s
  s1.fset SDF_BANK_STAT.VALID (putBits (s1.fget SDF_BANK_STAT.VALID) b 1 (b2n ((upTo 1089).all (fun i => bankWordOk i (s1.bankW b i)))))

end Sys2Proof.Machine
end

