-- ==== Sys2Proof/Machine/Load.lean ====
section
/-!
DEFINITION. Loading a configuration (R394, R395, R465): the registers of each object with what their change brings about,
filter elements and banks, the checks between the objects of one configuration (R395, R406 and the chapters' own), and
the checks of images (R67 to R74, R135, R407).
-/

namespace Sys2Proof.Machine

/-! ## Registers of an object, with their effects -/

/-- The EN bit of a context has changed from `was` (R40). -/
def State.ctxSwitch (s : State) (n : Nat) (was : Bool) : State :=
  let en := s.fbit (fldAt SCX_CFG.EN n)
  if en && !was then
    if s.fget (fldAt SCX_PERIOD.TP n) = 0 then s.fset (fldAt SCX_CFG.EN n) 0 else s.ctxEnable n
  else if was && !en then s.ctxDisable n
  else s

/-- INIT of a controller has changed from `was` (R302). -/
def State.canSwitch (s : State) (n : Nat) (was : Bool) : State :=
  let now := s.fbit (fldAt CAN_CTRL.INIT n)
  if now == was then s
  else
    let s1 := s.fput (fldAt CAN_CTRL.INIT n) was
    if now then s1.canInitEnter n else s1.canInitLeave n

/-- A word of a channel's configuration with EN and SRC left out (R345). -/
def sdfCfgRest (w : Nat) : Nat := putBits (putBits w 31 1 0) 26 2 0

/-- Load the registers of a filter channel (R345): a running channel whose configuration changes is stopped and started
again; a new source alone is an input switch (R338). -/
def State.sdfLoad (s : State) (o : Obj) : State :=
  let n := idIdx o.id
  let regs := objRegs 0x17 n
  let new (p : Nat × Nat) : Nat := uAt 4 o.body p.1
  let old (p : Nat × Nat) : Nat := (s.reg p.2).toNat
  let clk := decide (n ≤ 3) && regs.any (fun p => p.1 == 28 && new p != old p)
  let chg := regs.any (fun p => p.1 != 28 && (if p.1 = 0 then sdfCfgRest (new p) != sdfCfgRest (old p) else new p != old p))
  let en := bits (uAt 4 o.body 0) 31 1 == 1
  let src := bits (uAt 4 o.body 0) 26 2
  let s1 := if clk then (upTo 8).foldl (fun s j => if (s.sdfCh (8 * n + j)).isSome then s.sdfStop (8 * n + j) else s) s else s
  let s2 := if (s1.sdfCh n).isSome && (chg || !en) then s1.sdfStop n else s1
  let s3 := if (s2.sdfCh n).isSome then s2.inputSwitch n src else s2
  let s4 := s3.loadObj o
  let s5 := (if clk then s4.clkSwitch n (s.reg (aSDF_CLK_CFG + 4 * n)).toNat else s4).sdfEnables n
  if en && (s5.sdfCh n).isNone then s5.sdfStart n else s5

/-- The tracked domains after a change of TIM_DOM_CFG from `old`: a domain under a new number starts anew (R276). -/
def State.domSwitched (s : State) (old : Nat) : State :=
  let w := (s.reg aTIM_DOM_CFG).toNat
  let p := wf w TIM_DOM_CFG.PRI_DOMAIN != wf old TIM_DOM_CFG.PRI_DOMAIN
  let q := wf w TIM_DOM_CFG.SEC_DOMAIN != wf old TIM_DOM_CFG.SEC_DOMAIN || wf w TIM_DOM_CFG.SEC_EN != wf old TIM_DOM_CFG.SEC_EN
  let s1 := if p then s.domPut 0 domOff else s
  let s2 := if q then s1.domPut 1 domOff else s1
  -- CLASS_MAX alone: the states of both domains follow it
  let s3 := if wf w TIM_DOM_CFG.CLASS_MAX != wf old TIM_DOM_CFG.CLASS_MAX then (s2.domPut 0 (s2.dom 0)).domPut 1 (s2.dom 1) else s2
  if w ≠ old then s3.domJudge else s3

/-- Load the registers of one enabled object with what follows from the change. -/
def State.loadObjFx (s : State) (o : Obj) : State :=
  let n := idIdx o.id
  match idKind o.id with
  | 0x06 => (s.loadObj o).ctxSwitch n (s.fbit (fldAt SCX_CFG.EN n))
  | 0x12 => ((s.loadObj o).slewCap).domSwitched (s.reg aTIM_DOM_CFG).toNat
  | 0x14 => (s.loadObj o).tpCheck
  | 0x15 => (s.loadObj o).canSwitch n (s.fbit (fldAt CAN_CTRL.INIT n))
  | 0x17 => s.sdfLoad o
  | 0x1A => (s.loadObj o).estAnew (s.fget SAF_EST_MAP.MAP)
  | 0x1B =>
    let s1 := s.loadObj o
    { s1 with fus := { s1.fus with autoReadmit := s1.fbit FUS_CFG.AUTO_READMIT } }
  | _ => s.loadObj o

/-- Scenario slots enabled at start (R162): SLV_SCEN.EN of the SCENARIO objects; a slot without one is disabled. -/
def State.loadScen (s : State) : State :=
  s.fset SLV_SCEN.EN ((upTo 16).foldl (fun m i =>
    match s.obj 0x0A i with
    | some b => if byteAt b 6 = 1 then m ||| 2 ^ (i - 1) else m
    | none => m) 0)

/-- Reload every register field that an object in force holds (R394, R395). -/
def State.loadFields (s : State) : State :=
  ((s.cfg.objs.filter (fun o => o.flags % 2 == 1)).foldl State.loadObjFx s).loadScen

/-- An image has been loaded again: a fault it had is over (R76, R135). -/
def State.imageGood (s : State) (p : Nat × Nat) : State :=
  match p.1 with
  | 1 => ({ s with fus := { s.fus with imgBad := s.fus.imgBad.filter (· != p.2), imgNew := s.fus.imgNew.filter (· != p.2) } }).clearAlarm 0x04 0x07 p.2
  | 2 =>
    if p.2 = 0 then s.slvMod (fun x => { x with mpcBad := false })
    else (s.slvMod (fun x => { x with pipe := none })).clearAlarm 0x06 0x04 0
  | _ => s

/-- A configuration takes force (R395, R465): its images, registers, filter elements, SAF_HASH; UNCOMMITTED clears. Images that are
`fresh`, or were not there, are loaded; banks before the channels that name them. -/
def State.configLoad (s : State) (objs : List Obj) (imgs : List Img) (fresh : List (Nat × Nat)) : State :=
  let new := imgs.filter (fun i => fresh.contains (i.kind, i.slot) || !(s.cfg.imgs.contains i))
  let s1 := { s with cfg := { s.cfg with objs := objs, imgs := imgs, load := none, fresh := [], uncommitted := false } }
  let s2 := new.foldl (fun s i => (if i.kind = 5 then s.bankLoad i.slot i.bytes else s).imageGood (i.kind, i.slot)) s1
  let s3 := s2.loadFields
  let s4 := (upTo 8).foldl State.loadFilters s3
  let s5 := (upTo 4).foldl State.igmpReports s4
  (s5.fset SAF_HASH.HASH (digest32 (safDigest objs))).showPnl

/-! ## Checks between objects (R395, R406) -/

/-- A word of a register as a configuration gives it: the object's, else the one in force (R31). -/
def State.cfgWord (s : State) (kind o a : Nat) : Nat :=
  match s.obj kind 0 with | some b => uAt 4 b o | none => (s.reg a).toNat

/-- P in ms of a configuration. -/
def State.cfgP (s : State) : Nat := periodMs (wf (s.cfgWord 0x12 0 aTIM_FRAME_CFG) TIM_FRAME_CFG.PERIOD)

/-- A power table does not decrease and is convex (R156). -/
def ptabOk (p : List Flt) : Bool :=
  let d := (p.zip (p.drop 1)).map (fun x => fsub x.2 x.1)
  p.all ffinite && (p.zip (p.drop 1)).all (fun x => fle x.1 x.2) && (d.zip (d.drop 1)).all (fun x => fle x.1 x.2)

/-- Variables of the allocation problem (R154): of the thrusters up to `i`, with slacks and sections. -/
def State.allocVars (s : State) (i : Nat) : Nat :=
  3 + ((upTo 16).filter (fun j => (s.obj 0x04 j).isSome)).length
    + (((upTo 32).filter (fun j => decide (j ≤ i))).map (fun j => match s.thr j with
        | some c => 1 + (if c.kind = 1 ∨ c.kind = 2 then 1 else 0) + (if c.feed2 = 255 then 0 else 1)
        | none => 0)).sum

/-- A thruster object beside the others: power table, OFF, HOLD_T, number of variables (R31, R154, R156, R287). -/
def State.thrObjOk (s : State) (i : Nat) : Bool :=
  match s.thr i with
  | none => true
  | some c =>
    ptabOk c.ptab && decide (c.off ≤ 200 * s.cfgP)
      && decide ((wf (s.cfgWord 0x13 0 aRED_CFG) RED_CFG.KEY_LEASE + 2) * s.cfgP ≤ c.holdT) && decide (s.allocVars i ≤ 96)

/-- A reference beside the images: the kind of its image, and the sum of MACS up to it (R67, R75). -/
def State.refObjOk (s : State) (r : Nat) : Bool :=
  match s.refCfg r with
  | none => true
  | some c =>
    (match s.img 1 c.enc with | some b => encKind b == c.kind | none => true)
      && decide (sumN (s.refMacs.take (r + 1)) * 10 ≤ 24000000 * s.cfgP)

/-- The contexts a binding names agree with its source (R532). -/
def State.bindObjOk (s : State) (b : List Byte) : Bool :=
  let cfg (n : Nat) : Nat := match s.obj 0x06 n with | some o => uAt 4 o 0 | none => (s.reg (aSCX_CFG + 0x20 * n)).toNat
  (upTo (byteAt b 2)).all (fun i =>
    let w := cfg (byteAt b (16 + 12 * i))
    let ptp := wf w SCX_CFG.MODE == 0
    let her := wf w SCX_CFG.HERMITE == 1
    match byteAt b 0 with
    | 0 => true
    | 4 => ptp && (her == (byteAt b 4 != 2))
    | _ => ptp && !her)

/-- A block of points overlaps neither the system points nor another block (R406). -/
def State.blockObjOk (s : State) (o : Obj) : Bool :=
  let lo := uAt 4 o.body 0
  let hi := lo + uAt 4 o.body 4
  decide (1024 ≤ lo) && s.cfg.objs.all (fun p =>
    idKind p.id != 0x08 || p.flags % 2 == 0 || p.id == o.id || decide (hi ≤ uAt 4 p.body 0)
      || decide (uAt 4 p.body 0 + uAt 4 p.body 4 ≤ lo))

/-- Each slack weight is at least 1,000 times every other quadratic weight (R157). -/
def wsOk (b : List Byte) : Bool :=
  let m := (fltsAt b 12 96).foldl fmax 0
  (fltsAt b 0 3).all (fun w => fle (fmul 0x447A0000 m) w)

/-- The PANEL object (R493): segments within the chain, ascending thresholds, the type of the temperature point. -/
def State.panelObjOk (s : State) (b : List Byte) : Bool :=
  let segs := 64 * (wf (uAt 4 b 0) PNL_CFG.NDRV + 1)
  let t (i : Nat) : Int := sx 16 (uAt 2 b (8 + 2 * i))
  (upTo 512).all (fun i => byteAt b (28 + i) == 255 || decide (i < segs))
    && (upTo 6).all (fun i => decide (t i < t (i + 1)))
    && (wf (uAt 4 b 4) PNL_TEMP_CFG.TEMP_EN == 0 || (s.ptInfo (wf (uAt 4 b 4) PNL_TEMP_CFG.POINT)).1 == 2)

/-- Does an SDF channel feed context `i` (R336): by its object, else by its registers? -/
def State.sdfFeeds (s : State) (i : Nat) : Bool :=
  (upTo 32).any (fun n =>
    let w := match s.obj 0x17 n with | some b => uAt 4 b 4 | none => (s.reg (aSDF_CH_OUT + 64 * n)).toNat
    wf w SDF_CH_OUT.CTX_EN == 1 && wf w SDF_CH_OUT.CTX == i)

/-- Bytes an enabled object can put into the main part of a manifest (R181): a context two sample entries, the MPC its commit, a
pier its STATUS. A context that an SDF channel feeds has 4-byte values without rate or quality. The values of a pier's samples may carry quality words up to 48 bytes in all. -/
def State.mainBytes (s : State) (o : Obj) : Nat :=
  let i := idIdx o.id
  match idKind o.id with
  | 0x06 =>
    let w := uAt 4 o.body 0
    let bs := s.bindings.filter (fun b => (fieldsOf b.2).any (fun f => f.ctx == i))
    let (f, k) := s.ctxShape i
    let val := (if f == .i64 then 8 * k else 4 * k) * (1 + wf w SCX_CFG.HERMITE)
    let len := match bs with
      | b :: _ => if byteAt b.2 0 = 0 then 48 else if byteAt b.2 0 = 4 then val + 16 else val
      | [] => 4
    if wf w SCX_CFG.EN = 1 ∧ (!bs.isEmpty || s.sdfFeeds i) then 2 * (16 + len) else 0
  | 0x0C => 8 + 12 * byteAt o.body 1
  | 0x10 =>
    let node := uAt 2 o.body 0
    let thr := ((upTo 32).filter (fun j => match s.thr j with | some c => c.node == node | none => false)).length
    let sec := ((upTo 16).filter (fun j => match s.obj 0x04 j with | some b => uAt 2 b 0 == node | none => false)).length
    if byteAt o.body 2 = 0 then 16 + 16 * thr else if byteAt o.body 2 = 1 then 16 + 8 * sec else 0
  | _ => 0

/-- The largest main part of the objects up to an OBJ_ID, the 1,024 bytes for host commands included (R181). -/
def State.mainMax (s : State) (id : Nat) : Nat :=
  64 + 1024 + ((s.cfg.objs.filter (fun o => o.flags % 2 == 1 && decide (o.id ≤ id))).map s.mainBytes).sum

/-- The MPC leaves room for the scenario MPC and for suspension: ITER_MPC × CYCLES is at most 0.5 × M × 0.77 × P × 10^9, with the CYCLES
of its schedule image (R152); without an image there is nothing to test yet. -/
def State.mpcFits (s : State) : Bool :=
  let w := s.cfgWord 0x1D 0 aSLV_CFG
  match s.img 2 0 with
  | some b => decide (wf w SLV_CFG.ITER_MPC * Config.schedCycles b * 1000 ≤ 385 * wf w SLV_CFG.MPC_M * s.cfgP * 1000000)
  | none => true

/-- One object of a configuration `s` holds, against every rule; `staged` says that this commit brings it. -/
def State.objOk (s : State) (o : Obj) (staged : Bool) : Bool :=
  let k := idKind o.id
  let b := o.body
  idExists o.id && (objFault k (idIdx o.id) b).isNone && (o.flags % 2 == 0 ||
    (match k with
    | 0x02 => s.thrObjOk (idIdx o.id)
    | 0x05 => s.refObjOk (idIdx o.id)
    | 0x06 => decide (s.mainMax o.id ≤ 4800 * s.cfgP)
    | 0x07 => s.bindObjOk b
    | 0x08 => s.blockObjOk o
    | 0x0C => decide (s.mainMax o.id ≤ 4800 * s.cfgP) && s.mpcFits
    | 0x0D => wsOk b
    | 0x10 => decide (s.mainMax o.id ≤ 4800 * s.cfgP)
    | 0x12 => decide (wf (uAt 4 b 8) TIM_SUP_CFG.GUARD ≤ 200 * s.cfgP)
    | 0x13 => (upTo (wf (uAt 4 b 0) RED_CFG.SET_N - 1)).all (fun i => decide (uAt 2 b (8 + 2 * i) < uAt 2 b (10 + 2 * i)))
    | 0x14 => decide (50 ≤ wf (uAt 4 b 4) GNS_MEAS_CFG.N * s.cfgP)
    | 0x18 => s.panelObjOk b && !(staged && s.pnl.pods.any (fun p => p.2.run.isSome || p.2.queue.isSome || p.2.pend.isSome))
    | _ => true))

/-- A configuration in place of the one in force, for its checks. -/
def State.withCfg (s : State) (objs : List Obj) (imgs : List Img) : State :=
  { s with cfg := { s.cfg with objs := objs, imgs := imgs } }

/-- The first object of a configuration that fails a check, in rising OBJ_ID, a staged one before those in force (R395);
`staged` the objects a commit brings. A staged bank that a running channel names fails with that channel's object (R407). -/
def State.commitFault (s : State) (objs : List Obj) (imgs : List Img) (staged : List Obj) (banks : List Nat) : Option Nat :=
  let t := s.withCfg objs imgs
  let isStaged (o : Obj) : Bool := staged.any (fun p => p.id == o.id)
  let bad := objs.filter (fun o => !t.objOk o (isStaged o))
  match (bad.find? isStaged).or bad.head? with
  | some o => some o.id
  | none =>
    (s.sdfRunning.find? (fun n => banks.any (fun b => s.sch SDF_CH_CFG.RBANK n == b
      || (!s.schb SDF_CH_CFG.FIR_BYP n && s.sch SDF_CH_CFG.FBANK n == b)))).map (fun n => objId 0x17 n)

/-! ## Images (R67 to R74, R135, R407) -/

/-- The first layer that breaks a rule of R70, R71 or R74. -/
def encLayerFault (waLen actMax : Nat) : Nat → List EncLayer → List (Nat × Nat) → Option Nat
  | _, [], _ => none
  | i, l :: ls, w =>
    if !encLayerOk waLen actMax l w ls.isEmpty then some i else encLayerFault waLen actMax (i + 1) ls ((l.out, l.outLen) :: w)

/-- The offset of the first format rule an encoder image breaks (R68 to R71, R74, R401): a header field, an input entry, a layer
entry. -/
def encFault (b : List Byte) : Option Nat :=
  let heading := encKind b == 5 || encKind b == 6
  let ls := encLayersOf b
  let head : List (Nat × Bool) := [
    (0, uAt 4 b 0 == 0x4D455847), (4, uAt 2 b 4 == 1), (6, decide (encKind b ≤ 6)),
    (7, decide (1 ≤ encLayers b) && decide (encLayers b ≤ 64)), (8, decide (1 ≤ encInputs b) && decide (encInputs b ≤ 32)),
    (9, decide (encKMin b ≤ 5)), (10, decide (encKMin b ≤ encKMax b) && decide (encKMax b ≤ 5)),
    (11, byteAt b 11 == (if heading then 1 else 2)),
    (12, decide (encSize b ≤ 1048576) && decide (64 + 4 * encInputs b + 32 * encLayers b ≤ encSize b) && encSize b + 104 == b.length),
    (20, decide (64 + 4 * encInputs b + 32 * encLayers b ≤ uAt 4 b 20) && decide (uAt 4 b 20 + uAt 4 b 24 ≤ encSize b)),
    (28, decide (uAt 4 b 28 ≤ 4096) && decide (encInputs b ≤ uAt 4 b 28)), (56, uAt 4 b 56 == 0)]
  let inp : List (Nat × Bool) := (upTo (encInputs b)).map (fun n =>
    (64 + 4 * n, decide (byteAt b (64 + 4 * n) ≤ 0x14) && decide ((sx 8 (byteAt b (64 + 4 * n + 1))).natAbs ≤ 15)
      && uAt 2 b (64 + 4 * n + 2) == 0))
  let lay (l : Nat) : Nat := 64 + 4 * encInputs b + 32 * l
  match (head ++ inp).find? (fun c => !c.2) with
  | some c => some c.1
  | none =>
    match encLayerFault (uAt 4 b 24) (uAt 4 b 28) 0 ls [(0, encInputs b)] with
    | some l => some (lay l)
    | none => if (match ls.getLast? with | some l => !heading || l.ph == 1 | none => false) then none else some (lay (ls.length - 1))

/-- An entry of a waveform table (R497): LEN, the codes, equal counts of POS and NEG frames. -/
def waveEntryOk (b : List Byte) (i : Nat) : Bool :=
  let o := 16 + 20 * i
  let len := byteAt b o
  let codes := uAt 16 b (o + 4)
  let c (f : Nat) : Nat := bits codes (2 * f) 2
  decide (len ≤ 64) && (upTo 64).all (fun f => if f < len then c f != 3 else c f == 0)
    && ((upTo len).filter (fun f => c f == 1)).length == ((upTo len).filter (fun f => c f == 2)).length

/-- The offset of the first rule a waveform table breaks (R497). -/
def waveFault (b : List Byte) : Option Nat :=
  if uAt 4 b 0 ≠ 0x56505847 then some 0
  else if uAt 2 b 4 ≠ 1 then some 4
  else if uAt 2 b 6 ≠ 160 then some 6
  else if uAt 8 b 8 ≠ 0 then some 8
  else ((upTo 160).find? (fun i => !waveEntryOk b i)).map (fun i => 16 + 20 * i)

/-- What the check of a configuration image yields: 0 accepted, else a status of R401 and its DETAIL. The layout of a schedule
is not given: its CRC and its signature are what is checked (R135). -/
def imgCheck (kind : Nat) (b : List Byte) : Nat × Nat :=
  let trail := crc32c (b.take (b.length - 4)) == uAt 4 b (b.length - 4)
  let fault (f : Option Nat) : Nat × Nat := match f with | some o => (0x8103, o) | none => (0, 0)
  match kind with
  | 1 => if !encCrcOk b || !Config.sigOk 0 b then (0x8101, 0) else fault (encFault b)
  | 2 => if !Config.schedCrcOk b || !Config.sigOk 1 b then (0x8101, 0) else (0, 0)
  | 4 => if !trail then (0x8101, 0) else if b.length ≠ 3220 then (0x8103, b.length) else fault (waveFault b)
  | 5 =>
    if !trail then (0x8101, 0)
    else if b.length ≠ 4360 then (0x8103, b.length)
    else fault (((upTo 1089).find? (fun i => !bankWordOk i (uAt 4 b (4 * i)))).map (fun i => 4 * i))
  | _ => (0, 0)

/-- Boot verifies the images of the configuration as at their load; one that fails is a fault in force (R465, R76, R135). -/
def State.imgVerify (s : State) : State :=
  s.cfg.imgs.foldl (fun s i => if (imgCheck i.kind i.bytes).1 = 0 then s else s.imageBad (i.kind, i.slot)) s

end Sys2Proof.Machine
end

