-- ==== Sys2Proof/Machine/Power.lean ====
section
/-!
DEFINITION. Supply dips and shedding (R443 to R448), power-up, brown-out and power states (R442, R449 to R452), the reset
kinds and what each leaves in place (R453 to R459), and the boot (R460 to R466).
-/

namespace Sys2Proof.Machine

/-- Change the supervision record. -/
def State.sysMod (s : State) (f : SysSt → SysSt) : State := { s with sys := f s.sys }

/-- Power a domain or switch it off. -/
def State.setDom (s : State) (d : Nat) (on : Bool) : State :=
  s.sysMod (fun y => { y with domOn := putBits y.domOn d 1 (b2n on) })

/-! ## Dips and shedding (R443 to R448) -/

/-- Note a rail voltage for PMU_VMON: the present value and the minimum (R467). -/
def State.noteMv (s : State) (rail mv low : Nat) : State :=
  s.sysMod (fun y => { y with mv := setAt y.mv rail mv, mvMin := setAt y.mvMin rail (min (y.mvMin.getD rail 0xFFFF) low) })

/-- SUPPLY_WARNING: a rail below its warning level (R443, R445); rail 6 is VBAT, which has a warning only. A new crossing during
restoration leaves the domains that are still off (R447). -/
def State.supplyWarn (s : State) (rail mv : Nat) : State :=
  if s.pwr == .off || s.pwr == .hibernate || s.sys.held.isSome || rail > 6 then s
  else
    let s1 := s.noteMv rail mv mv
    let s2 := s1.redMod (fun x => { x with supplyAt := some s.now })
    if rail = 6 then s2.sysMod (fun y => { y with low := putBits y.low 6 1 1 })
    else
      let s3 := if s.inDip then
          (if rail = s.sys.dipRail then s2.sysMod (fun y => { y with dipMin := min y.dipMin mv }) else s2)
        else s2.sysMod (fun y => { y with dipRail := rail, dipMin := mv, dipFrom := s.now, shed := s.fget PMU_SHED.SHED, back := 0 })
      (s3.sysMod (fun y => { y with low := putBits y.low rail 1 1 })).showPnl

/-- A rail has returned above warning plus hysteresis; `low` is its lowest voltage over the dip. When every rail has recovered
the dip ends: the DIP event and PMU_DIP, once (R445, R446). -/
def State.railBack (s : State) (rail mv low : Nat) : State :=
  if !bit s.sys.low rail || rail > 6 then s
  else
    let s1 := ((s.noteMv rail mv low).sysMod (fun y => { y with low := putBits y.low rail 1 0 })).redMod (fun x => { x with supplyAt := some s.now })
    if rail = 6 then s1
    else
      let s2 := if rail = s.sys.dipRail then s1.sysMod (fun y => { y with dipMin := min y.dipMin low }) else s1
      if s2.inDip then s2
      else
        let r := s2.sys.dipRail
        let m := s2.sys.dipMin
        let s3 := (((s2.finc PMU_DIP.COUNT).fset PMU_DIP.RAIL r).fset PMU_DIP.MIN_MV m).sysMod (fun y => { y with recovered := s.now })
        (((s3.event 0x0E 0x01 1 (leBytes 4 r ++ leBytes 2 m)).ydSupply 0).storeWaiting.ydSaveTry).showPnl

/-- The effect of shedding a domain (R446). -/
def State.shedFx (s : State) (d : Nat) : State :=
  match d with
  | 11 => s.pnlStop
  | 8 => s.tpCheck.ydGnssOff
  | 6 => s.lgcShed
  | _ => s

/-- Shed one domain, unless it is off already: the mask, the count, the SHED record with the mask of the episode. -/
def State.shedDom (s : State) (d : Nat) : State :=
  if !bit s.sys.domOn d then s
  else
    let m := s.sys.shed ||| 2 ^ d
    let s1 := (s.setDom d false).sysMod (fun y => { y with shed := m })
    let s2 := (s1.finc PMU_SHED.COUNT).fset PMU_SHED.SHED (s1.fget PMU_SHED.SHED ||| 2 ^ d)
    let s3 := if s2.hasAlarm 0x0E 0x02 0 then s2.event 0x0E 0x02 2 (leBytes 2 m) else s2.alarmD 0x0E 0x02 0 (leBytes 2 m)
    s3.shedFx d

/-- DOMAIN_SHED: the domains whose instant after the first crossing has come while some rail has not recovered (R446). -/
def State.shedDue (s : State) : State :=
  if !s.inDip || !s.clocked then s
  else [(11, 20), (8, 30), (6, 40)].foldl (fun s (p : Nat × Nat) =>
    if decide (s.sys.dipFrom + p.2 * 1000000 ≤ s.now) then s.shedDom p.1 else s) s

/-- Restore one shed domain (R447). -/
def State.restoreDom (s : State) (d : Nat) : State :=
  let s1 := ((s.setDom d true).sysMod (fun y => { y with back := y.back + 1 })).fset PMU_SHED.SHED
    (putBits (s.fget PMU_SHED.SHED) d 1 0)
  match d with
  | 11 => s1.showPnl
  | 8 => s1.tpCheck
  | 6 => s1.lgcRestore
  | _ => s1

/-- DOMAIN_RESTORE: D6, D8, D11, those shed, from 1 s after recovery at intervals of 100 ms; SHED clears with the last (R447). -/
def State.restoreDue (s : State) : State :=
  if s.inDip || !s.clocked || s.fget PMU_SHED.SHED = 0 then s
  else
    let s1 := [6, 8, 11].foldl (fun s d =>
      if bit (s.fget PMU_SHED.SHED) d && decide (s.sys.recovered + 1000000000 + s.sys.back * 100000000 ≤ s.now) then s.restoreDom d
      else s) s
    if s1.fget PMU_SHED.SHED = 0 then
      (s1.clearAlarmD 0x0E 0x02 0 (leBytes 2 s.sys.shed)).sysMod (fun y => { y with shed := 0, back := 0 })
    else s1

/-- CLOCK_MONITOR_SECOND: `warn` says that the second deviated beyond ±100 ppm (R444). -/
def State.clockSecond (s : State) (warn : Bool) : State :=
  if !s.clocked || !warn then s
  else ((s.finc PMU_CNT.CLK_WARN).redMod (fun x => { x with clkWarn := true })).ydSupply 8

/-- HOLD_UP_CHARGED: VHOLD at or above 10.5 V; what waited may start (R448). -/
def State.holdCharged (s : State) : State :=
  (s.sysMod (fun y => { y with holdOk := true })).storeWaiting.ydSaveTry

/-! ## What a reset leaves in place (R457) -/

/-- Kinds after which everything but D0 and flash starts anew. -/
def RstKind.cold (k : RstKind) : Bool := k == .por || k == .bor
/-- Kinds that keep TIME_NS and INC, the trip latches and the DISC faults. -/
def RstKind.keepsTime (k : RstKind) : Bool := k == .xrst || k == .wdr || k == .srst
/-- Kinds that keep the retired channels, the logic image and recorder staging. -/
def RstKind.warm (k : RstKind) : Bool := k == .wdr || k == .srst || k == .sleepWake
/-- The coding of PMU_RST_CAUSE.KIND (R467). -/
def RstKind.code : RstKind → Nat
  | .por => 0 | .bor => 1 | .xrst => 2 | .wdr => 3 | .srst => 4 | .drst => 5 | .safr => 6 | .sleepWake => 7

/-- Copy registers from another state. -/
def State.copyRegs (s t : State) (as : List Nat) : State := as.foldl (fun s a => s.setReg a (t.reg a)) s

/-- Tags of the commands a reset leaves unanswered (R396). -/
def State.lostTags (s : State) : List Nat := s.hif.pendTags ++ s.hif.taken.map (fun t => t.cmd.tag.toNat)

/-- The host interface after a restart of SV (R396). -/
def State.hifRestart (s : State) (kind : RstKind) (dom : Nat) : HifSt :=
  { resetHif with held := [], pendTags := s.lostTags, rstKind := kind.code, rstDom := dom }

/-- Alarms that outlive a reset: those of trip latches and DISC faults kept, and of channels kept retired. -/
def keepAlarm (k : RstKind) (a : Nat × Nat) : Bool :=
  (k.keepsTime && (a.1 == 0x0801 || a.1 == 0x0804))
    || (k.warm && [0x0F02, 0x0303, 0x0A02, 0x0B02, 0x0606].contains a.1)

/-- Show a channel kept retired in the registers of its block. -/
def State.showKept (s : State) (key : Nat) : State :=
  let n := key % 4096
  let s1 := s.showRet (key / 4096) n true
  match key / 4096 with
  | 3 => s1.canRetire n
  | 4 => if 3 ≤ n ∧ n < 7 then
      (s1.fset CEX_ASSIGN.RETIRED (putBits (s1.fget CEX_ASSIGN.RETIRED) (n - 3) 1 1)).cexMod (fun c => { c with moving := true })
    else s1
  | 5 => s1.slvMod (fun x => { x with deadPath := x.deadPath ||| 2 ^ n })
  | _ => s1

/-- Safety state after a restart of SV: latches, causes and DISC faults kept, or every latch set with POWER_ON (R457). The
input levels are the balls'; the password, F and the change log survive, and the registers show them (R242). -/
def State.safRestart (t s : State) (k : RstKind) : State :=
  let shown := ((t.fput SAF_STATUS.PW_SET s.saf.pw.isSome).fset SAF_PW.FAILS s.d0.pwFails).fset SAF_LOG.SEQ (s.d0.clSeq - 1)
  let levels := (shown.copyRegs s [aSAF_ESTOP]).safMod (fun x => { x with
    rise := s.saf.rise, pw := s.saf.pw, pwAt := s.saf.pwAt, rstOn := s.saf.rstOn, rstOff := s.saf.rstOff })
  if k.keepsTime then
    ((levels.copyRegs s ((upTo 4).map (fun g => aSAF_CAUSE + 4 * g))).safMod (fun x => { x with
      latch := s.saf.latch, diffAt := s.saf.diffAt, seenOff := s.saf.seenOff })).showSaf
  else (levels.fset SAF_ESTOP.DISC 0).safMod (fun x => { x with
    diffAt := (upTo 4).map (fun n =>
      if bit (s.fget SAF_ESTOP.LEVEL_A) n != bit (s.fget SAF_ESTOP.LEVEL_B) n then some t.now else none) })

/-- Every reset that restarts SV, but a DRST of D1 (R453, R457): the state of reset, with what the kind leaves. -/
def State.restart (s : State) (k : RstKind) : State :=
  let y := s.sys
  let t0 : State := { State.reset with
    pending := s.pending, out := s.out, free := s.free, flash := s.flash, pwr := .run
    d0 := { s.d0 with queue := [], lostNew := 0 }
    hif := s.hifRestart k 0
    dia := { resetDia with poison := if k == .sleepWake then s.dia.poison.filter (fun w => w.1 == 0) else [] }
    cfg := { resetCfg with issued := if k == .por then [] else s.cfg.issued }
    sys := { resetSys with
      yd := y.strapYd, hostSel := y.strapHost, strapYd := y.strapYd, strapHost := y.strapHost, pinYd := y.pinYd,
      pinHost := y.pinHost, held := none, clock := y.clock, mv := y.mv, low := if k.cold then y.low &&& 64 else y.low,
      dipRail := y.dipRail, dipMin := y.dipMin, dipFrom := y.dipFrom, holdOk := y.holdOk, rtc := y.rtc,
      rtcValid := y.rtcValid, railFails := y.railFails, pmuStop := y.pmuStop, wdrAt := y.wdrAt, kind := k,
      d0Lost := y.d0Lost, otpCtr := y.otpCtr, pcieRsts := if k == .por || k == .bor || k == .xrst then y.pcieRsts + 1 else y.pcieRsts }
    time := if k.keepsTime then { resetTime with ns := s.time.ns, frac := s.time.frac, inc := BitVec.ofNat 40 s.incNow, frame := s.time.frame } else resetTime
    mem := memDrop (fun r => !(r == rgnLed || r == rgnClog || r == rgnRing || k == .wdr || k == .srst
        || (k == .sleepWake && (r == rgnPool || r == rgnPim)))) s.mem
    fch := if k.warm then s.fch.filter (fun p => p.2.retired) else []
    alarms := s.alarms.filter (keepAlarm k)
    recd := { resetRec with
      bseq := s.recd.bseq, wp := s.recd.wp, staged := if k.warm then s.recd.staged else [], into := if k.warm then s.recd.into else 0 }
    gns := { resetGns with
      alm := if k.warm then s.gns.alm else s.flash.alm, eph := if k.warm then s.gns.eph else s.flash.eph,
      pos := if k.warm then s.gns.pos else s.flash.pos }
    lgc := if k.warm then { resetLgc with img := s.lgc.img, slot := s.lgc.slot, insts := s.lgc.insts, saved := s.lgc.saved }
      else { resetLgc with saved := s.lgc.saved }
    pnl := if k == .sleepWake then s.pnl else resetPnl
    yd := { resetYd with pinIn := s.yd.pinIn, unset := s.yd.unset } }
  let t1 := (t0.fset DIA_LEDGER.LOST s.d0.lost).fset PMU_CNT.HOLD_ABORT s.d0.holdAbort
  let t2 := if k == .wdr || k == .srst then t1.fset PMU_CNT.WDR (s.fget PMU_CNT.WDR) else t1
  let t3 := if k.keepsTime then ((t2.fset TIM_INC_FRAC.FRAC (s.fget TIM_INC_FRAC.FRAC)).fset TIM_INC_INT.INT (s.fget TIM_INC_INT.INT)).fset
      TIM_FRAME_NUM.FRAME (s.fget TIM_FRAME_NUM.FRAME) else t2
  let t4 := ((t3.safRestart s k).servoRestart).fset PMU_RST_CAUSE.KIND k.code
  ((tabKeys t4.fch).foldl State.showKept t4).showNav

/-! ## Power-up and supply resets (R442, R449, R450, R459) -/

/-- D0 restored after it lost its contents (R459): the change log in flash tells the largest SEQ; the delay that F = 3 asks for runs from here
(DESIGN CHOICE, log 267). -/
def State.d0Restore (s : State) : State :=
  let seqs := (upTo 1024).filterMap (fun i =>
    let b := s.rdB rgnClog (128 * i) 128
    if crc32c (b.take 124) = uAt 4 b 124 then some (uAt 4 b 8) else none)
  let s1 := { s with
    mem := memDrop (fun r => r == rgnLed) s.mem
    d0 := { resetD0 with pwFails := 3, arCtr := s.sys.otpCtr, clSeq := if seqs.isEmpty then 1 else maxN seqs + 1 }
    sys := { s.sys with rtc := 0, rtcValid := false, d0Lost := false } }
  let s2 := ((s1.fset SAF_PW.FAILS 3).fset SAF_LOG.SEQ (s1.d0.clSeq - 1)).safMod (fun x => { x with pwAt := s1.now })
  (((s2.fset DIA_LEDGER.LOST 0).fset PMU_CNT.HOLD_ABORT 0).fup PMU_RST_CAUSE.D0_LOST).ledger 0x0004 []

/-- The power-up of a POR begins: everything but D0 starts anew with the reset held (R442, R453); `wake` from HIBERNATE. -/
def State.porStart (s : State) (wake : Bool) : State :=
  let s1 := (s.restart .por).fput PMU_RST_CAUSE.WAKE wake
  let s2 := if s.sys.d0Lost then s1.d0Restore else s1
  s2.sysMod (fun y => { y with held := some .por, seq := true, domOn := 1, holdOk := false })

/-- POR: VIN has risen from OFF and stays above 4.25 V (R442, R450). -/
def State.powerOn (s : State) : State :=
  if s.pwr == .off && !s.sys.pmuStop then s.porStart false else s

/-- VIN_RETURN: VIN above 4.25 V for 10 ms while a BOR is held; the power-up sequence begins (R449). -/
def State.vinReturn (s : State) : State :=
  if s.sys.held == some .bor && !s.sys.pmuStop then s.sysMod (fun y => { y with seq := true }) else s

/-- RAIL_TIMEOUT: a rail has not reached 95 % in time: every rail is switched off, the D0 logic writes PMU_FAIL; after three
failures in a row the PMU stays off (R442). -/
def State.railTimeout (s : State) (rail : Nat) : State :=
  if s.sys.held.isNone || !s.sys.seq then s
  else
    let n := s.sys.railFails + 1
    let s1 := s.ledPut ⟨s.now, s.time.frame, 0x0003, leBytes 1 rail ++ leBytes 1 n⟩
    s1.sysMod (fun y => { y with railFails := n, seq := n < 3, pmuStop := decide (3 ≤ n), domOn := 1 })

/-- RESET_RELEASE: every rail is up, the TCXO runs and the PLL has locked (R442). At a POR the straps are sampled (R2); every
trip latch is set with POWER_ON (R234, R457). -/
def State.release (s : State) (yd host : Bool) : State :=
  if s.sys.held.isNone || !s.sys.seq then s
  else
    let por := s.sys.held == some .por
    let s1 := s.sysMod (fun y => { y with
      held := none, seq := false, railFails := 0, clock := true, domOn := 0x607, pinYd := yd, pinHost := host,
      strapYd := if por then yd else y.strapYd, strapHost := if por then host else y.strapHost,
      yd := if por then yd else y.strapYd, hostSel := if por then host else y.strapHost })
    if s1.sys.yd then s1 else s1.safPowerOn

/-- Writes of step 2 of R449: the commit and the page program in progress, then the BOR entry, while the hold-up lasts. `led`
and `prog` say what is in progress, `ok` that the hold-up suffices. -/
def State.borWrites (s : State) (hold led prog ok : Bool) (src mv : Nat) : State :=
  let abort (s : State) (n : Nat) : State := { s with d0 := { s.d0 with holdAbort := satU 8 (s.d0.holdAbort + n) } }
  if hold && ok then
    let s1 := if led then s.ledHead else s
    let s2 := if prog then (match s1.recNext 1 false with | some p => s1.recFlash p | none => s1) else s1
    s2.ledPut ⟨s.now, s.time.frame, 0x0002, leBytes 1 src ++ [0] ++ leBytes 2 mv⟩
  else if led || prog then abort s (b2n led + b2n prog)
  else if hold then abort s 1
  else s

/-- BOR: a reset level has been crossed, or the clock is lost (`src` 6): R449. `mv` is the lowest voltage, `ov` an over-voltage.
The reset is held. -/
def State.brownOut (s : State) (src mv : Nat) (ov led prog ok : Bool) : State :=
  if s.pwr == .off || s.pwr == .hibernate || s.sys.held.isSome || src > 6 then s
  else
    let hold := !(src == 1 || src == 2 || src == 6 || ov)
    let s1 := (if src < 6 then s.noteMv src mv mv else s).borWrites hold led prog ok src mv
    (((s1.restart .bor).fset PMU_RST_CAUSE.BOR_SRC (2 ^ src)).sysMod (fun y => { y with
      held := some .bor, domOn := 1, holdOk := false, clock := src != 6 }))

/-- VIN_OFF: VIN below 2.5 V: the unit is OFF, whatever it was doing (R450, R442). -/
def State.vinOff (s : State) : State :=
  ({ s with pwr := .off }).sysMod (fun y => { y with
    held := none, seq := false, railFails := if y.pmuStop then 0 else y.railFails, pmuStop := false, domOn := 1, holdOk := false })

/-- D0_LOST: VIN is absent and VBAT falls below 1.80 V (R459). -/
def State.d0Drop (s : State) : State :=
  if s.pwr == .off || s.pwr == .hibernate then s.sysMod (fun y => { y with d0Lost := true }) else s

/-! ## The other resets (R453 to R456) -/

/-- Ask for a reset; of two that coincide the broader is performed (R454). -/
def State.askReset (s : State) (k : RstKind) (dom : Nat) : State :=
  s.sysMod (fun y => { y with rstReq := match y.rstReq with
    | some (o, d) => if o.code ≤ k.code then some (o, d) else some (k, dom)
    | none => some (k, dom) })

/-- XRST: RST_N low (R453). From HIBERNATE it is a POR with WAKE = 1; the straps are sampled at its release. -/
def State.xrst (s : State) (yd host : Bool) : State :=
  if s.pwr == .hibernate then s.porStart true
  else if s.pwr == .off || s.sys.held.isSome then s
  else (s.restart .xrst).sysMod (fun y => { y with
    strapYd := yd, strapHost := host, yd := yd, hostSel := host, pinYd := yd, pinHost := host })

/-- The firmware slot of the directory. -/
def FlashSt.slot (f : FlashSt) (n : Nat) : FwSlot := if n = 0 then f.fw0 else f.fw1

/-- The running slot has failed its trial: it is marked, the next boot uses the other, the ledger tells (R463). -/
def State.trialFail (s : State) : State :=
  let n := s.flash.bootSlot
  let f := { (s.flash.slot n) with failed := true }
  ({ s with flash := { s.flash with
      fw0 := if n = 0 then f else s.flash.fw0, fw1 := if n = 0 then s.flash.fw1 else f, bootSlot := 1 - n, trial := false } }).ledger
    0x0005 (leBytes 1 n)

/-- WDR: the SV watchdog has not been serviced for 250 ms (R444, R453). A slot on trial fails by it (R463). -/
def State.wdr (s : State) : State :=
  if !s.clocked then s
  else
    let now := s.sys.rtc / 125000000
    let s1 := ((s.restart .wdr).finc PMU_CNT.WDR).sysMod (fun y => { y with wdrAt := lastN 3 (y.wdrAt ++ [now]) })
    if s.flash.trial then s1.trialFail else s1

/-- SRST requested and performed (R453, R454). -/
def State.srst (s : State) : State :=
  match s.sys.rstReq with
  | some (.srst, _) => if s.clocked then s.restart .srst else s
  | _ => s

/-- Close both sessions (R457). -/
def State.closeSess (s : State) : State :=
  let s1 := s.safClose
  { s1 with cfg := { s1.cfg with cfgSess := none, staged := [], stagedImgs := [],
                                 xfer := match s1.cfg.xfer with
                                   | some x => if x.kind = 0 ∨ x.kind = 3 then some x else none
                                   | none => none } }

/-- DRST of D1 (R455): SV and SA restart, the host interface with them; TIME_NS, the servo, the image and the channels stay.
Every group trips with cause CHANNEL, detail 4. -/
def State.drstD1 (s : State) : State :=
  let s0 := s.closeSess
  let s1 : State := { s0 with
    op := .boot, role := .none, hif := s.hifRestart .drst 1, cfg := { s0.cfg with xfer := none, load := none }
    red := { resetRed with spans := s.red.spans, leases := s.red.leases }
    regs := s0.regs.filter (fun p => !(p.1 < 0x1000 || (0xA000 ≤ p.1 && p.1 < 0xA400)))
    dia := { s0.dia with harv := [], harvSeq := 0, rpl := none }, diaF := []
    time := { s0.time with inFrame := false, cutDone := false }
    recd := { s0.recd with sink := 0, port := 0, req := none } }
  let s2 := s1.pnlClear.sysMod (fun y => { y with kind := .drst })
  let s3 := (s2.setChan 0 false).safMod (fun x => { x with out := [0, 0], press := false })
  s3.trip [0, 1] 15 10 4 false

/-- The SRAM of region `r`, fusion (1) or solver (2), is zeroised: no word of it is bad (R457, R485). -/
def State.poisonDrop (s : State) (r : Nat) : State :=
  { s with dia := { s.dia with poison := s.dia.poison.filter (fun w => w.1 != r) } }

/-- DRST of a domain (R455); a domain that is shed or off is left as it is. `d` is 1 to 8 or 11. -/
def State.drstRun (s : State) (d : Nat) : State :=
  let s1 := ((s.fset PMU_RST_CAUSE.KIND 5).fset PMU_RST_CAUSE.DOMAIN d).closeSess
  match d with
  | 1 => s1.drstD1
  | 2 => s1.trip [0, 1] 15 10 5 false
  | 3 => [3, 4, 5, 6].foldl State.engRetire s1
  | 4 => ([7, 8].foldl State.engRetire s1).poisonDrop 2
  | 5 => ([9, 10].foldl State.engRetire s1).poisonDrop 1
  | 6 => ([11, 12].foldl State.engRetire s1).lgcStored
  | 7 => s1.sdfRunning.foldl State.sdfStop (s1.engRetire 13)
  | 8 => (s1.engRetire 14).tpCheck
  | 11 => s1.pnlStop
  | _ => s1

/-- DRST requested and performed. -/
def State.drst (s : State) : State :=
  match s.sys.rstReq with
  | some (.drst, d) =>
    let s1 := s.sysMod (fun y => { y with rstReq := none })
    if !s.clocked then s else if !bit s.sys.domOn d then s1 else s1.drstRun d
  | _ => s

/-- SAFETY_WATCHDOG: channel `ch` has not serviced its watchdog within 2 P: its outputs drop, every group latches, and a SAFR is
asked for (R231, R456). -/
def State.safWatchdog (s : State) (ch : Nat) : State :=
  if s.sys.yd || ch > 1 || !s.clocked then s
  else (s.chanFault ch (8 + ch) true true).askReset .safr 0

/-- SAFR: the channel engines restart and reload the committed safety objects; latches survive (R456, R457). -/
def State.safr (s : State) : State :=
  match s.sys.rstReq with
  | some (.safr, _) =>
    if !s.clocked then s
    else
      let s1 := ((s.sysMod (fun y => { y with rstReq := none })).closeSess.finc PMU_CNT.SAFR).fset PMU_RST_CAUSE.KIND 6
      let s2 := s1.safMod (fun x => { x with words := [none, none], msgs := [], hist := [], sf2Held := [false, false, false], sf2Q := [0, 0, 0], press := false })
      let s3 := (s2.cfg.objs.filter (fun o => idKind o.id == 0x1A && o.flags % 2 == 1)).foldl State.loadObj s2
      (s3.setChan 0 (!s.engDead 1)).setChan 1 (!s.engDead 2)
  | _ => s

/-! ## Power states (R450 to R452) -/

/-- Runtime state is lost: estimate, MPC, allocation, contexts, logic states (R457). -/
def State.runtimeLost (s : State) : State :=
  let lim := s.cex.limits
  let s1 : State := { s with
    fus := { resetFus with k := s.fget FUS_STATUS.K, autoReadmit := s.fus.autoReadmit, imgBad := s.fus.imgBad, imgNew := s.fus.imgNew }
    cex := { resetCex with limits := lim, moving := s.cex.moving, returning := s.cex.returning }
    slv := { resetSlv with excl := s.slv.excl, deadPath := s.slv.deadPath, capWarn := s.slv.capWarn, mpcBad := s.slv.mpcBad, pipe := s.slv.pipe }
    retro := [], lgc := { s.lgc with states := [] } }
  (tabKeys s.ctx).foldl (fun s n => if s.fbit (fldAt SCX_CFG.EN n) then s.ctxEnable n else s) { s1 with ctx := [] }

/-- Step 2 to 4 of R451: sessions and transfers closed, the program stopped, for SLEEP and HIBERNATE staging flushed and the GNSS
data written. -/
def State.pwrPrepare (s : State) (deep : Bool) : State :=
  let s1 := s.closeSess
  let s2 := { s1 with cfg := { s1.cfg with xfer := none } }
  let s3 := if s2.lgState = lgRunning then s2.lgcStopped else s2
  if deep then
    let s4 := s3.recDrain 1024
    { s4 with flash := { s4.flash with alm := s4.gns.alm, eph := s4.gns.eph, pos := s4.gns.pos } }
  else s3

/-- Step 5 for HARBOUR: D2 to D8 and D11 off (R450); what their SRAM held is lost (R457). The operating state is kept aside. -/
def State.harbourEnter (s : State) : State :=
  let s1 := ((s.pnlStop.poisonDrop 1).poisonDrop 2).runtimeLost
  let s2 := s1.sdfRunning.foldl (fun s n => (s.sdfPut n none).fset (fldAt SDF_CH_STAT.RUN n) 0) s1
  let s3 := ({ s2 with pwr := .harbour, sdf := { s2.sdf with banks := [] } }).sysMod (fun y => { y with
    domOn := 0x603, opBefore := s.op, shed := 0, back := 0 })
  let s4 := ((s3.fset PMU_SHED.SHED 0).clearAlarmD 0x0E 0x02 0 (leBytes 2 s.sys.shed)).tpCheck
  (s4.gnsMod (fun g => { g with harbAt := s.now })).safMod (fun x => { x with out := [0, 0] }) |>.showSaf

/-- Enter a low-power state (R451); while a dip is in force the entry waits. -/
def State.pwrEnter (s : State) (p : PState) : State :=
  if s.inDip then s.sysMod (fun y => { y with pwrReq := some p })
  else
    let s1 := (s.pwrPrepare (p != .harbour)).sysMod (fun y => { y with pwrReq := none })
    match p with
    | .harbour => s1.harbourEnter
    | .sleep => ({ s1 with pwr := .sleep, op := .boot }).sysMod (fun y => { y with domOn := 0x403 })
    | .hibernate => ({ s1 with pwr := .hibernate, op := .boot }).sysMod (fun y => { y with domOn := 1 })
    | _ => s1

/-- An entry that a dip delayed. -/
def State.pwrPending (s : State) : State :=
  match s.sys.pwrReq with | some p => s.pwrEnter p | none => s

/-- A wake from HARBOUR (R452): the domains are powered, every latch is set with POWER_ON, the operating state returns, the
filter channels start anew. -/
def State.harbourWake (s : State) : State :=
  if s.pwr != .harbour then s
  else
    let s1 := ({ s with pwr := .run, op := s.sys.opBefore }).sysMod (fun y => { y with domOn := 0xFFF })
    let s2 := (s1.cfg.imgs.filter (fun i => i.kind == 5)).foldl (fun s i => s.bankLoad i.slot i.bytes) s1
    let s3 := (upTo 32).foldl (fun s n => if s.fbit (fldAt SDF_CH_CFG.EN n) then s.sdfStart n else s) s2
    (s3.safPowerOn.tpCheck).showPnl

/-- WAKE: WAKE_N (`src` 0) or the RTC alarm (1), where PMU_WAKE_CFG names it a wake source (R450, R452, R467). -/
def State.wake (s : State) (src : Nat) : State :=
  let ok := if src = 0 then s.fbit PMU_WAKE_CFG.WAKE_N_EN
    else s.fbit PMU_WAKE_CFG.RTC_EN && s.fget PMU_WAKE_AT.S == s.sys.rtc / 125000000 % 2 ^ 32
  if !ok then s
  else match s.pwr with
    | .hibernate => s.porStart true
    | .sleep =>
      let s1 := s.restart .sleepWake
      if s1.sys.yd then s1 else s1.safPowerOn
    | .harbour => s.harbourWake
    | _ => s

/-! ## Boot (R460 to R466) -/

/-- A firmware slot verifies (R461, R462). -/
def State.fwOk (s : State) (n : Nat) : Bool :=
  let f := s.flash.slot n
  f.valid && !f.failed && decide (s.d0.arCtr ≤ f.svn)

/-- RESTART records (R390, R396): 16 tags each, before any other event. -/
def State.restartRecs (s : State) : State :=
  let tags := s.hif.pendTags
  let n := tags.length
  let parts := if n = 0 then 1 else (n + 15) / 16
  let s1 := { s with hif := { s.hif with pendTags := [] } }
  (upTo parts).foldl (fun s i =>
    s.evtOut ⟨s.now, s.time.frame, 1, 1, 0, none, leBytes 1 s.hif.rstKind ++ leBytes 1 s.hif.rstDom ++ leBytes 1 n ++ leBytes 1 i
      ++ fitBytes 32 ((tags.drop (16 * i)).take 16 |>.flatMap (fun t => leBytes 2 t))⟩) s1

/-- HIF_STATUS.READY rises (R392, R396, R463): the RESTART records, then the events that waited. -/
def State.hostReady (s : State) : State :=
  let held := s.hif.held
  let s1 := ({ s with hif := { s.hif with ready := true, held := [] } }).intr HIF_INT_STAT.READY
  held.foldl State.evtOut s1.restartRecs

/-- The registers that tell where a ring or buffer lies in shared SRAM, fixed at the end of BOOT (R9, R374). -/
def State.showBases (s : State) : State :=
  let b (f : Fld) (r : Nat) (s : State) : State := s.fset f (sramBase r)
  let s1 := b FUS_REC_BASE.BASE rgnFus (b CEX_REC_BASE.BASE rgnCex (b SLV_REC_BASE.BASE rgnSlv (b RED_HREP_BASE.BASE rgnHrep s)))
  let s2 := b GNS_MREC_BASE.BASE rgnMrec (b GNS_TREC_BASE.BASE rgnTrec (b HIF_EVT_BASE.BASE rgnEvt (b HIF_XP_BASE.BASE rgnXp s1)))
  let s3 := b HIF_XR_BASE.BASE rgnXr (b DIA_HREC_BASE.BASE rgnHarv s2)
  let s4 := (upTo 8).foldl (fun s n => s.fset (fldAt CAN_RXQ_BASE.BASE n) (sramBase (rgnRxq + 32 * (n + 1)))) s3
  s4.fset DIA_REC_BASE.BASE 0x00C00000

/-- TIME_NS at the end of BOOT (R279, R414): loaded from the RTC unless the reset kept the counter or it has been set. -/
def State.timeLoad (s : State) : State :=
  let k := s.sys.kind
  if k.keepsTime || k == .drst || s.servo != svFree then s.leakJump
  else
    let s1 := (s.timeMod (fun t => { t with ns := BitVec.ofNat 64 (8 * s.sys.rtc), frac := 0 })).leakJump
    if s.sys.yd then s1.ydMod (fun y => { y with unset := !s.sys.rtcValid })
    else s1.fput TIM_STATUS.TIME_UNSET (!s.sys.rtcValid)

/-- K starts at K_MIN of the configuration (R53, R465). -/
def State.fsetK (s : State) : State :=
  let k := s.fget FUS_CFG.K_MIN
  ({ s with fus := { s.fus with k := k } }).fset FUS_STATUS.K k

/-- The configuration of the flash copy named by the directory (R465): READY with role READY, or CONFIG. -/
def State.bootConfig (s : State) : State :=
  match s.flash.objs with
  | some objs =>
    if (s.commitFault objs s.flash.imgs [] []).isNone then
      let s1 := (s.configLoad objs s.flash.imgs (s.flash.imgs.map (fun i => (i.kind, i.slot)))).imgVerify
      let s2 := s1.slvMod (fun x => { x with capWarn := s1.fsgn SLV_CAP_CFG.CAP_WARN })
      let lim := match s2.obj 0x0F 0 with | some b => fltsAt b 0 6 | none => s2.cex.limits
      ((s2.cexMod (fun c => { c with limits := lim })).fsetK).setRole .ready
    else { (s.fup PMU_BOOT.CFG_INVALID) with op := .config }
  | none => { (s.fup PMU_BOOT.CFG_INVALID) with op := .config }

/-- Reaching READY or CONFIG clears TRIAL (R463) and raises the anti-rollback counter to the image's SVN (R462). -/
def State.bootReached (s : State) : State :=
  let svn := (s.flash.slot (s.fget PMU_BOOT.SLOT)).svn
  let s1 := { (s.fset PMU_BOOT.TRIAL 0) with flash := { s.flash with trial := false } }
  if svn ≤ s.d0.arCtr then s1
  else
    let s2 := ({ s1 with d0 := { s1.d0 with arCtr := svn } }).ledger 0x0006 (leBytes 1 s.d0.arCtr ++ leBytes 1 svn)
    let s3 := s2.tick1
    if Config.burnOk s2.free then s3.sysMod (fun y => { y with otpCtr := svn }) else s3.fup PMU_BOOT.MIRROR_FAIL

/-- Engine tests of BOOT: an engine of the mask `fail` fails and is retired (R7, R463). -/
def State.bootTests (s : State) (fail : Nat) : State :=
  let s1 := (s.setChan 0 (!bit fail 1 && !s.sys.yd)).setChan 1 (!bit fail 2 && !s.sys.yd)
  (bitIdx 16 fail).foldl (fun s e => if e = 0 then s else s.engRetire e) s1

/-- Untrusted content after a WDR or SRST is zeroised, staging flushed with MARK 3, the logic image kept STOPPED if its signature
and CRC pass (R458, R478). -/
def State.bootKept (s : State) : State :=
  let k := s.sys.kind
  let s1 := if k == .wdr || k == .srst then { s with mem := memDrop (fun r => !(r == rgnLed || r == rgnClog || r == rgnRing)) s.mem } else s
  let s2 := match s1.recd.staged with
    | [] => s1
    | e :: _ =>
      let t := ((s1.recMod (fun r => { r with sink := e.sink, port := e.port })).stage 13 0 (markBytes 3 0)).recDrain 1024
      t.recOff
  match s2.lgc.img with
  | some b =>
    if k == .drst then s2
    else if lgcCrcOk b && Config.sigOk 2 b then
      ((s2.wrPool (slotBase s2.lgc.slot) b).lgcInstall b s2.lgc.slot s2.lgc.insts).fset LOG_STATUS.STATE lgStopped
    else s2.lgcEmpty
  | none => s2

/-- BOOT_DONE: the boot runs to its end (R463); `fail` is the mask of engines that fail their full test. -/
def State.bootDone (s : State) (fail : Nat) : State :=
  if !s.clocked || s.op != .boot || s.pwr != .run || s.hif.ready then s
  else
    let named := s.flash.bootSlot
    let wdrs := s.sys.kind == .wdr && s.sys.wdrAt.length == 3
      && decide (s.sys.rtc / 125000000 ≤ s.sys.wdrAt.getD 0 0 + 60)
    let slot := if s.fwOk named then some named else if s.fwOk (1 - named) then some (1 - named) else none
    match (if wdrs then none else slot) with
    | none =>
      -- recovery mode (R464): the native protocol, on SPI where MODE_YD is high
      let s1 := (s.sysMod (fun y => { y with recovery := true, yd := false, hostSel := y.hostSel || y.strapYd })).fup PMU_BOOT.RECOVERY
      s1.showBases.hostReady
    | some n =>
      let f := s.flash.slot n
      let s1 := (((s.fset PMU_BOOT.SLOT n).fset PMU_BOOT.SVN f.svn).fput PMU_BOOT.FALLBACK (n != named)).fset PMU_FW_VER.VERSION f.version
      let s2 := (s1.fput PMU_BOOT.TRIAL (s.flash.trial && n == named)).ledger 0x0001 (leBytes 1 s.sys.kind.code ++ [0] ++ leBytes 4 f.version)
      let s3 := (s2.sysMod (fun y => { y with domOn := if y.yd then 0x70B else 0xFFF })).bootTests fail
      let s4 := s3.timeLoad.showBases
      if s.sys.yd then
        let s5 := { s4.bootKept with op := .ready, hif := { s4.hif with ready := false } }
        (s5.ydBoot.bootReached).framesBegin
      else
        let s5 := (s4.bootKept.hostReady).bootConfig.framesBegin
        (s5.bootReached.domJudge).redMod (fun x => { x with bootAt := s5.now / s5.pNs })

/-- TRIAL_TIMEOUT: a slot on trial has not reached READY or CONFIG within 10 s of release (R463). -/
def State.trialTimeout (s : State) : State :=
  if s.op == .boot && s.flash.trial && decide (1250000000 ≤ s.time.ticks) then s.trialFail else s

/-! ## Uncorrectable memory errors (R485) -/

/-- The staged entry that holds byte `j` of staging becomes zeros. -/
def stagedZero : Nat → List RecEntry → List RecEntry
  | _, [] => []
  | j, e :: es =>
    if j < e.bytes.length then { e with bytes := List.replicate e.bytes.length 0 } :: es else e :: stagedZero (j - e.bytes.length) es

/-- The record of shared SRAM that holds offset `o` is written invalid: zeros (DESIGN CHOICE, log 238). The lending pool holds no record: its
word stays bad until it is written (R376). -/
def State.recBad (s : State) (o : Nat) : State :=
  if o < 0xC00000 then { s with dia := { s.dia with poison := s.dia.poison.filter (· != (0, o / 8)) ++ [(0, o / 8)] } }
  else if 0xC00010 ≤ o ∧ o < 0xE00000 then s.recMod (fun r => { r with staged := stagedZero (r.into + (o - 0xC00010)) r.staged })
  else match fixedAreas.find? (fun x => decide (x.2.2.1 ≤ o) && decide (o < x.2.2.1 + x.2.2.2)) with
  | some x =>
    let n := recSize x.1
    s.wrB x.1 ((x.2.1 + (o - x.2.2.1)) / n * n) (List.replicate n 0)
  | none => s

/-- A word of fusion or solver SRAM is poisoned; an engine at work on it reads it at once. -/
def State.poisonPut (s : State) (w : Nat × Nat) : State :=
  ({ s with dia := { s.dia with poison := s.dia.poison.filter (· != w) ++ [w] } }).poisonSlv

/-- ECC_UNCORRECTABLE: `region` as in R485, `idx` the offset, the place, the point, the engine, or the channel. -/
def State.eccBad (s : State) (region idx : Nat) : State :=
  if !s.clocked || region > 6 then s
  else
    let s0 := if region = 0 then s.recBad idx else s
    let s1 := (s0.alarm 0x0F 0x05 region 0).ledger 0x0032 (leBytes 1 region)
    match region with
    | 1 | 2 => s1.poisonPut (region, idx)
    | 3 => if idx < 262144 then s1.ptWrite idx (s1.ptVal idx) 0 s.now else s1
    | 4 => s1.engRetire idx
    | 5 => s1.wdr
    | 6 => s1.channelFault (idx % 2) 1
    | _ => s1

end Sys2Proof.Machine
end

