-- ==== Sys2Proof/WellFormed.lean ====
section
/-!
DEFINITION. Well-formed commands: an inline payload and an extended page of a size the command ring carries (R383), an
instance number that exists. An ill-formed host command is answered BAD_LEN; an ill-formed event only lets time pass.
-/

namespace Sys2Proof

/-- Sizes of a host command (R383): at most 224 bytes inline, a page of 1 to 4,096 bytes. -/
def HCmd.wf (h : HCmd) : Bool :=
  decide (h.payload.length ≤ 224) && (match h.page with | some p => decide (0 < p.length) && decide (p.length ≤ 4096) | none => true)

/-- The checks of every command. -/
def Instr.wf : Instr → Bool
  | .getInfo h => h.wf
  | .enterConfig h => h.wf
  | .leaveConfig h => h.wf
  | .reset h => h.wf
  | .setRtc h => h.wf
  | .cfgOpen h => h.wf
  | .cfgAbort h => h.wf
  | .objStage h => h.wf
  | .objRead h => h.wf
  | .objUnstage h => h.wf
  | .cfgCommit h => h.wf
  | .cfgRevert h => h.wf
  | .imgBegin h => h.wf
  | .imgAppend h => h.wf
  | .imgEnd h => h.wf
  | .imgCancel h => h.wf
  | .alignCommit h => h.wf
  | .alignRevert h => h.wf
  | .overlayCommit h => h.wf
  | .setFunction h => h.wf
  | .setPosition h => h.wf
  | .setSpeed h => h.wf
  | .setLimits h => h.wf
  | .trackLoad h => h.wf
  | .trackAppend h => h.wf
  | .setOrigin h => h.wf
  | .scenEnable h => h.wf
  | .thrExclude h => h.wf
  | .refReadmit h => h.wf
  | .setAutoreadmit h => h.wf
  | .keyClaim h => h.wf
  | .keyTransfer h => h.wf
  | .keyRelinquish h => h.wf
  | .resync h => h.wf
  | .disagreeClear h => h.wf
  | .safOpen h => h.wf
  | .safClose h => h.wf
  | .safPassword h => h.wf
  | .safCommit h => h.wf
  | .safAck h => h.wf
  | .safReset h => h.wf
  | .safTrip h => h.wf
  | .logStart h => h.wf
  | .logStop h => h.wf
  | .logExchange h => h.wf
  | .logChange h => h.wf
  | .ptWrite h => h.wf
  | .gnsSnap h => h.wf
  | .gnsForget h => h.wf
  | .canSend h => h.wf
  | .uartSend h => h.wf
  | .sdfStart h => h.wf
  | .sdfStop h => h.wf
  | .pnlUpdate h => h.wf
  | .pnlResume h => h.wf
  | .harvest h => h.wf
  | .recCtrl h => h.wf
  | .recRead h => h.wf
  | .ledgerRead h => h.wf
  | .readmit h => h.wf
  | .replayEnter h => h.wf
  | .replayFeed h => h.wf
  | .replayExit h => h.wf
  | .pwrState h => h.wf
  | .doorbell _ => true
  | .commandIntake => true
  | .hifRspCiWrite _ => true
  | .hifEvtCiWrite _ => true
  | .spiRead _ _ _ => true
  | .spiWrite _ _ _ => true
  | .spiStatus _ => true
  | .enterQuad _ => true
  | .exitQuad _ => true
  | .pcieReset => true
  | .registerWrite _ bs => decide (bs.length ≤ 8)
  | .timNowLoRead => true
  | .timIncIntWrite _ => true
  | .contextEnable n => decide (n < 256)
  | .contextDisable n => decide (n < 256)
  | .scxStatRead n => decide (n < 256)
  | .timCntSpecRead => true
  | .timCntRetroRead => true
  | .timSrvCntRead => true
  | .fusCntRead => true
  | .cexCntRead => true
  | .slvCntRead => true
  | .slvCnt2Read => true
  | .redCntRead => true
  | .safCntRead => true
  | .gnsRtcmCntRead => true
  | .gnsSnapStatRead => true
  | .gnsCntRead => true
  | .gnsClkBLoRead => true
  | .netPortStatRead n => decide (n < 6)
  | .netPierErrRead => true
  | .netPierDupRead => true
  | .net450CntRead => true
  | .canStatRead n => decide (n < 8)
  | .canCntRead n => decide (n < 8)
  | .canUcntRead n => decide (n < 16)
  | .logOnlRead => true
  | .logTaskTimeRead n => decide (n < 2)
  | .logTaskCntRead n => decide (n < 2)
  | .hifCntRead => true
  | .pmuDipRead => true
  | .pmuShedRead => true
  | .pmuVmonRead => true
  | .pmuCntRead => true
  | .diaHarvRead => true
  | .diaRecWpLoRead => true
  | .diaRecLostRead => true
  | .diaRplCntRead => true
  | .pnlCntRead => true
  | .pnlBalcntRead => true
  | .snapRelease => true
  | .canInitEnter n => decide (n < 8)
  | .canInitLeave n => decide (n < 8)
  | .filterWrite n _ => decide (n < 8)
  | .filterRead n _ => decide (n < 8)
  | .rxqAck n _ _ => decide (n < 8)
  | .txAbort n _ => decide (n < 8)
  | .bankOpen _ _ => true
  | .bankDataWrite _ => true
  | .bankCommit => true
  | .sdfChannelStart n => decide (n < 32)
  | .sdfChannelStop n => decide (n < 32)
  | .inputSwitch n _ => decide (n < 32)
  | .pointCopy _ => true
  | .harbourWake => true
  | .frameBoundary _ _ => true
  | .slewEnd _ => true
  | .cutoff _ => true
  | .fusionPhase _ => true
  | .observerCommit _ => true
  | .controlLaw _ => true
  | .allocationPhase _ => true
  | .slotReturn _ _ => true
  | .solveDeadline _ _ _ _ => true
  | .mpcSolveStop _ _ _ _ _ => true
  | .mpcCommit _ => true
  | .scenarioMpcDone _ => true
  | .crossCheck _ _ => true
  | .sf5Compare _ _ => true
  | .dispatch _ => true
  | .phaseLate _ _ => true
  | .sf4Check _ => true
  | .retroSupplementSend _ => true
  | .controllerStatusSend _ => true
  | .retroPass _ => true
  | .retroPassDone _ => true
  | .retroAbort _ => true
  | .engineTestSlice _ _ => true
  | .allocRecordWrite _ => true
  | .keystoneDecision _ => true
  | .transferExecute _ => true
  | .handback _ => true
  | .leaseRx _ via _ => decide (via.port < 6)
  | .spanDown _ n => decide (n < 2)
  | .spanUp _ n => decide (n < 2)
  | .pathLoss _ => true
  | .manifestRx _ via _ => decide (via.port < 6)
  | .manifestTimeout _ => true
  | .commandPduRx _ via _ => decide (via.port < 6)
  | .stateImageRx _ via _ => decide (via.port < 6)
  | .catchUpDone _ => true
  | .resyncFail _ => true
  | .healthRecompute _ _ => true
  | .imageCrcCheck _ _ => true
  | .refineMinute _ => true
  | .samplePduRx _ via _ => decide (via.port < 6)
  | .statusPduRx _ via _ => decide (via.port < 6)
  | .harvestPduRx _ via _ => decide (via.port < 6)
  | .announceRx _ _ => true
  | .announceTimeout _ _ => true
  | .syncRx _ _ => true
  | .delayRespRx _ _ => true
  | .transitionEnd _ => true
  | .primaryRevert _ => true
  | .datagram450Rx _ n _ _ _ => decide (n.port < 4)
  | .uartCharacterRx _ n _ _ => decide (n < 16)
  | .uartBreak _ n => decide (n < 16)
  | .canFrameRx _ n _ _ _ _ _ _ _ _ _ => decide (n < 8)
  | .canTxLoad _ n => decide (n < 8)
  | .canTxDone _ n _ _ _ => decide (n < 8)
  | .canInitAck _ n => decide (n < 8)
  | .canIntegration _ n => decide (n < 8)
  | .busOff _ n => decide (n < 8)
  | .busOffRecovery _ n => decide (n < 8)
  | .gnssSolution _ _ _ _ => true
  | .rtcmFrameRx _ _ _ _ => true
  | .ambiguityFixed _ ant _ => decide (ant < 3)
  | .channelAllocation _ _ _ => true
  | .channelLostTimeout _ => true
  | .gnssIfLost _ n => decide (n < 4)
  | .gnssHoldover _ => true
  | .tpSecond _ => true
  | .tpRecordWrite _ => true
  | .timePulse _ => true
  | .snapDone _ _ => true
  | .harbourSnapshot _ _ _ => true
  | .sdfOutput _ ch _ => decide (ch < 32)
  | .sdfThreshold _ ch _ => decide (ch < 32)
  | .modFault _ ch _ => decide (ch < 32)
  | .modFaultClear _ ch _ => decide (ch < 32)
  | .logicCycleStart _ => true
  | .logicCycleDone _ t _ => decide (t < 2)
  | .logicWatchdog _ => true
  | .programExchange _ => true
  | .panelFrame _ => true
  | .crackMeasure _ _ => true
  | .estopChange _ _ _ _ _ => true
  | .tripPropagate _ => true
  | .discTimeout _ => true
  | .safeRstRelease _ => true
  | .ackWindowExpiry _ => true
  | .testPulse _ _ _ => true
  | .outputFault _ _ => true
  | .channelFault _ _ _ => true
  | .safetyWatchdog _ _ => true
  | .safSessionTimeout _ => true
  | .cfgSessionTimeout _ => true
  | .transferTimeout _ => true
  | .engineHardError _ e _ => decide (e < 16)
  | .eccUncorrectable _ _ _ => true
  | .leakTick _ => true
  | .harvestIn _ => true
  | .harvestLatch _ => true
  | .ledgerCommit _ => true
  | .recBlockWrite _ => true
  | .recBlockSend _ => true
  | .recCheckpoint _ => true
  | .replayFrame _ => true
  | .supplyWarning _ _ _ => true
  | .dipRecovery _ _ _ _ => true
  | .domainShed _ => true
  | .domainRestore _ => true
  | .clockMonitorSecond _ _ => true
  | .por _ => true
  | .railTimeout _ _ => true
  | .resetRelease _ _ _ => true
  | .bor _ _ _ _ _ _ _ => true
  | .vinOff _ => true
  | .xrst _ _ _ => true
  | .wdr _ => true
  | .srst _ => true
  | .drst _ => true
  | .safr _ => true
  | .wake _ _ => true
  | .bootDone _ _ => true
  | .trialTimeout _ => true
  | .ydSpiRead _ _ => true
  | .ydSpiWrite _ => true
  | .ydPairLowRead _ => true
  | .ydPairLowWrite _ _ => true
  | .ydPairHighWrite _ _ => true
  | .ydStatusRead => true
  | .ydSpiErrRead => true
  | .ydSave _ => true
  | .ydSrst _ => true
  | .ydCapture _ => true
  | .ydMbTxReq _ => true
  | .ydCycleStart _ => true
  | .ydRelease _ => true
  | .ydCanRx _ n _ _ _ _ _ _ _ => decide (n < 2)
  | .masterInAccept _ _ => true
  | .portLinkChange _ n _ _ _ => decide (n < 6)
  | .arpIcmpIgmpRx _ n _ => decide (n < 4)
  | .delayReqRx _ _ => true
  | .ptpMessageInterval _ port _ _ => decide (port < 4)
  | .canBusError _ n _ _ => decide (n < 8)
  | .signalAcquired _ ch => decide (ch < 128)
  | .trackLock _ ch => decide (ch < 128)
  | .lockLost _ ch => decide (ch < 128)
  | .navigationData _ _ => true
  | .gnssIfActive _ n => decide (n < 4)
  | .safeRstPress _ => true
  | .holdUpCharged _ => true
  | .vinReturn _ => true
  | .d0Lost _ => true
  | .uartTxDone _ n => decide (n < 16)

end Sys2Proof
end

