-- ==== Sys2Proof/Machine/CmdForm.lean ====
section
/-!
DEFINITION. The form of host commands: opcodes, lanes, payload layouts (R382, R383, R399, R408 to R411, R533), the
acceptance conditions commands share (R399), and listing under R115 (R400).
-/

namespace Sys2Proof.Machine

/-! ## Opcodes, lanes and layouts -/

/-- The opcodes of the command reference (R408 to R411). -/
def opcodes : List Nat :=
  [0x0101, 0x0102, 0x0103, 0x0104, 0x0105, 0x0201, 0x0202, 0x0203, 0x0204, 0x0205, 0x0206, 0x0207, 0x0208, 0x0209,
   0x020A, 0x020B, 0x020C, 0x020D, 0x020E, 0x0301, 0x0302, 0x0303, 0x0304, 0x0305, 0x0306, 0x0307, 0x0308, 0x0309,
   0x030A, 0x030B, 0x0401, 0x0402, 0x0403, 0x0404, 0x0405, 0x0501, 0x0502, 0x0503, 0x0504, 0x0505, 0x0506, 0x0507]
  ++ [0x0601, 0x0602, 0x0603, 0x0604, 0x0605, 0x0701, 0x0702, 0x0801, 0x0802, 0x0901, 0x0902, 0x0A01, 0x0A02, 0x0B01,
   0x0B02, 0x0B03, 0x0B04, 0x0B05, 0x0B06, 0x0B07, 0x0B08, 0x0C01]

/-- Commands of the background lane. -/
def opBg (op : Nat) : Bool :=
  [0x0206, 0x0209, 0x020A, 0x020C, 0x020D, 0x020E, 0x0307, 0x0503, 0x0504, 0x0B03, 0x0B07].contains op

/-- Commands whose payload lies in the page (EXT = 1). -/
def opExt (op : Nat) : Bool := [0x0203, 0x0209, 0x0305, 0x0306, 0x0604, 0x0B07].contains op

/-- The page of a command; empty without one. -/
def pageOf (h : HCmd) : List Byte := h.page.getD []

/-- Is the payload's length the layout's (R399)? Lengths a payload gives itself are taken from it. -/
def opLen (op : Nat) (h : HCmd) : Bool :=
  let n := h.payload.length
  let g := pageOf h
  match op with
  | 0x0203 => n == 0 && decide (12 ≤ g.length) && g.length == 12 + uAt 4 g 4
  | 0x0209 => n == 8
  | 0x0305 | 0x0306 => n == 0 && decide (4 ≤ g.length) && g.length == 4 + 24 * byteAt g 0
  | 0x0604 => n == 0 && decide (8 ≤ g.length) && g.length == 8 + 8 * byteAt g 6
  | 0x0B07 => n == 0
  | 0x0104 | 0x0204 | 0x0205 | 0x020C | 0x020D | 0x020E | 0x0301 | 0x0308 | 0x0309 | 0x030A | 0x030B | 0x0402 | 0x0403
  | 0x0507 | 0x0702 | 0x0901 | 0x0902 | 0x0B01 | 0x0B02 | 0x0B04 | 0x0B05 | 0x0C01 => n == 4
  | 0x0105 | 0x0208 | 0x0303 | 0x0505 => n == 8
  | 0x0302 | 0x0307 => n == 16
  | 0x0304 => n == 24
  | 0x0501 => decide (8 ≤ n) && decide (n ≤ 32)
  | 0x0503 => n == 68
  | 0x0605 | 0x0B03 | 0x0B06 => n == 12
  | 0x0801 => n == 80
  | 0x0802 => decide (4 ≤ n) && n == 4 + uAt 2 h.payload 2
  | 0x0A01 => decide (4 ≤ n) && n == 4 + (uAt 2 h.payload 2 + 3) / 4
  | _ => n == 0

/-- Steps 1 and 5 of R533: 0, BAD_LEN of what no entry can carry, BAD_FLAGS or BAD_LEN of the opcode. -/
def opForm (op : Nat) (h : HCmd) : Nat :=
  if !h.wf then 0x2003 else if h.page.isSome != opExt op then 0x2004 else if opLen op h then 0 else 0x2003

/-! ## What commands answer -/

/-- What a command does: the state, and its result when it completes; none while it waits. -/
abbrev Ran := State × Option Res

/-- Refused: no effect. -/
def State.no (s : State) (st : Nat) : Ran := (s, some (resSt st))
/-- Refused with DETAIL. -/
def State.noD (s : State) (st d : Nat) : Ran := (s, some (resDet st d))
/-- BAD_VALUE: DETAIL is the offset of the field. -/
def State.bad (s : State) (o : Nat) : Ran := s.noD 0x5102 o
/-- Done. -/
def State.ok (s : State) : Ran := (s, some resOk)
/-- Done, with an inline result. -/
def State.okR (s : State) (bs : List Byte) : Ran := (s, some (resInl bs))
/-- It waits. -/
def State.waits (s : State) : Ran := (s, none)

/-- The offset of the first field that fails. -/
def firstBad (cs : List (Nat × Bool)) : Option Nat := (cs.find? (fun c => !c.2)).map (·.1)

/-- Accepted when `why` is 0, the operating state, role or session condition (R399), and the fields are in range (R533). -/
def State.gate (s : State) (why : Nat) (cs : List (Nat × Bool)) (run : State → Ran) : Ran :=
  if why ≠ 0 then s.no why else match firstBad cs with | some o => s.bad o | none => run s

/-- The condition CFG. -/
def State.whyCfg (s : State) : Nat := if s.op == .config then 0 else 0x3001
/-- The condition HLD: role ACTIVE, ZONE or SOLO. -/
def State.whyHld (s : State) : Nat := if s.role.holds || s.role == .zone then 0 else 0x3002
/-- The conditions sC and sS (R388, R399): the session named is the open one of its kind. -/
def State.whySess (s : State) (saf : Bool) (h : HCmd) : Nat :=
  let id := h.session.toNat
  let here (x : Option Sess) : Bool := match x with | some y => y.id == id | none => false
  if id = 0 then 0x4001
  else if here (if saf then s.cfg.safSess else s.cfg.cfgSess) then 0
  else if here (if saf then s.cfg.cfgSess else s.cfg.safSess) then 0x4002 else 0x4001

/-- The first condition that fails. -/
def why2 (a b : Nat) : Nat := if a ≠ 0 then a else b

/-- The number of engines of a mask that are in service. -/
def State.engAlive (s : State) (es : List Nat) : Nat := (es.filter (fun e => !s.engDead e)).length

/-- At least two control engines and one solver engine are in service (R97, R137, R466). -/
def State.engOk (s : State) : Bool := decide (2 ≤ s.engAlive [3, 4, 5, 6]) && decide (1 ≤ s.engAlive [7, 8])

/-! ## Listing (R115, R181, R400) -/

/-- The frame whose manifest lists a command completed now: the one in progress strictly before F(k) + CUTOFF, else the next; one whose
1,024 bytes for commands are taken passes it on (R181). -/
def State.effFrame (s : State) (len : Nat) : Nat :=
  let k := if s.now < s.atPct s.time.frame s.time.cutoff ∧ !s.time.cutDone then s.time.frame else s.time.frame + 1
  let k1 := s.red.listQ.foldl (fun m c => max m c.frame) k
  let used := sumN ((s.red.listQ.filter (fun c => c.frame == k1)).map (fun c => (cmdEBytes c.cmd).length))
  if used + len ≤ 1024 then k1 else k1 + 1

/-- List a command: TOO_LARGE when its entry would exceed 1,016 bytes (R400). -/
def State.list (s : State) (op : Nat) (h : HCmd) : Ran :=
  let c : CmdE := ⟨op, h.session.toNat, some h.tag.toNat, match h.page with | some g => g | none => h.payload⟩
  let len := (cmdEBytes c).length
  if 1016 < len then s.no 0x5109
  else
    let k := s.effFrame len
    (s.redMod (fun x => { x with listQ := x.listQ ++ [⟨k, c⟩] }), some (resListed k))

/-! ## Sessions (R240, R393) -/

/-- The first value not 0 and not issued, from a candidate on. -/
def freshId (used : List Nat) : Nat → Nat → Nat
  | 0, x => x
  | n + 1, x => if x % 2 ^ 32 = 0 ∨ used.contains (x % 2 ^ 32) then freshId used n (x + 1) else x % 2 ^ 32

/-- A session id of the random source, not issued since the last POR. -/
def State.newId (s : State) : State × Nat :=
  let id := freshId s.cfg.issued (s.cfg.issued.length + 2) (Config.freeWord s.free % 2 ^ 32)
  ({ s.tick1 with cfg := { s.cfg with issued := id :: s.cfg.issued } }, id)

/-- A command that names a session, or for the safety session any safety command, renews its 600 s. -/
def State.touch (s : State) (op : Nat) (h : HCmd) : State :=
  let up (b : Bool) (x : Option Sess) : Option Sess := match x with
    | some y => if b || y.id == h.session.toNat then some { y with last := s.now } else some y
    | none => none
  { s with cfg := { s.cfg with cfgSess := up false s.cfg.cfgSess, safSess := up (op / 256 == 5) s.cfg.safSess } }

/-- Close the configuration session: staging and staged images discarded, an open transfer of a staged kind cancelled (R393,
R407). -/
def State.cfgClose (s : State) : State :=
  { s with cfg := { s.cfg with
      cfgSess := none, staged := [], stagedImgs := [],
      xfer := match s.cfg.xfer with | some x => if x.kind = 0 ∨ x.kind = 3 then some x else none | none => none } }

/-- CFG_SESSION_TIMEOUT: 600 s with no command that names the session (R393). -/
def State.cfgTimeout (s : State) : State :=
  match s.cfg.cfgSess with
  | some x => if x.last + 600000000000 ≤ s.now then s.cfgClose else s
  | none => s

/-- IMG_TIMEOUT: a transfer with no IMG_APPEND for 60 s is cancelled (R407). -/
def State.imgTimeout (s : State) : State :=
  match s.cfg.xfer with
  | some x => if x.last + 60000000000 ≤ s.now then { s with cfg := { s.cfg with xfer := none } } else s
  | none => s

end Sys2Proof.Machine
end

