-- ==== Sys2Proof/Machine/CmdCfg.lean ====
section
/-!
DEFINITION. Host commands of the system and configuration groups (R393 to R395, R402 to R408): sessions, objects,
commit, images, the overlay, entering and leaving CONFIG, resets, the RTC.
-/

namespace Sys2Proof.Machine

/-! ## System (R408) -/

/-- GET_INFO. -/
def State.cmdGetInfo (s : State) (_ : HCmd) : Ran :=
  s.okR (leBytes 2 0x9160 ++ leBytes 1 Config.siliconRev ++ leBytes 1 (wf (s.view aHIF_ID).toNat HIF_ID.FW) ++ leBytes 1 (opCode s.op)
    ++ leBytes 1 (roleCode s.role) ++ leBytes 1 s.unit ++ [0] ++ leBytes 4 s.hash ++ leBytes 4 (s.fget LOG_PROG_ID.ID)
    ++ leBytes 8 Config.serial ++ leBytes 4 (s.reg aPMU_FW_VER).toNat ++ leBytes 4 s.d0.arCtr)

/-- May ENTER_CONFIG be given (R408, R466)? -/
def State.whyEnter (s : State) : Nat :=
  match s.op with
  | .ready | .replay => 0
  | .standby => if s.role == .standby || s.role == .isolated then 0 else 0x3001
  | .safe => if s.engOk then 0 else 0x3001
  | _ => 0x3001

/-- The unit leaves REPLAY (R483): the replay area and the runtime state are discarded, the configuration reloaded from flash. -/
def State.rplExit (s : State) : State :=
  let s1 := (s.diaMod (fun d => { d with rpl := none })).showRpl 0 0
  let s2 := s1.runtimeLost
  let s3 := match s2.flash.objs with
    | some os => s2.configLoad os s2.flash.imgs (s2.flash.imgs.map (fun (i : Img) => (i.kind, i.slot)))
    | none => s2
  (({ s3 with op := .config }).tpCheck).showPnl

/-- Enter CONFIG with role NONE. -/
def State.toConfig (s : State) : State :=
  let s1 := if s.op == .replay then s.rplExit else s
  (((({ s1 with op := .config, role := .none }).fset RED_ROLE.ROLE 0).setQual false).reqGone).safRole

/-- ENTER_CONFIG. -/
def State.cmdEnterConfig (s : State) (_ : HCmd) : Ran := s.gate s.whyEnter [] (fun s => s.toConfig.ok)

/-- UNCOMMITTED refuses what would take the unit out of CONFIG (R394). -/
def State.whyUnc (s : State) : Nat := if s.op == .config && s.cfg.uncommitted then 0x3003 else 0

/-- LEAVE_CONFIG. -/
def State.cmdLeaveConfig (s : State) (_ : HCmd) : Ran :=
  s.gate (why2 s.whyCfg (why2 (if s.engOk then 0 else 0x3001) s.whyUnc)) [] (fun s => (s.closeSess.setRole .ready).ok)

/-- RESET: the response, then the reset (R408, R453); a DRST of D9 or D10 is an SRST. -/
def State.cmdReset (s : State) (h : HCmd) : Ran :=
  let p := h.payload
  s.gate 0 [(0, decide (byteAt p 0 ≤ 1)), (1, byteAt p 0 != 1 || (decide (1 ≤ byteAt p 1) && decide (byteAt p 1 ≤ 11)))] State.ok

/-- What RESET asks for once its response is written. -/
def State.afterReset (s : State) (h : HCmd) : State :=
  let d := byteAt h.payload 1
  if byteAt h.payload 0 = 0 ∨ d = 9 ∨ d = 10 then s.askReset .srst 0 else s.askReset .drst d

/-- SET_RTC: the seconds of the RTC have 32 bits (R467). -/
def State.cmdSetRtc (s : State) (h : HCmd) : Ran :=
  let t := uAt 8 h.payload 0
  s.gate s.whyCfg [(0, decide (t < 2 ^ 32 * 1000000000))] (fun s =>
    (s.sysMod (fun y => { y with rtc := t / 8, rtcValid := true })).ok)

/-! ## Sessions and objects -/

/-- CFG_OPEN. -/
def State.cmdCfgOpen (s : State) (_ : HCmd) : Ran :=
  s.gate s.whyCfg [] (fun s =>
    if s.cfg.cfgSess.isSome then s.no 0x6001
    else
      let (s1, id) := s.newId
      ({ s1 with cfg := { s1.cfg with cfgSess := some ⟨id, s1.now⟩, staged := [], stagedImgs := [] } }).okR (leBytes 4 id))

/-- CFG_ABORT. -/
def State.cmdCfgAbort (s : State) (h : HCmd) : Ran :=
  s.gate (why2 s.whyCfg (s.whySess false h)) [] (fun s => s.cfgClose.ok)

/-- An object's header: FORMAT, FLAGS, CRC, LEN, then the fields (R406); the offset of what fails. -/
def objBad (b : List Byte) : Option Nat :=
  let id := uAt 2 b 0
  let body := b.drop 12
  if byteAt b 2 ≠ 1 then some 2
  else if 2 ≤ byteAt b 3 then some 3
  else if crc32c body ≠ uAt 4 b 8 then some 8
  else if body.length ≠ objLen (idKind id) (idIdx id) body then some 4
  else objFault (idKind id) (idIdx id) body

/-- Stage an object in the session of its kind. -/
def State.stageObj (s : State) (o : Obj) : State :=
  if kindSafety (idKind o.id) then { s with cfg := { s.cfg with safStaged := putObj s.cfg.safStaged o } }
  else { s with cfg := { s.cfg with staged := putObj s.cfg.staged o } }

/-- OBJ_STAGE. -/
def State.cmdObjStage (s : State) (h : HCmd) : Ran :=
  let b := pageOf h
  let id := uAt 2 b 0
  s.gate s.whyCfg [] (fun s =>
    if !idExists id then s.no 0x5101
    else s.gate (s.whySess (kindSafety (idKind id)) h) [] (fun s =>
      match objBad b with
      | some o => s.bad o
      | none => (s.stageObj ⟨id, byteAt b 3, b.drop 12⟩).ok))

/-- OBJ_READ. -/
def State.cmdObjRead (s : State) (h : HCmd) : Ran :=
  let id := uAt 2 h.payload 0
  let src := byteAt h.payload 2
  if !idExists id then s.no 0x5101
  else if 1 < src then s.bad 2
  else
    let os := if src = 0 then s.cfg.objs else if kindSafety (idKind id) then s.cfg.safStaged else s.cfg.staged
    match findObj os id with
    | some o => (s, some { resOk with page := objBytes o })
    | none => s.ok

/-- OBJ_UNSTAGE. -/
def State.cmdObjUnstage (s : State) (h : HCmd) : Ran :=
  let id := uAt 2 h.payload 0
  s.gate s.whyCfg [] (fun s =>
    if !idExists id then s.no 0x5101
    else s.gate (s.whySess (kindSafety (idKind id)) h) [] (fun s =>
      ({ s with cfg := { s.cfg with staged := dropObj s.cfg.staged id, safStaged := dropObj s.cfg.safStaged id } }).ok))

/-- Put images of a list in place of those of the same kind and slot. -/
def putImgs (is new : List Img) : List Img := new.foldl putImg is

/-- The configuration a commit starts from: the one committed and not yet loaded, else the one in force. -/
def State.cfgBase (s : State) : List Obj × List Img :=
  match s.cfg.load with | some os => (os, s.flash.imgs) | none => (s.cfg.objs, s.cfg.imgs)

/-- Step 2 of R395 done: the other copy is current, and loads at the next boundary; kN and kE of its origin are the 9160's own (R59). -/
def State.commitWrite (s : State) (staged : List Obj) (imgs : List Img) (fresh : List (Nat × Nat)) : State :=
  let objs := staged.map originScale
  { s with
    flash := { s.flash with objs := some objs, imgs := imgs, old := s.flash.objs, gen := s.flash.gen + 1, copy := 1 - s.flash.copy }
    cfg := { s.cfg with load := some objs, fresh := s.cfg.fresh ++ fresh } }

/-- CFG_COMMIT (R395): checks, then the flash write, then the load at the boundary. -/
def State.cmdCfgCommit (s : State) (h : HCmd) : Ran :=
  s.gate (why2 s.whyCfg (s.whySess false h)) [] (fun s =>
    let (os, is) := s.cfgBase
    let objs := putObjs os s.cfg.staged
    let imgs := putImgs is s.cfg.stagedImgs
    let banks := (s.cfg.stagedImgs.filter (fun i => i.kind == 5)).map (·.slot)
    match s.commitFault objs imgs s.cfg.staged banks with
    | some id => s.noD 0x7101 id
    | none =>
      if s.writesHeld then s.waits
      else
        let (s1, good) := s.flashTry
        if !good then s1.no 0x9101
        else ((s1.commitWrite objs imgs (s.cfg.stagedImgs.map (fun i => (i.kind, i.slot)))).cfgClose).ok)

/-- CFG_REVERT: every field reloaded from the objects in force; UNCOMMITTED clears (R394). -/
def State.cmdCfgRevert (s : State) (_ : HCmd) : Ran :=
  s.gate s.whyCfg [] (fun s =>
    let s1 := s.loadFields
    ({ s1 with cfg := { s1.cfg with uncommitted := false } }).ok)

/-! ## Images (R407) -/

/-- Slots of an image kind. -/
def imgSlots (k : Nat) : Nat := match k with | 1 => 16 | 2 => 2 | 5 => 8 | _ => 1

/-- Is TOTAL within the limit of its kind? The limits of a kind in all count the other slots as they will be (R67, R135, R407). -/
def State.imgFits (s : State) (k slot total : Nat) : Bool :=
  let others (k less : Nat) : Nat :=
    sumN (((putImgs s.cfgBase.2 s.cfg.stagedImgs).filter (fun i => i.kind == k && i.slot != slot)).map
      (fun i => i.bytes.length - less))
  match k with
  | 0 => decide (total ≤ 0x400000)
  | 1 => decide (total ≤ 0x100000 + 104) && decide (others 1 104 + (total - 104) ≤ 0x400000)
  | 2 => decide (others 2 0 + total ≤ 0x300000)
  | 3 => decide (total ≤ 0x200000)
  | 4 => decide (total ≤ 0x40000)
  | _ => decide (total ≤ 4360)

/-- Would the logic image slot overlap a capture or an unreleased snapshot (R9)? -/
def State.poolBusy (s : State) : Bool :=
  let used := match s.gns.snap with
    | some x => if s.fbit GNS_SNAP_STAT.BUSY || s.fbit GNS_SNAP_STAT.FULL then 64 + 31250 * x.lens.sum else 0
    | none => 0
  let wait := if s.gns.trig.isSome then 64 + 31250 * s.snapLens.sum else 0
  decide (slotBase s.freeSlot < max used wait)

/-- Acceptance by kind (R407). -/
def State.whyImg (s : State) (k : Nat) (h : HCmd) : Nat :=
  match k with
  | 0 => if s.sys.recovery then 0 else s.whyCfg
  | 3 => 0
  | _ => why2 s.whyCfg (s.whySess false h)

/-- IMG_BEGIN. -/
def State.cmdImgBegin (s : State) (h : HCmd) : Ran :=
  let k := byteAt h.payload 0
  let slot := byteAt h.payload 1
  let total := uAt 4 h.payload 4
  if 5 < k then s.bad 0
  else s.gate (s.whyImg k h) [(1, decide (slot < imgSlots k)), (4, decide (1 ≤ total))] (fun s =>
    if !s.imgFits k slot total then s.no 0x5109
    else if s.cfg.xfer.isSome then s.no 0x6102
    else if k = 3 ∧ s.poolBusy then s.no 0x6106
    else ({ s with cfg := { s.cfg with xfer := some ⟨k, slot, total, [], s.now⟩ } }).ok)

/-- IMG_APPEND. -/
def State.cmdImgAppend (s : State) (h : HCmd) : Ran :=
  match s.cfg.xfer with
  | none => s.no 0x310D
  | some x =>
    let g := pageOf h
    if uAt 4 h.payload 0 ≠ x.got.length then s.bad 0
    else if x.total < x.got.length + g.length then s.no 0x5109
    else ({ s with cfg := { s.cfg with xfer := some { x with got := x.got ++ g, last := s.now } } }).ok

/-- A firmware image (R461, R462): 0 accepted, else status and DETAIL. -/
def State.fwCheck (s : State) (b : List Byte) : Nat × Nat :=
  if !Config.sigOk 3 b then (0x8101, 0)
  else match firstBad [(0, uAt 4 b 0 == 0x57464758), (4, uAt 2 b 4 == 1), (6, decide (byteAt b 6 ≤ 63)), (7, decide (byteAt b 7 ≤ 8)),
      (12, decide (uAt 4 b 12 ≤ 4194200) && decide (1024 ≤ uAt 4 b 12) && uAt 4 b 12 + 104 == b.length), (121, zeroAt b 121 7)] with
    | some o => (0x8103, o)
    | none => if byteAt b 6 < s.d0.arCtr then (0x8102, 0) else (0, 0)

/-- Write a firmware image to the inactive slot; the next boot uses it, on trial (R460, R463). -/
def State.fwWrite (s : State) (b : List Byte) : State :=
  let n := 1 - s.fget PMU_BOOT.SLOT
  let f : FwSlot := { valid := true, svn := byteAt b 6, version := uAt 4 b 8, failed := false }
  { s with flash := { s.flash with fw0 := if n = 0 then f else s.flash.fw0, fw1 := if n = 0 then s.flash.fw1 else f,
                                   bootSlot := n, trial := true, gen := s.flash.gen + 1 } }

/-- The status a refused logic image is answered with: its ERR (R371). -/
def lgcStatus (e : Nat) : Nat := if e = 1 then 0x8101 else 0x8103

/-- IMG_END. -/
def State.cmdImgEnd (s : State) (_ : HCmd) : Ran :=
  match s.cfg.xfer with
  | none => s.no 0x310D
  | some x =>
    let b := x.got
    let s1 := { s with cfg := { s.cfg with xfer := none } }
    if b.length ≠ x.total then s1.no 0x8104
    else match x.kind with
    | 0 =>
      let (st, d) := s.fwCheck b
      if st ≠ 0 then s1.noD st d
      else if s.writesHeld then s.waits
      else
        let (s2, good) := s1.flashTry
        if good then (s2.fwWrite b).ok else s2.no 0x9101
    | 3 =>
      let (s2, e) := s1.lgcLoad b
      if e = 0 then s2.ok else s2.no (lgcStatus e)
    | k =>
      let (st, d) := imgCheck k b
      if st ≠ 0 then s1.noD st d
      else ({ s1 with cfg := { s1.cfg with stagedImgs := putImg s1.cfg.stagedImgs ⟨k, x.slot, b⟩ } }).ok

/-- IMG_CANCEL. -/
def State.cmdImgCancel (s : State) (_ : HCmd) : Ran :=
  if s.cfg.xfer.isNone then s.no 0x310D else ({ s with cfg := { s.cfg with xfer := none } }).ok

/-- OVERLAY_COMMIT (R364): the overlay of the program named is stored in flash. -/
def State.cmdOverlayCommit (s : State) (h : HCmd) : Ran :=
  if s.lgc.img.isNone || s.fget LOG_PROG_ID.ID != uAt 4 h.payload 0 then s.no 0x3105
  else if s.writesHeld then s.waits
  else
    let (s1, good) := s.flashTry
    if good then (s1.lgcMod (fun l => { l with saved := some (l.ovlId, l.ovl) })).ok else s1.no 0x9101

end Sys2Proof.Machine
end

