-- ==== Sys2Proof/Machine/CmdOps.lean ====
section
/-!
DEFINITION. Host commands of DP operation, redundancy, safety, logic, GNSS, CAN and serial, filter, panel, diagnostics
and power (R409 to R411).
-/

namespace Sys2Proof.Machine

/-! ## DP operation: checked and listed (R409) -/

/-- A command listed under R115: HLD, its fields in range, then listed. -/
def State.cmdListed (s : State) (op : Nat) (h : HCmd) (cs : List (Nat × Bool)) : Ran :=
  s.gate s.whyHld cs (fun s => s.list op h)

/-- ALIGN_COMMIT. -/
def State.cmdAlignCommit (s : State) (h : HCmd) : Ran := s.cmdListed opAlignCommit h [(0, decide (byteAt h.payload 0 ≤ 15))]
/-- ALIGN_REVERT. -/
def State.cmdAlignRevert (s : State) (h : HCmd) : Ran := s.cmdListed opAlignRevert h [(0, decide (byteAt h.payload 0 ≤ 15))]
/-- SET_FUNCTION. -/
def State.cmdSetFunction (s : State) (h : HCmd) : Ran :=
  s.cmdListed opSetFunction h [(0, decide (byteAt h.payload 0 ≤ 4)), (1, decide (byteAt h.payload 1 ≤ 1))]
/-- SET_POSITION. -/
def State.cmdSetPosition (s : State) (h : HCmd) : Ran := s.cmdListed opSetPosition h [(0, decide (byteAt h.payload 0 ≤ 3))]
/-- SET_SPEED. -/
def State.cmdSetSpeed (s : State) (h : HCmd) : Ran := s.cmdListed opSetSpeed h []
/-- SET_LIMITS: each finite and above 0 (R119). -/
def State.cmdSetLimits (s : State) (h : HCmd) : Ran :=
  s.cmdListed opSetLimits h ((upTo 6).map (fun i =>
    (4 * i, ffinite (fltAt h.payload (4 * i)) && flt 0 (fltAt h.payload (4 * i)))))
/-- The fields of TRACK_LOAD and TRACK_APPEND: N 1 to 32, SPEED above 0, RADIUS at least 0, HMODE 0 or 1. -/
def trackChecks (b : List Byte) : List (Nat × Bool) :=
  (0, decide (1 ≤ byteAt b 0) && decide (byteAt b 0 ≤ 32)) :: (upTo (byteAt b 0)).flatMap (fun i =>
    let o := 4 + 24 * i
    [(o + 8, flt 0 (fltAt b (o + 8))), (o + 12, fle 0 (fltAt b (o + 12))), (o + 16, decide (byteAt b (o + 16) ≤ 1))])
/-- TRACK_LOAD. -/
def State.cmdTrackLoad (s : State) (h : HCmd) : Ran := s.cmdListed opTrackLoad h (trackChecks (pageOf h))
/-- TRACK_APPEND. -/
def State.cmdTrackAppend (s : State) (h : HCmd) : Ran := s.cmdListed opTrackAppend h (trackChecks (pageOf h))
/-- SET_ORIGIN: latitude within 90°, longitude within 180°. -/
def State.cmdSetOrigin (s : State) (h : HCmd) : Ran :=
  s.cmdListed opSetOrigin h [(0, decide ((sAt 8 h.payload 0).natAbs ≤ 2 ^ 47)), (8, decide ((sAt 8 h.payload 8).natAbs ≤ 2 ^ 48))]
/-- SCEN_ENABLE: bit 0 is zero. -/
def State.cmdScenEnable (s : State) (h : HCmd) : Ran := s.cmdListed opScenEnable h [(0, uAt 2 h.payload 0 % 2 == 0)]
/-- THR_EXCLUDE. -/
def State.cmdThrExclude (s : State) (h : HCmd) : Ran := s.cmdListed opThrExclude h []
/-- REF_READMIT. -/
def State.cmdRefReadmit (s : State) (h : HCmd) : Ran := s.cmdListed opRefReadmit h [(0, decide (byteAt h.payload 0 ≤ 15))]
/-- SET_AUTOREADMIT. -/
def State.cmdSetAuto (s : State) (h : HCmd) : Ran := s.cmdListed opSetAutoreadmit h [(0, decide (byteAt h.payload 0 ≤ 1))]

/-! ## Redundancy (R192, R196, R199, R200, R206, R410) -/

/-- KEY_CLAIM: this unit becomes the holder with the next epoch, unless a holder has been heard (R192). -/
def State.cmdKeyClaim (s : State) (_ : HCmd) : Ran :=
  s.gate (if s.role == .ready || s.role == .standby || s.role == .solo then 0 else 0x3001) [] (fun s =>
    if s.time.frame < s.red.bootAt + 2 * s.keyLease ∨ recent s.time.frame (2 * s.keyLease) s.red.claimAt then s.no 0x3103
    else
      let s1 := s.takeEpoch.setRole (if s.fget RED_CFG.SET_N = 1 then .solo else .active)
      ((s1.fset RED_HELD.EPOCH (s1.fget RED_EPOCH.EPOCH)).redMod (fun x =>
        { x with plan := none, declHolder := false, following := false, man := none })).ok)

/-- KEY_TRANSFER (R200): the target is the successor, which alone acts at AT_FRAME (DEDUCED, log 77). -/
def State.cmdKeyTransfer (s : State) (h : HCmd) : Ran :=
  let u := byteAt h.payload 0
  let n := byteAt h.payload 1
  s.gate s.whyHld [(0, decide (u ≤ 2)), (1, decide (2 ≤ n) && decide (n ≤ 31))] (fun s =>
    if s.successor != some u then s.no 0x3102
    else (s.redMod (fun x => { x with plan := some (s.time.frame + n, u, false) })).ok)

/-- KEY_RELINQUISH (R199). -/
def State.cmdKeyRelinquish (s : State) (h : HCmd) : Ran :=
  let f := byteAt h.payload 0
  s.gate s.whyHld [(0, decide (f ≤ 1))] (fun s =>
    if f = 0 ∧ s.successor.isNone then s.no 0x3102 else (s.declareFail 5).ok)

/-- RESYNC: a unit with another CFG_HASH than the holder's requests nothing (R172, R206). -/
def State.cmdResync (s : State) (_ : HCmd) : Ran :=
  s.gate (if s.op == .ready || s.op == .standby then 0 else 0x3001) [] (fun s => (if s.hashDiff then s else s.reqImage).ok)

/-- DISAGREE_CLEAR. -/
def State.cmdDisagreeClear (s : State) (_ : HCmd) : Ran := s.disagreeClear.ok

/-! ## Safety (R232, R235, R236, R238 to R241, R410) -/

/-- Does a password match the one stored (R238)? -/
def pwMatch (r : PwRec) (pw : List Byte) : Bool := pbkdf2 pw r.salt pwIter == r.hash

/-- An attempt on the password (R239): the lockout, a failure, or a success. -/
def State.tryPw (s : State) (pw : List Byte) (good : State → Ran) : Ran :=
  match s.saf.pw with
  | none => s.no 0x4103
  | some r =>
    if s.pwWait ≠ 0 then s.noD 0x4102 s.pwWait
    else if pwMatch r pw then good s.pwOk else s.pwFail.no 0x4101

/-- SAF_OPEN. -/
def State.cmdSafOpen (s : State) (h : HCmd) : Ran :=
  s.gate s.whyCfg [] (fun s =>
    if s.saf.pw.isNone then s.no 0x4103
    else if s.cfg.safSess.isSome then s.no 0x6001
    else s.tryPw h.payload (fun s =>
      let (s1, id) := s.newId
      (({ s1 with cfg := { s1.cfg with safSess := some ⟨id, s1.now⟩, safStaged := [] } }).fset SAF_STATUS.SESSION 1).okR (leBytes 4 id)))

/-- SAF_CLOSE. -/
def State.cmdSafClose (s : State) (h : HCmd) : Ran := s.gate (s.whySess true h) [] (fun s => s.safClose.ok)

/-- The password is stored in flash and the change logged (R238, R241). -/
def State.pwWrite (s : State) (new : List Byte) (op : Nat) : Ran :=
  if s.writesHeld then s.waits
  else
    let (s1, good) := s.flashTry
    if good then ((s1.pwStore new).changeLog 0 65535 op 0 [] []).ok else s1.no 0x9101

/-- SAF_PASSWORD. -/
def State.cmdSafPassword (s : State) (h : HCmd) : Ran :=
  let p := h.payload
  let (ol, nl) := (byteAt p 0, byteAt p 1)
  let new := (p.drop 36).take nl
  s.gate s.whyCfg [(0, decide (ol ≤ 32)), (1, decide (8 ≤ nl) && decide (nl ≤ 32)), (36, pwValid new)] (fun s =>
    match s.saf.pw with
    | none => if ol ≠ 0 then s.no 0x4103 else s.pwWrite new 2
    | some _ => if ol = 0 then s.no 0x4103 else s.tryPw ((p.drop 4).take ol) (fun s => s.pwWrite new 3))

/-- Log each object a safety commit changes: its hashes before and after (R241). -/
def State.logObjs (s : State) (sess : Nat) (old : List Obj) (os : List Obj) : State :=
  os.foldl (fun s o => s.changeLog sess o.id 1 0
    (match findObj old o.id with | some p => sha384 (objBytes p) | none => []) (sha384 (objBytes o))) s

/-- SAF_COMMIT (R240). A channel that does not run computes no hash, so the hashes differ. -/
def State.cmdSafCommit (s : State) (h : HCmd) : Ran :=
  s.gate (s.whySess true h) [] (fun s =>
    let (os, is) := s.cfgBase
    let objs := putObjs os s.cfg.safStaged
    match s.commitFault objs is s.cfg.safStaged [] with
    | some id => s.noD 0x7101 id
    | none =>
      if !(s.chanRuns 0 && s.chanRuns 1) then s.no 0x7102
      else if s.writesHeld then s.waits
      else
        let (s1, good) := s.flashTry
        if !good then s1.no 0x9101
        else
          let s2 := (s1.logObjs h.session.toNat os s1.cfg.safStaged).commitWrite objs is []
          (({ s2 with cfg := { s2.cfg with safStaged := [] } }).event 0x08 0x08 0 (leBytes 4 (s2.d0.clSeq - 1))).ok)

/-- SAF_ACK (R235): the first group refused, or every group of the mask ARMED. -/
def State.cmdSafAck (s : State) (h : HCmd) : Ran :=
  let m := byteAt h.payload 0
  s.gate 0 [(0, decide (m ≤ 15))] (fun s =>
    match (bitIdx 4 m).find? (fun g => (s.ackWhy g (byteAt h.payload (4 + g))).isSome) with
    | some g => s.noD 0x3106 (g + 16 * (s.ackWhy g (byteAt h.payload (4 + g))).getD 0)
    | none => (s.arm m).ok)

/-- SAF_RESET: with no group ARMED it is ignored and counted, whatever the source of step 2 (R236). -/
def State.cmdSafReset (s : State) (h : HCmd) : Ran :=
  s.gate (s.whySess true h) [] (fun s =>
    let s1 := if s.fget SAF_STATUS.ARMED = 0 then s.finc SAF_CNT.RST_IGNORED else s
    if !s.fbit SAF_CFG.RST_SRC then s1.no 0x310E
    else if s.fget SAF_STATUS.ARMED = 0 then s1.no 0x3107
    else (s.latchClear h.session.toNat).ok)

/-- SAF_TRIP (R232): a HOST trip of the groups named, and its log entry. -/
def State.cmdSafTrip (s : State) (h : HCmd) : Ran :=
  s.gate 0 [(0, decide (byteAt h.payload 0 ≤ 15))] (fun s =>
    ((s.trip [0, 1] (byteAt h.payload 0) 11 0 false).changeLog h.session.toNat 65535 6 0 [] []).ok)

/-! ## Logic (R350, R363 to R368, R411) -/

/-- LOG_START: RUNNING, unless what stands against it stops it at once. -/
def State.cmdLogStart (s : State) (_ : HCmd) : Ran :=
  if s.lgState = lgStopped ∨ s.lgState = lgFault then (s.lgcStart s.nextBound).lgcHalt.ok else s.no 0x3105

/-- LOG_STOP. -/
def State.cmdLogStop (s : State) (_ : HCmd) : Ran := if s.lgState = lgRunning then s.lgcStop.ok else s.no 0x3105

/-- May LOG_EXCHANGE be given (R368)? -/
def State.whyExchange (s : State) : Nat :=
  if !(s.role == .standby && s.fbit RED_ROLE.QUALIFIED) then 0x3102
  else if s.lgState ≠ lgRunning ∨ s.lgc.pend.isNone then 0x3105 else 0

/-- LOG_EXCHANGE waits for the boundary at which no cycle runs (R368). -/
def State.cmdLogExchange (s : State) (_ : HCmd) : Ran := s.gate s.whyExchange [] State.waits

/-- LOG_CHANGE. -/
def State.cmdLogChange (s : State) (h : HCmd) : Ran :=
  let b := pageOf h
  let n := byteAt b 6
  s.gate (why2 s.whyHld (if s.lgState = lgRunning then 0 else 0x3105))
    [(6, decide (1 ≤ n) && decide (n ≤ 64)), (7, decide (byteAt b 7 ≤ 1))] (fun s => s.list opLogChange h)

/-- PT_WRITE (R350): a point of class HOST. -/
def State.cmdPtWrite (s : State) (h : HCmd) : Ran :=
  let n := uAt 4 h.payload 0 % 2 ^ 18
  let q := byteAt h.payload 4
  s.gate 0 [(4, decide (q ≤ 1))] (fun s =>
    if (s.ptInfo n).2 ≠ 2 then s.no 0x310A else (s.ptWrite n (uAt 4 h.payload 8) q s.now).ok)

/-! ## GNSS, CAN and serial, filter, panel (R265, R313, R317, R340, R494, R502, R411) -/

/-- GNS_SNAP. -/
def State.cmdGnsSnap (s : State) (_ : HCmd) : Ran :=
  s.gate (if s.fbit GNS_CFG.EN then 0 else 0x3001) [] (fun s =>
    let (s1, good) := s.snapTrig 0
    if good then s1.ok else s1.no 0x6103)

/-- GNS_FORGET. -/
def State.cmdGnsForget (s : State) (h : HCmd) : Ran :=
  s.gate s.whyCfg [(0, decide (byteAt h.payload 0 ≤ 7))] (fun s => (s.gnsForget (byteAt h.payload 0)).ok)

/-- CAN_SEND. -/
def State.cmdCanSend (s : State) (h : HCmd) : Ran :=
  let p := h.payload
  let f := byteAt p 1
  let id := uAt 4 p 4
  let m : CanMsg := ⟨id, bit f 0, bit f 1, bit f 2, byteAt p 2, (p.drop 16).take 64⟩
  s.gate 0 [(0, decide (byteAt p 0 ≤ 7)), (1, decide (f ≤ 7)), (2, decide (byteAt p 2 ≤ 15)),
      (4, decide (id < (if bit f 0 then 2 ^ 29 else 2 ^ 11)))] (fun s =>
    match s.canSubmit (byteAt p 0) m (uAt 8 p 8) none none with
    | (s1, none) => s1.ok
    | (s1, some .full) => s1.no 0x6101
    | (s1, some .format) => s1.no 0x5106
    | (s1, some .brsClassic) => s1.bad 1)

/-- UART_SEND. -/
def State.cmdUartSend (s : State) (h : HCmd) : Ran :=
  let n := byteAt h.payload 0
  let l := uAt 2 h.payload 2
  s.gate 0 [(0, decide (n ≤ 15)), (2, decide (1 ≤ l) && decide (l ≤ 200))] (fun s =>
    if !(s.uart n).tx.isEmpty then s.no 0x6105 else (s.uartQueue n (h.payload.drop 4)).ok)

/-- SDF_START. -/
def State.cmdSdfStart (s : State) (h : HCmd) : Ran :=
  match s.sdfStartAll (uAt 4 h.payload 0) with
  | (s1, none) => s1.ok
  | (s1, some (n, e)) => s1.noD 0x310B (n + 256 * e)

/-- SDF_STOP. -/
def State.cmdSdfStop (s : State) (h : HCmd) : Ran := ((bitIdx 32 (uAt 4 h.payload 0)).foldl State.sdfStop s).ok

/-- PNL_UPDATE (R494). -/
def State.cmdPnlUpdate (s : State) (h : HCmd) : Ran :=
  let p := byteAt h.payload 0
  let n := uAt 2 h.payload 2
  s.gate 0 [(0, decide (p ≤ 31))] (fun s =>
    if n = 0 ∨ (s.podSegs p).length ≠ n then s.no 0x2003
    else
      let levels := (upTo n).map (fun i => bits (byteAt h.payload (4 + i / 4)) (2 * (i % 4)) 2)
      let (s1, st) := s.pnlUpdate p levels
      s1.no st)

/-- PNL_RESUME. -/
def State.cmdPnlResume (s : State) (_ : HCmd) : Ran := s.pnlResume.ok

/-! ## Diagnostics and power (R451, R468, R477, R479 to R486, R411) -/

/-- HARVEST. -/
def State.cmdHarvest (s : State) (h : HCmd) : Ran := (s.harvLocal s.now (uAt 4 h.payload 0) 0).ok

/-- REC_CTRL: from the next boundary (R477). -/
def State.cmdRecCtrl (s : State) (h : HCmd) : Ran :=
  let k := byteAt h.payload 0
  let n := byteAt h.payload 1
  s.gate 0 [(0, decide (k ≤ 2)), (1, decide (n ≤ 3))] (fun s => (s.recMod (fun r => { r with req := some (k, n) })).ok)

/-- Bytes of a store, cut at its end: SHORT with the number returned (R401). -/
def State.readOut (s : State) (bs : List Byte) (asked : Nat) : Ran :=
  if bs.length < asked then (s, some { resDet 0x1102 bs.length with page := bs }) else (s, some { resOk with page := bs })

/-- REC_READ. -/
def State.cmdRecRead (s : State) (h : HCmd) : Ran :=
  let o := uAt 8 h.payload 0
  let n := uAt 4 h.payload 8
  s.gate 0 [(8, decide (1 ≤ n) && decide (n ≤ 4096))] (fun s =>
    let (s1, good) := s.flashTry
    if good then s1.readOut (s1.rdB rgnRing o (min n (recRing - o))) n else s1.no 0x9102)

/-- LEDGER_READ. -/
def State.cmdLedgerRead (s : State) (h : HCmd) : Ran :=
  let o := uAt 2 h.payload 0
  let n := uAt 2 h.payload 2
  s.gate 0 [(2, decide (1 ≤ n) && decide (n ≤ 4096))] (fun s => s.readOut ((s.ledImage.drop o).take n) n)

/-- Channels of a fault class (R484). -/
def clsCount (c : Nat) : Nat := match c with | 0 => 256 | 1 => 4 | 2 => 2 | 3 => 8 | 4 => 16 | _ => 32

/-- READMIT of a channel but for a command path (R486): its return to service. -/
def State.readmit (s : State) (cls idx : Nat) : State :=
  let was := s.retired cls idx
  if cls = 4 then (if was then s.readmitEngine idx else s.readmitCh 4 idx)
  else
    let s1 := s.readmitCh cls idx
    if !was then s1
    else match cls with
    | 0 => (if s1.fbit (fldAt SCX_CFG.EN idx) then s1.ctxEnable idx else s1).retCleared 0 idx
    | 1 => ((s1.fset (fldAt NET_PORT_STAT.RETIRED idx) 0).fset (fldAt NET_PORT_STAT.LINK idx) 0).fset (fldAt NET_PORT_STAT.SPEED idx) 0
    | 2 => s1.fset (fldAt NET_PORT_STAT.RETIRED (4 + idx)) 0
    | 3 =>
      let s2 := s1.fset (fldAt CAN_STAT.RETIRED idx) 0
      (if s2.fbit (fldAt CAN_CTRL.INIT idx) then s2 else s2.canInitLeave idx).retCleared 3 idx
    | _ => s1

/-- READMIT. -/
def State.cmdReadmit (s : State) (h : HCmd) : Ran :=
  let c := byteAt h.payload 0
  let i := uAt 2 h.payload 2
  s.gate (if c = 5 then s.whyHld else 0) [(0, decide (c ≤ 5)), (2, decide (i < clsCount c))] (fun s =>
    if c = 5 then s.list opReadmit h else (s.readmit c i).ok)

/-- REPLAY_ENTER. -/
def State.cmdReplayEnter (s : State) (h : HCmd) : Ran :=
  let k := byteAt h.payload 0
  s.gate (why2 s.whyCfg s.whyUnc) [(0, decide (k ≤ 1))] (fun s => (s.closeSess.rplEnter (k == 1) (uAt 8 h.payload 4)).ok)

/-- The condition REPLAY. -/
def State.whyRpl (s : State) : Nat := if s.op == .replay then 0 else 0x3001

/-- REPLAY_FEED: it waits while the buffer is full (R482). -/
def State.cmdReplayFeed (s : State) (h : HCmd) : Ran :=
  s.gate s.whyRpl [] (fun s =>
    if (match s.dia.rpl with | some r => r.flash | none => false) then s.no 0x310E
    else match s.rplFeed (pageOf h) with | some s1 => s1.ok | none => s.waits)

/-- REPLAY_EXIT. -/
def State.cmdReplayExit (s : State) (_ : HCmd) : Ran := s.gate s.whyRpl [] (fun s => s.rplExit.ok)

/-- PWR_STATE (R451): accepted in READY and CONFIG; SLEEP and HIBERNATE leave CONFIG (R394). -/
def State.cmdPwrState (s : State) (h : HCmd) : Ran :=
  let t := byteAt h.payload 0
  s.gate (why2 (if s.op == .ready || s.op == .config then 0 else 0x3001) (if t = 3 then 0 else s.whyUnc))
    [(0, decide (1 ≤ t) && decide (t ≤ 3))] State.ok

/-- What PWR_STATE does once its response is written: the event, then the entry (R451). -/
def State.afterPwr (s : State) (h : HCmd) : State :=
  let t := byteAt h.payload 0
  let p := if t = 1 then PState.hibernate else if t = 2 then PState.sleep else PState.harbour
  (s.event 0x0E 0x03 0 (evData 0 t)).pwrEnter p

end Sys2Proof.Machine
end

