-- ==== Sys2Proof/Machine/Mailbox.lean ====
section
/-!
DEFINITION. The mailbox (R380 to R391, R533): taking a command, the two lanes, responses, doorbells and consumer
indexes, EVENTS_LOST.
-/

namespace Sys2Proof.Machine

/-! ## Running a command -/

/-- Run a command of the system, configuration or DP groups. -/
def State.runLow (s : State) (op : Nat) (h : HCmd) : Ran :=
  match op with
  | 0x0101 => s.cmdGetInfo h | 0x0102 => s.cmdEnterConfig h | 0x0103 => s.cmdLeaveConfig h | 0x0104 => s.cmdReset h
  | 0x0105 => s.cmdSetRtc h | 0x0201 => s.cmdCfgOpen h | 0x0202 => s.cmdCfgAbort h | 0x0203 => s.cmdObjStage h
  | 0x0204 => s.cmdObjRead h | 0x0205 => s.cmdObjUnstage h | 0x0206 => s.cmdCfgCommit h | 0x0207 => s.cmdCfgRevert h
  | 0x0208 => s.cmdImgBegin h | 0x0209 => s.cmdImgAppend h | 0x020A => s.cmdImgEnd h | 0x020B => s.cmdImgCancel h
  | 0x020C => s.cmdAlignCommit h | 0x020D => s.cmdAlignRevert h | 0x020E => s.cmdOverlayCommit h
  | 0x0301 => s.cmdSetFunction h | 0x0302 => s.cmdSetPosition h | 0x0303 => s.cmdSetSpeed h | 0x0304 => s.cmdSetLimits h
  | 0x0305 => s.cmdTrackLoad h | 0x0306 => s.cmdTrackAppend h | 0x0307 => s.cmdSetOrigin h | 0x0308 => s.cmdScenEnable h
  | 0x0309 => s.cmdThrExclude h | 0x030A => s.cmdRefReadmit h | 0x030B => s.cmdSetAuto h
  | _ => s.no 0x2002

/-- Run a command of the other groups. -/
def State.runHigh (s : State) (op : Nat) (h : HCmd) : Ran :=
  match op with
  | 0x0401 => s.cmdKeyClaim h | 0x0402 => s.cmdKeyTransfer h | 0x0403 => s.cmdKeyRelinquish h | 0x0404 => s.cmdResync h
  | 0x0405 => s.cmdDisagreeClear h | 0x0501 => s.cmdSafOpen h | 0x0502 => s.cmdSafClose h | 0x0503 => s.cmdSafPassword h
  | 0x0504 => s.cmdSafCommit h | 0x0505 => s.cmdSafAck h | 0x0506 => s.cmdSafReset h | 0x0507 => s.cmdSafTrip h
  | 0x0601 => s.cmdLogStart h | 0x0602 => s.cmdLogStop h | 0x0603 => s.cmdLogExchange h | 0x0604 => s.cmdLogChange h
  | 0x0605 => s.cmdPtWrite h | 0x0701 => s.cmdGnsSnap h | 0x0702 => s.cmdGnsForget h | 0x0801 => s.cmdCanSend h
  | 0x0802 => s.cmdUartSend h | 0x0901 => s.cmdSdfStart h | 0x0902 => s.cmdSdfStop h | 0x0A01 => s.cmdPnlUpdate h
  | 0x0A02 => s.cmdPnlResume h | 0x0B01 => s.cmdHarvest h | 0x0B02 => s.cmdRecCtrl h | 0x0B03 => s.cmdRecRead h
  | 0x0B04 => s.cmdLedgerRead h | 0x0B05 => s.cmdReadmit h | 0x0B06 => s.cmdReplayEnter h | 0x0B07 => s.cmdReplayFeed h
  | 0x0B08 => s.cmdReplayExit h | 0x0C01 => s.cmdPwrState h
  | _ => s.no 0x2002

/-- Opcodes recovery mode accepts (R464). -/
def recoveryOp (op : Nat) : Bool := [0x0101, 0x0104, 0x0208, 0x0209, 0x020A, 0x020B].contains op

/-- Is a command refused in recovery mode (R464)? Images of kind FIRMWARE alone. -/
def State.recoveryBars (s : State) (op : Nat) (h : HCmd) : Bool :=
  s.sys.recovery && (!recoveryOp op || (op == 0x0208 && byteAt h.payload 0 != 0))

/-- Steps 4 to 7 of R533 and the effect. -/
def State.runCmd (s : State) (op : Nat) (h : HCmd) : Ran :=
  if !opcodes.contains op || s.recoveryBars op h then s.no 0x2002
  else if opForm op h ≠ 0 then s.no (opForm op h)
  else if op < 0x0400 then s.runLow op h else s.runHigh op h

/-- The session a waiting command needs has closed (R388): a commit, or the end of an image that would have been staged. -/
def State.sessGone (s : State) (t : Taken) : Bool :=
  t.begun && ((t.op == 0x0206 && s.whySess false t.cmd != 0) || (t.op == 0x0504 && s.whySess true t.cmd != 0))

/-- What follows the response of a command (R396, R408, R451). -/
def State.afterCmd (s : State) (op : Nat) (h : HCmd) (st : Nat) : State :=
  if st ≠ 0 then s
  else if op = 0x0104 then s.afterReset h
  else if op = 0x0C01 then s.afterPwr h
  else s

/-- A command completes: its response, and what follows it. -/
def State.finish (s : State) (t : Taken) (r : Res) : State :=
  let s1 := ({ s with hif := { s.hif with taken := s.hif.taken.filter (fun x => x.seq != t.seq), curTag := none } }).respond
    t.op t.cmd.tag.toNat t.seq r
  ((if statusClass r.status = 7 ∨ statusClass r.status = 9 then s1.touch t.op t.cmd else s1).afterCmd t.op t.cmd r.status)

/-- The oldest command of a lane. -/
def State.laneHead (s : State) (bg : Bool) : Option Taken := s.hif.taken.find? (fun t => opBg t.op == bg)

/-- Run the oldest command of a lane; the flag says that it has completed. -/
def State.laneRun (s : State) (bg : Bool) : State × Bool :=
  match s.laneHead bg with
  | none => (s, false)
  | some t =>
    let s0 := { s with hif := { s.hif with curTag := some t.cmd.tag.toNat } }
    match (if s.sessGone t then s0.no 0xA002 else s0.runCmd t.op t.cmd) with
    | (s1, some r) => (s1.finish t r, true)
    | (s1, none) =>
      ({ s1 with hif := { s1.hif with curTag := none,
                                      taken := s1.hif.taken.map (fun x => if x.seq = t.seq then { x with begun := true } else x) } },
        false)

/-- Run a lane until it is empty or waits. -/
def State.laneGo (s : State) (bg : Bool) : Nat → State
  | 0 => s
  | n + 1 => match s.laneRun bg with | (s1, true) => s1.laneGo bg n | (s1, false) => s1

/-- Both lanes go on as far as they can. -/
def State.pump (s : State) : State :=
  let n := s.hif.taken.length
  (s.laneGo false n).laneGo true n

/-! ## Taking commands (R382, R383, R533) -/

/-- SV takes commands: READY, and room for the response (R382). -/
def State.mayTake (s : State) : Bool :=
  s.hif.ready && s.clocked && !s.sys.yd
    && decide ((s.fget HIF_RSP_PI.IDX + 2 ^ 16 - s.fget HIF_RSP_CI.CI) % 2 ^ 16 + s.hif.taken.length < 64)

/-- The command entry a command with no format fault of steps 1 to 3 comes in (R383). -/
def entryBytes (op : Nat) (h : HCmd) : List Byte :=
  let g := pageOf h
  let b := leBytes 2 op ++ leBytes 2 (b2n h.page.isSome) ++ leBytes 2 h.tag.toNat ++ leBytes 2 h.payload.length
    ++ leBytes 4 h.session.toNat ++ leBytes 4 g.length ++ List.replicate 12 0
  b ++ leBytes 4 (crc32c (b ++ h.payload ++ g)) ++ fitBytes 224 h.payload

/-- Take a command: HIF_SEQ, the recorder's copy (R473), its session's 600 s, its lane. -/
def State.take (s : State) (op : Nat) (h : HCmd) (raw : List Byte) : State :=
  let seq := (s.fget HIF_SEQ.SEQ + 1) % 2 ^ 32
  let s1 := ((s.fset HIF_SEQ.SEQ seq).stage 3 0 (leBytes 4 seq ++ raw ++ pageOf h)).touch op h
  { s1 with hif := { s1.hif with taken := s1.hif.taken ++ [⟨op, seq, h, false⟩] } }

/-- A host command of an opcode, taken and run as far as its lane allows. -/
def State.hostCmd (s : State) (op : Nat) (h : HCmd) : State :=
  if s.mayTake then (s.take op h (entryBytes op h)).pump else s

/-- The first format fault of an entry (steps 1 to 4 of R533); 0 none. -/
def entryFault (e pg : List Byte) : Nat :=
  let len := uAt 2 e 6
  let ext := uAt 4 e 12
  let flags := uAt 2 e 2
  let f := flags % 2 = 1
  if 224 < len ∨ (f ∧ (ext = 0 ∨ 4096 < ext)) ∨ (¬f ∧ ext ≠ 0) then 0x2003
  else if crc32c (e.take 28 ++ (e.drop 32).take len ++ pg.take ext) ≠ uAt 4 e 28 then 0x2001
  else if flags ≠ flags % 2 then 0x2004
  else if !opcodes.contains (uAt 2 e 0) then 0x2002
  else 0

/-- COMMAND_INTAKE: the next command of the ring is taken (R382). -/
def State.intake (s : State) : State :=
  let ci := s.fget HIF_CMD_CI.IDX
  if !s.mayTake || s.fget HIF_CMD_PI.PI == ci then s
  else
    let n := ci % 64
    let e := s.rdB rgnCmd (n * 256) 256
    let pg := s.rdB rgnXp (n * 4096) 4096
    let s1 := s.fset HIF_CMD_CI.IDX (ci + 1)
    let h : HCmd := { tag := BitVec.ofNat 16 (uAt 2 e 4), session := BitVec.ofNat 32 (uAt 4 e 8),
                      payload := (e.drop 32).take (uAt 2 e 6),
                      page := if uAt 2 e 2 % 2 = 1 then some (pg.take (uAt 4 e 12)) else none }
    let op := uAt 2 e 0
    let st := entryFault e pg
    if st = 0 then (s1.take op h e).pump
    else
      let seq := (s1.fget HIF_SEQ.SEQ + 1) % 2 ^ 32
      ((s1.fset HIF_SEQ.SEQ seq).stage 3 0 (leBytes 4 seq ++ e)).respond op h.tag.toNat seq (resSt st)

/-! ## Doorbells and consumer indexes (R380, R381, R389) -/

/-- Set bits of HIF_ERR; those newly set raise HOST_ERROR (R390, R392). -/
def State.hostErr (s : State) (f : Fld) : State :=
  let was := s.fbit f
  let s1 := s.hifErr f
  if was then s1 else s1.event 0x01 0x03 1 (leBytes 4 (2 ^ f.lo))

/-- A write of HIF_CMD_PI (R381). -/
def State.doorbell (s : State) (v : Nat) : State :=
  let pi := v % 2 ^ 16
  let ahead := (pi + 2 ^ 16 - s.fget HIF_CMD_CI.IDX) % 2 ^ 16
  let held := (s.fget HIF_CMD_PI.PI + 2 ^ 16 - s.fget HIF_CMD_CI.IDX) % 2 ^ 16
  if !s.hif.ready then s.hostErr HIF_ERR.NOT_READY
  else if 64 < ahead ∨ ahead < held then s.hostErr HIF_ERR.DB_RANGE
  else s.fset HIF_CMD_PI.PI pi

/-- A write of a consumer index: backwards, or past PI, is ignored (R381). -/
def State.ciWrite (s : State) (pi ci : Fld) (v : Nat) : State :=
  let n := v % 2 ^ 16
  let fill := (s.fget pi + 2 ^ 16 - s.fget ci) % 2 ^ 16
  let left := (s.fget pi + 2 ^ 16 - n) % 2 ^ 16
  if fill < left then s.hostErr HIF_ERR.DB_RANGE
  else s.fset ci n

/-- HIF_RSP_CI. -/
def State.rspCi (s : State) (v : Nat) : State := s.ciWrite HIF_RSP_PI.IDX HIF_RSP_CI.CI v

/-- HIF_EVT_CI: when space returns, the first record is EVENTS_LOST with the number discarded (R389). -/
def State.evtCi (s : State) (v : Nat) : State :=
  let s1 := s.ciWrite HIF_EVT_PI.IDX HIF_EVT_CI.CI v
  if s1.hif.evtLost = 0 ∨ 1024 ≤ s1.evtFill then s1
  else
    let n := s1.hif.evtLost
    ({ s1 with hif := { s1.hif with evtLost := 0 } }).event 0x01 0x02 1 (leBytes 4 n)

end Sys2Proof.Machine
end

