-- ==== Sys2Proof/Machine/HostRegs.lean ====
section
/-!
DEFINITION. The host address space (R9, R15, R16, R373 to R379): register reads and writes with what follows from them,
rings, shared SRAM, the quad SPI port.
-/

namespace Sys2Proof.Machine

/-- The host reaches the registers: D1 runs in the native mode (R3, R372). -/
def State.hostOn (s : State) : Bool := s.clocked && !s.sys.yd

/-! ## Register reads (R16, R375) -/

/-- What a read of a register does: RC fields clear, high halves latch. -/
def State.readFx (s : State) (a : Nat) : State :=
  let s1 := match regRow a with
    | some r => if r.rc = 0 then s else s.setReg a (BitVec.ofNat 32 ((s.reg a).toNat &&& (2 ^ 32 - 1 - r.rc)))
    | none => s
  if a = aTIM_NOW_LO then s1.fset TIM_NOW_HI.NOW_HI (s.now / 2 ^ 32)
  else if a = aGNS_CLK_B_LO then s1.showB
  else if a = aDIA_REC_WP_LO then { s1 with dia := { s1.dia with recLatch := BitVec.ofNat 32 (s.recd.wp / 2 ^ 32) } }
  else if a = aPMU_VMON then s1.sysMod (fun y => { y with mvMin := setAt y.mvMin (s.fget PMU_VMON_SEL.RAIL) 0xFFFF })
  else if a = aPMU_CNT then { s1 with d0 := { s1.d0 with holdAbort := 0 } }
  else s1

/-- A host read of a whole register: the word goes out, then its side-effects. -/
def State.hostRd (s : State) (a : Nat) : State :=
  if !s.hostOn then s else (s.send .host (leBytes 4 (s.view a).toNat)).readFx a

/-- A host read of instance `n` of a register of `count` instances; past the last the address is reserved and reads zero. -/
def State.hostRdN (s : State) (a stride count n : Nat) : State :=
  if n < count then s.hostRd (a + stride * n) else if !s.hostOn then s else s.send .host (leBytes 4 0)

/-! ## Register writes (R16, R394) -/

/-- What follows a write of a time, context, network or GNSS register. -/
def State.writeFxA (s : State) (t n old : Nat) : State :=
  if t = aSCX_CFG then s.ctxSwitch n (wf old SCX_CFG.EN == 1)
  else if t = aTIM_INC_INT then s.incWrite (s.fget TIM_INC_INT.INT * 2 ^ 32 + s.fget TIM_INC_FRAC.FRAC)
  else if t = aTIM_SLEW then s.slewCap
  else if t = aTIM_DOM_CFG then s.domSwitched old
  else if t = aFUS_CFG then { s with fus := { s.fus with autoReadmit := s.fbit FUS_CFG.AUTO_READMIT } }
  else if t = aGNS_CFG then s.tpCheck
  else if t = aNET_PIER_GRP ∨ t = aNET_450_ADDR then (upTo 4).foldl State.igmpReports s
  else s

/-- What follows a write of a CAN, filter, logic, power or panel register; `v` is the word written, `old` the word before. -/
def State.writeFxB (s : State) (t n v old : Nat) : State :=
  if t = aCAN_CTRL then s.canSwitch n (wf old CAN_CTRL.INIT == 1)
  else if t = aCAN_TXBUF then s.txAbort n (wf v CAN_TXBUF.ABORT)
  else if t = aCAN_RXQ0_ACK then s.rxqAck n 0 (wf v CAN_RXQ0_ACK.N)
  else if t = aCAN_RXQ1_ACK then s.rxqAck n 1 (wf v CAN_RXQ0_ACK.N)
  else if t = aCAN_FLT_SEL then
    if wf v CAN_FLT_SEL.OP = 2 then s.filterWrite n (wf v CAN_FLT_SEL.INDEX)
    else if wf v CAN_FLT_SEL.OP = 1 then s.filterRead n (wf v CAN_FLT_SEL.INDEX) else s
  else if t = aSDF_CLK_CFG then s.clkSwitch n old
  else if t = aSDF_CH_THR_CFG then s.sdfEnables n
  else if t = aSDF_BANK_CTRL then
    let s1 := if wf v SDF_BANK_CTRL.OPEN = 1 then s.bankOpen (wf v SDF_BANK_CTRL.BANK) (wf v SDF_BANK_CTRL.ADDR) else s
    if wf v SDF_BANK_CTRL.COMMIT = 1 then s1.bankCommit else s1
  else if t = aSDF_BANK_DATA then s.bankData (BitVec.ofNat 32 v)
  else if t = aLOG_PT_SEL then s.ptCopy (wf v LOG_PT_SEL.INDEX)
  else if t = aPMU_CTRL then (if wf v PMU_CTRL.WAKE = 1 then s.harbourWake else s)
  else if t = aGNS_SNAP_STAT then (if wf v GNS_SNAP_STAT.RELEASE = 1 then s.snapRelease else s)
  else if 0xBC00 ≤ t ∧ t < 0xC000 then s.showPnl
  else s

/-- A write of a channel's configuration that is accepted when `ok`: EN starts and stops it, a new SRC while it runs switches its input (R338, R340, R345). -/
def State.sdfCfgWrite (s : State) (n v : Nat) (ok : Bool) : State :=
  let a := aSDF_CH_CFG + 0x20 * n
  if !ok then s
  else
    let en := bits v 31 1 == 1
    let src := bits v 26 2
    if (s.sdfCh n).isSome then
      let s1 := if en then s else s.sdfStop n
      if src = s.sch SDF_CH_CFG.SRC n ∨ src = 3 then s1
      else if en then s1.inputSwitch n src else s1.fset (fldAt SDF_CH_CFG.SRC n) src
    else
      let s1 := s.plainWrite a (putBits v 31 1 0)
      if en then s1.sdfStart n else s1

/-- A host write of a whole word to a register address (R15, R16): reserved addresses ignore it; a write that a configuration
object's field takes sets UNCOMMITTED (R394). -/
def State.regWrite (s : State) (a v : Nat) : State :=
  match regRow a with
  | none => s
  | some r =>
    let (t, n) := regTemplate a
    if t = aHIF_CMD_PI then s.doorbell v
    else if t = aHIF_RSP_CI then s.rspCi v
    else if t = aHIF_EVT_CI then s.evtCi v
    else
      let took := r.rw != 0 && s.writeOk a (v &&& r.rw) && s.heldByObj a
      let old := (s.reg a).toNat
      let s1 := if t = aSDF_CH_CFG then s.sdfCfgWrite n v (s.writeOk a (v &&& r.rw))
        else ((s.plainWrite a v).writeFxA t n old).writeFxB t n v old
      if took then { s1 with cfg := { s1.cfg with uncommitted := true } } else s1

/-- A host write of a whole register, through the host path. -/
def State.hostWr (s : State) (a v : Nat) : State := if s.hostOn then s.regWrite a (v % 2 ^ 32) else s

/-- A host write of instance `n` of a register of `count` instances. -/
def State.hostWrN (s : State) (a stride count n v : Nat) : State :=
  if n < count then s.hostWr (a + stride * n) v else s

/-! ## Shared SRAM (R9, R376) -/

/-- The memory cell behind an offset of shared SRAM; none where the spec gives no layout (R9). -/
def sramCell (o : Nat) : Option Nat :=
  if o < 0xC00000 then some (cell rgnPool o)
  else (fixedAreas.find? (fun x => decide (x.2.2.1 ≤ o) && decide (o < x.2.2.1 + x.2.2.2))).map
    (fun x => cell x.1 (x.2.1 + (o - x.2.2.1)))

/-- A byte of the staging region: behind its 16-byte header the staged entries in order; none where no layout is given (R474; DEDUCED,
log 277). -/
def State.stagedRd (s : State) (o : Nat) : Option Byte :=
  if 0xC00010 ≤ o ∧ o < 0xE00000 then ((s.recd.staged.flatMap (fun e => e.bytes)).drop s.recd.into)[o - 0xC00010]? else none

/-- A byte of shared SRAM as the host reads it: all ones in a word with an uncorrectable error; where no layout is given it is an open
value (R9, R376). -/
def State.sramRd (s : State) (o : Nat) : Byte :=
  if s.dia.poison.contains (0, o / 8) then 0xFF
  else match sramCell o with
    | some c => tabGet memDflt s.mem c
    | none => (s.stagedRd o).getD (BitVec.ofNat 8 (Config.freeWord (s.free + o)))

/-- Does a read of `n` bytes from an address up meet a word with an uncorrectable error (R376)? -/
def State.eccMet (s : State) (a n : Nat) : Bool :=
  s.dia.poison.any (fun w => w.1 == 0 && decide (a < 0x1000000 + 8 * w.2 + 8) && decide (0x1000000 + 8 * w.2 < a + n))

/-- A host write of bytes to shared SRAM: command pages take it, the rest is protected (R376). -/
def State.sramWr (s : State) (o : Nat) (bs : List Byte) : State :=
  let b := sramBase rgnXp
  if b ≤ o ∧ o + bs.length ≤ b + 0x40000 then s.wrB rgnXp (o - b) bs else s.hostErr HIF_ERR.WR_PROT

/-! ## Accesses at host addresses (R373 to R375) -/

/-- Bytes at an address of BAR0: rings byte for byte, registers a byte of the whole word. -/
def State.bar0Rd (s : State) (a : Nat) : Byte :=
  if 0x1000 ≤ a ∧ a < 0x5000 then s.rd8 (cell rgnCmd (a - 0x1000))
  else if 0x5000 ≤ a ∧ a < 0x9000 then s.rd8 (cell rgnRsp (a - 0x5000))
  else if (regRow (a / 4 * 4)).isNone then 0
  else BitVec.ofNat 8 ((s.view (a / 4 * 4)).toNat / 2 ^ (8 * (a % 4)))

/-- One byte of the host address space; what is not there reads zero. -/
def State.hostByte (s : State) (a : Nat) : Byte :=
  if a < 0x10000 then s.bar0Rd a
  else if 0x1000000 ≤ a ∧ a < 0x2000000 then s.sramRd (a - 0x1000000)
  else 0

/-- The read side-effects of an access that includes the lowest byte of a register (R375). -/
def State.rdFxAt (s : State) (a : Nat) : State :=
  if a % 4 = 0 ∧ (a < 0x1000 ∨ (0x9000 ≤ a ∧ a < 0x10000)) then s.readFx a else s

/-- Bytes from an address up, with the side-effects of each register read. -/
def State.hostBytes (s : State) (a : Nat) : Nat → State × List Byte
  | 0 => (s, [])
  | n + 1 =>
    let b := s.hostByte (a % 2 ^ 32)
    -- the rest of a word is read before its side-effects
    let last := (a + 1) % 4 = 0 ∨ n = 0
    let (s1, r) := (if last then s.rdFxAt (a / 4 * 4 % 2 ^ 32) else s).hostBytes (a + 1) n
    (s1, b :: r)

/-- A host write of up to 8 bytes at an address of the host address space (R373 to R376). -/
def State.hostStore (s : State) (a : Nat) (bs : List Byte) : State :=
  if a < 0x10000 then
    if 0x1000 ≤ a ∧ a < 0x5000 then
      if a + bs.length ≤ 0x5000 then s.wrB rgnCmd (a - 0x1000) bs
      else (s.wrB rgnCmd (a - 0x1000) (bs.take (0x5000 - a))).hostErr HIF_ERR.WR_PROT
    else if 0x5000 ≤ a ∧ a < 0x9000 then s.hostErr HIF_ERR.WR_PROT
    else if a % 4 = 0 ∧ bs.length = 4 then s.regWrite a (uAt 4 bs 0)
    else s.hostErr HIF_ERR.SIZE
  else if 0x1000000 ≤ a ∧ a < 0x2000000 then s.sramWr (a - 0x1000000) bs
  else s.hostErr HIF_ERR.HOLE

/-- Words written one after another from an address up. -/
def State.storeWords (s : State) (a : Nat) : List (List Byte) → State
  | [] => s
  | w :: ws => (s.hostStore (a % 2 ^ 32) w).storeWords (a + 4) ws

/-! ## Quad SPI (R378, R379) -/

/-- ERR of the status byte, and HIF_ERR.SPI (R398). -/
def State.spiFault (s : State) : State :=
  ({ s with hif := { s.hif with spiErr := true } }).hostErr HIF_ERR.SPI

/-- The host interrupt is asserted (R392): HOST_INT_N over SPI, INTA over PCIe where no MSI vector is granted. -/
def State.hostInt (s : State) : Bool := (s.reg aHIF_INT_STAT).toNat &&& (s.fget HIF_INT_EN.EN) != 0

/-- The SPI status byte (R379). -/
def State.spiStat (s : State) : Nat :=
  b2n s.hif.spiErr + 2 * b2n s.hostInt + 4 * b2n s.hif.quad + 8 * b2n s.hif.ready

/-- Whole words of a byte list. -/
def wordsOf : Nat → List Byte → List (List Byte)
  | 0, _ => []
  | n + 1, bs => bs.take 4 :: wordsOf n (bs.drop 4)

/-- A value from bytes, most significant first. -/
def msbFirst (bs : List Byte) : Nat := beNat bs

/-- READ of `n` bytes from an address: at most 4,096, from a word boundary. -/
def State.spiReadAt (s : State) (a n : Nat) : State :=
  if a % 4 ≠ 0 then s.spiFault
  else
    let (s1, bs) := s.hostBytes a (min n 4096)
    let s2 := s1.send .spi bs
    let s3 := if s.eccMet a (min n 4096) then ({ s2 with hif := { s2.hif with spiErr := true } }).hostErr HIF_ERR.ECC else s2
    if 4096 < n then s3.spiFault else s3

/-- WRITE of bytes from an address up: whole words; the rest of one is lost. -/
def State.spiWriteAt (s : State) (a : Nat) (bs : List Byte) : State :=
  if a % 4 ≠ 0 then s.spiFault
  else
    let take := bs.take 4096
    let s1 := s.storeWords a (wordsOf (take.length / 4) take)
    if 4096 < bs.length ∨ take.length % 4 ≠ 0 then s1.spiFault else s1

/-- A transaction whose instruction and bytes the port reads as given; `n` data bytes are clocked after a READ's dummy clocks. -/
def State.spiRun (s : State) (bs : List Byte) (n : Nat) : State :=
  let op := byteAt bs 0
  if op = 0x38 then { s with hif := { s.hif with quad := true } }
  else if op = 0xFF ∧ s.hif.quad then { s with hif := { s.hif with quad := false } }
  else if op = 0x05 then ({ s with hif := { s.hif with spiErr := false } }).send .spi (leBytes 1 s.spiStat)
  else if (op = 0x0B ∨ op = 0x02) ∧ 5 ≤ bs.length then
    let a := msbFirst ((bs.drop 1).take 4)
    if op = 0x0B then s.spiReadAt a n else s.spiWriteAt a (bs.drop 5)
  else s.spiFault

/-- The bytes a single-line port reads of bytes sent on four lines: IO0 at each clock, eight clocks a byte. -/
def quadAsSingle : Nat → List Byte → List Byte
  | 0, _ => []
  | n + 1, bs =>
    if bs.length < 4 then []
    else
      let b := (bs.take 4).foldl (fun m x => m * 4 + bits x.toNat 4 1 * 2 + bits x.toNat 0 1) 0
      BitVec.ofNat 8 b :: quadAsSingle n (bs.drop 4)

/-- A transaction as the host sends it, on four lines or one (R378): the port reads it with the lines of its own mode. In quad
mode a byte sent on one line reads with IO[3:1] pulled up. -/
def State.spiTrans (s : State) (quad : Bool) (bs : List Byte) (n : Nat) : State :=
  if !s.hostOn || !s.sys.hostSel then s
  else if quad == s.hif.quad then s.spiRun bs n
  else if s.hif.quad then
    if 192 ≤ byteAt bs 0 then s.spiRun [0xFF] 0 else s.spiFault
  else
    let got := quadAsSingle bs.length bs
    if got.isEmpty then s.spiFault else s.spiRun got 0

end Sys2Proof.Machine
end

