-- ==== Sys2Proof/Machine/Boundary.lean ====
section
/-!
DEFINITION. FRAME_BOUNDARY with what every chapter adds to it, PROGRAM_EXCHANGE, and what follows a change of a port's
link.
-/

namespace Sys2Proof.Machine

/-- SYSTEM_POINTS_WRITE at F(k): what `was`, the state at the end of frame k-1, shows (R351). -/
def State.sysPoints (s was : State) (k : Nat) : State :=
  let w (a lo n : Nat) : Nat := bits (was.view a).toNat lo n
  let vals : List Nat := [k % 2 ^ 32, roleCode was.role + 256 * opCode was.op, (was.view aCEX_FUNC).toNat,
    was.fus.last.flags % 2 ^ 16 + 2 ^ 16 * (was.fus.last.contrib % 2 ^ 16),
    was.fget SLV_AVAIL.THR, was.fget SLV_SECT.AVAIL + 2 ^ 16 * (w aSLV_STATUS 0 6 + 2 ^ 6 * w aSLV_STATUS 16 1),
    w aSAF_STATUS 12 12, w aRED_STATUS 10 6]
  (upTo 8).foldl (fun s n => s.ptWrite n (vals.getD n 0) 1 (s.fOf k)) s

/-- The configuration committed takes force, and the recorder keeps it (R395, R473). -/
def State.commitLoad (s : State) : State :=
  match s.cfg.load with
  | none => s
  | some objs =>
    let s1 := s.configLoad objs s.flash.imgs s.cfg.fresh
    s1.stage 11 0 s1.recConfig

/-- The DIA_ words in force from this boundary (R490). -/
def State.diaLoad (s : State) : State :=
  { s with diaF := s.regs.filter (fun p => decide (0xB800 ≤ p.1 ∧ p.1 < 0xBC00)) }

/-- Logic engines that return at this boundary (R360, R486). -/
def State.lesReturn (s : State) (es : List Nat) : State :=
  ((es.filter (fun e => e == 11 || e == 12)).foldl (fun s e => s.leReturned (e - 11)) s)

/-- The RTC is set from TIME_NS at each whole second while the servo is LOCKED (R467). -/
def State.rtcSet (s : State) : State :=
  if s.servo == svLocked && s.fNow % 1000000000 == 0 then
    { s with sys := { s.sys with rtc := s.now / 8, rtcValid := true } }
  else s

/-- The work of a boundary that belongs to a unit with the network in use. A planned transfer or handback has run when the LEASE of the
frame goes out (R190, R200, R205). -/
def State.boundaryNet (s : State) : State :=
  if s.netOn then
    let s1 := if s.runs then s.transferExec.handback else s
    ((s1.leaseSend s1.time.frame).imgCapture).readyReq
  else s

/-- The boundary of a new frame in Glarvex mode. `meas` is what the tracking channels measure at it. -/
def State.boundaryRun (s : State) (meas : List GnssMeas) : State :=
  let back := s.cex.returning
  let oldP := s.time.period
  let steps := s.time.steps
  let k0 := s.now / s.pNs
  let s1 := (s.takeGroups (s.fOf k0)).commitLoad
  let s2 := (s1.diaLoad.recApply.frameTurn).lesReturn back
  let s3 := if s2.time.steps ≠ steps then s2.tpStepped else s2
  let s4 := (s3.rtcSet.safBoundary.canCapture).sdfBoundary oldP
  let s5 := if s4.time.period ≠ oldP then s4.lgcPeriod else s4
  let s6 := (s5.gnssLatch meas).snapStart
  let s7 := (s6.sysPoints s s6.time.frame).boundaryNet
  s7.pump

/-- The frame number in YD-22 mode, where the period is fixed at 20 ms (R414). -/
def State.boundaryYd (s : State) : State :=
  let k := s.now / s.pNs
  if k ≤ s.time.frame then s
  else (s.timeMod (fun t => { t with frame := k, inFrame := true })).canCapture

/-- FRAME_BOUNDARY at the first CLK_TS edge with TIME_NS at or past k × P (R23). -/
def State.boundary (s : State) (meas : List GnssMeas) : State :=
  if s.ydOn then s.boundaryYd
  else if s.boundDue then s.boundaryRun meas
  else s

/-! ## Events tied to a boundary -/

/-- Is this CLK_TS edge the one of the boundary of the frame in progress? -/
def State.atBound (s : State) : Bool :=
  s.time.inFrame && decide (s.now * 2 ^ 32 + s.time.frac.toNat < s.fNow * 2 ^ 32 + s.time.inc.toNat)

/-- PROGRAM_EXCHANGE at a boundary at which no cycle runs: the LOG_EXCHANGE that waits completes (R368). -/
def State.programExchange (s : State) : State :=
  match s.hif.taken.find? (fun t => t.op == 0x0603 && t.begun) with
  | none => s
  | some t =>
    if !s.atBound || s.lgcBusy || !s.lgcOn then s
    else
      let s1 := s.lgcExchange s.fNow
      (s1.finish t (if s1.fget LOG_STATUS.ERR ≠ 0 then resSt 0x3105 else resOk)).pump

/-- PORT_LINK_CHANGE; `errs` receive errors were counted in the second that has ended (R297, R484). A retired port that
was readmitted clears its alarm when its link comes up (R486). -/
def State.portChange (s : State) (n : Nat) (up fast : Bool) (errs : Nat) : State :=
  let s1 := s.linkChange n up fast
  if 4 ≤ n then (if 6 ≤ n ∨ !s.netOn then s1 else s1.fcount (fldAt NET_PORT_STAT.RX_ERR n) errs)
  else if !s.ethOn n then s1
  else
    let s2 := if up && s1.hasAlarm 0x0F 0x02 (fltKey 1 n) && !s1.retired 1 n then s1.retCleared 1 n else s1
    let s3 := s2.fcount (fldAt NET_PORT_STAT.RX_ERR n) errs
    if errs ≤ 100 then s3
    else
      let (s4, ret) := s3.fltErr 1 n
      if ret then s4.fup (fldAt NET_PORT_STAT.RETIRED n) else s4

end Sys2Proof.Machine
end

