-- ==== Sys2Proof/Machine/Exec.lean ====
section
/-!
DEFINITION. The forms the meanings share: a command that happens at an instant, the register word a host composes, and
the few meanings that join operations of several chapters.
-/

namespace Sys2Proof.Machine

/-- A command that happens `dt` CLK_TS edges after the one before it: time advances, then the effect, if its operands
name something (`ok`) and CLK_TS runs. -/
def State.timed (s : State) (dt : Nat) (ok : Bool) (f : State → State) : State :=
  let s1 := s.advance dt
  if ok && s1.clocked then f s1 else s1

/-- As `timed`, for what exists in the native mode only (R3, R413). -/
def State.native (s : State) (dt : Nat) (ok : Bool) (f : State → State) : State :=
  s.timed dt (ok && !s.sys.yd) f

/-- The RW bits of a register as they stand: what a host writes back when it changes one field. -/
def State.heldWord (s : State) (a : Nat) : Nat :=
  match regRow a with | some r => (s.reg a).toNat &&& r.rw | none => 0

/-- DISPATCH of the frame in progress, within its window (R28, R161). -/
def State.dispatch (s : State) : State :=
  match s.allocOf s.time.frame with
  | some a => if s.dispatchDue a then s.dispatchRun a else s
  | none => s

/-- Both SAFE_RST inputs are energised now (R236). -/
def State.rstPress (s : State) : State := s.estopChange (s.fget SAF_ESTOP.LEVEL_A) (s.fget SAF_ESTOP.LEVEL_B) true true

/-- Both SAFE_RST inputs are released now, and the press is judged (R236). -/
def State.rstLetGo (s : State) : State :=
  (s.estopChange (s.fget SAF_ESTOP.LEVEL_A) (s.fget SAF_ESTOP.LEVEL_B) false false).rstRelease

/-- DIP_RECOVERY: when the dip ends, what it delayed goes on: held writes, a power state asked for, commands (R445, R451). -/
def State.dipBack (s : State) (rail mv low : Nat) : State :=
  let s1 := s.railBack rail mv low
  if s.inDip && !s1.inDip then s1.pwrPending.pump else s1

/-- The bytes of a WRITE of one YD-22 register: opcode, address, high byte, low byte (R417). -/
def ydWriteBytes (addr v : Nat) : List Byte :=
  [0x02, BitVec.ofNat 8 addr, BitVec.ofNat 8 (v / 256), BitVec.ofNat 8 v]

end Sys2Proof.Machine
end

