-- ==== Sys2Proof/Machine/ExecCmdA.lean ====
section
/-!
DEFINITION. Meanings of the commands: host commands of the system, configuration and DP groups (R399 to R408).
-/

namespace Sys2Proof.Machine

/-- GET_INFO (R408). Command 0x0101 returns the device identity, operating state, role, CFG_HASH, PROG_ID, serial and firmware
data. -/
def execGetInfo (h : HCmd) (s : State) : Host.Outcome State Fault Refusal := .next (s.hostCmd 0x0101 h)

/-- ENTER_CONFIG (R408). Command 0x0102 moves the unit into the CONFIG operating state with role NONE, where its state permits.
-/
def execEnterConfig (h : HCmd) (s : State) : Host.Outcome State Fault Refusal := .next (s.hostCmd 0x0102 h)

/-- LEAVE_CONFIG (R408). Command 0x0103 leaves CONFIG for READY and closes open sessions, unless uncommitted values exist or too
few engines are in service. -/
def execLeaveConfig (h : HCmd) (s : State) : Host.Outcome State Fault Refusal := .next (s.hostCmd 0x0103 h)

/-- RESET (R408). Command 0x0104 writes its response and then requests an SRST or a DRST of the named domain. -/
def execReset (h : HCmd) (s : State) : Host.Outcome State Fault Refusal := .next (s.hostCmd 0x0104 h)

/-- SET_RTC (R408). Command 0x0105 sets the D0 RTC in CONFIG and leaves TIME_NS unchanged. -/
def execSetRtc (h : HCmd) (s : State) : Host.Outcome State Fault Refusal := .next (s.hostCmd 0x0105 h)

/-- CFG_OPEN (R393). Command 0x0201 opens a configuration session in CONFIG and returns a new random session id. -/
def execCfgOpen (h : HCmd) (s : State) : Host.Outcome State Fault Refusal := .next (s.hostCmd 0x0201 h)

/-- CFG_ABORT (R408). Command 0x0202 closes the configuration session and discards everything staged in it. -/
def execCfgAbort (h : HCmd) (s : State) : Host.Outcome State Fault Refusal := .next (s.hostCmd 0x0202 h)

/-- OBJ_STAGE (R406). Command 0x0203 checks one configuration object from the page and stages it, replacing any staged copy. -/
def execObjStage (h : HCmd) (s : State) : Host.Outcome State Fault Refusal := .next (s.hostCmd 0x0203 h)

/-- OBJ_READ (R408). Command 0x0204 returns an object, in force or staged, in the response page. -/
def execObjRead (h : HCmd) (s : State) : Host.Outcome State Fault Refusal := .next (s.hostCmd 0x0204 h)

/-- OBJ_UNSTAGE (R408). Command 0x0205 removes the staged copy of an object. -/
def execObjUnstage (h : HCmd) (s : State) : Host.Outcome State Fault Refusal := .next (s.hostCmd 0x0205 h)

/-- CFG_COMMIT (R395). Command 0x0206 checks the staged configuration as a whole, writes it to the inactive flash copy, makes it
current and loads it at the next frame boundary. -/
def execCfgCommit (h : HCmd) (s : State) : Host.Outcome State Fault Refusal := .next (s.hostCmd 0x0206 h)

/-- CFG_REVERT (R394). Command 0x0207 reloads every register field from the objects in force and clears UNCOMMITTED. -/
def execCfgRevert (h : HCmd) (s : State) : Host.Outcome State Fault Refusal := .next (s.hostCmd 0x0207 h)

/-- IMG_BEGIN (R407). Command 0x0208 opens an image transfer of a given kind, slot and total size, checking pool space for logic
images. -/
def execImgBegin (h : HCmd) (s : State) : Host.Outcome State Fault Refusal := .next (s.hostCmd 0x0208 h)

/-- IMG_APPEND (R407). Command 0x0209 adds the next page of bytes to the open image transfer at the expected offset. -/
def execImgAppend (h : HCmd) (s : State) : Host.Outcome State Fault Refusal := .next (s.hostCmd 0x0209 h)

/-- IMG_END (R407). Command 0x020A closes the transfer, checks the image by its kind and stages, loads or writes it to flash. -/
def execImgEnd (h : HCmd) (s : State) : Host.Outcome State Fault Refusal := .next (s.hostCmd 0x020A h)

/-- IMG_CANCEL (R407). Command 0x020B cancels the open image transfer. -/
def execImgCancel (h : HCmd) (s : State) : Host.Outcome State Fault Refusal := .next (s.hostCmd 0x020B h)

/-- ALIGN_COMMIT (R64). Command 0x020C, listed in the manifest, makes the refined alignment of a reference its surveyed values
and re-centres the box. -/
def execAlignCommit (h : HCmd) (s : State) : Host.Outcome State Fault Refusal := .next (s.hostCmd 0x020C h)

/-- ALIGN_REVERT (R64). Command 0x020D, listed in the manifest, restores the surveyed alignment values of a reference. -/
def execAlignRevert (h : HCmd) (s : State) : Host.Outcome State Fault Refusal := .next (s.hostCmd 0x020D h)

/-- OVERLAY_COMMIT (R364). Command 0x020E stores the on-line logic overlay in the configuration in flash. -/
def execOverlayCommit (h : HCmd) (s : State) : Host.Outcome State Fault Refusal := .next (s.hostCmd 0x020E h)

/-- SET_FUNCTION (R116). Command 0x0301 is listed and, in its frame, changes the DP function with capture if the preconditions
hold. -/
def execSetFunction (h : HCmd) (s : State) : Host.Outcome State Fault Refusal := .next (s.hostCmd 0x0301 h)

/-- SET_POSITION (R119). Command 0x0302 is listed and sets new position and heading targets of the automatic generators. -/
def execSetPosition (h : HCmd) (s : State) : Host.Outcome State Fault Refusal := .next (s.hostCmd 0x0302 h)

/-- SET_SPEED (R114). Command 0x0303 is listed and sets the body-frame speed set-points in AUTO_HEADING. -/
def execSetSpeed (h : HCmd) (s : State) : Host.Outcome State Fault Refusal := .next (s.hostCmd 0x0303 h)

/-- SET_LIMITS (R119). Command 0x0304 is listed and sets the linear and heading VMAX, AMAX and JMAX limits. -/
def execSetLimits (h : HCmd) (s : State) : Host.Outcome State Fault Refusal := .next (s.hostCmd 0x0304 h)

/-- TRACK_LOAD (R123). Command 0x0305 is listed and replaces the track unless TRACK is in force. -/
def execTrackLoad (h : HCmd) (s : State) : Host.Outcome State Fault Refusal := .next (s.hostCmd 0x0305 h)

/-- TRACK_APPEND (R125). Command 0x0306 is listed and appends waypoints after the last one, up to 64. -/
def execTrackAppend (h : HCmd) (s : State) : Host.Outcome State Fault Refusal := .next (s.hostCmd 0x0306 h)

/-- SET_ORIGIN (R409). Command 0x0307 is listed and moves the working origin, shifting every held position and recomputing kN
and kE. -/
def execSetOrigin (h : HCmd) (s : State) : Host.Outcome State Fault Refusal := .next (s.hostCmd 0x0307 h)

/-- SCEN_ENABLE (R162). Command 0x0308 is listed and enables or disables scenario slots at the snapshot. -/
def execScenEnable (h : HCmd) (s : State) : Host.Outcome State Fault Refusal := .next (s.hostCmd 0x0308 h)

/-- THR_EXCLUDE (R163). Command 0x0309 is listed and excludes thrusters from availability at the snapshot. -/
def execThrExclude (h : HCmd) (s : State) : Host.Outcome State Fault Refusal := .next (s.hostCmd 0x0309 h)

/-- REF_READMIT (R83). Command 0x030A is listed and re-admits a REJECTED reference at the following frame. -/
def execRefReadmit (h : HCmd) (s : State) : Host.Outcome State Fault Refusal := .next (s.hostCmd 0x030A h)

/-- SET_AUTOREADMIT (R93). Command 0x030B is listed and changes FUS_CFG.AUTO_READMIT in force at the following frame. -/
def execSetAutoreadmit (h : HCmd) (s : State) : Host.Outcome State Fault Refusal := .next (s.hostCmd 0x030B h)

end Sys2Proof.Machine
end

