-- ==== Sys2Proof/Machine/ExecCmdB.lean ====
section
/-!
DEFINITION. Meanings of the commands: host commands of the other groups (R400 to R412).
-/

namespace Sys2Proof.Machine

/-- KEY_CLAIM (R192). Command 0x0401 makes the unit keystone holder as ACTIVE or SOLO with a new epoch, when no holder lease has
been heard. -/
def execKeyClaim (h : HCmd) (s : State) : Host.Outcome State Fault Refusal := .next (s.hostCmd 0x0401 h)

/-- KEY_TRANSFER (R200). Command 0x0402 announces a planned transfer of the keystone to a qualified standby at a frame ahead. -/
def execKeyTransfer (h : HCmd) (s : State) : Host.Outcome State Fault Refusal := .next (s.hostCmd 0x0402 h)

/-- KEY_RELINQUISH (R199). Command 0x0403 makes the holder declare failure with reason COMMAND and become READY. -/
def execKeyRelinquish (h : HCmd) (s : State) : Host.Outcome State Fault Refusal := .next (s.hostCmd 0x0403 h)

/-- RESYNC (R206). Command 0x0404 sets RESYNC_REQ to ask the holder for a state image. -/
def execResync (h : HCmd) (s : State) : Host.Outcome State Fault Refusal := .next (s.hostCmd 0x0404 h)

/-- DISAGREE_CLEAR (R189). Command 0x0405 clears the DISAGREE alarm. -/
def execDisagreeClear (h : HCmd) (s : State) : Host.Outcome State Fault Refusal := .next (s.hostCmd 0x0405 h)

/-- SAF_OPEN (R240). Command 0x0501 verifies the password under the lockout rules and opens a safety session. -/
def execSafOpen (h : HCmd) (s : State) : Host.Outcome State Fault Refusal := .next (s.hostCmd 0x0501 h)

/-- SAF_CLOSE (R408). Command 0x0502 closes the safety session and discards the staged safety objects. -/
def execSafClose (h : HCmd) (s : State) : Host.Outcome State Fault Refusal := .next (s.hostCmd 0x0502 h)

/-- SAF_PASSWORD (R238). Command 0x0503 sets the first password or changes it given the old one, logging the change. -/
def execSafPassword (h : HCmd) (s : State) : Host.Outcome State Fault Refusal := .next (s.hostCmd 0x0503 h)

/-- SAF_COMMIT (R240). Command 0x0504 hashes the new safety configuration in SA and SB and, if equal, logs it and puts it in
force at the next boundary. -/
def execSafCommit (h : HCmd) (s : State) : Host.Outcome State Fault Refusal := .next (s.hostCmd 0x0504 h)

/-- SAF_ACK (R235). Command 0x0505 acknowledges tripped groups with their causes and makes them ARMED for ACK_WIN. -/
def execSafAck (h : HCmd) (s : State) : Host.Outcome State Fault Refusal := .next (s.hostCmd 0x0505 h)

/-- SAF_RESET (R236). Command 0x0506, with RST_SRC = 1, clears the latches of ARMED groups. -/
def execSafReset (h : HCmd) (s : State) : Host.Outcome State Fault Refusal := .next (s.hostCmd 0x0506 h)

/-- SAF_TRIP (R232). Command 0x0507 makes a HOST trip of the named groups of this unit. -/
def execSafTrip (h : HCmd) (s : State) : Host.Outcome State Fault Refusal := .next (s.hostCmd 0x0507 h)

/-- LOG_START (R363). Command 0x0601 starts a STOPPED or FAULT logic program from the next frame boundary. -/
def execLogStart (h : HCmd) (s : State) : Host.Outcome State Fault Refusal := .next (s.hostCmd 0x0601 h)

/-- LOG_STOP (R363). Command 0x0602 stops a running logic program at each task's next boundary after publication. -/
def execLogStop (h : HCmd) (s : State) : Host.Outcome State Fault Refusal := .next (s.hostCmd 0x0602 h)

/-- LOG_EXCHANGE (R368). Command 0x0603 on a qualified standby requests exchange of the running program for the pending image.
-/
def execLogExchange (h : HCmd) (s : State) : Host.Outcome State Fault Refusal := .next (s.hostCmd 0x0603 h)

/-- LOG_CHANGE (R364). Command 0x0604 is listed and applies an on-line change group to one task at its cycle start. -/
def execLogChange (h : HCmd) (s : State) : Host.Outcome State Fault Refusal := .next (s.hostCmd 0x0604 h)

/-- PT_WRITE (R350). Command 0x0605 writes a HOST-class point with its value, quality and the present TIME_NS. -/
def execPtWrite (h : HCmd) (s : State) : Host.Outcome State Fault Refusal := .next (s.hostCmd 0x0605 h)

/-- GNS_SNAP (R265). Command 0x0701 triggers a GNSS IF snapshot capture from the next frame boundary. -/
def execGnsSnap (h : HCmd) (s : State) : Host.Outcome State Fault Refusal := .next (s.hostCmd 0x0701 h)

/-- GNS_FORGET (R408). Command 0x0702 discards the almanac, ephemerides or last position. -/
def execGnsForget (h : HCmd) (s : State) : Host.Outcome State Fault Refusal := .next (s.hostCmd 0x0702 h)

/-- CAN_SEND (R313). Command 0x0801 submits a frame to a controller's firmware transmit queue. -/
def execCanSend (h : HCmd) (s : State) : Host.Outcome State Fault Refusal := .next (s.hostCmd 0x0801 h)

/-- UART_SEND (R317). Command 0x0802 sends bytes out of a UART transmit ball. -/
def execUartSend (h : HCmd) (s : State) : Host.Outcome State Fault Refusal := .next (s.hostCmd 0x0802 h)

/-- SDF_START (R340). Command 0x0901 starts all channels of a mask on the same modulator edge, or none if one would be refused.
-/
def execSdfStart (h : HCmd) (s : State) : Host.Outcome State Fault Refusal := .next (s.hostCmd 0x0901 h)

/-- SDF_STOP (R340). Command 0x0902 stops the filter channels of a mask. -/
def execSdfStop (h : HCmd) (s : State) : Host.Outcome State Fault Refusal := .next (s.hostCmd 0x0902 h)

/-- PNL_UPDATE (R494). Command 0x0A01 requests new levels for a pod, starting, queuing or replacing a queued request. -/
def execPnlUpdate (h : HCmd) (s : State) : Host.Outcome State Fault Refusal := .next (s.hostCmd 0x0A01 h)

/-- PNL_RESUME (R502). Command 0x0A02 clears CRACK, takes a new reference resistance and lets pending panel work proceed. -/
def execPnlResume (h : HCmd) (s : State) : Host.Outcome State Fault Refusal := .next (s.hostCmd 0x0A02 h)

/-- HARVEST (R468). Command 0x0B01 is a local harvest trigger with the given ID. -/
def execHarvest (h : HCmd) (s : State) : Host.Outcome State Fault Refusal := .next (s.hostCmd 0x0B01 h)

/-- REC_CTRL (R477). Command 0x0B02 selects the recorder sink, taking effect at the next frame boundary. -/
def execRecCtrl (h : HCmd) (s : State) : Host.Outcome State Fault Refusal := .next (s.hostCmd 0x0B02 h)

/-- REC_READ (R411). Command 0x0B03 returns bytes of the recorder ring in the response page. -/
def execRecRead (h : HCmd) (s : State) : Host.Outcome State Fault Refusal := .next (s.hostCmd 0x0B03 h)

/-- LEDGER_READ (R411). Command 0x0B04 returns bytes of the D0 ledger in the response page. -/
def execLedgerRead (h : HCmd) (s : State) : Host.Outcome State Fault Refusal := .next (s.hostCmd 0x0B04 h)

/-- READMIT (R486). Command 0x0B05 re-admits a retired channel of a class, resetting its bucket level. -/
def execReadmit (h : HCmd) (s : State) : Host.Outcome State Fault Refusal := .next (s.hostCmd 0x0B05 h)

/-- REPLAY_ENTER (R479). Command 0x0B06 puts the unit into REPLAY from host or flash source at a start instant. -/
def execReplayEnter (h : HCmd) (s : State) : Host.Outcome State Fault Refusal := .next (s.hostCmd 0x0B06 h)

/-- REPLAY_FEED (R482). Command 0x0B07 delivers one recorder block to the replay buffer, completing when there is room. -/
def execReplayFeed (h : HCmd) (s : State) : Host.Outcome State Fault Refusal := .next (s.hostCmd 0x0B07 h)

/-- REPLAY_EXIT (R483). Command 0x0B08 discards the replay area, reloads the configuration and returns to CONFIG. -/
def execReplayExit (h : HCmd) (s : State) : Host.Outcome State Fault Refusal := .next (s.hostCmd 0x0B08 h)

/-- PWR_STATE (R451). Command 0x0C01 moves the unit into HIBERNATE, SLEEP or HARBOUR after closing sessions and flushing. -/
def execPwrState (h : HCmd) (s : State) : Host.Outcome State Fault Refusal := .next (s.hostCmd 0x0C01 h)

end Sys2Proof.Machine
end

