-- ==== Sys2Proof/Machine/ExecDiag.lean ====
section
/-!
DEFINITION. Meanings of the commands: sessions, faults, harvest, recorder and replay (R393, R468 to R490).
-/

namespace Sys2Proof.Machine

/-- CFG_SESSION_TIMEOUT (R393). A configuration session closes after 600 s with no command naming it. -/
def execCfgSessionTimeout (dt : Nat) (s : State) : Host.Outcome State Fault Refusal := .next (s.native dt true (fun s => s.cfgTimeout.pump))

/-- TRANSFER_TIMEOUT (R407). An image transfer with no IMG_APPEND for 60 s is cancelled. -/
def execTransferTimeout (dt : Nat) (s : State) : Host.Outcome State Fault Refusal := .next (s.native dt true (fun s => s.imgTimeout.pump))

/-- ENGINE_HARD_ERROR (R484). A hard error retires an engine at once and its work moves or the unit degrades. -/
def execEngineHardError (dt : Nat) (e : Nat) (hard : Bool) (s : State) : Host.Outcome State Fault Refusal :=
  .next (s.timed dt (e < 16) (State.engError · e hard))

/-- ECC_UNCORRECTABLE (R485). An uncorrectable ECC error is handled according to its region. -/
def execEccUncorrectable (dt : Nat) (region : Nat) (idx : Nat) (s : State) : Host.Outcome State Fault Refusal :=
  .next (s.timed dt true (State.eccBad · region idx))

/-- LEAK_TICK (R484). At each LEAK_T multiple reached by ticking the fault bucket level of each channel falls by one. -/
def execLeakTick (dt : Nat) (s : State) : Host.Outcome State Fault Refusal := .next (s.timed dt true State.leakTick)

/-- HARVEST_IN (R468). A HARVEST_IN rising pulse of at least 100 ns is a local harvest trigger. -/
def execHarvestIn (dt : Nat) (s : State) : Host.Outcome State Fault Refusal := .next (s.native dt true State.harvestIn)

/-- HARVEST_LATCH (R469). At the first CLK_TS edge at or after AT every block latches its snapshot and the harvest record is
written. -/
def execHarvestLatch (dt : Nat) (s : State) : Host.Outcome State Fault Refusal := .next (s.native dt true State.harvestLatch)

/-- LEDGER_COMMIT (R488). A queued ledger request is committed, writing the entry and then the header. -/
def execLedgerCommit (dt : Nat) (s : State) : Host.Outcome State Fault Refusal := .next (s.timed dt true State.ledgerCommit)

/-- REC_BLOCK_WRITE (R475). A 4,096-byte recorder block is written from staging to the flash ring. -/
def execRecBlockWrite (dt : Nat) (s : State) : Host.Outcome State Fault Refusal := .next (s.native dt true State.recBlockWrite)

/-- REC_BLOCK_SEND (R476). A recorder block is sent as four UDP datagrams to the Ethernet sink. -/
def execRecBlockSend (dt : Nat) (s : State) : Host.Outcome State Fault Refusal := .next (s.native dt true State.recBlockSend)

/-- REC_CHECKPOINT (R473). Every CKPT_INT a CHECKPOINT entry is staged for the recorder. -/
def execRecCheckpoint (dt : Nat) (s : State) : Host.Outcome State Fault Refusal := .next (s.native dt true State.recCheckpoint)

/-- REPLAY_FRAME (R481). One recorded frame is replayed and its records and outputs compared bit for bit. -/
def execReplayFrame (dt : Nat) (s : State) : Host.Outcome State Fault Refusal :=
  .next (s.native dt true (fun s => s.replayFrame.pump))

end Sys2Proof.Machine
end

