-- ==== Sys2Proof/Machine/ExecFrame.lean ====
section
/-!
DEFINITION. Meanings of the commands: the frame: boundary, phases, solves, dispatch, retrodiction (R23 to R52, R133 to R171).
-/

namespace Sys2Proof.Machine

/-- FRAME_BOUNDARY (R23). At the first CLK_TS edge with TIME_NS at or past k × P, frame k begins and boundary-timed work runs.
-/
def execFrameBoundary (dt : Nat) (meas : List GnssMeas) (s : State) : Host.Outcome State Fault Refusal :=
  .next (s.timed dt true (fun s => (s.boundary meas).poisonSlv))

/-- SLEW_END (R22). A slew ends when exactly S ns have been added or removed, clearing SLEWING. -/
def execSlewEnd (dt : Nat) (s : State) : Host.Outcome State Fault Refusal := .next (s.native dt true State.slewEnd)

/-- CUTOFF (R42). At CUTOFF of frame k contexts form their values, the snapshot is taken, the profile generator steps and the
holder seals and sends its manifest. -/
def execCutoff (dt : Nat) (s : State) : Host.Outcome State Fault Refusal :=
  .next (s.native dt true (fun s => if s.cutDue then s.cutoffRun else s))

/-- FUSION_PHASE (R82). Fusion aligns and encodes the references, decides conflicts on the support grid and forms the fix and
the output record. -/
def execFusionPhase (dt : Nat) (s : State) : Host.Outcome State Fault Refusal := .next (s.native dt true (fun s => s.poisonFus.fusionPhase))

/-- OBSERVER_COMMIT (R103). The observer corrects its prediction with the fix, commits the state, applies listed function
commands and propagates to the next boundary. -/
def execObserverCommit (dt : Nat) (s : State) : Host.Outcome State Fault Refusal := .next (s.native dt true State.observerPhase)

/-- CONTROL_LAW (R108). Gain scheduling and the PID or MPC law form the clamped force demand handed to allocation, and the
control record is written. -/
def execControlLaw (dt : Nat) (s : State) : Host.Outcome State Fault Refusal := .next (s.native dt true State.controlPhase)

/-- ALLOCATION_PHASE (R136). At F(k)+0.42 P the solver engines form iterate 0 of S0 and take the enabled allocation slots in
order. -/
def execAllocationPhase (dt : Nat) (s : State) : Host.Outcome State Fault Refusal := .next (s.native dt true (fun s => s.allocationPhase.poisonSlv))

/-- SLOT_RETURN (R139). A solve of an allocation slot stops by convergence, the iteration cap or overflow and returns its result
and status word. -/
def execSlotReturn (dt : Nat) (slot : Nat) (s : State) : Host.Outcome State Fault Refusal :=
  .next (s.native dt true (State.slotReturn · slot))

/-- SOLVE_DEADLINE (R143). At the first check point with TIME_NS at or past DEADLINE the solve ends with its committed iterate
or the fallback. -/
def execSolveDeadline (dt : Nat) (slot : Nat) (n : Option Nat) (fact : Bool) (s : State) : Host.Outcome State Fault Refusal :=
  .next (s.native dt true (State.slotDeadline · slot n fact))

/-- MPC_SOLVE_STOP (R150). An MPC or scenario MPC solve stops under the convergence, overflow or deadline rules. -/
def execMpcSolveStop (dt : Nat) (which : Nat) (cut : Bool) (n : Option Nat) (fact : Bool) (s : State) :
    Host.Outcome State Fault Refusal :=
  .next (s.native dt true (State.mpcStop · which cut n fact))

/-- MPC_COMMIT (R150). At the next CUTOFF or F(k0+M) after its stop the MPC result commits and the warm-start halves exchange.
-/
def execMpcCommit (dt : Nat) (s : State) : Host.Outcome State Fault Refusal := .next (s.native dt true State.mpcCommit)

/-- SCENARIO_MPC_DONE (R169). A scenario MPC returns and the capability margin of its slot is updated, raising CAP_LOW where
low. -/
def execScenarioMpcDone (dt : Nat) (s : State) : Host.Outcome State Fault Refusal := .next (s.native dt true State.scenDone)

/-- CROSS_CHECK (R226). In the cross-check window each safety channel checks SF3 plausibility of the slots and evaluates SF2,
writing its comparison word. -/
def execCrossCheck (dt : Nat) (chans : Nat) (s : State) : Host.Outcome State Fault Refusal :=
  .next (s.native dt true (State.crossCheck · chans))

/-- SF5_COMPARE (R230). At F(k)+0.70 P each channel compares the two comparison words, passing the slots both passed or counting
a mismatch. -/
def execSf5Compare (dt : Nat) (bad : Nat) (s : State) : Host.Outcome State Fault Refusal :=
  .next (s.native dt true (State.sf5Compare · bad))

/-- DISPATCH (R161). The trestle sends the COMMAND PDUs of the passed slot with apply-at F(k+1) plus each actuator offset. -/
def execDispatch (dt : Nat) (s : State) : Host.Outcome State Fault Refusal := .next (s.native dt true State.dispatch)

/-- PHASE_LATE (R29). A phase that has not finished by the end of its window is cut off with its late outcome and flag. -/
def execPhaseLate (dt : Nat) (ph : Nat) (s : State) : Host.Outcome State Fault Refusal := .next (s.native dt true (State.phaseLate · ph))

/-- SF4_CHECK (R228). At F(j)+0.80 P the channels count a frame without dispatch and trip the unit after three. -/
def execSf4Check (dt : Nat) (s : State) : Host.Outcome State Fault Refusal := .next (s.native dt true State.sf4Check)

/-- RETRO_SUPPLEMENT_SEND (R177). At F(k)+0.80 P the holder sends the retro supplement listing samples retrodicted in the slack.
-/
def execRetroSupplementSend (dt : Nat) (s : State) : Host.Outcome State Fault Refusal := .next (s.native dt true State.retroSupp)

/-- CONTROLLER_STATUS_SEND (R292). The unit sends its CONTROLLER STATUS PDU for the frame between 0.80 P and 0.85 P. -/
def execControllerStatusSend (dt : Nat) (s : State) : Host.Outcome State Fault Refusal := .next (s.native dt true State.ctrlStatusSend)

/-- RETRO_PASS (R49). In the slack a single pass re-runs value formation, fusion and the observer from the earliest affected
checkpoint. -/
def execRetroPass (dt : Nat) (s : State) : Host.Outcome State Fault Refusal := .next (s.native dt true State.retroStart)

/-- RETRO_PASS_DONE (R50). A retrodiction pass that finishes by F(k+1) replaces the checkpoints and the observer's next starting
state. -/
def execRetroPassDone (dt : Nat) (s : State) : Host.Outcome State Fault Refusal := .next (s.native dt true State.retroDone)

/-- RETRO_ABORT (R51). A retrodiction pass unfinished at F(k+1) is abandoned, leaving the checkpoints unchanged. -/
def execRetroAbort (dt : Nat) (s : State) : Host.Outcome State Fault Refusal :=
  .next (s.native dt true (fun s => if decide (s.fOf (s.time.frame + 1) ≤ s.now) then s.retroAbort else s))

/-- ENGINE_TEST_SLICE (R211). One engine per frame runs its test slice in the slack and is retired on a signature mismatch. -/
def execEngineTestSlice (dt : Nat) (pass : Bool) (s : State) : Host.Outcome State Fault Refusal :=
  .next (s.timed dt true (State.testSlice · pass))

/-- ALLOC_RECORD_WRITE (R170). At F(k+1)+0.80 P the allocation record of frame k is written to its ring. -/
def execAllocRecordWrite (dt : Nat) (s : State) : Host.Outcome State Fault Refusal := .next (s.native dt true State.allocRecordRun)

end Sys2Proof.Machine
end

