-- ==== Sys2Proof/Machine/ExecGnss.lean ====
section
/-!
DEFINITION. Meanings of the commands: the GNSS baseband and the time pulse (R243 to R268).
-/

namespace Sys2Proof.Machine

/-- GNSS_SOLUTION (R254). GTE forms the antenna solutions and heading from a latch and writes their samples into the stream
contexts. -/
def execGnssSolution (dt : Nat) (a : Option GnssPos) (b : Option GnssPos) (h : Option GnssHdg) (s : State) :
    Host.Outcome State Fault Refusal :=
  .next (s.timed dt true (fun s => if s.sys.yd then s.ydGnss a else s.gnssSolve a b h))

/-- RTCM_FRAME_RX (R255). An RTCM 3 frame is checked and its corrections taken or discarded. -/
def execRtcmFrameRx (dt : Nat) (src : RtcmVia) (num : Nat) (bs : List Byte) (s : State) : Host.Outcome State Fault Refusal :=
  .next (s.native dt true (State.rtcmRx · src num bs))

/-- AMBIGUITY_FIXED (R255). An ambiguity search completes and its result applies from the next latch. -/
def execAmbiguityFixed (dt : Nat) (ant : Nat) (ratio : Nat) (s : State) : Host.Outcome State Fault Refusal :=
  .next (s.native dt (ant < 3) (State.ambiguity · ant ratio))

/-- CHANNEL_ALLOCATION (R246). At each whole second the baseband reallocates each antenna's channels. -/
def execChannelAllocation (dt : Nat) (duty : List Nat) (sky : List Sky) (s : State) : Host.Outcome State Fault Refusal :=
  .next (s.timed dt true (State.chanAlloc · duty sky))

/-- CHANNEL_LOST_TIMEOUT (R247). A channel in LOST for more than 1 s returns to SEARCH. -/
def execChannelLostTimeout (dt : Nat) (s : State) : Host.Outcome State Fault Refusal := .next (s.timed dt true State.chanTimeout)

/-- GNSS_IF_LOST (R245). A stream without sample transitions for 1 ms becomes inactive and its channels drop to IDLE. -/
def execGnssIfLost (dt : Nat) (n : Nat) (s : State) : Host.Outcome State Fault Refusal := .next (s.timed dt (n < 4) (State.ifLost · n))

/-- GNSS_HOLDOVER (R262). At a whole second with no valid solution in the last 1,000 ms the pulse generator enters HOLDOVER. -/
def execGnssHoldover (dt : Nat) (s : State) : Host.Outcome State Fault Refusal := .next (s.native dt true State.tpHold)

/-- TP_SECOND (R261). Once per second the pulse offset b_pps is filtered, slewed or stepped towards b. -/
def execTpSecond (dt : Nat) (s : State) : Host.Outcome State Fault Refusal := .next (s.native dt true State.tpSecond)

/-- TP_RECORD_WRITE (R263). At t_s − 500 ms a time-pulse record is written for each output. -/
def execTpRecordWrite (dt : Nat) (s : State) : Host.Outcome State Fault Refusal := .next (s.native dt true State.tpRecords)

/-- TIME_PULSE (R260). A PPS output is driven at the CLK_PER edge nearest the ideal instant of the UTC second. -/
def execTimePulse (dt : Nat) (s : State) : Host.Outcome State Fault Refusal := .next (s.native dt true State.tpPulse)

/-- SNAP_DONE (R265). A GNSS snapshot capture completes and the buffer becomes FULL. -/
def execSnapDone (dt : Nat) (samples : List Byte) (s : State) : Host.Outcome State Fault Refusal :=
  .next (s.native dt true (State.snapDone · samples))

/-- HARBOUR_SNAPSHOT (R267). Every SNAP_INT in HARBOUR, D8 takes a 20 ms snapshot and forms a coarse fix. -/
def execHarbourSnapshot (dt : Nat) (fix : CoarseFix) (samples : List Byte) (s : State) : Host.Outcome State Fault Refusal :=
  .next (s.native dt true (State.harbourSnap · fix samples))

/-- SIGNAL_ACQUIRED (R247). The acquisition engine finds a searched signal and the channel moves from SEARCH to PULL_IN. -/
def execSignalAcquired (dt : Nat) (ch : Nat) (s : State) : Host.Outcome State Fault Refusal :=
  .next (s.timed dt (ch < 128) (State.chanAcquired · ch))

/-- TRACK_LOCK (R247). A channel's code and carrier loops lock and it moves from PULL_IN, or from LOST on reacquisition, to
TRACK. -/
def execTrackLock (dt : Nat) (ch : Nat) (s : State) : Host.Outcome State Fault Refusal :=
  .next (s.timed dt (ch < 128) (State.chanLock · ch))

/-- LOCK_LOST (R247). A tracking channel loses lock and moves from TRACK to LOST. -/
def execLockLost (dt : Nat) (ch : Nat) (s : State) : Host.Outcome State Fault Refusal := .next (s.timed dt (ch < 128) (State.chanLoss · ch))

/-- NAVIGATION_DATA (R246). A decoded navigation message updates almanac, ephemeris, health flags and leap-second data. -/
def execNavigationData (dt : Nat) (m : NavMsg) (s : State) : Host.Outcome State Fault Refusal := .next (s.timed dt true (State.navData · m))

/-- GNSS_IF_ACTIVE (R245). Sample transitions return on an IF stream and ACTIVE reads 1 again. -/
def execGnssIfActive (dt : Nat) (n : Nat) (s : State) : Host.Outcome State Fault Refusal := .next (s.timed dt (n < 4) (State.ifActive · n))

end Sys2Proof.Machine
end

