-- ==== Sys2Proof/Machine/ExecHost.lean ====
section
/-!
DEFINITION. Meanings of the commands: the mailbox, the SPI port and register writes (R373 to R391).
-/

namespace Sys2Proof.Machine

/-- DOORBELL (R381). A host write to HIF_CMD_PI announces new command entries, or is ignored out of range or before READY. -/
def execDoorbell (v : Nat) (s : State) : Host.Outcome State Fault Refusal := .next (s.hostWr aHIF_CMD_PI v)

/-- COMMAND_INTAKE (R382). SV takes the next command in ring order into its lane once the response ring has room. -/
def execCommandIntake (s : State) : Host.Outcome State Fault Refusal := .next (s.intake)

/-- HIF_RSP_CI_WRITE (R381). A host write of the response consumer index frees response slots, or is ignored out of range. -/
def execHifRspCiWrite (v : Nat) (s : State) : Host.Outcome State Fault Refusal := .next (s.hostWr aHIF_RSP_CI v)

/-- HIF_EVT_CI_WRITE (R389). A host write of the event consumer index frees event slots, letting an EVENTS_LOST record be
written. -/
def execHifEvtCiWrite (v : Nat) (s : State) : Host.Outcome State Fault Refusal := .next (s.hostWr aHIF_EVT_CI v)

/-- SPI_READ (R378). A host SPI READ transaction returns words from the host address space. -/
def execSpiRead (quad : Bool) (addr : Nat) (n : Nat) (s : State) : Host.Outcome State Fault Refusal :=
  .next (s.spiTrans quad ([0x0B] ++ beBytes 4 addr) n)

/-- SPI_WRITE (R378). A host SPI WRITE transaction writes whole words into the host address space. -/
def execSpiWrite (quad : Bool) (addr : Nat) (bs : List Byte) (s : State) : Host.Outcome State Fault Refusal :=
  .next (s.spiTrans quad ([0x02] ++ beBytes 4 addr ++ bs) 0)

/-- SPI_STATUS (R379). A host SPI STATUS instruction returns the status byte and clears its ERR bit. -/
def execSpiStatus (quad : Bool) (s : State) : Host.Outcome State Fault Refusal := .next (s.spiTrans quad [0x05] 1)

/-- ENTER_QUAD (R378). The SPI ENTER_QUAD instruction switches the port to four data lines. -/
def execEnterQuad (quad : Bool) (s : State) : Host.Outcome State Fault Refusal := .next (s.spiTrans quad [0x38] 0)

/-- EXIT_QUAD (R378). The SPI EXIT_QUAD instruction returns the port to single-line mode at the rise of HSPI_CS_N. -/
def execExitQuad (quad : Bool) (s : State) : Host.Outcome State Fault Refusal := .next (s.spiTrans quad [0xFF] 0)

/-- PCIE_RESET (R377): the endpoint and its configuration space are reset and the host sets them up anew; nothing else of the block
changes. With the SPI path, or in YD-22 mode, the endpoint is held in reset already (R3, R372). -/
def execPcieReset (s : State) : Host.Outcome State Fault Refusal :=
  .next (if s.sys.yd || s.sys.hostSel then s else s.sysMod (fun y => { y with pcieRsts := y.pcieRsts + 1 }))

/-- REGISTER_WRITE (R16). A host write to a register field without behaviour of its own stores the value or clears or sets bits,
subject to its state and range rules. -/
def execRegisterWrite (a : Nat) (bs : List Byte) (s : State) : Host.Outcome State Fault Refusal :=
  .next (if s.hostOn && decide (bs.length ≤ 8) then s.hostStore a bs else s)

end Sys2Proof.Machine
end

