-- ==== Sys2Proof/Machine/ExecIo.lean ====
section
/-!
DEFINITION. Meanings of the commands: CAN, UART, the filter chain, logic and the panel (R299 to R371, R491 to R503).
-/

namespace Sys2Proof.Machine

/-- UART_CHARACTER_RX (R318). A character received on a UART is checked and added to the sentence being framed. -/
def execUartCharacterRx (dt : Nat) (n : Nat) (c : Nat) (err : Nat) (s : State) : Host.Outcome State Fault Refusal :=
  .next (s.native dt (n < 16) (State.uartRx · n c err))

/-- UART_BREAK (R318). A line held low beyond one character time sets BREAK. -/
def execUartBreak (dt : Nat) (n : Nat) (s : State) : Host.Outcome State Fault Refusal := .next (s.native dt (n < 16) (State.uartBreak · n))

/-- UART_TX_DONE (R411). The last byte of a UART_SEND leaves the transmit ball and the UART is no longer busy. -/
def execUartTxDone (dt : Nat) (n : Nat) (s : State) : Host.Outcome State Fault Refusal :=
  .next (s.native dt (n < 16) (State.uartTxDone · n))

/-- CAN_FRAME_RX (R306). A frame received without error is stamped, matched against the filter elements and stored, bound or
discarded. -/
def execCanFrameRx (dt : Nat) (n : Nat) (id : Nat) (ide : Bool) (fdf : Bool) (brs : Bool) (dlc : Nat) (data : List Byte) (esi : Bool) (rtr : Bool) (stamp : Nat) (s : State) :
    Host.Outcome State Fault Refusal :=
  .next (s.timed dt (n < 8) (fun s => s.ydCanAfter (s.canRx n ⟨id, ide, fdf, brs, dlc, data⟩ esi rtr stamp)))

/-- CAN_TX_LOAD (R314). NTE loads a free transmit buffer with the chosen eligible entry of the firmware queue. -/
def execCanTxLoad (dt : Nat) (n : Nat) (s : State) : Host.Outcome State Fault Refusal :=
  .next (s.timed dt (n < 8) (fun s => s.ydCanAfter (s.canLoad n)))

/-- CAN_TX_DONE (R315). A transmit attempt ends, the frame being sent, retried or dropped. -/
def execCanTxDone (dt : Nat) (n : Nat) (how : Nat) (kind : Nat) (sof : Nat) (s : State) : Host.Outcome State Fault Refusal :=
  .next (s.timed dt (n < 8) (fun s => s.ydCanAfter (s.canTxDone n how kind sof)))

/-- CAN_INIT_ACK (R302). A requested INIT takes effect at bus idle, returning loaded buffers to the queue. -/
def execCanInitAck (dt : Nat) (n : Nat) (s : State) : Host.Outcome State Fault Refusal :=
  .next (s.timed dt (n < 8) (fun s => s.ydCanAfter (s.canInitAck n)))

/-- CAN_INTEGRATION (R302). After 11 consecutive recessive bits the controller takes part in traffic and SYNC reads 1. -/
def execCanIntegration (dt : Nat) (n : Nat) (s : State) : Host.Outcome State Fault Refusal :=
  .next (s.timed dt (n < 8) (fun s => s.ydCanAfter (s.canIntegrate n)))

/-- BUS_OFF (R303). The controller enters bus-off, returns or flushes its buffers and counts an error against its channel. -/
def execBusOff (dt : Nat) (n : Nat) (s : State) : Host.Outcome State Fault Refusal :=
  .next (s.timed dt (n < 8) (fun s => s.ydCanAfter (s.busOff n)))

/-- BUS_OFF_RECOVERY (R303). After 128 sequences of 11 recessive bits the controller becomes error active again. -/
def execBusOffRecovery (dt : Nat) (n : Nat) (s : State) : Host.Outcome State Fault Refusal :=
  .next (s.timed dt (n < 8) (fun s => s.ydCanAfter (s.busOffRecover n)))

/-- CAN_BUS_ERROR (R303). A protocol error seen on the bus during reception updates REC, TEC, LEC and the error state. -/
def execCanBusError (dt : Nat) (n : Nat) (kind : Nat) (eight : Bool) (s : State) : Host.Outcome State Fault Refusal :=
  .next (s.timed dt (n < 8) (fun s => s.ydCanAfter (s.canBusError n kind eight)))

/-- SDF_OUTPUT (R336). A resampled filter output is delivered to its point, register and context unless suppressed. -/
def execSdfOutput (dt : Nat) (ch : Nat) (bits : List (Bool × Bool)) (s : State) : Host.Outcome State Fault Refusal :=
  .next (s.native dt (ch < 32) (fun s => (s.sdfFeed ch bits).sdfOutput ch))

/-- SDF_THRESHOLD (R341). A high or low threshold event changes state after its persistence count and reaches safety, point and
status. -/
def execSdfThreshold (dt : Nat) (ch : Nat) (bits : List (Bool × Bool)) (s : State) : Host.Outcome State Fault Refusal :=
  .next (s.native dt (ch < 32) (State.sdfFeed · ch bits))

/-- MOD_FAULT (R327). A channel input unchanged for 128 bits sets MOD_FAULT and suppresses its outputs. -/
def execModFault (dt : Nat) (ch : Nat) (bits : List (Bool × Bool)) (s : State) : Host.Outcome State Fault Refusal :=
  .next (s.native dt (ch < 32) (State.sdfFeed · ch bits))

/-- MOD_FAULT_CLEAR (R327). MOD_FAULT clears after 1,024 bits without a run of 128 equal bits, starting suppression. -/
def execModFaultClear (dt : Nat) (ch : Nat) (bits : List (Bool × Bool)) (s : State) : Host.Outcome State Fault Refusal :=
  .next (s.native dt (ch < 32) (State.sdfFeed · ch bits))

/-- LOGIC_CYCLE_START (R352). At a task cycle boundary outputs of ending cycles are published, change groups applied, the
snapshot taken and execution started. -/
def execLogicCycleStart (dt : Nat) (s : State) : Host.Outcome State Fault Refusal := .next (s.native dt true State.cycleStart)

/-- LOGIC_CYCLE_DONE (R359). A cycle finishes execution, after overrun publishing at the next boundary of its task. -/
def execLogicCycleDone (dt : Nat) (t : Nat) (us : Nat) (s : State) : Host.Outcome State Fault Refusal :=
  .next (s.native dt (t < 2) (State.cycleDone · t us))

/-- LOGIC_WATCHDOG (R359). A cycle still running at 8 × C is abandoned and the program stops with ERR WATCHDOG. -/
def execLogicWatchdog (dt : Nat) (s : State) : Host.Outcome State Fault Refusal := .next (s.native dt true State.lgcWatchdog)

/-- PROGRAM_EXCHANGE (R368). At the first frame boundary with no cycle running the pending image replaces the program and
starts. -/
def execProgramExchange (dt : Nat) (s : State) : Host.Outcome State Fault Refusal := .next (s.native dt true State.programExchange)

/-- PANEL_FRAME (R492). Every 20 ms the panel driver clocks out codes, latches them and drives the segments of pods with work.
-/
def execPanelFrame (dt : Nat) (s : State) : Host.Outcome State Fault Refusal := .next (s.native dt true State.panelFrame)

/-- CRACK_MEASURE (R502). Each second the crack loop is measured and CRACK set on a step or an open loop. -/
def execCrackMeasure (dt : Nat) (r : Option Nat) (s : State) : Host.Outcome State Fault Refusal :=
  .next (s.native dt true (State.crackMeasure · r))

end Sys2Proof.Machine
end

