-- ==== Sys2Proof/Machine/ExecNet.lean ====
section
/-!
DEFINITION. Meanings of the commands: the network and PTP (R269 to R298).
-/

namespace Sys2Proof.Machine

/-- SAMPLE_PDU_RX (R286). A SAMPLE PDU delivers its entries to their bound stream contexts. -/
def execSamplePduRx (dt : Nat) (via : Via) (bs : List Byte) (s : State) : Host.Outcome State Fault Refusal :=
  .next (s.native dt (via.port < 6) (State.sampleRx · via bs))

/-- STATUS_PDU_RX (R291). A pier STATUS PDU is taken for the snapshot, lease silence and power, and may be a failure event. -/
def execStatusPduRx (dt : Nat) (via : Via) (bs : List Byte) (s : State) : Host.Outcome State Fault Refusal :=
  .next (s.native dt (via.port < 6) (State.statusRx · via bs))

/-- HARVEST_PDU_RX (R294). A received HARVEST PDU requests a harvest latch at its instant. -/
def execHarvestPduRx (dt : Nat) (via : Via) (bs : List Byte) (s : State) : Host.Outcome State Fault Refusal :=
  .next (s.native dt (via.port < 6) (State.harvestRx · via bs))

/-- ANNOUNCE_RX (R276). A PTP Announce updates a domain's grandmaster and BMCA state. -/
def execAnnounceRx (dt : Nat) (a : Ann) (s : State) : Host.Outcome State Fault Refusal := .next (s.native dt true (State.announce · a))

/-- ANNOUNCE_TIMEOUT (R276). A domain with no Announce within announceReceiptTimeout becomes ABSENT, possibly causing a switch
or holdover. -/
def execAnnounceTimeout (dt : Nat) (dom : Nat) (s : State) : Host.Outcome State Fault Refusal :=
  .next (s.native dt true (State.announceTimeout · dom))

/-- SYNC_RX (R278). A Sync or Follow_Up gives an offset measurement that sets, trims, slews or steps TIME_NS under the servo. -/
def execSyncRx (dt : Nat) (m : SyncMsg) (s : State) : Host.Outcome State Fault Refusal := .next (s.native dt true (State.syncRx · m))

/-- DELAY_RESP_RX (R277). A Delay_Resp or peer-delay response gives a path delay measurement, gated and averaged. -/
def execDelayRespRx (dt : Nat) (m : DelayMsg) (s : State) : Host.Outcome State Fault Refusal := .next (s.native dt true (State.delayRx · m))

/-- TRANSITION_END (R280). TRANSITION becomes LOCKED after TRANS_T seconds. -/
def execTransitionEnd (dt : Nat) (s : State) : Host.Outcome State Fault Refusal := .next (s.native dt true State.transitionEnd)

/-- PRIMARY_REVERT (R280). With REVERT set the servo returns to the primary domain after it has been USABLE for REVERT_T
seconds. -/
def execPrimaryRevert (dt : Nat) (s : State) : Host.Outcome State Fault Refusal := .next (s.native dt true State.primaryRevert)

/-- DATAGRAM_450_RX (R295). An IEC 61162-450 datagram is checked and its sentences passed to their bound parsers. -/
def execDatagram450Rx (dt : Nat) (n : Tagged) (addr : Nat) (port : Nat) (bs : List Byte) (s : State) : Host.Outcome State Fault Refusal :=
  .next (s.native dt (n.port < 4) (State.rx450 · n addr port bs))

/-- PORT_LINK_CHANGE (R484). An Ethernet port's link goes down or comes up, counting a transient error on loss and raising the
NET LINK event. -/
def execPortLinkChange (dt : Nat) (n : Nat) (up : Bool) (fast : Bool) (errs : Nat) (s : State) : Host.Outcome State Fault Refusal :=
  .next (s.native dt (n < 6) (State.portChange · n up fast errs))

/-- ARP_ICMP_IGMP_RX (R270). An ARP request, ICMP echo request or IGMP query received on an Ethernet port is answered. -/
def execArpIcmpIgmpRx (dt : Nat) (n : Nat) (f : List Byte) (s : State) : Host.Outcome State Fault Refusal :=
  .next (s.native dt (n < 4) (State.arpIcmpIgmp · n f))

/-- DELAY_REQ_RX (R275). A Delay_Req or Pdelay_Req received on a PTP port is timestamped and answered as master or peer. -/
def execDelayReqRx (dt : Nat) (m : ReqMsg) (s : State) : Host.Outcome State Fault Refusal := .next (s.native dt true (State.delayReq · m))

/-- PTP_MESSAGE_INTERVAL (R275). At each configured message interval the unit sends its Sync and Announce on master ports and
its Delay_Req or Pdelay_Req as slave. -/
def execPtpMessageInterval (dt : Nat) (port : Nat) (domain : Nat) (what : Nat) (s : State) : Host.Outcome State Fault Refusal :=
  .next (s.native dt (port < 4) (State.ptpSend · port domain what))

end Sys2Proof.Machine
end

