-- ==== Sys2Proof/Machine/ExecPower.lean ====
section
/-!
DEFINITION. Meanings of the commands: power, supervision, resets and boot (R439 to R467).
-/

namespace Sys2Proof.Machine

/-- SUPPLY_WARNING (R445). A rail crossing its warning level starts a dip, holding new flash and ledger writes and panel
waveforms. -/
def execSupplyWarning (dt : Nat) (rail : Nat) (mv : Nat) (s : State) : Host.Outcome State Fault Refusal :=
  .next ((s.advance dt).supplyWarn rail mv)

/-- DIP_RECOVERY (R445). When every rail has recovered the dip ends, DIP is raised and held writes start. -/
def execDipRecovery (dt : Nat) (rail : Nat) (mv : Nat) (low : Nat) (s : State) : Host.Outcome State Fault Refusal :=
  .next ((s.advance dt).dipBack rail mv low)

/-- DOMAIN_SHED (R446). A domain is shed 20, 30 or 40 ms after the first crossing if a rail has not recovered. -/
def execDomainShed (dt : Nat) (s : State) : Host.Outcome State Fault Refusal := .next ((s.advance dt).shedDue)

/-- DOMAIN_RESTORE (R447). After 1 s of recovery the shed domains are restored in reverse order at 100 ms intervals. -/
def execDomainRestore (dt : Nat) (s : State) : Host.Outcome State Fault Refusal := .next ((s.advance dt).restoreDue)

/-- CLOCK_MONITOR_SECOND (R444). Each RTC second the TCXO is compared with the RTC crystal and CLK_WARN set beyond 100 ppm. -/
def execClockMonitorSecond (dt : Nat) (warn : Bool) (s : State) : Host.Outcome State Fault Refusal :=
  .next ((s.advance dt).clockSecond warn)

/-- POR (R442). VIN rising from OFF, or a wake from HIBERNATE, starts the power-up sequence with reset held. -/
def execPor (dt : Nat) (s : State) : Host.Outcome State Fault Refusal := .next ((s.advance dt).powerOn)

/-- RAIL_TIMEOUT (R442). A rail not reaching 95 % in time switches every rail off and retries, counting the failure. -/
def execRailTimeout (dt : Nat) (rail : Nat) (s : State) : Host.Outcome State Fault Refusal := .next ((s.advance dt).railTimeout rail)

/-- RESET_RELEASE (R442). Once the TCXO runs and the PLL locks the POR or BOR is released and the straps sampled. -/
def execResetRelease (dt : Nat) (yd : Bool) (host : Bool) (s : State) : Host.Outcome State Fault Refusal :=
  .next ((s.advance dt).release yd host)

/-- BOR (R449). A reset-level crossing or clock loss switches domains off, finishes writes in progress from hold-up and holds
reset. -/
def execBor (dt : Nat) (src : Nat) (mv : Nat) (ov : Bool) (led : Bool) (prog : Bool) (ok : Bool) (s : State) :
    Host.Outcome State Fault Refusal :=
  .next ((s.advance dt).brownOut src mv ov led prog ok)

/-- VIN_OFF (R450). VIN falling below 2.5 V puts the unit OFF. -/
def execVinOff (dt : Nat) (s : State) : Host.Outcome State Fault Refusal := .next ((s.advance dt).vinOff)

/-- XRST (R453). RST_N low for at least 1 µs resets everything except D0, trip latches and the TIME_NS counter. -/
def execXrst (dt : Nat) (yd : Bool) (host : Bool) (s : State) : Host.Outcome State Fault Refusal := .next ((s.advance dt).xrst yd host)

/-- WDR (R444). The SV watchdog not serviced for 250 ms causes a WDR. -/
def execWdr (dt : Nat) (s : State) : Host.Outcome State Fault Refusal := .next ((s.advance dt).wdr)

/-- SRST (R454). A software reset restarts SV once any flash page program in progress has finished. -/
def execSrst (dt : Nat) (s : State) : Host.Outcome State Fault Refusal := .next ((s.advance dt).srst)

/-- DRST (R455). A domain reset holds one domain 1 ms, powers it and runs its engine tests. -/
def execDrst (dt : Nat) (s : State) : Host.Outcome State Fault Refusal := .next ((s.advance dt).drst)

/-- SAFR (R456). The safety channel engines restart and reload their SRAM from the committed safety objects. -/
def execSafr (dt : Nat) (s : State) : Host.Outcome State Fault Refusal := .next ((s.advance dt).safr)

/-- WAKE (R452). WAKE_N or an RTC alarm wakes the unit from SLEEP, HIBERNATE or HARBOUR. -/
def execWake (dt : Nat) (src : Nat) (s : State) : Host.Outcome State Fault Refusal := .next ((s.advance dt).wake src)

/-- BOOT_DONE (R463). Boot verifies and loads firmware, tests the engines, raises READY and loads the configuration. -/
def execBootDone (dt : Nat) (fail : Nat) (s : State) : Host.Outcome State Fault Refusal := .next ((s.advance dt).bootDone fail)

/-- TRIAL_TIMEOUT (R463). A firmware slot on trial that does not reach READY or CONFIG within 10 s is marked failed. -/
def execTrialTimeout (dt : Nat) (s : State) : Host.Outcome State Fault Refusal := .next ((s.advance dt).trialTimeout)

/-- HOLD_UP_CHARGED (R448). VHOLD reaches 10.5 V, HOLD_OK rises and waiting ledger commits and flash writes may start. -/
def execHoldUpCharged (dt : Nat) (s : State) : Host.Outcome State Fault Refusal := .next ((s.advance dt).holdCharged.pump)

/-- VIN_RETURN (R449). While a BOR is held, VIN stays above 4.25 V for 10 ms and power-up proceeds under R442. -/
def execVinReturn (dt : Nat) (s : State) : Host.Outcome State Fault Refusal := .next ((s.advance dt).vinReturn)

/-- D0_LOST (R459). With VIN absent, VBAT falls below 1.80 V and D0 loses its contents. -/
def execD0Lost (dt : Nat) (s : State) : Host.Outcome State Fault Refusal := .next ((s.advance dt).d0Drop)

end Sys2Proof.Machine
end

