-- ==== Sys2Proof/Machine/ExecRead.lean ====
section
/-!
DEFINITION. Meanings of the commands: register reads with side-effects (R16, R375).
-/

namespace Sys2Proof.Machine

/-- TIM_NOW_LO_READ (R53). A read of TIM_NOW_LO returns TIME_NS[31:0] and latches the high word into TIM_NOW_HI. -/
def execTimNowLoRead (s : State) : Host.Outcome State Fault Refusal := .next (s.hostRd aTIM_NOW_LO)

/-- SCX_STAT_READ (R54). A read of SCX_STAT returns the context status and clears its LATE and DUP counts. -/
def execScxStatRead (n : Nat) (s : State) : Host.Outcome State Fault Refusal := .next (s.hostRdN aSCX_STAT 32 256 n)

/-- TIM_CNT_SPEC_READ (R53). A read of TIM_CNT_SPEC returns and clears the speculative MPC counts. -/
def execTimCntSpecRead (s : State) : Host.Outcome State Fault Refusal := .next (s.hostRd aTIM_CNT_SPEC)

/-- TIM_CNT_RETRO_READ (R53). A read of TIM_CNT_RETRO returns and clears the retrodiction counts. -/
def execTimCntRetroRead (s : State) : Host.Outcome State Fault Refusal := .next (s.hostRd aTIM_CNT_RETRO)

/-- TIM_SRV_CNT_READ (R298). A read of TIM_SRV_CNT returns and clears the switch, holdover and gated counts. -/
def execTimSrvCntRead (s : State) : Host.Outcome State Fault Refusal := .next (s.hostRd aTIM_SRV_CNT)

/-- FUS_CNT_READ (R93). A read of FUS_CNT returns and clears the no-fix and conflict frame counts. -/
def execFusCntRead (s : State) : Host.Outcome State Fault Refusal := .next (s.hostRd aFUS_CNT)

/-- CEX_CNT_READ (R132). A read of CEX_CNT returns and clears the cross-fade and late counts. -/
def execCexCntRead (s : State) : Host.Outcome State Fault Refusal := .next (s.hostRd aCEX_CNT)

/-- SLV_CNT_READ (R171). A read of SLV_CNT returns and clears the deadline and pivot counts. -/
def execSlvCntRead (s : State) : Host.Outcome State Fault Refusal := .next (s.hostRd aSLV_CNT)

/-- SLV_CNT2_READ (R171). A read of SLV_CNT2 returns and clears the overflow, fallback and promotion counts. -/
def execSlvCnt2Read (s : State) : Host.Outcome State Fault Refusal := .next (s.hostRd aSLV_CNT2)

/-- RED_CNT_READ (R214). A read of RED_CNT returns and clears the takeover, resync and unfollowable counts. -/
def execRedCntRead (s : State) : Host.Outcome State Fault Refusal := .next (s.hostRd aRED_CNT)

/-- SAF_CNT_READ (R242). A read of SAF_CNT returns and clears the withheld, ignored-reset and password-failure counts. -/
def execSafCntRead (s : State) : Host.Outcome State Fault Refusal := .next (s.hostRd aSAF_CNT)

/-- GNS_RTCM_CNT_READ (R268). A read of GNS_RTCM_CNT returns and clears the RTCM frame counts. -/
def execGnsRtcmCntRead (s : State) : Host.Outcome State Fault Refusal := .next (s.hostRd aGNS_RTCM_CNT)

/-- GNS_SNAP_STAT_READ (R268). A read of GNS_SNAP_STAT returns the snapshot status and clears the ignored-trigger count. -/
def execGnsSnapStatRead (s : State) : Host.Outcome State Fault Refusal := .next (s.hostRd aGNS_SNAP_STAT)

/-- GNS_CNT_READ (R268). A read of GNS_CNT returns and clears the slip, holdover and pulse-step counts. -/
def execGnsCntRead (s : State) : Host.Outcome State Fault Refusal := .next (s.hostRd aGNS_CNT)

/-- GNS_CLK_B_LO_READ (R268). A read of GNS_CLK_B_LO returns the low word of b_pps and latches the high word. -/
def execGnsClkBLoRead (s : State) : Host.Outcome State Fault Refusal := .next (s.hostRd aGNS_CLK_B_LO)

/-- NET_PIER_ERR_READ (R297). A read of NET_PIER_ERR returns and clears the pier protocol error counts. -/
def execNetPierErrRead (s : State) : Host.Outcome State Fault Refusal := .next (s.hostRd aNET_PIER_ERR)

/-- NET_PIER_DUP_READ (R297). A read of NET_PIER_DUP returns and clears the duplicate and gap counts. -/
def execNetPierDupRead (s : State) : Host.Outcome State Fault Refusal := .next (s.hostRd aNET_PIER_DUP)

/-- NET_450_CNT_READ (R297). A read of NET_450_CNT returns and clears the IEC 61162-450 sentence counts. -/
def execNet450CntRead (s : State) : Host.Outcome State Fault Refusal := .next (s.hostRd aNET_450_CNT)

/-- LOG_ONL_READ (R369). A read of LOG_ONL returns the last group sequence and clears the rejected count. -/
def execLogOnlRead (s : State) : Host.Outcome State Fault Refusal := .next (s.hostRd aLOG_ONL)

/-- HIF_CNT_READ (R398). A read of HIF_CNT returns and clears the lost-event and rejected-response counts. -/
def execHifCntRead (s : State) : Host.Outcome State Fault Refusal := .next (s.hostRd aHIF_CNT)

/-- PMU_DIP_READ (R467). A read of PMU_DIP returns the last dip and clears the dip count. -/
def execPmuDipRead (s : State) : Host.Outcome State Fault Refusal := .next (s.hostRd aPMU_DIP)

/-- PMU_SHED_READ (R467). A read of PMU_SHED returns the shed domains and clears the shed count. -/
def execPmuShedRead (s : State) : Host.Outcome State Fault Refusal := .next (s.hostRd aPMU_SHED)

/-- PMU_VMON_READ (R467). A read of PMU_VMON returns the selected rail voltage and clears its minimum. -/
def execPmuVmonRead (s : State) : Host.Outcome State Fault Refusal := .next (s.hostRd aPMU_VMON)

/-- PMU_CNT_READ (R467). A read of PMU_CNT returns and clears the WDR, SAFR, hold-abort and clock-warning counts. -/
def execPmuCntRead (s : State) : Host.Outcome State Fault Refusal := .next (s.hostRd aPMU_CNT)

/-- DIA_HARV_READ (R490). A read of DIA_HARV returns pending harvests and clears the ignored count. -/
def execDiaHarvRead (s : State) : Host.Outcome State Fault Refusal := .next (s.hostRd aDIA_HARV)

/-- DIA_REC_WP_LO_READ (R490). A read of DIA_REC_WP_LO returns the low word of the recorder write pointer and latches the high
word. -/
def execDiaRecWpLoRead (s : State) : Host.Outcome State Fault Refusal := .next (s.hostRd aDIA_REC_WP_LO)

/-- DIA_REC_LOST_READ (R490). A read of DIA_REC_LOST returns and clears the refused-entry count. -/
def execDiaRecLostRead (s : State) : Host.Outcome State Fault Refusal := .next (s.hostRd aDIA_REC_LOST)

/-- DIA_RPL_CNT_READ (R490). A read of DIA_RPL_CNT returns and clears the replay mismatch and frame counts. -/
def execDiaRplCntRead (s : State) : Host.Outcome State Fault Refusal := .next (s.hostRd aDIA_RPL_CNT)

/-- PNL_CNT_READ (R503). A read of PNL_CNT returns and clears the panel done, replaced and interrupted counts. -/
def execPnlCntRead (s : State) : Host.Outcome State Fault Refusal := .next (s.hostRd aPNL_CNT)

/-- PNL_BALCNT_READ (R503). A read of PNL_BALCNT returns and clears the balancing frame count. -/
def execPnlBalcntRead (s : State) : Host.Outcome State Fault Refusal := .next (s.hostRd aPNL_BALCNT)

/-- NET_PORT_STAT_READ (R297). A read of NET_PORT_STATn returns the port status and clears its receive error count. -/
def execNetPortStatRead (n : Nat) (s : State) : Host.Outcome State Fault Refusal := .next (s.hostRdN aNET_PORT_STAT 4 6 n)

/-- CAN_STAT_READ (R303). A read of CAN_STAT returns the controller state and clears the last error code. -/
def execCanStatRead (n : Nat) (s : State) : Host.Outcome State Fault Refusal := .next (s.hostRdN aCAN_STAT 256 8 n)

/-- CAN_CNT_READ (R322). A read of CAN_CNT returns and clears the overflow, drop and bus-off counts. -/
def execCanCntRead (n : Nat) (s : State) : Host.Outcome State Fault Refusal := .next (s.hostRdN aCAN_CNT 256 8 n)

/-- CAN_UCNT_READ (R324). A read of CAN_UCNTn returns and clears the UART error counts. -/
def execCanUcntRead (n : Nat) (s : State) : Host.Outcome State Fault Refusal := .next (s.hostRdN aCAN_UCNT 16 16 n)

/-- LOG_TASK_TIME_READ (R370). A read of LOG_TASKt_TIME returns the execution times and clears the maximum. -/
def execLogTaskTimeRead (n : Nat) (s : State) : Host.Outcome State Fault Refusal := .next (s.hostRdN aLOG_TASK_TIME 16 2 n)

/-- LOG_TASK_CNT_READ (R370). A read of LOG_TASKt_CNT returns and clears the overrun and abandoned counts. -/
def execLogTaskCntRead (n : Nat) (s : State) : Host.Outcome State Fault Refusal := .next (s.hostRdN aLOG_TASK_CNT 16 2 n)

end Sys2Proof.Machine
end

