-- ==== Sys2Proof/Machine/ExecRed.lean ====
section
/-!
DEFINITION. Meanings of the commands: redundancy, health and refinement (R172 to R214).
-/

namespace Sys2Proof.Machine

/-- KEYSTONE_DECISION (R197). At F(j)+0.08 P each non-holder judges lease, dispatch, declarations and silence and takes over,
isolates or applies the split policy. -/
def execKeystoneDecision (dt : Nat) (s : State) : Host.Outcome State Fault Refusal :=
  .next (s.native dt true (fun s => if s.bounds && s.time.inFrame && s.past 8 then s.keyDecide else s))

/-- TRANSFER_EXECUTE (R200). At F(AT_FRAME) of a planned transfer the successor becomes ACTIVE and the former holder STANDBY. -/
def execTransferExecute (dt : Nat) (s : State) : Host.Outcome State Fault Refusal :=
  .next (s.native dt true (fun s => if s.runs then s.transferExec else s))

/-- HANDBACK (R205). At F(AT_FRAME) of a handback the holder takes the next epoch and the zone piers, and the ZONE unit becomes
READY. -/
def execHandback (dt : Nat) (s : State) : Host.Outcome State Fault Refusal :=
  .next (s.native dt true (fun s => if s.runs then s.handback else s))

/-- LEASE_RX (R192). A received LEASE PDU renews the lease, updates links and health and makes a holder yield to a later epoch.
-/
def execLeaseRx (dt : Nat) (via : Via) (bs : List Byte) (s : State) : Host.Outcome State Fault Refusal :=
  .next (s.native dt (via.port < 6) (State.leaseRx · via bs))

/-- SPAN_DOWN (R176). A span with no correct LEASE from its neighbour for 3 frames goes down and counts an error. -/
def execSpanDown (dt : Nat) (n : Nat) (s : State) : Host.Outcome State Fault Refusal := .next (s.native dt (n < 2) (State.spanDown · n))

/-- SPAN_UP (R176). A span comes up after 20 consecutive frames with a correct LEASE. -/
def execSpanUp (dt : Nat) (n : Nat) (s : State) : Host.Outcome State Fault Refusal := .next (s.native dt (n < 2) (State.spanUp · n))

/-- PATH_LOSS (R199). A holder with no thruster STATUS for KEY_LEASE frames while a standby sees piers declares failure with
reason PATH. -/
def execPathLoss (dt : Nat) (s : State) : Host.Outcome State Fault Refusal :=
  .next (s.native dt true (fun s => if s.runs then s.pathLoss else s))

/-- MANIFEST_RX (R182). A received manifest part lets a standby start following the frame and concludes the comparison of the
previous frame. -/
def execManifestRx (dt : Nat) (via : Via) (bs : List Byte) (s : State) : Host.Outcome State Fault Refusal :=
  .next (s.native dt (via.port < 6) (State.manifestRx · via bs))

/-- MANIFEST_TIMEOUT (R182). A main part not complete by CUTOFF + 0.05 P makes the frame unfollowable and concludes the previous
comparison. -/
def execManifestTimeout (dt : Nat) (s : State) : Host.Outcome State Fault Refusal :=
  .next (s.native dt true (fun s => if s.manTimeout then s.unfollow else s))

/-- COMMAND_PDU_RX (R186). A standby observes a COMMAND PDU of the holder for comparison and for its next iterate 0. -/
def execCommandPduRx (dt : Nat) (via : Via) (bs : List Byte) (s : State) : Host.Outcome State Fault Refusal :=
  .next (s.native dt (via.port < 6) (State.commandRx · via bs))

/-- STATE_IMAGE_RX (R207). A STATE_IMAGE segment is received into the image being transferred. -/
def execStateImageRx (dt : Nat) (via : Via) (bs : List Byte) (s : State) : Host.Outcome State Fault Refusal :=
  .next (s.native dt (via.port < 6) (State.imageRx · via bs))

/-- CATCH_UP_DONE (R209). A receiver that has caught up on buffered frames before CUTOFF + 0.05 P becomes current and STANDBY.
-/
def execCatchUpDone (dt : Nat) (s : State) : Host.Outcome State Fault Refusal := .next (s.native dt true State.catchUp)

/-- RESYNC_FAIL (R209). An image not complete within 32 frames, or not current within 64 frames, is discarded and counted. -/
def execResyncFail (dt : Nat) (s : State) : Host.Outcome State Fault Refusal := .next (s.native dt true State.resyncFail)

/-- HEALTH_RECOMPUTE (R212). At each whole second the health score is recomputed and a health report written. -/
def execHealthRecompute (dt : Nat) (ecc : Nat) (s : State) : Host.Outcome State Fault Refusal :=
  .next (s.timed dt true (fun s => let t := s.eccNote ecc; if t.sys.yd then t.ydHealth else t.healthRun))

/-- IMAGE_CRC_CHECK (R76). Once per second self-test checks the CRC of each loaded image and faults those that fail. -/
def execImageCrcCheck (dt : Nat) (bad : List (Nat × Nat)) (s : State) : Host.Outcome State Fault Refusal :=
  .next (s.timed dt true (State.imageCheck · bad))

/-- REFINE_MINUTE (R62). At each minute boundary bounded alignment refinement steps are applied to references not frozen. -/
def execRefineMinute (dt : Nat) (s : State) : Host.Outcome State Fault Refusal := .next (s.native dt true State.refineMinute)

end Sys2Proof.Machine
end

