-- ==== Sys2Proof/Machine/ExecSafe.lean ====
section
/-!
DEFINITION. Meanings of the commands: the safety channels (R215 to R242).
-/

namespace Sys2Proof.Machine

/-- ESTOP_CHANGE (R221). A filtered ESTOP level change trips the mapped groups on a demand. -/
def execEstopChange (dt : Nat) (la : Nat) (lb : Nat) (ra : Bool) (rb : Bool) (s : State) : Host.Outcome State Fault Refusal :=
  .next (s.native dt true (State.estopChange · (la % 16) (lb % 16) ra rb))

/-- TRIP_PROPAGATE (R234). A trip passed through the mailbox sets the other channel's latches within 1 ms. -/
def execTripPropagate (dt : Nat) (s : State) : Host.Outcome State Fault Refusal := .next (s.native dt true State.tripPass)

/-- DISC_TIMEOUT (R222). A pair whose inputs differ for longer than DISC_T latches its DISC fault. -/
def execDiscTimeout (dt : Nat) (s : State) : Host.Outcome State Fault Refusal := .next (s.native dt true State.discTimeout)

/-- SAFE_RST_RELEASE (R236). Release of a valid SAFE_RST press clears the latches of the ARMED groups. -/
def execSafeRstRelease (dt : Nat) (s : State) : Host.Outcome State Fault Refusal := .next (s.native dt true State.rstLetGo)

/-- ACK_WINDOW_EXPIRY (R235). ARMED groups are disarmed when ACK_WIN expires. -/
def execAckWindowExpiry (dt : Nat) (s : State) : Host.Outcome State Fault Refusal := .next (s.native dt true State.armExpire)

/-- TEST_PULSE (R220). Once per second each energised output is switched off for 300 µs and checked for read-back. -/
def execTestPulse (dt : Nat) (ch : Nat) (stuck : Nat) (s : State) : Host.Outcome State Fault Refusal :=
  .next (s.native dt true (State.testPulse · ch stuck))

/-- OUTPUT_FAULT (R220). An output whose read-back differs for more than 500 µs latches its group with cause CHANNEL. -/
def execOutputFault (dt : Nat) (ch : Nat) (s : State) : Host.Outcome State Fault Refusal :=
  .next (s.native dt true (State.outputFault · ch))

/-- CHANNEL_FAULT (R231). A channel detecting a clock, memory or test fault de-energises all outputs and latches every group. -/
def execChannelFault (dt : Nat) (ch : Nat) (kind : Nat) (s : State) : Host.Outcome State Fault Refusal :=
  .next (s.native dt true (State.channelFault · ch kind))

/-- SAFETY_WATCHDOG (R456). A safety channel not serving its watchdog in 2 P trips and causes a SAFR. -/
def execSafetyWatchdog (dt : Nat) (ch : Nat) (s : State) : Host.Outcome State Fault Refusal :=
  .next (s.native dt true (State.safWatchdog · ch))

/-- SAF_SESSION_TIMEOUT (R240). A safety session closes after 600 s with no safety command. -/
def execSafSessionTimeout (dt : Nat) (s : State) : Host.Outcome State Fault Refusal := .next (s.native dt true (fun s => s.safTimeout.pump))

/-- SAFE_RST_PRESS (R236). Both SAFE_RST inputs become energised, starting the timing of a reset press. -/
def execSafeRstPress (dt : Nat) (s : State) : Host.Outcome State Fault Refusal := .next (s.native dt true State.rstPress)

end Sys2Proof.Machine
end

