-- ==== Sys2Proof/Machine/ExecWrite.lean ====
section
/-!
DEFINITION. Meanings of the commands: register writes with behaviour of their own.
-/

namespace Sys2Proof.Machine

/-- TIM_INC_INT_WRITE (R20). A write of TIM_INC_INT loads INT and FRAC together into INC at the next CLK_TS edge, clamped to the
limits. -/
def execTimIncIntWrite (v : Nat) (s : State) : Host.Outcome State Fault Refusal := .next (s.hostWr aTIM_INC_INT v)

/-- CONTEXT_ENABLE (R40). A write of SCX_CFG.EN from 0 to 1 enables a stream context with the held MODE, CWIDTH, TICK and
HERMITE, or is ignored while TP is 0. -/
def execContextEnable (n : Nat) (s : State) : Host.Outcome State Fault Refusal :=
  .next (s.hostWrN aSCX_CFG 32 256 n (putBits (s.heldWord (aSCX_CFG + 32 * n)) 0 1 1))

/-- CONTEXT_DISABLE (R40). A write clearing SCX_CFG.EN empties the context buffer and resets its mapping. -/
def execContextDisable (n : Nat) (s : State) : Host.Outcome State Fault Refusal :=
  .next (s.hostWrN aSCX_CFG 32 256 n (putBits (s.heldWord (aSCX_CFG + 32 * n)) 0 1 0))

/-- SNAP_RELEASE (R265). Writing GNS_SNAP_STAT.RELEASE releases the GNSS snapshot buffer. -/
def execSnapRelease (s : State) : Host.Outcome State Fault Refusal := .next (s.hostWr aGNS_SNAP_STAT (2 ^ GNS_SNAP_STAT.RELEASE.lo))

/-- CAN_INIT_ENTER (R302). Writing CAN_CTRL.INIT = 1 requests the controller to stop at bus idle or end of frame. -/
def execCanInitEnter (n : Nat) (s : State) : Host.Outcome State Fault Refusal :=
  .next (s.hostWrN aCAN_CTRL 256 8 n (putBits (s.heldWord (aCAN_CTRL + 256 * n)) 0 1 1))

/-- CAN_INIT_LEAVE (R302). Writing CAN_CTRL.INIT = 0 starts bus integration or bus-off recovery. -/
def execCanInitLeave (n : Nat) (s : State) : Host.Outcome State Fault Refusal :=
  .next (s.hostWrN aCAN_CTRL 256 8 n (putBits (s.heldWord (aCAN_CTRL + 256 * n)) 0 1 0))

/-- FILTER_WRITE (R308). CAN_FLT_SEL with OP WRITE replaces a filter element from the data words, or is ignored and sets ERR. -/
def execFilterWrite (n : Nat) (idx : Nat) (s : State) : Host.Outcome State Fault Refusal :=
  .next (s.hostWrN aCAN_FLT_SEL 256 8 n (0x20000 + idx % 1024))

/-- FILTER_READ (R308). CAN_FLT_SEL with OP READ copies a filter element into the data words. -/
def execFilterRead (n : Nat) (idx : Nat) (s : State) : Host.Outcome State Fault Refusal :=
  .next (s.hostWrN aCAN_FLT_SEL 256 8 n (0x10000 + idx % 1024))

/-- RXQ_ACK (R310). A write of N to CAN_RXQn_ACK returns the N oldest software-owned entries to the controller. -/
def execRxqAck (n : Nat) (q : Nat) (k : Nat) (s : State) : Host.Outcome State Fault Refusal :=
  .next (s.hostWrN (if q = 0 then aCAN_RXQ0_ACK else aCAN_RXQ1_ACK) 256 8 n k)

/-- TX_ABORT (R315). Writing CAN_TXBUF.ABORT empties a transmit buffer whose frame has not started arbitration. -/
def execTxAbort (n : Nat) (mask : Nat) (s : State) : Host.Outcome State Fault Refusal :=
  .next (s.hostWrN aCAN_TXBUF 256 8 n (2 ^ CAN_TXBUF.ABORT.lo * (mask % 8)))

/-- BANK_OPEN (R331). Writing SDF_BANK_CTRL.OPEN begins loading a coefficient bank, refused while a running channel names it. -/
def execBankOpen (b : Nat) (addr : Nat) (s : State) : Host.Outcome State Fault Refusal :=
  .next (s.hostWr aSDF_BANK_CTRL (0x80000 + 0x10000 * (b % 8) + addr % 2048))

/-- BANK_DATA_WRITE (R331). A write of SDF_BANK_DATA stores one word at ADDR of the open bank and advances ADDR. -/
def execBankDataWrite (w : Nat) (s : State) : Host.Outcome State Fault Refusal := .next (s.hostWr aSDF_BANK_DATA w)

/-- BANK_COMMIT (R331). Writing SDF_BANK_CTRL.COMMIT ends loading and makes the bank VALID if its words and GDF are in range. -/
def execBankCommit (s : State) : Host.Outcome State Fault Refusal := .next (s.hostWr aSDF_BANK_CTRL (0x100000 + s.heldWord aSDF_BANK_CTRL))

/-- SDF_CHANNEL_START (R340). Writing SDF_CHn_CFG.EN from 0 to 1 starts a filter channel with cleared chain, or is refused with
ERR. -/
def execSdfChannelStart (n : Nat) (s : State) : Host.Outcome State Fault Refusal :=
  .next (s.hostWrN aSDF_CH_CFG 32 32 n (putBits (s.heldWord (aSDF_CH_CFG + 32 * n)) 31 1 1))

/-- SDF_CHANNEL_STOP (R340). Writing EN from 1 to 0 stops a filter channel at once, deasserting its events and invalidating its
point. -/
def execSdfChannelStop (n : Nat) (s : State) : Host.Outcome State Fault Refusal :=
  .next (s.hostWrN aSDF_CH_CFG 32 32 n (putBits (s.heldWord (aSDF_CH_CFG + 32 * n)) 31 1 0))

/-- INPUT_SWITCH (R338). Writing a new SRC while the channel runs switches its input and starts output suppression. -/
def execInputSwitch (n : Nat) (src : Nat) (s : State) : Host.Outcome State Fault Refusal :=
  .next (s.hostWrN aSDF_CH_CFG 32 32 n (putBits (s.heldWord (aSDF_CH_CFG + 32 * n)) 26 2 src))

/-- POINT_COPY (R369). A write of LOG_PT_SEL copies a process-image point into LOG_PT_D0 to D3 in one cycle. -/
def execPointCopy (n : Nat) (s : State) : Host.Outcome State Fault Refusal := .next (s.hostWr aLOG_PT_SEL n)

/-- HARBOUR_WAKE (R452). Writing PMU_CTRL.WAKE in HARBOUR returns the unit to RUN. -/
def execHarbourWake (s : State) : Host.Outcome State Fault Refusal := .next (s.hostWr aPMU_CTRL 1)

end Sys2Proof.Machine
end

