-- ==== Sys2Proof/Machine/ExecYd.lean ====
section
/-!
DEFINITION. Meanings of the commands: the YD-22 mode (R413 to R438).
-/

namespace Sys2Proof.Machine

/-- YD_SPI_READ (R417). A YD-22 READ transaction returns 16-bit registers from the address given. -/
def execYdSpiRead (addr : Nat) (n : Nat) (s : State) : Host.Outcome State Fault Refusal := .next (s.ydSpiReadOp (addr % 256) n)

/-- YD_SPI_WRITE (R417). A YD-22 WRITE transaction writes 16-bit registers from the address given. -/
def execYdSpiWrite (bs : List Byte) (s : State) : Host.Outcome State Fault Refusal := .next (s.ydSpiWriteOp ([0x02] ++ bs))

/-- YD_PAIR_LOW_READ (R418). A read of the low half of a register pair latches the high half. -/
def execYdPairLowRead (addr : Nat) (s : State) : Host.Outcome State Fault Refusal := .next (s.ydSpiReadOp (addr % 256) 2)

/-- YD_PAIR_LOW_WRITE (R418). A write of the low half of a register pair is held. -/
def execYdPairLowWrite (addr : Nat) (v : Nat) (s : State) : Host.Outcome State Fault Refusal := .next (s.ydSpiWriteOp (ydWriteBytes addr v))

/-- YD_PAIR_HIGH_WRITE (R418). A write of the high half of a register pair loads both halves together. -/
def execYdPairHighWrite (addr : Nat) (v : Nat) (s : State) : Host.Outcome State Fault Refusal :=
  .next (s.ydSpiWriteOp (ydWriteBytes addr v))

/-- YD_STATUS_READ (R419). A host read of YD_STATUS releases HOST_INT_N. -/
def execYdStatusRead (s : State) : Host.Outcome State Fault Refusal := .next (s.ydSpiReadOp 0x03 2)

/-- YD_SPI_ERR_READ (R420). A read of YD_SPI_ERR returns and clears the SPI error count. -/
def execYdSpiErrRead (s : State) : Host.Outcome State Fault Refusal := .next (s.ydSpiReadOp 0xF3 2)

/-- YD_SAVE (R416). Writing YD_CONTROL.SAVE stores the writable registers in the YD-22 flash area. -/
def execYdSave (v : Nat) (s : State) : Host.Outcome State Fault Refusal := .next (s.ydSpiWriteOp (ydWriteBytes 0x02 (putBits v 15 1 1)))

/-- YD_SRST (R421). Writing YD_CONTROL.SRST causes an SRST. -/
def execYdSrst (v : Nat) (s : State) : Host.Outcome State Fault Refusal := .next (s.ydSpiWriteOp (ydWriteBytes 0x02 (putBits v 14 1 1)))

/-- YD_CAPTURE (R421). Writing YD_CONTROL.CAPTURE sets the set-points to the estimate at the next cycle start. -/
def execYdCapture (v : Nat) (s : State) : Host.Outcome State Fault Refusal := .next (s.ydSpiWriteOp (ydWriteBytes 0x02 (putBits v 8 1 1)))

/-- YD_MB_TX_REQ (R434). Setting TX_REQ of a transmit message buffer submits its frame to the firmware queue. -/
def execYdMbTxReq (v : Nat) (s : State) : Host.Outcome State Fault Refusal := .next (s.ydSpiWriteOp (ydWriteBytes 0xC1 (putBits v 13 1 1)))

/-- YD_CYCLE_START (R423). At each C(n) with RUN set CE0 copies registers and inputs, updates availability and forms estimate,
PID and allocation. -/
def execYdCycleStart (dt : Nat) (s : State) : Host.Outcome State Fault Refusal := .next (s.timed dt true State.ydStart)

/-- YD_RELEASE (R424). At C(n) + T_calc the results are released, HOST_INT_N asserted and a master submits its THR_CMD frames.
-/
def execYdRelease (dt : Nat) (s : State) : Host.Outcome State Fault Refusal := .next (s.timed dt true State.ydRelease)

/-- YD_CAN_RX (R433). A YD-22 mode frame is taken by the message set or stored in a matching message buffer. -/
def execYdCanRx (dt : Nat) (n : Nat) (id : Nat) (ide : Bool) (fdf : Bool) (brs : Bool) (dlc : Nat) (data : List Byte) (rtr : Bool) (s : State) :
    Host.Outcome State Fault Refusal :=
  .next (s.timed dt (n < 2) (fun s => s.ydCanAfter (s.ydCanRx n ⟨id, ide, fdf, brs, dlc, data⟩ rtr)))

/-- MASTER_IN_ACCEPT (R435). A MASTER_IN level stable for 2 ms is accepted for the duplex rules. -/
def execMasterInAccept (dt : Nat) (high : Bool) (s : State) : Host.Outcome State Fault Refusal :=
  .next (s.timed dt true (State.ydPin · high))

end Sys2Proof.Machine
end

