-- ==== Sys2Proof/Machine/Dispatch.lean ====
section
/-! DEFINITION. The dispatch: one arm per command. -/

namespace Sys2Proof.Machine

def exec (i : Instr) (s : State) : Host.Outcome State Fault Refusal :=
  match i with
  | .getInfo h => Sys2Proof.Machine.execGetInfo h s
  | .enterConfig h => Sys2Proof.Machine.execEnterConfig h s
  | .leaveConfig h => Sys2Proof.Machine.execLeaveConfig h s
  | .reset h => Sys2Proof.Machine.execReset h s
  | .setRtc h => Sys2Proof.Machine.execSetRtc h s
  | .cfgOpen h => Sys2Proof.Machine.execCfgOpen h s
  | .cfgAbort h => Sys2Proof.Machine.execCfgAbort h s
  | .objStage h => Sys2Proof.Machine.execObjStage h s
  | .objRead h => Sys2Proof.Machine.execObjRead h s
  | .objUnstage h => Sys2Proof.Machine.execObjUnstage h s
  | .cfgCommit h => Sys2Proof.Machine.execCfgCommit h s
  | .cfgRevert h => Sys2Proof.Machine.execCfgRevert h s
  | .imgBegin h => Sys2Proof.Machine.execImgBegin h s
  | .imgAppend h => Sys2Proof.Machine.execImgAppend h s
  | .imgEnd h => Sys2Proof.Machine.execImgEnd h s
  | .imgCancel h => Sys2Proof.Machine.execImgCancel h s
  | .alignCommit h => Sys2Proof.Machine.execAlignCommit h s
  | .alignRevert h => Sys2Proof.Machine.execAlignRevert h s
  | .overlayCommit h => Sys2Proof.Machine.execOverlayCommit h s
  | .setFunction h => Sys2Proof.Machine.execSetFunction h s
  | .setPosition h => Sys2Proof.Machine.execSetPosition h s
  | .setSpeed h => Sys2Proof.Machine.execSetSpeed h s
  | .setLimits h => Sys2Proof.Machine.execSetLimits h s
  | .trackLoad h => Sys2Proof.Machine.execTrackLoad h s
  | .trackAppend h => Sys2Proof.Machine.execTrackAppend h s
  | .setOrigin h => Sys2Proof.Machine.execSetOrigin h s
  | .scenEnable h => Sys2Proof.Machine.execScenEnable h s
  | .thrExclude h => Sys2Proof.Machine.execThrExclude h s
  | .refReadmit h => Sys2Proof.Machine.execRefReadmit h s
  | .setAutoreadmit h => Sys2Proof.Machine.execSetAutoreadmit h s
  | .keyClaim h => Sys2Proof.Machine.execKeyClaim h s
  | .keyTransfer h => Sys2Proof.Machine.execKeyTransfer h s
  | .keyRelinquish h => Sys2Proof.Machine.execKeyRelinquish h s
  | .resync h => Sys2Proof.Machine.execResync h s
  | .disagreeClear h => Sys2Proof.Machine.execDisagreeClear h s
  | .safOpen h => Sys2Proof.Machine.execSafOpen h s
  | .safClose h => Sys2Proof.Machine.execSafClose h s
  | .safPassword h => Sys2Proof.Machine.execSafPassword h s
  | .safCommit h => Sys2Proof.Machine.execSafCommit h s
  | .safAck h => Sys2Proof.Machine.execSafAck h s
  | .safReset h => Sys2Proof.Machine.execSafReset h s
  | .safTrip h => Sys2Proof.Machine.execSafTrip h s
  | .logStart h => Sys2Proof.Machine.execLogStart h s
  | .logStop h => Sys2Proof.Machine.execLogStop h s
  | .logExchange h => Sys2Proof.Machine.execLogExchange h s
  | .logChange h => Sys2Proof.Machine.execLogChange h s
  | .ptWrite h => Sys2Proof.Machine.execPtWrite h s
  | .gnsSnap h => Sys2Proof.Machine.execGnsSnap h s
  | .gnsForget h => Sys2Proof.Machine.execGnsForget h s
  | .canSend h => Sys2Proof.Machine.execCanSend h s
  | .uartSend h => Sys2Proof.Machine.execUartSend h s
  | .sdfStart h => Sys2Proof.Machine.execSdfStart h s
  | .sdfStop h => Sys2Proof.Machine.execSdfStop h s
  | .pnlUpdate h => Sys2Proof.Machine.execPnlUpdate h s
  | .pnlResume h => Sys2Proof.Machine.execPnlResume h s
  | .harvest h => Sys2Proof.Machine.execHarvest h s
  | .recCtrl h => Sys2Proof.Machine.execRecCtrl h s
  | .recRead h => Sys2Proof.Machine.execRecRead h s
  | .ledgerRead h => Sys2Proof.Machine.execLedgerRead h s
  | .readmit h => Sys2Proof.Machine.execReadmit h s
  | .replayEnter h => Sys2Proof.Machine.execReplayEnter h s
  | .replayFeed h => Sys2Proof.Machine.execReplayFeed h s
  | .replayExit h => Sys2Proof.Machine.execReplayExit h s
  | .pwrState h => Sys2Proof.Machine.execPwrState h s
  | .doorbell v => Sys2Proof.Machine.execDoorbell v s
  | .hifRspCiWrite v => Sys2Proof.Machine.execHifRspCiWrite v s
  | .hifEvtCiWrite v => Sys2Proof.Machine.execHifEvtCiWrite v s
  | .spiRead quad addr n => Sys2Proof.Machine.execSpiRead quad addr n s
  | .spiWrite quad addr bs => Sys2Proof.Machine.execSpiWrite quad addr bs s
  | .spiStatus quad => Sys2Proof.Machine.execSpiStatus quad s
  | .enterQuad quad => Sys2Proof.Machine.execEnterQuad quad s
  | .exitQuad quad => Sys2Proof.Machine.execExitQuad quad s
  | .registerWrite a bs => Sys2Proof.Machine.execRegisterWrite a bs s
  | .timIncIntWrite v => Sys2Proof.Machine.execTimIncIntWrite v s
  | .contextEnable n => Sys2Proof.Machine.execContextEnable n s
  | .contextDisable n => Sys2Proof.Machine.execContextDisable n s
  | .scxStatRead n => Sys2Proof.Machine.execScxStatRead n s
  | .netPortStatRead n => Sys2Proof.Machine.execNetPortStatRead n s
  | .canStatRead n => Sys2Proof.Machine.execCanStatRead n s
  | .canCntRead n => Sys2Proof.Machine.execCanCntRead n s
  | .canUcntRead n => Sys2Proof.Machine.execCanUcntRead n s
  | .logTaskTimeRead n => Sys2Proof.Machine.execLogTaskTimeRead n s
  | .logTaskCntRead n => Sys2Proof.Machine.execLogTaskCntRead n s
  | .canInitEnter n => Sys2Proof.Machine.execCanInitEnter n s
  | .canInitLeave n => Sys2Proof.Machine.execCanInitLeave n s
  | .filterWrite n idx => Sys2Proof.Machine.execFilterWrite n idx s
  | .filterRead n idx => Sys2Proof.Machine.execFilterRead n idx s
  | .rxqAck n q k => Sys2Proof.Machine.execRxqAck n q k s
  | .txAbort n mask => Sys2Proof.Machine.execTxAbort n mask s
  | .bankOpen b addr => Sys2Proof.Machine.execBankOpen b addr s
  | .bankDataWrite w => Sys2Proof.Machine.execBankDataWrite w s
  | .sdfChannelStart n => Sys2Proof.Machine.execSdfChannelStart n s
  | .sdfChannelStop n => Sys2Proof.Machine.execSdfChannelStop n s
  | .inputSwitch n src => Sys2Proof.Machine.execInputSwitch n src s
  | .pointCopy n => Sys2Proof.Machine.execPointCopy n s
  | .frameBoundary dt meas => Sys2Proof.Machine.execFrameBoundary dt meas s
  | .slewEnd dt => Sys2Proof.Machine.execSlewEnd dt s
  | .cutoff dt => Sys2Proof.Machine.execCutoff dt s
  | .fusionPhase dt => Sys2Proof.Machine.execFusionPhase dt s
  | .observerCommit dt => Sys2Proof.Machine.execObserverCommit dt s
  | .controlLaw dt => Sys2Proof.Machine.execControlLaw dt s
  | .allocationPhase dt => Sys2Proof.Machine.execAllocationPhase dt s
  | .slotReturn dt slot => Sys2Proof.Machine.execSlotReturn dt slot s
  | .solveDeadline dt slot n fact => Sys2Proof.Machine.execSolveDeadline dt slot n fact s
  | .mpcSolveStop dt which cut n fact => Sys2Proof.Machine.execMpcSolveStop dt which cut n fact s
  | .mpcCommit dt => Sys2Proof.Machine.execMpcCommit dt s
  | .scenarioMpcDone dt => Sys2Proof.Machine.execScenarioMpcDone dt s
  | .crossCheck dt chans => Sys2Proof.Machine.execCrossCheck dt chans s
  | .sf5Compare dt bad => Sys2Proof.Machine.execSf5Compare dt bad s
  | .dispatch dt => Sys2Proof.Machine.execDispatch dt s
  | .phaseLate dt ph => Sys2Proof.Machine.execPhaseLate dt ph s
  | .sf4Check dt => Sys2Proof.Machine.execSf4Check dt s
  | .retroSupplementSend dt => Sys2Proof.Machine.execRetroSupplementSend dt s
  | .controllerStatusSend dt => Sys2Proof.Machine.execControllerStatusSend dt s
  | .retroPass dt => Sys2Proof.Machine.execRetroPass dt s
  | .retroPassDone dt => Sys2Proof.Machine.execRetroPassDone dt s
  | .retroAbort dt => Sys2Proof.Machine.execRetroAbort dt s
  | .engineTestSlice dt pass => Sys2Proof.Machine.execEngineTestSlice dt pass s
  | .allocRecordWrite dt => Sys2Proof.Machine.execAllocRecordWrite dt s
  | .keystoneDecision dt => Sys2Proof.Machine.execKeystoneDecision dt s
  | .transferExecute dt => Sys2Proof.Machine.execTransferExecute dt s
  | .handback dt => Sys2Proof.Machine.execHandback dt s
  | .leaseRx dt n bs => Sys2Proof.Machine.execLeaseRx dt n bs s
  | .spanDown dt n => Sys2Proof.Machine.execSpanDown dt n s
  | .spanUp dt n => Sys2Proof.Machine.execSpanUp dt n s
  | .pathLoss dt => Sys2Proof.Machine.execPathLoss dt s
  | .manifestRx dt n bs => Sys2Proof.Machine.execManifestRx dt n bs s
  | .manifestTimeout dt => Sys2Proof.Machine.execManifestTimeout dt s
  | .commandPduRx dt n bs => Sys2Proof.Machine.execCommandPduRx dt n bs s
  | .stateImageRx dt n bs => Sys2Proof.Machine.execStateImageRx dt n bs s
  | .catchUpDone dt => Sys2Proof.Machine.execCatchUpDone dt s
  | .resyncFail dt => Sys2Proof.Machine.execResyncFail dt s
  | .healthRecompute dt ecc => Sys2Proof.Machine.execHealthRecompute dt ecc s
  | .imageCrcCheck dt bad => Sys2Proof.Machine.execImageCrcCheck dt bad s
  | .refineMinute dt => Sys2Proof.Machine.execRefineMinute dt s
  | .samplePduRx dt n bs => Sys2Proof.Machine.execSamplePduRx dt n bs s
  | .statusPduRx dt n bs => Sys2Proof.Machine.execStatusPduRx dt n bs s
  | .harvestPduRx dt n bs => Sys2Proof.Machine.execHarvestPduRx dt n bs s
  | .announceRx dt a => Sys2Proof.Machine.execAnnounceRx dt a s
  | .announceTimeout dt dom => Sys2Proof.Machine.execAnnounceTimeout dt dom s
  | .syncRx dt m => Sys2Proof.Machine.execSyncRx dt m s
  | .delayRespRx dt m => Sys2Proof.Machine.execDelayRespRx dt m s
  | .transitionEnd dt => Sys2Proof.Machine.execTransitionEnd dt s
  | .primaryRevert dt => Sys2Proof.Machine.execPrimaryRevert dt s
  | .datagram450Rx dt n addr port bs => Sys2Proof.Machine.execDatagram450Rx dt n addr port bs s
  | .uartCharacterRx dt n c err => Sys2Proof.Machine.execUartCharacterRx dt n c err s
  | .uartBreak dt n => Sys2Proof.Machine.execUartBreak dt n s
  | .canFrameRx dt n id ide fdf brs dlc data esi rtr stamp => Sys2Proof.Machine.execCanFrameRx dt n id ide fdf brs dlc data esi rtr stamp s
  | .canTxLoad dt n => Sys2Proof.Machine.execCanTxLoad dt n s
  | .canTxDone dt n how kind sof => Sys2Proof.Machine.execCanTxDone dt n how kind sof s
  | .canInitAck dt n => Sys2Proof.Machine.execCanInitAck dt n s
  | .canIntegration dt n => Sys2Proof.Machine.execCanIntegration dt n s
  | .busOff dt n => Sys2Proof.Machine.execBusOff dt n s
  | .busOffRecovery dt n => Sys2Proof.Machine.execBusOffRecovery dt n s
  | .gnssSolution dt a b h => Sys2Proof.Machine.execGnssSolution dt a b h s
  | .rtcmFrameRx dt src num bs => Sys2Proof.Machine.execRtcmFrameRx dt src num bs s
  | .ambiguityFixed dt ant ratio => Sys2Proof.Machine.execAmbiguityFixed dt ant ratio s
  | .channelAllocation dt duty sky => Sys2Proof.Machine.execChannelAllocation dt duty sky s
  | .channelLostTimeout dt => Sys2Proof.Machine.execChannelLostTimeout dt s
  | .gnssIfLost dt n => Sys2Proof.Machine.execGnssIfLost dt n s
  | .gnssHoldover dt => Sys2Proof.Machine.execGnssHoldover dt s
  | .tpSecond dt => Sys2Proof.Machine.execTpSecond dt s
  | .tpRecordWrite dt => Sys2Proof.Machine.execTpRecordWrite dt s
  | .timePulse dt => Sys2Proof.Machine.execTimePulse dt s
  | .snapDone dt samples => Sys2Proof.Machine.execSnapDone dt samples s
  | .harbourSnapshot dt fix samples => Sys2Proof.Machine.execHarbourSnapshot dt fix samples s
  | .sdfOutput dt ch bits => Sys2Proof.Machine.execSdfOutput dt ch bits s
  | .sdfThreshold dt ch bits => Sys2Proof.Machine.execSdfThreshold dt ch bits s
  | .modFault dt ch bits => Sys2Proof.Machine.execModFault dt ch bits s
  | .modFaultClear dt ch bits => Sys2Proof.Machine.execModFaultClear dt ch bits s
  | .logicCycleStart dt => Sys2Proof.Machine.execLogicCycleStart dt s
  | .logicCycleDone dt t us => Sys2Proof.Machine.execLogicCycleDone dt t us s
  | .logicWatchdog dt => Sys2Proof.Machine.execLogicWatchdog dt s
  | .programExchange dt => Sys2Proof.Machine.execProgramExchange dt s
  | .panelFrame dt => Sys2Proof.Machine.execPanelFrame dt s
  | .crackMeasure dt r => Sys2Proof.Machine.execCrackMeasure dt r s
  | .estopChange dt la lb ra rb => Sys2Proof.Machine.execEstopChange dt la lb ra rb s
  | .tripPropagate dt => Sys2Proof.Machine.execTripPropagate dt s
  | .discTimeout dt => Sys2Proof.Machine.execDiscTimeout dt s
  | .safeRstRelease dt => Sys2Proof.Machine.execSafeRstRelease dt s
  | .ackWindowExpiry dt => Sys2Proof.Machine.execAckWindowExpiry dt s
  | .testPulse dt ch stuck => Sys2Proof.Machine.execTestPulse dt ch stuck s
  | .outputFault dt ch => Sys2Proof.Machine.execOutputFault dt ch s
  | .channelFault dt ch kind => Sys2Proof.Machine.execChannelFault dt ch kind s
  | .safetyWatchdog dt ch => Sys2Proof.Machine.execSafetyWatchdog dt ch s
  | .safSessionTimeout dt => Sys2Proof.Machine.execSafSessionTimeout dt s
  | .cfgSessionTimeout dt => Sys2Proof.Machine.execCfgSessionTimeout dt s
  | .transferTimeout dt => Sys2Proof.Machine.execTransferTimeout dt s
  | .engineHardError dt e hard => Sys2Proof.Machine.execEngineHardError dt e hard s
  | .eccUncorrectable dt region idx => Sys2Proof.Machine.execEccUncorrectable dt region idx s
  | .leakTick dt => Sys2Proof.Machine.execLeakTick dt s
  | .harvestIn dt => Sys2Proof.Machine.execHarvestIn dt s
  | .harvestLatch dt => Sys2Proof.Machine.execHarvestLatch dt s
  | .ledgerCommit dt => Sys2Proof.Machine.execLedgerCommit dt s
  | .recBlockWrite dt => Sys2Proof.Machine.execRecBlockWrite dt s
  | .recBlockSend dt => Sys2Proof.Machine.execRecBlockSend dt s
  | .recCheckpoint dt => Sys2Proof.Machine.execRecCheckpoint dt s
  | .replayFrame dt => Sys2Proof.Machine.execReplayFrame dt s
  | .supplyWarning dt rail mv => Sys2Proof.Machine.execSupplyWarning dt rail mv s
  | .dipRecovery dt rail mv low => Sys2Proof.Machine.execDipRecovery dt rail mv low s
  | .domainShed dt => Sys2Proof.Machine.execDomainShed dt s
  | .domainRestore dt => Sys2Proof.Machine.execDomainRestore dt s
  | .clockMonitorSecond dt warn => Sys2Proof.Machine.execClockMonitorSecond dt warn s
  | .por dt => Sys2Proof.Machine.execPor dt s
  | .railTimeout dt rail => Sys2Proof.Machine.execRailTimeout dt rail s
  | .resetRelease dt yd host => Sys2Proof.Machine.execResetRelease dt yd host s
  | .bor dt src mv ov led prog ok => Sys2Proof.Machine.execBor dt src mv ov led prog ok s
  | .vinOff dt => Sys2Proof.Machine.execVinOff dt s
  | .xrst dt yd host => Sys2Proof.Machine.execXrst dt yd host s
  | .wdr dt => Sys2Proof.Machine.execWdr dt s
  | .srst dt => Sys2Proof.Machine.execSrst dt s
  | .drst dt => Sys2Proof.Machine.execDrst dt s
  | .safr dt => Sys2Proof.Machine.execSafr dt s
  | .wake dt src => Sys2Proof.Machine.execWake dt src s
  | .bootDone dt fail => Sys2Proof.Machine.execBootDone dt fail s
  | .trialTimeout dt => Sys2Proof.Machine.execTrialTimeout dt s
  | .ydSpiRead addr n => Sys2Proof.Machine.execYdSpiRead addr n s
  | .ydSpiWrite bs => Sys2Proof.Machine.execYdSpiWrite bs s
  | .ydPairLowRead addr => Sys2Proof.Machine.execYdPairLowRead addr s
  | .ydPairLowWrite addr v => Sys2Proof.Machine.execYdPairLowWrite addr v s
  | .ydPairHighWrite addr v => Sys2Proof.Machine.execYdPairHighWrite addr v s
  | .ydSave v => Sys2Proof.Machine.execYdSave v s
  | .ydSrst v => Sys2Proof.Machine.execYdSrst v s
  | .ydCapture v => Sys2Proof.Machine.execYdCapture v s
  | .ydMbTxReq v => Sys2Proof.Machine.execYdMbTxReq v s
  | .ydCycleStart dt => Sys2Proof.Machine.execYdCycleStart dt s
  | .ydRelease dt => Sys2Proof.Machine.execYdRelease dt s
  | .ydCanRx dt n id ide fdf brs dlc data rtr => Sys2Proof.Machine.execYdCanRx dt n id ide fdf brs dlc data rtr s
  | .masterInAccept dt high => Sys2Proof.Machine.execMasterInAccept dt high s
  | .portLinkChange dt n up fast errs => Sys2Proof.Machine.execPortLinkChange dt n up fast errs s
  | .arpIcmpIgmpRx dt n f => Sys2Proof.Machine.execArpIcmpIgmpRx dt n f s
  | .delayReqRx dt m => Sys2Proof.Machine.execDelayReqRx dt m s
  | .ptpMessageInterval dt port domain what => Sys2Proof.Machine.execPtpMessageInterval dt port domain what s
  | .canBusError dt n kind eight => Sys2Proof.Machine.execCanBusError dt n kind eight s
  | .signalAcquired dt ch => Sys2Proof.Machine.execSignalAcquired dt ch s
  | .trackLock dt ch => Sys2Proof.Machine.execTrackLock dt ch s
  | .lockLost dt ch => Sys2Proof.Machine.execLockLost dt ch s
  | .navigationData dt m => Sys2Proof.Machine.execNavigationData dt m s
  | .gnssIfActive dt n => Sys2Proof.Machine.execGnssIfActive dt n s
  | .safeRstPress dt => Sys2Proof.Machine.execSafeRstPress dt s
  | .holdUpCharged dt => Sys2Proof.Machine.execHoldUpCharged dt s
  | .vinReturn dt => Sys2Proof.Machine.execVinReturn dt s
  | .d0Lost dt => Sys2Proof.Machine.execD0Lost dt s
  | .uartTxDone dt n => Sys2Proof.Machine.execUartTxDone dt n s
  | .commandIntake => Sys2Proof.Machine.execCommandIntake s
  | .pcieReset => Sys2Proof.Machine.execPcieReset s
  | .timNowLoRead => Sys2Proof.Machine.execTimNowLoRead s
  | .timCntSpecRead => Sys2Proof.Machine.execTimCntSpecRead s
  | .timCntRetroRead => Sys2Proof.Machine.execTimCntRetroRead s
  | .timSrvCntRead => Sys2Proof.Machine.execTimSrvCntRead s
  | .fusCntRead => Sys2Proof.Machine.execFusCntRead s
  | .cexCntRead => Sys2Proof.Machine.execCexCntRead s
  | .slvCntRead => Sys2Proof.Machine.execSlvCntRead s
  | .slvCnt2Read => Sys2Proof.Machine.execSlvCnt2Read s
  | .redCntRead => Sys2Proof.Machine.execRedCntRead s
  | .safCntRead => Sys2Proof.Machine.execSafCntRead s
  | .gnsRtcmCntRead => Sys2Proof.Machine.execGnsRtcmCntRead s
  | .gnsSnapStatRead => Sys2Proof.Machine.execGnsSnapStatRead s
  | .gnsCntRead => Sys2Proof.Machine.execGnsCntRead s
  | .gnsClkBLoRead => Sys2Proof.Machine.execGnsClkBLoRead s
  | .netPierErrRead => Sys2Proof.Machine.execNetPierErrRead s
  | .netPierDupRead => Sys2Proof.Machine.execNetPierDupRead s
  | .net450CntRead => Sys2Proof.Machine.execNet450CntRead s
  | .logOnlRead => Sys2Proof.Machine.execLogOnlRead s
  | .hifCntRead => Sys2Proof.Machine.execHifCntRead s
  | .pmuDipRead => Sys2Proof.Machine.execPmuDipRead s
  | .pmuShedRead => Sys2Proof.Machine.execPmuShedRead s
  | .pmuVmonRead => Sys2Proof.Machine.execPmuVmonRead s
  | .pmuCntRead => Sys2Proof.Machine.execPmuCntRead s
  | .diaHarvRead => Sys2Proof.Machine.execDiaHarvRead s
  | .diaRecWpLoRead => Sys2Proof.Machine.execDiaRecWpLoRead s
  | .diaRecLostRead => Sys2Proof.Machine.execDiaRecLostRead s
  | .diaRplCntRead => Sys2Proof.Machine.execDiaRplCntRead s
  | .pnlCntRead => Sys2Proof.Machine.execPnlCntRead s
  | .pnlBalcntRead => Sys2Proof.Machine.execPnlBalcntRead s
  | .snapRelease => Sys2Proof.Machine.execSnapRelease s
  | .bankCommit => Sys2Proof.Machine.execBankCommit s
  | .harbourWake => Sys2Proof.Machine.execHarbourWake s
  | .ydStatusRead => Sys2Proof.Machine.execYdStatusRead s
  | .ydSpiErrRead => Sys2Proof.Machine.execYdSpiErrRead s

end Sys2Proof.Machine
end

