-- ==== Sys2Proof/Safety.lean ====
section
/-!
DEFINITION. What counts as sound: the canonical form of the stores, and the invariants statements are made about.
-/

namespace Sys2Proof.Machine

/-- The canonical form of memory: addresses strictly rising, no entry equal to what an unlisted address reads as. -/
def Memory.wf (m : Tab Byte) : Bool := tabWf memDflt m

/-- The canonical form of a register file: addresses strictly rising, no entry equal to its reset word. -/
def RegFile.wf (r : RegFile) : Bool := tabWf regReset r

/-- The register file of the replay in progress is canonical. -/
def State.rplWf (s : State) : Bool := match s.dia.rpl with | some r => RegFile.wf r.regs | none => true

/-- The stores are canonical: memory, the registers, and the registers of a replay in progress. -/
def State.storesWf (s : State) : Bool := Memory.wf s.mem && RegFile.wf s.regs && s.rplWf

/-! ## Frames

What a command leaves alone, by the parts of the state. -/

/-- `s` with the parts of a mask blanked: bit i of the mask is field i of the state, in the order `State` lists them. -/
def State.frame (m : Nat) (s : State) : State where
  pending := s.pending
  out := if m.testBit 1 then State.reset.out else s.out
  free := if m.testBit 2 then State.reset.free else s.free
  pwr := if m.testBit 3 then State.reset.pwr else s.pwr
  op := if m.testBit 4 then State.reset.op else s.op
  role := if m.testBit 5 then State.reset.role else s.role
  regs := if m.testBit 6 then State.reset.regs else s.regs
  mem := if m.testBit 7 then State.reset.mem else s.mem
  time := if m.testBit 8 then State.reset.time else s.time
  cfg := if m.testBit 9 then State.reset.cfg else s.cfg
  flash := if m.testBit 10 then State.reset.flash else s.flash
  hif := if m.testBit 11 then State.reset.hif else s.hif
  sys := if m.testBit 12 then State.reset.sys else s.sys
  d0 := if m.testBit 13 then State.reset.d0 else s.d0
  fch := if m.testBit 14 then State.reset.fch else s.fch
  alarms := if m.testBit 15 then State.reset.alarms else s.alarms
  diaF := if m.testBit 16 then State.reset.diaF else s.diaF
  recd := if m.testBit 17 then State.reset.recd else s.recd
  ctx := if m.testBit 18 then State.reset.ctx else s.ctx
  retro := if m.testBit 19 then State.reset.retro else s.retro
  fus := if m.testBit 20 then State.reset.fus else s.fus
  cex := if m.testBit 21 then State.reset.cex else s.cex
  slv := if m.testBit 22 then State.reset.slv else s.slv
  net := if m.testBit 23 then State.reset.net else s.net
  red := if m.testBit 24 then State.reset.red else s.red
  saf := if m.testBit 25 then State.reset.saf else s.saf
  gns := if m.testBit 26 then State.reset.gns else s.gns
  can := if m.testBit 27 then State.reset.can else s.can
  sdf := if m.testBit 28 then State.reset.sdf else s.sdf
  lgc := if m.testBit 29 then State.reset.lgc else s.lgc
  dia := if m.testBit 30 then State.reset.dia else s.dia
  pnl := if m.testBit 31 then State.reset.pnl else s.pnl
  yd := if m.testBit 32 then State.reset.yd else s.yd

/-- `t` has every part of `s` but those of the mask. -/
def Same (m : Nat) (s t : State) : Prop := t.frame m = s.frame m

/-- The parts of the state beside the queue, each under the name `State` gives it. -/
inductive Part where
  | out | free | pwr | op | role | regs | mem | time | cfg | flash | hif
  | sys | d0 | fch | alarms | diaF | recd | ctx | retro | fus | cex | slv
  | net | red | saf | gns | can | sdf | lgc | dia | pnl | yd
  deriving DecidableEq, Repr

/-- Every part, in the order `State` lists them. -/
def Part.all : List Part :=
  [.out, .free, .pwr, .op, .role, .regs, .mem, .time, .cfg, .flash, .hif, .sys, .d0, .fch, .alarms, .diaF,
   .recd, .ctx, .retro, .fus, .cex, .slv, .net, .red, .saf, .gns, .can, .sdf, .lgc, .dia, .pnl, .yd]

/-- The mask of a list of parts. -/
def maskOf (ps : List Part) : Nat := ps.foldl (fun m p => m ||| 2 ^ (Part.all.idxOf p + 1)) 0

/-- What reporting changes: outputs, registers, the rings in memory, the host interface, the recorder's staging; and what time
changes. -/
def shown : List Part := [.out, .regs, .mem, .time, .hif, .sys, .recd]

/-- Every part but some. -/
def allBut (ps : List Part) : List Part := Part.all.filter (fun p => !ps.contains p)

/-- The parts of the state a command may change; the others stand as they were, whatever state it meets. -/
def touches : Instr → List Part
  | .pcieReset .. => [.sys]
  | .ydSpiRead .. | .ydPairLowRead .. | .ydStatusRead .. | .ydSpiErrRead .. => [.out, .yd]
  | .vinReturn .. | .d0Lost .. => [.time, .sys]
  | .slewEnd .. | .uartBreak .. | .ackWindowExpiry .. => [.regs, .time, .sys]
  | .ambiguityFixed .. => [.time, .sys, .gns]
  | .vinOff .. => [.pwr, .time, .sys]
  | .masterInAccept .. => [.time, .sys, .yd]
  | .arpIcmpIgmpRx .. | .delayReqRx .. => [.out, .time, .sys]
  | .slotReturn .. => [.regs, .time, .sys, .slv]
  | .controllerStatusSend .. => [.out, .time, .sys, .net]
  | .refineMinute .. => [.regs, .time, .sys, .fus]
  | .delayRespRx .. | .transitionEnd .. => [.regs, .time, .sys, .net]
  | .canIntegration .. | .canBusError .. => [.regs, .time, .sys, .yd]
  | .rtcmFrameRx .. | .channelAllocation .. | .channelLostTimeout .. | .signalAcquired .. | .trackLock ..
  | .lockLost .. | .navigationData .. => [.regs, .time, .sys, .gns]
  | .timePulse .. => [.out, .time, .sys, .gns]
  | .logicCycleDone .. => [.regs, .time, .sys, .lgc]
  | .tripPropagate .. => [.regs, .time, .sys, .saf]
  | .leakTick .. => [.time, .sys, .fch, .dia]
  | .ledgerCommit .. | .railTimeout .. => [.mem, .time, .sys, .d0]
  | .recCheckpoint .. => [.regs, .time, .sys, .recd]
  | .supplyWarning .. => [.regs, .time, .sys, .red]
  | .uartTxDone .. => [.out, .time, .sys, .can]
  | .solveDeadline .. | .mpcSolveStop .. => [.free, .regs, .time, .sys, .slv]
  | .retroPass .. => [.regs, .time, .sys, .retro, .cex]
  | .canTxLoad .. | .canInitAck .. | .busOffRecovery .. => [.regs, .time, .sys, .can, .yd]
  | .recBlockSend .. => [.out, .regs, .time, .sys, .recd]
  | .clockMonitorSecond .. => [.regs, .time, .sys, .red, .yd]
  | .safr .. => [.regs, .time, .cfg, .sys, .saf]
  | .trialTimeout .. => [.regs, .time, .flash, .sys, .d0]
  | .ydCanRx .. => [.free, .regs, .time, .sys, .yd]
  | .ptpMessageInterval .. => [.out, .regs, .time, .sys, .net]
  | .scxStatRead .. | .netPortStatRead .. | .canStatRead .. | .canCntRead .. | .canUcntRead ..
  | .logTaskTimeRead .. | .logTaskCntRead .. | .timNowLoRead .. | .timCntSpecRead .. | .timCntRetroRead ..
  | .timSrvCntRead .. | .fusCntRead .. | .cexCntRead .. | .slvCntRead .. | .slvCnt2Read .. | .redCntRead ..
  | .safCntRead .. | .gnsRtcmCntRead .. | .gnsSnapStatRead .. | .gnsCntRead .. | .gnsClkBLoRead ..
  | .netPierErrRead .. | .netPierDupRead .. | .net450CntRead .. | .logOnlRead .. | .hifCntRead ..
  | .pmuDipRead .. | .pmuShedRead .. | .pmuVmonRead .. | .pmuCntRead .. | .diaHarvRead .. | .diaRecWpLoRead ..
  | .diaRecLostRead .. | .diaRplCntRead .. | .pnlCntRead .. | .pnlBalcntRead .. => [.out, .regs, .sys, .d0, .gns, .dia]
  | .retroPassDone .. => [.regs, .time, .sys, .retro, .cex, .red]
  | .allocRecordWrite .. => [.regs, .mem, .time, .sys, .recd, .slv]
  | .harvestPduRx .. => [.regs, .time, .sys, .recd, .net, .dia]
  | .recBlockWrite .. => [.free, .regs, .mem, .time, .sys, .recd]
  | .ydCycleStart .. => [.free, .regs, .time, .sys, .d0, .yd]
  | .ydRelease .. => [.regs, .time, .sys, .d0, .can, .yd]
  | .retroSupplementSend .. => [.out, .regs, .time, .sys, .recd, .retro, .net]
  | .harvestIn .. => [.out, .regs, .time, .sys, .diaF, .net, .dia]
  | .retroAbort .. => shown ++ [.cex]
  | .commandPduRx .. => [.regs, .time, .sys, .d0, .recd, .slv, .net, .red]
  | .resyncFail .. => shown ++ [.red]
  | .primaryRevert .. => shown ++ [.net]
  | .tpRecordWrite .. => shown ++ [.gns]
  | .snapDone .. => shown ++ [.dia]
  | .panelFrame .. => shown ++ [.pnl]
  | .ydSpiWrite .. | .ydPairLowWrite .. | .ydPairHighWrite .. | .ydSave .. | .ydSrst .. | .ydCapture ..
  | .ydMbTxReq .. => [.out, .free, .regs, .flash, .sys, .d0, .can, .yd]
  | .gnssIfActive .. => shown ++ [.alarms]
  | .scenarioMpcDone .. => shown ++ [.alarms, .slv]
  | .spanUp .. => shown ++ [.alarms, .red]
  | .healthRecompute .. => shown ++ [.red, .yd]
  | .announceRx .. | .announceTimeout .. => shown ++ [.alarms, .net]
  | .gnssIfLost .. | .gnssHoldover .. | .tpSecond .. => shown ++ [.alarms, .gns]
  | .harbourSnapshot .. => shown ++ [.gns, .dia]
  | .logicCycleStart .. => shown ++ [.can, .lgc]
  | .logicWatchdog .. => shown ++ [.alarms, .lgc]
  | .crackMeasure .. => shown ++ [.alarms, .pnl]
  | .discTimeout .. => shown ++ [.alarms, .saf]
  | .dispatch .. => shown ++ [.slv, .net, .saf]
  | .domainRestore .. => shown ++ [.alarms, .gns, .lgc]
  | .portLinkChange .. => shown ++ [.d0, .fch, .alarms]
  | .controlLaw .. => shown ++ [.alarms, .ctx, .cex, .red]
  | .spanDown .. => shown ++ [.d0, .fch, .alarms, .red]
  | .harvestLatch .. => shown ++ [.free, .d0, .gns, .dia]
  | .canTxDone .. | .busOff .. => shown ++ [.d0, .fch, .alarms, .can, .yd]
  | .domainShed .. => shown ++ [.alarms, .gns, .lgc, .pnl, .yd]
  | .keystoneDecision .. | .transferExecute .. | .handback .. | .pathLoss .. =>
    shown ++ [.op, .role, .d0, .alarms, .red, .saf]
  | .imageCrcCheck .. => shown ++ [.d0, .alarms, .fus, .slv, .lgc, .yd]
  | .leaseRx .. => shown ++ [.op, .role, .d0, .alarms, .net, .red, .saf]
  | .stateImageRx .. => shown ++ [.retro, .fus, .cex, .slv, .net, .red, .lgc]
  | .samplePduRx .. | .datagram450Rx .. => shown ++ [.free, .d0, .fch, .alarms, .ctx, .retro, .net]
  | .statusPduRx .. => shown ++ [.d0, .alarms, .cex, .slv, .net, .red, .saf]
  | .uartCharacterRx .. => shown ++ [.free, .d0, .fch, .alarms, .ctx, .retro, .can]
  | .canFrameRx .. => shown ++ [.free, .d0, .fch, .alarms, .ctx, .retro, .yd]
  | .mpcCommit .. => shown ++ [.op, .role, .d0, .alarms, .cex, .slv, .red, .saf]
  | .sf4Check .. | .estopChange .. | .safeRstRelease .. | .testPulse .. | .outputFault .. | .channelFault ..
  | .safetyWatchdog .. | .resetRelease .. | .safeRstPress .. =>
    shown ++ [.op, .role, .d0, .alarms, .net, .red, .saf, .dia]
  | .syncRx .. => shown ++ [.free, .cfg, .alarms, .net, .red, .saf, .gns, .dia]
  | .gnssSolution .. => shown ++ [.free, .d0, .fch, .alarms, .ctx, .retro, .gns, .yd]
  | .sdfThreshold .. | .modFault .. | .modFaultClear .. =>
    shown ++ [.op, .role, .d0, .alarms, .net, .red, .saf, .sdf, .dia]
  | .observerCommit .. => shown ++ [.free, .cfg, .flash, .d0, .fch, .alarms, .ctx, .fus, .cex, .slv]
  | .crossCheck .. | .sf5Compare .. => shown ++ [.free, .op, .role, .d0, .alarms, .slv, .net, .red, .saf, .dia]
  | .phaseLate .. => shown ++ [.free, .cfg, .flash, .d0, .fch, .alarms, .ctx, .fus, .cex, .slv, .red]
  | .sdfOutput .. => allBut [.pwr, .cfg, .flash, .diaF, .fus, .cex, .slv, .gns, .can, .lgc, .pnl, .yd]
  | .allocationPhase .. | .engineTestSlice .. | .engineHardError .. =>
    allBut [.pwr, .cfg, .flash, .diaF, .ctx, .retro, .fus, .gns, .can, .sdf, .pnl]
  | .doorbell .. | .hifRspCiWrite .. | .hifEvtCiWrite .. | .spiRead .. | .spiWrite .. | .spiStatus ..
  | .enterQuad .. | .exitQuad .. | .registerWrite .. | .timIncIntWrite .. | .contextEnable ..
  | .contextDisable .. | .canInitEnter .. | .canInitLeave .. | .filterWrite .. | .filterRead .. | .rxqAck ..
  | .txAbort .. | .bankOpen .. | .bankDataWrite .. | .sdfChannelStart .. | .sdfChannelStop .. | .inputSwitch ..
  | .pointCopy .. | .snapRelease .. | .bankCommit .. | .harbourWake .. =>
    allBut [.flash, .fch, .diaF, .retro, .cex, .slv, .lgc, .pnl, .yd]
  | .cutoff .. | .manifestRx .. | .manifestTimeout .. => allBut [.pwr, .diaF, .gns, .can, .sdf, .lgc, .dia, .pnl, .yd]
  | .fusionPhase .. => allBut [.pwr, .cfg, .flash, .diaF, .retro, .gns, .can, .sdf, .pnl]
  | .catchUpDone .. => allBut [.pwr, .diaF, .gns, .sdf, .dia, .pnl, .yd]
  | .drst .. => allBut [.pwr, .flash, .ctx, .retro, .fus, .can]
  | .bootDone .. => allBut [.pwr, .diaF, .retro, .pnl]
  | .por .. | .xrst .. | .srst .. => allBut [.out, .free, .flash]
  | .getInfo .. | .enterConfig .. | .leaveConfig .. | .reset .. | .setRtc .. | .cfgOpen .. | .cfgAbort ..
  | .objStage .. | .objRead .. | .objUnstage .. | .cfgCommit .. | .cfgRevert .. | .imgBegin .. | .imgAppend ..
  | .imgEnd .. | .imgCancel .. | .alignCommit .. | .alignRevert .. | .overlayCommit .. | .setFunction ..
  | .setPosition .. | .setSpeed .. | .setLimits .. | .trackLoad .. | .trackAppend .. | .setOrigin ..
  | .scenEnable .. | .thrExclude .. | .refReadmit .. | .setAutoreadmit .. | .keyClaim .. | .keyTransfer ..
  | .keyRelinquish .. | .resync .. | .disagreeClear .. | .safOpen .. | .safClose .. | .safPassword ..
  | .safCommit .. | .safAck .. | .safReset .. | .safTrip .. | .logStart .. | .logStop .. | .logExchange ..
  | .logChange .. | .ptWrite .. | .gnsSnap .. | .gnsForget .. | .canSend .. | .uartSend .. | .sdfStart ..
  | .sdfStop .. | .pnlUpdate .. | .pnlResume .. | .harvest .. | .recCtrl .. | .recRead .. | .ledgerRead ..
  | .readmit .. | .replayEnter .. | .replayFeed .. | .replayExit .. | .pwrState .. | .programExchange ..
  | .safSessionTimeout .. | .cfgSessionTimeout .. | .transferTimeout .. | .replayFrame .. | .commandIntake .. =>
    allBut [.diaF, .yd]
  | .bor .. => allBut [.out, .flash]
  | .wdr .. => allBut [.out, .free]
  | .wake .. => allBut [.free, .flash]
  | .dipRecovery .. | .holdUpCharged .. => allBut [.diaF]
  | .frameBoundary .. | .eccUncorrectable .. => Part.all

/-! ## What a command reports

Most commands report what they do: records of the event ring, alarms in force, interrupts, recorder and ledger entries
waiting. `Reports s t` says that `t` is `s` but for those: the frame of every statement about a command that raises an
event or answers a host command. -/

/-- The registers reports are shown in: producer indexes, HIF_SEQ, interrupt status, errors and counts (R391, R398), the
recorder's fill and losses, the ledger's losses (R490). -/
def reportReg (a : Nat) : Bool :=
  [aHIF_RSP_PI, aHIF_EVT_PI, aHIF_SEQ, aHIF_INT_STAT, aHIF_ERR, aHIF_CNT, aDIA_REC_STAT, aDIA_REC_LOST, aDIA_LEDGER].contains a

/-- The cells reports are written to: response ring, event ring, response pages. -/
def reportCell (a : Nat) : Bool := [rgnRsp, rgnEvt, rgnXr].contains (a / 2 ^ 32)

/-- `t` is `s` but for what has been reported. -/
structure Reports (s t : State) : Prop where
  rest : t = { s with regs := t.regs, mem := t.mem, out := t.out, alarms := t.alarms, hif := t.hif, recd := t.recd, d0 := t.d0 }
  hif : t.hif = { s.hif with evtSeq := t.hif.evtSeq, evtLost := t.hif.evtLost, held := t.hif.held }
  recd : t.recd = { s.recd with staged := t.recd.staged, gapNew := t.recd.gapNew }
  d0 : t.d0 = { s.d0 with queue := t.d0.queue, lost := t.d0.lost, lostNew := t.d0.lostNew }
  regs : ∀ a, reportReg a = false → t.reg a = s.reg a
  cells : ∀ a, reportCell a = false → t.rd8 a = s.rd8 a

/-! ## What a command does to the host's view -/

/-- `t` is `s` after the host has read the register at `a`: the word it shows has gone out, its RC bits `rc` are clear, and
nothing else has changed (R16, R375). -/
def readClears (s t : State) (a rc : Nat) : Prop :=
  t = { s with out := s.out ++ [⟨s.now, .host, leBytes 4 (s.view a).toNat⟩], regs := t.regs }
    ∧ (t.reg a).toNat = (s.reg a).toNat &&& (2 ^ 32 - 1 - rc) ∧ ∀ b, b ≠ a → t.reg b = s.reg b

/-- `t` is `s` but for the registers at the addresses `as` and UNCOMMITTED, which a write of a configured field sets (R394). -/
def onlyRegs (as : List Nat) (s t : State) : Prop :=
  t = { s with regs := t.regs, cfg := { s.cfg with uncommitted := t.cfg.uncommitted } } ∧ ∀ a, a ∉ as → t.reg a = s.reg a

/-- SV takes a command of opcode `op` and runs it at once: it takes commands and none waits (R382), it is not in recovery mode
(R464), and payload and page have the form of the opcode (steps 1 to 5 of R533). -/
def freeFor (s : State) (op : Nat) (h : HCmd) : Prop :=
  s.mayTake = true ∧ s.hif.taken = [] ∧ s.sys.recovery = false ∧ opForm op h = 0 ∧ s.storesWf = true

/-- The response `r` to a command stands in its slot with its page, PI and HIF_SEQ have counted, and no command waits (R386,
R391). -/
def answered (s t : State) (op : Nat) (h : HCmd) (r : Res) : Prop :=
  let slot := s.fget HIF_RSP_PI.IDX % 64
  t.rdB rgnRsp (slot * 256) 256 = rspBytes op h.tag.toNat ((s.fget HIF_SEQ.SEQ + 1) % 2 ^ 32) r
    ∧ t.rdB rgnXr (slot * 4096) r.page.length = r.page
    ∧ t.fget HIF_RSP_PI.IDX = (s.fget HIF_RSP_PI.IDX + 1) % 2 ^ 16
    ∧ t.fget HIF_SEQ.SEQ = (s.fget HIF_SEQ.SEQ + 1) % 2 ^ 32 ∧ t.hif.taken = []

/-- `t` is `v` but for reports: `v` is the state a command was taken in with the command's effect alone, and naming a session
renews its 600 s (R240, R393). -/
def effect (v t : State) (op : Nat) (h : HCmd) : Prop :=
  Reports (v.touch op h) { t with hif := { t.hif with curTag := v.hif.curTag } }

/-- A command is answered with `r` and leaves `v`. -/
def does (s t : State) (op : Nat) (h : HCmd) (r : Res) (v : State) : Prop := answered s t op h r ∧ effect v t op h

/-- A datagram's UDP port is that of PDU type `ty` (R282). -/
def takesType (s : State) (v : Via) (ty : Nat) : Bool := pduBelongs (decide (4 ≤ v.port)) (v.udp - s.fget NET_PIER_CFG.BASE_PORT) ty

/-- `p` is a PDU of type `ty` that stands in its fields, from another unit, and comes by a way its port takes: the port runs, the datagram is
addressed to the pier traffic, on the UDP port of its type, and on Ethernet it is no repeat of one accepted within 100 ms (R176, R270 to R272,
R282, R283, R285). -/
def takesPdu (s : State) (v : Via) (ty : Nat) (p : Pdu) : Prop :=
  p.type = ty ∧ p.node < 1024 ∧ p.epoch < 2 ^ 32 ∧ p.frame < 2 ^ 32 ∧ p.seq < 2 ^ 32 ∧ p.payload.length < 2 ^ 16
    ∧ p.node ≠ s.ownNode ∧ s.viaOk v (24 + p.payload.length) = true ∧ takesType s v ty = true
    ∧ (4 ≤ v.port ∨ ∀ x ∈ s.net.seen, x.1 = p.node → x.2.1 = ty → x.2.2.1 = p.seq → x.2.2.2 + 100000000 < s.now)

/-- SV has restarted after a reset of kind `k`: BOOT, no role, the host interface silent with nothing waiting, sessions and
transfers closed; flash and D0 stay; after XRST, WDR and SRST TIME_NS and the trip latches stay, after WDR, SRST and a wake from
SLEEP the retired channels, recorder staging and the logic image (R396, R453, R457). -/
def restarted (u t : State) (k : RstKind) : Prop :=
  let time := k = .xrst ∨ k = .wdr ∨ k = .srst
  let warm := k = .wdr ∨ k = .srst ∨ k = .sleepWake
  t.op = .boot ∧ t.role = .none ∧ t.pwr = .run ∧ t.hif.ready = false ∧ t.hif.taken = [] ∧ t.cfg.cfgSess = none ∧ t.cfg.safSess = none
    ∧ t.cfg.xfer = none ∧ t.cfg.staged = [] ∧ t.cfg.safStaged = [] ∧ t.fget PMU_RST_CAUSE.KIND = k.code ∧ t.servo = svFree
    ∧ t.flash = u.flash ∧ t.d0 = { u.d0 with queue := [], lostNew := 0 } ∧ t.hif.pendTags = u.lostTags
    ∧ (time → t.time.ns = u.time.ns ∧ t.time.inc = BitVec.ofNat 40 u.incNow ∧ t.saf.latch = u.saf.latch
        ∧ t.fget SAF_ESTOP.DISC = u.fget SAF_ESTOP.DISC)
    ∧ (¬time → t.time.ns = 0 ∧ t.fget SAF_ESTOP.DISC = 0)
    ∧ (warm → t.recd.staged = u.recd.staged ∧ t.lgc.img = u.lgc.img ∧ t.gns.pos = u.gns.pos)
    ∧ (¬warm → t.recd.staged = [] ∧ t.lgc.img = none ∧ t.gns.pos = u.flash.pos ∧ t.fch = [])
    ∧ (warm → ∀ key, key < 70000 → (t.fltOf (key / 4096) (key % 4096)).retired = (u.fltOf (key / 4096) (key % 4096)).retired)

end Sys2Proof.Machine
end

