-- ==== Sys2Proof/Certificates/Slice0/Obligations.lean ====
section
/-!
DEFINITION. The statements about the block, for the provers: the queue and the frames of all commands, host access, the
host's commands, what the block does on its own, power and resets, the YD-22 mode. `s.advance dt` is the state at the
instant of a command that carries one. Where a docstring ends in log entries, what is the model's own reading or choice in
it is said there (notes/assumptions).
-/

open Sys2Proof Sys2Proof.Machine

/-- One step takes the command at the front of the queue and runs it on the state with the queue's rest. -/
def Obligations.StepRunsFront : Prop :=
  ∀ (c : Instr) (s : State) (rest : List Instr), step { s with pending := c :: rest } = exec c { s with pending := rest }

/-- With no command waiting, one CLK_TS edge passes: the RTC counts it, and so does the time base where CLK_TS runs. Log entries
1, 2. -/
def Obligations.StepIdles : Prop :=
  ∀ s : State, s.pending = [] → ∃ t, step s = .next t
    ∧ t.sys = { s.sys with rtc := s.sys.rtc + 1 } ∧ t.time = (if s.clocked then edges s.time 1 else s.time)
    ∧ t = { s with sys := t.sys, time := t.time }

/-- Every command answers a next state in every state, with the queue of commands waiting as it was: none stops the block. Log
entry 3. -/
def Obligations.CommandsGoOn : Prop := ∀ (c : Instr) (s : State), ∃ t, exec c s = .next t ∧ t.pending = s.pending

/-- Frames: whatever state a command meets, it changes no part of it but those `touches` lists. -/
def Obligations.CommandFrames : Prop := ∀ (c : Instr) (s t : State), exec c s = .next t → Same (maskOf (touches c)) s t

/-- Reset leaves the unit in BOOT with role NONE, no commands taken and no sessions; every trip latch set with cause POWER_ON and
its alarm raised, every SAFE_EN output de-energised; the servo FREE and INC 8 ns; CAN controllers under INIT; GUARD 1,000 µs,
DISC_T 100 ms, KEY_LEASE 5, QUALIFY_N 100, WAKE_N a wake source; the register reset values of HIF_ID, YD_ID and YD_GX_ID (R15,
R33, R53, R174, R190, R210, R218, R234, R278, R302, R398, R420, R457, R467). Log entries 7, 17. -/
def Obligations.ResetLeaves : Prop :=
  let s := State.reset
  s.op = .boot ∧ s.role = .none ∧ s.hif.ready = false ∧ s.cfg.cfgSess = none ∧ s.cfg.safSess = none
    ∧ s.saf.latch = [15, 15] ∧ s.saf.out = [0, 0]
    ∧ (∀ g, g < 4 → s.fget (fldAt SAF_CAUSE.CAUSE g) = 1 ∧ s.hasAlarm 0x08 0x01 g = true)
    ∧ s.servo = svFree ∧ s.incNow = 8 * 2 ^ 32 ∧ s.fget PMU_RST_CAUSE.KIND = 0
    ∧ (∀ n, n < 8 → s.cctrl CAN_CTRL.INIT n = true ∧ s.fget (fldAt CAN_STAT.TEC n) = 0 ∧ s.fget (fldAt CAN_STAT.STATE n) = 0)
    ∧ s.fget TIM_SUP_CFG.GUARD = 1000 ∧ s.fget SAF_CFG.DISC_T = 10 ∧ s.fget RED_CFG.KEY_LEASE = 5
    ∧ s.fget RED_CFG2.QUALIFY_N = 100 ∧ s.fget PMU_WAKE_CFG.WAKE_N_EN = 1
    ∧ s.fget HIF_ID.DEVICE = 0x9160 ∧ s.ydReg 0x00 = 0x2201 ∧ s.ydReg 0xFE = 0x9160

/-- The stores are canonical after reset. -/
def Obligations.ResetStoresCanonical : Prop := State.reset.storesWf = true

/-- Every step keeps the stores canonical: memory, the register file, and the register file of a replay in progress have their
keys strictly rising and no entry equal to what an unlisted key reads as. -/
def Obligations.StepKeepsStores : Prop := ∀ s t : State, s.storesWf = true → step s = .next t → t.storesWf = true

/-- A host read of a counter register returns the word the register shows and clears its RC fields, and does nothing else. Each
line: the command, the register's address, its RC bits. The same of a register of many instances: instance n lies its stride
further on; past the last the address is reserved, reads zero and nothing changes. The reads with an effect of their own
besides: TIM_NOW_LO latches the upper half of TIME_NS (R16, R19), GNS_CLK_B_LO latches the estimate (R268), DIA_REC_WP_LO the
upper half of the recorder's position (R490), PMU_VMON clears its minimum and the rail's (R467), PMU_CNT its counts (R467).
Log entries 108, 195. -/
def Obligations.RegisterReads : Prop :=
  (∀ s : State, s.hostOn = true → s.storesWf = true →
    ∀ c ∈ ([(.timCntSpecRead, 0x902C, 0xFFFFFFFF), (.timCntRetroRead, 0x9030, 0xFFFFFFFF), (.timSrvCntRead, aTIM_SRV_CNT, 0xFFFFFFFF),
        (.fusCntRead, aFUS_CNT, 0xFFFFFFFF), (.cexCntRead, aCEX_CNT, 0xFFFFFFFF), (.slvCntRead, aSLV_CNT, 0xFFFFFFFF),
        (.slvCnt2Read, aSLV_CNT2, 0xFFFFFFFF), (.redCntRead, aRED_CNT, 0xFFFFFFFF), (.safCntRead, aSAF_CNT, 0xFFFFFFFF),
        (.gnsRtcmCntRead, aGNS_RTCM_CNT, 0xFFFFFFFF), (.gnsSnapStatRead, aGNS_SNAP_STAT, 0xFF00), (.gnsCntRead, aGNS_CNT, 0xFFFFFFFF),
        (.netPierErrRead, aNET_PIER_ERR, 0xFFFFFFFF), (.netPierDupRead, aNET_PIER_DUP, 0xFFFFFFFF),
        (.net450CntRead, aNET_450_CNT, 0xFFFFFFFF), (.logOnlRead, aLOG_ONL, 0xFF000000), (.hifCntRead, aHIF_CNT, 0xFFFFFFFF),
        (.pmuDipRead, aPMU_DIP, 0xFF), (.pmuShedRead, aPMU_SHED, 0xFF000000), (.diaHarvRead, aDIA_HARV, 0xFF000000),
        (.diaRecLostRead, aDIA_REC_LOST, 0xFFFFFFFF), (.diaRplCntRead, aDIA_RPL_CNT, 0xFFFFFFFF), (.pnlCntRead, aPNL_CNT, 0xFFFFFFFF),
        (.pnlBalcntRead, aPNL_BALCNT, 0xFFFF)] : List (Instr × Nat × Nat)),
      ∃ t, exec c.1 s = .next t ∧ readClears s t c.2.1 c.2.2)
  ∧ (∀ (s : State) (n : Nat), s.hostOn = true → s.storesWf = true →
    ∀ c ∈ ([(.scxStatRead n, aSCX_STAT, 32, 256, 0xFFFF0000), (.netPortStatRead n, aNET_PORT_STAT, 4, 6, 0xFFFF0000),
        (.canStatRead n, aCAN_STAT, 256, 8, 0xE0), (.canCntRead n, aCAN_CNT, 256, 8, 0xFFFFFFFF),
        (.canUcntRead n, aCAN_UCNT, 16, 16, 0xFFFFFFFF), (.logTaskTimeRead n, aLOG_TASK_TIME, 16, 2, 0xFFFF0000),
        (.logTaskCntRead n, aLOG_TASK_CNT, 16, 2, 0xFFFFFFFF)] : List (Instr × Nat × Nat × Nat × Nat)),
      ∃ t, exec c.1 s = .next t
        ∧ (n < c.2.2.2.1 → readClears s t (c.2.1 + c.2.2.1 * n) c.2.2.2.2)
        ∧ (c.2.2.2.1 ≤ n → t = { s with out := s.out ++ [⟨s.now, .host, [0, 0, 0, 0]⟩] }))
  ∧ (∀ s : State, s.hostOn = true → s.storesWf = true →
    (∃ t, exec .timNowLoRead s = .next t ∧ t.fget TIM_NOW_HI.NOW_HI = s.now / 2 ^ 32
      ∧ t = { s with out := s.out ++ [⟨s.now, .host, leBytes 4 s.now⟩], regs := t.regs } ∧ ∀ b, b ≠ aTIM_NOW_HI → t.reg b = s.reg b)
    ∧ (∃ t, exec .gnsClkBLoRead s = .next t ∧ t.out = s.out ++ [⟨s.now, .host, leBytes 4 (tc 64 s.ppsFold.bPps)⟩]
      ∧ t.fget GNS_CLK_B_HI.B = tc 64 s.ppsFold.bPps / 2 ^ 32 ∧ t.mem = s.mem)
    ∧ (∃ t, exec .diaRecWpLoRead s = .next t ∧ t.dia.recLatch.toNat = s.recd.wp / 2 ^ 32 % 2 ^ 32
      ∧ t.regs = s.regs ∧ t.mem = s.mem)
    ∧ (∃ t, exec .pmuVmonRead s = .next t ∧ t.sys.mvMin = s.sys.mvMin.set (s.fget PMU_VMON_SEL.RAIL) 0xFFFF
      ∧ t.sys = { s.sys with mvMin := t.sys.mvMin } ∧ t.mem = s.mem)
    ∧ (∃ t, exec .pmuCntRead s = .next t ∧ (t.reg aPMU_CNT).toNat = 0 ∧ t.d0 = { s.d0 with holdAbort := 0 } ∧ t.mem = s.mem))

/-- A host write that is no register word goes where R373 and R375 say: bytes of the command ring are stored, the response ring is
write-protected, a register takes aligned words only, and the rest of the host address space is a hole; each of the last three
is discarded and sets its HIF_ERR bit (R376). A host write of a register word: HIF_INT_STAT clears the bits written 1,
HIF_INT_EN takes the bits written, a reserved address takes nothing (R15, R16, R398). Log entry 196. -/
def Obligations.HostWrites : Prop :=
  (∀ (s : State) (a : Nat) (bs : List Byte), s.hostOn = true → s.storesWf = true → bs.length ≤ 8 →
    ∃ t, exec (.registerWrite a bs) s = .next t
      ∧ (0x1000 ≤ a → a < 0x5000 → a + bs.length ≤ 0x5000 → t = { s with mem := t.mem }
          ∧ ∀ c, t.rd8 c = if cell rgnCmd (a - 0x1000) ≤ c ∧ c < cell rgnCmd (a - 0x1000) + bs.length
              then bs.getD (c - cell rgnCmd (a - 0x1000)) 0 else s.rd8 c)
      ∧ (0x5000 ≤ a → a < 0x9000 → Reports s t ∧ t.fbit HIF_ERR.WR_PROT = true)
      ∧ (a < 0x1000 ∨ (0x9000 ≤ a ∧ a < 0x10000) → a % 4 ≠ 0 ∨ bs.length ≠ 4 → Reports s t ∧ t.fbit HIF_ERR.SIZE = true)
      ∧ (0x10000 ≤ a → a < 0x1000000 ∨ 0x2000000 ≤ a → Reports s t ∧ t.fbit HIF_ERR.HOLE = true))
  ∧ (∀ (s : State) (v : Nat), s.hostOn = true → s.storesWf = true →
    (∃ t, exec (.registerWrite aHIF_INT_STAT (leBytes 4 v)) s = .next t ∧ onlyRegs [aHIF_INT_STAT] s t
      ∧ (t.reg aHIF_INT_STAT).toNat = (s.reg aHIF_INT_STAT).toNat &&& (2 ^ 32 - 1 - (v % 2 ^ 32 &&& 0xF)))
    ∧ (∃ t, exec (.registerWrite aHIF_INT_EN (leBytes 4 v)) s = .next t ∧ onlyRegs [aHIF_INT_EN] s t
      ∧ t.fget HIF_INT_EN.EN = v % 16)
    ∧ (∀ a, a < 0x1000 ∨ (0x9000 ≤ a ∧ a < 0x10000) → a % 4 = 0 → regRow a = none →
        exec (.registerWrite a (leBytes 4 v)) s = .next s))

/-- A doorbell and a consumer index are taken when they move forward, by no more than the ring holds; otherwise they are ignored
and set DB_RANGE, and a doorbell before READY sets NOT_READY (R380, R381). -/
def Obligations.RingIndexWrites : Prop :=
  ∀ (s : State) (v : Nat), s.hostOn = true → s.storesWf = true →
    let dist (p c : Nat) : Nat := (p + 2 ^ 16 - c) % 2 ^ 16
    (∃ t, exec (.doorbell v) s = .next t
      ∧ (s.hif.ready = false → Reports s t ∧ t.fbit HIF_ERR.NOT_READY = true)
      ∧ (s.hif.ready = true →
          let back := dist (v % 2 ^ 16) (s.fget HIF_CMD_CI.IDX) < dist (s.fget HIF_CMD_PI.PI) (s.fget HIF_CMD_CI.IDX)
          (back ∨ 64 < dist (v % 2 ^ 16) (s.fget HIF_CMD_CI.IDX) → Reports s t ∧ t.fbit HIF_ERR.DB_RANGE = true)
          ∧ (¬back → dist (v % 2 ^ 16) (s.fget HIF_CMD_CI.IDX) ≤ 64 → onlyRegs [aHIF_CMD_PI] s t ∧ t.fget HIF_CMD_PI.PI = v % 2 ^ 16)))
    ∧ (∃ t, exec (.hifRspCiWrite v) s = .next t
      ∧ (dist (s.fget HIF_RSP_PI.IDX) (s.fget HIF_RSP_CI.CI) < dist (s.fget HIF_RSP_PI.IDX) (v % 2 ^ 16) →
          Reports s t ∧ t.fbit HIF_ERR.DB_RANGE = true)
      ∧ (s.hif.ready = true → dist (s.fget HIF_RSP_PI.IDX) (v % 2 ^ 16) ≤ dist (s.fget HIF_RSP_PI.IDX) (s.fget HIF_RSP_CI.CI) →
          onlyRegs [aHIF_RSP_CI] s t ∧ t.fget HIF_RSP_CI.CI = v % 2 ^ 16))
    ∧ (∃ t, exec (.hifEvtCiWrite v) s = .next t
      ∧ (dist (s.fget HIF_EVT_PI.IDX) (s.fget HIF_EVT_CI.CI) < dist (s.fget HIF_EVT_PI.IDX) (v % 2 ^ 16) →
          Reports s t ∧ t.fbit HIF_ERR.DB_RANGE = true)
      ∧ (s.hif.ready = true → dist (s.fget HIF_EVT_PI.IDX) (v % 2 ^ 16) ≤ dist (s.fget HIF_EVT_PI.IDX) (s.fget HIF_EVT_CI.CI) →
          t.fget HIF_EVT_CI.CI = v % 2 ^ 16 ∧ (s.hif.evtLost = 0 → onlyRegs [aHIF_EVT_CI] s t)))

/-- The SPI status byte: bit 0 ERR, which clears when the byte is read; bit 1 INT, which mirrors the host interrupt asserted; bit
2 QUAD; bit 3 HIF_STATUS.READY; bits [7:4] zero (R379). -/
def Obligations.SpiStatusByte : Prop :=
  ∀ (s : State), s.hostOn = true → s.sys.hostSel = true →
    ∃ (t : State) (b : Byte), exec (.spiStatus s.hif.quad) s = .next t
      ∧ t = { s with out := s.out ++ [⟨s.now, .spi, [b]⟩], hif := { s.hif with spiErr := false } }
      ∧ b.getLsbD 0 = s.hif.spiErr
      ∧ b.getLsbD 1 = decide ((s.reg aHIF_INT_STAT).toNat &&& s.fget HIF_INT_EN.EN ≠ 0)
      ∧ b.getLsbD 2 = s.hif.quad
      ∧ b.getLsbD 3 = decide (bits (s.view aHIF_STATUS).toNat 31 1 = 1)
      ∧ b >>> 4 = 0

/-- The SPI port reads a transaction with the lines of its own mode, and STATUS on the wrong lines is an error. Quad mode begins
with ENTER_QUAD and ends with EXIT_QUAD, or with 0xFF on one line; a READ sends what the addresses hold, a WRITE acts as the
writes of its words, one after another; an address inside a word, more than 4,096 bytes, or a word cut short sets ERR and
HIF_ERR.SPI; a word of the lending pool with an uncorrectable error reads all ones, and sets HIF_ERR.ECC and ERR. A reset of the PCIe
endpoint leaves the rest of the unit alone (R375 to R379). Log entries 123, 146, 197. -/
def Obligations.SpiPort : Prop :=
  ∀ (s : State) (q : Bool) (addr n : Nat) (bs w1 w2 : List Byte), s.storesWf = true →
    let spi := s.hostOn = true ∧ s.sys.hostSel = true
    let mine := s.hostOn = true ∧ s.sys.hostSel = true ∧ q = s.hif.quad ∧ addr < 2 ^ 32
    let sent (x : List Byte) : List Out := s.out ++ [⟨s.now, .spi, x⟩]
    let err (t : State) : Prop := t.hif.spiErr = true ∧ t.fbit HIF_ERR.SPI = true
    let bad (t : State) : Prop := Reports { s with hif := { s.hif with spiErr := true } } t ∧ t.fbit HIF_ERR.SPI = true
    (∃ t, exec (.spiStatus q) s = .next t ∧ (¬spi → t = s) ∧ (spi → q ≠ s.hif.quad → bad t))
    ∧ (∃ t, exec (.enterQuad q) s = .next t ∧ (¬spi → t = s)
      ∧ (spi → q = s.hif.quad → t = { s with hif := { s.hif with quad := true } })
      ∧ (spi → q = false → s.hif.quad = true → bad t))
    ∧ (∃ t, exec (.exitQuad q) s = .next t ∧ (¬spi → t = s)
      ∧ (spi → s.hif.quad = true → t = { s with hif := { s.hif with quad := false } })
      ∧ (spi → s.hif.quad = false → bad t))
    ∧ (∃ t, exec (.spiRead q addr n) s = .next t ∧ (¬spi → t = s)
      ∧ (mine → addr % 4 ≠ 0 → t.out = s.out ∧ bad t)
      ∧ (mine → addr % 4 = 0 → 4096 < n → err t)
      ∧ (mine → addr % 4 = 0 → 0x1000 ≤ addr → addr + n ≤ 0x5000 → n ≤ 4096 → t = { s with out := sent (s.rdB rgnCmd (addr - 0x1000) n) })
      ∧ (mine → addr % 4 = 0 → 0x2000000 ≤ addr → addr + n < 2 ^ 32 → n ≤ 4096 → t = { s with out := sent (List.replicate n 0) })
      ∧ (mine → addr % 4 = 0 → addr < 0x1000 ∨ 0x9000 ≤ addr ∧ addr < 0x10000 → n = 4 →
          t.out = sent (if (regRow addr).isSome then leBytes 4 (s.view addr).toNat else [0, 0, 0, 0]) ∧ t.hif = s.hif)
      ∧ (mine → addr % 4 = 0 → 0x1000000 ≤ addr → addr < 0x1C00000 → n = 4 →
          ((0, (addr - 0x1000000) / 8) ∈ s.dia.poison → t.fbit HIF_ERR.ECC = true ∧ t.hif.spiErr = true
            ∧ t.out = sent [0xFF, 0xFF, 0xFF, 0xFF])
          ∧ ((0, (addr - 0x1000000) / 8) ∉ s.dia.poison → t = { s with out := sent (s.rdB rgnPool (addr - 0x1000000) 4) })))
    ∧ (∃ t, exec (.spiWrite q addr bs) s = .next t ∧ (¬spi → t = s)
      ∧ (mine → addr % 4 ≠ 0 → bad t)
      ∧ (mine → addr % 4 = 0 → bs.length < 4 → bs ≠ [] → bad t)
      ∧ (mine → addr % 4 = 0 → bs.length = 4 → exec (.registerWrite addr bs) s = .next t))
    ∧ (∃ t, exec (.registerWrite addr w1) s = .next t
      ∧ (mine → addr % 4 = 0 → addr + 4 < 2 ^ 32 → w1.length = 4 → w2.length = 4 → t.hostOn = true →
          exec (.spiWrite q addr (w1 ++ w2)) s = exec (.registerWrite (addr + 4) w2) t))
    ∧ (∃ t, exec .pcieReset s = .next t
      ∧ (s.sys.yd = true ∨ s.sys.hostSel = true → t = s)
      ∧ (s.sys.yd = false → s.sys.hostSel = false → t = { s with sys := { s.sys with pcieRsts := s.sys.pcieRsts + 1 } }))

/-- A write of TIM_INC_INT gives INC the word INT, FRAC, kept within 8 ns ±500 ppm, from the next CLK_TS edge on (R19, R20).
Enabling a context empties its buffer and puts MODE, CWIDTH, TICK and HERMITE in force, unless its TP is 0; disabling it
empties the buffer and resets its mapping (R40). LOG_PT_SEL copies the point it names into LOG_PT_D0 to D3 (R369); RELEASE
frees the snapshot, unless a capture runs (R265, R268); WAKE wakes a unit in HARBOUR, with every domain supplied, and does
nothing in RUN (R452, R467). Log entries 32, 180. -/
def Obligations.RegisterEffects : Prop :=
  (∀ (s : State) (v : Nat), s.hostOn = true → s.storesWf = true →
    let w := v % 2 ^ 8 * 2 ^ 32 + s.fget TIM_INC_FRAC.FRAC
    ∃ t, exec (.timIncIntWrite v) s = .next t ∧ t.time.inc = s.time.inc ∧ t.time.ns = s.time.ns ∧ t.fget TIM_NOW_HI.NOW_HI = s.fget TIM_NOW_HI.NOW_HI
      ∧ (t.advance 1).time.inc.toNat = (if w < incMin then incMin else if incMax < w then incMax else w)
      ∧ (incMin ≤ w → w ≤ incMax → t.fget TIM_INC_INT.INT = v % 2 ^ 8 ∧ t.fget TIM_INC_FRAC.FRAC = s.fget TIM_INC_FRAC.FRAC)
      ∧ (w < incMin ∨ incMax < w → t.fbit TIM_INC_INT.CLAMPED = true)
      ∧ t = { s with regs := t.regs, time := t.time, cfg := { s.cfg with uncommitted := t.cfg.uncommitted } })
  ∧ (∀ (s : State) (n : Nat), s.hostOn = true → s.storesWf = true → n < 256 → s.fget (fldAt SCX_CFG.MODE n) ≤ 1 →
    (s.fbit (fldAt SCX_CFG.EN n) = false → ∃ t, exec (.contextEnable n) s = .next t
      ∧ (s.fget (fldAt SCX_PERIOD.TP n) = 0 → t.ctx = s.ctx ∧ t.fbit (fldAt SCX_CFG.EN n) = false)
      ∧ (s.fget (fldAt SCX_PERIOD.TP n) ≠ 0 → t.fbit (fldAt SCX_CFG.EN n) = true
          ∧ t.ctx = tabSet ctxDflt s.ctx n { ctxOff with
              q := if s.retired 0 n then .retired else .empty
              localMode := s.fget (fldAt SCX_CFG.MODE n) == 1
              cwidth := 16 * (s.fget (fldAt SCX_CFG.CWIDTH n) + 1)
              tick := s.fget (fldAt SCX_TICK.TICK n), hermite := s.fbit (fldAt SCX_CFG.HERMITE n) })
      ∧ t = { s with regs := t.regs, ctx := t.ctx, cfg := { s.cfg with uncommitted := t.cfg.uncommitted } })
    ∧ (s.fbit (fldAt SCX_CFG.EN n) = true → ∃ t, exec (.contextDisable n) s = .next t
      ∧ t.fbit (fldAt SCX_CFG.EN n) = false ∧ t.ctx = tabSet ctxDflt s.ctx n ctxOff ∧ t.fget (fldAt SCX_MAP_RES.RES n) = 0
      ∧ t = { s with regs := t.regs, ctx := t.ctx, cfg := { s.cfg with uncommitted := t.cfg.uncommitted } }))
  ∧ (∀ (s : State) (n : Nat), s.hostOn = true → s.storesWf = true →
    (∃ t, exec (.pointCopy n) s = .next t ∧ t.fget LOG_PT_SEL.INDEX = n % 2 ^ 18
      ∧ (∀ w, w < 4 → t.fget (fldAt LOG_PT_D.DATA w) = uAt 4 (s.ptRead (n % 2 ^ 18)) (4 * w)) ∧ t = { s with regs := t.regs, cfg := { s.cfg with uncommitted := t.cfg.uncommitted } })
    ∧ (∃ t, exec .snapRelease s = .next t
      ∧ (s.fbit GNS_SNAP_STAT.BUSY = false → t.fbit GNS_SNAP_STAT.FULL = false ∧ t.gns = { s.gns with snap := none })
      ∧ (s.fbit GNS_SNAP_STAT.BUSY = true → t.gns = s.gns) ∧ t = { s with regs := t.regs, gns := t.gns, cfg := { s.cfg with uncommitted := t.cfg.uncommitted } })
    ∧ (∃ t, exec .harbourWake s = .next t
      ∧ (s.pwr = .harbour → t.pwr = .run ∧ t.sys.domOn = 0xFFF)
      ∧ (s.pwr = .run → onlyRegs [] s t)))

/-- INIT written 1 stops the controller at bus idle or the end of the frame, so the request stands until then; written 0 once it
has stopped it starts integration, or, after bus-off, the recovery (R302, R303). A filter element is written from the data
words in BOOT, CONFIG or a stopped controller, in one step, unless it is one R308 names invalid; a WRITE ignored sets ERR; READ
copies it into the data words (R305, R308, R322). Software returns N receive entries: GET and the count move, or, with N above the
count, ACK_ERR is set and nothing moves (R310); an abort frees the loaded buffers its mask names, but for a frame already on the bus,
which completes (R315). Log entry 274. -/
def Obligations.CanRegisterWrites : Prop :=
  (∀ (s : State) (n : Nat), s.hostOn = true → s.storesWf = true → n < 8 → s.fget (fldAt CAN_CTRL.NOMATCH n) ≤ 2 →
    (s.fbit (fldAt CAN_CTRL.INIT n) = false → ∃ t, exec (.canInitEnter n) s = .next t
      ∧ t.fbit (fldAt CAN_CTRL.INIT n) = true ∧ t.fbit (fldAt CAN_STAT.INIT_ACK n) = s.fbit (fldAt CAN_STAT.INIT_ACK n)
      ∧ t.can = { s.can with ctl := (if s.fbit (fldAt CAN_STAT.INIT_ACK n) then s.can.ctl
          else s.can.ctl.set n { s.ctl n with initReq := true }) }
      ∧ t = { s with regs := t.regs, can := t.can, cfg := { s.cfg with uncommitted := t.cfg.uncommitted } })
    ∧ (s.fbit (fldAt CAN_CTRL.INIT n) = true → ∃ t, exec (.canInitLeave n) s = .next t
      ∧ t.fbit (fldAt CAN_CTRL.INIT n) = false ∧ t.fbit (fldAt CAN_STAT.INIT_ACK n) = (s.retired 3 n && s.fbit (fldAt CAN_STAT.INIT_ACK n))
      ∧ t.can = { s.can with ctl := s.can.ctl.set n { s.ctl n with
          initReq := false, boWait := if s.fbit (fldAt CAN_STAT.INIT_ACK n) && !s.retired 3 n then s.fget (fldAt CAN_STAT.STATE n) == 2 else (s.ctl n).boWait } }
      ∧ t = { s with regs := t.regs, can := t.can, cfg := { s.cfg with uncommitted := t.cfg.uncommitted } }))
  ∧ (∀ (s : State) (n idx : Nat), s.hostOn = true → s.storesWf = true → n < 8 →
    let w (k : Nat) : Nat := (s.reg (aCAN_FLT_DATA0 + 4 * k + 256 * n)).toNat
    let valid := bits (w 0) 30 2 ≠ 3 ∧ bits (w 0) 27 3 ≤ 5 ∧ bits (w 0) 24 2 ≠ 3
      ∧ (bits (w 0) 26 1 = 0 → bits (w 1) 0 29 ≤ 0x7FF ∧ (bits (w 0) 30 2 ≠ 2 → bits (w 2) 0 29 ≤ 0x7FF))
      ∧ (bits (w 0) 30 2 = 0 → bits (w 1) 0 29 ≤ bits (w 2) 0 29)
    let may := s.op = .boot ∨ s.op = .config ∨ s.fbit (fldAt CAN_STAT.INIT_ACK n) = true
    (∃ t, exec (.filterWrite n idx) s = .next t
      ∧ (may → valid → t.can.ctl = s.can.ctl.set n { s.ctl n with flt := tabSet fltDflt (s.ctl n).flt (idx % 1024) (w 0, w 1, w 2) })
      ∧ (¬(may ∧ valid) → t.can = s.can ∧ t.fbit (fldAt CAN_FLT_SEL.ERR n) = true)
      ∧ t = { s with regs := t.regs, can := t.can, cfg := { s.cfg with uncommitted := t.cfg.uncommitted } })
    ∧ (∃ t, exec (.filterRead n idx) s = .next t
      ∧ (t.fget (fldAt CAN_FLT_DATA0.DATA n), t.fget (fldAt CAN_FLT_DATA1.DATA n), t.fget (fldAt CAN_FLT_DATA2.DATA n))
          = (fun e => (e.1 % 2 ^ 32, e.2.1 % 2 ^ 32, e.2.2 % 2 ^ 32)) (tabGet fltDflt (s.ctl n).flt (idx % 1024))
      ∧ t = { s with regs := t.regs, cfg := { s.cfg with uncommitted := t.cfg.uncommitted } }))
  ∧ (∀ (s : State) (n q k : Nat), s.hostOn = true → s.storesWf = true → n < 8 → q < 2 →
    let sw := s.fget (fldAt (rxqSw q) n)
    (∃ t, exec (.rxqAck n q k) s = .next t
      ∧ (sw < k % 128 → t.fget (fldAt (rxqSw q) n) = sw ∧ t.fget (fldAt (rxqGet q) n) = s.fget (fldAt (rxqGet q) n)
          ∧ t.fbit (fldAt (rxqErr q) n) = true)
      ∧ (k % 128 ≤ sw → t.fget (fldAt (rxqSw q) n) = sw - k % 128
          ∧ t.fget (fldAt (rxqGet q) n) = (s.fget (fldAt (rxqGet q) n) + k % 128) % 64
          ∧ t.fbit (fldAt (rxqErr q) n) = s.fbit (fldAt (rxqErr q) n))
      ∧ onlyRegs [(rxqSw q).addr + 256 * n] s t)
    ∧ (∃ t, exec (.txAbort n k) s = .next t
      ∧ (∀ b, b < 3 → bit k b = true → (t.ctl n).bufs.getD b none = none ∨ (t.ctl n).onBus = some b)
      ∧ (∀ b, b < 3 → bit k b = true → s.canOn n = false → (s.ctl n).onBus = none → (t.ctl n).bufs.getD b none = none)
      ∧ (∀ b, bit k b = false → (t.ctl n).bufs.getD b none = (s.ctl n).bufs.getD b none)
      ∧ (t.ctl n).queue = (s.ctl n).queue ∧ (∀ m, m ≠ n → t.ctl m = s.ctl m)
      ∧ t = { s with regs := t.regs, free := t.free, can := { s.can with ctl := t.can.ctl }, cfg := { s.cfg with uncommitted := t.cfg.uncommitted } }))

/-- A filter bank: OPEN makes it LOADING and not VALID unless a running channel uses it; each data word goes to ADDR, which
advances, while the bank is open and ADDR is at most 1,088; COMMIT makes it VALID when every coefficient is a sign-extended
24-bit value and GDF is at most 64.0 (R331). Writing EN of a filter channel starts it when none of R340's causes holds, and is
refused with ERR otherwise; writing EN 0 stops it at once; a new SRC while it runs selects the input and suppresses outputs
for a time (R338, R340, R345). Log entries 132, 171. -/
def Obligations.FilterRegisterWrites : Prop :=
  (∀ (s : State) (b addr w : Nat), s.hostOn = true → s.storesWf = true →
    (∃ t, exec (.bankOpen b addr) s = .next t ∧ t.fget SDF_BANK_CTRL.BANK = b % 8 ∧ t.fget SDF_BANK_CTRL.ADDR = addr % 2048
      ∧ (s.bankUsed (b % 8) = true → t.fbit SDF_BANK_CTRL.ERR = true ∧ t.fget SDF_BANK_STAT.VALID = s.fget SDF_BANK_STAT.VALID)
      ∧ (s.bankUsed (b % 8) = false → bit (t.fget SDF_BANK_STAT.LOADING) (b % 8) = true ∧ bit (t.fget SDF_BANK_STAT.VALID) (b % 8) = false
          ∧ t.fbit SDF_BANK_CTRL.ERR = s.fbit SDF_BANK_CTRL.ERR)
      ∧ onlyRegs [aSDF_BANK_CTRL, aSDF_BANK_STAT] s t)
    ∧ (let (k, a) := (s.fget SDF_BANK_CTRL.BANK, s.fget SDF_BANK_CTRL.ADDR)
      ∃ t, exec (.bankDataWrite w) s = .next t
      ∧ (bit (s.fget SDF_BANK_STAT.LOADING) k = true → a ≤ 1088 →
          t.sdf = { s.sdf with banks := tabSet bankDflt s.sdf.banks (k * 2048 + a) (BitVec.ofNat 32 w) } ∧ t.fget SDF_BANK_CTRL.ADDR = a + 1)
      ∧ (bit (s.fget SDF_BANK_STAT.LOADING) k = false ∨ 1088 < a → t.sdf = s.sdf ∧ t.fget SDF_BANK_CTRL.ADDR = a)
      ∧ t = { s with regs := t.regs, sdf := t.sdf, cfg := { s.cfg with uncommitted := t.cfg.uncommitted } })
    ∧ (let k := s.fget SDF_BANK_CTRL.BANK
      let good := ∀ i, i < 1089 → if i = 64 then s.bankW k i ≤ 64 * 256 else sx 32 (s.bankW k i) = sx 24 (s.bankW k i)
      ∃ t, exec .bankCommit s = .next t
      ∧ (bit (s.fget SDF_BANK_STAT.LOADING) k = true → bit (t.fget SDF_BANK_STAT.LOADING) k = false
          ∧ (good → bit (t.fget SDF_BANK_STAT.VALID) k = true)
          ∧ (¬good → t.fget SDF_BANK_STAT.VALID = s.fget SDF_BANK_STAT.VALID ∧ t.fbit SDF_BANK_CTRL.ERR = true))
      ∧ (bit (s.fget SDF_BANK_STAT.LOADING) k = false → t.fbit SDF_BANK_CTRL.ERR = true ∧ t.fget SDF_BANK_STAT.VALID = s.fget SDF_BANK_STAT.VALID)
      ∧ onlyRegs [aSDF_BANK_CTRL, aSDF_BANK_STAT] s t))
  ∧ (∀ (s : State) (n src : Nat), s.hostOn = true → s.storesWf = true → n < 32 →
    s.sch SDF_CH_CFG.SRC n ≤ 2 → 3 ≤ s.sch SDF_CH_CFG.ORDER n → s.sch SDF_CH_CFG.ORDER n ≤ 5 → 16 ≤ s.sch SDF_CH_CFG.R n →
    s.sch SDF_CH_CFG.R n ≤ 512 →
    (s.sdfCh n = none → ∃ t, exec (.sdfChannelStart n) s = .next t
      ∧ (let e := s.startErr n (s.sdfRunning.filter (fun m => m != n));
        t.fbit (fldAt SDF_CH_CFG.EN n) = (e == 0) ∧ t.sch SDF_CH_STAT.ERR n = e
        ∧ (e = 0 → t.fbit (fldAt SDF_CH_STAT.RUN n) = true ∧ t.fbit (fldAt SDF_CH_STAT.SUPPR n) = true
          ∧ t.sdf.ch.length = s.sdf.ch.length ∧ (n < s.sdf.ch.length → (t.sdfCh n).isSome = true))
        ∧ (e ≠ 0 → t.sdf = s.sdf)))
    ∧ ((s.sdfCh n).isSome = true → s.fbit (fldAt SDF_CH_CFG.EN n) = true → ∃ t, exec (.sdfChannelStop n) s = .next t
      ∧ t.fbit (fldAt SDF_CH_CFG.EN n) = false ∧ t.fbit (fldAt SDF_CH_STAT.RUN n) = false ∧ t.sdfCh n = none
      ∧ t.fbit (fldAt SDF_CH_STAT.HI n) = false ∧ t.fbit (fldAt SDF_CH_STAT.LO n) = false ∧ ∀ m, m ≠ n → t.sdfCh m = s.sdfCh m)
    ∧ ((s.sdfCh n).isSome = true → s.fbit (fldAt SDF_CH_CFG.EN n) = true → src < 3 → ∃ t, exec (.inputSwitch n src) s = .next t
      ∧ t.sch SDF_CH_CFG.SRC n = src ∧ t.fbit (fldAt SDF_CH_CFG.EN n) = true
      ∧ (src ≠ s.sch SDF_CH_CFG.SRC n → t.fbit (fldAt SDF_CH_STAT.SUPPR n) = true)
      ∧ ∀ m, m ≠ n → t.sdfCh m = s.sdfCh m))

/-- Host commands of DP operation and calibration, LOG_CHANGE and, of a reference, READMIT, are checked and listed for the frame
whose manifest still takes them; they are answered OK with that frame and change nothing else (R115, R181, R400, R409, R411).
Log entry 193. -/
def Obligations.ListedCommands : Prop :=
  ∀ (s : State) (h : HCmd), s.role.holds = true ∨ s.role = .zone →
    let p := h.payload
    let pts (b : List Byte) : Bool := decide (1 ≤ byteAt b 0) && decide (byteAt b 0 ≤ 32) && (upTo (byteAt b 0)).all (fun i =>
      flt 0 (fltAt b (12 + 24 * i)) && fle 0 (fltAt b (16 + 24 * i)) && decide (byteAt b (20 + 24 * i) ≤ 1))
    ∀ c ∈ ([(.alignCommit h, 0x020C, decide (byteAt p 0 ≤ 15)), (.alignRevert h, 0x020D, decide (byteAt p 0 ≤ 15)),
        (.setFunction h, 0x0301, decide (byteAt p 0 ≤ 4) && decide (byteAt p 1 ≤ 1)), (.setPosition h, 0x0302, decide (byteAt p 0 ≤ 3)),
        (.setSpeed h, 0x0303, true), (.setLimits h, 0x0304, (upTo 6).all (fun i => ffinite (fltAt p (4 * i)) && flt 0 (fltAt p (4 * i)))),
        (.trackLoad h, 0x0305, pts (pageOf h)), (.trackAppend h, 0x0306, pts (pageOf h)),
        (.setOrigin h, 0x0307, decide ((sAt 8 p 0).natAbs ≤ 2 ^ 47) && decide ((sAt 8 p 8).natAbs ≤ 2 ^ 48)),
        (.scenEnable h, 0x0308, uAt 2 p 0 % 2 == 0), (.thrExclude h, 0x0309, true), (.refReadmit h, 0x030A, decide (byteAt p 0 ≤ 15)),
        (.setAutoreadmit h, 0x030B, decide (byteAt p 0 ≤ 1)),
        (.logChange h, 0x0604, s.lgState == lgRunning && decide (1 ≤ byteAt (pageOf h) 6) && decide (byteAt (pageOf h) 6 ≤ 64)
          && decide (byteAt (pageOf h) 7 ≤ 1)),
        (.readmit h, 0x0B05, byteAt p 0 == 5 && decide (uAt 2 p 2 ≤ 31))] : List (Instr × Nat × Bool)),
      let e : CmdE := ⟨c.2.1, h.session.toNat, some h.tag.toNat, h.page.getD p⟩
      let k := s.effFrame (cmdEBytes e).length
      freeFor s c.2.1 h → c.2.2 = true → (cmdEBytes e).length ≤ 1016 →
      ∃ t, exec c.1 s = .next t
        ∧ does s t c.2.1 h (resListed k) { s with red := { s.red with listQ := s.red.listQ ++ [⟨k, e⟩] } }
        ∧ (s.red.listQ = [] → k = if s.now < s.atPct s.time.frame s.time.cutoff ∧ s.time.cutDone = false then s.time.frame else s.time.frame + 1)

/-- Outside the roles ACTIVE, ZONE and SOLO the listed commands are refused with NOT_HOLDER and change nothing (R399). A host
command whose payload or page has not the form of its opcode is refused, BAD_FLAGS before BAD_LEN, and changes nothing (R399,
R533). While SV takes no commands (before READY, without its clock, with the response ring spoken for) a command stays where
it is: nothing changes (R382). Log entries 188, 186. -/
def Obligations.CommandsTurnedAway : Prop :=
  (∀ (s : State) (h : HCmd), s.role.holds = false → s.role ≠ .zone →
    ∀ c ∈ ([(.alignCommit h, 0x020C), (.alignRevert h, 0x020D), (.setFunction h, 0x0301), (.setPosition h, 0x0302), (.setSpeed h, 0x0303),
        (.setLimits h, 0x0304), (.trackLoad h, 0x0305), (.trackAppend h, 0x0306), (.setOrigin h, 0x0307), (.scenEnable h, 0x0308),
        (.thrExclude h, 0x0309), (.refReadmit h, 0x030A), (.setAutoreadmit h, 0x030B), (.keyTransfer h, 0x0402), (.keyRelinquish h, 0x0403),
        (.logChange h, 0x0604)] : List (Instr × Nat)),
      freeFor s c.2 h → ∃ t, exec c.1 s = .next t ∧ does s t c.2 h (resSt 0x3002) s)
  ∧ (∀ (s : State) (h : HCmd), s.mayTake = true → s.hif.taken = [] → s.sys.recovery = false → s.storesWf = true →
    ∀ c ∈ ([(.getInfo h, 0x0101), (.enterConfig h, 0x0102), (.leaveConfig h, 0x0103), (.reset h, 0x0104), (.setRtc h, 0x0105),
        (.cfgOpen h, 0x0201), (.cfgAbort h, 0x0202), (.objStage h, 0x0203), (.objRead h, 0x0204), (.objUnstage h, 0x0205),
        (.cfgCommit h, 0x0206), (.cfgRevert h, 0x0207), (.imgBegin h, 0x0208), (.imgAppend h, 0x0209), (.imgEnd h, 0x020A),
        (.imgCancel h, 0x020B), (.setFunction h, 0x0301), (.keyClaim h, 0x0401), (.safOpen h, 0x0501), (.safTrip h, 0x0507),
        (.logStart h, 0x0601), (.ptWrite h, 0x0605), (.gnsForget h, 0x0702), (.canSend h, 0x0801), (.uartSend h, 0x0802),
        (.sdfStart h, 0x0901), (.pnlUpdate h, 0x0A01), (.recRead h, 0x0B03), (.replayFeed h, 0x0B07), (.pwrState h, 0x0C01)]
        : List (Instr × Nat)),
      let why := if h.wf = true ∧ h.page.isSome ≠ opExt c.2 then 0x2004 else 0x2003
      opForm c.2 h ≠ 0 → ∃ t, exec c.1 s = .next t ∧ does s t c.2 h (resSt why) s)
  ∧ (∀ (s : State) (h : HCmd), s.mayTake = false →
    ∀ c ∈ ([.getInfo h, .cfgOpen h, .cfgCommit h, .setPosition h, .keyClaim h, .safTrip h, .logStart h, .canSend h, .sdfStop h, .pwrState h,
        .commandIntake] : List Instr), exec c s = .next s)

/-- GET_INFO answers the identity and state of the part; SET_RTC sets the RTC in CONFIG (R408, R467). ENTER_CONFIG takes a unit in
READY, with role NONE and no output energised; LEAVE_CONFIG, with nothing uncommitted and engines enough, takes it to READY
and closes its sessions; RESET asks for the reset once it is answered (R393, R394, R408, R453). PWR_STATE takes a unit in
READY or CONFIG to HIBERNATE, SLEEP or HARBOUR once it is answered; in a dip the entry waits (R450, R451). Log entries 187,
189. -/
def Obligations.SystemCommands : Prop :=
  (∀ (s : State) (h : HCmd),
    (freeFor s 0x0101 h → ∃ t bs, exec (.getInfo h) s = .next t ∧ does s t 0x0101 h (resInl bs) s ∧ bs.length = 32
      ∧ uAt 2 bs 0 = 0x9160 ∧ uAt 1 bs 4 = opCode s.op ∧ uAt 1 bs 5 = roleCode s.role ∧ uAt 4 bs 12 = s.fget LOG_PROG_ID.ID)
    ∧ (freeFor s 0x0105 h → s.op = .config → uAt 8 h.payload 0 < 2 ^ 32 * 1000000000 → ∃ t, exec (.setRtc h) s = .next t
      ∧ does s t 0x0105 h resOk { s with sys := { s.sys with rtc := uAt 8 h.payload 0 / 8, rtcValid := true } }))
  ∧ (∀ (s : State) (h : HCmd),
    (freeFor s 0x0102 h → s.op = .ready → ∃ t, exec (.enterConfig h) s = .next t
      ∧ does s t 0x0102 h resOk (((((({ s with
          op := .config, role := .none, saf := { s.saf with out := [0, 0] }
          red := { s.red with reqAt := none, imgRx := none, catchB := none, manBuf := [] } }).fset RED_ROLE.ROLE 0).fset
        RED_ROLE.QUALIFIED 0).fset RED_QUAL.COUNT 0).fset RED_ROLE.CATCHUP 0).fset SAF_STATUS.ENERGISED 0))
    ∧ (freeFor s 0x0103 h → s.op = .config → s.engOk = true → s.cfg.uncommitted = false → ∃ t, exec (.leaveConfig h) s = .next t
      ∧ answered s t 0x0103 h resOk ∧ t.op = .ready ∧ t.role = .ready ∧ t.fget RED_ROLE.ROLE = roleCode .ready
      ∧ t.cfg.cfgSess = none ∧ t.cfg.safSess = none ∧ t.cfg.staged = [] ∧ t.cfg.safStaged = [] ∧ t.cfg.stagedImgs = []
      ∧ t.cfg.objs = s.cfg.objs)
    ∧ (freeFor s 0x0104 h → s.sys.rstReq = none → byteAt h.payload 0 ≤ 1 → 1 ≤ byteAt h.payload 1 → byteAt h.payload 1 ≤ 11 →
      ∃ t, exec (.reset h) s = .next t
      ∧ does s t 0x0104 h resOk { s with sys := { s.sys with rstReq := some (
        if byteAt h.payload 0 = 0 ∨ byteAt h.payload 1 = 9 ∨ byteAt h.payload 1 = 10 then (.srst, 0) else (.drst, byteAt h.payload 1)) } }))
  ∧ (∀ (s : State) (h : HCmd),
    let c := byteAt h.payload 0
    let p := if c = 1 then PState.hibernate else if c = 2 then PState.sleep else PState.harbour
    freeFor s 0x0C01 h → s.op = .ready ∨ s.op = .config → s.cfg.uncommitted = false → 1 ≤ c → c ≤ 3 →
    ∃ t, exec (.pwrState h) s = .next t
      ∧ (s.inDip = true → t.pwr = s.pwr ∧ t.sys = { s.sys with pwrReq := some p } ∧ answered s t 0x0C01 h resOk)
      ∧ (s.inDip = false → t.pwr = p ∧ t.sys.pwrReq = none ∧ t.cfg.cfgSess = none ∧ t.cfg.safSess = none ∧ t.cfg.xfer = none
          ∧ t.sys.domOn = (if c = 1 then 1 else if c = 2 then 0x403 else 0x603)))

/-- A configuration session opens in CONFIG under an id that is not 0 and not yet issued, with nothing staged; abort closes it and
discards what it staged; CFG_REVERT leaves it open (R393, R394). Objects are staged and unstaged in the session of their kind,
apart from those in force, and read back as they travel (R393, R402 to R404). Log entries 29, 186. -/
def Obligations.ConfigurationSession : Prop :=
  (∀ (s : State) (h : HCmd), s.op = .config →
    (freeFor s 0x0201 h → s.cfg.cfgSess = none → s.cfg.issued.length + 2 ≤ 2 ^ 32 → ∃ t id, exec (.cfgOpen h) s = .next t
      ∧ 0 < id ∧ id < 2 ^ 32 ∧ id ∉ s.cfg.issued
      ∧ does s t 0x0201 h (resInl (leBytes 4 id)) { s with
          free := s.free + 1
          cfg := { s.cfg with issued := id :: s.cfg.issued, cfgSess := some ⟨id, s.now⟩, staged := [], stagedImgs := [] } })
    ∧ (freeFor s 0x0202 h → h.session.toNat ≠ 0 → s.cfg.cfgSess.map (·.id) = some h.session.toNat → ∃ t, exec (.cfgAbort h) s = .next t
      ∧ does s t 0x0202 h resOk { s with cfg := { s.cfg with
          cfgSess := none, staged := [], stagedImgs := [], xfer := s.cfg.xfer.filter (fun x => x.kind == 0 || x.kind == 3) } })
    ∧ (freeFor s 0x0207 h → ∃ t, exec (.cfgRevert h) s = .next t
      ∧ answered s t 0x0207 h resOk ∧ t.cfg.uncommitted = false ∧ t.cfg.objs = s.cfg.objs ∧ t.op = .config))
  ∧ (∀ (s : State) (h : HCmd),
    (let b := pageOf h
      let id := uAt 2 b 0
      let o : Obj := ⟨id, byteAt b 3, b.drop 12⟩
      let saf := kindSafety (idKind id)
      freeFor s 0x0203 h → s.op = .config → idExists id = true → objBad b = none → h.session.toNat ≠ 0 →
      (if saf then s.cfg.safSess else s.cfg.cfgSess).map (·.id) = some h.session.toNat → ∃ t, exec (.objStage h) s = .next t
      ∧ does s t 0x0203 h resOk { s with cfg := { s.cfg with
          safStaged := if saf then putObj s.cfg.safStaged o else s.cfg.safStaged
          staged := if saf then s.cfg.staged else putObj s.cfg.staged o } })
    ∧ (let id := uAt 2 h.payload 0
      let saf := kindSafety (idKind id)
      (freeFor s 0x0205 h → s.op = .config → idExists id = true → h.session.toNat ≠ 0 →
        (if saf then s.cfg.safSess else s.cfg.cfgSess).map (·.id) = some h.session.toNat → ∃ t, exec (.objUnstage h) s = .next t
        ∧ does s t 0x0205 h resOk { s with cfg := { s.cfg with
            staged := s.cfg.staged.filter (fun o => o.id != id), safStaged := s.cfg.safStaged.filter (fun o => o.id != id) } })
      ∧ (freeFor s 0x0204 h → idExists id = true → byteAt h.payload 2 ≤ 1 → ∃ t, exec (.objRead h) s = .next t
        ∧ does s t 0x0204 h
          (match (if byteAt h.payload 2 = 0 then s.cfg.objs else if saf then s.cfg.safStaged else s.cfg.staged).find? (fun o => o.id == id) with
            | some o => { resOk with page := objBytes o }
            | none => resOk) s)))

/-- CFG_COMMIT, its checks passed and the flash free: where the flash takes it, the new objects become the other copy, load at the
next boundary, and the session closes; where it fails, WRITE_FAIL, and the session stays open (R387, R393, R395); kN and kE of a VESSEL
object are the unit's own (R59). One image
transfer at a time: IMG_BEGIN opens it, IMG_APPEND carries the next bytes and no others, IMG_CANCEL drops it, IMG_END stages a
whole image of a staged kind that passes its check (R407). Log entries 23, 26, 174, 190. -/
def Obligations.ConfigurationCommit : Prop :=
  (∀ (s : State) (h : HCmd), freeFor s 0x0206 h → s.op = .config → s.cfg.load = none → s.writesHeld = false → h.session.toNat ≠ 0 →
    s.cfg.cfgSess.map (·.id) = some h.session.toNat →
    let objs := putObjs s.cfg.objs s.cfg.staged
    let imgs := putImgs s.cfg.imgs s.cfg.stagedImgs
    let banks := (s.cfg.stagedImgs.filter (fun i => i.kind == 5)).map (·.slot)
    let put := objs.map originScale
    ∃ t, exec (.cfgCommit h) s = .next t
      ∧ (∀ id, s.commitFault objs imgs s.cfg.staged banks = some id → does s t 0x0206 h (resDet 0x7101 id) s)
      ∧ (s.commitFault objs imgs s.cfg.staged banks = none → Config.flashOk s.free = true →
          does s t 0x0206 h resOk { s with
            free := s.free + 1
            flash := { s.flash with objs := some put, imgs := imgs, old := s.flash.objs, gen := s.flash.gen + 1, copy := 1 - s.flash.copy }
            cfg := { s.cfg with load := some put, fresh := s.cfg.fresh ++ s.cfg.stagedImgs.map (fun i => (i.kind, i.slot)), cfgSess := none,
                                staged := [], stagedImgs := [], xfer := s.cfg.xfer.filter (fun x => x.kind == 0 || x.kind == 3) } })
      ∧ (s.commitFault objs imgs s.cfg.staged banks = none → Config.flashOk s.free = false →
          does s t 0x0206 h (resSt 0x9101) { s with free := s.free + 1 }))
  ∧ (∀ (s : State) (h : HCmd),
    (let k := byteAt h.payload 0
      let slot := byteAt h.payload 1
      let total := uAt 4 h.payload 4
      freeFor s 0x0208 h → k ≤ 5 → s.whyImg k h = 0 → slot < imgSlots k → 1 ≤ total → s.imgFits k slot total = true →
      k ≠ 3 ∨ s.poolBusy = false → ∃ t, exec (.imgBegin h) s = .next t
      ∧ (s.cfg.xfer = none → does s t 0x0208 h resOk { s with cfg := { s.cfg with xfer := some ⟨k, slot, total, [], s.now⟩ } })
      ∧ (s.cfg.xfer ≠ none → does s t 0x0208 h (resSt 0x6102) s))
    ∧ (∀ x, s.cfg.xfer = some x →
      (freeFor s 0x0209 h → ∃ t, exec (.imgAppend h) s = .next t
        ∧ (uAt 4 h.payload 0 ≠ x.got.length → does s t 0x0209 h (resDet 0x5102 0) s)
        ∧ (uAt 4 h.payload 0 = x.got.length → x.got.length + (pageOf h).length ≤ x.total →
            does s t 0x0209 h resOk { s with cfg := { s.cfg with xfer := some { x with got := x.got ++ pageOf h, last := s.now } } }))
      ∧ (freeFor s 0x020B h → ∃ t, exec (.imgCancel h) s = .next t
        ∧ does s t 0x020B h resOk { s with cfg := { s.cfg with xfer := none } })
      ∧ (freeFor s 0x020A h → x.kind ≠ 0 → x.kind ≠ 3 → ∃ t, exec (.imgEnd h) s = .next t
        ∧ (x.got.length ≠ x.total → does s t 0x020A h (resSt 0x8104) { s with cfg := { s.cfg with xfer := none } })
        ∧ (x.got.length = x.total → imgCheck x.kind x.got = (0, 0) → does s t 0x020A h resOk { s with cfg := { s.cfg with
            xfer := none, stagedImgs := putImg s.cfg.stagedImgs ⟨x.kind, x.slot, x.got⟩ } }))))

/-- Commands of the redundant set: KEY_CLAIM makes this unit the holder with the next epoch when no holder has been heard for two
leases; KEY_TRANSFER plans a transfer to the successor; KEY_RELINQUISH declares failure and gives the keystone up; RESYNC
asks for the state image unless the unit's configuration differs from the holder's; DISAGREE_CLEAR clears DISAGREE (R192, R196, R199, R200, R206, R410). Log entries 77, 90. -/
def Obligations.RedundancyCommands : Prop :=
  ∀ (s : State) (h : HCmd),
    (freeFor s 0x0401 h → s.role = .ready ∨ s.role = .standby ∨ s.role = .solo → s.red.bootAt + 2 * s.keyLease ≤ s.time.frame →
      recent s.time.frame (2 * s.keyLease) s.red.claimAt = false → ∃ t, exec (.keyClaim h) s = .next t ∧ answered s t 0x0401 h resOk
      ∧ t.role = (if s.fget RED_CFG.SET_N = 1 then .solo else .active) ∧ t.fget RED_EPOCH.EPOCH = (s.d0.epochHi + 1) % 2 ^ 32
      ∧ t.fget RED_HELD.EPOCH = (s.d0.epochHi + 1) % 2 ^ 32 ∧ t.fget RED_ROLE.HOLDER = s.unit ∧ t.red.plan = none)
    ∧ (freeFor s 0x0402 h → s.role.holds = true ∨ s.role = .zone → byteAt h.payload 0 ≤ 2 → 2 ≤ byteAt h.payload 1 → byteAt h.payload 1 ≤ 31 →
      ∃ t, exec (.keyTransfer h) s = .next t
      ∧ (s.successor = some (byteAt h.payload 0) → does s t 0x0402 h resOk { s with red := { s.red with
          plan := some (s.time.frame + byteAt h.payload 1, byteAt h.payload 0, false) } })
      ∧ (s.successor ≠ some (byteAt h.payload 0) → does s t 0x0402 h (resSt 0x3102) s))
    ∧ (freeFor s 0x0403 h → s.role.holds = true ∨ s.role = .zone → byteAt h.payload 0 ≤ 1 → ∃ t, exec (.keyRelinquish h) s = .next t
      ∧ (byteAt h.payload 0 = 0 → s.successor = none → does s t 0x0403 h (resSt 0x3102) s)
      ∧ (byteAt h.payload 0 = 1 ∨ s.successor.isSome = true → answered s t 0x0403 h resOk ∧ t.role = .ready ∧ t.red.declare = 5
          ∧ t.fbit RED_STATUS.DECLARED = true ∧ t.hasAlarm 0x07 0x02 0 = true ∧ t.red.plan = none ∧ t.time = s.time))
    ∧ (freeFor s 0x0404 h → s.op = .ready ∨ s.op = .standby → ∃ t, exec (.resync h) s = .next t
      ∧ (s.hashDiff = false → does s t 0x0404 h resOk { s with red := { s.red with reqAt := some (s.red.reqAt.getD s.time.frame) } })
      ∧ (s.hashDiff = true → does s t 0x0404 h resOk s))
    ∧ (freeFor s 0x0405 h → ∃ t, exec (.disagreeClear h) s = .next t ∧ t.hasAlarm 0x07 0x03 0 = false
      ∧ does s t 0x0405 h resOk ({ s with red := { s.red with matchRun := 0 } }.fset RED_STATUS.DISAGREE 0))

/-- The safety session opens in CONFIG on the password, no attempt being due to wait and none being open, under a fresh id; a
wrong password counts a failure and opens nothing; closing it discards what it staged (R238 to R240). The first safety
password is set in CONFIG with no old one: 8 to 32 characters from 0x21 to 0x7E, stored as a salted hash where the flash takes
it, the change logged (R238, R241). SAF_COMMIT: with both channels running, the checks passed and the flash free, the staged
safety objects are written and load at the next boundary; with a channel not running the hashes differ and nothing is written
(R240). Log entries 29, 95, 96, 98. -/
def Obligations.SafetyConfiguration : Prop :=
  (∀ (s : State) (h : HCmd),
    (∀ r, s.saf.pw = some r → freeFor s 0x0501 h → s.op = .config → s.cfg.safSess = none → s.cfg.issued.length + 2 ≤ 2 ^ 32 →
      ∃ t, exec (.safOpen h) s = .next t
      ∧ (s.pwWait ≠ 0 → does s t 0x0501 h (resDet 0x4102 s.pwWait) s)
      ∧ (s.pwWait = 0 → pwMatch r h.payload = false → answered s t 0x0501 h (resSt 0x4101) ∧ t.cfg.safSess = none
          ∧ t.d0.pwFails = satU 8 (s.d0.pwFails + 1) ∧ t.fget SAF_PW.FAILS = satU 8 (s.d0.pwFails + 1) ∧ t.saf.pwAt = s.now)
      ∧ (s.pwWait = 0 → pwMatch r h.payload = true → ∃ id, 0 < id ∧ id < 2 ^ 32 ∧ id ∉ s.cfg.issued
          ∧ does s t 0x0501 h (resInl (leBytes 4 id)) ((({ s with
              free := s.free + 1, d0 := { s.d0 with pwFails := 0 }
              cfg := { s.cfg with issued := id :: s.cfg.issued, safSess := some ⟨id, s.now⟩, safStaged := [] } }).fset SAF_PW.FAILS 0).fset
              SAF_STATUS.SESSION 1)))
    ∧ (freeFor s 0x0502 h → h.session.toNat ≠ 0 → s.cfg.safSess.map (·.id) = some h.session.toNat → ∃ t, exec (.safClose h) s = .next t
      ∧ does s t 0x0502 h resOk (({ s with cfg := { s.cfg with safSess := none, safStaged := [] } }).fset SAF_STATUS.SESSION 0)))
  ∧ (∀ (s : State) (h : HCmd),
    let n := byteAt h.payload 1
    let new := (h.payload.drop 36).take n
    freeFor s 0x0503 h → s.op = .config → s.saf.pw = none → byteAt h.payload 0 = 0 → 8 ≤ n → n ≤ 32 →
    (∀ c ∈ new, 0x21 ≤ c.toNat ∧ c.toNat ≤ 0x7E) → s.writesHeld = false →
    ∃ t, exec (.safPassword h) s = .next t
      ∧ (Config.flashOk s.free = false → does s t 0x0503 h (resSt 0x9101) { s with free := s.free + 1 })
      ∧ (Config.flashOk s.free = true → answered s t 0x0503 h resOk ∧ t.fbit SAF_STATUS.PW_SET = true
          ∧ (∃ salt, salt.length = 16 ∧ t.saf = { s.saf with pw := some ⟨salt, pbkdf2 new salt pwIter⟩ })
          ∧ t.fget SAF_LOG.SEQ = s.d0.clSeq % 2 ^ 32 ∧ t.d0.clSeq = s.d0.clSeq + 1))
  ∧ (∀ (s : State) (h : HCmd), freeFor s 0x0504 h → s.cfg.load = none → h.session.toNat ≠ 0 →
    s.cfg.safSess.map (·.id) = some h.session.toNat → s.writesHeld = false →
    let objs := putObjs s.cfg.objs s.cfg.safStaged
    s.commitFault objs s.cfg.imgs s.cfg.safStaged [] = none →
    ∃ t, exec (.safCommit h) s = .next t
      ∧ (s.chanRuns 0 = false ∨ s.chanRuns 1 = false → does s t 0x0504 h (resSt 0x7102) s)
      ∧ (s.chanRuns 0 = true → s.chanRuns 1 = true → Config.flashOk s.free = false →
          does s t 0x0504 h (resSt 0x9101) { s with free := s.free + 1 })
      ∧ (s.chanRuns 0 = true → s.chanRuns 1 = true → Config.flashOk s.free = true → answered s t 0x0504 h resOk
          ∧ t.cfg.load = some (objs.map originScale) ∧ t.cfg.safStaged = [] ∧ t.cfg.objs = s.cfg.objs ∧ t.flash.objs = some (objs.map originScale) ∧ t.flash.copy = 1 - s.flash.copy
          ∧ t.d0.clSeq = s.d0.clSeq + s.cfg.safStaged.length))

/-- SAF_ACK arms every group it names for 30 s, or none; SAF_RESET, where the host is the reset source, clears the latches of the
ARMED groups; SAF_TRIP latches the groups named on both channels and drops their outputs (R232, R235, R236, R410). Log entry
98. -/
def Obligations.SafetyCommands : Prop :=
  ∀ (s : State) (h : HCmd),
    (let m := byteAt h.payload 0;
      freeFor s 0x0505 h → m ≤ 15 → ∃ t, exec (.safAck h) s = .next t
      ∧ ((∀ g, g < 4 → bit m g = true → s.ackWhy g (byteAt h.payload (4 + g)) = none) →
          does s t 0x0505 h resOk ({ s with saf := { s.saf with armedTo := s.saf.armedTo.zipIdx.map (fun (p : Nat × Nat) =>
            if bit m p.2 then s.now + 30000000000 else p.1) } }.fset SAF_STATUS.ARMED (s.fget SAF_STATUS.ARMED ||| m)))
      ∧ (∀ g w, g < 4 → bit m g = true → s.ackWhy g (byteAt h.payload (4 + g)) = some w →
          (∀ j, j < g → bit m j = true → s.ackWhy j (byteAt h.payload (4 + j)) = none) →
          does s t 0x0505 h (resDet 0x3106 (g + 16 * w)) s))
    ∧ (freeFor s 0x0506 h → h.session.toNat ≠ 0 → s.cfg.safSess.map (·.id) = some h.session.toNat → ∃ t, exec (.safReset h) s = .next t
      ∧ (s.fbit SAF_CFG.RST_SRC = false → s.fget SAF_STATUS.ARMED ≠ 0 → does s t 0x0506 h (resSt 0x310E) s)
      ∧ (s.fbit SAF_CFG.RST_SRC = false → s.fget SAF_STATUS.ARMED = 0 → answered s t 0x0506 h (resSt 0x310E)
          ∧ t.fget SAF_CNT.RST_IGNORED = incSat 8 (s.fget SAF_CNT.RST_IGNORED) ∧ t.saf = s.saf)
      ∧ (s.fbit SAF_CFG.RST_SRC = true → s.fget SAF_STATUS.ARMED = 0 → answered s t 0x0506 h (resSt 0x3107)
          ∧ t.fget SAF_CNT.RST_IGNORED = incSat 8 (s.fget SAF_CNT.RST_IGNORED) ∧ t.saf = s.saf)
      ∧ (s.fbit SAF_CFG.RST_SRC = true → s.fget SAF_STATUS.ARMED ≠ 0 → answered s t 0x0506 h resOk
          ∧ t.saf = { s.saf with latch := s.saf.latch.map (fun l => l &&& (15 - s.fget SAF_STATUS.ARMED)) }
          ∧ t.fget SAF_STATUS.ARMED = 0 ∧ t.d0.clSeq = s.d0.clSeq + 1
          ∧ ∀ g, g < 4 → bit (s.fget SAF_STATUS.ARMED) g = true → t.fget (fldAt SAF_CAUSE.CAUSE g) = 0))
    ∧ (let m := byteAt h.payload 0;
      freeFor s 0x0507 h → m ≤ 15 → ∃ t, exec (.safTrip h) s = .next t ∧ answered s t 0x0507 h resOk
      ∧ t.saf.latch = (s.saf.latch.set 0 (s.latch 0 ||| m)).set 1 (s.latch 1 ||| m)
      ∧ t.saf.out = (s.saf.out.set 0 (s.safOut 0 &&& (15 - m))).set 1 (s.safOut 1 &&& (15 - m))
      ∧ (∀ g, g < 4 → bit m g = true → bit (s.latch 0 ||| s.latch 1) g = false → t.fget (fldAt SAF_CAUSE.CAUSE g) = 11)
      ∧ t.d0.clSeq = s.d0.clSeq + 1)

/-- Commands of the cyclic logic: LOG_START of a stopped or faulted program and LOG_STOP of a running one act at the next
boundary; a program started with both engines retired, D6 without power or a cycle that P refuses stops at once; LOG_EXCHANGE waits for the boundary of its exchange; PT_WRITE writes a point of class HOST (R350, R363, R368, R411).
The overlay of the program in force is stored where the flash takes it (R364). Log entries 135, 188, 276. -/
def Obligations.LogicCommands : Prop :=
  (∀ (s : State) (h : HCmd),
    (freeFor s 0x0601 h → let n := (match s.lgc.img with | some b => imgTasks b | none => 0)
      let engs := s.fget LOG_STATUS.LE_RETIRED ≠ 3
      let dom := bit s.sys.domOn 6 = true
      let cyc := ∀ b k, s.lgc.img = some b → k < imgTasks b → (cycleMs s.time.period (imgCyc b k)).isSome = true
      ∃ t, exec (.logStart h) s = .next t
      ∧ (s.lgState = lgStopped ∨ s.lgState = lgFault → answered s t 0x0601 h resOk
          ∧ (engs → dom → cyc → t.lgState = lgRunning ∧ t.fget LOG_STATUS.ERR = 0
            ∧ t.lgc.tasks = (upTo 2).map (fun k => { taskOff with startAt := if k < n then some s.nextBound else none }))
          ∧ (¬(engs ∧ dom ∧ cyc) → t.lgState = lgFault ∧ t.fget LOG_STATUS.ERR = (if ¬engs then 8 else if ¬dom then 9 else 4)))
      ∧ (s.lgState ≠ lgStopped → s.lgState ≠ lgFault → does s t 0x0601 h (resSt 0x3105) s))
    ∧ (freeFor s 0x0602 h → ∃ t, exec (.logStop h) s = .next t
      ∧ (s.lgState = lgRunning → does s t 0x0602 h resOk { s with lgc := { s.lgc with tasks := s.lgc.tasks.map (fun k =>
          if k.startAt.isSome then { k with stopAt := some s.nextBound } else k) } })
      ∧ (s.lgState ≠ lgRunning → does s t 0x0602 h (resSt 0x3105) s))
    ∧ (freeFor s 0x0603 h → s.role = .standby → s.fbit RED_ROLE.QUALIFIED = true → s.lgState = lgRunning → s.lgc.pend.isSome = true →
      ∃ t, exec (.logExchange h) s = .next t
      ∧ t.hif.taken = [⟨0x0603, (s.fget HIF_SEQ.SEQ + 1) % 2 ^ 32, h, true⟩] ∧ t.lgc = s.lgc
      ∧ t.fget HIF_RSP_PI.IDX = s.fget HIF_RSP_PI.IDX ∧ t.fget HIF_SEQ.SEQ = (s.fget HIF_SEQ.SEQ + 1) % 2 ^ 32)
    ∧ (let n := uAt 4 h.payload 0 % 2 ^ 18;
      freeFor s 0x0605 h → byteAt h.payload 4 ≤ 1 → ∃ t, exec (.ptWrite h) s = .next t
      ∧ ((s.ptInfo n).2 ≠ 2 → does s t 0x0605 h (resSt 0x310A) s)
      ∧ ((s.ptInfo n).2 = 2 → answered s t 0x0605 h resOk ∧ t.ptVal n = uAt 4 h.payload 8 ∧ t.ptStamp n = s.now
          ∧ ((s.ptInfo n).1 ≠ 0 → t.ptQual n = byteAt h.payload 4))))
  ∧ (∀ (s : State) (h : HCmd), freeFor s 0x020E h → s.lgc.img.isSome = true → s.writesHeld = false →
    ∃ t, exec (.overlayCommit h) s = .next t
      ∧ (s.fget LOG_PROG_ID.ID = uAt 4 h.payload 0 → Config.flashOk s.free = true → does s t 0x020E h resOk { s with
          free := s.free + 1, lgc := { s.lgc with saved := some (s.lgc.ovlId, s.lgc.ovl) } })
      ∧ (s.fget LOG_PROG_ID.ID = uAt 4 h.payload 0 → Config.flashOk s.free = false →
          does s t 0x020E h (resSt 0x9101) { s with free := s.free + 1 })
      ∧ (s.fget LOG_PROG_ID.ID ≠ uAt 4 h.payload 0 → does s t 0x020E h (resSt 0x3105) s))

/-- GNS_SNAP triggers a capture when one can start; GNS_FORGET drops almanac, ephemerides or position in CONFIG (R265, R411).
CAN_SEND queues a frame its controller can send, behind those queued, at most 64; UART_SEND takes 1 to 200 bytes of an idle
transmitter (R299, R313, R317, R411). Log entry 191. -/
def Obligations.GnssAndSendCommands : Prop :=
  (∀ (s : State) (h : HCmd),
    (freeFor s 0x0701 h → s.fbit GNS_CFG.EN = true → ∃ t, exec (.gnsSnap h) s = .next t
      ∧ (s.snapOk = true → does s t 0x0701 h resOk { s with gns := { s.gns with trig := some 0 } })
      ∧ (s.snapOk = false → does s t 0x0701 h (resSt 0x6103) (s.fset GNS_SNAP_STAT.IGNORED (incSat 8 (s.fget GNS_SNAP_STAT.IGNORED)))))
    ∧ (let w := byteAt h.payload 0;
      freeFor s 0x0702 h → s.op = .config → w ≤ 7 → ∃ t, exec (.gnsForget h) s = .next t ∧ answered s t 0x0702 h resOk
      ∧ (bit w 0 = true → t.gns.alm = []) ∧ (bit w 1 = true → t.gns.eph = []) ∧ (bit w 2 = true → t.gns.pos = none)
      ∧ (bit w 0 = false → t.gns.alm = s.gns.alm) ∧ (bit w 1 = false → t.gns.eph = s.gns.eph) ∧ (bit w 2 = false → t.gns.pos = s.gns.pos)))
  ∧ (∀ (s : State) (h : HCmd),
    (let p := h.payload
      let n := byteAt p 0
      let m : CanMsg := ⟨uAt 4 p 4, bit (byteAt p 1) 0, bit (byteAt p 1) 1, bit (byteAt p 1) 2, byteAt p 2, (p.drop 16).take 64⟩
      let c := s.ctl n
      freeFor s 0x0801 h → n ≤ 7 → byteAt p 1 ≤ 7 → byteAt p 2 ≤ 15 → m.id < (if m.ide then 2 ^ 29 else 2 ^ 11) → m.brs = false ∨ m.fdf = true →
      ∃ t, exec (.canSend h) s = .next t
      ∧ (let no := (m.fdf = true ∧ s.cctrl CAN_CTRL.FD_EN n = false) ∨ (m.brs = true ∧ s.cctrl CAN_CTRL.BRS_EN n = false);
        (no → answered s t 0x0801 h (resSt 0x5106) ∧ t.can = s.can)
        ∧ (¬no → 64 ≤ c.queue.length → answered s t 0x0801 h (resSt 0x6101) ∧ t.can = s.can
            ∧ t.fget (fldAt CAN_CNT.TX_DROP n) = incSat 8 (s.fget (fldAt CAN_CNT.TX_DROP n)))
        ∧ (¬no → c.queue.length < 64 → answered s t 0x0801 h resOk
            ∧ t.can = { s.can with ord := s.can.ord + 1, ctl := s.can.ctl.set n { c with queue := c.queue ++ [⟨m, uAt 8 p 8, none, none, s.can.ord⟩] } }
            ∧ t.fget (fldAt CAN_TXBUF.QFILL n) = c.queue.length + 1)))
    ∧ (let n := byteAt h.payload 0
      let l := uAt 2 h.payload 2
      freeFor s 0x0802 h → n ≤ 15 → 1 ≤ l → l ≤ 200 → ∃ t, exec (.uartSend h) s = .next t
      ∧ ((s.uart n).tx = [] → does s t 0x0802 h resOk { s with can := { s.can with uart := s.can.uart.set n { s.uart n with tx := [h.payload.drop 4] } } })
      ∧ ((s.uart n).tx ≠ [] → does s t 0x0802 h (resSt 0x6105) s)))

/-- SDF_START starts every channel named that does not run when none is refused, else it starts none and answers the first refused
with its ERR; SDF_STOP stops the channels named (R340, R411). PNL_UPDATE queues the levels of a pod, replacing and reporting a
request not yet started; PNL_RESUME ends the crack hold (R494, R502, R411). Log entries 148, 171. -/
def Obligations.FilterAndPanelCommands : Prop :=
  (∀ (s : State) (h : HCmd),
    let m := uAt 4 h.payload 0
    let named (n : Nat) : Bool := bit m n && (s.sdfCh n).isNone
    let err (n : Nat) : Nat := s.startErr n (s.sdfRunning ++ (upTo 32).filter (fun k => named k && k != n))
    (freeFor s 0x0901 h → ∃ t, exec (.sdfStart h) s = .next t
      ∧ ((∀ n, n < 32 → named n = true → err n = 0) → answered s t 0x0901 h resOk
          ∧ ∀ n, n < 32 → named n = true → t.fbit (fldAt SDF_CH_CFG.EN n) = true ∧ t.fbit (fldAt SDF_CH_STAT.RUN n) = true)
      ∧ (∀ n, n < 32 → named n = true → err n ≠ 0 → (∀ k, k < n → named k = true → err k = 0) →
          answered s t 0x0901 h (resDet 0x310B (n + 256 * err n)) ∧ t.sdf = s.sdf ∧ t.fbit (fldAt SDF_CH_CFG.EN n) = false
            ∧ t.fget (fldAt SDF_CH_STAT.ERR n) = err n))
    ∧ (freeFor s 0x0902 h → ∃ t, exec (.sdfStop h) s = .next t ∧ answered s t 0x0902 h resOk
      ∧ ∀ n, n < 32 → (bit m n = true → t.sdfCh n = none ∧ t.fbit (fldAt SDF_CH_CFG.EN n) = false) ∧ (bit m n = false → t.sdfCh n = s.sdfCh n)))
  ∧ (∀ (s : State) (h : HCmd),
    (let p := byteAt h.payload 0
      let n := uAt 2 h.payload 2
      let x := s.pod p
      let levels := (upTo n).map (fun i => bits (byteAt h.payload (4 + i / 4)) (2 * (i % 4)) 2)
      freeFor s 0x0A01 h → p ≤ 31 → n ≠ 0 → ∃ t, exec (.pnlUpdate h) s = .next t
      ∧ ((s.podSegs p).length ≠ n → does s t 0x0A01 h (resSt 0x2003) s)
      ∧ ((s.podSegs p).length = n → answered s t 0x0A01 h (resSt (if x.queue.isSome then 0x1101 else 0))
          ∧ t.pnl = { s.pnl with pods := tabSet podIdle s.pnl.pods p { x with
              queue := some levels, from_ := if x.run.isNone && x.pend.isNone then s.now + 1000000 else 0 } }))
    ∧ (freeFor s 0x0A02 h → ∃ t, exec (.pnlResume h) s = .next t ∧ answered s t 0x0A02 h resOk
      ∧ t.pnl = { s.pnl with crack := false, ref := none, beyond := 0 } ∧ t.hasAlarm 0x10 0x01 0 = false ∧ t.fbit PNL_STATUS.CRACK = false))

/-- HARVEST takes a harvest at this instant, or ahead by HARV_LEAD where it is sent to the other units, unless eight are pending;
REC_CTRL asks for a recording from the next boundary; the recorder's ring and the ledger are read, SHORT past their end (R401,
R411, R469, R470, R477). READMIT of a channel that is no command path puts its bucket back to zero, in service; REPLAY_ENTER
takes a unit in CONFIG to REPLAY with role NONE and the recorder off; a block in order goes into the replay's buffer, one fed
to a full buffer waits; REPLAY_EXIT takes the unit back to CONFIG (R479, R482, R483, R486). Log entries 139, 142, 143, 200. -/
def Obligations.DiagnosticCommands : Prop :=
  (∀ (s : State) (h : HCmd),
    (let id := uAt 4 h.payload 0;
      freeFor s 0x0B01 h → ∃ t, exec (.harvest h) s = .next t ∧ answered s t 0x0B01 h resOk
      ∧ (8 ≤ s.dia.harv.length → t.dia = s.dia ∧ t.fget DIA_HARV.IGNORED = incSat 8 (s.fget DIA_HARV.IGNORED))
      ∧ (s.dia.harv.length < 8 → t.fget DIA_HARV.PENDING = s.dia.harv.length + 1 ∧ t.dia = { s.dia with harv := s.dia.harv ++
          [if s.fbit NET_PIER_CFG.HARV_SEND then ⟨s.now + s.fget NET_PIER_CFG.HARV_LEAD * 1000000, id, s.ownNode, 0, 4⟩
            else ⟨s.now, id, s.ownNode, 0, 0⟩] }))
    ∧ (freeFor s 0x0B02 h → byteAt h.payload 0 ≤ 2 → byteAt h.payload 1 ≤ 3 → ∃ t, exec (.recCtrl h) s = .next t
      ∧ does s t 0x0B02 h resOk { s with recd := { s.recd with req := some (byteAt h.payload 0, byteAt h.payload 1) } })
    ∧ (let n := uAt 4 h.payload 8
      let got := s.rdB rgnRing (uAt 8 h.payload 0) (min n (recRing - uAt 8 h.payload 0))
      freeFor s 0x0B03 h → 1 ≤ n → n ≤ 4096 → ∃ t, exec (.recRead h) s = .next t
      ∧ (Config.flashOk s.free = false → does s t 0x0B03 h (resSt 0x9102) { s with free := s.free + 1 })
      ∧ (Config.flashOk s.free = true → does s t 0x0B03 h
          { (if got.length < n then resDet 0x1102 got.length else resOk) with page := got } { s with free := s.free + 1 }))
    ∧ (let n := uAt 2 h.payload 2
      let got := (s.ledImage.drop (uAt 2 h.payload 0)).take n
      freeFor s 0x0B04 h → 1 ≤ n → n ≤ 4096 → ∃ t, exec (.ledgerRead h) s = .next t
      ∧ does s t 0x0B04 h { (if got.length < n then resDet 0x1102 got.length else resOk) with page := got } s))
  ∧ (∀ (s : State) (h : HCmd),
    (let c := byteAt h.payload 0
      let i := uAt 2 h.payload 2
      freeFor s 0x0B05 h → c ≤ 3 → i < clsCount c → ∃ t, exec (.readmit h) s = .next t ∧ answered s t 0x0B05 h resOk
      ∧ t.fch = tabSet fltZero s.fch (fltKey c i) fltOk)
    ∧ (freeFor s 0x0B06 h → s.op = .config → s.cfg.uncommitted = false → byteAt h.payload 0 ≤ 1 → ∃ t, exec (.replayEnter h) s = .next t
      ∧ answered s t 0x0B06 h resOk ∧ t.op = .replay ∧ t.role = .none ∧ t.recd.sink = 0 ∧ t.cfg.cfgSess = none
      ∧ t.fget DIA_RPL_STAT.STATE = rplLoading
      ∧ t.dia.rpl.map (fun r => (r.flash, r.start, r.blocks)) = some (byteAt h.payload 0 == 1, uAt 8 h.payload 4, []))
    ∧ (∀ r, s.dia.rpl = some r → freeFor s 0x0B07 h → s.op = .replay → r.flash = false → s.fget DIA_RPL_STAT.STATE ≠ rplStopped →
      ∃ t, exec (.replayFeed h) s = .next t
      ∧ (64 ≤ r.blocks.length → t.hif.taken = [⟨0x0B07, (s.fget HIF_SEQ.SEQ + 1) % 2 ^ 32, h, true⟩] ∧ t.dia = s.dia)
      ∧ (r.blocks.length < 64 → blockOk (pageOf h) = true →
          (match r.blocks.getLast? with | some x => some (uAt 8 x 4) | none => r.bseq).all (fun l => l + 1 == uAt 8 (pageOf h) 4) = true →
          answered s t 0x0B07 h resOk ∧ t.dia.rpl = some { r with blocks := r.blocks ++ [pageOf h] }
            ∧ t.fget DIA_RPL_STAT.BUF = r.blocks.length + 1))
    ∧ (freeFor s 0x0B08 h → s.op = .replay → ∃ t, exec (.replayExit h) s = .next t ∧ answered s t 0x0B08 h resOk
      ∧ t.op = .config ∧ t.dia.rpl = none))

/-- COMMAND_INTAKE of the next entry of the ring does what its command does, with CI advanced; an entry that fails the checks of
its format, CRC or opcode is answered with the first fault and nothing else; an empty ring is left alone (R382, R383, R533).
Log entry 188. -/
def Obligations.CommandIntake : Prop :=
  ∀ (s : State) (h : HCmd), s.mayTake = true → s.storesWf = true →
    let ci := s.fget HIF_CMD_CI.IDX
    let slot := ci % 64
    let e := s.rdB rgnCmd (slot * 256) 256
    let s1 := s.fset HIF_CMD_CI.IDX (ci + 1)
    (s.fget HIF_CMD_PI.PI = ci → exec .commandIntake s = .next s)
    ∧ (s.fget HIF_CMD_PI.PI ≠ ci → h.payload.length ≤ 224 → h.page ≠ some [] → (pageOf h).length ≤ 4096 →
      ∀ c ∈ ([(.getInfo h, 0x0101), (.cfgOpen h, 0x0201), (.objStage h, 0x0203), (.cfgCommit h, 0x0206), (.imgAppend h, 0x0209),
          (.setPosition h, 0x0302), (.trackLoad h, 0x0305), (.keyClaim h, 0x0401), (.safTrip h, 0x0507), (.logStop h, 0x0602),
          (.canSend h, 0x0801), (.sdfStop h, 0x0902), (.recRead h, 0x0B03), (.pwrState h, 0x0C01)] : List (Instr × Nat)),
        e = entryBytes c.2 h → s.rdB rgnXp (slot * 4096) (pageOf h).length = pageOf h → exec .commandIntake s = exec c.1 s1)
    ∧ (s.fget HIF_CMD_PI.PI ≠ ci → let st := entryFault e (s.rdB rgnXp (slot * 4096) 4096)
      st ≠ 0 → ∃ t, exec .commandIntake s = .next t ∧ Reports s1 t
        ∧ t.rdB rgnRsp (s.fget HIF_RSP_PI.IDX % 64 * 256) 256 = rspBytes (uAt 2 e 0) (uAt 2 e 4) ((s.fget HIF_SEQ.SEQ + 1) % 2 ^ 32) (resSt st)
        ∧ t.fget HIF_RSP_PI.IDX = (s.fget HIF_RSP_PI.IDX + 1) % 2 ^ 16 ∧ t.fget HIF_CMD_CI.IDX = (ci + 1) % 2 ^ 16)

/-- The safety inputs: a level change shows the filtered levels and the demand of each mapped pair; pairs that differ for longer
than DISC_T are in discrepancy; trips passed on set the other channel's latches; the SAFE_RST pair pressed and released ends a
press, which clears the latches of the ARMED groups when it was within bounds and is counted when none is ARMED; an
acknowledgement runs out (R221, R222, R234 to R236). Log entry 99. -/
def Obligations.SafetyInputs : Prop :=
  ∀ (s : State) (dt la lb : Nat) (ra rb : Bool), s.hostOn = true → s.storesWf = true →
    let u := s.advance dt
    (∃ t, exec (.estopChange dt la lb ra rb) s = .next t
      ∧ t.fget SAF_ESTOP.LEVEL_A = la % 16 ∧ t.fget SAF_ESTOP.LEVEL_B = lb % 16 ∧ t.fbit SAF_ESTOP.RST_A = ra ∧ t.fbit SAF_ESTOP.RST_B = rb
      ∧ ∀ n, n < 4 → u.estMap n ≠ 0 → bit (t.fget SAF_ESTOP.DEMAND) n = !(bit la n && bit lb n))
    ∧ (∃ t, exec (.discTimeout dt) s = .next t
      ∧ ∀ n, n < 4 → bit (t.fget SAF_ESTOP.DISC) n = (bit (u.fget SAF_ESTOP.DISC) n || (u.estMap n != 0 &&
          (u.saf.diffAt.getD n none).any (fun at_ => decide (at_ + u.discT < u.now)))))
    ∧ (∃ t, exec (.tripPropagate dt) s = .next t ∧ t.saf.msgs = []
      ∧ ∀ m, u.saf.msgs = [m] → t.saf.latch = u.saf.latch.set m.chan (u.latch m.chan ||| m.groups)
          ∧ t.saf.out = u.saf.out.set m.chan (u.safOut m.chan &&& (15 - m.groups % 16)))
    ∧ (∃ t, exec (.safeRstPress dt) s = .next t ∧ t.fbit SAF_ESTOP.RST_A = true ∧ t.fbit SAF_ESTOP.RST_B = true
      ∧ t.saf.press = true ∧ t.saf.both = true)
    ∧ (let v := u.estopChange (u.fget SAF_ESTOP.LEVEL_A) (u.fget SAF_ESTOP.LEVEL_B) false false
      ∃ t, exec (.safeRstRelease dt) s = .next t ∧ t.fbit SAF_ESTOP.RST_A = false ∧ t.fbit SAF_ESTOP.RST_B = false ∧ t.saf.press = false
      ∧ (u.saf.press = true → u.fbit SAF_CFG.RST_SRC = true → v.fget SAF_STATUS.ARMED ≠ 0 → v.pressOk = true → t.saf.latch = v.saf.latch)
      ∧ (u.saf.press = true → v.fget SAF_STATUS.ARMED = 0 ∨ v.pressOk = false →
          t.saf.latch = v.saf.latch ∧ t.fget SAF_CNT.RST_IGNORED = incSat 8 (v.fget SAF_CNT.RST_IGNORED))
      ∧ (u.saf.press = true → u.fbit SAF_CFG.RST_SRC = false → v.fget SAF_STATUS.ARMED ≠ 0 → v.pressOk = true →
          t.saf.latch = v.saf.latch.map (fun l => l &&& (15 - v.fget SAF_STATUS.ARMED)) ∧ t.fget SAF_STATUS.ARMED = 0))
    ∧ (∃ t, exec (.ackWindowExpiry dt) s = .next t ∧ onlyRegs [aSAF_STATUS] u t
      ∧ ∀ g, g < 4 → bit (t.fget SAF_STATUS.ARMED) g = (bit (u.fget SAF_STATUS.ARMED) g && decide (u.now < u.saf.armedTo.getD g 0)))

/-- A test pulse takes the outputs of its channel low for 300 µs at its instant of the second. A fault of a safety channel drops its
outputs and latches every group on it; a read-back or test-pulse fault leaves the channel running, a memory, instruction, clock or watchdog fault stops it, and a watchdog fault asks for a SAFR besides; the
safety session closes after 600 s without a safety command (R220, R231, R240, R456). Log entries 93, 94. -/
def Obligations.SafetyChannelFaults : Prop :=
  ∀ (s : State) (dt ch kind stuck : Nat), s.hostOn = true → s.storesWf = true → ch ≤ 1 →
    let u := s.advance dt
    let down (t : State) : Prop := t.saf.latch = u.saf.latch.set ch (u.latch ch ||| 15) ∧ t.saf.out = u.saf.out.set ch 0
    (∃ t, exec (.outputFault dt ch) s = .next t ∧ down t ∧ t.saf.msgs = u.saf.msgs ++ [⟨1 - ch, 15⟩] ∧ t.chanOk ch = false
      ∧ t.chanRuns ch = u.chanRuns ch)
    ∧ (∃ t, exec (.testPulse dt ch stuck) s = .next t
      ∧ ((u.fbit SAF_CFG.TPULSE && u.chanOk ch && u.pulseDue ch) = false → t = u)
      ∧ (u.fbit SAF_CFG.TPULSE = true → u.chanOk ch = true → u.pulseDue ch = true → u.saf.pulseTo.length = 2 →
          t.safPin ch = 0 ∧ t.saf.pulseTo = u.saf.pulseTo.set ch (u.now + 300000) ∧ (stuck &&& u.safOut ch ≠ 0 → down t)
          ∧ (stuck &&& u.safOut ch = 0 → t = { u with saf := { u.saf with pulseTo := t.saf.pulseTo } })))
    ∧ (kind ≤ 2 → ∃ t, exec (.channelFault dt ch kind) s = .next t ∧ down t ∧ t.chanOk ch = false
      ∧ t.saf.msgs = (if kind = 0 then u.saf.msgs else u.saf.msgs ++ [⟨1 - ch, 15⟩]))
    ∧ (∃ t, exec (.safetyWatchdog dt ch) s = .next t ∧ down t ∧ t.chanOk ch = false
      ∧ (u.sys.rstReq = none → t.sys.rstReq = some (.safr, 0)))
    ∧ (∀ x, u.cfg.safSess = some x → u.hif.taken = [] → ∃ t, exec (.safSessionTimeout dt) s = .next t
      ∧ (x.last + 600000000000 ≤ u.now → t = { u with cfg := { u.cfg with safSess := none, safStaged := [] } }.fset SAF_STATUS.SESSION 0)
      ∧ (u.now < x.last + 600000000000 → t = u))

/-- What time and errors do: a configuration session closes after 600 s and a transfer after 60 s; a hard error retires an engine
at once, or faults a safety channel; an uncorrectable error is an alarm of its region, makes the record or point it hit invalid,
poisons a word of the lending pool, and a word of fusion or solver memory until an engine reads it, retires the engine or faults the channel it hit, or
restarts SV; the fault buckets are brought up to the present millisecond (R393, R407, R484, R485). Log entries 145, 146, 238. -/
def Obligations.ErrorsAndTimeouts : Prop :=
  ∀ (s : State) (dt e region idx : Nat), s.hostOn = true → s.storesWf = true →
    let u := s.advance dt
    let area := fixedAreas.find? (fun x => decide (x.2.2.1 ≤ idx) && decide (idx < x.2.2.1 + x.2.2.2))
    (∀ x, u.cfg.cfgSess = some x → u.hif.taken = [] → ∃ t, exec (.cfgSessionTimeout dt) s = .next t
      ∧ (x.last + 600000000000 ≤ u.now → t = { u with cfg := { u.cfg with
          cfgSess := none, staged := [], stagedImgs := [], xfer := u.cfg.xfer.filter (fun y => y.kind == 0 || y.kind == 3) } })
      ∧ (u.now < x.last + 600000000000 → t = u))
    ∧ (∀ x, u.cfg.xfer = some x → u.hif.taken = [] → ∃ t, exec (.transferTimeout dt) s = .next t
      ∧ (x.last + 60000000000 ≤ u.now → t = { u with cfg := { u.cfg with xfer := none } })
      ∧ (u.now < x.last + 60000000000 → t = u))
    ∧ (e < 16 → e ≠ 1 → e ≠ 2 → u.engDead e = false → ∃ t, exec (.engineHardError dt e true) s = .next t
      ∧ t.retired 4 e = true ∧ t.hasAlarm 0x0F 0x02 (e + 4 * 4096) = true)
    ∧ (∃ t, exec (.eccUncorrectable dt 0 idx) s = .next t ∧ t.hasAlarm 0x0F 0x05 0 = true ∧ t.role = u.role ∧ t.cfg = u.cfg
      ∧ (∀ x, area = some x → let o := cell x.1 ((x.2.1 + (idx - x.2.2.1)) / recSize x.1 * recSize x.1)
          ∀ a, reportCell a = false → t.rd8 a = if o ≤ a ∧ a < o + recSize x.1 then 0 else u.rd8 a)
      ∧ (idx < 0xC00000 → Reports { u with dia := { u.dia with
          poison := u.dia.poison.filter (· != (0, idx / 8)) ++ [(0, idx / 8)] } } t)
      ∧ (area = none → 0xE00000 ≤ idx ∨ 0xC00000 ≤ idx ∧ u.recd.staged = [] → Reports u t))
    ∧ (region = 1 ∨ region = 2 → u.dia.poison = [] → ∃ t, exec (.eccUncorrectable dt region idx) s = .next t
      ∧ t.hasAlarm 0x0F 0x05 region = true
      ∧ (region = 1 ∨ u.slv.mpc = none ∧ u.slv.scen = none ∧ (u.allocOf u.time.frame).all (fun a => a.busy.isEmpty) = true →
          Reports { u with dia := { u.dia with poison := [(region, idx)] } } t)
      ∧ (∀ a x, region = 2 → idx % 2 = 1 → u.allocOf u.time.frame = some a → a.busy.head? = some x → x.1 < 2 → u.engDead (7 + x.1) = false →
          t.retired 4 (7 + x.1) = true ∧ t.dia.poison = []))
    ∧ (∃ t, exec (.eccUncorrectable dt 3 idx) s = .next t ∧ t.hasAlarm 0x0F 0x05 3 = true
      ∧ (idx < 262144 → t.ptVal idx = u.ptVal idx ∧ t.ptQual idx = 0 ∧ t.ptStamp idx = u.now))
    ∧ (e = 1 ∨ e = 2 → ∃ t, exec (.engineHardError dt e true) s = .next t
      ∧ t.chanOk (e - 1) = false ∧ t.saf.latch = u.saf.latch.set (e - 1) (u.latch (e - 1) ||| 15))
    ∧ (idx < 16 → idx ≠ 1 → idx ≠ 2 → u.engDead idx = false → ∃ t, exec (.eccUncorrectable dt 4 idx) s = .next t
      ∧ t.retired 4 idx = true ∧ t.hasAlarm 0x0F 0x05 4 = true)
    ∧ (∃ t, exec (.eccUncorrectable dt 5 idx) s = .next t ∧ t.op = .boot ∧ t.role = .none ∧ t.hif.ready = false)
    ∧ (∃ t, exec (.eccUncorrectable dt 6 idx) s = .next t ∧ t.chanOk (idx % 2) = false ∧ t.hasAlarm 0x0F 0x05 6 = true
      ∧ t.saf.latch = u.saf.latch.set (idx % 2) (u.latch (idx % 2) ||| 15))
    ∧ (6 < region → ∃ t, exec (.eccUncorrectable dt region idx) s = .next t ∧ t = u)
    ∧ (∃ t, exec (.leakTick dt) s = .next t ∧ t.dia.leakMs = max u.dia.leakMs (u.now / 1000000)
      ∧ (u.now / 1000000 ≤ u.dia.leakMs → t = u) ∧ t = { u with fch := t.fch, dia := t.dia })

/-- Harvests, the ledger and the recorder on their own: HARVEST_IN takes a harvest and advances its ID; due harvests are latched
and no longer pending; the ledger takes the oldest request, unless writes are held; a full block goes to flash or to its port;
a checkpoint keeps to its grid; a replay runs the next recorded frame (R445, R468, R470, R475 to R477, R481, R489). Log
entries 139, 141, 142, 143. -/
def Obligations.RecordingOnItsOwn : Prop :=
  ∀ (s : State) (dt : Nat), s.hostOn = true → s.storesWf = true →
    let u := s.advance dt
    (∃ t, exec (.harvestIn dt) s = .next t
      ∧ (u.dget DIA_CFG.HIN_EN ≠ 0 → t.fget DIA_HARV_ID.ID = (u.fget DIA_HARV_ID.ID + 1) % 2 ^ 32
          ∧ (u.dia.harv.length < 8 → t.dia.harv.length = u.dia.harv.length + 1))
      ∧ (u.dget DIA_CFG.HIN_EN = 0 → t = u))
    ∧ (∃ t, exec (.harvestLatch dt) s = .next t ∧ t.dia.harv = u.dia.harv.filter (fun h => decide (u.now < h.at_)))
    ∧ (∃ t, exec (.ledgerCommit dt) s = .next t
      ∧ (u.writesHeld = true → t = u)
      ∧ (∀ e, u.writesHeld = false → u.d0.queue.head? = some e →
          t.rdB rgnLed (576 + 32 * u.d0.head) 32 = ledBytes e u.d0.nextSeq ∧ t.d0.nextSeq = (u.d0.nextSeq + 1) % 2 ^ 32
            ∧ t.d0.head = (u.d0.head + 1) % 110 ∧ (u.d0.lostNew = 0 → t.d0.queue = u.d0.queue.tail)))
    ∧ (∃ t, exec (.recBlockWrite dt) s = .next t
      ∧ (u.writesHeld = true → t = u)
      ∧ (∀ p, u.recNext 1 false = some p → u.writesHeld = false → Config.flashOk u.free = true → t.recd.wp = (u.recd.wp + 4096) % recRing
          ∧ t.recd.bseq = u.recd.bseq + 1 ∧ t.recd.into = p.into ∧ t.rdB rgnRing u.recd.wp (u.recBlock p).length = u.recBlock p))
    ∧ (∃ t, exec (.recBlockSend dt) s = .next t
      ∧ (∀ e p, u.recd.staged.head? = some e → u.recNext 2 false = some p → u.ethOn e.port = true →
          u.fbit (fldAt NET_PORT_STAT.LINK e.port) = true → t.recd.bseq = u.recd.bseq + 1 ∧ t.recd.into = p.into
            ∧ t.out.length = u.out.length + 4))
    ∧ (∃ t, exec (.recCheckpoint dt) s = .next t
      ∧ (u.recd.sink ≠ 0 → u.time.cutDone = false → u.recd.ckptAt + u.dget DIA_CFG.CKPT_INT * 1000000000 ≤ u.now →
          t.recd.ckptAt = u.recd.ckptAt + (u.now - u.recd.ckptAt) / (u.dget DIA_CFG.CKPT_INT * 1000000000) * u.dget DIA_CFG.CKPT_INT * 1000000000
            ∧ t.recd.wp = u.recd.wp))
    ∧ (∀ r i j more e, u.dia.rpl = some r → u.hif.taken = [] → u.op = .replay → u.fget DIA_RPL_STAT.STATE ≠ rplStopped →
        u.fget DIA_RPL_STAT.STATE ≠ rplDone → r.run.isSome = true → manPlaces r.ents = i :: j :: more → r.ents[i]? = some e →
        (r.ents.take j).all (fun x => x.type != 13) = true → (entMan e).frame = (r.k + 1) % 2 ^ 32 →
        ∃ t, exec (.replayFrame dt) s = .next t ∧ t.fget DIA_RPL_FRAME.FRAME = (r.k + 1) % 2 ^ 32
          ∧ t.fget DIA_RPL_CNT.FRAMES = satU DIA_RPL_CNT.FRAMES.w (u.fget DIA_RPL_CNT.FRAMES + 1))

/-- A frame begins: a boundary that is due starts the frame whose number TIME_NS gives, shown in TIM_FRAME_NUM, with the
configuration committed in force, and writes the system points, which describe the frame before; a slew that has ended stops showing; CUTOFF closes the inputs of the frame, seals the
manifest of a unit that dispatches and whose standbys report no disagreement, and on a standby follows the main part that waits (R22, R23, R53, R177, R183, R351, R395).
Log entries 33, 35. -/
def Obligations.FrameStart : Prop :=
  ∀ (s : State) (dt : Nat) (meas : List GnssMeas), s.hostOn = true → s.storesWf = true →
    let u := s.advance dt
    (u.hif.taken = [] → ∃ t, exec (.frameBoundary dt meas) s = .next t
      ∧ (u.boundDue = false → t = u)
      ∧ (u.boundDue = true → t.time.inFrame = true ∧ t.time.cutDone = false ∧ t.time.frame = t.now / t.pNs
          ∧ t.fget TIM_FRAME_NUM.FRAME = t.time.frame % 2 ^ 32 ∧ t.cfg.load = none ∧ (u.time.armed = none → t.now = u.now)
          ∧ t.red.man = none ∧ t.recd.req = none
          ∧ t.ptVal 0 = t.time.frame % 2 ^ 32 ∧ t.ptVal 1 = roleCode u.role + 256 * opCode u.op
          ∧ ∀ n, n < 8 → t.ptQual n = 1 ∧ t.ptStamp n = t.fNow))
    ∧ (∃ t, exec (.slewEnd dt) s = .next t
      ∧ (u.time.slewLeft ≠ 0 → t = u)
      ∧ (u.time.slewLeft = 0 → onlyRegs [aTIM_SLEW, aTIM_STATUS] u t ∧ t.fbit TIM_SLEW.SLEWING = false ∧ t.fbit TIM_STATUS.SLEWING = false))
    ∧ (∃ t, exec (.cutoff dt) s = .next t
      ∧ (u.cutDue = false → t = u)
      ∧ (u.cutDue = true → t.time.cutDone = true ∧ t.time.frame = u.time.frame)
      ∧ (u.cutDue = true → u.dispatches = true →
          (upTo 3).all (fun v => v == u.unit || (u.standbyLease v).all (fun l => decide (l.mis < u.fget RED_CFG.MISMATCH_N))) = true → t.red.man.map (·.frame) = some (u.time.frame % 2 ^ 32) ∧ t.red.mpcSent = none)
      ∧ (∀ m, u.red.nextMan = some m → u.cutDue = true → u.follows = true → m.frame = u.time.frame →
          t.red.following = true ∧ t.red.man = some m ∧ t.red.cmds = m.cmds ∧ t.red.nextMan = none))

/-- The phases of a frame, each within its window and once: fusion writes its record to the ring, the observer commits and
propagates, the control law hands over a demand, allocation starts on it with every slot NOT_RUN; a phase that its window
passes over is reported late in TIM_STATUS or its own register and in the FLAGS of the next manifest, and the frame goes on
without it. A poisoned word of fusion memory costs the engine that reads it (R29, R44, R87, R90, R96, R103, R139, R179, R182, R485).
Log entries 36, 37, 54, 56, 238. -/
def Obligations.FramePhases : Prop :=
  ∀ (s : State) (dt : Nat), s.hostOn = true → s.storesWf = true →
    let u := s.advance dt
    let k := u.time.frame
    let i := (u.fget FUS_REC.IDX + 1) % 64
    let fusDue := u.inputsIn && !u.isNow u.fus.doneK
    let obsDue := u.inputsIn && u.isNow u.fus.doneK && !u.isNow u.cex.commitK
    let lawDue := u.inputsIn && u.isNow u.cex.commitK && !u.isNow u.cex.lawK
    let fe := decide (0 < u.feLive) && u.upToPct (35 + u.shift)
    let oe := u.upToPct (42 + u.shift) && u.ceLive.contains (u.fget CEX_ASSIGN.OBS)
    let le := u.upToPct (42 + u.shift) && u.ceLive.contains (u.fget CEX_ASSIGN.LAW)
    (∃ t, exec (.fusionPhase dt) s = .next t
      ∧ ((fusDue && fe) = false → t = u)
      ∧ ((fusDue && fe) = true → u.dia.poison.any (fun w => w.1 == 1) = true → (t.retired 4 9 || t.retired 4 10) = true)
      ∧ ((fusDue && fe) = true → u.dia.poison.all (fun w => w.1 != 1) = true → t.fus.doneK = some k ∧ t.fus.last.frame = k ∧ t.fget FUS_REC.IDX = i
          ∧ t.rdB rgnFus (i * 64) 64 = fixBytes u.pNs t.fus.last ∧ t.cex = u.cex ∧ t.slv = u.slv ∧ t.ctx = u.ctx))
    ∧ (∃ t, exec (.observerCommit dt) s = .next t
      ∧ ((obsDue && oe) = false → t = u)
      ∧ ((obsDue && oe) = true → t.cex.commitK = some k ∧ t.cex.retroX = none ∧ t.cex.propOwed = false ∧ t.cex.wasLate = false
          ∧ t.fus = u.fus ∧ t.ctx = u.ctx))
    ∧ (∃ t, exec (.controlLaw dt) s = .next t
      ∧ ((lawDue && le) = false → t = u)
      ∧ ((lawDue && le) = true → t.cex.lawK = some k ∧ t.cex.demand.length = 3 ∧ t.cex.obs = u.cex.obs ∧ t.slv = u.slv ∧ t.ctx = u.ctx))
    ∧ (u.dia.poison.all (fun w => w.1 != 2) = true → ∃ t, exec (.allocationPhase dt) s = .next t
      ∧ (∀ a, u.inputsIn = true → u.isNow u.cex.lawK = true → u.past (42 + u.shift) = true → 0 < u.seLive →
          u.allocOf k = some a → a.started = false →
          (t.allocOf k).map (fun b => (b.started, b.demand)) = some (true, if u.cex.func = 0 then a.demand else u.cex.demand)
            ∧ t.cex = u.cex ∧ ∀ n, n < 16 → t.fget (fldAt SLV_SLOT.STAT n) = stNotRun)
      ∧ (u.isNow u.cex.lawK = false → t = u))
    ∧ (∃ t, exec (.phaseLate dt 0) s = .next t ∧ (fusDue = true → u.past (35 + u.shift) = true →
          t.fbit TIM_STATUS.FUSION_LATE = true ∧ bit t.red.late 0 = true ∧ t.fus.doneK = some k ∧ bit t.fus.last.flags 9 = true))
    ∧ (∃ t, exec (.phaseLate dt 1) s = .next t ∧ (obsDue = true → u.past (42 + u.shift) = true →
          t.fbit TIM_STATUS.OBS_LATE = true ∧ bit t.red.late 1 = true ∧ t.cex.commitK = some k ∧ t.cex.propOwed = true))
    ∧ (∃ t, exec (.phaseLate dt 2) s = .next t ∧ (lawDue = true → u.past (42 + u.shift) = true →
          t.fbit CEX_STATUS.CTRL_LATE = true ∧ bit t.red.late 2 = true ∧ t.cex.lawK = some k ∧ t.cex.demand = u.cex.demand))
    ∧ (∃ t, exec (.phaseLate dt 3) s = .next t ∧ (u.inputsIn = true → u.isNow u.cex.commitK = false → u.past (35 + u.shift) = true →
          bit u.red.late 3 = false → t.fbit CEX_STATUS.PROF_LATE = true ∧ bit t.red.late 3 = true ∧ t.cex.profOwe = true))
    ∧ (∃ t, exec (.phaseLate dt 4) s = .next t ∧ (∀ a, u.allocOf k = some a → u.runs = true → u.role ≠ .none → a.started = true →
          a.compared = false → u.past (70 + u.shift) = true → bit u.red.late 4 = false →
          t.fbit TIM_STATUS.XCHK_LATE = true ∧ bit t.red.late 4 = true ∧ t.slv = u.slv))
    ∧ (∃ t, exec (.phaseLate dt 5) s = .next t ∧ (∀ a, u.allocOf k = some a → u.runs = true → u.dispatches = true → a.sent = none →
          a.pick.isSome = true → u.past 80 = true → bit u.red.late 5 = false →
          t.fbit TIM_STATUS.DISPATCH_LATE = true ∧ bit t.red.late 5 = true ∧ t.slv = u.slv))

/-- Solves: a slot in progress that stops of itself before its deadline, or is stopped at it, has its result: the last committed
iterate with the status of the stop, or FALLBACK with the projected iterate 0 where none was committed; the engine takes the
next slot. An MPC run stops with its result, which commits at a CUTOFF or at F(k0+M) into the control engine; a scenario MPC
shows the status it ended with (R46, R136, R139, R142 to R144, R150, R151, R169, R171). Log entries 64, 68, 69. -/
def Obligations.Solves : Prop :=
  ∀ (s : State) (dt i : Nat) (n : Option Nat) (cut fact : Bool), s.hostOn = true → s.storesWf = true →
    let u := s.advance dt
    let k := u.time.frame
    let ended (t : State) (a : AllocSt) (c : Option Cut) : Prop :=
      let tr := u.slotTrace a (a.slots.getD i slotIdle)
      let next := ({ a with busy := a.busy.filter (fun b => b.2 != i) } : AllocSt).assign u.seList
      ∃ x, (t.allocOf k).map (fun b => b.slots.getD i slotIdle) = some x ∧ t.cex = u.cex
        ∧ (t.allocOf k).map (fun b => (b.busy, b.todo)) = some (next.busy, next.todo)
        ∧ t.fget (fldAt SLV_SLOT.STAT i) = x.stat % 2 ^ SLV_SLOT.STAT.w
        ∧ (∀ v, tr.committed c = some v → x.out = some v ∧ stStatus x.stat = (tr.outcome c).2.1)
        ∧ (tr.committed c = none → x.out = some (a.slots.getD i slotIdle).it0 ∧ stStatus x.stat = 5)
    let stop : Option Cut := some ⟨n, if fact then 3 else 2⟩
    let mcut : Option Cut := if cut then stop else none
    let shown (t : State) (m : MpcRun) (x : MpcRes) : Prop := x.k0 = m.k0 ∧ x.m = u.mpcM ∧ x.setAt = u.commitFrame ∧ t.cex = u.cex
      ∧ (∀ v, (u.mpcTrace m.prob).committed mcut = some v → x.u = v ∧ stStatus x.stat = ((u.mpcTrace m.prob).outcome mcut).2.1)
      ∧ ((u.mpcTrace m.prob).committed mcut = none → x.u = m.prob.project u.mpcStyle true m.prob.warm ∧ stStatus x.stat = 5)
    let may (k0 : Nat) := u.mpcSuspended = false ∧ (cut = true → u.fOf (k0 + u.mpcM) ≤ u.now)
    (∃ t, exec (.slotReturn dt i) s = .next t ∧ (u.slotOpen i = none ∨ u.upToPct (65 + u.shift) = false → t = u)
      ∧ (∀ a, u.slotOpen i = some a → u.upToPct (65 + u.shift) = true → i < 16 → a.slots.length = 16 → ended t a none))
    ∧ (let near := u.past (65 + u.shift) = true ∧ u.now ≤ u.atPct k (65 + u.shift) + 5000
      ∃ t, exec (.solveDeadline dt i n fact) s = .next t ∧ (u.slotOpen i = none ∨ ¬near → t = u)
      ∧ (∀ a, u.slotOpen i = some a → near → i < 16 → a.slots.length = 16 → ended t a stop))
    ∧ (∀ m, u.slv.mpc = some m → m.stop = none → ∃ t, exec (.mpcSolveStop dt 0 cut n fact) s = .next t
      ∧ (¬may m.k0 → t = u)
      ∧ (may m.k0 → ∃ x, t.slv.mpc = some { m with stop := some x } ∧ shown t m x))
    ∧ (∀ m p, u.slv.scen = some (p, m) → m.stop = none → i ≠ 0 → ∃ t, exec (.mpcSolveStop dt i cut n fact) s = .next t
      ∧ (¬may m.k0 → t = u)
      ∧ (may m.k0 → ∃ x, t.slv.scen = some (p, { m with stop := some x }) ∧ t.slv.mpc = u.slv.mpc ∧ shown t m x))
    ∧ (∀ m x, u.slv.mpc = some m → m.stop = some x → ∃ t, exec (.mpcCommit dt) s = .next t
      ∧ (((u.time.cutDone = false ∨ k < x.setAt) ∧ k < m.k0 + x.m) ∨ m.spec = true → t = u)
      ∧ (((u.time.cutDone = true ∧ x.setAt ≤ k) ∨ m.k0 + x.m ≤ k) → m.spec = false → t.slv.mpc = none
          ∧ (u.role = .standby → (∀ e, u.slv.mpcLst = some e → expandFrame k e.k0 ≠ x.k0) → t.slv.mpcOwn = some x ∧ t.cex = u.cex)
          ∧ (∀ e, u.role = .standby → u.slv.mpcLst = some e → expandFrame k e.k0 = x.k0 → t.slv.mpcLst = none
              ∧ (mpcDiffers x e = false → t.slv.mpcOwn = u.slv.mpcOwn ∧ t.cex = u.cex))
          ∧ (u.role ≠ .standby → stStatus x.stat = 5 → t.cex = u.cex)
          ∧ (u.role ≠ .standby → stStatus x.stat ≠ 5 → t.cex = { u.cex with mpc := some { x with setAt := k } }
              ∧ t.fget SLV_MPC_K0.K0 = x.k0 % 2 ^ 32)))
    ∧ (∀ m p x, u.slv.scen = some (p, m) → m.stop = some x → ∃ t, exec (.scenarioMpcDone dt) s = .next t
      ∧ t.slv.scen = none ∧ t.slv.scenNext = p ∧ t.fget SLV_MPC.SCEN_STATUS = stStatus x.stat ∧ (p < 16 → t.fget SLV_MPC.SCEN_SLOT = p) ∧ t.cex = u.cex)

/-- The cross-check gives each channel that ends in its window a comparison word; SF5 compares them, counts frames in which they
are missing or differ, and trips at the second; DISPATCH sends the slot that both passed; SF4 counts frames without a dispatch
and trips at the third. In role NONE nothing is compared, except where a stopped channel could not pass its fault on (R161, R211,
R216, R228 to R231). Log entries 91, 92, 236. -/
def Obligations.CheckAndDispatch : Prop :=
  ∀ (s : State) (dt chans bad : Nat), s.hostOn = true → s.storesWf = true →
    let u := s.advance dt
    let k := u.time.frame
    let word (c : Nat) : Option SafWord := (u.saf.words.getD c none).filter (fun x => x.frame == k)
    (∃ t, exec (.crossCheck dt chans) s = .next t
      ∧ ((u.past (65 + u.shift) && u.upToPct (70 + u.shift)) = false → t = u)
      ∧ (∀ a, u.past (65 + u.shift) = true → u.upToPct (70 + u.shift) = true → u.allocOf k = some a → u.runs = true → u.role ≠ .none →
          a.started = true → a.compared = false → u.saf.words.length = 2 → ∀ c, c < 2 →
          (bit chans c = true → u.chanOk c = true → ((t.saf.words.getD c none).map (·.frame)) = some k)
            ∧ (bit chans c = false → t.saf.words.getD c none = u.saf.words.getD c none)))
    ∧ (∃ t, exec (.sf5Compare dt bad) s = .next t
      ∧ (u.role = .none → u.sf5Alone = false → onlyRegs [aSAF_RUN] u t ∧ t.fget SAF_RUN.SF5 = 0)
      ∧ (u.role ≠ .none ∨ u.sf5Alone = true → u.allocOf k = none → u.runs = true → u.past (70 + u.shift) = true → bit u.red.late 4 = false →
          t.fbit TIM_STATUS.XCHK_LATE = true ∧ t.fget SAF_RUN.SF5 = incSat 2 (u.fget SAF_RUN.SF5))
      ∧ (∀ a, u.role ≠ .none ∨ u.sf5Alone = true → u.allocOf k = some a → u.runs = true → a.compared = false →
          u.past (70 + u.shift) = true →
          (t.allocOf k).map (·.compared) = some true
          ∧ (∀ x y, word 0 = some x → word 1 = some y → x.word = y.word → bad % 8 = 0 → t.fget SAF_RUN.SF5 = 0
              ∧ (t.allocOf k).map (fun b => bit b.pass 0) = some (x.pass.contains 0 && y.pass.contains 0))
          ∧ ((word 0).isNone ∨ (word 1).isNone ∨ (word 0).map (·.word) ≠ (word 1).map (·.word) ∨ bad % 8 ≠ 0 →
              t.fget SAF_RUN.SF5 = incSat 2 (u.fget SAF_RUN.SF5) ∧ (t.allocOf k).map (·.pass) = some 0
              ∧ ((word 0).isNone ∨ (word 1).isNone → t.fbit TIM_STATUS.XCHK_LATE = true ∨ bit u.red.late 4 = true)
              ∧ (u.fget SAF_RUN.SF5 = 1 → ∀ c, c < u.saf.latch.length → c < 2 → t.latch c = u.latch c ||| 15))))
    ∧ (∃ t, exec (.dispatch dt) s = .next t
      ∧ (∀ a i, u.allocOf k = some a → u.dispatchDue a = true → a.pick = some i →
          (t.allocOf k).map (fun b => (b.sent, b.first, b.promoted, b.demand)) = some (some i, true, i != 0, a.demand)
          ∧ t.cex = u.cex ∧ (i ≠ 0 → t.fget SLV_PROMO.FRAME = k % 2 ^ SLV_PROMO.FRAME.w))
      ∧ (∀ a, u.allocOf k = some a → a.pick = none → t = u))
    ∧ (∃ t, exec (.sf4Check dt) s = .next t
      ∧ (u.runs = false ∨ u.past 80 = false → t = u)
      ∧ (u.runs = true → u.past 80 = true → u.dispatches = false → t.saf.sf4On = false ∧ t.fget SAF_RUN.SF4 = 0)
      ∧ (u.runs = true → u.past 80 = true → u.dispatches = true → u.saf.sf4K = some k → t = u)
      ∧ (u.runs = true → u.past 80 = true → u.dispatches = true → u.saf.sf4K ≠ some k → u.saf.cmdK = some k →
          t.saf.sf4On = true ∧ t.saf.sf4K = some k ∧ (u.sf4Thr = true → t.fget SAF_RUN.SF4 = 0))
      ∧ (u.runs = true → u.past 80 = true → u.dispatches = true → u.saf.sf4K ≠ some k → u.saf.cmdK ≠ some k →
          u.saf.sf4On = true → u.sf4Thr = true → t.fget SAF_RUN.SF4 = incSat 2 (u.fget SAF_RUN.SF4)
          ∧ (u.fget SAF_RUN.SF4 = 2 → ∀ c, c < u.saf.latch.length → c < 2 → t.latch c = u.latch c ||| 15)))

/-- The slack of a frame: the holder sends the late samples, every unit its CONTROLLER STATUS; retrodiction begins a pass over
late samples, ends it before the next boundary or is abandoned there; the next engine is tested; the record of the frame
before is written (R49 to R51, R53, R170, R177, R181, R211, R291). Log entries 44, 46, 168. -/
def Obligations.SlackWork : Prop :=
  ∀ (s : State) (dt : Nat) (pass : Bool), s.hostOn = true → s.storesWf = true →
    let u := s.advance dt
    let k := u.time.frame
    (∃ t, exec (.retroSupplementSend dt) s = .next t
      ∧ (u.runs = false ∨ u.dispatches = false ∨ u.past 80 = false → t = u)
      ∧ (∀ m, u.red.man = some m → u.runs = true → u.dispatches = true → u.past 80 = true → u.retro = [] →
          t.out.length = u.out.length + u.spansUp.length ∧ t.red = u.red ∧ t.cex = u.cex))
    ∧ (∃ t, exec (.controllerStatusSend dt) s = .next t
      ∧ ((u.bounds && u.time.inFrame && u.past 80 && u.upToPct 85) = false → t = u)
      ∧ ((u.bounds && u.time.inFrame && u.past 80 && u.upToPct 85) = true → t = { u with out := t.out, net := t.net }
          ∧ t.out = u.out ++ u.pierPorts.map (fun n => ⟨u.now, .eth n, u.pduFrame n pduStatus (u.ownPdu pduStatus k u.ctrlStatus)⟩)))
    ∧ (∃ t, exec (.retroPass dt) s = .next t
      ∧ (u.runs = true → u.past 80 = true → u.cex.retroRun = none → u.isNow u.cex.commitK = true →
          (u.retro.any u.retroMine = true → t.cex.retroRun.isSome = true)
          ∧ (u.retro.any u.retroMine = false → t.cex = u.cex))
      ∧ (u.cex.retroRun.isSome = true → t = u))
    ∧ (∃ t, exec (.retroPassDone dt) s = .next t
      ∧ (u.cex.retroRun = none → t = u)
      ∧ (∀ xs, u.cex.retroRun = some xs → u.now < u.fOf (k + 1) → t.cex.retroRun = none
          ∧ (∀ c x f, u.retroCalc xs = some (c, x, f) → u.follows = true →
              t.cex = { u.cex with retroRun := none, retroRes := some (c, x) } ∧ t.retro = u.retro)
          ∧ (∀ c x f, u.retroCalc xs = some (c, x, f) → u.follows = false →
              t.cex = { u.cex with retroRun := none, ckpts := c, retroX := some x }
              ∧ t.retro = u.retro.filter (fun r => decide (k < r.frame) || !retroHeld u.pNs c r)
              ∧ t.fget TIM_CNT_RETRO.APPLIED = incSat TIM_CNT_RETRO.APPLIED.w (u.fget TIM_CNT_RETRO.APPLIED) ∧ bit t.red.late 6 = true)))
    ∧ (∃ t, exec (.retroAbort dt) s = .next t
      ∧ (u.cex.retroRun = none ∨ u.now < u.fOf (k + 1) → t = u)
      ∧ (u.cex.retroRun.isSome = true → u.fOf (k + 1) ≤ u.now → t.cex = { u.cex with retroRun := none }
          ∧ t.fget TIM_CNT_RETRO.ABORT = incSat TIM_CNT_RETRO.ABORT.w (u.fget TIM_CNT_RETRO.ABORT) ∧ t.fbit TIM_STATUS.RETRO_ABORT = true))
    ∧ (∃ t, exec (.engineTestSlice dt pass) s = .next t
      ∧ (∀ e, (u.sliceEngs.drop (u.red.nextSlice % 14) ++ u.sliceEngs.take (u.red.nextSlice % 14)).find? (fun e => !u.engDead e) = some e →
          u.role ≠ .none → u.time.inFrame = true → u.past 80 = true →
          (pass = true → t = { u with red := { u.red with slices := u.red.slices + 1, nextSlice := t.red.nextSlice } }
              ∧ u.sliceEngs[t.red.nextSlice]? = u.sliceEngs[(u.sliceEngs.idxOf e + 1) % 14]?)
          ∧ (pass = false → t.retired 4 e = true)))
    ∧ (∃ t, exec (.allocRecordWrite dt) s = .next t
      ∧ (∀ a, u.allocOf (k - 1) = some a → u.runs = true → u.past 80 = true → a.written = false → a.started = true →
          (t.allocOf (k - 1)).map (·.written) = some true ∧ t.fget SLV_REC.IDX = (u.fget SLV_REC.IDX + 1) % 64
          ∧ t.rdB rgnSlv ((u.fget SLV_REC.IDX + 1) % 64 * 128) 128 = u.allocRecord a ∧ t.cex = u.cex))

/-- The keystone changes hands: a qualified successor takes over with the next epoch when the holder has declared failure, or when
its lease has lapsed, none of its commands is seen and there is proof of silence; without proof the split policy applies; a
unit without span messages of the holder is isolated. A planned transfer or handback runs at its frame; a holder that misses the
successor's LEASE in one of the two frames before cancels the transfer; a holder whose thrusters have gone while another unit
hears them declares failure (R192, R196 to R205). Log entries 77, 78, 266. -/
def Obligations.KeystoneMoves : Prop :=
  ∀ (s : State) (dt : Nat), s.hostOn = true → s.storesWf = true →
    let u := s.advance dt
    let k := u.time.frame
    let idle := u.op = .boot ∨ u.time.inFrame = false ∨ u.past 8 = false ∨ u.role.holds = true ∨ u.role = .zone ∨ u.fget RED_CFG.SET_N = 1
    let judges := u.op ≠ .boot ∧ u.time.inFrame = true ∧ u.past 8 = true ∧ u.fget RED_CFG.SET_N ≠ 1 ∧ (u.role = .standby ∨ u.role = .isolated)
    let mine := u.fbit RED_ROLE.QUALIFIED = true ∧ u.successor = some u.unit
    let lapsed := u.red.validTo.all (fun v => decide (v < k)) = true ∧ u.dispSeen k = false
    let taken (t : State) : Prop := t.role = .active ∧ t.fget RED_EPOCH.EPOCH = u.nextEpoch ∧ t.fget RED_HELD.EPOCH = u.nextEpoch
      ∧ t.fget RED_ROLE.HOLDER = u.unit ∧ t.fbit RED_STATUS.TAKEOVER = true ∧ t.fget RED_CNT.TAKEOVER = incSat RED_CNT.TAKEOVER.w (u.fget RED_CNT.TAKEOVER)
      ∧ t.red.plan = none ∧ t.red.declare = 0
    (∃ t, exec (.keystoneDecision dt) s = .next t
      ∧ (idle → t = u)
      ∧ (judges → u.red.declHolder = true → mine → taken t)
      ∧ (judges → lapsed → u.silence k = true → mine → taken t)
      ∧ (judges → u.red.declHolder = false → lapsed → u.silence k = false → u.fbit RED_CFG.SPLIT_POLICY = false →
          t.role = .isolated ∧ t.fbit RED_STATUS.SPLIT = true ∧ t.hasAlarm 0x07 0x06 0 = true)
      ∧ (judges → u.red.declHolder = false → u.red.validTo.any (fun v => decide (k ≤ v)) = true → recent k 1 u.red.holdSpan = false →
          t.role = .isolated ∧ t.fbit RED_STATUS.SPAN_LOST = true ∧ t.hasAlarm 0x07 0x04 0 = true
            ∧ (recent k u.keyLease u.red.holdNet = true → t.fbit RED_STATUS.NET_PATH = false ∧ t.fbit RED_STATUS.SPLIT = false))
      ∧ (judges → u.red.declHolder = false → u.red.validTo.any (fun v => decide (k ≤ v)) = true → recent k 1 u.red.holdSpan = true →
          t.role = .standby ∧ t.fbit RED_STATUS.NET_PATH = !recent k u.keyLease u.red.holdNet
            ∧ (u.role = .isolated → t.red.reqAt.isSome = true ∧ t.fbit RED_STATUS.SPLIT = false)))
    ∧ (∀ p, u.red.plan = some p → p.2.2 = false → ∃ t, exec (.transferExecute dt) s = .next t
      ∧ (u.runs = false ∨ k ≠ p.1 → t = u)
      ∧ (u.runs = true → k = p.1 → u.role.holds = true → t.role = .standby ∧ (p.2.1 < 4 → t.fget RED_ROLE.HOLDER = p.2.1) ∧ t.red.plan = none
          ∧ t.fget RED_EPOCH.EPOCH = u.nextEpoch ∧ t.fbit RED_ROLE.QUALIFIED = u.fbit RED_ROLE.QUALIFIED)
      ∧ (u.runs = true → k = p.1 → u.role = .standby → mine → taken t))
    ∧ (∀ p, u.red.plan = some p → p.2.2 = false → u.role.holds = true → u.boundDue = true → u.time.armed = none → u.cfg.load = none → u.hif.taken = [] →
        p.1 ≤ k + 2 → k < p.1 → (u.lease p.2.1).all (fun l => l.net != some k && l.span != some k) = true →
        ∃ t, exec (.frameBoundary dt []) s = .next t ∧ t.red.plan = none ∧ t.fbit RED_STATUS.TRANSFER_FAIL = true)
    ∧ (∀ p, u.red.plan = some p → p.2.2 = true → ∃ t, exec (.handback dt) s = .next t
      ∧ (u.runs = false ∨ k ≠ p.1 → t = u)
      ∧ (u.runs = true → k = p.1 → u.role.holds = true → t.role = u.role ∧ t.fget RED_EPOCH.EPOCH = u.nextEpoch
          ∧ t.fget RED_HELD.EPOCH = u.nextEpoch ∧ t.fbit RED_STATUS.HANDBACK = true ∧ t.red.plan = none)
      ∧ (u.runs = true → k = p.1 → u.role = .zone → t.role = .ready ∧ t.fbit RED_STATUS.HANDBACK = true ∧ t.red.plan = none
          ∧ t.red.reqAt = some k))
    ∧ (∃ t, exec (.pathLoss dt) s = .next t
      ∧ (u.runs = false → t = u)
      ∧ (u.runs = true → u.role.holds = true → recent k u.keyLease u.red.thrStat = false → u.spansUp ≠ [] →
          (upTo 3).any (fun v => (u.lease v).any (fun l => bit l.flags 2 && decide (0 < l.piersSeen)
            && (recent k u.keyLease l.net || recent k u.keyLease l.span))) = true →
          t.role = .ready ∧ t.red.declare = 3 ∧ t.hasAlarm 0x07 0x02 0 = true)
      ∧ (u.runs = true → u.role.holds = true → recent k u.keyLease u.red.thrStat = true → t.role = u.role ∧ t.red.declare = u.red.declare))

/-- LEASEs and spans: a correct LEASE is kept as the latest of its unit with the path it came on; one that claims the keystone
with an epoch no earlier than the own names the holder, its epoch and its validity, and a configuration that differs ends
following; a ZONE unit keeps its epoch and waits for the handback the holder plans on hearing it; a datagram that fails the checks of form or CRC is counted and does nothing else. A span is down after three whole frames
without one and up after twenty with one that reach up to now (R176, R191, R192, R205, R213, R285). Log entries 75, 78. -/
def Obligations.LeasesAndSpans : Prop :=
  ∀ (s : State) (dt n : Nat), s.hostOn = true → s.storesWf = true →
    let u := s.advance dt
    let k := u.time.frame
    let x := u.span n
    let gone := x.last.all (fun f => decide (f + 3 < k))
    (∀ via p, takesPdu u via pduLease p → p.payload.length = 32 → byteAt p.payload 0 < 3 →
      via.port < 4 ∨ (byteAt p.payload 0 = u.spanUnit (via.port - 4) ∧ p.node = u.nodeOf (byteAt p.payload 0)) →
      let v := byteAt p.payload 0
      let l := leaseOf k p (u.lease v)
      let l1 := if via.port < 4 then { l with net := some k } else { l with span := some k }
      ∃ t, exec (.leaseRx dt via (pduBytes p)) s = .next t
      ∧ (u.red.leases.length = 3 → u.role.holds = false → t.red.leases = u.red.leases.set v (some l1))
      ∧ bit (t.fget (if via.port < 4 then RED_LINK.LEASE_NET else RED_LINK.LEASE_SPAN)) v = true
      ∧ (l.role = 3 ∨ l.role = 6 → u.role = .zone → t.role = .zone ∧ t.fget RED_EPOCH.EPOCH = u.fget RED_EPOCH.EPOCH
          ∧ (bit l.flags 6 = true → t.red.plan = some (l.atFrame, v, true)))
      ∧ (l.role = 5 → u.role.holds = true → u.red.plan = none → t.red.plan = some (k + 2, v, true))
      ∧ (l.role = 3 ∨ l.role = 6 → u.role.holds = false → u.role ≠ .zone → later (u.fget RED_EPOCH.EPOCH) l.epoch = false →
          t.fget RED_EPOCH.EPOCH = l.epoch ∧ t.fget RED_ROLE.HOLDER = v ∧ t.fbit RED_STATUS.CONFIG_DIFF = (l.hash != u.hash)
          ∧ (later l.epoch (u.fget RED_EPOCH.EPOCH) = true ∨ u.fget RED_ROLE.HOLDER ≠ v → t.red.validTo = some l.validTo)
          ∧ (l.hash ≠ u.hash → u.role = .standby ∨ u.role = .isolated → t.role = .ready)
          ∧ (l.hash = u.hash → t.role = u.role))
      ∧ (v ≠ u.unit → l.role = 3 ∨ l.role = 6 → u.role.holds = true → later l.epoch (u.fget RED_EPOCH.EPOCH) = true →
          t.role = .ready ∧ t.fget RED_EPOCH.EPOCH = l.epoch ∧ t.fget RED_ROLE.HOLDER = v))
    ∧ (∀ (via : Via) (bs : List Byte), (u.viaOk via bs.length = false → ∃ t, exec (.leaseRx dt via bs) s = .next t ∧ t = u)
        ∧ (u.viaOk via bs.length = true → takesType u via pduLease = false ∨ pduParse pduLease bs = .format → ∃ t, exec (.leaseRx dt via bs) s = .next t
          ∧ onlyRegs [aNET_PIER_ERR] u t ∧ t.fget NET_PIER_ERR.FORMAT = incSat NET_PIER_ERR.FORMAT.w (u.fget NET_PIER_ERR.FORMAT))
        ∧ (u.viaOk via bs.length = true → takesType u via pduLease = true → pduParse pduLease bs = .crc → ∃ t, exec (.leaseRx dt via bs) s = .next t
          ∧ onlyRegs [aNET_PIER_ERR] u t ∧ t.fget NET_PIER_ERR.CRC = incSat NET_PIER_ERR.CRC.w (u.fget NET_PIER_ERR.CRC)))
    ∧ (n < 2 → u.red.spans.length = 2 →
      (∃ t, exec (.spanDown dt n) s = .next t ∧ (x.up = false ∨ gone = false → t = u)
        ∧ (x.up = true → gone = true → t.span n = { x with up := false, run := 0, rtt := 65535 }
            ∧ t.fbit (if n = 0 then RED_LINK.SPAN0_UP else RED_LINK.SPAN1_UP) = false))
      ∧ (∃ t, exec (.spanUp dt n) s = .next t ∧ (x.up = true ∨ x.run < 20 ∨ recent k 1 x.last = false ∨ u.retired 2 n = true → t = u)
        ∧ (x.up = false → 20 ≤ x.run → recent k 1 x.last = true → u.retired 2 n = false → t.span n = { x with up := true }
            ∧ t.fbit (if n = 0 then RED_LINK.SPAN0_UP else RED_LINK.SPAN1_UP) = true)))

/-- Health and refinement: at each whole second the score is 255 less the deductions of the table, reported in the ring of health
reports; the CRC runs over the bytes of every image loaded, and an image whose CRC fails takes its effect; at each minute a reference's corrections stay in their boxes and frozen
ones stand (R62, R63, R76, R135, R211 to R213). Log entries 51, 165, 169, 239. -/
def Obligations.HealthAndRefinement : Prop :=
  ∀ (s : State) (dt i ecc : Nat), s.hostOn = true → s.storesWf = true →
    let u := s.advance dt
    let h := 255 - sumN (u.eccNote ecc).healthRows
    let r := (u.fget RED_HREP.IDX + 1) % 64
    (∃ t, exec (.healthRecompute dt ecc) s = .next t ∧ t.ownHealth = h ∧ t.fget RED_HREP.IDX = r
      ∧ (t.rdB rgnHrep (r * 32) 32).take 10 = leBytes 8 (u.now / 1000000000 * 1000000000) ++ leBytes 1 (65 + u.unit) ++ leBytes 1 h
      ∧ t.red = { u.red with ecc := 0, clkWarn := false, slices := 0 })
    ∧ (u.cfg.imgs.all imgCrcOk = true → ∃ t, exec (.imageCrcCheck dt []) s = .next t ∧ t = u)
    ∧ (∀ x ∈ u.cfg.imgs, u.role ≠ .none → x.kind = 1 → imgCrcOk x = false → (u.img 1 x.slot).isSome = true →
      ∃ t, exec (.imageCrcCheck dt []) s = .next t ∧ t.fus.imgBad.contains x.slot = true)
    ∧ (u.role ≠ .none → (u.img 1 i).isSome = true → ∃ t, exec (.imageCrcCheck dt [(1, i)]) s = .next t
      ∧ t.fus.imgBad.contains i = true ∧ (u.fus.imgBad.contains i = false → t.fbit FUS_STATUS.IMAGE_FAULT = true ∧ t.hasAlarm 0x04 0x07 i = true))
    ∧ (u.role ≠ .none → (u.img 2 0).isSome = true → ∃ t, exec (.imageCrcCheck dt [(2, 0)]) s = .next t ∧ t.slv.mpcBad = true
      ∧ t.fbit SLV_STATUS.SCHED_FAULT = true)
    ∧ (u.role ≠ .none → (u.img 2 1).isSome = true → ∃ t, exec (.imageCrcCheck dt [(2, 1)]) s = .next t ∧ t.slv.pipe = u.slv.pipe.or (some (u.time.frame + 1))
      ∧ t.fbit SLV_STATUS.SCHED_FAULT = true ∧ t.hasAlarm 0x06 0x04 0 = true)
    ∧ (∃ t, exec (.refineMinute dt) s = .next t
      ∧ (u.runs = false ∨ u.fNow % 60000000000 ≠ 0 ∨ u.time.cutDone = true → t = u)
      ∧ (u.runs = true → u.fNow % 60000000000 = 0 → u.time.cutDone = false → u.fus.refs.length = 16 → t.cex = u.cex
          ∧ ∀ n, n < 16 → let old := u.fus.refs.getD n resetRef; let new := t.fus.refs.getD n resetRef
            new.lever = old.lever ∧ new.mount = old.mount ∧ (∀ c, u.refCfg n = some c → new.acc = ⟨[], false, false⟩
              ∧ (old.acc.frozen = true → new.nextLever = old.nextLever ∧ new.nextMount = old.nextMount)
              ∧ (old.acc.frozen = false → ∀ j, j < 3 → (new.nextLever.getD j 0).natAbs ≤ c.box.getD j 0
                  ∧ (new.nextMount.getD j 0).natAbs ≤ c.box.getD (3 + j) 0))))

/-- A standby follows: a main part of one segment waits for CUTOFF; one that does not come in time makes the frame unfollowable
and asks for a refresh; the holder's commands are noted; a segment of a state image for this unit is gathered; a unit whose
manifests reach the frame in progress has caught up and becomes standby; a resynchronisation that takes too long is dropped
(R182, R185 to R187, R197, R206, R207, R209). Log entries 79, 84, 85. -/
def Obligations.Following : Prop :=
  ∀ (s : State) (dt n : Nat), s.hostOn = true → s.storesWf = true →
    let u := s.advance dt
    let k := u.time.frame
    (∀ via p, takesPdu u via pduManifest p → 64 ≤ p.payload.length → p.epoch = u.fget RED_EPOCH.EPOCH → byteAt p.payload 28 = 0 →
      byteAt p.payload 29 = 0 → u.red.rx = [] → u.red.reqAt = none → u.red.catchB = none → u.role = .standby → u.runs = true →
      let m := manOf p.node p.epoch (expandFrame k p.frame) (p.payload.take 64) (p.payload.drop 64)
      bit m.flags 10 = false → k < m.frame → ∃ t, exec (.manifestRx dt via (pduBytes p)) s = .next t
      ∧ t.red.nextMan = some m ∧ t.red.man = u.red.man ∧ t.role = u.role ∧ t.cex = u.cex ∧ t.fus = u.fus)
    ∧ (∃ t, exec (.manifestTimeout dt) s = .next t ∧ (u.manTimeout = false → t = u)
      ∧ (u.manTimeout = true → t.red.man.map (·.frame) = some (k % 2 ^ 32) ∧ t.red.unfol.contains k = true ∧ t.red.reqAt.isSome = true
          ∧ (u.red.unfol.contains k = false → t.fget RED_CNT.UNFOLLOW ≠ 0)))
    ∧ (∀ via p, takesPdu u via pduCommand p → ∃ t, exec (.commandPduRx dt via (pduBytes p)) s = .next t
      ∧ (u.dispatches = false → p.epoch = u.fget RED_EPOCH.EPOCH → t.red.dispAt = some k ∧ t.red.holdNet = some k)
      ∧ (u.dispatches = true ∨ p.epoch ≠ u.fget RED_EPOCH.EPOCH → t.red = u.red ∧ t.slv = u.slv))
    ∧ (∀ via p, takesPdu u via pduImage p → let b := p.payload
      let total := uAt 4 b 8
      let ofs := uAt 4 b 12
      let len := uAt 2 b 16
      ∃ t, exec (.stateImageRx dt via (pduBytes p)) s = .next t
      ∧ (byteAt b 18 ≠ u.unit ∨ u.red.reqAt = none → t.red = u.red)
      ∧ (byteAt b 18 = u.unit → u.role = .ready ∨ u.role = .standby ∨ u.role = .isolated → u.red.reqAt.isSome = true → u.red.imgRx = none → 0 < len → len ≤ 8192 → total ≤ 8388608 →
          ofs + len ≤ total → 24 + len ≤ b.length → len < total →
          t.red.imgRx = some ⟨uAt 8 b 0 / u.pNs, total, uAt 4 b 20, [(ofs, (b.drop 24).take len)]⟩ ∧ t.fget RED_ROLE.CATCHUP = 1))
    ∧ (∃ t, exec (.catchUpDone dt) s = .next t
      ∧ (u.red.catchB = none → t = u)
      ∧ (∀ b, u.red.catchB = some b → u.catchList b k = none ∨ b + 64 < k ∨ u.atPct k (u.time.cutoff + 5) ≤ u.now → t = u)
      ∧ (∀ b, u.red.catchB = some b → (u.catchList b k).isSome = true → k ≤ b + 64 → u.now < u.atPct k (u.time.cutoff + 5) →
          t.red.catchB = none ∧ t.red.manBuf = [] ∧ t.fget RED_ROLE.CATCHUP = 0 ∧ (u.role = .ready → u.hashDiff = false → t.role = .standby)
            ∧ (u.role = .ready → u.hashDiff = true → t.role = .ready)))
    ∧ (let late := u.red.reqAt.any (fun r => decide (r + 32 < k)) || u.red.catchB.any (fun b => decide (b + 64 < k));
      ∃ t, exec (.resyncFail dt) s = .next t
      ∧ (late = false → t = u)
      ∧ (late = true → t.red = { u.red with reqAt := none, imgRx := none, catchB := none, manBuf := [] }
          ∧ t.fbit RED_STATUS.RESYNC_FAIL = true ∧ t.fget RED_ROLE.CATCHUP = 0))

/-- PDUs and datagrams: a SAMPLE entry goes to the context it is bound to and no other, an unbound one is counted; a STATUS is the
latest of its pier; a HARVEST is taken once, unless it lies too far ahead or eight wait; a 450 datagram is counted by what it
is, and a sentence in it goes to the parser it is bound to; a port shows its link; ARP requests and echo requests for the port's address are answered (R40, R270, R271, R286, R290 to
R297, R470). Log entries 112, 113, 122. -/
def Obligations.NetworkReceive : Prop :=
  ∀ (s : State) (dt n : Nat), s.hostOn = true → s.storesWf = true →
    let u := s.advance dt
    let k := u.time.frame
    (∀ via p e, takesPdu u via pduSample p → sampleEntries p.payload (byteAt p.payload 0) 4 = [e] → let bound := u.bindOf 0 (fun b => uAt 2 b 0 == p.node && uAt 2 b 2 == e.stream);
      ∃ t, exec (.samplePduRx dt via (pduBytes p)) s = .next t
      ∧ (e.invalid = true → t.ctx = u.ctx ∧ t.retro = u.retro ∧ t.fget NET_PIER_ERR.UNBOUND = u.fget NET_PIER_ERR.UNBOUND)
      ∧ (e.invalid = false → bound = [] → t.ctx = u.ctx ∧ t.fget NET_PIER_ERR.UNBOUND = incSat NET_PIER_ERR.UNBOUND.w (u.fget NET_PIER_ERR.UNBOUND))
      ∧ (∀ b, b ∈ bound → e.invalid = false → bound.length = 1 →
          (∀ m, m ∉ fieldCtxs (fieldsOf b.2) → t.ctxOf m = u.ctxOf m)
          ∧ (∀ m, m ∈ fieldCtxs (fieldsOf b.2) → (u.ctxOf m).q ≠ .off → (u.ctxOf m).q ≠ .retired → e.isLocal = false →
              (u.ctxOf m).localMode = false → (u.ctxOf m).hermite = e.rate → (u.ctxOf m).buf = [] →
              (t.ctxOf m).buf.map (·.t) = [Int.ofNat e.stamp])))
    ∧ (∀ via p, takesPdu u via pduStatus p → let b := p.payload
      byteAt b 0 < 3 → (byteAt b 0 = 2 → uAt 2 b 6 ≤ 64) → 8 ≤ b.length → b.length = uAt 2 b 6 + 8 → ∃ t, exec (.statusPduRx dt via (pduBytes p)) s = .next t
      ∧ t.red.piers.find? (fun x => x.1 == p.node) = some (p.node, k) ∧ (t.fget RED_LINK.PIERS_SEEN = t.piersSeen % 2 ^ RED_LINK.PIERS_SEEN.w)
      ∧ (byteAt b 0 ≤ 1 → t.red.inbox.getLast? = some ⟨p.node, u.now, expandFrame k p.frame, p.epoch, b⟩)
      ∧ (byteAt b 0 = 0 → t.red.thrStat = some k))
    ∧ (∀ via p, takesPdu u via pduHarvest p → let b := p.payload
      let at_ := uAt 8 b 0
      let known := u.net.harvIds.any (fun x => decide (u.now ≤ x.2.2 + 10000000000) && x.1 == uAt 2 b 12 % 1024 && x.2.1 == uAt 4 b 8)
      ∃ t, exec (.harvestPduRx dt via (pduBytes p)) s = .next t
      ∧ (2 < byteAt b 14 ∨ known = true → t.dia = u.dia ∧ t.fget DIA_HARV.IGNORED = u.fget DIA_HARV.IGNORED)
      ∧ (byteAt b 14 ≤ 2 → known = false → u.now + 1000000000 < at_ ∨ 8 ≤ u.dia.harv.length →
          t.dia = u.dia ∧ t.fget DIA_HARV.IGNORED = incSat DIA_HARV.IGNORED.w (u.fget DIA_HARV.IGNORED))
      ∧ (byteAt b 14 ≤ 2 → known = false → at_ ≤ u.now + 1000000000 → u.dia.harv.length < 8 → t.dia = { u.dia with harv := u.dia.harv ++
          [⟨at_, uAt 4 b 8, uAt 2 b 12 % 1024, byteAt b 14, (if at_ < u.now then 1 else 0) + 2⟩] }))
    ∧ (∀ (addr port : Nat) (vid : Option Nat) (bs : List Byte), ∃ t, exec (.datagram450Rx dt ⟨n, vid⟩ addr port bs) s = .next t
      ∧ (6 ≤ n ∨ u.ethOn n = false ∨ u.vidOk n vid = false ∨ u.fbit (fldAt NET_PORT_CFG.I450 n) = false ∨ u.slot450 addr port = none → t = u)
      ∧ (u.vidOk n vid = true → u.ethOn n = true → u.fbit (fldAt NET_PORT_CFG.I450 n) = true → (u.slot450 addr port).isSome = true →
          (bs.take 6 ≠ ascii "UdPbC" ++ [0] → onlyRegs [aNET_450_CNT] u t ∧ t.fget NET_450_CNT.UNSUP = incSat NET_450_CNT.UNSUP.w (u.fget NET_450_CNT.UNSUP))
          ∧ (bs.take 6 = ascii "UdPbC" ++ [0] → ((linesOf (bs.drop 6)).map lineOf).any (·.isNone) = true →
              onlyRegs [aNET_450_CNT] u t ∧ t.fget NET_450_CNT.BAD = incSat NET_450_CNT.BAD.w (u.fget NET_450_CNT.BAD))))
    ∧ (∀ (addr port slot : Nat) (vid : Option Nat) (bs body : List Byte) (l : Line450), u.vidOk n vid = true → u.ethOn n = true → u.fbit (fldAt NET_PORT_CFG.I450 n) = true →
      u.slot450 addr port = some slot → bs.take 6 = ascii "UdPbC" ++ [0] → (linesOf (bs.drop 6)).map lineOf = [some l] → l.grp = none →
      sentBody l.sent = some body → u.net.grps = [] → ∃ t, exec (.datagram450Rx dt ⟨n, vid⟩ addr port bs) s = .next t
      ∧ (u.bind450 slot l.src body = [] → onlyRegs [aNET_450_CNT] u t ∧ t.fget NET_450_CNT.UNSUP = incSat NET_450_CNT.UNSUP.w (u.fget NET_450_CNT.UNSUP))
      ∧ (∀ b, u.bind450 slot l.src body = [b] → t = (u.finc NET_450_CNT.OK).sentDeliver b.2 body (u.stampIn n).toNat
          ∧ t.fget NET_450_CNT.OK = incSat NET_450_CNT.OK.w (u.fget NET_450_CNT.OK)
          ∧ ∀ m, m ∉ fieldCtxs (fieldsOf b.2) → t.ctxOf m = u.ctxOf m))
    ∧ (∀ (up fast : Bool) (errs : Nat), ∃ t, exec (.portLinkChange dt n up fast errs) s = .next t
      ∧ (6 ≤ n ∨ u.netOn = false → t = u)
      ∧ (n = 4 ∨ n = 5 → u.netOn = true → t.fbit (fldAt NET_PORT_STAT.LINK n) = up
          ∧ t.fget (fldAt NET_PORT_STAT.RX_ERR n) = satU NET_PORT_STAT.RX_ERR.w (u.fget (fldAt NET_PORT_STAT.RX_ERR n) + errs))
      ∧ (u.ethOn n = true → errs ≤ 100 → t.fbit (fldAt NET_PORT_STAT.LINK n) = up
          ∧ t.fget (fldAt NET_PORT_STAT.RX_ERR n) = satU NET_PORT_STAT.RX_ERR.w (u.fget (fldAt NET_PORT_STAT.RX_ERR n) + errs)))
    ∧ (∀ f : List Byte, ∃ t, exec (.arpIcmpIgmpRx dt n f) s = .next t ∧ t = { u with out := t.out }
      ∧ (u.ethOn n = false → t = u)
      ∧ (∀ x, u.ethIn n f = some x → u.ethOn n = true → x.2.1 = 0x0806 → beAt 2 x.2.2 6 = 1 → beAt 4 x.2.2 24 = u.ipOf n → t.out = u.out ++ [⟨u.now, .eth n,
          u.ethFrame n 0 0x0806 x.1 (x.2.2.take 6 ++ beBytes 2 2 ++ macOf n ++ beBytes 4 (u.ipOf n) ++ (x.2.2.drop 8).take 10)⟩]))

/-- PTP: a parent is chosen among the masters heard within their time, and the servo holds over when no domain is left; a Sync of
the parent is measured once a path delay is known; path delays are averaged over sixteen and gated; TRANSITION ends after
TRANS_T; the primary domain is taken back after REVERT_T; requests and intervals send the messages of the port's state (R275
to R281). Log entries 117, 118, 119, 120. -/
def Obligations.TimeProtocol : Prop :=
  ∀ (s : State) (dt i port dom what : Nat) (a : Ann) (m : SyncMsg) (d : DelayMsg) (q : ReqMsg), s.hostOn = true → s.storesWf = true → i < 2 →
    let u := s.advance dt
    let x := u.dom i
    (∃ t, exec (.announceRx dt a) s = .next t
      ∧ (u.domIdx a.domain = none ∨ u.ptpIn a.port a.wire = false → t = u)
      ∧ (u.domIdx a.domain = some i → u.ptpIn a.port a.wire = true → a.logAnn < -3 ∨ 2 < a.logAnn →
          (t.dom i).masters = x.masters.filter (fun y => y.ann.src != a.src || y.ann.port != a.port))
      ∧ (u.domIdx a.domain = some i → -3 ≤ a.logAnn → a.logAnn ≤ 2 → x.offRate.contains (a.src, a.port) = true → t = u)
      ∧ (u.domIdx a.domain = some i → u.ptpIn a.port a.wire = true → x.offRate.contains (a.src, a.port) = false → a.logAnn = 0 →
          (t.dom i).masters = x.masters.filter (fun y => y.ann.src != a.src || y.ann.port != a.port) ++ [⟨a, u.now + 3000000000⟩]
          ∧ (t.dom i).best = bestMaster (t.dom i).masters ∧ (t.dom (1 - i)) = u.dom (1 - i)))
    ∧ (∃ t, exec (.announceTimeout dt i) s = .next t
      ∧ (∀ j, j < 2 → (t.dom j).masters = (u.dom j).masters.filter (fun y => decide (u.now < y.ends))) ∧ (t.dom i).best = bestMaster (t.dom i).masters
      ∧ (u.servo ≠ svFree → (t.dom 0).best = none → (t.dom 1).best = none → t.servo = svHoldover))
    ∧ (let p := u.pathOf x m.port
      let o := m.t2 - u.fsgn (fldAt NET_PORT_DLY.ING m.port) - m.t1 - m.cf - p.mpd
      let mine := x.best.any (fun b => b.ann.src == m.src && b.ann.port == m.port)
      ∃ t, exec (.syncRx dt m) s = .next t
      ∧ (u.domIdx m.domain = some i → u.ptpIn m.port m.wire = false → t = u)
      ∧ (u.domIdx m.domain = some i → u.ptpIn m.port m.wire = true → m.logSync < -7 ∨ 0 < m.logSync → (t.dom i).nMeas ≤ x.nMeas
          ∧ (t.dom i).offRate.contains (m.src, m.port) = true ∧ ∀ y ∈ (t.dom i).masters, y.ann.src ≠ m.src ∨ y.ann.port ≠ m.port)
      ∧ (u.domIdx m.domain = some i → x.offRate.contains (m.src, m.port) = false → -7 ≤ m.logSync → m.logSync ≤ 0 → mine = false ∨ p.n = 0 → t = u)
      ∧ (u.domIdx m.domain = some i → u.ptpIn m.port m.wire = true → mine = true → -7 ≤ m.logSync → m.logSync ≤ 0 → p.n ≠ 0 →
          (t.dom i).last = some o ∧ (t.dom i).nMeas = min 16 (x.nMeas + 1)
          ∧ t.fget (if i = 0 then TIM_OFS_PRI.O else TIM_OFS_SEC.O) = tc 32 (satS 32 o)))
    ∧ (let p := u.pathOf x d.port
      let r := p.req.elim 0 (·.2)
      let v := if u.fbit TIM_PTP_CFG.DELAY then rndAway ((u.stampIn d.port - r) - (d.t5 - d.t4) - d.cf) 2 else (d.t4 - r) - d.cf
      let fits := p.n < 16 ∨ (v - p.mpd).natAbs ≤ 10 * u.fget TIM_SRV_CFG2.PD_GATE
      ∃ t, exec (.delayRespRx dt d) s = .next t
      ∧ (u.domIdx d.domain = some i → u.ptpIn d.port d.wire = false ∨ p.req.map (·.1) ≠ some d.seq → t = u)
      ∧ (u.domIdx d.domain = some i → u.ptpIn d.port d.wire = true → p.req.map (·.1) = some d.seq → x.paths.length = 4 →
          let q := t.pathOf (t.dom i) d.port
          q.req = none ∧ (∀ j, j ≠ u.pathIdx d.port → (t.dom i).paths[j]? = x.paths[j]?)
          ∧ (fits → q.last16 = lastN 16 (p.last16 ++ [v]) ∧ q.n = min 16 (p.n + 1)
              ∧ q.mpd = rndAway (sumI (lastN 16 (p.last16 ++ [v]))) (lastN 16 (p.last16 ++ [v])).length)
          ∧ (¬ fits → q.mpd = p.mpd ∧ t.fget TIM_SRV_CNT.GATED = incSat TIM_SRV_CNT.GATED.w (u.fget TIM_SRV_CNT.GATED))))
    ∧ (let ends := decide (u.servo = svTransition) && decide (u.net.ptp.transAt + u.fget TIM_SRV_CFG2.TRANS_T * 1000000000 ≤ u.now);
      ∃ t, exec (.transitionEnd dt) s = .next t ∧ (ends = false → t = u)
      ∧ (ends = true → t.servo = svLocked ∧ t.fbit TIM_STATUS.TIME_UNSET = false ∧ t.time = u.time))
    ∧ (let back := u.fbit TIM_DOM_CFG.REVERT && u.sel == 1 && u.net.ptp.pri.usableAt.any (fun t => decide (t + u.fget TIM_SRV_CFG2.REVERT_T * 1000000000 ≤ u.now))
          && u.usable 0 && (u.servo == svAcquire || u.servo == svLocked || u.servo == svTransition);
      ∃ t, exec (.primaryRevert dt) s = .next t ∧ (back = false → t = u)
      ∧ (back = true → t.sel = 0 ∧ t.servo = svTransition ∧ t.net.ptp.transAt = u.now ∧ t.time = u.time
          ∧ t.fget TIM_SRV_CNT.SWITCH = incSat TIM_SRV_CNT.SWITCH.w (u.fget TIM_SRV_CNT.SWITCH)))
    ∧ (∃ t, exec (.delayReqRx dt q) s = .next t ∧ t = { u with out := t.out }
      ∧ (u.ptpIn q.port q.wire = false → t = u)
      ∧ (u.domIdx q.domain = some i → q.peer = true → u.fbit TIM_PTP_CFG.DELAY = true → u.ptpIn q.port q.wire = true → t.out.length = u.out.length + 2)
      ∧ (u.domIdx q.domain = some i → q.peer = false → u.fbit TIM_PTP_CFG.DELAY = false → u.ptpIn q.port q.wire = true →
          t.out = u.out ++ (if u.masterOn i q.port then [⟨u.now, .eth q.port,
            u.ptpFrame q.port 9 (ptpMsg 9 q.domain q.port q.seq 0 3 q.cf (-3) (ptpStamp (u.stampIn q.port) ++ beBytes 10 q.src))⟩] else [])))
    ∧ (∃ t, exec (.ptpMessageInterval dt port dom what) s = .next t
      ∧ (4 ≤ port ∨ u.domIdx dom = none → t = u)
      ∧ (port < 4 → u.domIdx dom = some i → what = 0 → u.masterOn i port = true → t.out.length = u.out.length + 2 ∧ t.net.ptp.seq = u.net.ptp.seq + 1)
      ∧ (∀ b, x.best = some b → port < 4 → u.domIdx dom = some i → what = 1 → u.masterOn i port = true → t.net.ptp.seq = u.net.ptp.seq + 1
          ∧ t.out = u.out ++ [⟨u.now, .eth port, u.ptpFrame port 11
            (ptpMsg 11 dom port (u.net.ptp.seq % 65536) (b.ann.flags % 64) 5 0 0 (annBody b.ann (u.stampOut port)))⟩])
      ∧ (port < 4 → u.domIdx dom = some i → 2 ≤ what → x.paths.length = 4 →
          (u.fbit TIM_PTP_CFG.DELAY = true ∧ u.ptpOn port = true) ∨ (u.fbit TIM_PTP_CFG.DELAY = false ∧ u.slaveOn i port = true) →
          t.out.length = u.out.length + 1 ∧ (t.pathOf (t.dom i) port).req = some (u.net.ptp.seq % 65536, u.stampOut port)))

/-- UART traffic: a character of a sentence input is framed with the instant of its start bit, errors and overruns are counted, a
break shows, and what was queued is sent in order (R316 to R321). Log entries 114, 130. -/
def Obligations.SerialLines : Prop :=
  ∀ (s : State) (dt n c err : Nat), s.hostOn = true → s.storesWf = true → n < 16 →
    let u := s.advance dt
    let x := u.uart n
    let at_ := u.now - u.charNs n
    let runs := u.fget (fldAt CAN_UCFG.USE n) ≠ 0 ∧ bit u.sys.domOn 9 = true
    (u.can.uart.length = 16 → ∃ t, exec (.uartCharacterRx dt n c err) s = .next t
      ∧ (¬ runs → t = u)
      ∧ (runs → err = 1 → t.uart n = { x with line := none, last := some at_ }
          ∧ t.fget (fldAt CAN_UCNT.FRAMING n) = incSat CAN_UCNT.FRAMING.w (u.fget (fldAt CAN_UCNT.FRAMING n)))
      ∧ (runs → err = 2 → t.uart n = { x with last := some at_ }
          ∧ t.fget (fldAt CAN_UCNT.OVERRUN n) = incSat CAN_UCNT.OVERRUN.w (u.fget (fldAt CAN_UCNT.OVERRUN n)))
      ∧ (runs → err = 0 → u.fget (fldAt CAN_UCFG.USE n) = 1 → x.line = none → x.tag = false → c = 36 ∨ c = 33 →
          t.uart n = { x with line := some [BitVec.ofNat 8 c], t0 := at_, last := some at_ } ∧ t.regs = u.regs)
      ∧ (∀ l, x.line = some l → runs → err = 0 → u.fget (fldAt CAN_UCFG.USE n) = 1 → c ≠ 36 → c ≠ 33 → c ≠ 10 → l.length < 82 →
          t.uart n = { x with line := some (l ++ [BitVec.ofNat 8 c]), last := some at_ } ∧ t.regs = u.regs)
      ∧ (∀ m, m ≠ n → t.uart m = u.uart m))
    ∧ (∃ t, exec (.uartBreak dt n) s = .next t ∧ onlyRegs [aCAN_USTAT + 16 * n] u t
      ∧ t.fbit (fldAt CAN_USTAT.BREAK n) = (u.fbit (fldAt CAN_USTAT.BREAK n) || u.fget (fldAt CAN_UCFG.USE n) != 0))
    ∧ (∃ t, exec (.uartTxDone dt n) s = .next t
      ∧ (x.tx = [] → t = u)
      ∧ (∀ b, x.tx.head? = some b → u.can.uart.length = 16 → t.out = u.out ++ [⟨u.now, .uart n, b⟩] ∧ t.uart n = { x with tx := x.tx.tail }
          ∧ t.regs = u.regs))

/-- A CAN controller receives and recovers: a frame goes to the receive queue its filter names, or is counted when that is full;
errors change LEC and REC; INIT takes effect; eleven recessive bits bring it into traffic; bus-off takes it out and returns
its buffers, recovery clears its counters; INIT written, filter elements written and read, and receive entries returned by the host
(R299, R302, R303, R305 to R310). Log entries 124, 125, 128. -/
def Obligations.CanReceive : Prop :=
  ∀ (s : State) (dt n ident dlc kind stamp : Nat) (ide fdf brs esi rtr eight : Bool) (data : List Byte), s.hostOn = true → s.storesWf = true →
    n < 8 → s.can.ctl.length = 8 →
    let u := s.advance dt
    let m : CanMsg := ⟨ident, ide, fdf, brs, dlc, data⟩
    let st (f : Fld) := u.fget (fldAt f n)
    let takes := u.canOn n = true ∧ (fdf = false ∨ u.cctrl CAN_CTRL.FD_EN n = true) ∧ (rtr = false ∨ u.cctrl CAN_CTRL.RMT n = true)
    let dest : Option Nat := match fltFind (u.ctl n).flt m with
      | none => if st CAN_CTRL.NOMATCH = 1 then some 0 else if st CAN_CTRL.NOMATCH = 2 then some 1 else none
      | some x => if bits x.2 27 3 = 1 then some 0 else if bits x.2 27 3 = 2 then some 1 else none
    (∃ t, exec (.canFrameRx dt n ident ide fdf brs dlc data esi rtr stamp) s = .next t
      ∧ (u.canOn n = false → t = u)
      ∧ (∀ q, dest = some q → takes → u.fget (fldAt (rxqSw q) n) < 64 →
          t.fget (fldAt (rxqSw q) n) = u.fget (fldAt (rxqSw q) n) + 1
          ∧ t.fget (fldAt (rxqPut q) n) = (u.fget (fldAt (rxqPut q) n) + 1) % 2 ^ (rxqPut q).w
          ∧ t.rdB rgnRxq (n * 12288 + q * 6144 + u.fget (fldAt (rxqPut q) n) * 96) 4 = leBytes 4 (ident % 2 ^ 29 + 2 ^ 29 * b2n ide)
          ∧ t.rdB rgnRxq (n * 12288 + q * 6144 + u.fget (fldAt (rxqPut q) n) * 96 + 32) 64 = fitBytes 64 data)
      ∧ (∀ q, dest = some q → takes → 64 ≤ u.fget (fldAt (rxqSw q) n) → t.fget (fldAt (rxqSw q) n) = u.fget (fldAt (rxqSw q) n)
          ∧ t.fget (fldAt (rxqOvf q) n) = incSat (rxqOvf q).w (u.fget (fldAt (rxqOvf q) n)))
      ∧ (takes → u.cctrl CAN_CTRL.LOM n = false → st CAN_STAT.REC ≤ 127 → t.fget (fldAt CAN_STAT.REC n) = st CAN_STAT.REC - 1))
    ∧ (∃ t, exec (.canBusError dt n kind eight) s = .next t
      ∧ (u.canOn n = false → t = u)
      ∧ (u.canOn n = true → kind < 7 → t.fget (fldAt CAN_STAT.LEC n) = kind
          ∧ t.fget (fldAt CAN_STAT.REC n) = (if u.cctrl CAN_CTRL.LOM n then st CAN_STAT.REC else satU CAN_STAT.REC.w (st CAN_STAT.REC + if eight then 8 else 1))))
    ∧ (∃ t, exec (.canInitAck dt n) s = .next t
      ∧ ((u.ctl n).initReq = false → t = u)
      ∧ ((u.ctl n).initReq = true → t.canInit n = true ∧ t.fbit (fldAt CAN_STAT.SYNC n) = false ∧ t.ctl n = { u.ctl n with
          queue := (u.ctl n).bufs.filterMap id ++ (u.ctl n).queue, bufs := [none, none, none], loaded := [], onBus := none, initReq := false, boWait := false }))
    ∧ (∃ t, exec (.canIntegration dt n) s = .next t ∧ onlyRegs [aCAN_STAT + 256 * n] u t
      ∧ t.fbit (fldAt CAN_STAT.SYNC n) = (u.fbit (fldAt CAN_STAT.SYNC n) || (!u.canInit n && !u.canDead n && st CAN_STAT.STATE != 2)))
    ∧ (∃ t, exec (.busOff dt n) s = .next t
      ∧ (u.canOn n = false → t = u)
      ∧ (u.canOn n = true → t.fget (fldAt CAN_STAT.STATE n) = 2 ∧ t.fbit (fldAt CAN_STAT.BO n) = true ∧ t.fbit (fldAt CAN_STAT.SYNC n) = false
          ∧ t.fget (fldAt CAN_CNT.BUSOFF n) = incSat CAN_CNT.BUSOFF.w (u.fget (fldAt CAN_CNT.BUSOFF n)) ∧ (t.ctl n).bufs = [none, none, none]
          ∧ (t.ctl n).queue = (if u.cctrl CAN_CTRL.FLUSH_BO n then [] else (u.ctl n).bufs.filterMap id ++ (u.ctl n).queue)))
    ∧ (∃ t, exec (.busOffRecovery dt n) s = .next t
      ∧ (st CAN_STAT.STATE ≠ 2 ∨ (u.ctl n).boWait = false ∨ u.canDead n = true → t = u)
      ∧ (st CAN_STAT.STATE = 2 → (u.ctl n).boWait = true → u.canDead n = false → t.fget (fldAt CAN_STAT.STATE n) = 0 ∧ t.fget (fldAt CAN_STAT.TEC n) = 0
          ∧ t.fget (fldAt CAN_STAT.REC n) = 0 ∧ t.fbit (fldAt CAN_STAT.SYNC n) = true ∧ t.ctl n = { u.ctl n with boWait := false }))
    ∧ (s.fget (fldAt CAN_CTRL.NOMATCH n) ≤ 2 → s.fbit (fldAt CAN_CTRL.INIT n) = false →
      ∃ t, exec (.canInitEnter n) s = .next t ∧ t.fbit (fldAt CAN_CTRL.INIT n) = true ∧ (s.canInit n = false → (t.ctl n).initReq = true))
    ∧ (s.fget (fldAt CAN_CTRL.NOMATCH n) ≤ 2 → s.fbit (fldAt CAN_CTRL.INIT n) = true → s.retired 3 n = false →
      ∃ t, exec (.canInitLeave n) s = .next t ∧ t.fbit (fldAt CAN_CTRL.INIT n) = false ∧ t.canInit n = false)
    ∧ (let w (k : Nat) : Nat := (s.reg (aCAN_FLT_DATA0 + 4 * k + 256 * n)).toNat
      s.op = .boot ∨ s.op = .config ∨ s.canInit n = true → fltOkElem (w 0) (w 1) (w 2) = true → ∀ idx, idx < 1024 →
        ∃ t, exec (.filterWrite n idx) s = .next t ∧ tabGet fltDflt (t.ctl n).flt idx = (w 0, w 1, w 2))
    ∧ (∀ idx, idx < 1024 → ∃ t, exec (.filterRead n idx) s = .next t
      ∧ t.fget (fldAt CAN_FLT_DATA0.DATA n) = (tabGet fltDflt (s.ctl n).flt idx).1 % 2 ^ 32)
    ∧ (∀ q k, q < 2 → k ≤ s.fget (fldAt (rxqSw q) n) → k < 128 →
      ∃ t, exec (.rxqAck n q k) s = .next t ∧ t.fget (fldAt (rxqSw q) n) = s.fget (fldAt (rxqSw q) n) - k)

/-- A CAN controller transmits: a free buffer takes the eligible entry that goes first, in the order of submission or of bus
priority; the buffer offered leaves when it is sent, is dropped without retransmission after a loss or an error, and an error
adds eight to TEC, beyond 255 bus-off; an abort drops a buffer whose frame is not on the bus (R303, R304, R313 to R315). Log entries 124, 126, 127. -/
def Obligations.CanTransmit : Prop :=
  ∀ (s : State) (dt n kind sof : Nat), s.hostOn = true → s.storesWf = true → n < 8 → s.can.ctl.length = 8 →
    let u := s.advance dt
    let c := u.ctl n
    let before (x e : CanEnt) : Prop := if u.cctrl CAN_CTRL.TXPRI n then x.ord ≤ e.ord
      else busPrio x.msg < busPrio e.msg ∨ (busPrio x.msg = busPrio e.msg ∧ x.ord ≤ e.ord)
    let held := u.canInit n || u.canDead n || u.cctrl CAN_CTRL.LOM n || u.fget (fldAt CAN_STAT.STATE n) == 2 || c.initReq
    let off := u.canOn n = false ∨ u.cctrl CAN_CTRL.LOM n = true ∨ u.canOffer n (u.time.ticks - sof) = none
    let tec := u.fget (fldAt CAN_STAT.TEC n)
    let dropped := u.cctrl CAN_CTRL.DAR n = true
    (∃ t, exec (.canTxLoad dt n) s = .next t
      ∧ (held = true → t = u)
      ∧ (∀ e ∈ c.queue, e.at_ ≤ u.now → held = false → c.bufs.length = 3 → c.bufs.contains none = true →
          (∀ x ∈ c.queue, ∀ y ∈ c.queue, x.ord = y.ord → x = y) →
          ∃ x ∈ c.queue, x.at_ ≤ u.now ∧ before x e ∧ (t.ctl n).bufs.contains (some x) = true
            ∧ (t.ctl n).queue = c.queue.filter (fun y => y != x)))
    ∧ (∃ t, exec (.canTxDone dt n 0 kind sof) s = .next t
      ∧ (off → t = u)
      ∧ (∀ b e, u.canOffer n (u.time.ticks - sof) = some b → c.bufs.getD b none = some e → u.canOn n = true → u.cctrl CAN_CTRL.LOM n = false →
          (t.ctl n).bufs = setAt c.bufs b none ∧ t.fget (fldAt CAN_LAST_TX.STAMP n) = u.canTscAt sof ∧ t.fget (fldAt CAN_STAT.TEC n) = tec - 1
          ∧ t.out = u.out ++ [⟨u.now, .can n, leBytes 4 (e.msg.id % 2 ^ 29 + 2 ^ 29 * b2n e.msg.ide) ++ leBytes 1 e.msg.dlc
              ++ leBytes 1 (b2n e.msg.fdf + 2 * b2n e.msg.brs) ++ e.msg.data⟩]))
    ∧ (∃ t, exec (.canTxDone dt n 1 kind sof) s = .next t
      ∧ (off ∨ (¬ dropped ∧ c.onBus = none) → t = u)
      ∧ (∀ b e, u.canOffer n (u.time.ticks - sof) = some b → c.bufs.getD b none = some e → u.canOn n = true → u.cctrl CAN_CTRL.LOM n = false → dropped →
          (t.ctl n).bufs = setAt c.bufs b none ∧ t.fget (fldAt CAN_CNT.TX_DROP n) = incSat CAN_CNT.TX_DROP.w (u.fget (fldAt CAN_CNT.TX_DROP n))
            ∧ t.out = u.out))
    ∧ (∃ t, exec (.canTxDone dt n 2 kind sof) s = .next t
      ∧ (off → t = u)
      ∧ (∀ b e, u.canOffer n (u.time.ticks - sof) = some b → c.bufs.getD b none = some e → u.canOn n = true → u.cctrl CAN_CTRL.LOM n = false → kind < 7 →
          kind ≠ 3 ∨ u.fget (fldAt CAN_STAT.STATE n) ≠ 1 → t.fget (fldAt CAN_STAT.LEC n) = kind
          ∧ (tec + 8 ≤ 255 → t.fget (fldAt CAN_STAT.TEC n) = tec + 8)
          ∧ (255 < tec + 8 → t.fget (fldAt CAN_STAT.TEC n) = 255 ∧ t.fget (fldAt CAN_STAT.STATE n) = 2)))
    ∧ (∀ b e, b < 3 → (s.ctl n).bufs.getD b none = some e → (s.ctl n).onBus = none → s.canOn n = false ∨ s.canOffer n s.time.ticks ≠ some b →
      ∃ t, exec (.txAbort n (2 ^ b)) s = .next t ∧ (t.ctl n).bufs = setAt (s.ctl n).bufs b none
        ∧ t.fget (fldAt CAN_CNT.TX_DROP n) = incSat CAN_CNT.TX_DROP.w (s.fget (fldAt CAN_CNT.TX_DROP n)))

/-- The filter chain: of each modulator period a channel takes the bit of its own ball or of the other ball of its pair, and no other channel
than the pair's takes any; a comparison that persists sets its event; 128 equal bits set MOD_FAULT, which clears after 1,024 bits without
such a run; an output the chain has reached is delivered unless it is suppressed (R326 to R328, R333 to R343). Log entries 129, 131. -/
def Obligations.FilterChain : Prop :=
  ∀ (s : State) (dt n : Nat) (q : Bool × Bool) (bs : List (Bool × Bool)), s.hostOn = true → s.storesWf = true → n < 32 → s.sdf.ch.length = 32 →
    let u := s.advance dt
    let runs := bit u.sys.domOn 7 && !u.engDead 13
    let own := if n % 2 = 0 then q.1 else q.2
    let other := if n % 2 = 0 then q.2 else q.1
    let b := if u.sch SDF_CH_CFG.SRC n = 1 then other else own
    (∃ t, exec (.sdfThreshold dt n bs) s = .next t ∧ (runs = false ∨ (∀ m, m / 2 = n / 2 → u.sdfCh m = none) → t = u)
      ∧ (∀ m, m / 2 ≠ n / 2 → t.sdfCh m = u.sdfCh m)
      ∧ (∀ m c, m / 2 = n / 2 → u.sdfCh m = some c → runs = true → (t.sdfCh m).map (·.n) = some (c.n + bs.length) ∧ (t.sdfCh m).map (·.first) = some c.first))
    ∧ (∀ c, u.sdfCh n = some c → runs = true → let r := chainBit (u.sch SDF_CH_CFG.ORDER n) (u.sch SDF_CH_CFG.R n) (u.gdf n) (u.firOf n) c (if b then 1 else -1)
      ∀ y, r.2.1 = some y → u.sch SDF_CH_CFG.SRC n ≠ 2 → c.lastBit ≠ some b → u.schb SDF_CH_STAT.MOD_FAULT n = false → u.schb SDF_CH_THR_CFG.THR_SRC n = false →
      u.inWindow n c (u.bitTime (n / 8) (c.first + c.n + 1)) = false → u.schb SDF_CH_THR_CFG.HI_EN n = true → u.schb SDF_CH_STAT.HI n = false →
      sx 16 (u.sch SDF_CH_THR_HI.SET n) ≤ asr y 16 → u.sch SDF_CH_THR_CFG.PERS_HI n ≤ c.hiSet + 1 →
      ∃ t, exec (.sdfThreshold dt n [q]) s = .next t ∧ t.fbit (fldAt SDF_CH_STAT.HI n) = true ∧ t.fbit (fldAt SDF_CH_STAT.HI_SEEN n) = true)
    ∧ (∀ c, u.sdfCh n = some c → runs = true → u.sch SDF_CH_CFG.SRC n ≠ 2 → c.lastBit = some b → 127 ≤ c.run → u.schb SDF_CH_STAT.MOD_FAULT n = false →
      ∃ t, exec (.modFault dt n [q]) s = .next t ∧ t.fbit (fldAt SDF_CH_STAT.MOD_FAULT n) = true ∧ t.fbit (fldAt SDF_CH_STAT.SUPPR n) = true
        ∧ t.hasAlarm 0x0C 0x01 n = true)
    ∧ (∀ c, u.sdfCh n = some c → runs = true → u.sch SDF_CH_CFG.SRC n ≠ 2 → c.lastBit ≠ some b → 1023 ≤ c.quiet → u.schb SDF_CH_STAT.MOD_FAULT n = true →
      ∃ t, exec (.modFaultClear dt n [q]) s = .next t ∧ t.fbit (fldAt SDF_CH_STAT.MOD_FAULT n) = false ∧ t.hasAlarm 0x0C 0x01 n = false
        ∧ t.fbit (fldAt SDF_CH_STAT.SUPPR n) = true)
    ∧ (∀ c p, u.sdfCh n = some c → u.bitPos (n / 8) c.k (u.sdfInst n c.k c.j) = some p →
      let h (i : Nat) : List Int := (upTo 16).map (fun j => sx 32 (u.bankW (u.sch SDF_CH_CFG.RBANK n) (65 + 16 * i + j)))
      ∃ t, exec (.sdfOutput dt n []) s = .next t
      ∧ (resample h c.fs p = .wait → t = u)
      ∧ (resample h c.fs p ≠ .wait → (t.sdfCh n).map (fun x => (x.k, x.j)) =
          some (if c.j + 1 < u.sch SDF_CH_OUT.L n then (c.k, c.j + 1) else (c.k + 1, 0)))
      ∧ (∀ y ∈ (match resample h c.fs p with | .y v => [v] | _ => []), u.schb SDF_CH_STAT.MOD_FAULT n = false →
          u.inWindow n c (u.sdfInst n c.k c.j) = false → t.fget (fldAt SDF_VAL.VALUE n) = tc 32 y ∧ t.fbit (fldAt SDF_CH_STAT.SUPPR n) = false))

/-- The cyclic logic: a task at its boundary publishes a cycle that has ended, counts one that has not as an overrun, and starts
the next; the task of a retired engine moves to the other; a cycle that has run eight times its length stops the program with a fault; the exchange that waits completes at a
boundary without a running cycle (R347, R352, R353, R359, R360, R368, R370). Log entries 135, 136. -/
def Obligations.LogicCycles : Prop :=
  ∀ (s : State) (dt n us : Nat), s.hostOn = true → s.storesWf = true → s.lgc.tasks.length = 2 →
    let u := s.advance dt
    (∃ t, exec (.logicCycleStart dt) s = .next t
      ∧ (u.lgcOn = false ∨ u.cycDue = [] → t = u)
      ∧ (∀ b, u.cycDue = [b] → u.lgcOn = true → let x := u.ltask b.1
          (t.ltask b.1).lastB = b.2
          ∧ (x.stopAt = none → x.run.all (·.done) = true → (t.ltask b.1).run.map (fun r => (r.start, r.done)) = some (b.2, false))
          ∧ (x.run.any (·.done) = true → t.fget (fldAt LOG_TASK_CYC.COUNT b.1) = (u.fget (fldAt LOG_TASK_CYC.COUNT b.1) + 1) % 2 ^ LOG_TASK_CYC.COUNT.w)
          ∧ (x.run.any (fun r => !r.done) = true → (t.ltask b.1).run = x.run ∧ t.fbit LOG_STATUS.OVERRUN = true)
          ∧ (let e := u.fget (fldAt LOG_TASK_CFG.ENGINE b.1)
            t.fget (fldAt LOG_TASK_CFG.ENGINE b.1) = if bit (u.fget LOG_STATUS.LE_RETIRED) e && !bit (u.fget LOG_STATUS.LE_RETIRED) (1 - e) then 1 - e else e)))
    ∧ (n < 2 → ∃ t, exec (.logicCycleDone dt n us) s = .next t
      ∧ ((u.ltask n).run = none → t = u)
      ∧ (∀ r, (u.ltask n).run = some r → t.ltask n = { u.ltask n with run := some { r with done := true } }
          ∧ t.fget (fldAt LOG_TASK_TIME.LAST n) = satU 16 us
          ∧ t.fget (fldAt LOG_TASK_TIME.MAX n) = max (u.fget (fldAt LOG_TASK_TIME.MAX n)) (satU 16 us)))
    ∧ (let stuck := (upTo 2).any (fun i => (u.ltask i).run.any (fun r => !r.done && decide (r.start + 8 * u.cycNs i ≤ u.now)));
      ∃ t, exec (.logicWatchdog dt) s = .next t
      ∧ (stuck = false ∨ u.lgState ≠ lgRunning → t = u)
      ∧ (stuck = true → u.lgState = lgRunning → t.lgState = lgFault ∧ t.fget LOG_STATUS.ERR = 6 ∧ t.hasAlarm 0x0D 0x02 0 = true
          ∧ ∀ i, i < 2 → (t.ltask i).run = none))
    ∧ (∀ x, u.hif.taken = [x] → x.op = 0x0603 → x.begun = true → ∃ t, exec (.programExchange dt) s = .next t
      ∧ (u.atBound = false ∨ u.lgcBusy = true ∨ u.lgcOn = false → t = u)
      ∧ (u.atBound = true → u.lgcBusy = false → u.lgcOn = true → t.hif.taken = [] ∧ t.lgc.pend = none
          ∧ t.fget HIF_RSP_PI.IDX = (u.fget HIF_RSP_PI.IDX + 1) % 2 ^ 16
          ∧ t.rdB rgnRsp (u.fget HIF_RSP_PI.IDX % 64 * 256) 256 = rspBytes 0x0603 x.cmd.tag.toNat x.seq (if t.fget LOG_STATUS.ERR ≠ 0 then resSt 0x3105 else resOk)))

/-- The panel at each multiple of 20 ms: the band follows the temperature or the default, the chain is powered before it is driven
and shows a pod's run frame by frame; the crack loop keeps its reference, and two measurements away from it, or an open loop,
hold the panel (R492 to R498, R500, R502). Log entries 148, 149. -/
def Obligations.PanelDriver : Prop :=
  ∀ (s : State) (dt p : Nat) (r : Option Nat), s.hostOn = true → s.storesWf = true →
    let u := s.advance dt
    let f := u.now / 20000000
    let x := u.pod p
    let due := u.pnlOn && decide (u.pnl.lastF < f)
    let watch := u.pnlOn && u.fbit PNL_CRK_CFG.CRK_EN
    let v := r.filter (fun y => decide (y ≤ 30000))
    (∃ t, exec (.panelFrame dt) s = .next t
      ∧ (due = false → t = u)
      ∧ (due = true → t.pnl.lastF = f
          ∧ (u.fbit PNL_TEMP_CFG.TEMP_EN = false → t.pnl.band = u.fget PNL_CFG.BAND_DEFAULT ∧ t.fbit PNL_STATUS.TEMP_INVALID = true)
          ∧ (u.pnl.pods = [] → t.out = u.out ++ (if u.pnl.hven then [⟨u.now, .panel, List.replicate u.segN 0⟩] else []) ∧ t.pnl.hven = false))
      ∧ (due = true → u.pnl.pods = [(p, x)] → x.run = none → x.pend = none → x.from_ ≤ f * 20000000 → ∀ q, x.queue = some q → u.pnlFree = true →
          t.out.length = u.out.length + 1 ∧ t.pnl.hven = true
          ∧ (u.pnl.hven = false → (t.pod p).queue = some q ∧ (t.pod p).run = none)
          ∧ (u.pnl.hven = true → (t.pod p).queue = none ∧ (t.pod p).run.map (fun y => (y.levels, y.n, y.balance)) = some (q, 1, false))))
    ∧ (∃ t, exec (.crackMeasure dt r) s = .next t
      ∧ (watch = false → t = u)
      ∧ (watch = true → t.fget PNL_CRK.R_LOOP = v.getD 0xFFFF)
      ∧ (watch = true → v = none → t.pnl.crack = true ∧ t.fbit PNL_STATUS.CRACK = true ∧ (u.pnl.crack = false → t.hasAlarm 0x10 0x01 0 = true))
      ∧ (∀ y, v = some y → watch = true → u.pnl.ref = none → t.pnl.ref = some y ∧ t.pnl.beyond = 0 ∧ t.pnl.crack = u.pnl.crack ∧ t.fget PNL_CRK.R_REF = y)
      ∧ (∀ y, v = some y → watch = true → ∀ z, u.pnl.ref = some z → t.pnl.ref = some z
          ∧ t.pnl.beyond = (if (Int.ofNat y - Int.ofNat z).natAbs > u.fget PNL_CRK_CFG.STEP then u.pnl.beyond + 1 else 0)
          ∧ t.pnl.crack = (u.pnl.crack || decide (2 ≤ t.pnl.beyond))))

/-- The tracking channels: an allocation keeps the channels it must, searches only usable satellites, of those with an almanac only the ones
above the mask, and leaves no channel idle while one of those has none; it is made once a second; a channel is acquired, locks, loses lock and after 1 s
searches again; a stream that is lost drops its channels; a navigation message updates almanac, ephemerides, health and leap
second (R244 to R248, R263). Log entries 102, 103. -/
def Obligations.SatelliteChannels : Prop :=
  ∀ (s : State) (dt n i : Nat) (duty : List Nat) (sky : List Sky) (m : NavMsg), s.hostOn = true → s.storesWf = true → n < 128 → i < 4 →
    let u := s.advance dt
    let c := u.chan n
    let on := u.gnssOn = true
    let others (t : State) : Prop := ∀ k, k ≠ n → t.chan k = u.chan k
    let lost := c.st = chLost ∧ c.lostAt + 1000000000 < u.now
    let sec := u.now / 1000000000
    (u.gnssOn = false → ∀ x ∈ ([.channelAllocation dt duty sky, .signalAcquired dt n, .trackLock dt n, .lockLost dt n, .navigationData dt m] : List Instr),
      exec x s = .next u)
    ∧ (u.gns.allocSec = some sec → exec (.channelAllocation dt duty sky) s = .next u)
    ∧ (on → u.gns.allocSec ≠ some sec → ∃ t, exec (.channelAllocation dt duty sky) s = .next t ∧ t.gns.allocSec = some sec
      ∧ (∀ k, k < 4 → t.fget (fldAt GNS_IF_STAT.MAG_DUTY k) = duty.getD k 0 % 2 ^ GNS_IF_STAT.MAG_DUTY.w)
      ∧ (u.chanKeep sky n c = true → t.chan n = c)
      ∧ ((u.chanKeep sky n c = false → t.chan n = chanIdle ∨ ((t.chan n).st = chSearch ∧ u.satOk (t.chan n).sys (t.chan n).prn = true
            ∧ u.strmOn (2 * (n / 64) + sigBand (t.chan n).sig) = true ∧ (t.chan n).win = some (u.window (t.chan n).sys (t.chan n).prn (t.chan n).sig)
            ∧ (u.gns.alm.contains ((t.chan n).sys, (t.chan n).prn) = true →
                sky.any (fun x => x.sys == (t.chan n).sys && x.prn == (t.chan n).prn && decide (100 * Int.ofNat (u.fget GNS_CFG.ELEV_MASK) ≤ x.elev)) = true)))
          ∧ (t.chan n = chanIdle → ∀ x ∈ sky, ∀ g ∈ sigsOf x.sys, u.gns.alm.contains (x.sys, x.prn) = true → u.satOk x.sys x.prn = true →
              100 * Int.ofNat (u.fget GNS_CFG.ELEV_MASK) ≤ x.elev → u.strmOn (2 * (n / 64) + g.2) = true →
              ∃ k, k / 64 = n / 64 ∧ (t.chan k).st ≠ 0 ∧ (t.chan k).sys = x.sys ∧ (t.chan k).prn = x.prn ∧ (t.chan k).sig = g.1)))
    ∧ (lost → ∃ t, exec (.channelLostTimeout dt) s = .next t ∧ t.chan n = { c with st := chSearch, win := some (u.window c.sys c.prn c.sig) })
    ∧ (¬lost → ∃ t, exec (.channelLostTimeout dt) s = .next t ∧ t.chan n = c)
    ∧ (on → c.st = chSearch → ∃ t, exec (.signalAcquired dt n) s = .next t ∧ t.chan n = { c with st := chPullIn, win := none } ∧ others t)
    ∧ (c.st ≠ chSearch → exec (.signalAcquired dt n) s = .next u)
    ∧ (on → c.st = chPullIn ∨ c.st = chLost → ∃ t, exec (.trackLock dt n) s = .next t ∧ t.chan n = { c with st := chTrack, lockAt := u.now } ∧ others t)
    ∧ (c.st ≠ chPullIn → c.st ≠ chLost → exec (.trackLock dt n) s = .next u)
    ∧ (on → c.st = chTrack → ∃ t, exec (.lockLost dt n) s = .next t ∧ t.chan n = { c with st := chLost, lostAt := u.now } ∧ others t)
    ∧ (c.st ≠ chTrack → exec (.lockLost dt n) s = .next u)
    ∧ (u.fbit (fldAt GNS_IF_STAT.ACTIVE i) = false → exec (.gnssIfLost dt i) s = .next u)
    ∧ (u.fbit (fldAt GNS_IF_STAT.ACTIVE i) = true → ∃ t, exec (.gnssIfLost dt i) s = .next t
      ∧ t.fbit (fldAt GNS_IF_STAT.ACTIVE i) = false ∧ t.hasAlarm 0x09 0x01 i = true
      ∧ t.chan n = if n / 64 = i / 2 ∧ c.st ≠ 0 ∧ sigBand c.sig = i % 2 then chanIdle else c)
    ∧ (u.fbit GNS_CFG.EN = false → exec (.gnssIfActive dt i) s = .next u)
    ∧ (u.fbit GNS_CFG.EN = true → ∃ t, exec (.gnssIfActive dt i) s = .next t
      ∧ t.fbit (fldAt GNS_IF_STAT.ACTIVE i) = true ∧ t.hasAlarm 0x09 0x01 i = false ∧ t.gns = u.gns)
    ∧ (on → ∃ t, exec (.navigationData dt m) s = .next t
      ∧ (m.alm = true → t.gns.alm.contains (m.sys, m.prn) = true) ∧ (m.eph = true → t.gns.eph.getLast? = some (m.sys, m.prn, u.now))
      ∧ t.gns.sick.contains (m.sys, m.prn) = !m.healthy
      ∧ (m.healthy = false → c.st ≠ 0 → c.sys = m.sys → c.prn = m.prn → t.chan n = chanIdle)
      ∧ (∀ l, m.leap = some l → t.gns.leap = l.1 ∧ t.gns.leapNext = l.2 ∧ t.fget GNS_TP_STAT.LEAP = l.1 % 2 ^ GNS_TP_STAT.LEAP.w))

/-- Solutions and the time pulse: a valid solution sets fix, position and clock bias and locks the generator the first time; RTCM
frames are checked and counted; without a solution for more than a second the generator holds over, whose uncertainty grows
each second; once a second b_pps follows, slews or steps towards b; each output has its record, in every state but OFF, and its pulse
once (R254 to R264, R251). Log entries 100, 101, 104, 105, 106, 107. -/
def Obligations.SolutionsAndPulse : Prop :=
  ∀ (s : State) (dt num i ratio : Nat) (src : RtcmVia) (bs : List Byte) (a b : Option GnssPos) (h : Option GnssHdg), s.hostOn = true → s.storesWf = true →
    let u := s.advance dt
    let f := u.ppsFold
    let sec := u.now / 1000000000
    let old := u.gns.lastValid.all (fun t => decide (t + 1000000000 < sec * 1000000000))
    let runs := u.tp = tpLocked ∨ u.tp = tpSlewing
    let tau := if u.fget GNS_TP_CFG.TAU = 0 then 1 else u.fget GNS_TP_CFG.TAU
    (∃ t, exec (.gnssSolution dt a b h) s = .next t
      ∧ (u.gns.latch = none ∨ u.gnssOn = false → t = u)
      ∧ (u.gns.latch.isSome = true → u.gnssOn = true → t.gns.latch = none ∧ (a = none → t.fget GNS_STATUS.FIX_A = 0)
          ∧ (h = none → t.fbit GNS_STATUS.HDG_VALID = false) ∧ (a = none → b = none → t.gns.bValid = false ∧ t.gns.run = 0))
      ∧ (∀ p l, a = some p → u.gns.latch = some l → u.gnssOn = true → posValid p = true → 1 ≤ t.fget GNS_STATUS.FIX_A ∧ t.gns.b = p.b ∧ t.gns.bRate = p.bRate
          ∧ t.gns.bAt = l.2 ∧ t.gns.bValid = true ∧ t.gns.lastValid = some u.now ∧ t.gns.run = u.gns.run + 1
          ∧ (u.tp = tpNone → t.tp = tpLocked ∧ (u.time.moved = u.gns.latMoved → t.bPps = p.b) ∧ t.fget GNS_TP_UNC.UNC = satU 32 p.bSig)))
    ∧ (let named := (src = .uart ∧ u.fget GNS_RTCM_CFG.SRC = 1 ∧ u.fget GNS_RTCM_CFG.UART = num ∧ u.fget (fldAt CAN_UCFG.USE num) = 2)
        ∨ ∃ i : Tagged, src = .udp i ∧ u.fget GNS_RTCM_CFG.SRC = 2 ∧ u.fget GNS_RTCM_CFG.UDP_PORT = num ∧ u.ethOn i.port = true ∧ u.vidOk i.port i.vid = true
      let ok := byteAt bs 0 = 0xD3 ∧ bs.length = beAt 2 bs 1 % 1024 + 6 ∧ crc24q (bs.take (bs.length - 3)) = beAt 3 bs (bs.length - 3)
      let stn := beAt 2 bs 4 % 4096
      let wanted := rtcmKnown (beAt 2 bs 3 / 16) = true ∧ (u.fbit GNS_RTCM_BASE.ANY = true ∨ stn = u.fget GNS_RTCM_BASE.STATION_ID)
      let one (t : State) (g : Fld) : Prop := onlyRegs [aGNS_RTCM_CNT] { u with gns := t.gns } t ∧ t.fget g = incSat g.w (u.fget g)
      ∃ t, exec (.rtcmFrameRx dt src num bs) s = .next t
      ∧ (u.gnssOn = false ∨ ¬ named → t = u)
      ∧ (u.gnssOn = true → named → ¬ ok → one t GNS_RTCM_CNT.CRC_ERR ∧ t.gns = u.gns)
      ∧ (u.gnssOn = true → named → ok → ¬ wanted → one t GNS_RTCM_CNT.IGNORED ∧ t.gns = u.gns)
      ∧ (u.gnssOn = true → named → ok → wanted → one t GNS_RTCM_CNT.OK
          ∧ t.gns = (if beAt 2 bs 3 / 16 ≤ 1006 then { u.gns with base := some stn } else { u.gns with obs := some (stn, u.now) })))
    ∧ (∃ t, exec (.ambiguityFixed dt i ratio) s = .next t
      ∧ t = (if i < 3 ∧ u.gnssOn = true then { u with gns := { u.gns with amb := setAt u.gns.amb i (some ratio) } } else u))
    ∧ (∃ t, exec (.gnssHoldover dt) s = .next t
      ∧ (¬ runs ∨ old = false → t = u)
      ∧ (runs → old = true → t.tp = tpHoldover ∧ t.fget GNS_TP_UNC.UNC = satU 32 u.gns.bSig ∧ t.hasAlarm 0x09 0x02 0 = true
          ∧ t.fget GNS_CNT.HOLDOVERS = incSat GNS_CNT.HOLDOVERS.w (u.fget GNS_CNT.HOLDOVERS) ∧ t.bPps = f.bPps))
    ∧ (∃ t, exec (.tpSecond dt) s = .next t
      ∧ (u.gns.tpAt = some sec → t = u)
      ∧ (u.gns.tpAt ≠ some sec → t.gns.tau = u.fget GNS_TP_CFG.TAU ∧ t.gns.tpAt = some sec)
      ∧ (u.gns.tpAt ≠ some sec → u.gns.stepSec.all (fun x => decide (sec < x)) = true →
          (u.tp = tpLocked → old = false → t.tp = tpLocked ∧ t.bPps = f.bPps + rndAway (u.bCur - f.bPps) tau)
          ∧ (u.tp = tpSlewing → old = false → (t.bPps - f.bPps).natAbs ≤ 20000 ∧ (t.tp = tpSlewing ∨ t.bPps = u.bCur))
          ∧ (u.tp = tpHoldover → t.tp = tpHoldover ∧ t.bPps = u.bPps
              ∧ t.fget GNS_TP_UNC.UNC = (if u.gns.holdSec = some sec then u.fget GNS_TP_UNC.UNC
                else satU 32 (u.fget GNS_TP_UNC.UNC + if u.ptpLocked then 1 else 500))))
      ∧ (u.gns.tpAt ≠ some sec → u.tp = tpHoldover → u.gns.stepSec.any (fun x => decide (x ≤ sec)) = true → t.tp = tpLocked ∧ t.bPps = u.bCur ∧ t.gns.stepSec = none
          ∧ t.fbit GNS_TP_STAT.STEP = true ∧ t.hasAlarm 0x09 0x02 0 = false ∧ t.fget GNS_CNT.TP_STEPS = incSat GNS_CNT.TP_STEPS.w (u.fget GNS_CNT.TP_STEPS)))
    ∧ (let new (o : Nat) : Bool := (u.gns.recd.getD o none).all (fun r => decide (Int.ofNat r < f.tpSec o 500000000000)) && decide (0 ≤ f.tpSec o 500000000000)
      ∃ t, exec (.tpRecordWrite dt) s = .next t
      ∧ (u.tp = tpOff → t = f)
      ∧ (u.tp ≠ tpOff → u.clocked = true → u.gns.recd.length = 2 → t.fget GNS_TREC.IDX = (u.fget GNS_TREC.IDX + b2n (new 0) + b2n (new 1)) % 64
          ∧ ∀ o, o < 2 → t.gns.recd.getD o none = (if new o then some (f.tpSec o 500000000000).toNat else u.gns.recd.getD o none)))
    ∧ (let new (o : Nat) : Bool := (u.gns.drv.getD o none).all (fun r => decide (Int.ofNat r < f.tpSec o 4000)) && decide (0 ≤ f.tpSec o 4000)
      let pulse (o : Nat) : List Out := if new o && bit (u.gns.pps.getD o 0) 31 && !u.gns.skip.contains (f.tpSec o 4000).toNat then
        [⟨u.now, .pps o, leBytes 8 (f.tpSec o 4000).toNat ++ leBytes 2 (bits (u.gns.pps.getD o 0) 16 10) ++ leBytes 1 (bits (u.gns.pps.getD o 0) 30 1)⟩] else []
      ∃ t, exec (.timePulse dt) s = .next t
      ∧ (u.tpDrives = false → t = f)
      ∧ (u.tpDrives = true → u.gns.skip = [] → t.out = u.out ++ pulse 0 ++ pulse 1 ∧ t.regs = u.regs))
    ∧ (let done := u.gns.snap.any (fun x => decide (x.t0 + maxN x.lens * 1000000 ≤ u.now)) && u.fbit GNS_SNAP_STAT.BUSY;
      ∃ t, exec (.snapDone dt bs) s = .next t
      ∧ (done = false → t = u)
      ∧ (∀ x, u.gns.snap = some x → done = true → t.fbit GNS_SNAP_STAT.BUSY = false ∧ t.fbit GNS_SNAP_STAT.FULL = true
          ∧ t.rdB rgnPool 0 64 = snapHeader x ∧ t.rdB rgnPool 64 (min bs.length (31250 * x.lens.sum)) = bs.take (31250 * x.lens.sum)))
    ∧ (∀ fix : CoarseFix, let due := decide (u.pwr = .harbour) && u.fbit GNS_CFG.EN && decide (u.gns.harbAt + u.fget GNS_HARB_CFG.SNAP_INT * 1000000000 ≤ u.now)
      let fresh := u.gns.eph.any (fun e => decide (u.now < e.2.2 + 14400000000000)) && decide (5 ≤ fix.sats)
      ∃ t, exec (.harbourSnapshot dt fix bs) s = .next t
      ∧ (due = false → t = u)
      ∧ (due = true → t.gns.harbAt = u.now ∧ t.fbit GNS_COARSE_STAT.NOFIX = !fresh ∧ t.fbit GNS_SNAP_STAT.FULL = true
          ∧ (fresh = true → t.fget GNS_COARSE_LAT.ANG = tc 32 fix.lat ∧ t.fget GNS_COARSE_LON.ANG = tc 32 fix.lon ∧ t.gns.coarseAt = some u.now)))

/-- Supply: a warning crossing begins a dip or joins the one in force, VBAT's is a warning alone; it ends when every rail has
recovered, and is then counted with the rail that began it and that rail's lowest voltage. D11, D8 and D6 are shed 20, 30 and
40 ms after the first crossing and restored from 1 s after recovery, D6 first, 100 ms apart; with the last the SHED alarm
clears. A second with the clock out of limits is counted. VHOLD charged lets the object writes that waited start (R443 to R448,
R212). -/
def Obligations.SupplyDips : Prop :=
  ∀ (s : State) (dt rail mv low : Nat),
    let u := s.advance dt
    let asleep := u.pwr = .off ∨ u.pwr = .hibernate ∨ u.sys.held.isSome = true
    let last := bit u.sys.low rail = true ∧ rail < 6 ∧ u.sys.low % 64 = 2 ^ rail
    let due := u.sys.recovered + 1000000000 + u.sys.back * 100000000
    let free := u.inDip = false ∧ u.clocked = true ∧ due ≤ u.now ∧ u.now < due + 100000000
    (asleep ∨ 6 < rail → exec (.supplyWarning dt rail mv) s = .next u)
    ∧ (¬asleep → rail = 6 → ∃ t, exec (.supplyWarning dt rail mv) s = .next t
      ∧ bit t.sys.low 6 = true ∧ t.inDip = u.inDip ∧ t.red = { u.red with supplyAt := some u.now })
    ∧ (¬asleep → rail < 6 → ∃ t, exec (.supplyWarning dt rail mv) s = .next t
      ∧ bit t.sys.low rail = true ∧ t.inDip = true ∧ t.red = { u.red with supplyAt := some u.now } ∧ t.sys.domOn = u.sys.domOn
      ∧ (u.inDip = false → t.sys.dipRail = rail ∧ t.sys.dipMin = mv ∧ t.sys.dipFrom = u.now)
      ∧ (u.inDip = true → t.sys.dipRail = u.sys.dipRail ∧ t.sys.dipFrom = u.sys.dipFrom
          ∧ t.sys.dipMin = if rail = u.sys.dipRail then min u.sys.dipMin mv else u.sys.dipMin))
    ∧ (bit u.sys.low rail = false ∨ 6 < rail → exec (.dipRecovery dt rail mv low) s = .next u)
    ∧ (bit u.sys.low rail = true → rail < 6 → u.sys.low % 64 ≠ 2 ^ rail → ∃ t, exec (.dipRecovery dt rail mv low) s = .next t
      ∧ t.inDip = true ∧ bit t.sys.low rail = false ∧ t.regs = u.regs)
    ∧ (last → u.sys.pwrReq = none → u.hif.taken = [] → ∃ t, exec (.dipRecovery dt rail mv low) s = .next t
      ∧ t.inDip = false ∧ t.sys.recovered = u.now
      ∧ t.fget PMU_DIP.COUNT = incSat PMU_DIP.COUNT.w (u.fget PMU_DIP.COUNT) ∧ t.fget PMU_DIP.RAIL = u.sys.dipRail % 8
      ∧ t.fget PMU_DIP.MIN_MV = (if rail = u.sys.dipRail then min u.sys.dipMin low else u.sys.dipMin) % 2 ^ 16
      ∧ (u.sys.holdOk = true → t.flash.wait = [])
      ∧ (u.sys.yd = false → u.op ≠ .boot → t.fget HIF_EVT_PI.IDX ≠ u.fget HIF_EVT_PI.IDX ∨ t.hif.evtLost ≠ u.hif.evtLost ∨ t.hif.held ≠ u.hif.held))
    ∧ (u.inDip = false ∨ u.clocked = false → exec (.domainShed dt) s = .next u)
    ∧ (u.inDip = true → u.clocked = true → ∃ t, exec (.domainShed dt) s = .next t
      ∧ (∀ d, d ≠ 11 → d ≠ 8 → d ≠ 6 → bit t.sys.domOn d = bit u.sys.domOn d)
      ∧ (∀ p ∈ [(11, 20), (8, 30), (6, 40)],
          (u.now < u.sys.dipFrom + p.2 * 1000000 → bit t.sys.domOn p.1 = bit u.sys.domOn p.1)
          ∧ (u.sys.dipFrom + p.2 * 1000000 ≤ u.now → bit t.sys.domOn p.1 = false
              ∧ (bit u.sys.domOn p.1 = true → bit (t.fget PMU_SHED.SHED) p.1 = true ∧ t.hasAlarm 0x0E 0x02 0 = true
                  ∧ (p.1 = 11 → t.pnl.hven = false) ∧ (p.1 = 6 → t.lgState ≠ lgRunning)))))
    ∧ (u.inDip = true ∨ u.clocked = false ∨ u.fget PMU_SHED.SHED = 0 ∨ u.now < due → exec (.domainRestore dt) s = .next u)
    ∧ (free → ∀ d, [6, 8, 11].find? (bit (u.fget PMU_SHED.SHED)) = some d → ∃ t, exec (.domainRestore dt) s = .next t
      ∧ bit t.sys.domOn d = true ∧ bit (t.fget PMU_SHED.SHED) d = false ∧ (∀ e, e ≠ d → bit t.sys.domOn e = bit u.sys.domOn e)
      ∧ (u.fget PMU_SHED.SHED = 2 ^ d → t.hasAlarm 0x0E 0x02 0 = false ∧ t.sys.shed = 0 ∧ t.sys.back = 0)
      ∧ (u.fget PMU_SHED.SHED ≠ 2 ^ d → t.hasAlarm 0x0E 0x02 0 = u.hasAlarm 0x0E 0x02 0 ∧ t.sys.back = u.sys.back + 1))
    ∧ (u.clocked = true → ∃ t, exec (.clockMonitorSecond dt true) s = .next t ∧ t.red = { u.red with clkWarn := true }
      ∧ t.fget PMU_CNT.CLK_WARN = incSat PMU_CNT.CLK_WARN.w (u.fget PMU_CNT.CLK_WARN))
    ∧ (exec (.clockMonitorSecond dt false) s = .next u)
    ∧ (u.clocked = false → exec (.clockMonitorSecond dt true) s = .next u)
    ∧ (u.hif.taken = [] → ∃ t, exec (.holdUpCharged dt) s = .next t ∧ t.sys.holdOk = true ∧ t.inDip = u.inDip
      ∧ (u.inDip = false → t.flash.wait = []) ∧ (u.inDip = true → t.flash = u.flash))

/-- Power-up and loss of supply: a POR begins the power-up sequence with the reset held; a rail that does not come up in time is
entered in the ledger and the third failure in a row stops the PMU until VIN falls below 2.5 V; the release of a POR samples
the straps, and after POR and BOR every trip latch is set with cause POWER_ON. A BOR holds the reset, names its source, and
completes the writes in progress from the hold-up only where it is not caused by VCORE, VSRAM, an over-voltage or the clock.
VIN below 2.5 V is OFF; D0 loses its contents only with VIN absent (R2, R234, R442, R449, R450, R453, R459). Log entries 178,
179. -/
def Obligations.PowerSequence : Prop :=
  ∀ (s : State) (dt rail src mv : Nat) (yd host ov led prog ok : Bool),
    let u := s.advance dt
    let up := u.sys.held.isSome = true ∧ u.sys.seq = true
    let hold := ¬(src = 1 ∨ src = 2 ∨ src = 6 ∨ ov = true)
    (u.pwr ≠ .off ∨ u.sys.pmuStop = true → exec (.por dt) s = .next u)
    ∧ (u.pwr = .off → u.sys.pmuStop = false → ∃ t, exec (.por dt) s = .next t
      ∧ t.sys.held = some .por ∧ t.sys.seq = true ∧ t.sys.domOn = 1 ∧ t.clocked = false
      ∧ t.fbit PMU_RST_CAUSE.WAKE = false ∧ (u.sys.d0Lost = false → restarted u t .por)
      ∧ (u.sys.d0Lost = true → t.fbit PMU_RST_CAUSE.D0_LOST = true ∧ t.sys.rtc = 0 ∧ t.sys.rtcValid = false
          ∧ t.d0.pwFails = 3 ∧ t.d0.arCtr = u.sys.otpCtr))
    ∧ (¬up → exec (.railTimeout dt rail) s = .next u ∧ exec (.resetRelease dt yd host) s = .next u)
    ∧ (up → ∃ t, exec (.railTimeout dt rail) s = .next t
      ∧ t.sys = { u.sys with railFails := u.sys.railFails + 1, seq := decide (u.sys.railFails < 2), pmuStop := decide (2 ≤ u.sys.railFails), domOn := 1 }
      ∧ t.d0 = { u.d0 with head := (u.d0.head + 1) % 110, nextSeq := (u.d0.nextSeq + 1) % 2 ^ 32 }
      ∧ (u.d0.head < 110 → t.rdB rgnLed (576 + 32 * u.d0.head) 32 = ledBytes ⟨u.now, u.time.frame, 3, leBytes 1 rail ++ leBytes 1 (u.sys.railFails + 1)⟩ u.d0.nextSeq))
    ∧ (up → ∃ t, exec (.resetRelease dt yd host) s = .next t
      ∧ t.sys.held = none ∧ t.sys.railFails = 0 ∧ t.sys.seq = false ∧ t.sys.domOn = 0x607
      ∧ (u.sys.held = some .por → t.sys.strapYd = yd ∧ t.sys.strapHost = host ∧ t.sys.yd = yd)
      ∧ (u.sys.held = some .bor → t.sys.strapYd = u.sys.strapYd ∧ t.sys.strapHost = u.sys.strapHost ∧ t.sys.yd = u.sys.strapYd)
      ∧ (t.sys.yd = false → t.saf.latch = [15, 15] ∧ t.saf.out = [0, 0] ∧ t.fget SAF_STATUS.ARMED = 0
          ∧ ∀ g, g < 4 → t.fget (fldAt SAF_CAUSE.CAUSE g) = 1 ∧ t.hasAlarm 0x08 0x01 g = true))
    ∧ (u.pwr = .off ∨ u.pwr = .hibernate ∨ u.sys.held.isSome = true ∨ 6 < src → exec (.bor dt src mv ov led prog ok) s = .next u)
    ∧ (u.pwr ≠ .off → u.pwr ≠ .hibernate → u.sys.held = none → src < 7 → ∃ t, exec (.bor dt src mv ov led prog ok) s = .next t
      ∧ t.sys.held = some .bor ∧ t.sys.domOn = 1
      ∧ t.clocked = false ∧ t.op = .boot ∧ t.role = .none ∧ t.fget PMU_RST_CAUSE.BOR_SRC = 2 ^ src ∧ t.fget PMU_RST_CAUSE.KIND = 1
      ∧ (hold → ok = true → t.fget PMU_CNT.HOLD_ABORT = u.d0.holdAbort % 256
          ∧ t.d0.head = (u.d0.head + 1 + b2n (led && !u.d0.queue.isEmpty)) % 110)
      ∧ (¬hold → t.d0.head = u.d0.head ∧ t.d0.holdAbort = satU 8 (u.d0.holdAbort + b2n led + b2n prog) ∨ u.d0.holdAbort > 255))
    ∧ (∃ t, exec (.vinOff dt) s = .next t ∧ t.pwr = .off ∧ t.sys.held = none ∧ t.sys.pmuStop = false ∧ t.sys.domOn = 1
      ∧ t.flash = u.flash ∧ t.d0 = u.d0 ∧ t.mem = u.mem)
    ∧ (u.sys.held = some .bor → u.sys.pmuStop = false → exec (.vinReturn dt) s = .next { u with sys := { u.sys with seq := true } })
    ∧ (u.sys.held ≠ some .bor ∨ u.sys.pmuStop = true → exec (.vinReturn dt) s = .next u)
    ∧ (u.pwr = .off ∨ u.pwr = .hibernate → exec (.d0Lost dt) s = .next { u with sys := { u.sys with d0Lost := true } })
    ∧ (u.pwr ≠ .off → u.pwr ≠ .hibernate → exec (.d0Lost dt) s = .next u)

/-- Resets of the running unit: XRST samples the straps anew; a WDR is counted and marks a slot on trial failed; SRST and DRST are
performed when asked for; a DRST retires the engines of D3 to D8, trips every group on D1 and D2, and leaves a domain that is
off alone; a SAFR keeps the latches; every one of them closes the sessions. A trial of 10 s fails (R453 to R457, R463). Log
entries 177, 181. -/
def Obligations.ResetKinds : Prop :=
  ∀ (s : State) (dt d : Nat) (yd host : Bool), s.storesWf = true →
    let u := s.advance dt
    let engs : List Nat := if d = 3 then [3, 4, 5, 6] else if d = 4 then [7, 8] else if d = 5 then [9, 10]
      else if d = 6 then [11, 12] else if d = 7 then [13] else if d = 8 then [14] else []
    let n := u.flash.bootSlot
    let failed (t : State) : Prop := (t.flash.slot n).failed = true ∧ t.flash.bootSlot = 1 - n ∧ t.flash.trial = false
    let asked (k : RstKind) : Prop := u.clocked = true ∧ u.sys.rstReq.map (·.1) = some k
    (u.pwr = .off ∨ u.pwr ≠ .hibernate ∧ u.sys.held.isSome = true → exec (.xrst dt yd host) s = .next u)
    ∧ (u.pwr ≠ .off → u.pwr ≠ .hibernate → u.sys.held = none → ∃ t, exec (.xrst dt yd host) s = .next t
      ∧ restarted u t .xrst ∧ t.sys.strapYd = yd ∧ t.sys.strapHost = host ∧ t.sys.yd = yd ∧ t.sys.hostSel = host)
    ∧ (u.pwr = .hibernate → ∃ t, exec (.xrst dt yd host) s = .next t ∧ t.sys.held = some .por ∧ t.fbit PMU_RST_CAUSE.WAKE = true)
    ∧ (u.clocked = false → exec (.wdr dt) s = .next u)
    ∧ (u.clocked = true → ∃ t, exec (.wdr dt) s = .next t
      ∧ t.fget PMU_CNT.WDR = incSat PMU_CNT.WDR.w (u.fget PMU_CNT.WDR) ∧ t.sys.wdrAt.getLast? = some (u.sys.rtc / 125000000)
      ∧ t.sys.yd = u.sys.strapYd ∧ (u.flash.trial = false → restarted u t .wdr) ∧ (u.flash.trial = true → n < 2 → failed t))
    ∧ (¬asked .srst → exec (.srst dt) s = .next u)
    ∧ (asked .srst → ∃ t, exec (.srst dt) s = .next t ∧ restarted u t .srst ∧ t.sys.rstReq = none)
    ∧ (¬asked .drst → exec (.drst dt) s = .next u)
    ∧ (u.sys.rstReq = some (.drst, d) → u.clocked = true → bit u.sys.domOn d = false →
        exec (.drst dt) s = .next { u with sys := { u.sys with rstReq := none } })
    ∧ (u.sys.rstReq = some (.drst, d) → u.clocked = true → bit u.sys.domOn d = true → d < 12 → ∃ t, exec (.drst dt) s = .next t
      ∧ t.cfg.cfgSess = none ∧ t.cfg.safSess = none ∧ t.time.ns = u.time.ns
      ∧ (∀ e ∈ engs, u.retired 4 e = false → t.engDead e = true)
      ∧ (d ≠ 1 → t.fget PMU_RST_CAUSE.KIND = 5 ∧ t.fget PMU_RST_CAUSE.DOMAIN = d)
      ∧ (d = 1 → t.op = .boot ∧ t.role = .none ∧ t.hif.ready = false)
      ∧ (d = 1 ∨ d = 2 → u.saf.latch.length = 2 → t.saf.latch.all (fun l => decide (l % 16 = 15)) = true)
      ∧ (d = 11 → t.pnl.hven = false))
    ∧ (¬asked .safr → exec (.safr dt) s = .next u)
    ∧ (asked .safr → ∃ t, exec (.safr dt) s = .next t ∧ t.saf.latch = u.saf.latch ∧ t.cfg.cfgSess = none ∧ t.cfg.safSess = none
      ∧ t.fget PMU_CNT.SAFR = incSat PMU_CNT.SAFR.w (u.fget PMU_CNT.SAFR) ∧ t.fget PMU_RST_CAUSE.KIND = 6 ∧ t.sys.rstReq = none
      ∧ t.time = u.time ∧ t.role = u.role)
    ∧ (u.op ≠ .boot ∨ u.flash.trial = false ∨ u.time.ticks < 1250000000 → exec (.trialTimeout dt) s = .next u)
    ∧ (u.op = .boot → u.flash.trial = true → 1250000000 ≤ u.time.ticks → ∃ t, exec (.trialTimeout dt) s = .next t
      ∧ t.op = .boot ∧ (n < 2 → failed t))

/-- Wake and boot: a wake source that PMU_WAKE_CFG does not enable, or in RUN, does nothing; from HIBERNATE the wake is a POR,
from SLEEP a restart through BOOT, from HARBOUR a return to the operating state held before, each with every latch set. The
boot takes the slot of the directory, or the other with FALLBACK; with neither it enters recovery mode; it ends with READY
raised, the trial cleared and the anti-rollback counter no lower than the image, in READY with the configuration or in CONFIG
(R450, R452, R462 to R465). Log entries 180, 181, 182. -/
def Obligations.WakeAndBoot : Prop :=
  ∀ (s : State) (dt src fail : Nat),
    let u := s.advance dt
    let on := if src = 0 then u.fbit PMU_WAKE_CFG.WAKE_N_EN else u.fbit PMU_WAKE_CFG.RTC_EN && u.fget PMU_WAKE_AT.S == u.sys.rtc / 125000000 % 2 ^ 32
    let boots := u.clocked = true ∧ u.op = .boot ∧ u.pwr = .run ∧ u.hif.ready = false
    let wdrs := u.sys.kind = .wdr ∧ u.sys.wdrAt.length = 3 ∧ u.sys.rtc / 125000000 ≤ u.sys.wdrAt.getD 0 0 + 60
    let n := u.flash.bootSlot
    let k := if u.fwOk n then n else 1 - n
    let booted (t : State) : Prop := t.fget PMU_BOOT.SLOT = k ∧ t.fbit PMU_BOOT.FALLBACK = (k != n)
      ∧ t.fget PMU_FW_VER.VERSION = (u.flash.slot k).version % 2 ^ 32
      ∧ t.flash.trial = false ∧ t.d0.arCtr = max u.d0.arCtr (u.flash.slot k).svn
      ∧ ∀ e, e < 16 → e ≠ 0 → e ≠ 1 → e ≠ 2 → bit fail e = true → u.retired 4 e = false → t.engDead e = true
    (on = false ∨ u.pwr = .run ∨ u.pwr = .off → exec (.wake dt src) s = .next u)
    ∧ (on = true → u.pwr = .hibernate → ∃ t, exec (.wake dt src) s = .next t
      ∧ t.sys.held = some .por ∧ t.sys.seq = true ∧ t.fbit PMU_RST_CAUSE.WAKE = true ∧ (u.sys.d0Lost = false → restarted u t .por))
    ∧ (on = true → u.pwr = .sleep → ∃ t, exec (.wake dt src) s = .next t
      ∧ t.op = .boot ∧ t.pwr = .run ∧ t.hif.ready = false ∧ t.fget PMU_RST_CAUSE.KIND = 7 ∧ (t.sys.yd = false → t.saf.latch = [15, 15]))
    ∧ (on = true → u.pwr = .harbour → ∃ t, exec (.wake dt src) s = .next t
      ∧ t.pwr = .run ∧ t.op = u.sys.opBefore ∧ t.sys.domOn = 0xFFF ∧ t.saf.latch = [15, 15] ∧ t.role = u.role ∧ t.time = u.time)
    ∧ (¬boots → exec (.bootDone dt fail) s = .next u)
    ∧ (boots → wdrs ∨ u.fwOk n = false ∧ u.fwOk (1 - n) = false → ∃ t, exec (.bootDone dt fail) s = .next t
      ∧ t.sys.recovery = true ∧ t.fbit PMU_BOOT.RECOVERY = true ∧ t.hif.ready = true ∧ t.op = .boot ∧ t.sys.yd = false)
    ∧ (boots → ¬wdrs → n < 2 → u.fwOk n = true ∨ u.fwOk (1 - n) = true → u.sys.yd = true → ∃ t, exec (.bootDone dt fail) s = .next t
      ∧ booted t ∧ t.yd.ready = true ∧ t.op = .ready ∧ t.hif.ready = false)
    ∧ (boots → ¬wdrs → n < 2 → u.fwOk n = true ∨ u.fwOk (1 - n) = true → u.sys.yd = false → ∃ t, exec (.bootDone dt fail) s = .next t
      ∧ booted t ∧ t.hif.ready = true ∧ t.hif.pendTags = []
      ∧ (u.flash.objs = none → t.op = .config ∧ t.fbit PMU_BOOT.CFG_INVALID = true)
      ∧ (t.op = .ready ∧ t.role = .ready ∨ t.op = .config ∧ t.fbit PMU_BOOT.CFG_INVALID = true))

/-- The YD-22 registers: until READY every read is zero and every write ignored; a read of the low half of a pair latches the high
half for the next read; a write of it is held and the write of the high half loads both; out-of-range values are ignored,
alarms clear by writing 1; a register left incomplete is counted in YD_SPI_ERR, which clears when read; a read of YD_STATUS
releases the host interrupt (R417 to R420, R422, R434). Log entry 161. -/
def Obligations.YdRegisters : Prop :=
  ∀ (s : State) (a v l : Nat), a < 256 → v < 65536 → l < 65536 →
    let on := s.ydOn = true
    let word (x : Nat) : List Byte := [BitVec.ofNat 8 (x / 256), BitVec.ofNat 8 x]
    let sent (x : List Byte) : List Out := s.out ++ [⟨s.now, .spi, x⟩]
    let plain (x : Nat) : Prop := x = 0x0C ∨ x = 0x1E ∨ x = 0x1F ∨ x = 0xB4
    let onlyYd (as : List Nat) (t : State) : Prop := t = { s with yd := { s.yd with regs := t.yd.regs } } ∧ ∀ b, b ∉ as → t.ydReg b = s.ydReg b
    let fresh (x : Nat) : Prop := s.yd.high.map (·.1) ≠ some x
    let wr : Instr := .ydSpiWrite ([BitVec.ofNat 8 a] ++ word v)
    (s.sys.yd = false → ∀ c ∈ [Instr.ydSpiRead a 2, .ydPairLowRead a, .ydPairLowWrite a v, .ydPairHighWrite a v, wr,
        .ydSpiWrite [BitVec.ofNat 8 a, 7], .ydStatusRead, .ydSpiErrRead], exec c s = .next s)
    ∧ (¬on → ∀ c ∈ [Instr.ydPairLowWrite a v, .ydPairHighWrite a v, wr, .ydSpiWrite [BitVec.ofNat 8 a, 7]], exec c s = .next s)
    ∧ (s.sys.yd = true → ¬on → ∀ c ∈ [Instr.ydSpiRead a 2, .ydPairLowRead a, .ydStatusRead, .ydSpiErrRead],
        exec c s = .next { s with out := sent [0, 0] })
    ∧ (on → s.yd.high = some (a, v) → exec (.ydSpiRead a 2) s = .next { s with out := sent (word v), yd := { s.yd with high := none } })
    ∧ (on → fresh a → ydLow a = false → a ≠ 0x03 → a ≠ 0xF3 → exec (.ydSpiRead a 2) s = .next { s with out := sent (word (s.ydVal a)) })
    ∧ (on → fresh a → ydLow a = true → exec (.ydPairLowRead a) s =
        .next { s with out := sent (word (s.ydVal a)), yd := { s.yd with high := some (a + 1, s.ydVal (a + 1)) } })
    ∧ (on → ydLow a = true → ydPairRo a = false → exec (.ydPairLowWrite a v) s = .next { s with yd := { s.yd with low := some (a, v) } })
    ∧ (on → ydLow a = true → ydPairRo a = true → exec (.ydPairLowWrite a v) s = .next s)
    ∧ (on → 0 < a → ydLow (a - 1) = true → ydPairRo (a - 1) = false → a ≠ 0xC4 → a ≠ 0xC6 → s.yd.low = some (a - 1, l) →
        ∃ t, exec (.ydPairHighWrite a v) s = .next t
          ∧ t.ydReg (a - 1) = l ∧ t.ydReg a = v ∧ t.yd.low = none ∧ t.can = s.can ∧ t.out = s.out
          ∧ ∀ b, b ≠ a → b ≠ a - 1 → t.ydReg b = s.ydReg b)
    ∧ (on → s.yd.low = some (0xC3, l) → ∃ t, exec (.ydPairHighWrite 0xC4 v) s = .next t
      ∧ (t.ydBuf s.ydSel).id = (l + 65536 * v) &&& 0x9FFFFFFF ∧ t.yd.low = none)
    ∧ (on → s.yd.low = some (0xC5, l) → ∃ t, exec (.ydPairHighWrite 0xC6 v) s = .next t
      ∧ (t.ydBuf s.ydSel).mask = (l + 65536 * v) &&& 0x1FFFFFFF ∧ t.yd.low = none)
    ∧ (on → plain a → ∃ t, exec wr s = .next t ∧ t.ydReg a = v ∧ onlyYd [a] t)
    ∧ (on → a = 0x18 ∧ 1 < v ∨ a = 0x19 ∧ (v = 0 ∨ 0x7FFF < v) ∨ (a = 0x93 ∨ a = 0xB3) ∧ (v < 100 ∨ 5000 < v) → exec wr s = .next s)
    ∧ (on → a = 0x04 → ∃ t, exec wr s = .next t ∧ t.ydReg 4 = s.ydReg 4 - (s.ydReg 4 &&& v) ∧ onlyYd [4] t)
    ∧ (on → a < 2 ∨ a = 0x90 ∨ a = 0xF1 ∨ a = 0xFE → exec wr s = .next s)
    ∧ (on → ∃ t, exec (.ydSpiWrite [BitVec.ofNat 8 a, 7]) s = .next t
      ∧ onlyYd [0xF3] t ∧ t.ydReg 0xF3 = min 65535 (s.ydReg 0xF3 + 1))
    ∧ (on → fresh 3 → exec .ydStatusRead s = .next { s with out := sent (word (s.ydVal 3)), yd := { s.yd with intLow := false } })
    ∧ (on → fresh 0xF3 → ∃ t, exec .ydSpiErrRead s = .next t
      ∧ t.out = sent (word (s.ydReg 0xF3)) ∧ t.ydReg 0xF3 = 0 ∧ ∀ b, b ≠ 0xF3 → t.ydReg b = s.ydReg b)

/-- YD_CONTROL and the message buffers: a write with MODE 4 to 7 is ignored; any other takes RUN, MASTER_REQ and MODE, and gives
up mastery where RUN or MASTER_REQ is 0; SAVE stores the writable registers as they stand, waits while flash writes are held,
and sets SAVE_FAIL and leaves the stored image where the write fails; SRST asks for one; CAPTURE waits for the cycle. TX_REQ
submits the frame of an enabled transmit buffer (R416, R421, R434, R436). Log entries 160, 162. -/
def Obligations.YdControl : Prop :=
  ∀ (s : State) (v : Nat), s.ydOn = true → v < 65536 →
    let bad := 3 < v % 8
    let taken (t : State) : Prop := t.ydReg 2 = v &&& 0x97 ∧ t.yd.modeWr = true
      ∧ (bit v 4 = false ∨ bit v 7 = false → t.yd.master = false) ∧ (bit v 4 = true → bit v 7 = true → t.yd.master = s.yd.master)
    let stored (t : State) (im : Tab (BitVec 16) × Tab YdMb) : Prop :=
      ∀ a, ydSaved a = true → tabGet ydReset im.1 a = tabGet ydReset t.yd.regs a
    let k := s.ydSel
    let m := s.ydBuf k
    let c := s.ctl (k / 16)
    let tx := bit v 15 = true ∧ bit v 14 = true ∧ v % 16 ≤ 8 ∧ bit m.cfg 13 = false
    let save := bit v 15 = true
    let rst := bit v 14 = true ∧ bit v 15 = false
    let cap := bit v 8 = true ∧ bit v 15 = false ∧ bit v 14 = false
    let req := bit v 13 = true
    (bad → (save → exec (.ydSave v) s = .next s) ∧ (rst → exec (.ydSrst v) s = .next s) ∧ (cap → exec (.ydCapture v) s = .next s))
    ∧ (save → ¬bad → s.writesHeld = true → ∃ t, exec (.ydSave v) s = .next t ∧ taken t ∧ t.flash = s.flash
      ∧ ∃ im, t.yd.saving = some im ∧ stored t im)
    ∧ (save → ¬bad → s.writesHeld = false → Config.flashOk s.free = true → ∃ t, exec (.ydSave v) s = .next t ∧ taken t
      ∧ t.yd.saving = none ∧ ∃ im, t.flash.yd = some im ∧ stored t im)
    ∧ (save → ¬bad → s.writesHeld = false → Config.flashOk s.free = false → ∃ t, exec (.ydSave v) s = .next t ∧ taken t
      ∧ t.yd.saving = none ∧ t.flash = s.flash ∧ bit (t.ydReg 4) 9 = true)
    ∧ (rst → ¬bad → ∃ t, exec (.ydSrst v) s = .next t ∧ taken t ∧ t.sys = { s.sys with rstReq := some (.srst, 1) } ∧ t.flash = s.flash)
    ∧ (cap → ¬bad → ∃ t, exec (.ydCapture v) s = .next t ∧ taken t ∧ t.yd.capture = true ∧ t.sys = s.sys ∧ t.flash = s.flash
      ∧ ∀ a, a ≠ 2 → t.ydReg a = s.ydReg a)
    ∧ (req → 8 < v % 16 → exec (.ydMbTxReq v) s = .next s)
    ∧ (req → tx → s.can.ctl.length = 8 → c.queue.length < 64 → ∃ t, exec (.ydMbTxReq v) s = .next t
      ∧ (t.ydBuf k).cfg = (v &&& 0xC00F) + 0x2000
      ∧ (t.ctl (k / 16)).queue = c.queue ++ [⟨⟨m.id % 2 ^ 29, bit m.id 31, false, false, v % 16, m.data.take (v % 16)⟩, 0, none, some k, s.can.ord⟩])
    ∧ (req → tx → 64 ≤ c.queue.length → ∃ t, exec (.ydMbTxReq v) s = .next t
      ∧ (t.ydBuf k).cfg = v &&& 0xC00F ∧ t.ctl (k / 16) = c)
    ∧ (req → v % 16 ≤ 8 → bit v 14 = false ∨ bit v 15 = false → ∃ t, exec (.ydMbTxReq v) s = .next t
      ∧ (t.ydBuf k).cfg = (v &&& 0xC00F) + 0x2000 * b2n (bit m.cfg 13) ∧ t.can = s.can)

/-- The YD-22 control cycle: at C(n), with RUN = 1 and a CE alive, the availability set, the mode in force and the results are
formed, to be released at C(n) + T_calc, T_calc being 1.80 ms, 0.45 ms for each available thruster, 0.90 ms for scaling and
3.20 ms for the matrix; with RUN = 0 no cycle runs. The release counts the cycle, updates the registers, asserts the host
interrupt and submits the frames; a master that meets a partner gives up unless it has priority (R423 to R425, R429, R430,
R435, R436). Log entries 157, 159, 160. -/
def Obligations.YdCycle : Prop :=
  ∀ (s : State) (dt : Nat), s.sys.yd = true → s.clocked = true →
    let u := s.advance dt
    let n := u.now / 100000000
    let alive (e : Nat) : Bool := !u.engDead e && bit u.sys.domOn 3
    let ce := if alive u.yd.ce then u.yd.ce else if alive (7 - u.yd.ce) then 7 - u.yd.ce else u.yd.ce
    let due := u.ydOn = true ∧ u.yd.cycleAt < n
    let runs := bit (u.ydReg 2) 4 = true ∧ alive ce = true
    let avail := u.ydAvail u.ydVal (n * 100000000)
    let md := (ydMode u.yd u.ydVal (u.ydInputs u.ydVal n)).1
    let want := bit (u.ydReg 2) 7 = true ∧ md ≠ 0 ∧ u.yd.fault = false
    let formed (t : State) (o : YdOut) : Prop := o.n = n
      ∧ (∃ scaled recomp, o.at_ = n * 100000000 + 1000 * (1800 + 450 * popCount 8 avail + 900 * b2n scaled + 3200 * b2n recomp)
          ∧ (0x91, b2n scaled + 2 * b2n recomp + (if t.yd.mat.isNone then 4 else 0)) ∈ o.words)
      ∧ (md = 0 → (0x2E, 0) ∈ o.words ∧ (0x2F, 0) ∈ o.words ∧ (0x3E, 0) ∈ o.words ∧ (0x4E, 0) ∈ o.words)
      ∧ (t.yd.mat = none → o.cmds.all (fun c => c.2.1 == 0) = true ∧ bit o.alarm 4 = true)
      ∧ ∀ c ∈ o.cmds, bit (u.ydVal (0x50 + 8 * c.1)) 15 = true ∧ (bit avail c.1 = false → c.2 = (0, u.ydVal (0x50 + 8 * c.1 + 6)))
    let idle := u.yd.out = none ∨ u.ydOn = false
    let clash := u.yd.master = true ∧ u.yd.fault = false ∧ bit (u.ydReg 0xD0) 2 = true ∧ u.yd.pinIn = true
    (¬due → exec (.ydCycleStart dt) s = .next u)
    ∧ (due → ¬runs → exec (.ydCycleStart dt) s =
        .next { u with yd := { u.yd with cycleAt := n, ce := ce, latch := if u.gnssOn then some n else none } })
    ∧ (due → runs → ∃ t, exec (.ydCycleStart dt) s = .next t
      ∧ t.yd.cycleAt = n ∧ t.yd.ce = ce ∧ t.ydReg 5 = u.ydReg 5 ∧ t.yd.avail = avail ∧ t.ydReg 0x90 = avail % 65536
      ∧ t.yd.mode = md ∧ t.yd.modeWr = false ∧ t.yd.capture = false ∧ t.ydReg 3 % 8 = md % 8
      ∧ (∃ o, t.yd.out = some o ∧ formed t o)
      ∧ (¬want → t.yd.master = false)
      ∧ (want → bit (u.ydReg 0xD0) 2 = false ∨ u.yd.pinIn = false ∧ (bit (u.ydReg 0xD0) 0 = true ∨ u.yd.pinAt + 200000000 ≤ u.now) →
          t.yd.master = true))
    ∧ (idle → exec (.ydRelease dt) s = .next u)
    ∧ (∀ o, u.yd.out = some o → u.now < o.at_ → exec (.ydRelease dt) s = .next u)
    ∧ (∀ o, u.yd.out = some o → u.ydOn = true → o.at_ ≤ u.now → u.can.ctl.length = 8 →
        o.words.all (fun w => w.1 != 5 && w.1 != 0xD0) = true → ∃ t, exec (.ydRelease dt) s = .next t
      ∧ t.yd.out = none ∧ t.yd.intLow = true ∧ t.ydReg 5 = (u.ydReg 5 + 1) % 65536
      ∧ (clash → t.yd.conflict = true ∧ bit (t.ydReg 4) 7 = true ∧ t.yd.master = bit (u.ydReg 0xD0) 0)
      ∧ (¬clash → t.yd.master = u.yd.master)
      ∧ (u.yd.master = false ∨ u.yd.mode = 0 ∨ u.yd.fault = true → (u.ctl 0).queue.length < 64 → (t.ctl 0).queue.length = (u.ctl 0).queue.length + 1)
      ∧ (u.yd.master = true → u.yd.fault = false → ¬clash → u.yd.mode ≠ 0 → (u.ctl 0).queue.length + o.cmds.length < 64 →
          (t.ctl 0).queue.length = (u.ctl 0).queue.length + o.cmds.length + 1)
      ∧ ((u.ctl 1).queue.length < 64 → (t.ctl 1).queue.length = (u.ctl 1).queue.length + 1))

/-- YD-22 inputs: a frame of the message set is taken as an input with its instant, unless its DLC is too short; any other frame
leaves the inputs as they were. A level of MASTER_IN counts when accepted (R426, R432, R435). Log entry 160. -/
def Obligations.YdInputs : Prop :=
  ∀ (s : State) (dt n id dlc : Nat) (ide high : Bool) (data : List Byte), s.sys.yd = true → s.clocked = true → n < 2 →
    let u := s.advance dt
    let on := u.ydOn = true ∧ u.canOn n = true
    let net := ide = true ∧ id / 65536 = u.ydReg 0xB1
    let code := id % 65536
    let x : YdIn := ⟨fitBytes 8 data, u.now⟩
    let rx : Instr := .ydCanRx dt n id ide false false dlc data false
    (u.ydOn = false → exec rx s = .next u)
    ∧ (on → net → n = 1 → 0x200 ≤ code → code < 0x204 → u.yd.ins.length = 4 → ∃ t, exec rx s = .next t
      ∧ let need := if code = 0x200 then 5 else if code = 0x201 then 4 else if code = 0x202 then 8 else 6
        t.yd.ins = (if dlc < need then u.yd.ins else u.yd.ins.set (code - 0x200) (some x)) ∧ t.yd.fb = u.yd.fb)
    ∧ (on → net → n = 0 → 0x180 ≤ code → code < 0x188 → u.yd.fb.length = 8 → ∃ t, exec rx s = .next t
      ∧ t.yd.fb = (if dlc < 5 then u.yd.fb else u.yd.fb.set (code - 0x180) (some x)) ∧ t.yd.ins = u.yd.ins)
    ∧ (on → ¬(net ∧ ydCode n code = true) → ∃ t, exec rx s = .next t ∧ t.yd.ins = u.yd.ins ∧ t.yd.fb = u.yd.fb)
    ∧ (u.ydOn = true → u.yd.pinIn ≠ high →
        exec (.masterInAccept dt high) s = .next { u with yd := { u.yd with pinIn := high, pinAt := u.now } })
    ∧ (u.ydOn = false ∨ u.yd.pinIn = high → exec (.masterInAccept dt high) s = .next u)

/-- YD-22 message buffers: a received frame of a code of R432 is never offered to a buffer; any other is stored in the
lowest-numbered enabled receive buffer of its controller whose ID and MASK match and whose IDE agrees; a frame that matches
none is discarded. Storing sets NEW_DATA, and MSGLOST where NEW_DATA was still 1 (R316, R433). -/
def Obligations.YdBufferStore : Prop :=
  ∀ (s : State) (dt n id dlc : Nat) (ide : Bool) (data : List Byte), s.sys.yd = true → s.clocked = true → n < 2 →
    (s.advance dt).ydOn = true → (s.advance dt).canOn n = true → dlc < 16 → data.length = min 8 dlc →
    let u := s.advance dt
    let code := id % 65536
    let own := ide = true ∧ id / 65536 = u.ydReg 0xB1 ∧ (if n = 0
      then 0x100 ≤ code ∧ code < 0x108 ∨ 0x180 ≤ code ∧ code < 0x188 ∨ code = 0x1F0 ∨ code = 0x1F1
      else 0x200 ≤ code ∧ code < 0x204 ∨ code = 0x2F0 ∨ code = 0x2F1)
    let hit (b : Nat) : Bool :=
      let m := u.ydBuf (16 * n + b)
      bit m.cfg 15 && !bit m.cfg 14 && bit m.id 31 == ide && (id &&& m.mask) == (m.id % 2 ^ 29 &&& m.mask)
    let kept (t : State) (b : Nat) : Prop := (t.ydBuf b).stat = (u.ydBuf b).stat ∧ (t.ydBuf b).data = (u.ydBuf b).data
    ∃ t, exec (.ydCanRx dt n id ide false false dlc data false) s = .next t
      ∧ (own → ∀ b, kept t b)
      ∧ (¬own → (upTo 16).find? hit = none → ∀ b, kept t b)
      ∧ (¬own → ∀ b, (upTo 16).find? hit = some b → (∀ c, c ≠ 16 * n + b → kept t c)
          ∧ (t.ydBuf (16 * n + b)).data.take (min 8 dlc) = data ∧ bit (t.ydBuf (16 * n + b)).stat 0 = true
          ∧ bit (t.ydBuf (16 * n + b)).stat 1 = (bit (u.ydBuf (16 * n + b)).stat 0 || bit (u.ydBuf (16 * n + b)).stat 1))
end

