-- ==== Sys2Proof/Laws/Tab.lean ====
section
/-!
SUPPORT. Laws of the sparse tables: what a write reads back as, that it leaves every other key alone, and that every
operation keeps the canonical form.
-/

namespace Sys2Proof.Machine

variable {α : Type} [DecidableEq α] {d : Nat → α}

/-- A key lies above a bound. -/
def aboveB (lo : Option Nat) (k : Nat) : Bool := match lo with | none => true | some l => decide (l < k)

theorem tabWfFrom_cons (lo : Option Nat) (a : Nat) (v : α) (r : Tab α) :
    tabWfFrom d lo ((a, v) :: r) = (aboveB lo a && decide (v ≠ d a) && tabWfFrom d (some a) r) := by
  cases lo <;> simp [tabWfFrom, aboveB]

theorem aboveB_trans {lo : Option Nat} {a b : Nat} (h : aboveB lo a = true) (hab : a < b) : aboveB lo b = true := by
  cases lo with
  | none => rfl
  | some l => simp only [aboveB, decide_eq_true_eq] at h ⊢; omega

theorem tabWfFrom_weaken (t : Tab α) {lo : Option Nat} {b : Nat} (hb : aboveB lo b = true)
    (h : tabWfFrom d (some b) t = true) : tabWfFrom d lo t = true := by
  cases t with
  | nil => cases lo <;> rfl
  | cons p r =>
    obtain ⟨a, v⟩ := p
    rw [tabWfFrom_cons] at h ⊢
    simp only [aboveB, Bool.and_eq_true, decide_eq_true_eq] at h ⊢
    exact ⟨⟨aboveB_trans hb h.1.1, h.1.2⟩, h.2⟩

theorem tabDel_wfFrom (t : Tab α) (k : Nat) (lo : Option Nat) (h : tabWfFrom d lo t = true) :
    tabWfFrom d lo (tabDel t k) = true := by
  induction t generalizing lo with
  | nil => simpa [tabDel] using h
  | cons p r ih =>
    obtain ⟨a, v⟩ := p
    rw [tabWfFrom_cons] at h
    simp only [Bool.and_eq_true] at h
    simp only [tabDel]
    split
    · exact ih _ (tabWfFrom_weaken r h.1.1 h.2)
    · rw [tabWfFrom_cons]; simp only [Bool.and_eq_true]; exact ⟨h.1, ih _ h.2⟩

theorem tabIns_wfFrom (t : Tab α) (k : Nat) (v : α) (hv : v ≠ d k) (lo : Option Nat) (hk : aboveB lo k = true)
    (h : tabWfFrom d lo t = true) : tabWfFrom d lo (tabIns t k v) = true := by
  induction t generalizing lo with
  | nil => simp only [tabIns, tabWfFrom_cons, hk, hv]; cases lo <;> simp [tabWfFrom, hv]
  | cons p r ih =>
    obtain ⟨a, w⟩ := p
    have h0 := h
    rw [tabWfFrom_cons] at h
    simp only [Bool.and_eq_true, decide_eq_true_eq] at h
    simp only [tabIns]
    split
    · next e =>
      subst e
      rw [tabWfFrom_cons]; simp only [Bool.and_eq_true, decide_eq_true_eq]; exact ⟨⟨hk, hv⟩, h.2⟩
    · split
      · next hlt =>
        rw [tabWfFrom_cons, tabWfFrom_cons]
        simp only [aboveB, Bool.and_eq_true, decide_eq_true_eq]
        exact ⟨⟨hk, hv⟩, ⟨hlt, h.1.2⟩, h.2⟩
      · rw [tabWfFrom_cons]
        simp only [Bool.and_eq_true, decide_eq_true_eq]
        refine ⟨h.1, ih _ ?_ h.2⟩
        simp only [aboveB, decide_eq_true_eq]; omega

/-- A write keeps the canonical form. -/
theorem tabSet_wf (t : Tab α) (k : Nat) (v : α) (h : tabWf d t = true) : tabWf d (tabSet d t k v) = true := by
  unfold tabWf tabSet at *
  split
  · exact tabDel_wfFrom t k none h
  · next hv => exact tabIns_wfFrom t k v hv none rfl h

theorem filter_wfFrom (p : Nat × α → Bool) (t : Tab α) (lo : Option Nat) (h : tabWfFrom d lo t = true) :
    tabWfFrom d lo (t.filter p) = true := by
  induction t generalizing lo with
  | nil => simpa using h
  | cons q r ih =>
    obtain ⟨a, v⟩ := q
    rw [tabWfFrom_cons] at h
    simp only [Bool.and_eq_true] at h
    rw [List.filter_cons]
    split
    · rw [tabWfFrom_cons]; simp only [Bool.and_eq_true]; exact ⟨h.1, ih _ h.2⟩
    · exact ih _ (tabWfFrom_weaken r h.1.1 h.2)

/-- Dropping entries keeps the canonical form. -/
theorem filter_wf (p : Nat × α → Bool) (t : Tab α) (h : tabWf d t = true) : tabWf d (t.filter p) = true :=
  filter_wfFrom p t none h

theorem tabGet_below (t : Tab α) (k a : Nat) (hk : k ≤ a) (h : tabWfFrom d (some a) t = true) : tabGet d t k = d k := by
  induction t generalizing a with
  | nil => rfl
  | cons q r ih =>
    obtain ⟨b, v⟩ := q
    rw [tabWfFrom_cons] at h
    simp only [aboveB, Bool.and_eq_true, decide_eq_true_eq] at h
    simp only [tabGet]
    split
    · omega
    · exact ih b (by omega) h.2

theorem tabGet_tabIns (t : Tab α) (k j : Nat) (v : α) : tabGet d (tabIns t k v) j = if j = k then v else tabGet d t j := by
  induction t with
  | nil => simp only [tabIns, tabGet, eq_comm]
  | cons q r ih =>
    obtain ⟨a, w⟩ := q
    simp only [tabIns]
    split
    · next e => subst e; simp only [tabGet]; grind
    · split
      · simp only [tabGet]; grind
      · simp only [tabGet, ih]; grind

theorem tabGet_tabDel (t : Tab α) (k j : Nat) : tabGet d (tabDel t k) j = if j = k then d k else tabGet d t j := by
  induction t with
  | nil => simp only [tabDel, tabGet]; split <;> simp_all
  | cons q r ih =>
    obtain ⟨a, w⟩ := q
    simp only [tabDel]
    split
    · next e => subst e; rw [ih]; simp only [tabGet]; grind
    · simp only [tabGet, ih]; grind

/-- What a write to a table reads back as, at every key; the table need not be canonical. -/
theorem tabGet_tabSet (t : Tab α) (k j : Nat) (v : α) : tabGet d (tabSet d t k v) j = if j = k then v else tabGet d t j := by
  unfold tabSet
  split
  · next e => rw [tabGet_tabDel, e]
  · exact tabGet_tabIns t k j v

theorem tabIns_other (t : Tab α) (k j : Nat) (v : α) (hj : j ≠ k) : tabGet d (tabIns t k v) j = tabGet d t j := by
  rw [tabGet_tabIns, if_neg hj]

end Sys2Proof.Machine
end

