-- ==== Sys2Proof/Laws/Keeps.lean ====
section
/-!
SUPPORT. What every operation of the machine keeps: the canonical form of the stores, and every part of the state it does
not touch. `Keeps m s t` says it of a state and the state an operation makes of it, `m` being the mask of the parts that
may differ (bit i is field i of the state; the queue of waiting commands, bit 0, never does); the files Keeps1, Keeps2, …
say it of every operation, one lemma each.
-/

namespace Sys2Proof.Machine

/-- `t` keeps what is canonical in `s`, and every part of it but those of the mask. -/
structure Keeps (m : Nat) (s t : State) : Prop where
  stores : s.storesWf = true → t.storesWf = true
  same : Same m s t

variable {M : Nat}

theorem Keeps.refl (s : State) : Keeps M s s := ⟨id, rfl⟩

theorem Keeps.trans {s t u : State} (h : Keeps M s t) (k : Keeps M t u) : Keeps M s u :=
  ⟨fun w => k.stores (h.stores w), k.same.trans h.same⟩

theorem mask_sub (m M : Nat) (h : m ||| M = M) (i : Nat) (hi : M.testBit i = false) : m.testBit i = false := by
  rw [← h, Nat.testBit_or, Bool.or_eq_false_iff] at hi; exact hi.1

/-- Blanking more after blanking some. -/
theorem State.frame_frame (s : State) (m M : Nat) (h : m ||| M = M) : (s.frame m).frame M = s.frame M := by
  have k : ∀ {α : Type} (i : Nat) (a b : α),
      (if M.testBit i = true then a else if m.testBit i = true then a else b) = if M.testBit i = true then a else b := by
    intro α i a b
    split
    · rfl
    · next hi => rw [mask_sub m M h i (by simpa using hi)]; rfl
  simp only [State.frame, k]

/-- A larger mask claims less. -/
theorem Same.of {m : Nat} {s t : State} (h : Same m s t) (k : m ||| M = M) : Same M s t := by
  unfold Same
  rw [← State.frame_frame t m M k, ← State.frame_frame s m M k, h]

theorem Keeps.of {m : Nat} {s t : State} (h : Keeps m s t) (k : m ||| M = M) : Keeps M s t := ⟨h.stores, h.same.of k⟩

theorem mask_trans {m o M : Nat} (h : m ||| o = o) (k : o ||| M = M) : m ||| M = M := by
  rw [← k, ← Nat.or_assoc, h]

/-- An update of anything but the stores and the queue. -/
theorem Keeps.upd {s b t : State} (h : Keeps M s b) (hm : t.mem = b.mem) (hr : t.regs = b.regs)
    (hd : t.dia.rpl = b.dia.rpl) (hf : t.frame M = b.frame M) : Keeps M s t := by
  refine h.trans ⟨?_, hf⟩
  unfold State.storesWf State.rplWf
  rw [hm, hr, hd]
  exact id

theorem Keeps.ite {s t u : State} {c : Prop} [Decidable c] (h : Keeps M s t) (k : Keeps M s u) :
    Keeps M s (if c then t else u) := by split <;> assumption

theorem Keeps.ite1 {s : State} {α : Type} {p q : State × α} {c : Prop} [Decidable c] (h : Keeps M s p.1) (k : Keeps M s q.1) :
    Keeps M s (if c then p else q).1 := by split <;> assumption

theorem Keeps.foldl {s b : State} {β : Type} {f : State → β → State} (h : Keeps M s b) (hf : ∀ t x, Keeps M t (f t x))
    (l : List β) : Keeps M s (l.foldl f b) := by
  induction l generalizing b with
  | nil => exact h
  | cons x r ih => exact ih (h.trans (hf b x))

theorem Keeps.foldl1 {s : State} {α β : Type} {f : State × α → β → State × α} {b : State × α} (h : Keeps M s b.1)
    (hf : ∀ t x, Keeps M t.1 (f t x).1) (l : List β) : Keeps M s (l.foldl f b).1 := by
  induction l generalizing b with
  | nil => exact h
  | cons x r ih => exact ih (h.trans (hf b x))

theorem Keeps.mk1 {s a : State} {α : Type} {b : α} (h : Keeps M s a) : Keeps M s (a, b).1 := h

theorem Keeps.fst {s a : State} {α : Type} {p : State × α} {b : α} (e : p = (a, b)) (h : Keeps M s p.1) : Keeps M s a := by
  subst e; exact h

/-- Another memory. -/
theorem Keeps.mem (s : State) (m : Tab Byte) (h : Memory.wf s.mem = true → Memory.wf m = true) :
    Keeps 128 s { s with mem := m } := by
  refine ⟨?_, rfl⟩
  simp only [State.storesWf, State.rplWf, Bool.and_eq_true]
  exact fun w => ⟨⟨h w.1.1, w.1.2⟩, w.2⟩

/-- Another register file. -/
theorem Keeps.regs (s : State) (r : RegFile) (h : RegFile.wf s.regs = true → RegFile.wf r = true) :
    Keeps 64 s { s with regs := r } := by
  refine ⟨?_, rfl⟩
  simp only [State.storesWf, State.rplWf, Bool.and_eq_true]
  exact fun w => ⟨⟨w.1.1, h w.1.2⟩, w.2⟩

theorem wrMem_wf (bs : List Byte) : ∀ (m : Tab Byte) (a : Nat), Memory.wf m = true → Memory.wf (wrMem m a bs) = true := by
  induction bs with
  | nil => exact fun _ _ h => h
  | cons b r ih => exact fun m a h => ih _ _ (tabSet_wf m a b h)

theorem memDrop_wf (p : Nat → Bool) (m : Tab Byte) (h : Memory.wf m = true) : Memory.wf (memDrop p m) = true :=
  filter_wf _ m h

theorem State.setReg_keeps (s : State) (a : Nat) (w : Word) : Keeps 64 s (s.setReg a w) :=
  Keeps.regs s _ (tabSet_wf s.regs a w)

theorem State.wr8_keeps (s : State) (a : Nat) (b : Byte) : Keeps 128 s (s.wr8 a b) :=
  Keeps.mem s _ (tabSet_wf s.mem a b)

theorem State.wrB_keeps (s : State) (r o : Nat) (bs : List Byte) : Keeps 128 s (s.wrB r o bs) :=
  Keeps.mem s _ (wrMem_wf bs s.mem _)

/-- Another replay, whose registers are canonical where the stores are. -/
theorem Keeps.rpl (s : State) (d : DiaSt) (h : s.storesWf = true → ∀ r, d.rpl = some r → RegFile.wf r.regs = true) :
    Keeps 1073741824 s { s with dia := d } := by
  refine ⟨fun w => ?_, rfl⟩
  have hd := h w
  simp only [State.storesWf, State.rplWf, Bool.and_eq_true] at w ⊢
  refine ⟨w.1, ?_⟩
  cases e : d.rpl with
  | none => rfl
  | some r => exact hd r e

/-! ## Updates of the other parts -/

theorem Keeps.upd_out (k : 2 ||| M = M) {s b : State} (h : Keeps M s b) (x0 : List Out) :
    Keeps M s { b with out := x0 } :=
  h.trans (Keeps.of (m := 2) (Keeps.upd (Keeps.refl b) rfl rfl rfl rfl) k)

theorem Keeps.upd_free (k : 4 ||| M = M) {s b : State} (h : Keeps M s b) (x0 : Nat) :
    Keeps M s { b with free := x0 } :=
  h.trans (Keeps.of (m := 4) (Keeps.upd (Keeps.refl b) rfl rfl rfl rfl) k)

theorem Keeps.upd_pwr (k : 8 ||| M = M) {s b : State} (h : Keeps M s b) (x0 : PState) :
    Keeps M s { b with pwr := x0 } :=
  h.trans (Keeps.of (m := 8) (Keeps.upd (Keeps.refl b) rfl rfl rfl rfl) k)

theorem Keeps.upd_op (k : 16 ||| M = M) {s b : State} (h : Keeps M s b) (x0 : OpState) :
    Keeps M s { b with op := x0 } :=
  h.trans (Keeps.of (m := 16) (Keeps.upd (Keeps.refl b) rfl rfl rfl rfl) k)

theorem Keeps.upd_pwr_op (k : 24 ||| M = M) {s b : State} (h : Keeps M s b) (x0 : PState) (x1 : OpState) :
    Keeps M s { b with pwr := x0, op := x1 } :=
  h.trans (Keeps.of (m := 24) (Keeps.upd (Keeps.refl b) rfl rfl rfl rfl) k)

theorem Keeps.upd_op_role (k : 48 ||| M = M) {s b : State} (h : Keeps M s b) (x0 : OpState) (x1 : Role) :
    Keeps M s { b with op := x0, role := x1 } :=
  h.trans (Keeps.of (m := 48) (Keeps.upd (Keeps.refl b) rfl rfl rfl rfl) k)

theorem Keeps.upd_time (k : 256 ||| M = M) {s b : State} (h : Keeps M s b) (x0 : TimeSt) :
    Keeps M s { b with time := x0 } :=
  h.trans (Keeps.of (m := 256) (Keeps.upd (Keeps.refl b) rfl rfl rfl rfl) k)

theorem Keeps.upd_cfg (k : 512 ||| M = M) {s b : State} (h : Keeps M s b) (x0 : CfgSt) :
    Keeps M s { b with cfg := x0 } :=
  h.trans (Keeps.of (m := 512) (Keeps.upd (Keeps.refl b) rfl rfl rfl rfl) k)

theorem Keeps.upd_flash (k : 1024 ||| M = M) {s b : State} (h : Keeps M s b) (x0 : FlashSt) :
    Keeps M s { b with flash := x0 } :=
  h.trans (Keeps.of (m := 1024) (Keeps.upd (Keeps.refl b) rfl rfl rfl rfl) k)

theorem Keeps.upd_cfg_flash (k : 1536 ||| M = M) {s b : State} (h : Keeps M s b) (x0 : CfgSt) (x1 : FlashSt) :
    Keeps M s { b with cfg := x0, flash := x1 } :=
  h.trans (Keeps.of (m := 1536) (Keeps.upd (Keeps.refl b) rfl rfl rfl rfl) k)

theorem Keeps.upd_hif (k : 2048 ||| M = M) {s b : State} (h : Keeps M s b) (x0 : HifSt) :
    Keeps M s { b with hif := x0 } :=
  h.trans (Keeps.of (m := 2048) (Keeps.upd (Keeps.refl b) rfl rfl rfl rfl) k)

theorem Keeps.upd_op_hif (k : 2064 ||| M = M) {s b : State} (h : Keeps M s b) (x0 : OpState) (x1 : HifSt) :
    Keeps M s { b with op := x0, hif := x1 } :=
  h.trans (Keeps.of (m := 2064) (Keeps.upd (Keeps.refl b) rfl rfl rfl rfl) k)

theorem Keeps.upd_sys (k : 4096 ||| M = M) {s b : State} (h : Keeps M s b) (x0 : SysSt) :
    Keeps M s { b with sys := x0 } :=
  h.trans (Keeps.of (m := 4096) (Keeps.upd (Keeps.refl b) rfl rfl rfl rfl) k)

theorem Keeps.upd_d0 (k : 8192 ||| M = M) {s b : State} (h : Keeps M s b) (x0 : D0St) :
    Keeps M s { b with d0 := x0 } :=
  h.trans (Keeps.of (m := 8192) (Keeps.upd (Keeps.refl b) rfl rfl rfl rfl) k)

theorem Keeps.upd_sys_d0 (k : 12288 ||| M = M) {s b : State} (h : Keeps M s b) (x0 : SysSt) (x1 : D0St) :
    Keeps M s { b with sys := x0, d0 := x1 } :=
  h.trans (Keeps.of (m := 12288) (Keeps.upd (Keeps.refl b) rfl rfl rfl rfl) k)

theorem Keeps.upd_fch (k : 16384 ||| M = M) {s b : State} (h : Keeps M s b) (x0 : Tab FltCh) :
    Keeps M s { b with fch := x0 } :=
  h.trans (Keeps.of (m := 16384) (Keeps.upd (Keeps.refl b) rfl rfl rfl rfl) k)

theorem Keeps.upd_alarms (k : 32768 ||| M = M) {s b : State} (h : Keeps M s b) (x0 : List (Nat × Nat)) :
    Keeps M s { b with alarms := x0 } :=
  h.trans (Keeps.of (m := 32768) (Keeps.upd (Keeps.refl b) rfl rfl rfl rfl) k)

theorem Keeps.upd_diaF (k : 65536 ||| M = M) {s b : State} (h : Keeps M s b) (x0 : RegFile) :
    Keeps M s { b with diaF := x0 } :=
  h.trans (Keeps.of (m := 65536) (Keeps.upd (Keeps.refl b) rfl rfl rfl rfl) k)

theorem Keeps.upd_recd (k : 131072 ||| M = M) {s b : State} (h : Keeps M s b) (x0 : RecSt) :
    Keeps M s { b with recd := x0 } :=
  h.trans (Keeps.of (m := 131072) (Keeps.upd (Keeps.refl b) rfl rfl rfl rfl) k)

theorem Keeps.upd_ctx (k : 262144 ||| M = M) {s b : State} (h : Keeps M s b) (x0 : Tab Ctx) :
    Keeps M s { b with ctx := x0 } :=
  h.trans (Keeps.of (m := 262144) (Keeps.upd (Keeps.refl b) rfl rfl rfl rfl) k)

theorem Keeps.upd_retro (k : 524288 ||| M = M) {s b : State} (h : Keeps M s b) (x0 : List RetroS) :
    Keeps M s { b with retro := x0 } :=
  h.trans (Keeps.of (m := 524288) (Keeps.upd (Keeps.refl b) rfl rfl rfl rfl) k)

theorem Keeps.upd_fus (k : 1048576 ||| M = M) {s b : State} (h : Keeps M s b) (x0 : FusSt) :
    Keeps M s { b with fus := x0 } :=
  h.trans (Keeps.of (m := 1048576) (Keeps.upd (Keeps.refl b) rfl rfl rfl rfl) k)

theorem Keeps.upd_cex (k : 2097152 ||| M = M) {s b : State} (h : Keeps M s b) (x0 : CexSt) :
    Keeps M s { b with cex := x0 } :=
  h.trans (Keeps.of (m := 2097152) (Keeps.upd (Keeps.refl b) rfl rfl rfl rfl) k)

theorem Keeps.upd_fus_cex (k : 3145728 ||| M = M) {s b : State} (h : Keeps M s b) (x0 : FusSt) (x1 : CexSt) :
    Keeps M s { b with fus := x0, cex := x1 } :=
  h.trans (Keeps.of (m := 3145728) (Keeps.upd (Keeps.refl b) rfl rfl rfl rfl) k)

theorem Keeps.upd_cfg_fus_cex (k : 3146240 ||| M = M) {s b : State} (h : Keeps M s b) (x0 : CfgSt) (x1 : FusSt) (x2 : CexSt) :
    Keeps M s { b with cfg := x0, fus := x1, cex := x2 } :=
  h.trans (Keeps.of (m := 3146240) (Keeps.upd (Keeps.refl b) rfl rfl rfl rfl) k)

theorem Keeps.upd_ctx_fus_cex (k : 3407872 ||| M = M) {s b : State} (h : Keeps M s b) (x0 : Tab Ctx) (x1 : FusSt) (x2 : CexSt) :
    Keeps M s { b with ctx := x0, fus := x1, cex := x2 } :=
  h.trans (Keeps.of (m := 3407872) (Keeps.upd (Keeps.refl b) rfl rfl rfl rfl) k)

theorem Keeps.upd_slv (k : 4194304 ||| M = M) {s b : State} (h : Keeps M s b) (x0 : SlvSt) :
    Keeps M s { b with slv := x0 } :=
  h.trans (Keeps.of (m := 4194304) (Keeps.upd (Keeps.refl b) rfl rfl rfl rfl) k)

theorem Keeps.upd_net (k : 8388608 ||| M = M) {s b : State} (h : Keeps M s b) (x0 : NetSt) :
    Keeps M s { b with net := x0 } :=
  h.trans (Keeps.of (m := 8388608) (Keeps.upd (Keeps.refl b) rfl rfl rfl rfl) k)

theorem Keeps.upd_time_net (k : 8388864 ||| M = M) {s b : State} (h : Keeps M s b) (x0 : TimeSt) (x1 : NetSt) :
    Keeps M s { b with time := x0, net := x1 } :=
  h.trans (Keeps.of (m := 8388864) (Keeps.upd (Keeps.refl b) rfl rfl rfl rfl) k)

theorem Keeps.upd_red (k : 16777216 ||| M = M) {s b : State} (h : Keeps M s b) (x0 : RedSt) :
    Keeps M s { b with red := x0 } :=
  h.trans (Keeps.of (m := 16777216) (Keeps.upd (Keeps.refl b) rfl rfl rfl rfl) k)

theorem Keeps.upd_saf (k : 33554432 ||| M = M) {s b : State} (h : Keeps M s b) (x0 : SafSt) :
    Keeps M s { b with saf := x0 } :=
  h.trans (Keeps.of (m := 33554432) (Keeps.upd (Keeps.refl b) rfl rfl rfl rfl) k)

theorem Keeps.upd_d0_saf (k : 33562624 ||| M = M) {s b : State} (h : Keeps M s b) (x0 : D0St) (x1 : SafSt) :
    Keeps M s { b with d0 := x0, saf := x1 } :=
  h.trans (Keeps.of (m := 33562624) (Keeps.upd (Keeps.refl b) rfl rfl rfl rfl) k)

theorem Keeps.upd_gns (k : 67108864 ||| M = M) {s b : State} (h : Keeps M s b) (x0 : GnsSt) :
    Keeps M s { b with gns := x0 } :=
  h.trans (Keeps.of (m := 67108864) (Keeps.upd (Keeps.refl b) rfl rfl rfl rfl) k)

theorem Keeps.upd_cfg_net_red_saf_gns (k : 125829632 ||| M = M) {s b : State} (h : Keeps M s b) (x0 : CfgSt) (x1 : NetSt) (x2 : RedSt) (x3 : SafSt) (x4 : GnsSt) :
    Keeps M s { b with cfg := x0, net := x1, red := x2, saf := x3, gns := x4 } :=
  h.trans (Keeps.of (m := 125829632) (Keeps.upd (Keeps.refl b) rfl rfl rfl rfl) k)

theorem Keeps.upd_can (k : 134217728 ||| M = M) {s b : State} (h : Keeps M s b) (x0 : CanSt) :
    Keeps M s { b with can := x0 } :=
  h.trans (Keeps.of (m := 134217728) (Keeps.upd (Keeps.refl b) rfl rfl rfl rfl) k)

theorem Keeps.upd_sdf (k : 268435456 ||| M = M) {s b : State} (h : Keeps M s b) (x0 : SdfSt) :
    Keeps M s { b with sdf := x0 } :=
  h.trans (Keeps.of (m := 268435456) (Keeps.upd (Keeps.refl b) rfl rfl rfl rfl) k)

theorem Keeps.upd_pwr_sdf (k : 268435464 ||| M = M) {s b : State} (h : Keeps M s b) (x0 : PState) (x1 : SdfSt) :
    Keeps M s { b with pwr := x0, sdf := x1 } :=
  h.trans (Keeps.of (m := 268435464) (Keeps.upd (Keeps.refl b) rfl rfl rfl rfl) k)

theorem Keeps.upd_lgc (k : 536870912 ||| M = M) {s b : State} (h : Keeps M s b) (x0 : LgcSt) :
    Keeps M s { b with lgc := x0 } :=
  h.trans (Keeps.of (m := 536870912) (Keeps.upd (Keeps.refl b) rfl rfl rfl rfl) k)

theorem Keeps.upd_retro_fus_cex_slv_lgc (k : 544735232 ||| M = M) {s b : State} (h : Keeps M s b) (x0 : List RetroS) (x1 : FusSt) (x2 : CexSt) (x3 : SlvSt) (x4 : LgcSt) :
    Keeps M s { b with retro := x0, fus := x1, cex := x2, slv := x3, lgc := x4 } :=
  h.trans (Keeps.of (m := 544735232) (Keeps.upd (Keeps.refl b) rfl rfl rfl rfl) k)

theorem Keeps.upd_dia (k : 1073741824 ||| M = M) {s b : State} (h : Keeps M s b) (x0 : DiaSt) (hd : x0.rpl = b.dia.rpl) :
    Keeps M s { b with dia := x0 } :=
  h.trans (Keeps.of (m := 1073741824) (Keeps.upd (Keeps.refl b) rfl rfl hd rfl) k)

theorem Keeps.upd_pnl (k : 2147483648 ||| M = M) {s b : State} (h : Keeps M s b) (x0 : PnlSt) :
    Keeps M s { b with pnl := x0 } :=
  h.trans (Keeps.of (m := 2147483648) (Keeps.upd (Keeps.refl b) rfl rfl rfl rfl) k)

theorem Keeps.upd_yd (k : 4294967296 ||| M = M) {s b : State} (h : Keeps M s b) (x0 : YdSt) :
    Keeps M s { b with yd := x0 } :=
  h.trans (Keeps.of (m := 4294967296) (Keeps.upd (Keeps.refl b) rfl rfl rfl rfl) k)

end Sys2Proof.Machine
end

