-- ==== Sys2Proof/Laws/Frames.lean ====
section
/-!
SUPPORT. What `Same` says of each part of the state: one lemma per part.
-/

namespace Sys2Proof.Machine

variable {m : Nat} {s t : State}

theorem Same.pending (h : Same m s t) : t.pending = s.pending := by
  have e := congrArg State.pending h
  exact e

theorem Same.out (h : Same m s t) (k : m.testBit 1 = false) : t.out = s.out := by
  have e := congrArg State.out h
  simpa only [State.frame, k, Bool.false_eq_true, if_false] using e

theorem Same.free (h : Same m s t) (k : m.testBit 2 = false) : t.free = s.free := by
  have e := congrArg State.free h
  simpa only [State.frame, k, Bool.false_eq_true, if_false] using e

theorem Same.pwr (h : Same m s t) (k : m.testBit 3 = false) : t.pwr = s.pwr := by
  have e := congrArg State.pwr h
  simpa only [State.frame, k, Bool.false_eq_true, if_false] using e

theorem Same.op (h : Same m s t) (k : m.testBit 4 = false) : t.op = s.op := by
  have e := congrArg State.op h
  simpa only [State.frame, k, Bool.false_eq_true, if_false] using e

theorem Same.role (h : Same m s t) (k : m.testBit 5 = false) : t.role = s.role := by
  have e := congrArg State.role h
  simpa only [State.frame, k, Bool.false_eq_true, if_false] using e

theorem Same.regs (h : Same m s t) (k : m.testBit 6 = false) : t.regs = s.regs := by
  have e := congrArg State.regs h
  simpa only [State.frame, k, Bool.false_eq_true, if_false] using e

theorem Same.mem (h : Same m s t) (k : m.testBit 7 = false) : t.mem = s.mem := by
  have e := congrArg State.mem h
  simpa only [State.frame, k, Bool.false_eq_true, if_false] using e

theorem Same.time (h : Same m s t) (k : m.testBit 8 = false) : t.time = s.time := by
  have e := congrArg State.time h
  simpa only [State.frame, k, Bool.false_eq_true, if_false] using e

theorem Same.cfg (h : Same m s t) (k : m.testBit 9 = false) : t.cfg = s.cfg := by
  have e := congrArg State.cfg h
  simpa only [State.frame, k, Bool.false_eq_true, if_false] using e

theorem Same.flash (h : Same m s t) (k : m.testBit 10 = false) : t.flash = s.flash := by
  have e := congrArg State.flash h
  simpa only [State.frame, k, Bool.false_eq_true, if_false] using e

theorem Same.hif (h : Same m s t) (k : m.testBit 11 = false) : t.hif = s.hif := by
  have e := congrArg State.hif h
  simpa only [State.frame, k, Bool.false_eq_true, if_false] using e

theorem Same.sys (h : Same m s t) (k : m.testBit 12 = false) : t.sys = s.sys := by
  have e := congrArg State.sys h
  simpa only [State.frame, k, Bool.false_eq_true, if_false] using e

theorem Same.d0 (h : Same m s t) (k : m.testBit 13 = false) : t.d0 = s.d0 := by
  have e := congrArg State.d0 h
  simpa only [State.frame, k, Bool.false_eq_true, if_false] using e

theorem Same.fch (h : Same m s t) (k : m.testBit 14 = false) : t.fch = s.fch := by
  have e := congrArg State.fch h
  simpa only [State.frame, k, Bool.false_eq_true, if_false] using e

theorem Same.alarms (h : Same m s t) (k : m.testBit 15 = false) : t.alarms = s.alarms := by
  have e := congrArg State.alarms h
  simpa only [State.frame, k, Bool.false_eq_true, if_false] using e

theorem Same.diaF (h : Same m s t) (k : m.testBit 16 = false) : t.diaF = s.diaF := by
  have e := congrArg State.diaF h
  simpa only [State.frame, k, Bool.false_eq_true, if_false] using e

theorem Same.recd (h : Same m s t) (k : m.testBit 17 = false) : t.recd = s.recd := by
  have e := congrArg State.recd h
  simpa only [State.frame, k, Bool.false_eq_true, if_false] using e

theorem Same.ctx (h : Same m s t) (k : m.testBit 18 = false) : t.ctx = s.ctx := by
  have e := congrArg State.ctx h
  simpa only [State.frame, k, Bool.false_eq_true, if_false] using e

theorem Same.retro (h : Same m s t) (k : m.testBit 19 = false) : t.retro = s.retro := by
  have e := congrArg State.retro h
  simpa only [State.frame, k, Bool.false_eq_true, if_false] using e

theorem Same.fus (h : Same m s t) (k : m.testBit 20 = false) : t.fus = s.fus := by
  have e := congrArg State.fus h
  simpa only [State.frame, k, Bool.false_eq_true, if_false] using e

theorem Same.cex (h : Same m s t) (k : m.testBit 21 = false) : t.cex = s.cex := by
  have e := congrArg State.cex h
  simpa only [State.frame, k, Bool.false_eq_true, if_false] using e

theorem Same.slv (h : Same m s t) (k : m.testBit 22 = false) : t.slv = s.slv := by
  have e := congrArg State.slv h
  simpa only [State.frame, k, Bool.false_eq_true, if_false] using e

theorem Same.net (h : Same m s t) (k : m.testBit 23 = false) : t.net = s.net := by
  have e := congrArg State.net h
  simpa only [State.frame, k, Bool.false_eq_true, if_false] using e

theorem Same.red (h : Same m s t) (k : m.testBit 24 = false) : t.red = s.red := by
  have e := congrArg State.red h
  simpa only [State.frame, k, Bool.false_eq_true, if_false] using e

theorem Same.saf (h : Same m s t) (k : m.testBit 25 = false) : t.saf = s.saf := by
  have e := congrArg State.saf h
  simpa only [State.frame, k, Bool.false_eq_true, if_false] using e

theorem Same.gns (h : Same m s t) (k : m.testBit 26 = false) : t.gns = s.gns := by
  have e := congrArg State.gns h
  simpa only [State.frame, k, Bool.false_eq_true, if_false] using e

theorem Same.can (h : Same m s t) (k : m.testBit 27 = false) : t.can = s.can := by
  have e := congrArg State.can h
  simpa only [State.frame, k, Bool.false_eq_true, if_false] using e

theorem Same.sdf (h : Same m s t) (k : m.testBit 28 = false) : t.sdf = s.sdf := by
  have e := congrArg State.sdf h
  simpa only [State.frame, k, Bool.false_eq_true, if_false] using e

theorem Same.lgc (h : Same m s t) (k : m.testBit 29 = false) : t.lgc = s.lgc := by
  have e := congrArg State.lgc h
  simpa only [State.frame, k, Bool.false_eq_true, if_false] using e

theorem Same.dia (h : Same m s t) (k : m.testBit 30 = false) : t.dia = s.dia := by
  have e := congrArg State.dia h
  simpa only [State.frame, k, Bool.false_eq_true, if_false] using e

theorem Same.pnl (h : Same m s t) (k : m.testBit 31 = false) : t.pnl = s.pnl := by
  have e := congrArg State.pnl h
  simpa only [State.frame, k, Bool.false_eq_true, if_false] using e

theorem Same.yd (h : Same m s t) (k : m.testBit 32 = false) : t.yd = s.yd := by
  have e := congrArg State.yd h
  simpa only [State.frame, k, Bool.false_eq_true, if_false] using e

/-- A register where the register file is the same. -/
theorem Same.fget (h : Same m s t) (k : m.testBit 6 = false) (f : Fld) : t.fget f = s.fget f := by
  unfold State.fget State.reg; rw [h.regs k]

theorem State.wf_regs (h : s.storesWf = true) : tabWf regReset s.regs = true := by
  simp only [State.storesWf, Bool.and_eq_true] at h; exact h.1.2

theorem State.wf_mem (h : s.storesWf = true) : tabWf memDflt s.mem = true := by
  simp only [State.storesWf, Bool.and_eq_true] at h; exact h.1.1

end Sys2Proof.Machine
end

