-- ==== Sys2Proof/Laws/Keeps1.lean ====
section
/-!
SUPPORT. Operations keep what `Keeps` says, callees before callers: part 1 of 10.
-/

namespace Sys2Proof.Machine

theorem State.fset_keeps (s v1 v2) : Keeps 64 s (State.fset s v1 v2) := by
  unfold State.fset
  exact Keeps.of (State.setReg_keeps _ _ _) rfl

theorem State.armExpire_keeps (s) : Keeps 64 s (State.armExpire s) := by
  unfold State.armExpire
  extract_lets +onlyGivenNames y0
  clear_value y0
  exact Keeps.of (State.fset_keeps _ _ _) rfl

theorem State.advance_keeps (s v1) : Keeps 4352 s (State.advance s v1) := by
  unfold State.advance
  extract_lets +onlyGivenNames y0
  clear_value y0
  extract_lets +onlyGivenNames y1
  have h2 : Keeps 4352 s y1 := by unfold y1; exact Keeps.upd_sys rfl (Keeps.refl _) _
  clear_value y1
  refine Keeps.ite ?_ ?_
  next => refine Keeps.upd_time rfl (b := y1) ?_ _; exact h2
  next => exact h2

theorem State.timed_keeps {M : Nat} (hM : 4352 ||| M = M) (s v1 v2 v3) (hv3 : ∀ x0, Keeps M x0 (v3 x0)) : Keeps M s (State.timed s v1 v2 v3) := by
  unfold State.timed
  extract_lets +onlyGivenNames y0
  have h1 : Keeps M s y0 := by unfold y0; exact Keeps.of (State.advance_keeps _ _) (mask_trans (o := 4352) rfl hM)
  clear_value y0
  refine Keeps.ite ?_ ?_
  next => refine Keeps.trans ?_ (hv3 _); exact h1
  next => exact h1

theorem State.native_keeps {M : Nat} (hM : 4352 ||| M = M) (s v1 v2 v3) (hv3 : ∀ x0, Keeps M x0 (v3 x0)) : Keeps M s (State.native s v1 v2 v3) := by
  unfold State.native
  refine State.timed_keeps (mask_trans rfl hM) _ _ _ _ ?_
  intro t0
  refine Keeps.trans ?_ (hv3 _)
  exact Keeps.refl _

theorem State.fwrap_keeps (s v1) : Keeps 64 s (State.fwrap s v1) := by
  unfold State.fwrap
  exact Keeps.of (State.fset_keeps _ _ _) rfl

theorem State.fup_keeps (s v1) : Keeps 64 s (State.fup s v1) := by
  unfold State.fup
  exact Keeps.of (State.fset_keeps _ _ _) rfl

theorem State.send_keeps (s v1 v2) : Keeps 2 s (State.send s v1 v2) := by
  unfold State.send
  exact Keeps.upd_out rfl (Keeps.refl _) _

theorem State.intr_keeps (s v1) : Keeps 66 s (State.intr s v1) := by
  unfold State.intr
  extract_lets +onlyGivenNames y0
  clear_value y0
  extract_lets +onlyGivenNames y1
  have h2 : Keeps 66 s y1 := by
    unfold y1
    exact Keeps.of (State.fup_keeps _ _) rfl
  clear_value y1
  refine Keeps.ite ?_ ?_
  next =>
    exact h2
  next =>
    refine Keeps.ite ?_ ?_
    next =>
      refine Keeps.trans ?_ (Keeps.of (State.send_keeps _ _ _) rfl)
      exact h2
    next =>
      exact h2

theorem State.fcount_keeps (s v1 v2) : Keeps 64 s (State.fcount s v1 v2) := by
  unfold State.fcount
  exact Keeps.of (State.fset_keeps _ _ _) rfl

theorem State.stage_keeps (s v1 v2 v3) : Keeps 131136 s (State.stage s v1 v2 v3) := by
  unfold State.stage
  refine Keeps.ite ?_ ?_
  next => exact Keeps.refl _
  next =>
    extract_lets +onlyGivenNames y0
    clear_value y0
    refine Keeps.ite ?_ ?_
    next =>
      extract_lets +onlyGivenNames y1
      have h2 : Keeps 131136 s y1 := by unfold y1; exact Keeps.of (State.fcount_keeps _ _ _) rfl
      clear_value y1
      refine Keeps.upd_recd rfl (b := y1) ?_ _
      exact h2
    next =>
      extract_lets +onlyGivenNames y3
      clear_value y3
      extract_lets +onlyGivenNames y4
      clear_value y4
      refine Keeps.trans ?_ (Keeps.of (State.fset_keeps _ _ _) rfl)
      exact Keeps.upd_recd rfl (Keeps.refl _) _

theorem State.evtPut_keeps (s v1) : Keeps 133314 s (State.evtPut s v1) := by
  unfold State.evtPut
  extract_lets +onlyGivenNames y0
  clear_value y0
  extract_lets +onlyGivenNames y1
  have h2 : Keeps 133314 s y1 := by unfold y1; exact Keeps.of (State.wrB_keeps _ _ _ _) rfl
  clear_value y1
  extract_lets +onlyGivenNames y3
  have h4 : Keeps 133314 s y3 := by unfold y3; refine Keeps.trans ?_ (Keeps.of (State.fwrap_keeps _ _) rfl); exact h2
  clear_value y3
  extract_lets +onlyGivenNames y5
  clear_value y5
  extract_lets +onlyGivenNames y6
  have h7 : Keeps 133314 s y6 := by unfold y6; refine Keeps.upd_hif rfl (b := y3) ?_ _; exact h4
  clear_value y6
  extract_lets +onlyGivenNames y8
  have h9 : Keeps 133314 s y8 := by unfold y8; refine Keeps.trans ?_ (Keeps.of (State.intr_keeps _ _) rfl); exact h7
  clear_value y8
  refine Keeps.ite ?_ ?_
  next => refine Keeps.trans ?_ (Keeps.of (State.stage_keeps _ _ _ _) rfl); exact h9
  next => exact h9

theorem State.finc_keeps (s v1) : Keeps 64 s (State.finc s v1) := by
  unfold State.finc
  exact Keeps.of (State.fset_keeps _ _ _) rfl

theorem State.evtOut_keeps (s v1) : Keeps 133314 s (State.evtOut s v1) := by
  unfold State.evtOut
  refine Keeps.ite ?_ ?_
  next => exact Keeps.upd_hif rfl (Keeps.refl _) _
  next =>
    refine Keeps.ite ?_ ?_
    next =>
      extract_lets +onlyGivenNames y0
      have h1 : Keeps 133314 s y0 := by unfold y0; exact Keeps.of (State.finc_keeps _ _) rfl
      clear_value y0
      refine Keeps.upd_hif rfl (b := y0) ?_ _
      exact h1
    next => exact Keeps.of (State.evtPut_keeps _ _) rfl

theorem State.event_keeps (s v1 v2 v3 v4) : Keeps 133314 s (State.event s v1 v2 v3 v4) := by
  unfold State.event
  refine Keeps.ite ?_ ?_
  next => exact Keeps.refl _
  next => exact Keeps.of (State.evtOut_keeps _ _) rfl

theorem State.clearAlarmD_keeps (s v1 v2 v3 v4) : Keeps 166082 s (State.clearAlarmD s v1 v2 v3 v4) := by
  unfold State.clearAlarmD
  refine Keeps.ite ?_ ?_
  next =>
    refine Keeps.trans ?_ (Keeps.of (State.event_keeps _ _ _ _ _) rfl)
    exact Keeps.upd_alarms rfl (Keeps.refl _) _
  next => exact Keeps.refl _

theorem State.gnsMod_keeps (s v1) : Keeps 67108864 s (State.gnsMod s v1) := by
  unfold State.gnsMod
  exact Keeps.upd_gns rfl (Keeps.refl _) _

theorem State.pnlMod_keeps (s v1) : Keeps 2147483648 s (State.pnlMod s v1) := by
  unfold State.pnlMod
  exact Keeps.upd_pnl rfl (Keeps.refl _) _

theorem State.podPut_keeps (s v1 v2) : Keeps 2147483648 s (State.podPut s v1 v2) := by
  unfold State.podPut
  exact Keeps.of (State.pnlMod_keeps _ _) rfl

theorem State.fput_keeps (s v1 v2) : Keeps 64 s (State.fput s v1 v2) := by
  unfold State.fput
  exact Keeps.of (State.fset_keeps _ _ _) rfl

theorem State.showPnl_keeps (s) : Keeps 64 s (State.showPnl s) := by
  unfold State.showPnl
  extract_lets +onlyGivenNames y0
  have h1 : Keeps 64 s y0 := by
    unfold y0
    refine Keeps.trans ?_ (Keeps.of (State.fset_keeps _ _ _) rfl)
    refine Keeps.trans ?_ (Keeps.of (State.fset_keeps _ _ _) rfl)
    exact Keeps.of (State.fset_keeps _ _ _) rfl
  clear_value y0
  extract_lets +onlyGivenNames y2
  clear_value y2
  refine Keeps.trans ?_ (Keeps.of (State.fput_keeps _ _ _) rfl)
  refine Keeps.trans ?_ (Keeps.of (State.fput_keeps _ _ _) rfl)
  refine Keeps.trans ?_ (Keeps.of (State.fput_keeps _ _ _) rfl)
  refine Keeps.trans ?_ (Keeps.of (State.fput_keeps _ _ _) rfl)
  refine Keeps.trans ?_ (Keeps.of (State.fput_keeps _ _ _) rfl)
  refine Keeps.trans ?_ (Keeps.of (State.fput_keeps _ _ _) rfl)
  refine Keeps.trans ?_ (Keeps.of (State.fset_keeps _ _ _) rfl)
  exact h1

theorem State.pnlStop_keeps (s) : Keeps 2147483712 s (State.pnlStop s) := by
  unfold State.pnlStop
  extract_lets +onlyGivenNames y0
  have h1 : Keeps 2147483712 s y0 := by
    unfold y0
    refine Keeps.foldl ?_ ?_ _
    next => exact Keeps.refl _
    next =>
      intro t2 x3
      extract_lets +onlyGivenNames y4
      clear_value y4
      split
      next => rename_i z5 z6; exact Keeps.refl _
      next =>
        rename_i z7 z8 z9
        extract_lets +onlyGivenNames y10
        have h11 : Keeps 2147483712 t2 y10 := by
          unfold y10
          refine Keeps.trans ?_ (Keeps.of (State.finc_keeps _ _) rfl)
          exact Keeps.of (State.podPut_keeps _ _ _) rfl
        clear_value y10
        refine Keeps.trans ?_ (Keeps.of (State.pnlMod_keeps _ _) rfl)
        exact h11
  clear_value y0
  refine Keeps.trans ?_ (Keeps.of (State.showPnl_keeps _) rfl)
  refine Keeps.trans ?_ (Keeps.of (State.pnlMod_keeps _ _) rfl)
  exact h1

theorem State.poisonDrop_keeps (s v1) : Keeps 1073741824 s (State.poisonDrop s v1) := by
  unfold State.poisonDrop
  refine Keeps.upd_dia rfl ?_ _ rfl
  exact Keeps.refl _

theorem State.ctxPut_keeps (s v1 v2) : Keeps 262208 s (State.ctxPut s v1 v2) := by
  unfold State.ctxPut
  extract_lets +onlyGivenNames y0
  have h1 : Keeps 262208 s y0 := by unfold y0; exact Keeps.upd_ctx rfl (Keeps.refl _) _
  clear_value y0
  extract_lets +onlyGivenNames y2
  have h3 : Keeps 262208 s y2 := by
    unfold y2
    refine Keeps.trans ?_ (Keeps.of (State.fset_keeps _ _ _) rfl)
    refine Keeps.trans ?_ (Keeps.of (State.fset_keeps _ _ _) rfl)
    exact h1
  clear_value y2
  refine Keeps.trans ?_ (Keeps.of (State.fset_keeps _ _ _) rfl)
  refine Keeps.trans ?_ (Keeps.of (State.fset_keeps _ _ _) rfl)
  exact h3

theorem State.ctxEnable_keeps (s v1) : Keeps 262208 s (State.ctxEnable s v1) := by
  unfold State.ctxEnable
  extract_lets +onlyGivenNames y0
  clear_value y0
  exact Keeps.of (State.ctxPut_keeps _ _ _) rfl

theorem State.runtimeLost_keeps (s) : Keeps 544997440 s (State.runtimeLost s) := by
  unfold State.runtimeLost
  extract_lets +onlyGivenNames y0
  clear_value y0
  extract_lets +onlyGivenNames y1
  clear_value y1
  extract_lets +onlyGivenNames y2
  clear_value y2
  extract_lets +onlyGivenNames y3
  clear_value y3
  extract_lets +onlyGivenNames y4
  clear_value y4
  extract_lets +onlyGivenNames y5
  have h6 : Keeps 544997440 s y5 := by
    unfold y5
    refine Keeps.upd_retro_fus_cex_slv_lgc rfl ?_ _ _ _ _ _
    exact Keeps.refl _
  clear_value y5
  refine Keeps.foldl ?_ ?_ _
  next =>
    refine Keeps.upd_ctx rfl (b := y5) ?_ _
    exact h6
  next =>
    intro t7 x8
    refine Keeps.ite ?_ ?_
    next =>
      exact Keeps.of (State.ctxEnable_keeps _ _) rfl
    next =>
      exact Keeps.refl _

theorem State.safMod_keeps (s v1) : Keeps 33554432 s (State.safMod s v1) := by
  unfold State.safMod
  exact Keeps.upd_saf rfl (Keeps.refl _) _

theorem State.sdfPut_keeps (s v1 v2) : Keeps 268435456 s (State.sdfPut s v1 v2) := by
  unfold State.sdfPut
  exact Keeps.upd_sdf rfl (Keeps.refl _) _

theorem State.showSaf_keeps (s) : Keeps 64 s (State.showSaf s) := by
  unfold State.showSaf
  refine Keeps.trans ?_ (Keeps.of (State.fset_keeps _ _ _) rfl)
  exact Keeps.of (State.fset_keeps _ _ _) rfl

theorem State.sysMod_keeps (s v1) : Keeps 4096 s (State.sysMod s v1) := by
  unfold State.sysMod
  exact Keeps.upd_sys rfl (Keeps.refl _) _

theorem State.clearAlarm_keeps (s v1 v2 v3) : Keeps 166082 s (State.clearAlarm s v1 v2 v3) := by
  unfold State.clearAlarm
  refine Keeps.ite ?_ ?_
  next =>
    refine Keeps.trans ?_ (Keeps.of (State.event_keeps _ _ _ _ _) rfl)
    exact Keeps.upd_alarms rfl (Keeps.refl _) _
  next => exact Keeps.refl _

theorem State.ppsFold_keeps (s) : Keeps 67108864 s (State.ppsFold s) := by
  unfold State.ppsFold
  extract_lets +onlyGivenNames y0
  clear_value y0
  exact Keeps.of (State.gnsMod_keeps _ _) rfl

theorem State.setTp_keeps (s v1) : Keeps 64 s (State.setTp s v1) := by
  unfold State.setTp
  exact Keeps.of (State.fset_keeps _ _ _) rfl

theorem State.showTrack_keeps (s) : Keeps 64 s (State.showTrack s) := by
  unfold State.showTrack
  refine Keeps.trans ?_ (Keeps.of (State.fset_keeps _ _ _) rfl)
  exact Keeps.of (State.fset_keeps _ _ _) rfl

theorem State.tpRecord_keeps (s v1 v2 v3) : Keeps 67242178 s (State.tpRecord s v1 v2 v3) := by
  unfold State.tpRecord
  extract_lets +onlyGivenNames y0
  clear_value y0
  split
  extract_lets +onlyGivenNames y1
  clear_value y1
  extract_lets +onlyGivenNames y2
  clear_value y2
  extract_lets +onlyGivenNames y3
  clear_value y3
  split
  extract_lets +onlyGivenNames y4
  clear_value y4
  extract_lets +onlyGivenNames y5
  clear_value y5
  extract_lets +onlyGivenNames y6
  have h7 : Keeps 67242178 s y6 := by
    unfold y6
    refine Keeps.trans ?_ (Keeps.of (State.fset_keeps _ _ _) rfl)
    exact Keeps.of (State.wrB_keeps _ _ _ _) rfl
  clear_value y6
  extract_lets +onlyGivenNames y8
  have h9 : Keeps 67242178 s y8 := by
    unfold y8
    refine Keeps.trans ?_ (Keeps.of (State.gnsMod_keeps _ _) rfl)
    exact h7
  clear_value y8
  extract_lets +onlyGivenNames y10
  have h11 : Keeps 67242178 s y10 := by
    unfold y10
    refine Keeps.ite ?_ ?_
    next =>
      refine Keeps.trans ?_ (Keeps.of (State.fset_keeps _ _ _) rfl)
      exact h9
    next =>
      exact h9
  clear_value y10
  refine Keeps.trans ?_ (Keeps.of (State.event_keeps _ _ _ _ _) rfl)
  exact h11

theorem State.tpRevise_keeps (s v1) : Keeps 67242178 s (State.tpRevise s v1) := by
  unfold State.tpRevise
  split
  next =>
    exact Keeps.of (State.tpRecord_keeps _ _ _ _) rfl
  next =>
    exact Keeps.refl _

theorem State.tpCheck_keeps (s) : Keeps 67274946 s (State.tpCheck s) := by
  unfold State.tpCheck
  extract_lets +onlyGivenNames y0
  clear_value y0
  refine Keeps.ite ?_ ?_
  next =>
    extract_lets +onlyGivenNames y1
    clear_value y1
    extract_lets +onlyGivenNames y2
    have h3 : Keeps 67274946 s y2 := by
      unfold y2
      refine Keeps.foldl ?_ ?_ _
      next =>
        refine Keeps.trans ?_ (Keeps.of (State.setTp_keeps _ _) rfl)
        exact Keeps.of (State.ppsFold_keeps _) rfl
      next =>
        intro t4 x5
        exact Keeps.of (State.tpRevise_keeps _ _) rfl
    clear_value y2
    extract_lets +onlyGivenNames y6
    have h7 : Keeps 67274946 s y6 := by
      unfold y6
      refine Keeps.trans ?_ (Keeps.of (State.fset_keeps _ _ _) rfl)
      refine Keeps.trans ?_ (Keeps.of (State.fset_keeps _ _ _) rfl)
      refine Keeps.trans ?_ (Keeps.of (State.fset_keeps _ _ _) rfl)
      refine Keeps.trans ?_ (Keeps.of (State.fset_keeps _ _ _) rfl)
      exact h3
    clear_value y6
    refine Keeps.trans ?_ (Keeps.of (State.clearAlarm_keeps _ _ _ _) rfl)
    refine Keeps.trans ?_ (Keeps.of (State.showTrack_keeps _) rfl)
    refine Keeps.trans ?_ (Keeps.of (State.gnsMod_keeps _ _) rfl)
    exact h7
  next =>
    refine Keeps.ite ?_ ?_
    next =>
      refine Keeps.trans ?_ (Keeps.of (State.gnsMod_keeps _ _) rfl)
      exact Keeps.of (State.setTp_keeps _ _) rfl
    next =>
      exact Keeps.refl _

theorem State.harbourEnter_keeps (s) : Keeps 4135491786 s (State.harbourEnter s) := by
  unfold State.harbourEnter
  extract_lets +onlyGivenNames y0
  have h1 : Keeps 4135491786 s y0 := by
    unfold y0
    refine Keeps.trans ?_ (Keeps.of (State.runtimeLost_keeps _) rfl)
    refine Keeps.trans ?_ (Keeps.of (State.poisonDrop_keeps _ _) rfl)
    refine Keeps.trans ?_ (Keeps.of (State.poisonDrop_keeps _ _) rfl)
    exact Keeps.of (State.pnlStop_keeps _) rfl
  clear_value y0
  extract_lets +onlyGivenNames y2
  have h3 : Keeps 4135491786 s y2 := by
    unfold y2
    refine Keeps.foldl ?_ ?_ _
    next =>
      exact h1
    next =>
      intro t4 x5
      refine Keeps.trans ?_ (Keeps.of (State.fset_keeps _ _ _) rfl)
      exact Keeps.of (State.sdfPut_keeps _ _ _) rfl
  clear_value y2
  extract_lets +onlyGivenNames y6
  clear_value y6
  extract_lets +onlyGivenNames y7
  have h8 : Keeps 4135491786 s y7 := by
    unfold y7
    refine Keeps.trans ?_ (Keeps.of (State.sysMod_keeps _ _) rfl)
    refine Keeps.upd_pwr_sdf rfl (b := y2) ?_ _ _
    exact h3
  clear_value y7
  extract_lets +onlyGivenNames y9
  have h10 : Keeps 4135491786 s y9 := by
    unfold y9
    refine Keeps.trans ?_ (Keeps.of (State.tpCheck_keeps _) rfl)
    refine Keeps.trans ?_ (Keeps.of (State.clearAlarmD_keeps _ _ _ _ _) rfl)
    refine Keeps.trans ?_ (Keeps.of (State.fset_keeps _ _ _) rfl)
    exact h8
  clear_value y9
  refine Keeps.trans ?_ (Keeps.of (State.showSaf_keeps _) rfl)
  refine Keeps.trans ?_ (Keeps.of (State.safMod_keeps _ _) rfl)
  refine Keeps.trans ?_ (Keeps.of (State.gnsMod_keeps _ _) rfl)
  exact h10

theorem State.safClose_keeps (s) : Keeps 576 s (State.safClose s) := by
  unfold State.safClose
  refine Keeps.trans ?_ (Keeps.of (State.fset_keeps _ _ _) rfl)
  exact Keeps.upd_cfg rfl (Keeps.refl _) _

theorem State.closeSess_keeps (s) : Keeps 576 s (State.closeSess s) := by
  unfold State.closeSess
  extract_lets +onlyGivenNames y0
  have h1 : Keeps 576 s y0 := by unfold y0; exact Keeps.of (State.safClose_keeps _) rfl
  clear_value y0
  refine Keeps.upd_cfg rfl (b := y0) ?_ _
  exact h1

theorem State.lgcMod_keeps (s v1) : Keeps 536870912 s (State.lgcMod s v1) := by
  unfold State.lgcMod
  exact Keeps.upd_lgc rfl (Keeps.refl _) _

theorem State.lgcIdle_keeps (s) : Keeps 536870912 s (State.lgcIdle s) := by
  unfold State.lgcIdle
  exact Keeps.of (State.lgcMod_keeps _ _) rfl

theorem State.ptHold_keeps (s) : Keeps 128 s (State.ptHold s) := by
  unfold State.ptHold
  refine Keeps.foldl ?_ ?_ _
  next => exact Keeps.refl _
  next =>
    intro t0 x1
    refine Keeps.foldl ?_ ?_ _
    next => exact Keeps.refl _
    next => intro t2 x3; exact Keeps.of (State.wrB_keeps _ _ _ _) rfl

theorem State.setLg_keeps (s v1) : Keeps 133314 s (State.setLg s v1) := by
  unfold State.setLg
  refine Keeps.ite ?_ ?_
  next =>
    exact Keeps.refl _
  next =>
    refine Keeps.trans ?_ (Keeps.of (State.event_keeps _ _ _ _ _) rfl)
    exact Keeps.of (State.fset_keeps _ _ _) rfl

theorem State.lgcStopped_keeps (s) : Keeps 537004226 s (State.lgcStopped s) := by
  unfold State.lgcStopped
  refine Keeps.trans ?_ (Keeps.of (State.setLg_keeps _ _) rfl)
  refine Keeps.trans ?_ (Keeps.of (State.ptHold_keeps _) rfl)
  exact Keeps.of (State.lgcIdle_keeps _) rfl

theorem State.tick1_keeps (s) : Keeps 4 s (State.tick1 s) := by
  unfold State.tick1
  exact Keeps.upd_free rfl (Keeps.refl _) _

theorem State.flashTry_keeps (s) : Keeps 4 s (State.flashTry s).1 := by
  unfold State.flashTry
  dsimp only
  exact Keeps.of (State.tick1_keeps _) rfl

theorem State.recErase_keeps (s v1) : Keeps 128 s (State.recErase s v1) := Keeps.of (Keeps.mem s _ (filter_wf _ s.mem)) rfl

theorem State.recMod_keeps (s v1) : Keeps 131072 s (State.recMod s v1) := by
  unfold State.recMod
  exact Keeps.upd_recd rfl (Keeps.refl _) _

theorem State.showRec_keeps (s) : Keeps 64 s (State.showRec s) := by
  unfold State.showRec
  refine Keeps.trans ?_ (Keeps.of (State.fset_keeps _ _ _) rfl)
  refine Keeps.trans ?_ (Keeps.of (State.fset_keeps _ _ _) rfl)
  exact Keeps.of (State.fset_keeps _ _ _) rfl

theorem State.recTook_keeps (s v1) : Keeps 131136 s (State.recTook s v1) := by
  unfold State.recTook
  extract_lets +onlyGivenNames y0
  have h1 : Keeps 131136 s y0 := by
    unfold y0
    refine Keeps.trans ?_ (Keeps.of (State.showRec_keeps _) rfl)
    exact Keeps.of (State.recMod_keeps _ _) rfl
  clear_value y0
  refine Keeps.ite ?_ ?_
  next =>
    extract_lets +onlyGivenNames y2
    clear_value y2
    refine Keeps.trans ?_ (Keeps.of (State.fup_keeps _ _) rfl)
    refine Keeps.trans ?_ (Keeps.of (State.stage_keeps _ _ _ _) rfl)
    refine Keeps.trans ?_ (Keeps.of (State.recMod_keeps _ _) rfl)
    exact h1
  next => exact h1

theorem State.recFlash_keeps (s v1) : Keeps 131268 s (State.recFlash s v1) := by
  unfold State.recFlash
  split
  rename_i z0 z1 z2 z3
  have k4 : Keeps 131268 s z1 := by refine Keeps.fst z3 ?_; exact Keeps.of (State.flashTry_keeps _) rfl
  refine Keeps.ite ?_ ?_
  next => exact k4
  next =>
    extract_lets +onlyGivenNames y5
    clear_value y5
    extract_lets +onlyGivenNames y6
    have h7 : Keeps 131268 s y6 := by
      unfold y6
      refine Keeps.ite ?_ ?_
      next => refine Keeps.trans ?_ (Keeps.of (State.recErase_keeps _ _) rfl); exact k4
      next => exact k4
    clear_value y6
    refine Keeps.trans ?_ (Keeps.of (State.recTook_keeps _ _) rfl)
    refine Keeps.trans ?_ (Keeps.of (State.recMod_keeps _ _) rfl)
    refine Keeps.trans ?_ (Keeps.of (State.wrB_keeps _ _ _ _) rfl)
    exact h7

theorem State.recSend_keeps (s v1 v2) : Keeps 131138 s (State.recSend s v1 v2) := by
  unfold State.recSend
  extract_lets +onlyGivenNames y0
  clear_value y0
  extract_lets +onlyGivenNames y1
  clear_value y1
  refine Keeps.trans ?_ (Keeps.of (State.recTook_keeps _ _) rfl)
  refine Keeps.foldl ?_ ?_ _
  next =>
    exact Keeps.refl _
  next =>
    intro t2 x3
    exact Keeps.of (State.send_keeps _ _ _) rfl

theorem State.recDrain_keeps (s v1) : Keeps 131270 s (State.recDrain s v1) := by
  induction v1 generalizing s with
  | zero => exact Keeps.refl s
  | succ n ih =>
    unfold State.recDrain
    split
    · exact Keeps.refl s
    · split
      · exact Keeps.refl s
      · refine Keeps.ite ((Keeps.of (State.recFlash_keeps s _) rfl).trans (ih _)) ?_
        exact Keeps.ite ((Keeps.of (State.recSend_keeps _ _ _) rfl).trans (ih _)) (Keeps.of (State.recMod_keeps _ _) rfl)

theorem State.pwrPrepare_keeps (s v1) : Keeps 537005766 s (State.pwrPrepare s v1) := by
  unfold State.pwrPrepare
  extract_lets +onlyGivenNames y0
  have h1 : Keeps 537005766 s y0 := by unfold y0; exact Keeps.of (State.closeSess_keeps _) rfl
  clear_value y0
  extract_lets +onlyGivenNames y2
  clear_value y2
  extract_lets +onlyGivenNames y3
  have h4 : Keeps 537005766 s y3 := by unfold y3; refine Keeps.upd_cfg rfl (b := y0) ?_ _; exact h1
  clear_value y3
  extract_lets +onlyGivenNames y5
  have h6 : Keeps 537005766 s y5 := by
    unfold y5
    refine Keeps.ite ?_ ?_
    next => refine Keeps.trans ?_ (Keeps.of (State.lgcStopped_keeps _) rfl); exact h4
    next => exact h4
  clear_value y5
  refine Keeps.ite ?_ ?_
  next =>
    extract_lets +onlyGivenNames y7
    have h8 : Keeps 537005766 s y7 := by
      unfold y7
      refine Keeps.trans ?_ (Keeps.of (State.recDrain_keeps _ _) rfl)
      exact h6
    clear_value y7
    refine Keeps.upd_flash rfl (b := y7) ?_ _
    exact h8
  next => exact h6

theorem State.pwrEnter_keeps (s v1) : Keeps 4135493342 s (State.pwrEnter s v1) := by
  unfold State.pwrEnter
  refine Keeps.ite ?_ ?_
  next => exact Keeps.of (State.sysMod_keeps _ _) rfl
  next =>
    extract_lets +onlyGivenNames y0
    have h1 : Keeps 4135493342 s y0 := by
      unfold y0
      refine Keeps.trans ?_ (Keeps.of (State.sysMod_keeps _ _) rfl)
      exact Keeps.of (State.pwrPrepare_keeps _ _) rfl
    clear_value y0
    split
    next => rename_i z2; refine Keeps.trans ?_ (Keeps.of (State.harbourEnter_keeps _) rfl); exact h1
    next =>
      rename_i z3
      refine Keeps.trans ?_ (Keeps.of (State.sysMod_keeps _ _) rfl)
      refine Keeps.upd_pwr_op rfl (b := y0) ?_ _ _
      exact h1
    next =>
      rename_i z4
      refine Keeps.trans ?_ (Keeps.of (State.sysMod_keeps _ _) rfl)
      refine Keeps.upd_pwr_op rfl (b := y0) ?_ _ _
      exact h1
    next => rename_i z5 z6 z7 z8; exact h1

theorem State.afterPwr_keeps (s v1) : Keeps 4135493342 s (State.afterPwr s v1) := by
  unfold State.afterPwr
  extract_lets +onlyGivenNames y0
  clear_value y0
  extract_lets +onlyGivenNames y1
  clear_value y1
  refine Keeps.trans ?_ (Keeps.of (State.pwrEnter_keeps _ _) rfl)
  exact Keeps.of (State.event_keeps _ _ _ _ _) rfl

theorem State.askReset_keeps (s v1 v2) : Keeps 4096 s (State.askReset s v1 v2) := by
  unfold State.askReset
  exact Keeps.of (State.sysMod_keeps _ _) rfl

theorem State.afterReset_keeps (s v1) : Keeps 4096 s (State.afterReset s v1) := by
  unfold State.afterReset
  extract_lets +onlyGivenNames y0
  clear_value y0
  refine Keeps.ite ?_ ?_
  next => exact Keeps.of (State.askReset_keeps _ _ _) rfl
  next => exact Keeps.of (State.askReset_keeps _ _ _) rfl

theorem State.afterCmd_keeps (s v1 v2 v3) : Keeps 4135493342 s (State.afterCmd s v1 v2 v3) := by
  unfold State.afterCmd
  refine Keeps.ite ?_ ?_
  next => exact Keeps.refl _
  next =>
    refine Keeps.ite ?_ ?_
    next => exact Keeps.of (State.afterReset_keeps _ _) rfl
    next =>
      refine Keeps.ite ?_ ?_
      next => exact Keeps.of (State.afterPwr_keeps _ _) rfl
      next => exact Keeps.refl _

theorem State.respond_keeps (s v1 v2 v3 v4) : Keeps 194 s (State.respond s v1 v2 v3 v4) := by
  unfold State.respond
  extract_lets +onlyGivenNames y0
  clear_value y0
  extract_lets +onlyGivenNames y1
  have h2 : Keeps 194 s y1 := by
    unfold y1
    refine Keeps.ite ?_ ?_
    next => exact Keeps.refl _
    next => exact Keeps.of (State.wrB_keeps _ _ _ _) rfl
  clear_value y1
  extract_lets +onlyGivenNames y3
  have h4 : Keeps 194 s y3 := by unfold y3; refine Keeps.trans ?_ (Keeps.of (State.wrB_keeps _ _ _ _) rfl); exact h2
  clear_value y3
  extract_lets +onlyGivenNames y5
  have h6 : Keeps 194 s y5 := by unfold y5; refine Keeps.trans ?_ (Keeps.of (State.fwrap_keeps _ _) rfl); exact h4
  clear_value y5
  extract_lets +onlyGivenNames y7
  have h8 : Keeps 194 s y7 := by
    unfold y7
    refine Keeps.ite ?_ ?_
    next => refine Keeps.trans ?_ (Keeps.of (State.finc_keeps _ _) rfl); exact h6
    next => exact h6
  clear_value y7
  refine Keeps.trans ?_ (Keeps.of (State.intr_keeps _ _) rfl)
  exact h8

theorem State.touch_keeps (s v1 v2) : Keeps 512 s (State.touch s v1 v2) := by
  unfold State.touch
  extract_lets +onlyGivenNames y0
  clear_value y0
  exact Keeps.upd_cfg rfl (Keeps.refl _) _

theorem State.finish_keeps (s v1 v2) : Keeps 4135493342 s (State.finish s v1 v2) := by
  unfold State.finish
  extract_lets +onlyGivenNames y0
  clear_value y0
  extract_lets +onlyGivenNames y1
  have h2 : Keeps 4135493342 s y1 := by
    unfold y1
    refine Keeps.trans ?_ (Keeps.of (State.respond_keeps _ _ _ _ _) rfl)
    exact Keeps.upd_hif rfl (Keeps.refl _) _
  clear_value y1
  refine Keeps.trans ?_ (Keeps.of (State.afterCmd_keeps _ _ _ _) rfl)
  refine Keeps.ite ?_ ?_
  next => refine Keeps.trans ?_ (Keeps.of (State.touch_keeps _ _ _) rfl); exact h2
  next => exact h2

theorem State.no_keeps (s v1) : Keeps 0 s (State.no s v1).1 := by
  unfold State.no
  dsimp only
  exact Keeps.refl _

theorem State.noD_keeps (s v1 v2) : Keeps 0 s (State.noD s v1 v2).1 := by
  unfold State.noD
  dsimp only
  exact Keeps.refl _

theorem State.bad_keeps (s v1) : Keeps 0 s (State.bad s v1).1 := by
  unfold State.bad
  exact Keeps.of (State.noD_keeps _ _ _) rfl

theorem State.ctlPut_keeps (s v1 v2) : Keeps 134217792 s (State.ctlPut s v1 v2) := by
  unfold State.ctlPut
  extract_lets +onlyGivenNames y0
  clear_value y0
  extract_lets +onlyGivenNames y1
  have h2 : Keeps 134217792 s y1 := by unfold y1; exact Keeps.upd_can rfl (Keeps.refl _) _
  clear_value y1
  extract_lets +onlyGivenNames y3
  clear_value y3
  refine Keeps.trans ?_ (Keeps.of (State.fset_keeps _ _ _) rfl)
  refine Keeps.trans ?_ (Keeps.of (State.fset_keeps _ _ _) rfl)
  exact h2

theorem State.canSubmit_keeps (s v1 v2 v3 v4 v5) : Keeps 134217792 s (State.canSubmit s v1 v2 v3 v4 v5).1 := by
  unfold State.canSubmit
  extract_lets +onlyGivenNames y0
  clear_value y0
  extract_lets +onlyGivenNames y1
  have h2 : ∀ a0, Keeps 134217792 s (y1 a0).1 := by
    intro t3
    unfold y1
    dsimp only
    exact Keeps.of (State.finc_keeps _ _) rfl
  clear_value y1
  refine Keeps.ite1 ?_ ?_
  next => exact h2 _
  next =>
    refine Keeps.ite1 ?_ ?_
    next => exact h2 _
    next =>
      extract_lets +onlyGivenNames y4
      clear_value y4
      refine Keeps.ite1 ?_ ?_
      next => dsimp only; exact Keeps.of (State.ctlPut_keeps _ _ _) rfl
      next =>
        refine Keeps.ite1 ?_ ?_
        next => exact h2 _
        next =>
          extract_lets +onlyGivenNames y5
          have h6 : Keeps 134217792 s y5 := by unfold y5; exact Keeps.of (State.ctlPut_keeps _ _ _) rfl
          clear_value y5
          dsimp only
          refine Keeps.upd_can rfl (b := y5) ?_ _
          exact h6

theorem State.gate_keeps {M : Nat} (hM : 0 ||| M = M) (s v1 v2 v3) (hv3 : ∀ x0, Keeps M x0 (v3 x0).1) : Keeps M s (State.gate s v1 v2 v3).1 := by
  unfold State.gate
  refine Keeps.ite1 ?_ ?_
  next => exact Keeps.of (State.no_keeps _ _) (mask_trans (o := 0) rfl hM)
  next =>
    split
    next => rename_i z0 z1 z2; exact Keeps.of (State.bad_keeps _ _) (mask_trans (o := 0) rfl hM)
    next => rename_i z3 z4; refine Keeps.trans ?_ (hv3 _); exact Keeps.refl _

theorem State.ok_keeps (s) : Keeps 0 s (State.ok s).1 := by
  unfold State.ok
  dsimp only
  exact Keeps.refl _

theorem State.cmdCanSend_keeps (s v1) : Keeps 134217792 s (State.cmdCanSend s v1).1 := by
  unfold State.cmdCanSend
  extract_lets +onlyGivenNames y0
  clear_value y0
  extract_lets +onlyGivenNames y1
  clear_value y1
  extract_lets +onlyGivenNames y2
  clear_value y2
  extract_lets +onlyGivenNames y3
  clear_value y3
  refine State.gate_keeps rfl _ _ _ _ ?_
  intro t4
  split
  next =>
    rename_i z5 z6 z7
    have k8 : Keeps 134217792 t4 z6 := by
      refine Keeps.fst z7 ?_
      exact Keeps.of (State.canSubmit_keeps _ _ _ _ _ _) rfl
    refine Keeps.trans ?_ (Keeps.of (State.ok_keeps _) rfl)
    exact k8
  next =>
    rename_i z9 z10 z11
    have k12 : Keeps 134217792 t4 z10 := by
      refine Keeps.fst z11 ?_
      exact Keeps.of (State.canSubmit_keeps _ _ _ _ _ _) rfl
    refine Keeps.trans ?_ (Keeps.of (State.no_keeps _ _) rfl)
    exact k12
  next =>
    rename_i z13 z14 z15
    have k16 : Keeps 134217792 t4 z14 := by
      refine Keeps.fst z15 ?_
      exact Keeps.of (State.canSubmit_keeps _ _ _ _ _ _) rfl
    refine Keeps.trans ?_ (Keeps.of (State.no_keeps _ _) rfl)
    exact k16
  next =>
    rename_i z17 z18 z19
    have k20 : Keeps 134217792 t4 z18 := by
      refine Keeps.fst z19 ?_
      exact Keeps.of (State.canSubmit_keeps _ _ _ _ _ _) rfl
    refine Keeps.trans ?_ (Keeps.of (State.bad_keeps _ _) rfl)
    exact k20

theorem State.redMod_keeps (s v1) : Keeps 16777216 s (State.redMod s v1) := by
  unfold State.redMod
  exact Keeps.upd_red rfl (Keeps.refl _) _

theorem State.disagreeClear_keeps (s) : Keeps 16943298 s (State.disagreeClear s) := by
  unfold State.disagreeClear
  refine Keeps.trans ?_ (Keeps.of (State.redMod_keeps _ _) rfl)
  refine Keeps.trans ?_ (Keeps.of (State.clearAlarm_keeps _ _ _ _) rfl)
  exact Keeps.of (State.fset_keeps _ _ _) rfl

theorem State.cmdDisagreeClear_keeps (s v1) : Keeps 16943298 s (State.cmdDisagreeClear s v1).1 := by
  unfold State.cmdDisagreeClear
  refine Keeps.trans ?_ (Keeps.of (State.ok_keeps _) rfl)
  exact Keeps.of (State.disagreeClear_keeps _) rfl

theorem State.showNav_keeps (s) : Keeps 64 s (State.showNav s) := by
  unfold State.showNav
  refine Keeps.trans ?_ (Keeps.of (State.fput_keeps _ _ _) rfl)
  exact Keeps.of (State.fput_keeps _ _ _) rfl

theorem State.gnsForget_keeps (s v1) : Keeps 67108928 s (State.gnsForget s v1) := by
  unfold State.gnsForget
  refine Keeps.trans ?_ (Keeps.of (State.showNav_keeps _) rfl)
  exact Keeps.of (State.gnsMod_keeps _ _) rfl

theorem State.cmdGnsForget_keeps (s v1) : Keeps 67108928 s (State.cmdGnsForget s v1).1 := by
  unfold State.cmdGnsForget
  refine State.gate_keeps rfl _ _ _ _ ?_
  intro t0
  refine Keeps.trans ?_ (Keeps.of (State.ok_keeps _) rfl)
  exact Keeps.of (State.gnsForget_keeps _ _) rfl

theorem State.snapTrig_keeps (s v1) : Keeps 67108928 s (State.snapTrig s v1).1 := by
  unfold State.snapTrig
  refine Keeps.ite1 ?_ ?_
  next => dsimp only; exact Keeps.of (State.gnsMod_keeps _ _) rfl
  next => dsimp only; exact Keeps.of (State.finc_keeps _ _) rfl

theorem State.cmdGnsSnap_keeps (s v1) : Keeps 67108928 s (State.cmdGnsSnap s v1).1 := by
  unfold State.cmdGnsSnap
  refine State.gate_keeps rfl _ _ _ _ ?_
  intro t0
  split
  rename_i z1 z2 z3 z4
  have k5 : Keeps 67108928 t0 z2 := by refine Keeps.fst z4 ?_; exact Keeps.of (State.snapTrig_keeps _ _) rfl
  refine Keeps.ite1 ?_ ?_
  next => refine Keeps.trans ?_ (Keeps.of (State.ok_keeps _) rfl); exact k5
  next => refine Keeps.trans ?_ (Keeps.of (State.no_keeps _ _) rfl); exact k5

theorem State.diaMod_keeps (s v1) (h1 : ∀ d, (v1 d).rpl = d.rpl) : Keeps 1073741824 s (State.diaMod s v1) :=
  Keeps.upd_dia rfl (Keeps.refl s) _ (h1 s.dia)

theorem State.showHarv_keeps (s) : Keeps 64 s (State.showHarv s) := by
  unfold State.showHarv
  exact Keeps.of (State.fset_keeps _ _ _) rfl

theorem State.harvPend_keeps (s v1) : Keeps 1073741888 s (State.harvPend s v1) := by
  unfold State.harvPend
  refine Keeps.ite ?_ ?_
  next => exact Keeps.of (State.finc_keeps _ _) rfl
  next =>
    refine Keeps.trans ?_ (Keeps.of (State.showHarv_keeps _) rfl)
    refine Keeps.of (State.diaMod_keeps _ _ (fun _ => rfl)) rfl

theorem State.seqUp_keeps (s v1) : Keeps 8388608 s (State.seqUp s v1) := by
  unfold State.seqUp
  exact Keeps.upd_net rfl (Keeps.refl _) _

theorem State.pierSend_keeps (s v1 v2 v3) : Keeps 8388610 s (State.pierSend s v1 v2 v3) := by
  unfold State.pierSend
  extract_lets +onlyGivenNames y0
  clear_value y0
  refine Keeps.trans ?_ (Keeps.of (State.seqUp_keeps _ _) rfl)
  refine Keeps.foldl ?_ ?_ _
  next =>
    exact Keeps.refl _
  next =>
    intro t1 x2
    exact Keeps.of (State.send_keeps _ _ _) rfl

theorem State.harvLocal_keeps (s v1 v2 v3) : Keeps 1082130498 s (State.harvLocal s v1 v2 v3) := by
  unfold State.harvLocal
  refine Keeps.ite ?_ ?_
  next =>
    refine Keeps.ite ?_ ?_
    next => exact Keeps.refl _
    next => exact Keeps.of (State.finc_keeps _ _) rfl
  next =>
    refine Keeps.ite ?_ ?_
    next =>
      extract_lets +onlyGivenNames y0
      clear_value y0
      refine Keeps.trans ?_ (Keeps.of (State.pierSend_keeps _ _ _ _) rfl)
      exact Keeps.of (State.harvPend_keeps _ _) rfl
    next => exact Keeps.of (State.harvPend_keeps _ _) rfl

theorem State.cmdHarvest_keeps (s v1) : Keeps 1082130498 s (State.cmdHarvest s v1).1 := by
  unfold State.cmdHarvest
  refine Keeps.trans ?_ (Keeps.of (State.ok_keeps _) rfl)
  exact Keeps.of (State.harvLocal_keeps _ _ _ _) rfl

theorem State.holderGone_keeps (s) : Keeps 64 s (State.holderGone s) := by
  unfold State.holderGone
  refine Keeps.ite ?_ ?_
  next => exact Keeps.of (State.fset_keeps _ _ _) rfl
  next => exact Keeps.refl _

theorem State.reqGone_keeps (s) : Keeps 16777280 s (State.reqGone s) := by
  unfold State.reqGone
  refine Keeps.trans ?_ (Keeps.of (State.fset_keeps _ _ _) rfl)
  exact Keeps.of (State.redMod_keeps _ _) rfl

theorem State.safRole_keeps (s) : Keeps 33554496 s (State.safRole s) := by
  unfold State.safRole
  refine Keeps.ite ?_ ?_
  next => exact Keeps.refl _
  next => refine Keeps.trans ?_ (Keeps.of (State.fset_keeps _ _ _) rfl); exact Keeps.upd_saf rfl (Keeps.refl _) _

theorem State.setQual_keeps (s v1) : Keeps 64 s (State.setQual s v1) := by
  unfold State.setQual
  extract_lets +onlyGivenNames y0
  have h1 : Keeps 64 s y0 := by
    unfold y0
    exact Keeps.of (State.fput_keeps _ _ _) rfl
  clear_value y0
  refine Keeps.ite ?_ ?_
  next =>
    exact h1
  next =>
    refine Keeps.trans ?_ (Keeps.of (State.fset_keeps _ _ _) rfl)
    exact h1

theorem State.setRole_keeps (s v1) : Keeps 50497778 s (State.setRole s v1) := by
  unfold State.setRole
  extract_lets +onlyGivenNames y0
  have h1 : Keeps 50497778 s y0 := by
    unfold y0
    refine Keeps.ite ?_ ?_
    next =>
      exact Keeps.refl _
    next =>
      exact Keeps.of (State.holderGone_keeps _) rfl
  clear_value y0
  extract_lets +onlyGivenNames y2
  have h3 : Keeps 50497778 s y2 := by
    unfold y2
    refine Keeps.trans ?_ (Keeps.of (State.safRole_keeps _) rfl)
    refine Keeps.trans ?_ (Keeps.of (State.fset_keeps _ _ _) rfl)
    refine Keeps.upd_op_role rfl (b := y0) ?_ _ _
    exact h1
  clear_value y2
  extract_lets +onlyGivenNames y4
  have h5 : Keeps 50497778 s y4 := by
    unfold y4
    refine Keeps.ite ?_ ?_
    next =>
      refine Keeps.trans ?_ (Keeps.of (State.reqGone_keeps _) rfl)
      exact h3
    next =>
      refine Keeps.ite ?_ ?_
      next =>
        refine Keeps.trans ?_ (Keeps.of (State.setQual_keeps _ _) rfl)
        exact h3
      next =>
        exact h3
  clear_value y4
  refine Keeps.ite ?_ ?_
  next =>
    refine Keeps.trans ?_ (Keeps.of (State.clearAlarm_keeps _ _ _ _) rfl)
    refine Keeps.trans ?_ (Keeps.of (State.redMod_keeps _ _) rfl)
    exact h5
  next =>
    exact h5

theorem State.noteEpoch_keeps (s v1) : Keeps 8192 s (State.noteEpoch s v1) := by
  unfold State.noteEpoch
  refine Keeps.ite ?_ ?_
  next => exact Keeps.upd_d0 rfl (Keeps.refl _) _
  next => exact Keeps.refl _

theorem State.setEpoch_keeps (s v1 v2) : Keeps 16777280 s (State.setEpoch s v1 v2) := by
  unfold State.setEpoch
  refine Keeps.trans ?_ (Keeps.of (State.redMod_keeps _ _) rfl)
  refine Keeps.trans ?_ (Keeps.of (State.fset_keeps _ _ _) rfl)
  exact Keeps.of (State.fset_keeps _ _ _) rfl

theorem State.takeEpoch_keeps (s) : Keeps 16785472 s (State.takeEpoch s) := by
  unfold State.takeEpoch
  extract_lets +onlyGivenNames y0
  clear_value y0
  refine Keeps.trans ?_ (Keeps.of (State.redMod_keeps _ _) rfl)
  refine Keeps.trans ?_ (Keeps.of (State.setEpoch_keeps _ _ _) rfl)
  exact Keeps.of (State.noteEpoch_keeps _ _) rfl

theorem State.cmdKeyClaim_keeps (s v1) : Keeps 50505970 s (State.cmdKeyClaim s v1).1 := by
  unfold State.cmdKeyClaim
  refine State.gate_keeps rfl _ _ _ _ ?_
  intro t0
  refine Keeps.ite1 ?_ ?_
  next => exact Keeps.of (State.no_keeps _ _) rfl
  next =>
    extract_lets +onlyGivenNames y1
    have h2 : Keeps 50505970 t0 y1 := by
      unfold y1
      refine Keeps.trans ?_ (Keeps.of (State.setRole_keeps _ _) rfl)
      exact Keeps.of (State.takeEpoch_keeps _) rfl
    clear_value y1
    refine Keeps.trans ?_ (Keeps.of (State.ok_keeps _) rfl)
    refine Keeps.trans ?_ (Keeps.of (State.redMod_keeps _ _) rfl)
    refine Keeps.trans ?_ (Keeps.of (State.fset_keeps _ _ _) rfl)
    exact h2

theorem State.alarmD_keeps (s v1 v2 v3 v4) : Keeps 166082 s (State.alarmD s v1 v2 v3 v4) := by
  unfold State.alarmD
  refine Keeps.ite ?_ ?_
  next => exact Keeps.refl _
  next =>
    refine Keeps.trans ?_ (Keeps.of (State.event_keeps _ _ _ _ _) rfl)
    exact Keeps.upd_alarms rfl (Keeps.refl _) _

theorem State.alarm_keeps (s v1 v2 v3 v4) : Keeps 166082 s (State.alarm s v1 v2 v3 v4) := by
  unfold State.alarm
  exact Keeps.of (State.alarmD_keeps _ _ _ _ _) rfl

theorem State.ledger_keeps (s v1 v2) : Keeps 8256 s (State.ledger s v1 v2) := by
  unfold State.ledger
  refine Keeps.ite ?_ ?_
  next =>
    extract_lets +onlyGivenNames y0
    have h1 : Keeps 8256 s y0 := by unfold y0; exact Keeps.of (State.fcount_keeps _ _ _) rfl
    clear_value y0
    refine Keeps.upd_d0 rfl (b := y0) ?_ _
    exact h1
  next => exact Keeps.upd_d0 rfl (Keeps.refl _) _

theorem State.declareFail_keeps (s v1) : Keeps 50505970 s (State.declareFail s v1) := by
  unfold State.declareFail
  extract_lets +onlyGivenNames y0
  have h1 : Keeps 50505970 s y0 := by
    unfold y0
    refine Keeps.trans ?_ (Keeps.of (State.fup_keeps _ _) rfl)
    exact Keeps.of (State.redMod_keeps _ _) rfl
  clear_value y0
  extract_lets +onlyGivenNames y2
  have h3 : Keeps 50505970 s y2 := by
    unfold y2
    refine Keeps.trans ?_ (Keeps.of (State.ledger_keeps _ _ _) rfl)
    refine Keeps.trans ?_ (Keeps.of (State.alarm_keeps _ _ _ _ _) rfl)
    exact h1
  clear_value y2
  refine Keeps.ite ?_ ?_
  next => exact h3
  next => refine Keeps.trans ?_ (Keeps.of (State.setRole_keeps _ _) rfl); exact h3

theorem State.cmdKeyRelinquish_keeps (s v1) : Keeps 50505970 s (State.cmdKeyRelinquish s v1).1 := by
  unfold State.cmdKeyRelinquish
  extract_lets +onlyGivenNames y0
  clear_value y0
  refine State.gate_keeps rfl _ _ _ _ ?_
  intro t1
  refine Keeps.ite1 ?_ ?_
  next => exact Keeps.of (State.no_keeps _ _) rfl
  next => refine Keeps.trans ?_ (Keeps.of (State.ok_keeps _) rfl); exact Keeps.of (State.declareFail_keeps _ _) rfl

theorem State.cmdKeyTransfer_keeps (s v1) : Keeps 16777216 s (State.cmdKeyTransfer s v1).1 := by
  unfold State.cmdKeyTransfer
  extract_lets +onlyGivenNames y0
  clear_value y0
  extract_lets +onlyGivenNames y1
  clear_value y1
  refine State.gate_keeps rfl _ _ _ _ ?_
  intro t2
  refine Keeps.ite1 ?_ ?_
  next =>
    exact Keeps.of (State.no_keeps _ _) rfl
  next =>
    refine Keeps.trans ?_ (Keeps.of (State.ok_keeps _) rfl)
    exact Keeps.of (State.redMod_keeps _ _) rfl

theorem State.readOut_keeps (s v1 v2) : Keeps 0 s (State.readOut s v1 v2).1 := by
  unfold State.readOut
  refine Keeps.ite1 ?_ ?_
  next => dsimp only; exact Keeps.refl _
  next => dsimp only; exact Keeps.refl _

theorem State.cmdLedgerRead_keeps (s v1) : Keeps 0 s (State.cmdLedgerRead s v1).1 := by
  unfold State.cmdLedgerRead
  extract_lets +onlyGivenNames y0
  clear_value y0
  extract_lets +onlyGivenNames y1
  clear_value y1
  refine State.gate_keeps rfl _ _ _ _ ?_
  intro t2
  exact Keeps.of (State.readOut_keeps _ _ _) rfl

theorem State.list_keeps (s v1 v2) : Keeps 16777216 s (State.list s v1 v2).1 := by
  unfold State.list
  extract_lets +onlyGivenNames y0
  clear_value y0
  extract_lets +onlyGivenNames y1
  clear_value y1
  refine Keeps.ite1 ?_ ?_
  next => exact Keeps.of (State.no_keeps _ _) rfl
  next => extract_lets +onlyGivenNames y2; clear_value y2; dsimp only; exact Keeps.of (State.redMod_keeps _ _) rfl

theorem State.cmdLogChange_keeps (s v1) : Keeps 16777216 s (State.cmdLogChange s v1).1 := by
  unfold State.cmdLogChange
  extract_lets +onlyGivenNames y0
  clear_value y0
  extract_lets +onlyGivenNames y1
  clear_value y1
  refine State.gate_keeps rfl _ _ _ _ ?_
  intro t2
  exact Keeps.of (State.list_keeps _ _ _) rfl

theorem State.waits_keeps (s) : Keeps 0 s (State.waits s).1 := by
  unfold State.waits
  dsimp only
  exact Keeps.refl _

theorem State.cmdLogExchange_keeps (s v1) : Keeps 0 s (State.cmdLogExchange s v1).1 := by
  unfold State.cmdLogExchange
  refine State.gate_keeps rfl _ _ _ _ ?_
  intro t0
  exact Keeps.of (State.waits_keeps _) rfl

theorem State.lgcFault_keeps (s v1) : Keeps 537036994 s (State.lgcFault s v1) := by
  unfold State.lgcFault
  refine Keeps.ite ?_ ?_
  next => exact Keeps.refl _
  next =>
    refine Keeps.trans ?_ (Keeps.of (State.alarm_keeps _ _ _ _ _) rfl)
    refine Keeps.trans ?_ (Keeps.of (State.setLg_keeps _ _) rfl)
    refine Keeps.trans ?_ (Keeps.of (State.fset_keeps _ _ _) rfl)
    refine Keeps.trans ?_ (Keeps.of (State.fset_keeps _ _ _) rfl)
    refine Keeps.trans ?_ (Keeps.of (State.ptHold_keeps _) rfl)
    exact Keeps.of (State.lgcIdle_keeps _) rfl

theorem State.lgcPeriod_keeps (s) : Keeps 537036994 s (State.lgcPeriod s) := by
  unfold State.lgcPeriod
  split
  next =>
    refine Keeps.ite ?_ ?_
    next =>
      refine Keeps.ite ?_ ?_
      next =>
        exact Keeps.of (State.fset_keeps _ _ _) rfl
      next =>
        exact Keeps.of (State.lgcFault_keeps _ _) rfl
    next =>
      exact Keeps.refl _
  next =>
    exact Keeps.refl _

theorem State.lgcShed_keeps (s) : Keeps 537036994 s (State.lgcShed s) := by
  unfold State.lgcShed
  refine Keeps.ite ?_ ?_
  next => refine Keeps.trans ?_ (Keeps.of (State.lgcMod_keeps _ _) rfl); exact Keeps.of (State.lgcFault_keeps _ _) rfl
  next => exact Keeps.refl _

theorem State.lgcHalt_keeps (s) : Keeps 537036994 s (State.lgcHalt s) := by
  unfold State.lgcHalt
  refine Keeps.ite ?_ ?_
  next =>
    exact Keeps.of (State.lgcFault_keeps _ _) rfl
  next =>
    refine Keeps.ite ?_ ?_
    next =>
      exact Keeps.of (State.lgcShed_keeps _) rfl
    next =>
      exact Keeps.of (State.lgcPeriod_keeps _) rfl

theorem State.lgcRuns_keeps (s) : Keeps 166082 s (State.lgcRuns s) := by
  unfold State.lgcRuns
  extract_lets +onlyGivenNames y0
  have h1 : Keeps 166082 s y0 := by
    unfold y0
    refine Keeps.ite ?_ ?_
    next =>
      refine Keeps.trans ?_ (Keeps.of (State.clearAlarm_keeps _ _ _ _) rfl)
      exact Keeps.of (State.fset_keeps _ _ _) rfl
    next =>
      exact Keeps.refl _
  clear_value y0
  refine Keeps.trans ?_ (Keeps.of (State.setLg_keeps _ _) rfl)
  refine Keeps.trans ?_ (Keeps.of (State.fset_keeps _ _ _) rfl)
  exact h1

theorem State.lgcStart_keeps (s v1) : Keeps 537036994 s (State.lgcStart s v1) := by
  unfold State.lgcStart
  extract_lets +onlyGivenNames y0
  clear_value y0
  refine Keeps.trans ?_ (Keeps.of (State.lgcRuns_keeps _) rfl)
  exact Keeps.of (State.lgcMod_keeps _ _) rfl

theorem State.cmdLogStart_keeps (s v1) : Keeps 537036994 s (State.cmdLogStart s v1).1 := by
  unfold State.cmdLogStart
  refine Keeps.ite1 ?_ ?_
  next =>
    refine Keeps.trans ?_ (Keeps.of (State.ok_keeps _) rfl)
    refine Keeps.trans ?_ (Keeps.of (State.lgcHalt_keeps _) rfl)
    exact Keeps.of (State.lgcStart_keeps _ _) rfl
  next =>
    exact Keeps.of (State.no_keeps _ _) rfl

theorem State.lgcStop_keeps (s) : Keeps 536870912 s (State.lgcStop s) := by
  unfold State.lgcStop
  extract_lets +onlyGivenNames y0
  clear_value y0
  exact Keeps.of (State.lgcMod_keeps _ _) rfl

theorem State.cmdLogStop_keeps (s v1) : Keeps 536870912 s (State.cmdLogStop s v1).1 := by
  unfold State.cmdLogStop
  refine Keeps.ite1 ?_ ?_
  next => refine Keeps.trans ?_ (Keeps.of (State.ok_keeps _) rfl); exact Keeps.of (State.lgcStop_keeps _) rfl
  next => exact Keeps.of (State.no_keeps _ _) rfl

theorem State.pnlResume_keeps (s) : Keeps 2147649730 s (State.pnlResume s) := by
  unfold State.pnlResume
  refine Keeps.trans ?_ (Keeps.of (State.showPnl_keeps _) rfl)
  refine Keeps.trans ?_ (Keeps.of (State.clearAlarm_keeps _ _ _ _) rfl)
  exact Keeps.of (State.pnlMod_keeps _ _) rfl

theorem State.cmdPnlResume_keeps (s v1) : Keeps 2147649730 s (State.cmdPnlResume s v1).1 := by
  unfold State.cmdPnlResume
  refine Keeps.trans ?_ (Keeps.of (State.ok_keeps _) rfl)
  exact Keeps.of (State.pnlResume_keeps _) rfl

theorem State.pnlUpdate_keeps (s v1 v2) : Keeps 2147483712 s (State.pnlUpdate s v1 v2).1 := by
  unfold State.pnlUpdate
  extract_lets +onlyGivenNames y0
  clear_value y0
  extract_lets +onlyGivenNames y1
  have h2 : Keeps 2147483712 s y1 := by unfold y1; exact Keeps.of (State.podPut_keeps _ _ _) rfl
  clear_value y1
  refine Keeps.ite1 ?_ ?_
  next =>
    dsimp only
    refine Keeps.trans ?_ (Keeps.of (State.showPnl_keeps _) rfl)
    refine Keeps.trans ?_ (Keeps.of (State.finc_keeps _ _) rfl)
    exact h2
  next => dsimp only; refine Keeps.trans ?_ (Keeps.of (State.showPnl_keeps _) rfl); exact h2

theorem State.cmdPnlUpdate_keeps (s v1) : Keeps 2147483712 s (State.cmdPnlUpdate s v1).1 := by
  unfold State.cmdPnlUpdate
  extract_lets +onlyGivenNames y0
  clear_value y0
  extract_lets +onlyGivenNames y1
  clear_value y1
  refine State.gate_keeps rfl _ _ _ _ ?_
  intro t2
  refine Keeps.ite1 ?_ ?_
  next => exact Keeps.of (State.no_keeps _ _) rfl
  next =>
    extract_lets +onlyGivenNames y3
    clear_value y3
    split
    rename_i z4 z5 z6 z7
    have k8 : Keeps 2147483712 t2 z5 := by refine Keeps.fst z7 ?_; exact Keeps.of (State.pnlUpdate_keeps _ _ _) rfl
    refine Keeps.trans ?_ (Keeps.of (State.no_keeps _ _) rfl)
    exact k8

theorem State.ptWrite_keeps (s v1 v2 v3 v4) : Keeps 128 s (State.ptWrite s v1 v2 v3 v4) := by
  unfold State.ptWrite
  extract_lets +onlyGivenNames y0
  clear_value y0
  exact Keeps.of (State.wrB_keeps _ _ _ _) rfl

theorem State.cmdPtWrite_keeps (s v1) : Keeps 128 s (State.cmdPtWrite s v1).1 := by
  unfold State.cmdPtWrite
  extract_lets +onlyGivenNames y0
  clear_value y0
  extract_lets +onlyGivenNames y1
  clear_value y1
  refine State.gate_keeps rfl _ _ _ _ ?_
  intro t2
  refine Keeps.ite1 ?_ ?_
  next => exact Keeps.of (State.no_keeps _ _) rfl
  next => refine Keeps.trans ?_ (Keeps.of (State.ok_keeps _) rfl); exact Keeps.of (State.ptWrite_keeps _ _ _ _ _) rfl

theorem State.cmdPwrState_keeps (s v1) : Keeps 0 s (State.cmdPwrState s v1).1 := by
  unfold State.cmdPwrState
  extract_lets +onlyGivenNames y0
  clear_value y0
  refine State.gate_keeps rfl _ _ _ _ ?_
  intro t1
  exact Keeps.of (State.ok_keeps _) rfl

theorem State.ctlMod_keeps (s v1 v2) : Keeps 134217792 s (State.ctlMod s v1 v2) := by
  unfold State.ctlMod
  exact Keeps.of (State.ctlPut_keeps _ _ _) rfl

theorem State.canInitLeave_keeps (s v1) : Keeps 134217792 s (State.canInitLeave s v1) := by
  unfold State.canInitLeave
  extract_lets +onlyGivenNames y0
  have h1 : Keeps 134217792 s y0 := by
    unfold y0
    exact Keeps.of (State.fset_keeps _ _ _) rfl
  clear_value y0
  refine Keeps.ite ?_ ?_
  next =>
    refine Keeps.trans ?_ (Keeps.of (State.ctlMod_keeps _ _ _) rfl)
    exact h1
  next =>
    refine Keeps.ite ?_ ?_
    next =>
      extract_lets +onlyGivenNames y2
      have h3 : Keeps 134217792 s y2 := by
        unfold y2
        refine Keeps.trans ?_ (Keeps.of (State.fset_keeps _ _ _) rfl)
        exact h1
      clear_value y2
      refine Keeps.trans ?_ (Keeps.of (State.ctlMod_keeps _ _ _) rfl)
      exact h3
    next =>
      refine Keeps.trans ?_ (Keeps.of (State.ctlMod_keeps _ _ _) rfl)
      exact h1

theorem State.fltPut_keeps (s v1 v2 v3) : Keeps 16384 s (State.fltPut s v1 v2 v3) := by
  unfold State.fltPut
  exact Keeps.upd_fch rfl (Keeps.refl _) _

theorem State.showRet_keeps (s v1 v2 v3) : Keeps 64 s (State.showRet s v1 v2 v3) := by
  unfold State.showRet
  extract_lets +onlyGivenNames y0
  have h1 : ∀ a0 a1, Keeps 64 a0 (y0 a0 a1) := by intro t2 t3; unfold y0; exact Keeps.of (State.fset_keeps _ _ _) rfl
  clear_value y0
  split
  next => rename_i z4; refine Keeps.trans ?_ (h1 _ _); exact Keeps.refl _
  next => rename_i z5; refine Keeps.trans ?_ (h1 _ _); exact Keeps.refl _
  next => rename_i z6; refine Keeps.trans ?_ (h1 _ _); exact Keeps.refl _
  next => rename_i z7; refine Keeps.trans ?_ (h1 _ _); exact Keeps.refl _
  next => rename_i z8; refine Keeps.trans ?_ (h1 _ _); exact Keeps.refl _
  next => rename_i z9 z10 z11 z12 z13 z14; exact Keeps.refl _

theorem State.readmitCh_keeps (s v1 v2) : Keeps 157890 s (State.readmitCh s v1 v2) := by
  unfold State.readmitCh
  extract_lets +onlyGivenNames y0
  have h1 : Keeps 157890 s y0 := by
    unfold y0
    refine Keeps.trans ?_ (Keeps.of (State.showRet_keeps _ _ _ _) rfl)
    exact Keeps.of (State.fltPut_keeps _ _ _ _) rfl
  clear_value y0
  refine Keeps.trans ?_ (Keeps.of (State.ledger_keeps _ _ _) rfl)
  refine Keeps.trans ?_ (Keeps.of (State.event_keeps _ _ _ _ _) rfl)
  exact h1

theorem State.cexMod_keeps (s v1) : Keeps 2097152 s (State.cexMod s v1) := by
  unfold State.cexMod
  exact Keeps.upd_cex rfl (Keeps.refl _) _

theorem State.readmitEngine_keeps (s v1) : Keeps 2255046 s (State.readmitEngine s v1) := by
  unfold State.readmitEngine
  extract_lets +onlyGivenNames y0
  clear_value y0
  extract_lets +onlyGivenNames y1
  have h2 : Keeps 2255046 s y1 := by
    unfold y1
    refine Keeps.trans ?_ (Keeps.of (State.ledger_keeps _ _ _) rfl)
    refine Keeps.trans ?_ (Keeps.of (State.event_keeps _ _ _ _ _) rfl)
    exact Keeps.of (State.fltPut_keeps _ _ _ _) rfl
  clear_value y1
  refine Keeps.ite ?_ ?_
  next =>
    refine Keeps.trans ?_ (Keeps.of (State.tick1_keeps _) rfl)
    refine Keeps.trans ?_ (Keeps.of (State.cexMod_keeps _ _) rfl)
    exact h2
  next =>
    refine Keeps.trans ?_ (Keeps.of (State.tick1_keeps _) rfl)
    refine Keeps.trans ?_ (Keeps.of (State.ledger_keeps _ _ _) rfl)
    refine Keeps.trans ?_ (Keeps.of (State.event_keeps _ _ _ _ _) rfl)
    exact h2

theorem State.retCleared_keeps (s v1 v2) : Keeps 166082 s (State.retCleared s v1 v2) := by
  unfold State.retCleared
  extract_lets +onlyGivenNames y0
  have h1 : Keeps 166082 s y0 := by unfold y0; exact Keeps.of (State.clearAlarmD_keeps _ _ _ _ _) rfl
  clear_value y0
  split
  next => rename_i z2 z3 z4 z5 z6; refine Keeps.trans ?_ (Keeps.of (State.clearAlarm_keeps _ _ _ _) rfl); exact h1
  next => rename_i z7 z8; exact h1

theorem State.readmit_keeps (s v1 v2) : Keeps 136767686 s (State.readmit s v1 v2) := by
  unfold State.readmit
  extract_lets +onlyGivenNames y0
  clear_value y0
  refine Keeps.ite ?_ ?_
  next =>
    refine Keeps.ite ?_ ?_
    next =>
      exact Keeps.of (State.readmitEngine_keeps _ _) rfl
    next =>
      exact Keeps.of (State.readmitCh_keeps _ _ _) rfl
  next =>
    extract_lets +onlyGivenNames y1
    have h2 : Keeps 136767686 s y1 := by
      unfold y1
      exact Keeps.of (State.readmitCh_keeps _ _ _) rfl
    clear_value y1
    refine Keeps.ite ?_ ?_
    next =>
      exact h2
    next =>
      split
      next =>
        refine Keeps.trans ?_ (Keeps.of (State.retCleared_keeps _ _ _) rfl)
        refine Keeps.ite ?_ ?_
        next =>
          refine Keeps.trans ?_ (Keeps.of (State.ctxEnable_keeps _ _) rfl)
          exact h2
        next =>
          exact h2
      next =>
        refine Keeps.trans ?_ (Keeps.of (State.fset_keeps _ _ _) rfl)
        refine Keeps.trans ?_ (Keeps.of (State.fset_keeps _ _ _) rfl)
        refine Keeps.trans ?_ (Keeps.of (State.fset_keeps _ _ _) rfl)
        exact h2
      next =>
        refine Keeps.trans ?_ (Keeps.of (State.fset_keeps _ _ _) rfl)
        exact h2
      next =>
        extract_lets +onlyGivenNames y3
        have h4 : Keeps 136767686 s y3 := by
          unfold y3
          refine Keeps.trans ?_ (Keeps.of (State.fset_keeps _ _ _) rfl)
          exact h2
        clear_value y3
        refine Keeps.trans ?_ (Keeps.of (State.retCleared_keeps _ _ _) rfl)
        refine Keeps.ite ?_ ?_
        next =>
          exact h4
        next =>
          refine Keeps.trans ?_ (Keeps.of (State.canInitLeave_keeps _ _) rfl)
          exact h4
      next =>
        exact h2

theorem State.cmdReadmit_keeps (s v1) : Keeps 153544902 s (State.cmdReadmit s v1).1 := by
  unfold State.cmdReadmit
  extract_lets +onlyGivenNames y0
  clear_value y0
  extract_lets +onlyGivenNames y1
  clear_value y1
  refine State.gate_keeps rfl _ _ _ _ ?_
  intro t2
  refine Keeps.ite1 ?_ ?_
  next => exact Keeps.of (State.list_keeps _ _ _) rfl
  next => refine Keeps.trans ?_ (Keeps.of (State.ok_keeps _) rfl); exact Keeps.of (State.readmit_keeps _ _ _) rfl

theorem State.cmdRecCtrl_keeps (s v1) : Keeps 131072 s (State.cmdRecCtrl s v1).1 := by
  unfold State.cmdRecCtrl
  extract_lets +onlyGivenNames y0
  clear_value y0
  extract_lets +onlyGivenNames y1
  clear_value y1
  refine State.gate_keeps rfl _ _ _ _ ?_
  intro t2
  refine Keeps.trans ?_ (Keeps.of (State.ok_keeps _) rfl)
  exact Keeps.of (State.recMod_keeps _ _) rfl

theorem State.cmdRecRead_keeps (s v1) : Keeps 4 s (State.cmdRecRead s v1).1 := by
  unfold State.cmdRecRead
  extract_lets +onlyGivenNames y0
  clear_value y0
  extract_lets +onlyGivenNames y1
  clear_value y1
  refine State.gate_keeps rfl _ _ _ _ ?_
  intro t2
  split
  rename_i z3 z4 z5 z6
  have k7 : Keeps 4 t2 z4 := by refine Keeps.fst z6 ?_; exact Keeps.of (State.flashTry_keeps _) rfl
  refine Keeps.ite1 ?_ ?_
  next => refine Keeps.trans ?_ (Keeps.of (State.readOut_keeps _ _ _) rfl); exact k7
  next => refine Keeps.trans ?_ (Keeps.of (State.no_keeps _ _) rfl); exact k7

theorem State.recStop_keeps (s) : Keeps 131136 s (State.recStop s) := by
  unfold State.recStop
  refine Keeps.trans ?_ (Keeps.of (State.showRec_keeps _) rfl)
  refine Keeps.trans ?_ (Keeps.of (State.recMod_keeps _ _) rfl)
  exact Keeps.of (State.stage_keeps _ _ _ _) rfl

theorem State.showRpl_keeps (s v1 v2) : Keeps 64 s (State.showRpl s v1 v2) := by
  unfold State.showRpl
  refine Keeps.trans ?_ (Keeps.of (State.fset_keeps _ _ _) rfl)
  refine Keeps.trans ?_ (Keeps.of (State.fset_keeps _ _ _) rfl)
  exact Keeps.of (State.fset_keeps _ _ _) rfl

theorem State.withOp_keeps {M : Nat} (hM : 16 ||| M = M) (s b : State) (o : OpState) (h : Keeps M s b) : Keeps M s { b with op := o } :=
  Keeps.upd_op (mask_trans (o := 16) rfl hM) h _

theorem State.withRpl_keeps {M : Nat} (hM : 1073741824 ||| M = M) (s b : State) (r : Replay) (h : Keeps M s b) (hr : r.regs = s.regs) :
    Keeps M s (b.diaMod (fun d => { d with rpl := some r })) := by
  have e : Same M b (b.diaMod (fun d => { d with rpl := some r })) := Same.of (m := 1073741824) rfl hM
  refine ⟨fun w => ?_, e.trans h.same⟩
  have w1 := h.stores w
  simp only [State.storesWf, State.rplWf, Bool.and_eq_true] at w w1
  simp only [State.storesWf, State.rplWf, State.diaMod, Bool.and_eq_true]
  refine ⟨w1.1, ?_⟩
  rw [hr]; exact w.1.2

theorem State.rplEnter_keeps (s v1 v2) : Keeps 1191348466 s (State.rplEnter s v1 v2) := by
  unfold State.rplEnter
  refine Keeps.trans ?_ (Keeps.of (State.showPnl_keeps _) rfl)
  refine Keeps.trans ?_ (Keeps.of (State.tpCheck_keeps _) rfl)
  refine Keeps.trans ?_ (Keeps.of (State.showRpl_keeps _ _ _) rfl)
  refine State.withRpl_keeps rfl _ _ _ ?_ rfl
  refine Keeps.trans ?_ (Keeps.of (State.setRole_keeps _ _) rfl)
  refine State.withOp_keeps rfl _ _ _ ?_
  exact (Keeps.ite (Keeps.refl _) (Keeps.of (State.recStop_keeps _) rfl)).trans (Keeps.of (State.recMod_keeps _ _) rfl)

end Sys2Proof.Machine
end

