-- ==== Sys2Proof/Laws/Keeps2.lean ====
section
/-!
SUPPORT. Operations keep what `Keeps` says, callees before callers: part 2 of 10.
-/

namespace Sys2Proof.Machine

theorem State.cmdReplayEnter_keeps (s v1) : Keeps 1191348978 s (State.cmdReplayEnter s v1).1 := by
  unfold State.cmdReplayEnter
  extract_lets +onlyGivenNames y0
  clear_value y0
  refine State.gate_keeps rfl _ _ _ _ ?_
  intro t1
  refine Keeps.trans ?_ (Keeps.of (State.ok_keeps _) rfl)
  refine Keeps.trans ?_ (Keeps.of (State.rplEnter_keeps _ _ _) rfl)
  exact Keeps.of (State.closeSess_keeps _) rfl

theorem State.bankPut_keeps (s v1 v2 v3) : Keeps 268435456 s (State.bankPut s v1 v2 v3) := by
  unfold State.bankPut
  exact Keeps.upd_sdf rfl (Keeps.refl _) _

theorem State.bankLoad_keeps (s v1 v2) : Keeps 268435520 s (State.bankLoad s v1 v2) := by
  unfold State.bankLoad
  extract_lets +onlyGivenNames y0
  have h1 : Keeps 268435520 s y0 := by
    unfold y0
    refine Keeps.foldl ?_ ?_ _
    next => exact Keeps.refl _
    next => intro t2 x3; exact Keeps.of (State.bankPut_keeps _ _ _ _) rfl
  clear_value y0
  refine Keeps.trans ?_ (Keeps.of (State.fset_keeps _ _ _) rfl)
  exact h1

theorem State.igmpReport_keeps (s v1 v2) : Keeps 2 s (State.igmpReport s v1 v2) := by
  unfold State.igmpReport
  extract_lets +onlyGivenNames y0
  clear_value y0
  exact Keeps.of (State.send_keeps _ _ _) rfl

theorem State.igmpReports_keeps (s v1) : Keeps 2 s (State.igmpReports s v1) := by
  unfold State.igmpReports
  refine Keeps.foldl ?_ ?_ _
  next => exact Keeps.refl _
  next => intro t0 x1; exact Keeps.of (State.igmpReport_keeps _ _ _) rfl

theorem State.slvMod_keeps (s v1) : Keeps 4194304 s (State.slvMod s v1) := by
  unfold State.slvMod
  exact Keeps.upd_slv rfl (Keeps.refl _) _

theorem State.imageGood_keeps (s v1) : Keeps 5408962 s (State.imageGood s v1) := by
  unfold State.imageGood
  split
  next =>
    refine Keeps.trans ?_ (Keeps.of (State.clearAlarm_keeps _ _ _ _) rfl)
    refine Keeps.upd_fus rfl ?_ _
    exact Keeps.refl _
  next =>
    refine Keeps.ite ?_ ?_
    next =>
      exact Keeps.of (State.slvMod_keeps _ _) rfl
    next =>
      refine Keeps.trans ?_ (Keeps.of (State.clearAlarm_keeps _ _ _ _) rfl)
      exact Keeps.of (State.slvMod_keeps _ _) rfl
  next =>
    exact Keeps.refl _

theorem State.canInitEnter_keeps (s v1) : Keeps 134217792 s (State.canInitEnter s v1) := by
  unfold State.canInitEnter
  extract_lets +onlyGivenNames y0
  have h1 : Keeps 134217792 s y0 := by unfold y0; exact Keeps.of (State.fset_keeps _ _ _) rfl
  clear_value y0
  refine Keeps.ite ?_ ?_
  next => exact h1
  next => refine Keeps.trans ?_ (Keeps.of (State.ctlMod_keeps _ _ _) rfl); exact h1

theorem State.canSwitch_keeps (s v1 v2) : Keeps 134217792 s (State.canSwitch s v1 v2) := by
  unfold State.canSwitch
  extract_lets +onlyGivenNames y0
  clear_value y0
  refine Keeps.ite ?_ ?_
  next => exact Keeps.refl _
  next =>
    extract_lets +onlyGivenNames y1
    have h2 : Keeps 134217792 s y1 := by unfold y1; exact Keeps.of (State.fput_keeps _ _ _) rfl
    clear_value y1
    refine Keeps.ite ?_ ?_
    next => refine Keeps.trans ?_ (Keeps.of (State.canInitEnter_keeps _ _) rfl); exact h2
    next => refine Keeps.trans ?_ (Keeps.of (State.canInitLeave_keeps _ _) rfl); exact h2

theorem State.ctxDisable_keeps (s v1) : Keeps 262208 s (State.ctxDisable s v1) := by
  unfold State.ctxDisable
  refine Keeps.trans ?_ (Keeps.of (State.fset_keeps _ _ _) rfl)
  exact Keeps.of (State.ctxPut_keeps _ _ _) rfl

theorem State.ctxSwitch_keeps (s v1 v2) : Keeps 262208 s (State.ctxSwitch s v1 v2) := by
  unfold State.ctxSwitch
  extract_lets +onlyGivenNames y0
  clear_value y0
  refine Keeps.ite ?_ ?_
  next =>
    refine Keeps.ite ?_ ?_
    next => exact Keeps.of (State.fset_keeps _ _ _) rfl
    next => exact Keeps.of (State.ctxEnable_keeps _ _) rfl
  next =>
    refine Keeps.ite ?_ ?_
    next => exact Keeps.of (State.ctxDisable_keeps _ _) rfl
    next => exact Keeps.refl _

theorem State.ptpMod_keeps (s v1) : Keeps 8388608 s (State.ptpMod s v1) := by
  unfold State.ptpMod
  exact Keeps.upd_net rfl (Keeps.refl _) _

theorem State.setServo_keeps (s v1) : Keeps 8388672 s (State.setServo s v1) := by
  unfold State.setServo
  extract_lets +onlyGivenNames y0
  clear_value y0
  extract_lets +onlyGivenNames y1
  have h2 : Keeps 8388672 s y1 := by
    unfold y1
    refine Keeps.trans ?_ (Keeps.of (State.fset_keeps _ _ _) rfl)
    exact Keeps.of (State.ptpMod_keeps _ _) rfl
  clear_value y1
  refine Keeps.ite ?_ ?_
  next => refine Keeps.trans ?_ (Keeps.of (State.fset_keeps _ _ _) rfl); exact h2
  next => exact h2

theorem State.domSwitch_keeps (s v1 v2) : Keeps 8521922 s (State.domSwitch s v1 v2) := by
  unfold State.domSwitch
  extract_lets +onlyGivenNames y0
  have h1 : Keeps 8521922 s y0 := by
    unfold y0
    refine Keeps.trans ?_ (Keeps.of (State.setServo_keeps _ _) rfl)
    exact Keeps.of (State.fset_keeps _ _ _) rfl
  clear_value y0
  extract_lets +onlyGivenNames y2
  have h3 : Keeps 8521922 s y2 := by
    unfold y2
    refine Keeps.trans ?_ (Keeps.of (State.ptpMod_keeps _ _) rfl)
    exact h1
  clear_value y2
  extract_lets +onlyGivenNames y4
  have h5 : Keeps 8521922 s y4 := by
    unfold y4
    refine Keeps.ite ?_ ?_
    next => refine Keeps.trans ?_ (Keeps.of (State.finc_keeps _ _) rfl); exact h3
    next => exact h3
  clear_value y4
  refine Keeps.trans ?_ (Keeps.of (State.event_keeps _ _ _ _ _) rfl)
  exact h5

theorem State.incWrite_keeps (s v1) : Keeps 320 s (State.incWrite s v1) := by
  unfold State.incWrite
  extract_lets +onlyGivenNames y0
  clear_value y0
  extract_lets +onlyGivenNames y1
  clear_value y1
  extract_lets +onlyGivenNames y2
  have h3 : Keeps 320 s y2 := by unfold y2; exact Keeps.upd_time rfl (Keeps.refl _) _
  clear_value y2
  refine Keeps.ite ?_ ?_
  next => exact h3
  next =>
    refine Keeps.trans ?_ (Keeps.of (State.fup_keeps _ _) rfl)
    refine Keeps.trans ?_ (Keeps.of (State.fset_keeps _ _ _) rfl)
    refine Keeps.trans ?_ (Keeps.of (State.fset_keeps _ _ _) rfl)
    exact h3

theorem State.servoInc_keeps (s v1) : Keeps 320 s (State.servoInc s v1) := by
  unfold State.servoInc
  refine Keeps.trans ?_ (Keeps.of (State.incWrite_keeps _ _) rfl)
  refine Keeps.trans ?_ (Keeps.of (State.fset_keeps _ _ _) rfl)
  exact Keeps.of (State.fset_keeps _ _ _) rfl

theorem State.enterHoldover_keeps (s) : Keeps 8554946 s (State.enterHoldover s) := by
  unfold State.enterHoldover
  extract_lets +onlyGivenNames y0
  have h1 : Keeps 8554946 s y0 := by
    unfold y0
    refine Keeps.trans ?_ (Keeps.of (State.servoInc_keeps _ _) rfl)
    exact Keeps.of (State.ptpMod_keeps _ _) rfl
  clear_value y0
  refine Keeps.trans ?_ (Keeps.of (State.alarm_keeps _ _ _ _ _) rfl)
  refine Keeps.trans ?_ (Keeps.of (State.finc_keeps _ _) rfl)
  refine Keeps.trans ?_ (Keeps.of (State.setServo_keeps _ _) rfl)
  exact h1

theorem State.domJudge_keeps (s) : Keeps 8554946 s (State.domJudge s) := by
  unfold State.domJudge
  extract_lets +onlyGivenNames y0
  clear_value y0
  extract_lets +onlyGivenNames y1
  clear_value y1
  refine Keeps.ite ?_ ?_
  next =>
    refine Keeps.ite ?_ ?_
    next =>
      refine Keeps.trans ?_ (Keeps.of (State.ptpMod_keeps _ _) rfl)
      refine Keeps.trans ?_ (Keeps.of (State.setServo_keeps _ _) rfl)
      exact Keeps.of (State.fset_keeps _ _ _) rfl
    next => exact Keeps.refl _
  next =>
    refine Keeps.ite ?_ ?_
    next =>
      refine Keeps.ite ?_ ?_
      next =>
        extract_lets +onlyGivenNames y2
        clear_value y2
        refine Keeps.trans ?_ (Keeps.of (State.domSwitch_keeps _ _ _) rfl)
        exact Keeps.of (State.clearAlarm_keeps _ _ _ _) rfl
      next => exact Keeps.refl _
    next =>
      extract_lets +onlyGivenNames y3
      clear_value y3
      extract_lets +onlyGivenNames y4
      clear_value y4
      refine Keeps.ite ?_ ?_
      next => exact Keeps.of (State.domSwitch_keeps _ _ _) rfl
      next =>
        refine Keeps.ite ?_ ?_
        next => exact Keeps.of (State.enterHoldover_keeps _) rfl
        next => exact Keeps.refl _

theorem State.domPut_keeps (s v1 v2) : Keeps 8388672 s (State.domPut s v1 v2) := by
  unfold State.domPut
  extract_lets +onlyGivenNames y0
  clear_value y0
  extract_lets +onlyGivenNames y1
  clear_value y1
  extract_lets +onlyGivenNames y2
  clear_value y2
  extract_lets +onlyGivenNames y3
  clear_value y3
  extract_lets +onlyGivenNames y4
  clear_value y4
  extract_lets +onlyGivenNames y5
  have h6 : Keeps 8388672 s y5 := by
    unfold y5
    refine Keeps.upd_net rfl ?_ _
    exact Keeps.refl _
  clear_value y5
  extract_lets +onlyGivenNames y7
  clear_value y7
  extract_lets +onlyGivenNames y8
  clear_value y8
  extract_lets +onlyGivenNames y9
  clear_value y9
  refine Keeps.ite ?_ ?_
  next =>
    refine Keeps.trans ?_ (Keeps.of (State.fset_keeps _ _ _) rfl)
    refine Keeps.trans ?_ (Keeps.of (State.fset_keeps _ _ _) rfl)
    refine Keeps.trans ?_ (Keeps.of (State.fset_keeps _ _ _) rfl)
    refine Keeps.trans ?_ (Keeps.of (State.fset_keeps _ _ _) rfl)
    exact h6
  next =>
    refine Keeps.trans ?_ (Keeps.of (State.fset_keeps _ _ _) rfl)
    refine Keeps.trans ?_ (Keeps.of (State.fset_keeps _ _ _) rfl)
    refine Keeps.trans ?_ (Keeps.of (State.fset_keeps _ _ _) rfl)
    refine Keeps.trans ?_ (Keeps.of (State.fset_keeps _ _ _) rfl)
    exact h6

theorem State.domSwitched_keeps (s v1) : Keeps 8554946 s (State.domSwitched s v1) := by
  unfold State.domSwitched
  extract_lets +onlyGivenNames y0
  clear_value y0
  extract_lets +onlyGivenNames y1
  clear_value y1
  extract_lets +onlyGivenNames y2
  clear_value y2
  extract_lets +onlyGivenNames y3
  have h4 : Keeps 8554946 s y3 := by
    unfold y3
    refine Keeps.ite ?_ ?_
    next =>
      exact Keeps.of (State.domPut_keeps _ _ _) rfl
    next =>
      exact Keeps.refl _
  clear_value y3
  extract_lets +onlyGivenNames y5
  have h6 : Keeps 8554946 s y5 := by
    unfold y5
    refine Keeps.ite ?_ ?_
    next =>
      refine Keeps.trans ?_ (Keeps.of (State.domPut_keeps _ _ _) rfl)
      exact h4
    next =>
      exact h4
  clear_value y5
  extract_lets +onlyGivenNames y7
  have h8 : Keeps 8554946 s y7 := by
    unfold y7
    refine Keeps.ite ?_ ?_
    next =>
      refine Keeps.trans ?_ (Keeps.of (State.domPut_keeps _ _ _) rfl)
      refine Keeps.trans ?_ (Keeps.of (State.domPut_keeps _ _ _) rfl)
      exact h6
    next =>
      exact h6
  clear_value y7
  refine Keeps.ite ?_ ?_
  next =>
    refine Keeps.trans ?_ (Keeps.of (State.domJudge_keeps _) rfl)
    exact h8
  next =>
    exact h8

theorem State.harvTrip_keeps (s) : Keeps 1082130498 s (State.harvTrip s) := by
  unfold State.harvTrip
  refine Keeps.ite ?_ ?_
  next => exact Keeps.refl _
  next =>
    refine Keeps.trans ?_ (Keeps.of (State.harvLocal_keeps _ _ _ _) rfl)
    refine Keeps.of (State.diaMod_keeps _ _ (fun _ => rfl)) rfl

theorem State.latchSet_keeps (s v1 v2) : Keeps 33554496 s (State.latchSet s v1 v2) := by
  unfold State.latchSet
  refine Keeps.trans ?_ (Keeps.of (State.showSaf_keeps _) rfl)
  exact Keeps.of (State.safMod_keeps _ _) rfl

theorem State.tripCause_keeps (s v1 v2 v3) : Keeps 174274 s (State.tripCause s v1 v2 v3) := by
  unfold State.tripCause
  extract_lets +onlyGivenNames y0
  clear_value y0
  refine Keeps.ite ?_ ?_
  next => exact Keeps.of (State.finc_keeps _ _) rfl
  next =>
    extract_lets +onlyGivenNames y1
    have h2 : Keeps 174274 s y1 := by
      unfold y1
      refine Keeps.trans ?_ (Keeps.of (State.fset_keeps _ _ _) rfl)
      refine Keeps.trans ?_ (Keeps.of (State.fset_keeps _ _ _) rfl)
      exact Keeps.of (State.fset_keeps _ _ _) rfl
    clear_value y1
    extract_lets +onlyGivenNames y3
    have h4 : Keeps 174274 s y3 := by
      unfold y3
      refine Keeps.ite ?_ ?_
      next => refine Keeps.trans ?_ (Keeps.of (State.fset_keeps _ _ _) rfl); exact h2
      next => refine Keeps.trans ?_ (Keeps.of (State.fset_keeps _ _ _) rfl); exact h2
    clear_value y3
    refine Keeps.trans ?_ (Keeps.of (State.ledger_keeps _ _ _) rfl)
    refine Keeps.trans ?_ (Keeps.of (State.alarmD_keeps _ _ _ _ _) rfl)
    exact h4

theorem State.unitTrip_keeps (s) : Keeps 50505970 s (State.unitTrip s) := by
  unfold State.unitTrip
  refine Keeps.ite ?_ ?_
  next => exact Keeps.refl _
  next =>
    extract_lets +onlyGivenNames y0
    have h1 : Keeps 50505970 s y0 := by unfold y0; exact Keeps.of (State.redMod_keeps _ _) rfl
    clear_value y0
    refine Keeps.ite ?_ ?_
    next => refine Keeps.trans ?_ (Keeps.of (State.declareFail_keeps _ _) rfl); exact h1
    next => exact h1

theorem State.trip_keeps (s v1 v2 v3 v4 v5) : Keeps 1132636402 s (State.trip s v1 v2 v3 v4 v5) := by
  unfold State.trip
  extract_lets +onlyGivenNames y0
  clear_value y0
  extract_lets +onlyGivenNames y1
  have h2 : Keeps 1132636402 s y1 := by
    unfold y1
    refine Keeps.ite ?_ ?_
    next => exact Keeps.of (State.harvTrip_keeps _) rfl
    next => exact Keeps.refl _
  clear_value y1
  extract_lets +onlyGivenNames y3
  have h4 : Keeps 1132636402 s y3 := by
    unfold y3
    refine Keeps.foldl ?_ ?_ _
    next => exact h2
    next => intro t5 x6; exact Keeps.of (State.tripCause_keeps _ _ _ _) rfl
  clear_value y3
  extract_lets +onlyGivenNames y7
  have h8 : Keeps 1132636402 s y7 := by
    unfold y7
    refine Keeps.foldl ?_ ?_ _
    next => exact h4
    next => intro t9 x10; exact Keeps.of (State.latchSet_keeps _ _ _) rfl
  clear_value y7
  extract_lets +onlyGivenNames y11
  have h12 : Keeps 1132636402 s y11 := by
    unfold y11
    split
    next =>
      rename_i z13 z14
      refine Keeps.ite ?_ ?_
      next => refine Keeps.trans ?_ (Keeps.of (State.safMod_keeps _ _) rfl); exact h8
      next => exact h8
    next => rename_i z15 z16; exact h8
  clear_value y11
  refine Keeps.ite ?_ ?_
  next => refine Keeps.trans ?_ (Keeps.of (State.unitTrip_keeps _) rfl); exact h12
  next => exact h12

theorem State.estAnew_keeps (s v1) : Keeps 1132636402 s (State.estAnew s v1) := by
  unfold State.estAnew
  refine Keeps.ite ?_ ?_
  next =>
    exact Keeps.refl _
  next =>
    refine Keeps.foldl ?_ ?_ _
    next =>
      exact Keeps.refl _
    next =>
      intro t0 x1
      split
      extract_lets +onlyGivenNames y2
      clear_value y2
      extract_lets +onlyGivenNames y3
      clear_value y3
      extract_lets +onlyGivenNames y4
      clear_value y4
      extract_lets +onlyGivenNames y5
      have h6 : Keeps 1132636402 t0 y5 := by
        unfold y5
        refine Keeps.trans ?_ (Keeps.of (State.fset_keeps _ _ _) rfl)
        exact Keeps.of (State.safMod_keeps _ _) rfl
      clear_value y5
      extract_lets +onlyGivenNames y7
      have h8 : Keeps 1132636402 t0 y7 := by
        unfold y7
        refine Keeps.ite ?_ ?_
        next =>
          exact h6
        next =>
          refine Keeps.trans ?_ (Keeps.of (State.trip_keeps _ _ _ _ _ _) rfl)
          exact h6
      clear_value y7
      refine Keeps.ite ?_ ?_
      next =>
        exact h8
      next =>
        refine Keeps.trans ?_ (Keeps.of (State.trip_keeps _ _ _ _ _ _) rfl)
        exact h8

theorem State.loadObj_keeps (s v1) : Keeps 64 s (State.loadObj s v1) := by
  unfold State.loadObj
  refine Keeps.foldl ?_ ?_ _
  next => exact Keeps.refl _
  next =>
    intro t0 x1
    split
    next =>
      rename_i z2 z3 z4
      extract_lets +onlyGivenNames y5
      clear_value y5
      extract_lets +onlyGivenNames y6
      clear_value y6
      exact Keeps.of (State.setReg_keeps _ _ _) rfl
    next => rename_i z7 z8; exact Keeps.refl _

theorem State.sdfClock_keeps (s v1) : Keeps 268435456 s (State.sdfClock s v1) := by
  unfold State.sdfClock
  refine Keeps.upd_sdf rfl ?_ _
  exact Keeps.refl _

theorem State.clkSwitch_keeps (s v1 v2) : Keeps 268435456 s (State.clkSwitch s v1 v2) := by
  unfold State.clkSwitch
  refine Keeps.ite ?_ ?_
  next =>
    exact Keeps.refl _
  next =>
    refine Keeps.ite ?_ ?_
    next =>
      exact Keeps.of (State.sdfClock_keeps _ _) rfl
    next =>
      refine Keeps.ite ?_ ?_
      next =>
        exact Keeps.refl _
      next =>
        extract_lets +onlyGivenNames y0
        clear_value y0
        refine Keeps.upd_sdf rfl ?_ _
        exact Keeps.refl _

theorem State.sdfWord_keeps (s v1) : Keeps 128 s (State.sdfWord s v1) := by
  unfold State.sdfWord
  refine Keeps.ite ?_ ?_
  next => exact Keeps.refl _
  next =>
    extract_lets +onlyGivenNames y0
    clear_value y0
    extract_lets +onlyGivenNames y1
    clear_value y1
    refine Keeps.ite ?_ ?_
    next => exact Keeps.of (State.ptWrite_keeps _ _ _ _ _) rfl
    next => exact Keeps.refl _

theorem State.sdfFlag_keeps (s v1 v2 v3) : Keeps 192 s (State.sdfFlag s v1 v2 v3) := by
  unfold State.sdfFlag
  refine Keeps.ite ?_ ?_
  next => exact Keeps.refl _
  next => refine Keeps.trans ?_ (Keeps.of (State.sdfWord_keeps _ _) rfl); exact Keeps.of (State.fput_keeps _ _ _) rfl

theorem State.sdfWindow_keeps (s v1 v2) : Keeps 268435648 s (State.sdfWindow s v1 v2) := by
  unfold State.sdfWindow
  split
  next =>
    rename_i z0 z1 z2
    refine Keeps.trans ?_ (Keeps.of (State.sdfFlag_keeps _ _ _ _) rfl)
    exact Keeps.of (State.sdfPut_keeps _ _ _) rfl
  next => rename_i z3 z4; exact Keeps.refl _

theorem State.inputSwitch_keeps (s v1 v2) : Keeps 268435648 s (State.inputSwitch s v1 v2) := by
  unfold State.inputSwitch
  refine Keeps.ite ?_ ?_
  next => exact Keeps.refl _
  next =>
    refine Keeps.trans ?_ (Keeps.of (State.sdfWindow_keeps _ _ _) rfl)
    exact Keeps.of (State.fset_keeps _ _ _) rfl

theorem State.anaTrip_keeps (s v1 v2) : Keeps 1132636402 s (State.anaTrip s v1 v2) := by
  unfold State.anaTrip
  extract_lets +onlyGivenNames y0
  clear_value y0
  extract_lets +onlyGivenNames y1
  clear_value y1
  refine Keeps.ite ?_ ?_
  next => exact Keeps.refl _
  next => exact Keeps.of (State.trip_keeps _ _ _ _ _ _) rfl

theorem State.sdfEvents_keeps (s v1 v2 v3) : Keeps 1132636402 s (State.sdfEvents s v1 v2 v3) := by
  unfold State.sdfEvents
  extract_lets +onlyGivenNames y0
  clear_value y0
  extract_lets +onlyGivenNames y1
  clear_value y1
  refine Keeps.ite ?_ ?_
  next => exact Keeps.refl _
  next =>
    extract_lets +onlyGivenNames y2
    have h3 : Keeps 1132636402 s y2 := by
      unfold y2
      refine Keeps.trans ?_ (Keeps.of (State.sdfWord_keeps _ _) rfl)
      refine Keeps.trans ?_ (Keeps.of (State.fput_keeps _ _ _) rfl)
      exact Keeps.of (State.fput_keeps _ _ _) rfl
    clear_value y2
    extract_lets +onlyGivenNames y4
    have h5 : Keeps 1132636402 s y4 := by
      unfold y4
      refine Keeps.ite ?_ ?_
      next =>
        refine Keeps.trans ?_ (Keeps.of (State.anaTrip_keeps _ _ _) rfl)
        refine Keeps.trans ?_ (Keeps.of (State.fup_keeps _ _) rfl)
        exact h3
      next => exact h3
    clear_value y4
    extract_lets +onlyGivenNames y6
    have h7 : Keeps 1132636402 s y6 := by
      unfold y6
      refine Keeps.ite ?_ ?_
      next =>
        refine Keeps.trans ?_ (Keeps.of (State.anaTrip_keeps _ _ _) rfl)
        refine Keeps.trans ?_ (Keeps.of (State.fup_keeps _ _) rfl)
        exact h5
      next => exact h5
    clear_value y6
    refine Keeps.trans ?_ (Keeps.of (State.event_keeps _ _ _ _ _) rfl)
    exact h7

theorem State.sdfEnables_keeps (s v1) : Keeps 1132636402 s (State.sdfEnables s v1) := by
  unfold State.sdfEnables
  refine Keeps.ite ?_ ?_
  next =>
    exact Keeps.refl _
  next =>
    extract_lets +onlyGivenNames y0
    clear_value y0
    exact Keeps.of (State.sdfEvents_keeps _ _ _ _) rfl

theorem State.showLoad_keeps (s) : Keeps 64 s (State.showLoad s) := by
  unfold State.showLoad
  extract_lets +onlyGivenNames y0
  clear_value y0
  exact Keeps.of (State.fset_keeps _ _ _) rfl

theorem State.sdfBegin_keeps (s v1) : Keeps 1401071858 s (State.sdfBegin s v1) := by
  unfold State.sdfBegin
  extract_lets +onlyGivenNames y0
  clear_value y0
  extract_lets +onlyGivenNames y1
  clear_value y1
  split
  rename_i z2 z3 z4 z5
  extract_lets +onlyGivenNames y6
  clear_value y6
  extract_lets +onlyGivenNames y7
  have h8 : Keeps 1401071858 s y7 := by
    unfold y7
    refine Keeps.trans ?_ (Keeps.of (State.fset_keeps _ _ _) rfl)
    refine Keeps.trans ?_ (Keeps.of (State.fset_keeps _ _ _) rfl)
    refine Keeps.trans ?_ (Keeps.of (State.fset_keeps _ _ _) rfl)
    exact Keeps.of (State.sdfPut_keeps _ _ _) rfl
  clear_value y7
  extract_lets +onlyGivenNames y9
  have h10 : Keeps 1401071858 s y9 := by
    unfold y9
    refine Keeps.trans ?_ (Keeps.of (State.fset_keeps _ _ _) rfl)
    refine Keeps.trans ?_ (Keeps.of (State.fset_keeps _ _ _) rfl)
    refine Keeps.trans ?_ (Keeps.of (State.fset_keeps _ _ _) rfl)
    exact h8
  clear_value y9
  refine Keeps.trans ?_ (Keeps.of (State.showLoad_keeps _) rfl)
  refine Keeps.trans ?_ (Keeps.of (State.sdfWord_keeps _ _) rfl)
  refine Keeps.trans ?_ (Keeps.of (State.sdfEvents_keeps _ _ _ _) rfl)
  refine Keeps.trans ?_ (Keeps.of (State.clearAlarm_keeps _ _ _ _) rfl)
  exact h10

theorem State.startRefused_keeps (s v1 v2) : Keeps 133314 s (State.startRefused s v1 v2) := by
  unfold State.startRefused
  refine Keeps.trans ?_ (Keeps.of (State.event_keeps _ _ _ _ _) rfl)
  refine Keeps.trans ?_ (Keeps.of (State.fset_keeps _ _ _) rfl)
  exact Keeps.of (State.fset_keeps _ _ _) rfl

theorem State.sdfStart_keeps (s v1) : Keeps 1401071858 s (State.sdfStart s v1) := by
  unfold State.sdfStart
  extract_lets +onlyGivenNames y0
  clear_value y0
  refine Keeps.ite ?_ ?_
  next => exact Keeps.of (State.sdfBegin_keeps _ _) rfl
  next => exact Keeps.of (State.startRefused_keeps _ _ _) rfl

theorem State.sdfStop_keeps (s v1) : Keeps 1401071858 s (State.sdfStop s v1) := by
  unfold State.sdfStop
  refine Keeps.ite ?_ ?_
  next => exact Keeps.of (State.fset_keeps _ _ _) rfl
  next =>
    extract_lets +onlyGivenNames y0
    have h1 : Keeps 1401071858 s y0 := by
      unfold y0
      refine Keeps.trans ?_ (Keeps.of (State.fset_keeps _ _ _) rfl)
      refine Keeps.trans ?_ (Keeps.of (State.fset_keeps _ _ _) rfl)
      exact Keeps.of (State.sdfPut_keeps _ _ _) rfl
    clear_value y0
    extract_lets +onlyGivenNames y2
    have h3 : Keeps 1401071858 s y2 := by
      unfold y2
      refine Keeps.trans ?_ (Keeps.of (State.sdfWord_keeps _ _) rfl)
      refine Keeps.trans ?_ (Keeps.of (State.fset_keeps _ _ _) rfl)
      refine Keeps.trans ?_ (Keeps.of (State.sdfEvents_keeps _ _ _ _) rfl)
      exact h1
    clear_value y2
    extract_lets +onlyGivenNames y4
    clear_value y4
    extract_lets +onlyGivenNames y5
    have h6 : Keeps 1401071858 s y5 := by
      unfold y5
      refine Keeps.ite ?_ ?_
      next => refine Keeps.trans ?_ (Keeps.of (State.ptWrite_keeps _ _ _ _ _) rfl); exact h3
      next => exact h3
    clear_value y5
    refine Keeps.trans ?_ (Keeps.of (State.showLoad_keeps _) rfl)
    exact h6

theorem State.sdfLoad_keeps (s v1) : Keeps 1401071858 s (State.sdfLoad s v1) := by
  unfold State.sdfLoad
  extract_lets +onlyGivenNames y0
  clear_value y0
  extract_lets +onlyGivenNames y1
  clear_value y1
  extract_lets +onlyGivenNames y2
  clear_value y2
  extract_lets +onlyGivenNames y3
  clear_value y3
  extract_lets +onlyGivenNames y4
  clear_value y4
  extract_lets +onlyGivenNames y5
  clear_value y5
  extract_lets +onlyGivenNames y6
  clear_value y6
  extract_lets +onlyGivenNames y7
  clear_value y7
  extract_lets +onlyGivenNames y8
  have h9 : Keeps 1401071858 s y8 := by
    unfold y8
    refine Keeps.ite ?_ ?_
    next =>
      refine Keeps.foldl ?_ ?_ _
      next =>
        exact Keeps.refl _
      next =>
        intro t10 x11
        refine Keeps.ite ?_ ?_
        next =>
          exact Keeps.of (State.sdfStop_keeps _ _) rfl
        next =>
          exact Keeps.refl _
    next =>
      exact Keeps.refl _
  clear_value y8
  extract_lets +onlyGivenNames y12
  have h13 : Keeps 1401071858 s y12 := by
    unfold y12
    refine Keeps.ite ?_ ?_
    next =>
      refine Keeps.trans ?_ (Keeps.of (State.sdfStop_keeps _ _) rfl)
      exact h9
    next =>
      exact h9
  clear_value y12
  extract_lets +onlyGivenNames y14
  have h15 : Keeps 1401071858 s y14 := by
    unfold y14
    refine Keeps.ite ?_ ?_
    next =>
      refine Keeps.trans ?_ (Keeps.of (State.inputSwitch_keeps _ _ _) rfl)
      exact h13
    next =>
      exact h13
  clear_value y14
  extract_lets +onlyGivenNames y16
  have h17 : Keeps 1401071858 s y16 := by
    unfold y16
    refine Keeps.trans ?_ (Keeps.of (State.loadObj_keeps _ _) rfl)
    exact h15
  clear_value y16
  extract_lets +onlyGivenNames y18
  have h19 : Keeps 1401071858 s y18 := by
    unfold y18
    refine Keeps.trans ?_ (Keeps.of (State.sdfEnables_keeps _ _) rfl)
    refine Keeps.ite ?_ ?_
    next =>
      refine Keeps.trans ?_ (Keeps.of (State.clkSwitch_keeps _ _ _) rfl)
      exact h17
    next =>
      exact h17
  clear_value y18
  refine Keeps.ite ?_ ?_
  next =>
    refine Keeps.trans ?_ (Keeps.of (State.sdfStart_keeps _ _) rfl)
    exact h19
  next =>
    exact h19

theorem State.slewCap_keeps (s) : Keeps 256 s (State.slewCap s) := by
  unfold State.slewCap
  refine Keeps.upd_time rfl ?_ _
  exact Keeps.refl _

theorem State.loadObjFx_keeps (s v1) : Keeps 1603709426 s (State.loadObjFx s v1) := by
  unfold State.loadObjFx
  extract_lets +onlyGivenNames y0
  clear_value y0
  split
  next =>
    refine Keeps.trans ?_ (Keeps.of (State.ctxSwitch_keeps _ _ _) rfl)
    exact Keeps.of (State.loadObj_keeps _ _) rfl
  next =>
    refine Keeps.trans ?_ (Keeps.of (State.domSwitched_keeps _ _) rfl)
    refine Keeps.trans ?_ (Keeps.of (State.slewCap_keeps _) rfl)
    exact Keeps.of (State.loadObj_keeps _ _) rfl
  next =>
    refine Keeps.trans ?_ (Keeps.of (State.tpCheck_keeps _) rfl)
    exact Keeps.of (State.loadObj_keeps _ _) rfl
  next =>
    refine Keeps.trans ?_ (Keeps.of (State.canSwitch_keeps _ _ _) rfl)
    exact Keeps.of (State.loadObj_keeps _ _) rfl
  next =>
    exact Keeps.of (State.sdfLoad_keeps _ _) rfl
  next =>
    refine Keeps.trans ?_ (Keeps.of (State.estAnew_keeps _ _) rfl)
    exact Keeps.of (State.loadObj_keeps _ _) rfl
  next =>
    extract_lets +onlyGivenNames y1
    have h2 : Keeps 1603709426 s y1 := by
      unfold y1
      exact Keeps.of (State.loadObj_keeps _ _) rfl
    clear_value y1
    refine Keeps.upd_fus rfl (b := y1) ?_ _
    exact h2
  next =>
    exact Keeps.of (State.loadObj_keeps _ _) rfl

theorem State.loadScen_keeps (s) : Keeps 64 s (State.loadScen s) := by
  unfold State.loadScen
  exact Keeps.of (State.fset_keeps _ _ _) rfl

theorem State.loadFields_keeps (s) : Keeps 1603709426 s (State.loadFields s) := by
  unfold State.loadFields
  refine Keeps.trans ?_ (Keeps.of (State.loadScen_keeps _) rfl)
  refine Keeps.foldl ?_ ?_ _
  next => exact Keeps.refl _
  next => intro t0 x1; exact Keeps.of (State.loadObjFx_keeps _ _) rfl

theorem State.loadFilters_keeps (s v1) : Keeps 134217792 s (State.loadFilters s v1) := by
  unfold State.loadFilters
  extract_lets +onlyGivenNames y0
  clear_value y0
  exact Keeps.of (State.ctlMod_keeps _ _ _) rfl

theorem State.configLoad_keeps (s v1 v2 v3) : Keeps 1607904242 s (State.configLoad s v1 v2 v3) := by
  unfold State.configLoad
  extract_lets +onlyGivenNames y0
  clear_value y0
  extract_lets +onlyGivenNames y1
  clear_value y1
  extract_lets +onlyGivenNames y2
  have h3 : Keeps 1607904242 s y2 := by unfold y2; exact Keeps.upd_cfg rfl (Keeps.refl _) _
  clear_value y2
  extract_lets +onlyGivenNames y4
  have h5 : Keeps 1607904242 s y4 := by
    unfold y4
    refine Keeps.foldl ?_ ?_ _
    next => exact h3
    next =>
      intro t6 x7
      refine Keeps.trans ?_ (Keeps.of (State.imageGood_keeps _ _) rfl)
      refine Keeps.ite ?_ ?_
      next => exact Keeps.of (State.bankLoad_keeps _ _ _) rfl
      next => exact Keeps.refl _
  clear_value y4
  extract_lets +onlyGivenNames y8
  have h9 : Keeps 1607904242 s y8 := by
    unfold y8
    refine Keeps.trans ?_ (Keeps.of (State.loadFields_keeps _) rfl)
    exact h5
  clear_value y8
  extract_lets +onlyGivenNames y10
  have h11 : Keeps 1607904242 s y10 := by
    unfold y10
    refine Keeps.foldl ?_ ?_ _
    next => exact h9
    next => intro t12 x13; exact Keeps.of (State.loadFilters_keeps _ _) rfl
  clear_value y10
  extract_lets +onlyGivenNames y14
  have h15 : Keeps 1607904242 s y14 := by
    unfold y14
    refine Keeps.foldl ?_ ?_ _
    next => exact h11
    next => intro t16 x17; exact Keeps.of (State.igmpReports_keeps _ _) rfl
  clear_value y14
  refine Keeps.trans ?_ (Keeps.of (State.showPnl_keeps _) rfl)
  refine Keeps.trans ?_ (Keeps.of (State.fset_keeps _ _ _) rfl)
  exact h15

theorem State.rplExit_keeps (s) : Keeps 2147396594 s (State.rplExit s) := by
  unfold State.rplExit
  refine Keeps.trans ?_ (Keeps.of (State.showPnl_keeps _) rfl)
  refine Keeps.trans ?_ (Keeps.of (State.tpCheck_keeps _) rfl)
  refine State.withOp_keeps rfl _ _ _ ?_
  have h1 : Keeps 2147396594 s ((s.diaMod (fun d => { d with rpl := none })).showRpl 0 0) :=
    Keeps.trans (Keeps.of (Keeps.rpl s _ (fun _ r e => by cases e)) rfl) (Keeps.of (State.showRpl_keeps _ _ _) rfl)
  have h2 := h1.trans (Keeps.of (State.runtimeLost_keeps _) rfl)
  split
  · exact h2.trans (Keeps.of (State.configLoad_keeps _ _ _ _) rfl)
  · exact h2

theorem State.cmdReplayExit_keeps (s v1) : Keeps 2147396594 s (State.cmdReplayExit s v1).1 := by
  unfold State.cmdReplayExit
  refine State.gate_keeps rfl _ _ _ _ ?_
  intro t0
  refine Keeps.trans ?_ (Keeps.of (State.ok_keeps _) rfl)
  exact Keeps.of (State.rplExit_keeps _) rfl

theorem State.rplMod_keeps (s v1) (h1 : ∀ r, (v1 r).regs = r.regs) : Keeps 1073741824 s (State.rplMod s v1) := by
  refine ⟨?_, rfl⟩
  simp only [State.rplMod, State.diaMod, State.storesWf, State.rplWf, Bool.and_eq_true]
  cases s.dia.rpl with
  | none => exact id
  | some r => simp only [Option.map_some, h1]; exact id

theorem State.rplPut_keeps (s b v) :
    Keeps 1073741888 s (State.showRpl (State.rplMod s (fun r => { r with blocks := r.blocks ++ [b] })) v 0) := by
  refine Keeps.trans ?_ (Keeps.of (State.showRpl_keeps _ _ _) rfl)
  exact Keeps.of (State.rplMod_keeps s _ (fun _ => by rfl)) rfl

theorem State.rplStop_keeps (s v1) : Keeps 64 s (State.rplStop s v1) := by
  unfold State.rplStop
  exact Keeps.of (State.showRpl_keeps _ _ _) rfl

theorem State.rplFeed_keeps (s t : State) (b) (h : s.rplFeed b = some t) : Keeps 1073741888 s t := by
  unfold State.rplFeed at h
  split at h
  · cases h; exact Keeps.refl _
  · split at h
    · cases h; exact Keeps.refl _
    · split at h
      · cases h
      · dsimp only at h
        split at h
        · injection h with h; subst h; exact Keeps.of (State.rplStop_keeps _ _) rfl
        · split at h
          · split at h
            · injection h with h; subst h; exact Keeps.of (State.rplStop_keeps _ _) rfl
            · split at h
              · injection h with h; subst h; exact Keeps.of (State.rplStop_keeps _ _) rfl
              · injection h with h; subst h; exact Keeps.of (State.rplPut_keeps _ _ _) rfl
          · injection h with h; subst h; exact Keeps.of (State.rplPut_keeps _ _ _) rfl

theorem State.cmdReplayFeed_keeps (s v1) : Keeps 1073741888 s (State.cmdReplayFeed s v1).1 := by
  unfold State.cmdReplayFeed
  refine State.gate_keeps rfl _ _ _ _ (fun t => ?_)
  refine Keeps.ite1 (Keeps.of (State.no_keeps _ _) rfl) ?_
  split
  · next e => exact (Keeps.of (State.rplFeed_keeps _ _ _ e) rfl).trans (Keeps.of (State.ok_keeps _) rfl)
  · exact Keeps.of (State.waits_keeps _) rfl

theorem State.reqImage_keeps (s) : Keeps 16777216 s (State.reqImage s) := by
  unfold State.reqImage
  refine Keeps.ite ?_ ?_
  next => exact Keeps.refl _
  next => exact Keeps.of (State.redMod_keeps _ _) rfl

theorem State.cmdResync_keeps (s v1) : Keeps 16777216 s (State.cmdResync s v1).1 := by
  unfold State.cmdResync
  refine State.gate_keeps rfl _ _ _ _ ?_
  intro t0
  refine Keeps.trans ?_ (Keeps.of (State.ok_keeps _) rfl)
  refine Keeps.ite ?_ ?_
  next =>
    exact Keeps.refl _
  next =>
    exact Keeps.of (State.reqImage_keeps _) rfl

theorem State.arm_keeps (s v1) : Keeps 33687746 s (State.arm s v1) := by
  unfold State.arm
  extract_lets +onlyGivenNames y0
  have h1 : Keeps 33687746 s y0 := by
    unfold y0
    refine Keeps.trans ?_ (Keeps.of (State.safMod_keeps _ _) rfl)
    exact Keeps.of (State.fset_keeps _ _ _) rfl
  clear_value y0
  refine Keeps.foldl ?_ ?_ _
  next => exact h1
  next => intro t2 x3; exact Keeps.of (State.event_keeps _ _ _ _ _) rfl

theorem State.cmdSafAck_keeps (s v1) : Keeps 33687746 s (State.cmdSafAck s v1).1 := by
  unfold State.cmdSafAck
  extract_lets +onlyGivenNames y0
  clear_value y0
  refine State.gate_keeps rfl _ _ _ _ ?_
  intro t1
  split
  next => rename_i z2 z3 z4; exact Keeps.of (State.noD_keeps _ _ _) rfl
  next =>
    rename_i z5 z6
    refine Keeps.trans ?_ (Keeps.of (State.ok_keeps _) rfl)
    exact Keeps.of (State.arm_keeps _ _) rfl

theorem State.cmdSafClose_keeps (s v1) : Keeps 576 s (State.cmdSafClose s v1).1 := by
  unfold State.cmdSafClose
  refine State.gate_keeps rfl _ _ _ _ ?_
  intro t0
  refine Keeps.trans ?_ (Keeps.of (State.ok_keeps _) rfl)
  exact Keeps.of (State.safClose_keeps _) rfl

theorem State.commitWrite_keeps (s v1 v2 v3) : Keeps 1536 s (State.commitWrite s v1 v2 v3) := by
  unfold State.commitWrite
  extract_lets +onlyGivenNames y0
  clear_value y0
  refine Keeps.upd_cfg_flash rfl ?_ _ _
  exact Keeps.refl _

theorem State.changeLog_keeps (s v1 v2 v3 v4 v5 v6) : Keeps 8384 s (State.changeLog s v1 v2 v3 v4 v5 v6) := by
  unfold State.changeLog
  extract_lets +onlyGivenNames y0
  clear_value y0
  extract_lets +onlyGivenNames y1
  clear_value y1
  extract_lets +onlyGivenNames y2
  clear_value y2
  extract_lets +onlyGivenNames y3
  clear_value y3
  extract_lets +onlyGivenNames y4
  clear_value y4
  extract_lets +onlyGivenNames y5
  have h6 : Keeps 8384 s y5 := by
    unfold y5
    refine Keeps.trans ?_ (Keeps.of (State.wrB_keeps _ _ _ _) rfl)
    exact Keeps.of (State.wrB_keeps _ _ _ _) rfl
  clear_value y5
  refine Keeps.trans ?_ (Keeps.of (State.fset_keeps _ _ _) rfl)
  refine Keeps.upd_d0 rfl (b := y5) ?_ _
  exact h6

theorem State.logObjs_keeps (s v1 v2 v3) : Keeps 8384 s (State.logObjs s v1 v2 v3) := by
  unfold State.logObjs
  refine Keeps.foldl ?_ ?_ _
  next => exact Keeps.refl _
  next => intro t0 x1; exact Keeps.of (State.changeLog_keeps _ _ _ _ _ _ _) rfl

theorem State.cmdSafCommit_keeps (s v1) : Keeps 143046 s (State.cmdSafCommit s v1).1 := by
  unfold State.cmdSafCommit
  refine State.gate_keeps rfl _ _ _ _ ?_
  intro t0
  split
  extract_lets +onlyGivenNames y1
  clear_value y1
  split
  next =>
    exact Keeps.of (State.noD_keeps _ _ _) rfl
  next =>
    refine Keeps.ite1 ?_ ?_
    next =>
      exact Keeps.of (State.no_keeps _ _) rfl
    next =>
      refine Keeps.ite1 ?_ ?_
      next =>
        exact Keeps.of (State.waits_keeps _) rfl
      next =>
        split
        rename_i z2 z3 z4
        have k5 : Keeps 143046 t0 z2 := by
          refine Keeps.fst z4 ?_
          exact Keeps.of (State.flashTry_keeps _) rfl
        refine Keeps.ite1 ?_ ?_
        next =>
          refine Keeps.trans ?_ (Keeps.of (State.no_keeps _ _) rfl)
          exact k5
        next =>
          extract_lets +onlyGivenNames y6
          have h7 : Keeps 143046 t0 y6 := by
            unfold y6
            refine Keeps.trans ?_ (Keeps.of (State.commitWrite_keeps _ _ _ _) rfl)
            refine Keeps.trans ?_ (Keeps.of (State.logObjs_keeps _ _ _ _) rfl)
            exact k5
          clear_value y6
          refine Keeps.trans ?_ (Keeps.of (State.ok_keeps _) rfl)
          refine Keeps.trans ?_ (Keeps.of (State.event_keeps _ _ _ _ _) rfl)
          refine Keeps.upd_cfg rfl (b := y6) ?_ _
          exact h7

theorem State.newId_keeps (s) : Keeps 516 s (State.newId s).1 := by
  unfold State.newId
  extract_lets +onlyGivenNames y0
  clear_value y0
  dsimp only
  refine Keeps.upd_cfg rfl (b := s.tick1) ?_ _
  exact Keeps.of (State.tick1_keeps _) rfl

theorem State.okR_keeps (s v1) : Keeps 0 s (State.okR s v1).1 := by
  unfold State.okR
  dsimp only
  exact Keeps.refl _

theorem State.pwFail_keeps (s) : Keeps 33695938 s (State.pwFail s) := by
  unfold State.pwFail
  extract_lets +onlyGivenNames y0
  clear_value y0
  extract_lets +onlyGivenNames y1
  clear_value y1
  extract_lets +onlyGivenNames y2
  clear_value y2
  extract_lets +onlyGivenNames y3
  have h4 : Keeps 33695938 s y3 := by unfold y3; exact Keeps.upd_d0_saf rfl (Keeps.refl _) _ _
  clear_value y3
  extract_lets +onlyGivenNames y5
  have h6 : Keeps 33695938 s y5 := by
    unfold y5
    refine Keeps.trans ?_ (Keeps.of (State.event_keeps _ _ _ _ _) rfl)
    refine Keeps.trans ?_ (Keeps.of (State.ledger_keeps _ _ _) rfl)
    refine Keeps.trans ?_ (Keeps.of (State.fset_keeps _ _ _) rfl)
    refine Keeps.trans ?_ (Keeps.of (State.finc_keeps _ _) rfl)
    exact h4
  clear_value y5
  refine Keeps.ite ?_ ?_
  next => exact h6
  next =>
    extract_lets +onlyGivenNames y7
    clear_value y7
    refine Keeps.trans ?_ (Keeps.of (State.changeLog_keeps _ _ _ _ _ _ _) rfl)
    refine Keeps.trans ?_ (Keeps.of (State.event_keeps _ _ _ _ _) rfl)
    refine Keeps.trans ?_ (Keeps.of (State.ledger_keeps _ _ _) rfl)
    exact h6

theorem State.pwOk_keeps (s) : Keeps 8256 s (State.pwOk s) := by
  unfold State.pwOk
  refine Keeps.trans ?_ (Keeps.of (State.fset_keeps _ _ _) rfl)
  exact Keeps.upd_d0 rfl (Keeps.refl _) _

theorem State.tryPw_keeps {M : Nat} (hM : 33695938 ||| M = M) (s v1 v2) (hv2 : ∀ x0, Keeps M x0 (v2 x0).1) : Keeps M s (State.tryPw s v1 v2).1 := by
  unfold State.tryPw
  split
  next => rename_i z0 z1; exact Keeps.of (State.no_keeps _ _) (mask_trans (o := 33695938) rfl hM)
  next =>
    rename_i z2 z3 z4
    refine Keeps.ite1 ?_ ?_
    next => exact Keeps.of (State.noD_keeps _ _ _) (mask_trans (o := 33695938) rfl hM)
    next =>
      refine Keeps.ite1 ?_ ?_
      next => refine Keeps.trans ?_ (hv2 _); exact Keeps.of (State.pwOk_keeps _) (mask_trans (o := 33695938) rfl hM)
      next =>
        refine Keeps.trans ?_ (Keeps.of (State.no_keeps _ _) (mask_trans (o := 33695938) rfl hM))
        exact Keeps.of (State.pwFail_keeps _) (mask_trans (o := 33695938) rfl hM)

theorem State.cmdSafOpen_keeps (s v1) : Keeps 33696454 s (State.cmdSafOpen s v1).1 := by
  unfold State.cmdSafOpen
  refine State.gate_keeps rfl _ _ _ _ ?_
  intro t0
  refine Keeps.ite1 ?_ ?_
  next => exact Keeps.of (State.no_keeps _ _) rfl
  next =>
    refine Keeps.ite1 ?_ ?_
    next => exact Keeps.of (State.no_keeps _ _) rfl
    next =>
      refine State.tryPw_keeps rfl _ _ _ ?_
      intro t1
      split
      rename_i z2 z3 z4 z5
      have k6 : Keeps 33696454 t1 z3 := by refine Keeps.fst z5 ?_; exact Keeps.of (State.newId_keeps _) rfl
      refine Keeps.trans ?_ (Keeps.of (State.okR_keeps _ _) rfl)
      refine Keeps.trans ?_ (Keeps.of (State.fset_keeps _ _ _) rfl)
      refine Keeps.upd_cfg rfl (b := z3) ?_ _
      exact k6

theorem State.pwStore_keeps (s v1) : Keeps 33554500 s (State.pwStore s v1) := by
  unfold State.pwStore
  extract_lets +onlyGivenNames y0
  clear_value y0
  refine Keeps.trans ?_ (Keeps.of (State.fput_keeps _ _ _) rfl)
  refine Keeps.trans ?_ (Keeps.of (State.safMod_keeps _ _) rfl)
  exact Keeps.upd_free rfl (Keeps.refl _) _

theorem State.pwWrite_keeps (s v1 v2) : Keeps 33562820 s (State.pwWrite s v1 v2).1 := by
  unfold State.pwWrite
  refine Keeps.ite1 ?_ ?_
  next => exact Keeps.of (State.waits_keeps _) rfl
  next =>
    split
    rename_i z0 z1 z2 z3
    have k4 : Keeps 33562820 s z1 := by refine Keeps.fst z3 ?_; exact Keeps.of (State.flashTry_keeps _) rfl
    refine Keeps.ite1 ?_ ?_
    next =>
      refine Keeps.trans ?_ (Keeps.of (State.ok_keeps _) rfl)
      refine Keeps.trans ?_ (Keeps.of (State.changeLog_keeps _ _ _ _ _ _ _) rfl)
      refine Keeps.trans ?_ (Keeps.of (State.pwStore_keeps _ _) rfl)
      exact k4
    next => refine Keeps.trans ?_ (Keeps.of (State.no_keeps _ _) rfl); exact k4

theorem State.cmdSafPassword_keeps (s v1) : Keeps 33695942 s (State.cmdSafPassword s v1).1 := by
  unfold State.cmdSafPassword
  extract_lets +onlyGivenNames y0
  clear_value y0
  split
  rename_i z1 z2 z3 z4
  extract_lets +onlyGivenNames y5
  clear_value y5
  refine State.gate_keeps rfl _ _ _ _ ?_
  intro t6
  split
  next =>
    rename_i z7 z8
    refine Keeps.ite1 ?_ ?_
    next => exact Keeps.of (State.no_keeps _ _) rfl
    next => exact Keeps.of (State.pwWrite_keeps _ _ _) rfl
  next =>
    rename_i z9 z10 z11
    refine Keeps.ite1 ?_ ?_
    next => exact Keeps.of (State.no_keeps _ _) rfl
    next => refine State.tryPw_keeps rfl _ _ _ ?_; intro t12; exact Keeps.of (State.pwWrite_keeps _ _ _) rfl

theorem State.latchClear_keeps (s v1) : Keeps 33728706 s (State.latchClear s v1) := by
  unfold State.latchClear
  extract_lets +onlyGivenNames y0
  clear_value y0
  extract_lets +onlyGivenNames y1
  have h2 : Keeps 33728706 s y1 := by unfold y1; exact Keeps.of (State.safMod_keeps _ _) rfl
  clear_value y1
  extract_lets +onlyGivenNames y3
  have h4 : Keeps 33728706 s y3 := by
    unfold y3
    refine Keeps.trans ?_ (Keeps.of (State.showSaf_keeps _) rfl)
    refine Keeps.trans ?_ (Keeps.of (State.fset_keeps _ _ _) rfl)
    exact h2
  clear_value y3
  extract_lets +onlyGivenNames y5
  have h6 : Keeps 33728706 s y5 := by
    unfold y5
    refine Keeps.foldl ?_ ?_ _
    next => exact h4
    next =>
      intro t7 x8
      extract_lets +onlyGivenNames y9
      clear_value y9
      extract_lets +onlyGivenNames y10
      clear_value y10
      extract_lets +onlyGivenNames y11
      have h12 : Keeps 33728706 t7 y11 := by unfold y11; exact Keeps.of (State.setReg_keeps _ _ _) rfl
      clear_value y11
      refine Keeps.trans ?_ (Keeps.of (State.event_keeps _ _ _ _ _) rfl)
      refine Keeps.trans ?_ (Keeps.of (State.clearAlarmD_keeps _ _ _ _ _) rfl)
      exact h12
  clear_value y5
  refine Keeps.trans ?_ (Keeps.of (State.changeLog_keeps _ _ _ _ _ _ _) rfl)
  exact h6

theorem State.cmdSafReset_keeps (s v1) : Keeps 33728706 s (State.cmdSafReset s v1).1 := by
  unfold State.cmdSafReset
  refine State.gate_keeps rfl _ _ _ _ ?_
  intro t0
  extract_lets +onlyGivenNames y1
  have h2 : Keeps 33728706 t0 y1 := by
    unfold y1
    refine Keeps.ite ?_ ?_
    next =>
      exact Keeps.of (State.finc_keeps _ _) rfl
    next =>
      exact Keeps.refl _
  clear_value y1
  refine Keeps.ite1 ?_ ?_
  next =>
    refine Keeps.trans ?_ (Keeps.of (State.no_keeps _ _) rfl)
    exact h2
  next =>
    refine Keeps.ite1 ?_ ?_
    next =>
      refine Keeps.trans ?_ (Keeps.of (State.no_keeps _ _) rfl)
      exact h2
    next =>
      refine Keeps.trans ?_ (Keeps.of (State.ok_keeps _) rfl)
      exact Keeps.of (State.latchClear_keeps _ _) rfl

theorem State.cmdSafTrip_keeps (s v1) : Keeps 1132636402 s (State.cmdSafTrip s v1).1 := by
  unfold State.cmdSafTrip
  refine State.gate_keeps rfl _ _ _ _ ?_
  intro t0
  refine Keeps.trans ?_ (Keeps.of (State.ok_keeps _) rfl)
  refine Keeps.trans ?_ (Keeps.of (State.changeLog_keeps _ _ _ _ _ _ _) rfl)
  exact Keeps.of (State.trip_keeps _ _ _ _ _ _) rfl

theorem State.sdfStartAll_keeps (s v1) : Keeps 1401071858 s (State.sdfStartAll s v1).1 := by
  unfold State.sdfStartAll
  extract_lets +onlyGivenNames y0
  clear_value y0
  extract_lets +onlyGivenNames y1
  clear_value y1
  split
  next => rename_i z2 z3 z4 z5; dsimp only; exact Keeps.of (State.startRefused_keeps _ _ _) rfl
  next =>
    rename_i z6 z7
    dsimp only
    refine Keeps.foldl ?_ ?_ _
    next => exact Keeps.refl _
    next => intro t8 x9; exact Keeps.of (State.sdfBegin_keeps _ _) rfl

theorem State.cmdSdfStart_keeps (s v1) : Keeps 1401071858 s (State.cmdSdfStart s v1).1 := by
  unfold State.cmdSdfStart
  split
  next =>
    rename_i z0 z1 z2
    have k3 : Keeps 1401071858 s z1 := by refine Keeps.fst z2 ?_; exact Keeps.of (State.sdfStartAll_keeps _ _) rfl
    refine Keeps.trans ?_ (Keeps.of (State.ok_keeps _) rfl)
    exact k3
  next =>
    rename_i z4 z5 z6 z7 z8
    have k9 : Keeps 1401071858 s z5 := by refine Keeps.fst z8 ?_; exact Keeps.of (State.sdfStartAll_keeps _ _) rfl
    refine Keeps.trans ?_ (Keeps.of (State.noD_keeps _ _ _) rfl)
    exact k9

theorem State.cmdSdfStop_keeps (s v1) : Keeps 1401071858 s (State.cmdSdfStop s v1).1 := by
  unfold State.cmdSdfStop
  refine Keeps.trans ?_ (Keeps.of (State.ok_keeps _) rfl)
  refine Keeps.foldl ?_ ?_ _
  next => exact Keeps.refl _
  next => intro t0 x1; exact Keeps.of (State.sdfStop_keeps _ _) rfl

theorem State.uartPut_keeps (s v1 v2) : Keeps 134217728 s (State.uartPut s v1 v2) := by
  unfold State.uartPut
  exact Keeps.upd_can rfl (Keeps.refl _) _

theorem State.uartQueue_keeps (s v1 v2) : Keeps 134217728 s (State.uartQueue s v1 v2) := by
  unfold State.uartQueue
  exact Keeps.of (State.uartPut_keeps _ _ _) rfl

theorem State.cmdUartSend_keeps (s v1) : Keeps 134217728 s (State.cmdUartSend s v1).1 := by
  unfold State.cmdUartSend
  extract_lets +onlyGivenNames y0
  clear_value y0
  extract_lets +onlyGivenNames y1
  clear_value y1
  refine State.gate_keeps rfl _ _ _ _ ?_
  intro t2
  refine Keeps.ite1 ?_ ?_
  next => exact Keeps.of (State.no_keeps _ _) rfl
  next => refine Keeps.trans ?_ (Keeps.of (State.ok_keeps _) rfl); exact Keeps.of (State.uartQueue_keeps _ _ _) rfl

theorem State.runHigh_keeps (s v1 v2) : Keeps 4294897654 s (State.runHigh s v1 v2).1 := by
  unfold State.runHigh
  split
  next => rename_i z0; exact Keeps.of (State.cmdKeyClaim_keeps _ _) rfl
  next => rename_i z1; exact Keeps.of (State.cmdKeyTransfer_keeps _ _) rfl
  next => rename_i z2; exact Keeps.of (State.cmdKeyRelinquish_keeps _ _) rfl
  next => rename_i z3; exact Keeps.of (State.cmdResync_keeps _ _) rfl
  next => rename_i z4; exact Keeps.of (State.cmdDisagreeClear_keeps _ _) rfl
  next => rename_i z5; exact Keeps.of (State.cmdSafOpen_keeps _ _) rfl
  next => rename_i z6; exact Keeps.of (State.cmdSafClose_keeps _ _) rfl
  next => rename_i z7; exact Keeps.of (State.cmdSafPassword_keeps _ _) rfl
  next => rename_i z8; exact Keeps.of (State.cmdSafCommit_keeps _ _) rfl
  next => rename_i z9; exact Keeps.of (State.cmdSafAck_keeps _ _) rfl
  next => rename_i z10; exact Keeps.of (State.cmdSafReset_keeps _ _) rfl
  next => rename_i z11; exact Keeps.of (State.cmdSafTrip_keeps _ _) rfl
  next => rename_i z12; exact Keeps.of (State.cmdLogStart_keeps _ _) rfl
  next => rename_i z13; exact Keeps.of (State.cmdLogStop_keeps _ _) rfl
  next => rename_i z14; exact Keeps.of (State.cmdLogExchange_keeps _ _) rfl
  next => rename_i z15; exact Keeps.of (State.cmdLogChange_keeps _ _) rfl
  next => rename_i z16; exact Keeps.of (State.cmdPtWrite_keeps _ _) rfl
  next => rename_i z17; exact Keeps.of (State.cmdGnsSnap_keeps _ _) rfl
  next => rename_i z18; exact Keeps.of (State.cmdGnsForget_keeps _ _) rfl
  next => rename_i z19; exact Keeps.of (State.cmdCanSend_keeps _ _) rfl
  next => rename_i z20; exact Keeps.of (State.cmdUartSend_keeps _ _) rfl
  next => rename_i z21; exact Keeps.of (State.cmdSdfStart_keeps _ _) rfl
  next => rename_i z22; exact Keeps.of (State.cmdSdfStop_keeps _ _) rfl
  next => rename_i z23; exact Keeps.of (State.cmdPnlUpdate_keeps _ _) rfl
  next => rename_i z24; exact Keeps.of (State.cmdPnlResume_keeps _ _) rfl
  next => rename_i z25; exact Keeps.of (State.cmdHarvest_keeps _ _) rfl
  next => rename_i z26; exact Keeps.of (State.cmdRecCtrl_keeps _ _) rfl
  next => rename_i z27; exact Keeps.of (State.cmdRecRead_keeps _ _) rfl
  next => rename_i z28; exact Keeps.of (State.cmdLedgerRead_keeps _ _) rfl
  next => rename_i z29; exact Keeps.of (State.cmdReadmit_keeps _ _) rfl
  next => rename_i z30; exact Keeps.of (State.cmdReplayEnter_keeps _ _) rfl
  next => rename_i z31; exact Keeps.of (State.cmdReplayFeed_keeps _ _) rfl
  next => rename_i z32; exact Keeps.of (State.cmdReplayExit_keeps _ _) rfl
  next => rename_i z33; exact Keeps.of (State.cmdPwrState_keeps _ _) rfl
  next =>
    rename_i z34 z35 z36 z37 z38 z39 z40 z41 z42 z43 z44 z45 z46 z47 z48 z49 z50 z51 z52 z53 z54 z55 z56 z57 z58 z59 z60 z61 z62 z63 z64 z65 z66 z67 z68
    exact Keeps.of (State.no_keeps _ _) rfl

theorem State.cmdListed_keeps (s v1 v2 v3) : Keeps 16777216 s (State.cmdListed s v1 v2 v3).1 := by
  unfold State.cmdListed
  refine State.gate_keeps rfl _ _ _ _ ?_
  intro t0
  exact Keeps.of (State.list_keeps _ _ _) rfl

theorem State.cmdAlignCommit_keeps (s v1) : Keeps 16777216 s (State.cmdAlignCommit s v1).1 := by
  unfold State.cmdAlignCommit
  exact Keeps.of (State.cmdListed_keeps _ _ _ _) rfl

theorem State.cmdAlignRevert_keeps (s v1) : Keeps 16777216 s (State.cmdAlignRevert s v1).1 := by
  unfold State.cmdAlignRevert
  exact Keeps.of (State.cmdListed_keeps _ _ _ _) rfl

theorem State.cfgClose_keeps (s) : Keeps 512 s (State.cfgClose s) := by
  unfold State.cfgClose
  exact Keeps.upd_cfg rfl (Keeps.refl _) _

theorem State.cmdCfgAbort_keeps (s v1) : Keeps 512 s (State.cmdCfgAbort s v1).1 := by
  unfold State.cmdCfgAbort
  refine State.gate_keeps rfl _ _ _ _ ?_
  intro t0
  refine Keeps.trans ?_ (Keeps.of (State.ok_keeps _) rfl)
  exact Keeps.of (State.cfgClose_keeps _) rfl

theorem State.cmdCfgCommit_keeps (s v1) : Keeps 1540 s (State.cmdCfgCommit s v1).1 := by
  unfold State.cmdCfgCommit
  refine State.gate_keeps rfl _ _ _ _ ?_
  intro t0
  split
  rename_i z1 z2 z3 z4
  extract_lets +onlyGivenNames y5
  clear_value y5
  extract_lets +onlyGivenNames y6
  clear_value y6
  extract_lets +onlyGivenNames y7
  clear_value y7
  split
  next => rename_i z8 z9 z10; exact Keeps.of (State.noD_keeps _ _ _) rfl
  next =>
    rename_i z11 z12
    refine Keeps.ite1 ?_ ?_
    next => exact Keeps.of (State.waits_keeps _) rfl
    next =>
      split
      rename_i z13 z14 z15 z16
      have k17 : Keeps 1540 t0 z14 := by refine Keeps.fst z16 ?_; exact Keeps.of (State.flashTry_keeps _) rfl
      refine Keeps.ite1 ?_ ?_
      next => refine Keeps.trans ?_ (Keeps.of (State.no_keeps _ _) rfl); exact k17
      next =>
        refine Keeps.trans ?_ (Keeps.of (State.ok_keeps _) rfl)
        refine Keeps.trans ?_ (Keeps.of (State.cfgClose_keeps _) rfl)
        refine Keeps.trans ?_ (Keeps.of (State.commitWrite_keeps _ _ _ _) rfl)
        exact k17

theorem State.cmdCfgOpen_keeps (s v1) : Keeps 516 s (State.cmdCfgOpen s v1).1 := by
  unfold State.cmdCfgOpen
  refine State.gate_keeps rfl _ _ _ _ ?_
  intro t0
  refine Keeps.ite1 ?_ ?_
  next => exact Keeps.of (State.no_keeps _ _) rfl
  next =>
    split
    rename_i z1 z2 z3 z4
    have k5 : Keeps 516 t0 z2 := by refine Keeps.fst z4 ?_; exact Keeps.of (State.newId_keeps _) rfl
    refine Keeps.trans ?_ (Keeps.of (State.okR_keeps _ _) rfl)
    refine Keeps.upd_cfg rfl (b := z2) ?_ _
    exact k5

theorem State.cmdCfgRevert_keeps (s v1) : Keeps 1603709938 s (State.cmdCfgRevert s v1).1 := by
  unfold State.cmdCfgRevert
  refine State.gate_keeps rfl _ _ _ _ ?_
  intro t0
  extract_lets +onlyGivenNames y1
  have h2 : Keeps 1603709938 t0 y1 := by unfold y1; exact Keeps.of (State.loadFields_keeps _) rfl
  clear_value y1
  refine Keeps.trans ?_ (Keeps.of (State.ok_keeps _) rfl)
  refine Keeps.upd_cfg rfl (b := y1) ?_ _
  exact h2

theorem State.toConfig_keeps (s) : Keeps 2147396594 s (State.toConfig s) := by
  unfold State.toConfig
  extract_lets +onlyGivenNames y0
  have h1 : Keeps 2147396594 s y0 := by
    unfold y0
    refine Keeps.ite ?_ ?_
    next =>
      exact Keeps.of (State.rplExit_keeps _) rfl
    next =>
      exact Keeps.refl _
  clear_value y0
  refine Keeps.trans ?_ (Keeps.of (State.safRole_keeps _) rfl)
  refine Keeps.trans ?_ (Keeps.of (State.reqGone_keeps _) rfl)
  refine Keeps.trans ?_ (Keeps.of (State.setQual_keeps _ _) rfl)
  refine Keeps.trans ?_ (Keeps.of (State.fset_keeps _ _ _) rfl)
  refine Keeps.upd_op_role rfl (b := y0) ?_ _ _
  exact h1

theorem State.cmdEnterConfig_keeps (s v1) : Keeps 2147396594 s (State.cmdEnterConfig s v1).1 := by
  unfold State.cmdEnterConfig
  refine State.gate_keeps rfl _ _ _ _ ?_
  intro t0
  refine Keeps.trans ?_ (Keeps.of (State.ok_keeps _) rfl)
  exact Keeps.of (State.toConfig_keeps _) rfl

theorem State.cmdGetInfo_keeps (s v1) : Keeps 0 s (State.cmdGetInfo s v1).1 := by
  unfold State.cmdGetInfo
  exact Keeps.of (State.okR_keeps _ _) rfl

theorem State.cmdImgAppend_keeps (s v1) : Keeps 512 s (State.cmdImgAppend s v1).1 := by
  unfold State.cmdImgAppend
  split
  next => rename_i z0 z1; exact Keeps.of (State.no_keeps _ _) rfl
  next =>
    rename_i z2 z3 z4
    extract_lets +onlyGivenNames y5
    clear_value y5
    refine Keeps.ite1 ?_ ?_
    next => exact Keeps.of (State.bad_keeps _ _) rfl
    next =>
      refine Keeps.ite1 ?_ ?_
      next => exact Keeps.of (State.no_keeps _ _) rfl
      next => refine Keeps.trans ?_ (Keeps.of (State.ok_keeps _) rfl); exact Keeps.upd_cfg rfl (Keeps.refl _) _

theorem State.cmdImgBegin_keeps (s v1) : Keeps 512 s (State.cmdImgBegin s v1).1 := by
  unfold State.cmdImgBegin
  extract_lets +onlyGivenNames y0
  clear_value y0
  extract_lets +onlyGivenNames y1
  clear_value y1
  extract_lets +onlyGivenNames y2
  clear_value y2
  refine Keeps.ite1 ?_ ?_
  next => exact Keeps.of (State.bad_keeps _ _) rfl
  next =>
    refine State.gate_keeps rfl _ _ _ _ ?_
    intro t3
    refine Keeps.ite1 ?_ ?_
    next => exact Keeps.of (State.no_keeps _ _) rfl
    next =>
      refine Keeps.ite1 ?_ ?_
      next => exact Keeps.of (State.no_keeps _ _) rfl
      next =>
        refine Keeps.ite1 ?_ ?_
        next => exact Keeps.of (State.no_keeps _ _) rfl
        next => refine Keeps.trans ?_ (Keeps.of (State.ok_keeps _) rfl); exact Keeps.upd_cfg rfl (Keeps.refl _) _

theorem State.cmdImgCancel_keeps (s v1) : Keeps 512 s (State.cmdImgCancel s v1).1 := by
  unfold State.cmdImgCancel
  refine Keeps.ite1 ?_ ?_
  next => exact Keeps.of (State.no_keeps _ _) rfl
  next => refine Keeps.trans ?_ (Keeps.of (State.ok_keeps _) rfl); exact Keeps.upd_cfg rfl (Keeps.refl _) _

theorem State.fwWrite_keeps (s v1) : Keeps 1024 s (State.fwWrite s v1) := by
  unfold State.fwWrite
  extract_lets +onlyGivenNames y0
  clear_value y0
  extract_lets +onlyGivenNames y1
  clear_value y1
  exact Keeps.upd_flash rfl (Keeps.refl _) _

theorem State.showProg_keeps (s) : Keeps 64 s (State.showProg s) := by
  unfold State.showProg
  split
  next =>
    rename_i z0 z1
    refine Keeps.trans ?_ (Keeps.of (State.fset_keeps _ _ _) rfl)
    refine Keeps.foldl ?_ ?_ _
    next => exact Keeps.refl _
    next =>
      intro t2 x3
      refine Keeps.trans ?_ (Keeps.of (State.fset_keeps _ _ _) rfl)
      exact Keeps.of (State.fset_keeps _ _ _) rfl
  next =>
    rename_i z4 z5 z6
    refine Keeps.trans ?_ (Keeps.of (State.fset_keeps _ _ _) rfl)
    refine Keeps.foldl ?_ ?_ _
    next => exact Keeps.refl _
    next =>
      intro t7 x8
      refine Keeps.trans ?_ (Keeps.of (State.fset_keeps _ _ _) rfl)
      exact Keeps.of (State.fset_keeps _ _ _) rfl

theorem State.lgcInstall_keeps (s v1 v2 v3) : Keeps 536870976 s (State.lgcInstall s v1 v2 v3) := by
  unfold State.lgcInstall
  refine Keeps.trans ?_ (Keeps.of (State.showProg_keeps _) rfl)
  exact Keeps.of (State.lgcMod_keeps _ _) rfl

theorem State.wrPool_keeps (s v1 v2) : Keeps 1073741952 s (State.wrPool s v1 v2) := by
  unfold State.wrPool
  extract_lets +onlyGivenNames y0
  have h1 : Keeps 1073741952 s y0 := by
    unfold y0
    exact Keeps.of (State.wrB_keeps _ _ _ _) rfl
  clear_value y0
  refine Keeps.upd_dia rfl (b := y0) ?_ _ rfl
  exact h1

theorem State.lgcLoad_keeps (s v1) : Keeps 1610746050 s (State.lgcLoad s v1).1 := by
  unfold State.lgcLoad
  split
  refine Keeps.ite1 ?_ ?_
  next =>
    refine Keeps.mk1 ?_
    exact Keeps.of (State.fset_keeps _ _ _) rfl
  next =>
    extract_lets +onlyGivenNames y0
    clear_value y0
    extract_lets +onlyGivenNames y1
    have h2 : Keeps 1610746050 s y1 := by
      unfold y1
      exact Keeps.of (State.wrPool_keeps _ _ _) rfl
    clear_value y1
    refine Keeps.ite1 ?_ ?_
    next =>
      refine Keeps.mk1 ?_
      refine Keeps.trans ?_ (Keeps.of (State.lgcMod_keeps _ _) rfl)
      exact h2
    next =>
      extract_lets +onlyGivenNames y3
      have h4 : Keeps 1610746050 s y3 := by
        unfold y3
        refine Keeps.trans ?_ (Keeps.of (State.lgcMod_keeps _ _) rfl)
        refine Keeps.trans ?_ (Keeps.of (State.lgcInstall_keeps _ _ _ _) rfl)
        exact h2
      clear_value y3
      refine Keeps.mk1 ?_
      refine Keeps.trans ?_ (Keeps.of (State.setLg_keeps _ _) rfl)
      refine Keeps.trans ?_ (Keeps.of (State.fset_keeps _ _ _) rfl)
      exact h4

end Sys2Proof.Machine
end

