-- ==== Sys2Proof/Laws/Keeps3.lean ====
section
/-!
SUPPORT. Operations keep what `Keeps` says, callees before callers: part 3 of 10.
-/

namespace Sys2Proof.Machine

theorem State.cmdImgEnd_keeps (s v1) : Keeps 1610747590 s (State.cmdImgEnd s v1).1 := by
  unfold State.cmdImgEnd
  split
  next => rename_i z0 z1; exact Keeps.of (State.no_keeps _ _) rfl
  next =>
    rename_i z2 z3 z4
    extract_lets +onlyGivenNames y5
    clear_value y5
    extract_lets +onlyGivenNames y6
    clear_value y6
    extract_lets +onlyGivenNames y7
    have h8 : Keeps 1610747590 s y7 := by unfold y7; exact Keeps.upd_cfg rfl (Keeps.refl _) _
    clear_value y7
    refine Keeps.ite1 ?_ ?_
    next => refine Keeps.trans ?_ (Keeps.of (State.no_keeps _ _) rfl); exact h8
    next =>
      split
      next =>
        rename_i z9 z10
        split
        rename_i z11 z12 z13 z14
        refine Keeps.ite1 ?_ ?_
        next => refine Keeps.trans ?_ (Keeps.of (State.noD_keeps _ _ _) rfl); exact h8
        next =>
          refine Keeps.ite1 ?_ ?_
          next => exact Keeps.of (State.waits_keeps _) rfl
          next =>
            split
            rename_i z15 z16 z17 z18
            have k19 : Keeps 1610747590 s z16 := by
              refine Keeps.fst z18 ?_
              refine Keeps.trans ?_ (Keeps.of (State.flashTry_keeps _) rfl)
              exact h8
            refine Keeps.ite1 ?_ ?_
            next =>
              refine Keeps.trans ?_ (Keeps.of (State.ok_keeps _) rfl)
              refine Keeps.trans ?_ (Keeps.of (State.fwWrite_keeps _ _) rfl)
              exact k19
            next => refine Keeps.trans ?_ (Keeps.of (State.no_keeps _ _) rfl); exact k19
      next =>
        rename_i z20 z21
        split
        rename_i z22 z23 z24 z25
        have k26 : Keeps 1610747590 s z23 := by
          refine Keeps.fst z25 ?_
          refine Keeps.trans ?_ (Keeps.of (State.lgcLoad_keeps _ _) rfl)
          exact h8
        refine Keeps.ite1 ?_ ?_
        next => refine Keeps.trans ?_ (Keeps.of (State.ok_keeps _) rfl); exact k26
        next => refine Keeps.trans ?_ (Keeps.of (State.no_keeps _ _) rfl); exact k26
      next =>
        rename_i z27 z28 z29
        split
        rename_i z30 z31 z32 z33
        refine Keeps.ite1 ?_ ?_
        next => refine Keeps.trans ?_ (Keeps.of (State.noD_keeps _ _ _) rfl); exact h8
        next =>
          refine Keeps.trans ?_ (Keeps.of (State.ok_keeps _) rfl)
          refine Keeps.upd_cfg rfl (b := y7) ?_ _
          exact h8

theorem State.cmdLeaveConfig_keeps (s v1) : Keeps 50498290 s (State.cmdLeaveConfig s v1).1 := by
  unfold State.cmdLeaveConfig
  refine State.gate_keeps rfl _ _ _ _ ?_
  intro t0
  refine Keeps.trans ?_ (Keeps.of (State.ok_keeps _) rfl)
  refine Keeps.trans ?_ (Keeps.of (State.setRole_keeps _ _) rfl)
  exact Keeps.of (State.closeSess_keeps _) rfl

theorem State.cmdObjRead_keeps (s v1) : Keeps 0 s (State.cmdObjRead s v1).1 := by
  unfold State.cmdObjRead
  extract_lets +onlyGivenNames y0
  clear_value y0
  extract_lets +onlyGivenNames y1
  clear_value y1
  refine Keeps.ite1 ?_ ?_
  next => exact Keeps.of (State.no_keeps _ _) rfl
  next =>
    refine Keeps.ite1 ?_ ?_
    next => exact Keeps.of (State.bad_keeps _ _) rfl
    next =>
      extract_lets +onlyGivenNames y2
      clear_value y2
      split
      next => rename_i z3 z4 z5; dsimp only; exact Keeps.refl _
      next => rename_i z6 z7; exact Keeps.of (State.ok_keeps _) rfl

theorem State.stageObj_keeps (s v1) : Keeps 512 s (State.stageObj s v1) := by
  unfold State.stageObj
  refine Keeps.ite ?_ ?_
  next => exact Keeps.upd_cfg rfl (Keeps.refl _) _
  next => exact Keeps.upd_cfg rfl (Keeps.refl _) _

theorem State.cmdObjStage_keeps (s v1) : Keeps 512 s (State.cmdObjStage s v1).1 := by
  unfold State.cmdObjStage
  extract_lets +onlyGivenNames y0
  clear_value y0
  extract_lets +onlyGivenNames y1
  clear_value y1
  refine State.gate_keeps rfl _ _ _ _ ?_
  intro t2
  refine Keeps.ite1 ?_ ?_
  next => exact Keeps.of (State.no_keeps _ _) rfl
  next =>
    refine State.gate_keeps rfl _ _ _ _ ?_
    intro t3
    split
    next => rename_i z4 z5 z6; exact Keeps.of (State.bad_keeps _ _) rfl
    next =>
      rename_i z7 z8
      refine Keeps.trans ?_ (Keeps.of (State.ok_keeps _) rfl)
      exact Keeps.of (State.stageObj_keeps _ _) rfl

theorem State.cmdObjUnstage_keeps (s v1) : Keeps 512 s (State.cmdObjUnstage s v1).1 := by
  unfold State.cmdObjUnstage
  extract_lets +onlyGivenNames y0
  clear_value y0
  refine State.gate_keeps rfl _ _ _ _ ?_
  intro t1
  refine Keeps.ite1 ?_ ?_
  next => exact Keeps.of (State.no_keeps _ _) rfl
  next =>
    refine State.gate_keeps rfl _ _ _ _ ?_
    intro t2
    refine Keeps.trans ?_ (Keeps.of (State.ok_keeps _) rfl)
    exact Keeps.upd_cfg rfl (Keeps.refl _) _

theorem State.cmdOverlayCommit_keeps (s v1) : Keeps 536870916 s (State.cmdOverlayCommit s v1).1 := by
  unfold State.cmdOverlayCommit
  refine Keeps.ite1 ?_ ?_
  next => exact Keeps.of (State.no_keeps _ _) rfl
  next =>
    refine Keeps.ite1 ?_ ?_
    next => exact Keeps.of (State.waits_keeps _) rfl
    next =>
      split
      rename_i z0 z1 z2 z3
      have k4 : Keeps 536870916 s z1 := by refine Keeps.fst z3 ?_; exact Keeps.of (State.flashTry_keeps _) rfl
      refine Keeps.ite1 ?_ ?_
      next =>
        refine Keeps.trans ?_ (Keeps.of (State.ok_keeps _) rfl)
        refine Keeps.trans ?_ (Keeps.of (State.lgcMod_keeps _ _) rfl)
        exact k4
      next => refine Keeps.trans ?_ (Keeps.of (State.no_keeps _ _) rfl); exact k4

theorem State.cmdRefReadmit_keeps (s v1) : Keeps 16777216 s (State.cmdRefReadmit s v1).1 := by
  unfold State.cmdRefReadmit
  exact Keeps.of (State.cmdListed_keeps _ _ _ _) rfl

theorem State.cmdReset_keeps (s v1) : Keeps 0 s (State.cmdReset s v1).1 := by
  unfold State.cmdReset
  extract_lets +onlyGivenNames y0
  clear_value y0
  refine State.gate_keeps rfl _ _ _ _ ?_
  intro t1
  exact Keeps.of (State.ok_keeps _) rfl

theorem State.cmdScenEnable_keeps (s v1) : Keeps 16777216 s (State.cmdScenEnable s v1).1 := by
  unfold State.cmdScenEnable
  exact Keeps.of (State.cmdListed_keeps _ _ _ _) rfl

theorem State.cmdSetAuto_keeps (s v1) : Keeps 16777216 s (State.cmdSetAuto s v1).1 := by
  unfold State.cmdSetAuto
  exact Keeps.of (State.cmdListed_keeps _ _ _ _) rfl

theorem State.cmdSetFunction_keeps (s v1) : Keeps 16777216 s (State.cmdSetFunction s v1).1 := by
  unfold State.cmdSetFunction
  exact Keeps.of (State.cmdListed_keeps _ _ _ _) rfl

theorem State.cmdSetLimits_keeps (s v1) : Keeps 16777216 s (State.cmdSetLimits s v1).1 := by
  unfold State.cmdSetLimits
  exact Keeps.of (State.cmdListed_keeps _ _ _ _) rfl

theorem State.cmdSetOrigin_keeps (s v1) : Keeps 16777216 s (State.cmdSetOrigin s v1).1 := by
  unfold State.cmdSetOrigin
  exact Keeps.of (State.cmdListed_keeps _ _ _ _) rfl

theorem State.cmdSetPosition_keeps (s v1) : Keeps 16777216 s (State.cmdSetPosition s v1).1 := by
  unfold State.cmdSetPosition
  exact Keeps.of (State.cmdListed_keeps _ _ _ _) rfl

theorem State.cmdSetRtc_keeps (s v1) : Keeps 4096 s (State.cmdSetRtc s v1).1 := by
  unfold State.cmdSetRtc
  extract_lets +onlyGivenNames y0
  clear_value y0
  refine State.gate_keeps rfl _ _ _ _ ?_
  intro t1
  refine Keeps.trans ?_ (Keeps.of (State.ok_keeps _) rfl)
  exact Keeps.of (State.sysMod_keeps _ _) rfl

theorem State.cmdSetSpeed_keeps (s v1) : Keeps 16777216 s (State.cmdSetSpeed s v1).1 := by
  unfold State.cmdSetSpeed
  exact Keeps.of (State.cmdListed_keeps _ _ _ _) rfl

theorem State.cmdThrExclude_keeps (s v1) : Keeps 16777216 s (State.cmdThrExclude s v1).1 := by
  unfold State.cmdThrExclude
  exact Keeps.of (State.cmdListed_keeps _ _ _ _) rfl

theorem State.cmdTrackAppend_keeps (s v1) : Keeps 16777216 s (State.cmdTrackAppend s v1).1 := by
  unfold State.cmdTrackAppend
  exact Keeps.of (State.cmdListed_keeps _ _ _ _) rfl

theorem State.cmdTrackLoad_keeps (s v1) : Keeps 16777216 s (State.cmdTrackLoad s v1).1 := by
  unfold State.cmdTrackLoad
  exact Keeps.of (State.cmdListed_keeps _ _ _ _) rfl

theorem State.runLow_keeps (s v1 v2) : Keeps 2147401718 s (State.runLow s v1 v2).1 := by
  unfold State.runLow
  split
  next => rename_i z0; exact Keeps.of (State.cmdGetInfo_keeps _ _) rfl
  next => rename_i z1; exact Keeps.of (State.cmdEnterConfig_keeps _ _) rfl
  next => rename_i z2; exact Keeps.of (State.cmdLeaveConfig_keeps _ _) rfl
  next => rename_i z3; exact Keeps.of (State.cmdReset_keeps _ _) rfl
  next => rename_i z4; exact Keeps.of (State.cmdSetRtc_keeps _ _) rfl
  next => rename_i z5; exact Keeps.of (State.cmdCfgOpen_keeps _ _) rfl
  next => rename_i z6; exact Keeps.of (State.cmdCfgAbort_keeps _ _) rfl
  next => rename_i z7; exact Keeps.of (State.cmdObjStage_keeps _ _) rfl
  next => rename_i z8; exact Keeps.of (State.cmdObjRead_keeps _ _) rfl
  next => rename_i z9; exact Keeps.of (State.cmdObjUnstage_keeps _ _) rfl
  next => rename_i z10; exact Keeps.of (State.cmdCfgCommit_keeps _ _) rfl
  next => rename_i z11; exact Keeps.of (State.cmdCfgRevert_keeps _ _) rfl
  next => rename_i z12; exact Keeps.of (State.cmdImgBegin_keeps _ _) rfl
  next => rename_i z13; exact Keeps.of (State.cmdImgAppend_keeps _ _) rfl
  next => rename_i z14; exact Keeps.of (State.cmdImgEnd_keeps _ _) rfl
  next => rename_i z15; exact Keeps.of (State.cmdImgCancel_keeps _ _) rfl
  next => rename_i z16; exact Keeps.of (State.cmdAlignCommit_keeps _ _) rfl
  next => rename_i z17; exact Keeps.of (State.cmdAlignRevert_keeps _ _) rfl
  next => rename_i z18; exact Keeps.of (State.cmdOverlayCommit_keeps _ _) rfl
  next => rename_i z19; exact Keeps.of (State.cmdSetFunction_keeps _ _) rfl
  next => rename_i z20; exact Keeps.of (State.cmdSetPosition_keeps _ _) rfl
  next => rename_i z21; exact Keeps.of (State.cmdSetSpeed_keeps _ _) rfl
  next => rename_i z22; exact Keeps.of (State.cmdSetLimits_keeps _ _) rfl
  next => rename_i z23; exact Keeps.of (State.cmdTrackLoad_keeps _ _) rfl
  next => rename_i z24; exact Keeps.of (State.cmdTrackAppend_keeps _ _) rfl
  next => rename_i z25; exact Keeps.of (State.cmdSetOrigin_keeps _ _) rfl
  next => rename_i z26; exact Keeps.of (State.cmdScenEnable_keeps _ _) rfl
  next => rename_i z27; exact Keeps.of (State.cmdThrExclude_keeps _ _) rfl
  next => rename_i z28; exact Keeps.of (State.cmdRefReadmit_keeps _ _) rfl
  next => rename_i z29; exact Keeps.of (State.cmdSetAuto_keeps _ _) rfl
  next =>
    rename_i z30 z31 z32 z33 z34 z35 z36 z37 z38 z39 z40 z41 z42 z43 z44 z45 z46 z47 z48 z49 z50 z51 z52 z53 z54 z55 z56 z57 z58 z59 z60
    exact Keeps.of (State.no_keeps _ _) rfl

theorem State.runCmd_keeps (s v1 v2) : Keeps 4294901750 s (State.runCmd s v1 v2).1 := by
  unfold State.runCmd
  refine Keeps.ite1 ?_ ?_
  next => exact Keeps.of (State.no_keeps _ _) rfl
  next =>
    refine Keeps.ite1 ?_ ?_
    next => exact Keeps.of (State.no_keeps _ _) rfl
    next =>
      refine Keeps.ite1 ?_ ?_
      next => exact Keeps.of (State.runLow_keeps _ _ _) rfl
      next => exact Keeps.of (State.runHigh_keeps _ _ _) rfl

theorem State.laneRun_keeps (s v1) : Keeps 4294901758 s (State.laneRun s v1).1 := by
  unfold State.laneRun
  split
  next => rename_i z0 z1; dsimp only; exact Keeps.refl _
  next =>
    rename_i z2 z3 z4
    extract_lets +onlyGivenNames y5
    clear_value y5
    extract_lets +onlyGivenNames y6
    have h7 : Keeps 4294901758 s y6 := by unfold y6; exact Keeps.upd_hif rfl (Keeps.refl _) _
    clear_value y6
    split
    next =>
      rename_i z8 z9 z10 z11
      have k12 : Keeps 4294901758 s z9 := by
        refine Keeps.fst z11 ?_
        refine Keeps.ite1 ?_ ?_
        next => refine Keeps.trans ?_ (Keeps.of (State.no_keeps _ _) rfl); exact h7
        next => refine Keeps.trans ?_ (Keeps.of (State.runCmd_keeps _ _ _) rfl); exact h7
      dsimp only
      refine Keeps.trans ?_ (Keeps.of (State.finish_keeps _ _ _) rfl)
      exact k12
    next =>
      rename_i z13 z14 z15
      have k16 : Keeps 4294901758 s z14 := by
        refine Keeps.fst z15 ?_
        refine Keeps.ite1 ?_ ?_
        next => refine Keeps.trans ?_ (Keeps.of (State.no_keeps _ _) rfl); exact h7
        next => refine Keeps.trans ?_ (Keeps.of (State.runCmd_keeps _ _ _) rfl); exact h7
      dsimp only
      refine Keeps.upd_hif rfl (b := z14) ?_ _
      exact k16

theorem State.laneGo_keeps (s v1 v2) : Keeps 4294901758 s (State.laneGo s v1 v2) := by
  induction v2 generalizing s with
  | zero => exact Keeps.refl s
  | succ n ih =>
    have h : Keeps 4294901758 s (s.laneRun v1).1 := Keeps.of (State.laneRun_keeps s v1) rfl
    unfold State.laneGo
    split
    · next e => rw [e] at h; exact h.trans (ih _)
    · next e => rw [e] at h; exact h

theorem State.pump_keeps (s) : Keeps 4294901758 s (State.pump s) := by
  unfold State.pump
  extract_lets +onlyGivenNames y0
  clear_value y0
  refine Keeps.trans ?_ (Keeps.of (State.laneGo_keeps _ _ _) rfl)
  exact Keeps.of (State.laneGo_keeps _ _ _) rfl

theorem State.take_keeps (s v1 v2 v3) : Keeps 133696 s (State.take s v1 v2 v3) := by
  unfold State.take
  extract_lets +onlyGivenNames y0
  clear_value y0
  extract_lets +onlyGivenNames y1
  have h2 : Keeps 133696 s y1 := by
    unfold y1
    refine Keeps.trans ?_ (Keeps.of (State.touch_keeps _ _ _) rfl)
    refine Keeps.trans ?_ (Keeps.of (State.stage_keeps _ _ _ _) rfl)
    exact Keeps.of (State.fset_keeps _ _ _) rfl
  clear_value y1
  refine Keeps.upd_hif rfl (b := y1) ?_ _
  exact h2

theorem State.hostCmd_keeps (s v1 v2) : Keeps 4294901758 s (State.hostCmd s v1 v2) := by
  unfold State.hostCmd
  refine Keeps.ite ?_ ?_
  next => refine Keeps.trans ?_ (Keeps.of (State.pump_keeps _) rfl); exact Keeps.of (State.take_keeps _ _ _ _) rfl
  next => exact Keeps.refl _

theorem State.allocPut_keeps (s v1) : Keeps 4194304 s (State.allocPut s v1) := by
  unfold State.allocPut
  exact Keeps.upd_slv rfl (Keeps.refl _) _

theorem State.allocRecPut_keeps (s v1) : Keeps 131264 s (State.allocRecPut s v1) := by
  unfold State.allocRecPut
  extract_lets +onlyGivenNames y0
  clear_value y0
  extract_lets +onlyGivenNames y1
  clear_value y1
  refine Keeps.trans ?_ (Keeps.of (State.stage_keeps _ _ _ _) rfl)
  refine Keeps.trans ?_ (Keeps.of (State.fset_keeps _ _ _) rfl)
  exact Keeps.of (State.wrB_keeps _ _ _ _) rfl

theorem State.allocRecordRun_keeps (s) : Keeps 4325568 s (State.allocRecordRun s) := by
  unfold State.allocRecordRun
  split
  next => rename_i z0 z1; exact Keeps.refl _
  next =>
    rename_i z2 z3 z4
    refine Keeps.ite ?_ ?_
    next => exact Keeps.refl _
    next =>
      extract_lets +onlyGivenNames y5
      have h6 : Keeps 4325568 s y5 := by
        unfold y5
        refine Keeps.trans ?_ (Keeps.of (State.allocPut_keeps _ _) rfl)
        exact Keeps.of (State.allocRecPut_keeps _ _) rfl
      clear_value y5
      refine Keeps.ite ?_ ?_
      next => exact h6
      next =>
        extract_lets +onlyGivenNames y7
        clear_value y7
        extract_lets +onlyGivenNames y8
        clear_value y8
        refine Keeps.trans ?_ (Keeps.of (State.stage_keeps _ _ _ _) rfl)
        exact h6

theorem State.allocStart_keeps (s) : Keeps 4327618 s (State.allocStart s) := by
  unfold State.allocStart
  split
  next =>
    exact Keeps.refl _
  next =>
    refine Keeps.ite ?_ ?_
    next =>
      exact Keeps.refl _
    next =>
      refine Keeps.ite ?_ ?_
      next =>
        refine Keeps.foldl ?_ ?_ _
        next =>
          exact Keeps.of (State.allocPut_keeps _ _) rfl
        next =>
          intro t0 x1
          exact Keeps.of (State.fset_keeps _ _ _) rfl
      next =>
        extract_lets +onlyGivenNames y2
        clear_value y2
        extract_lets +onlyGivenNames y3
        clear_value y3
        extract_lets +onlyGivenNames y4
        clear_value y4
        extract_lets +onlyGivenNames y5
        clear_value y5
        extract_lets +onlyGivenNames y6
        clear_value y6
        extract_lets +onlyGivenNames y7
        have h8 : Keeps 4327618 s y7 := by
          unfold y7
          exact Keeps.of (State.allocPut_keeps _ _) rfl
        clear_value y7
        extract_lets +onlyGivenNames y9
        have h10 : Keeps 4327618 s y9 := by
          unfold y9
          refine Keeps.foldl ?_ ?_ _
          next =>
            exact h8
          next =>
            intro t11 x12
            exact Keeps.of (State.fset_keeps _ _ _) rfl
        clear_value y9
        extract_lets +onlyGivenNames y13
        have h14 : Keeps 4327618 s y13 := by
          unfold y13
          refine Keeps.foldl ?_ ?_ _
          next =>
            exact h10
          next =>
            intro t15 x16
            exact Keeps.of (State.event_keeps _ _ _ _ _) rfl
        clear_value y13
        refine Keeps.ite ?_ ?_
        next =>
          refine Keeps.trans ?_ (Keeps.of (State.fup_keeps _ _) rfl)
          exact h14
        next =>
          exact h14

theorem State.allocationPhase_keeps (s) : Keeps 4327618 s (State.allocationPhase s) := by
  unfold State.allocationPhase
  refine Keeps.ite ?_ ?_
  next => exact Keeps.of (State.allocStart_keeps _) rfl
  next => exact Keeps.refl _

theorem State.setChan_keeps (s v1 v2) : Keeps 33554496 s (State.setChan s v1 v2) := by
  unfold State.setChan
  extract_lets +onlyGivenNames y0
  have h1 : Keeps 33554496 s y0 := by
    unfold y0
    exact Keeps.of (State.safMod_keeps _ _) rfl
  clear_value y0
  refine Keeps.ite ?_ ?_
  next =>
    refine Keeps.trans ?_ (Keeps.of (State.fput_keeps _ _ _) rfl)
    exact h1
  next =>
    refine Keeps.trans ?_ (Keeps.of (State.fput_keeps _ _ _) rfl)
    exact h1

theorem State.chanFault_keeps (s v1 v2 v3 v4) : Keeps 1132636402 s (State.chanFault s v1 v2 v3 v4) := by
  unfold State.chanFault
  extract_lets +onlyGivenNames y0
  have h1 : Keeps 1132636402 s y0 := by unfold y0; exact Keeps.of (State.trip_keeps _ _ _ _ _ _) rfl
  clear_value y0
  refine Keeps.ite ?_ ?_
  next => refine Keeps.trans ?_ (Keeps.of (State.setChan_keeps _ _ _) rfl); exact h1
  next => exact h1

theorem State.channelFault_keeps (s v1 v2) : Keeps 1132636402 s (State.channelFault s v1 v2) := by
  unfold State.channelFault
  refine Keeps.ite ?_ ?_
  next => exact Keeps.refl _
  next => exact Keeps.of (State.chanFault_keeps _ _ _ _ _) rfl

theorem State.engFail_keeps (s) : Keeps 50505970 s (State.engFail s) := by
  unfold State.engFail
  refine Keeps.ite ?_ ?_
  next => exact Keeps.of (State.declareFail_keeps _ _) rfl
  next => exact Keeps.refl _

theorem State.markUnfol_keeps (s v1) : Keeps 16777280 s (State.markUnfol s v1) := by
  unfold State.markUnfol
  refine Keeps.ite ?_ ?_
  next => exact Keeps.refl _
  next => refine Keeps.trans ?_ (Keeps.of (State.fcount_keeps _ _ _) rfl); exact Keeps.of (State.redMod_keeps _ _) rfl

theorem State.lateBit_keeps (s v1) : Keeps 16777280 s (State.lateBit s v1) := by
  unfold State.lateBit
  extract_lets +onlyGivenNames y0
  have h1 : Keeps 16777280 s y0 := by
    unfold y0
    exact Keeps.of (State.redMod_keeps _ _) rfl
  clear_value y0
  refine Keeps.ite ?_ ?_
  next =>
    refine Keeps.trans ?_ (Keeps.of (State.reqImage_keeps _) rfl)
    refine Keeps.trans ?_ (Keeps.of (State.markUnfol_keeps _ _) rfl)
    exact h1
  next =>
    exact h1

theorem State.cexPublish_keeps (s v1 v2) : Keeps 131264 s (State.cexPublish s v1 v2) := by
  unfold State.cexPublish
  extract_lets +onlyGivenNames y0
  clear_value y0
  extract_lets +onlyGivenNames y1
  clear_value y1
  extract_lets +onlyGivenNames y2
  clear_value y2
  extract_lets +onlyGivenNames y3
  have h4 : Keeps 131264 s y3 := by
    unfold y3
    refine Keeps.trans ?_ (Keeps.of (State.stage_keeps _ _ _ _) rfl)
    refine Keeps.trans ?_ (Keeps.of (State.fset_keeps _ _ _) rfl)
    exact Keeps.of (State.wrB_keeps _ _ _ _) rfl
  clear_value y3
  refine Keeps.ite ?_ ?_
  next =>
    exact h4
  next =>
    refine Keeps.trans ?_ (Keeps.of (State.fset_keeps _ _ _) rfl)
    refine Keeps.trans ?_ (Keeps.of (State.fset_keeps _ _ _) rfl)
    refine Keeps.trans ?_ (Keeps.of (State.fset_keeps _ _ _) rfl)
    exact h4

theorem State.lateCount_keeps (s) : Keeps 64 s (State.lateCount s) := by
  unfold State.lateCount
  refine Keeps.ite ?_ ?_
  next =>
    exact Keeps.refl _
  next =>
    exact Keeps.of (State.fcount_keeps _ _ _) rfl

theorem State.satFlags_keeps (s v1 v2) : Keeps 64 s (State.satFlags s v1 v2) := by
  unfold State.satFlags
  exact Keeps.of (State.fset_keeps _ _ _) rfl

theorem State.controlLate_keeps (s) : Keeps 2228416 s (State.controlLate s) := by
  unfold State.controlLate
  split
  extract_lets +onlyGivenNames y0
  clear_value y0
  extract_lets +onlyGivenNames y1
  have h2 : Keeps 2228416 s y1 := by
    unfold y1
    refine Keeps.trans ?_ (Keeps.of (State.fup_keeps _ _) rfl)
    refine Keeps.trans ?_ (Keeps.of (State.satFlags_keeps _ _ _) rfl)
    refine Keeps.upd_cex rfl ?_ _
    exact Keeps.refl _
  clear_value y1
  refine Keeps.trans ?_ (Keeps.of (State.cexPublish_keeps _ _ _) rfl)
  refine Keeps.trans ?_ (Keeps.of (State.lateCount_keeps _) rfl)
  exact h2

theorem State.lawUndo_keeps (s) : Keeps 2228416 s (State.lawUndo s) := by
  unfold State.lawUndo
  split
  next =>
    exact Keeps.of (State.controlLate_keeps _) rfl
  next =>
    extract_lets +onlyGivenNames y0
    have h1 : Keeps 2228416 s y0 := by
      unfold y0
      exact Keeps.of (State.cexMod_keeps _ _) rfl
    clear_value y0
    extract_lets +onlyGivenNames y2
    clear_value y2
    extract_lets +onlyGivenNames y3
    have h4 : Keeps 2228416 s y3 := by
      unfold y3
      refine Keeps.ite ?_ ?_
      next =>
        refine Keeps.trans ?_ (Keeps.of (State.fset_keeps _ _ _) rfl)
        exact h1
      next =>
        exact h1
    clear_value y3
    extract_lets +onlyGivenNames y5
    have h6 : Keeps 2228416 s y5 := by
      unfold y5
      refine Keeps.trans ?_ (Keeps.of (State.fset_keeps _ _ _) rfl)
      refine Keeps.trans ?_ (Keeps.of (State.fset_keeps _ _ _) rfl)
      refine Keeps.trans ?_ (Keeps.of (State.fset_keeps _ _ _) rfl)
      exact h4
    clear_value y5
    extract_lets +onlyGivenNames y7
    have h8 : Keeps 2228416 s y7 := by
      unfold y7
      refine Keeps.trans ?_ (Keeps.of (State.fput_keeps _ _ _) rfl)
      refine Keeps.trans ?_ (Keeps.of (State.fput_keeps _ _ _) rfl)
      refine Keeps.trans ?_ (Keeps.of (State.fput_keeps _ _ _) rfl)
      exact h6
    clear_value y7
    refine Keeps.trans ?_ (Keeps.of (State.controlLate_keeps _) rfl)
    refine Keeps.trans ?_ (Keeps.of (State.fset_keeps _ _ _) rfl)
    exact h8

theorem State.profOwed_keeps (s) : Keeps 2097216 s (State.profOwed s) := by
  unfold State.profOwed
  refine Keeps.trans ?_ (Keeps.of (State.lateCount_keeps _) rfl)
  refine Keeps.trans ?_ (Keeps.of (State.fup_keeps _ _) rfl)
  refine Keeps.upd_cex rfl ?_ _
  exact Keeps.refl _

theorem State.profileLate_keeps (s) : Keeps 2097216 s (State.profileLate s) := by
  unfold State.profileLate
  refine Keeps.trans ?_ (Keeps.of (State.profOwed_keeps _) rfl)
  refine Keeps.upd_cex rfl ?_ _
  exact Keeps.refl _

theorem State.showFunc_keeps (s) : Keeps 64 s (State.showFunc s) := by
  unfold State.showFunc
  refine Keeps.trans ?_ (Keeps.of (State.fput_keeps _ _ _) rfl)
  exact Keeps.of (State.fset_keeps _ _ _) rfl

theorem State.trackEnter_keeps (s) : Keeps 2097216 s (State.trackEnter s) := by
  unfold State.trackEnter
  extract_lets +onlyGivenNames y0
  clear_value y0
  extract_lets +onlyGivenNames y1
  clear_value y1
  extract_lets +onlyGivenNames y2
  clear_value y2
  extract_lets +onlyGivenNames y3
  clear_value y3
  split
  split
  extract_lets +onlyGivenNames y4
  clear_value y4
  extract_lets +onlyGivenNames y5
  clear_value y5
  extract_lets +onlyGivenNames y6
  clear_value y6
  extract_lets +onlyGivenNames y7
  have h8 : Keeps 2097216 s y7 := by
    unfold y7
    refine Keeps.trans ?_ (Keeps.of (State.fset_keeps _ _ _) rfl)
    refine Keeps.trans ?_ (Keeps.of (State.satFlags_keeps _ _ _) rfl)
    refine Keeps.upd_cex rfl ?_ _
    exact Keeps.refl _
  clear_value y7
  refine Keeps.ite ?_ ?_
  next =>
    refine Keeps.trans ?_ (Keeps.of (State.fup_keeps _ _) rfl)
    exact h8
  next =>
    exact h8

theorem State.profUndo_keeps (s) : Keeps 2097216 s (State.profUndo s) := by
  unfold State.profUndo
  split
  next =>
    exact Keeps.of (State.profileLate_keeps _) rfl
  next =>
    extract_lets +onlyGivenNames y0
    clear_value y0
    extract_lets +onlyGivenNames y1
    clear_value y1
    split
    extract_lets +onlyGivenNames y2
    clear_value y2
    extract_lets +onlyGivenNames y3
    clear_value y3
    extract_lets +onlyGivenNames y4
    clear_value y4
    extract_lets +onlyGivenNames y5
    clear_value y5
    extract_lets +onlyGivenNames y6
    have h7 : Keeps 2097216 s y6 := by
      unfold y6
      exact Keeps.of (State.cexMod_keeps _ _) rfl
    clear_value y6
    extract_lets +onlyGivenNames y8
    have h9 : Keeps 2097216 s y8 := by
      unfold y8
      refine Keeps.ite ?_ ?_
      next =>
        refine Keeps.trans ?_ (Keeps.of (State.trackEnter_keeps _) rfl)
        exact h7
      next =>
        refine Keeps.trans ?_ (Keeps.of (State.fset_keeps _ _ _) rfl)
        exact h7
    clear_value y8
    refine Keeps.trans ?_ (Keeps.of (State.profOwed_keeps _) rfl)
    refine Keeps.trans ?_ (Keeps.of (State.showFunc_keeps _) rfl)
    exact h9

theorem State.ceOut_keeps (s v1) : Keeps 52603122 s (State.ceOut s v1) := by
  unfold State.ceOut
  extract_lets +onlyGivenNames y0
  have h1 : Keeps 52603122 s y0 := by
    unfold y0
    refine Keeps.trans ?_ (Keeps.of (State.cexMod_keeps _ _) rfl)
    exact Keeps.of (State.fset_keeps _ _ _) rfl
  clear_value y0
  extract_lets +onlyGivenNames y2
  have h3 : Keeps 52603122 s y2 := by
    unfold y2
    refine Keeps.ite ?_ ?_
    next =>
      refine Keeps.trans ?_ (Keeps.of (State.lateBit_keeps _ _) rfl)
      refine Keeps.trans ?_ (Keeps.of (State.profUndo_keeps _) rfl)
      exact h1
    next =>
      exact h1
  clear_value y2
  extract_lets +onlyGivenNames y4
  have h5 : Keeps 52603122 s y4 := by
    unfold y4
    refine Keeps.ite ?_ ?_
    next =>
      refine Keeps.trans ?_ (Keeps.of (State.lateBit_keeps _ _) rfl)
      refine Keeps.trans ?_ (Keeps.of (State.lawUndo_keeps _) rfl)
      exact h3
    next =>
      exact h3
  clear_value y4
  refine Keeps.ite ?_ ?_
  next =>
    refine Keeps.trans ?_ (Keeps.of (State.engFail_keeps _) rfl)
    exact h5
  next =>
    exact h5

theorem State.ltaskPut_keeps (s v1 v2) : Keeps 536870912 s (State.ltaskPut s v1 v2) := by
  unfold State.ltaskPut
  exact Keeps.of (State.lgcMod_keeps _ _) rfl

theorem State.leRetired_keeps (s v1) : Keeps 537036994 s (State.leRetired s v1) := by
  unfold State.leRetired
  extract_lets +onlyGivenNames y0
  have h1 : Keeps 537036994 s y0 := by
    unfold y0
    exact Keeps.of (State.fset_keeps _ _ _) rfl
  clear_value y0
  extract_lets +onlyGivenNames y2
  have h3 : Keeps 537036994 s y2 := by
    unfold y2
    refine Keeps.foldl ?_ ?_ _
    next =>
      exact h1
    next =>
      intro t4 x5
      extract_lets +onlyGivenNames y6
      refine Keeps.ite ?_ ?_
      next =>
        refine Keeps.trans ?_ (Keeps.of (State.ltaskPut_keeps _ _ _) rfl)
        exact Keeps.of (State.finc_keeps _ _) rfl
      next =>
        exact Keeps.refl _
  clear_value y2
  refine Keeps.ite ?_ ?_
  next =>
    refine Keeps.trans ?_ (Keeps.of (State.lgcFault_keeps _ _) rfl)
    exact h3
  next =>
    exact h3

theorem State.showMpc_keeps (s) : Keeps 64 s (State.showMpc s) := by
  unfold State.showMpc
  split
  rename_i z0 z1 z2 z3
  refine Keeps.trans ?_ (Keeps.of (State.fput_keeps _ _ _) rfl)
  exact Keeps.of (State.fput_keeps _ _ _) rfl

theorem State.slvCount_keeps (s v1 v2) : Keeps 64 s (State.slvCount s v1 v2) := by
  unfold State.slvCount
  extract_lets +onlyGivenNames y0
  have h1 : ∀ a0 a1 a2, Keeps 64 a2 (y0 a0 a1 a2) := by
    intro t2 t3 t4
    unfold y0
    refine Keeps.ite ?_ ?_
    next => exact Keeps.of (State.fup_keeps _ _) rfl
    next => exact Keeps.refl _
  clear_value y0
  extract_lets +onlyGivenNames y5
  clear_value y5
  extract_lets +onlyGivenNames y6
  have h7 : Keeps 64 s y6 := by
    unfold y6
    refine Keeps.trans ?_ (h1 _ _ _)
    refine Keeps.trans ?_ (h1 _ _ _)
    refine Keeps.trans ?_ (h1 _ _ _)
    refine Keeps.trans ?_ (h1 _ _ _)
    exact Keeps.refl _
  clear_value y6
  extract_lets +onlyGivenNames y8
  have h9 : Keeps 64 s y8 := by unfold y8; refine Keeps.trans ?_ (Keeps.of (State.fcount_keeps _ _ _) rfl); exact h7
  clear_value y8
  extract_lets +onlyGivenNames y10
  have h11 : Keeps 64 s y10 := by
    unfold y10
    refine Keeps.ite ?_ ?_
    next => refine Keeps.trans ?_ (Keeps.of (State.fcount_keeps _ _ _) rfl); exact h9
    next => exact h9
  clear_value y10
  extract_lets +onlyGivenNames y12
  have h13 : Keeps 64 s y12 := by
    unfold y12
    refine Keeps.ite ?_ ?_
    next => refine Keeps.trans ?_ (Keeps.of (State.fcount_keeps _ _ _) rfl); exact h11
    next => exact h11
  clear_value y12
  refine Keeps.ite ?_ ?_
  next => refine Keeps.trans ?_ (Keeps.of (State.fcount_keeps _ _ _) rfl); exact h13
  next => exact h13

theorem State.mpcEnd_keeps (s v1 v2) : Keeps 4194368 s (State.mpcEnd s v1 v2) := by
  unfold State.mpcEnd
  refine Keeps.ite ?_ ?_
  next =>
    split
    next =>
      split
      refine Keeps.trans ?_ (Keeps.of (State.showMpc_keeps _) rfl)
      refine Keeps.trans ?_ (Keeps.of (State.slvCount_keeps _ _ _) rfl)
      exact Keeps.of (State.slvMod_keeps _ _) rfl
    next =>
      exact Keeps.refl _
  next =>
    split
    next =>
      split
      refine Keeps.trans ?_ (Keeps.of (State.slvCount_keeps _ _ _) rfl)
      exact Keeps.of (State.slvMod_keeps _ _) rfl
    next =>
      exact Keeps.refl _

theorem State.mpcAbandon_keeps (s v1) : Keeps 4194372 s (State.mpcAbandon s v1) := by
  unfold State.mpcAbandon
  refine Keeps.foldl ?_ ?_ _
  next =>
    exact Keeps.refl _
  next =>
    intro t0 x1
    split
    next =>
      refine Keeps.ite ?_ ?_
      next =>
        refine Keeps.trans ?_ (Keeps.of (State.tick1_keeps _) rfl)
        exact Keeps.of (State.mpcEnd_keeps _ _ _) rfl
      next =>
        exact Keeps.refl _
    next =>
      exact Keeps.refl _

theorem State.slotStop_keeps (s v1 v2 v3 v4) : Keeps 4194368 s (State.slotStop s v1 v2 v3 v4) := by
  unfold State.slotStop
  extract_lets +onlyGivenNames y0
  clear_value y0
  split
  extract_lets +onlyGivenNames y1
  clear_value y1
  refine Keeps.trans ?_ (Keeps.of (State.slvCount_keeps _ _ _) rfl)
  refine Keeps.trans ?_ (Keeps.of (State.fset_keeps _ _ _) rfl)
  exact Keeps.of (State.allocPut_keeps _ _) rfl

theorem State.slotAbandon_keeps (s v1) : Keeps 4194372 s (State.slotAbandon s v1) := by
  unfold State.slotAbandon
  split
  next =>
    exact Keeps.refl _
  next =>
    split
    next =>
      refine Keeps.trans ?_ (Keeps.of (State.tick1_keeps _) rfl)
      exact Keeps.of (State.slotStop_keeps _ _ _ _ _) rfl
    next =>
      exact Keeps.refl _

theorem State.solverOut_keeps (s v1) : Keeps 54700278 s (State.solverOut s v1) := by
  unfold State.solverOut
  extract_lets +onlyGivenNames y0
  have h1 : Keeps 54700278 s y0 := by
    unfold y0
    refine Keeps.trans ?_ (Keeps.of (State.mpcAbandon_keeps _ _) rfl)
    exact Keeps.of (State.slotAbandon_keeps _ _) rfl
  clear_value y0
  refine Keeps.ite ?_ ?_
  next =>
    refine Keeps.trans ?_ (Keeps.of (State.engFail_keeps _) rfl)
    exact h1
  next =>
    exact h1

theorem State.ydPut_keeps (s v1 v2) : Keeps 4294967296 s (State.ydPut s v1 v2) := by
  unfold State.ydPut
  exact Keeps.upd_yd rfl (Keeps.refl _) _

theorem State.ydAlarm_keeps (s v1) : Keeps 4294967296 s (State.ydAlarm s v1) := by
  unfold State.ydAlarm
  exact Keeps.of (State.ydPut_keeps _ _ _) rfl

theorem State.ydMod_keeps (s v1) : Keeps 4294967296 s (State.ydMod s v1) := by
  unfold State.ydMod
  exact Keeps.upd_yd rfl (Keeps.refl _) _

theorem State.ydGiveUp_keeps (s) : Keeps 4294975552 s (State.ydGiveUp s) := by
  unfold State.ydGiveUp
  refine Keeps.ite ?_ ?_
  next => refine Keeps.trans ?_ (Keeps.of (State.ledger_keeps _ _ _) rfl); exact Keeps.of (State.ydMod_keeps _ _) rfl
  next => exact Keeps.refl _

theorem State.ydFault_keeps (s) : Keeps 4294975552 s (State.ydFault s) := by
  unfold State.ydFault
  refine Keeps.ite ?_ ?_
  next => exact Keeps.refl _
  next =>
    refine Keeps.trans ?_ (Keeps.of (State.ledger_keeps _ _ _) rfl)
    refine Keeps.trans ?_ (Keeps.of (State.ydGiveUp_keeps _) rfl)
    exact Keeps.of (State.ydMod_keeps _ _) rfl

theorem State.ydEngRetired_keeps (s v1) : Keeps 4294975552 s (State.ydEngRetired s v1) := by
  unfold State.ydEngRetired
  refine Keeps.ite ?_ ?_
  next => exact Keeps.refl _
  next =>
    extract_lets +onlyGivenNames y0
    have h1 : Keeps 4294975552 s y0 := by
      unfold y0
      refine Keeps.trans ?_ (Keeps.of (State.ydMod_keeps _ _) rfl)
      refine Keeps.trans ?_ (Keeps.of (State.ledger_keeps _ _ _) rfl)
      exact Keeps.of (State.ydAlarm_keeps _ _) rfl
    clear_value y0
    refine Keeps.ite ?_ ?_
    next => refine Keeps.trans ?_ (Keeps.of (State.ydFault_keeps _) rfl); exact h1
    next => exact h1

theorem State.engOut_keeps (s v1) : Keeps 4888635638 s (State.engOut s v1) := by
  unfold State.engOut
  extract_lets +onlyGivenNames y0
  have h1 : Keeps 4888635638 s y0 := by
    unfold y0
    refine Keeps.ite ?_ ?_
    next =>
      exact Keeps.of (State.lateBit_keeps _ _) rfl
    next =>
      exact Keeps.refl _
  clear_value y0
  extract_lets +onlyGivenNames y2
  have h3 : Keeps 4888635638 s y2 := by
    unfold y2
    refine Keeps.ite ?_ ?_
    next =>
      refine Keeps.trans ?_ (Keeps.of (State.ceOut_keeps _ _) rfl)
      exact h1
    next =>
      refine Keeps.ite ?_ ?_
      next =>
        refine Keeps.trans ?_ (Keeps.of (State.solverOut_keeps _ _) rfl)
        exact h1
      next =>
        refine Keeps.ite ?_ ?_
        next =>
          refine Keeps.trans ?_ (Keeps.of (State.leRetired_keeps _ _) rfl)
          exact h1
        next =>
          exact h1
  clear_value y2
  refine Keeps.ite ?_ ?_
  next =>
    refine Keeps.trans ?_ (Keeps.of (State.ydEngRetired_keeps _ _) rfl)
    exact h3
  next =>
    exact h3

theorem State.retire_keeps (s v1 v2 v3) : Keeps 190658 s (State.retire s v1 v2 v3) := by
  unfold State.retire
  refine Keeps.ite ?_ ?_
  next => exact Keeps.refl _
  next =>
    extract_lets +onlyGivenNames y0
    clear_value y0
    extract_lets +onlyGivenNames y1
    have h2 : Keeps 190658 s y1 := by
      unfold y1
      refine Keeps.trans ?_ (Keeps.of (State.showRet_keeps _ _ _ _) rfl)
      exact Keeps.of (State.fltPut_keeps _ _ _ _) rfl
    clear_value y1
    extract_lets +onlyGivenNames y3
    have h4 : Keeps 190658 s y3 := by
      unfold y3
      refine Keeps.trans ?_ (Keeps.of (State.alarmD_keeps _ _ _ _ _) rfl)
      exact h2
    clear_value y3
    extract_lets +onlyGivenNames y5
    have h6 : Keeps 190658 s y5 := by
      unfold y5
      split
      next => rename_i z7 z8 z9 z10 z11; refine Keeps.trans ?_ (Keeps.of (State.alarm_keeps _ _ _ _ _) rfl); exact h4
      next => rename_i z12 z13; exact h4
    clear_value y5
    refine Keeps.ite ?_ ?_
    next => exact h6
    next => refine Keeps.trans ?_ (Keeps.of (State.ledger_keeps _ _ _) rfl); exact h6

theorem State.engRetire_keeps (s v1) : Keeps 5970782454 s (State.engRetire s v1) := by
  unfold State.engRetire
  refine Keeps.ite ?_ ?_
  next => exact Keeps.of (State.channelFault_keeps _ _ _) rfl
  next =>
    refine Keeps.ite ?_ ?_
    next => exact Keeps.refl _
    next =>
      refine Keeps.trans ?_ (Keeps.of (State.engOut_keeps _ _) rfl)
      exact Keeps.of (State.retire_keeps _ _ _ _) rfl

theorem State.poisonRead_keeps (s v1 v2) : Keeps 5970782454 s (State.poisonRead s v1 v2) := by
  unfold State.poisonRead
  refine Keeps.trans ?_ (Keeps.of (State.engRetire_keeps _ _) rfl)
  refine Keeps.upd_dia rfl ?_ _ rfl
  exact Keeps.refl _

theorem State.poisonSlv_keeps (s) : Keeps 5970782454 s (State.poisonSlv s) := by
  unfold State.poisonSlv
  refine Keeps.foldl ?_ ?_ _
  next =>
    exact Keeps.refl _
  next =>
    intro t0 x1
    extract_lets +onlyGivenNames y2
    clear_value y2
    split
    next =>
      exact Keeps.of (State.poisonRead_keeps _ _ _) rfl
    next =>
      exact Keeps.refl _

theorem State.ambiguity_keeps (s v1 v2) : Keeps 67108864 s (State.ambiguity s v1 v2) := by
  unfold State.ambiguity
  refine Keeps.ite ?_ ?_
  next => exact Keeps.of (State.gnsMod_keeps _ _) rfl
  next => exact Keeps.refl _

theorem State.announce_keeps (s v1) : Keeps 8554946 s (State.announce s v1) := by
  unfold State.announce
  split
  next =>
    exact Keeps.refl _
  next =>
    extract_lets +onlyGivenNames y0
    clear_value y0
    refine Keeps.ite ?_ ?_
    next =>
      exact Keeps.refl _
    next =>
      refine Keeps.ite ?_ ?_
      next =>
        refine Keeps.trans ?_ (Keeps.of (State.domJudge_keeps _) rfl)
        exact Keeps.of (State.domPut_keeps _ _ _) rfl
      next =>
        refine Keeps.ite ?_ ?_
        next =>
          exact Keeps.refl _
        next =>
          extract_lets +onlyGivenNames y1
          clear_value y1
          extract_lets +onlyGivenNames y2
          clear_value y2
          refine Keeps.trans ?_ (Keeps.of (State.domJudge_keeps _) rfl)
          exact Keeps.of (State.domPut_keeps _ _ _) rfl

theorem State.announceTimeout_keeps (s v1) : Keeps 8554946 s (State.announceTimeout s v1) := by
  unfold State.announceTimeout
  extract_lets +onlyGivenNames y0
  clear_value y0
  extract_lets +onlyGivenNames y1
  have h2 : Keeps 8554946 s y1 := by
    unfold y1
    exact Keeps.of (State.domPut_keeps _ _ _) rfl
  clear_value y1
  refine Keeps.trans ?_ (Keeps.of (State.domJudge_keeps _) rfl)
  refine Keeps.trans ?_ (Keeps.of (State.domPut_keeps _ _ _) rfl)
  exact h2

theorem State.arpIcmpIgmp_keeps (s v1 v2) : Keeps 2 s (State.arpIcmpIgmp s v1 v2) := by
  unfold State.arpIcmpIgmp
  refine Keeps.ite ?_ ?_
  next => exact Keeps.refl _
  next =>
    split
    next => rename_i z0 z1; exact Keeps.refl _
    next =>
      rename_i z2 z3 z4 z5 z6
      refine Keeps.ite ?_ ?_
      next =>
        refine Keeps.ite ?_ ?_
        next => exact Keeps.of (State.send_keeps _ _ _) rfl
        next => exact Keeps.refl _
      next =>
        refine Keeps.ite ?_ ?_
        next =>
          extract_lets +onlyGivenNames y7
          clear_value y7
          extract_lets +onlyGivenNames y8
          clear_value y8
          refine Keeps.ite ?_ ?_
          next => extract_lets +onlyGivenNames y9; clear_value y9; exact Keeps.of (State.send_keeps _ _ _) rfl
          next =>
            refine Keeps.ite ?_ ?_
            next =>
              extract_lets +onlyGivenNames y10
              clear_value y10
              refine Keeps.ite ?_ ?_
              next => exact Keeps.of (State.igmpReports_keeps _ _) rfl
              next =>
                refine Keeps.ite ?_ ?_
                next => exact Keeps.of (State.igmpReport_keeps _ _ _) rfl
                next => exact Keeps.refl _
            next => exact Keeps.refl _
        next => exact Keeps.refl _

theorem State.hifErr_keeps (s v1) : Keeps 66 s (State.hifErr s v1) := by
  unfold State.hifErr
  refine Keeps.trans ?_ (Keeps.of (State.intr_keeps _ _) rfl)
  exact Keeps.of (State.fup_keeps _ _) rfl

theorem State.hostErr_keeps (s v1) : Keeps 133314 s (State.hostErr s v1) := by
  unfold State.hostErr
  extract_lets +onlyGivenNames y0
  clear_value y0
  extract_lets +onlyGivenNames y1
  have h2 : Keeps 133314 s y1 := by unfold y1; exact Keeps.of (State.hifErr_keeps _ _) rfl
  clear_value y1
  refine Keeps.ite ?_ ?_
  next => exact h2
  next => refine Keeps.trans ?_ (Keeps.of (State.event_keeps _ _ _ _ _) rfl); exact h2

theorem State.doorbell_keeps (s v1) : Keeps 133314 s (State.doorbell s v1) := by
  unfold State.doorbell
  extract_lets +onlyGivenNames y0
  extract_lets +onlyGivenNames y1
  extract_lets +onlyGivenNames y2
  refine Keeps.ite ?_ ?_
  next => exact Keeps.of (State.hostErr_keeps _ _) rfl
  next =>
    refine Keeps.ite ?_ ?_
    next => exact Keeps.of (State.hostErr_keeps _ _) rfl
    next => exact Keeps.of (State.fset_keeps _ _ _) rfl

theorem State.ciWrite_keeps (s v1 v2 v3) : Keeps 133314 s (State.ciWrite s v1 v2 v3) := by
  unfold State.ciWrite
  extract_lets +onlyGivenNames y0
  extract_lets +onlyGivenNames y1
  extract_lets +onlyGivenNames y2
  refine Keeps.ite ?_ ?_
  next => exact Keeps.of (State.hostErr_keeps _ _) rfl
  next => exact Keeps.of (State.fset_keeps _ _ _) rfl

theorem State.evtCi_keeps (s v1) : Keeps 133314 s (State.evtCi s v1) := by
  unfold State.evtCi
  extract_lets +onlyGivenNames y0
  have h1 : Keeps 133314 s y0 := by unfold y0; exact Keeps.of (State.ciWrite_keeps _ _ _ _) rfl
  clear_value y0
  refine Keeps.ite ?_ ?_
  next => exact h1
  next =>
    extract_lets +onlyGivenNames y2
    clear_value y2
    refine Keeps.trans ?_ (Keeps.of (State.event_keeps _ _ _ _ _) rfl)
    refine Keeps.upd_hif rfl (b := y0) ?_ _
    exact h1

theorem State.plainWrite_keeps (s v1 v2) : Keeps 64 s (State.plainWrite s v1 v2) := by
  unfold State.plainWrite
  split
  next => rename_i z0 z1; exact Keeps.refl _
  next =>
    rename_i z2 z3 z4
    extract_lets +onlyGivenNames y5
    clear_value y5
    extract_lets +onlyGivenNames y6
    clear_value y6
    extract_lets +onlyGivenNames y7
    clear_value y7
    extract_lets +onlyGivenNames y8
    clear_value y8
    extract_lets +onlyGivenNames y9
    clear_value y9
    exact Keeps.of (State.setReg_keeps _ _ _) rfl

theorem State.rspCi_keeps (s v1) : Keeps 133314 s (State.rspCi s v1) := by
  unfold State.rspCi
  exact Keeps.of (State.ciWrite_keeps _ _ _ _) rfl

theorem State.sdfCfgWrite_keeps (s v1 v2 v3) : Keeps 1401071858 s (State.sdfCfgWrite s v1 v2 v3) := by
  unfold State.sdfCfgWrite
  extract_lets +onlyGivenNames y0
  clear_value y0
  refine Keeps.ite ?_ ?_
  next => exact Keeps.refl _
  next =>
    extract_lets +onlyGivenNames y1
    clear_value y1
    extract_lets +onlyGivenNames y2
    clear_value y2
    refine Keeps.ite ?_ ?_
    next =>
      extract_lets +onlyGivenNames y3
      have h4 : Keeps 1401071858 s y3 := by
        unfold y3
        refine Keeps.ite ?_ ?_
        next => exact Keeps.refl _
        next => exact Keeps.of (State.sdfStop_keeps _ _) rfl
      clear_value y3
      refine Keeps.ite ?_ ?_
      next => exact h4
      next =>
        refine Keeps.ite ?_ ?_
        next => refine Keeps.trans ?_ (Keeps.of (State.inputSwitch_keeps _ _ _) rfl); exact h4
        next => refine Keeps.trans ?_ (Keeps.of (State.fset_keeps _ _ _) rfl); exact h4
    next =>
      extract_lets +onlyGivenNames y5
      have h6 : Keeps 1401071858 s y5 := by unfold y5; exact Keeps.of (State.plainWrite_keeps _ _ _) rfl
      clear_value y5
      refine Keeps.ite ?_ ?_
      next => refine Keeps.trans ?_ (Keeps.of (State.sdfStart_keeps _ _) rfl); exact h6
      next => exact h6

theorem State.writeFxA_keeps (s v1 v2 v3) : Keeps 76974530 s (State.writeFxA s v1 v2 v3) := by
  unfold State.writeFxA
  refine Keeps.ite ?_ ?_
  next =>
    exact Keeps.of (State.ctxSwitch_keeps _ _ _) rfl
  next =>
    refine Keeps.ite ?_ ?_
    next =>
      exact Keeps.of (State.incWrite_keeps _ _) rfl
    next =>
      refine Keeps.ite ?_ ?_
      next =>
        exact Keeps.of (State.slewCap_keeps _) rfl
      next =>
        refine Keeps.ite ?_ ?_
        next =>
          exact Keeps.of (State.domSwitched_keeps _ _) rfl
        next =>
          refine Keeps.ite ?_ ?_
          next =>
            refine Keeps.upd_fus rfl ?_ _
            exact Keeps.refl _
          next =>
            refine Keeps.ite ?_ ?_
            next =>
              exact Keeps.of (State.tpCheck_keeps _) rfl
            next =>
              refine Keeps.ite ?_ ?_
              next =>
                refine Keeps.foldl ?_ ?_ _
                next =>
                  exact Keeps.refl _
                next =>
                  intro t0 x1
                  exact Keeps.of (State.igmpReports_keeps _ _) rfl
              next =>
                exact Keeps.refl _

theorem State.bankCommit_keeps (s) : Keeps 64 s (State.bankCommit s) := by
  unfold State.bankCommit
  extract_lets +onlyGivenNames y0
  clear_value y0
  refine Keeps.ite ?_ ?_
  next => exact Keeps.of (State.fup_keeps _ _) rfl
  next =>
    extract_lets +onlyGivenNames y1
    have h2 : Keeps 64 s y1 := by unfold y1; exact Keeps.of (State.fset_keeps _ _ _) rfl
    clear_value y1
    refine Keeps.ite ?_ ?_
    next => refine Keeps.trans ?_ (Keeps.of (State.fset_keeps _ _ _) rfl); exact h2
    next => refine Keeps.trans ?_ (Keeps.of (State.fup_keeps _ _) rfl); exact h2

theorem State.bankData_keeps (s v1) : Keeps 268435520 s (State.bankData s v1) := by
  unfold State.bankData
  extract_lets +onlyGivenNames y0
  clear_value y0
  extract_lets +onlyGivenNames y1
  clear_value y1
  refine Keeps.ite ?_ ?_
  next => exact Keeps.refl _
  next =>
    refine Keeps.trans ?_ (Keeps.of (State.fset_keeps _ _ _) rfl)
    exact Keeps.of (State.bankPut_keeps _ _ _ _) rfl

theorem State.bankOpen_keeps (s v1 v2) : Keeps 64 s (State.bankOpen s v1 v2) := by
  unfold State.bankOpen
  extract_lets +onlyGivenNames y0
  have h1 : Keeps 64 s y0 := by
    unfold y0
    refine Keeps.trans ?_ (Keeps.of (State.fset_keeps _ _ _) rfl)
    exact Keeps.of (State.fset_keeps _ _ _) rfl
  clear_value y0
  extract_lets +onlyGivenNames y2
  clear_value y2
  refine Keeps.ite ?_ ?_
  next => refine Keeps.trans ?_ (Keeps.of (State.fup_keeps _ _) rfl); exact h1
  next =>
    refine Keeps.trans ?_ (Keeps.of (State.fset_keeps _ _ _) rfl)
    refine Keeps.trans ?_ (Keeps.of (State.fset_keeps _ _ _) rfl)
    exact h1

theorem State.filterRead_keeps (s v1 v2) : Keeps 64 s (State.filterRead s v1 v2) := by
  unfold State.filterRead
  split
  rename_i z0 z1 z2 z3 z4
  refine Keeps.trans ?_ (Keeps.of (State.fset_keeps _ _ _) rfl)
  refine Keeps.trans ?_ (Keeps.of (State.fset_keeps _ _ _) rfl)
  refine Keeps.trans ?_ (Keeps.of (State.fset_keeps _ _ _) rfl)
  exact Keeps.of (State.fset_keeps _ _ _) rfl

theorem State.filterWrite_keeps (s v1 v2) : Keeps 134217792 s (State.filterWrite s v1 v2) := by
  unfold State.filterWrite
  extract_lets +onlyGivenNames y0
  have h1 : Keeps 134217792 s y0 := by
    unfold y0
    exact Keeps.of (State.fset_keeps _ _ _) rfl
  clear_value y0
  extract_lets +onlyGivenNames y2
  clear_value y2
  split
  refine Keeps.ite ?_ ?_
  next =>
    refine Keeps.trans ?_ (Keeps.of (State.fup_keeps _ _) rfl)
    exact h1
  next =>
    refine Keeps.trans ?_ (Keeps.of (State.ctlMod_keeps _ _ _) rfl)
    exact h1

theorem State.discClear_keeps (s) : Keeps 1132636402 s (State.discClear s) := by
  unfold State.discClear
  refine Keeps.trans ?_ (Keeps.of (State.estAnew_keeps _ _) rfl)
  refine Keeps.foldl ?_ ?_ _
  next =>
    refine Keeps.trans ?_ (Keeps.of (State.fset_keeps _ _ _) rfl)
    exact Keeps.of (State.safMod_keeps _ _) rfl
  next =>
    intro t0 x1
    exact Keeps.of (State.clearAlarm_keeps _ _ _ _) rfl

theorem State.safPowerOn_keeps (s) : Keeps 1132636402 s (State.safPowerOn s) := by
  unfold State.safPowerOn
  extract_lets +onlyGivenNames y0
  have h1 : Keeps 1132636402 s y0 := by
    unfold y0
    exact Keeps.of (State.safMod_keeps _ _) rfl
  clear_value y0
  extract_lets +onlyGivenNames y2
  have h3 : Keeps 1132636402 s y2 := by
    unfold y2
    refine Keeps.foldl ?_ ?_ _
    next =>
      refine Keeps.trans ?_ (Keeps.of (State.fset_keeps _ _ _) rfl)
      exact h1
    next =>
      intro t4 x5
      refine Keeps.trans ?_ (Keeps.of (State.tripCause_keeps _ _ _ _) rfl)
      exact Keeps.of (State.setReg_keeps _ _ _) rfl
  clear_value y2
  refine Keeps.trans ?_ (Keeps.of (State.discClear_keeps _) rfl)
  refine Keeps.trans ?_ (Keeps.of (State.showSaf_keeps _) rfl)
  refine Keeps.trans ?_ (Keeps.of (State.latchSet_keeps _ _ _) rfl)
  refine Keeps.trans ?_ (Keeps.of (State.latchSet_keeps _ _ _) rfl)
  exact h3

theorem State.harbourWake_keeps (s) : Keeps 1468184826 s (State.harbourWake s) := by
  unfold State.harbourWake
  refine Keeps.ite ?_ ?_
  next =>
    exact Keeps.refl _
  next =>
    extract_lets +onlyGivenNames y0
    have h1 : Keeps 1468184826 s y0 := by
      unfold y0
      refine Keeps.trans ?_ (Keeps.of (State.sysMod_keeps _ _) rfl)
      refine Keeps.upd_pwr_op rfl ?_ _ _
      exact Keeps.refl _
    clear_value y0
    extract_lets +onlyGivenNames y2
    have h3 : Keeps 1468184826 s y2 := by
      unfold y2
      refine Keeps.foldl ?_ ?_ _
      next =>
        exact h1
      next =>
        intro t4 x5
        exact Keeps.of (State.bankLoad_keeps _ _ _) rfl
    clear_value y2
    extract_lets +onlyGivenNames y6
    have h7 : Keeps 1468184826 s y6 := by
      unfold y6
      refine Keeps.foldl ?_ ?_ _
      next =>
        exact h3
      next =>
        intro t8 x9
        refine Keeps.ite ?_ ?_
        next =>
          exact Keeps.of (State.sdfStart_keeps _ _) rfl
        next =>
          exact Keeps.refl _
    clear_value y6
    refine Keeps.trans ?_ (Keeps.of (State.showPnl_keeps _) rfl)
    refine Keeps.trans ?_ (Keeps.of (State.tpCheck_keeps _) rfl)
    refine Keeps.trans ?_ (Keeps.of (State.safPowerOn_keeps _) rfl)
    exact h7

theorem State.ptCopy_keeps (s v1) : Keeps 64 s (State.ptCopy s v1) := by
  unfold State.ptCopy
  extract_lets +onlyGivenNames y0
  have h1 : Keeps 64 s y0 := by unfold y0; exact Keeps.of (State.fset_keeps _ _ _) rfl
  clear_value y0
  extract_lets +onlyGivenNames y2
  clear_value y2
  refine Keeps.foldl ?_ ?_ _
  next => exact h1
  next => intro t3 x4; exact Keeps.of (State.fset_keeps _ _ _) rfl

theorem State.rxqAck_keeps (s v1 v2 v3) : Keeps 64 s (State.rxqAck s v1 v2 v3) := by
  unfold State.rxqAck
  extract_lets +onlyGivenNames y0
  clear_value y0
  refine Keeps.ite ?_ ?_
  next => exact Keeps.of (State.fup_keeps _ _) rfl
  next => refine Keeps.trans ?_ (Keeps.of (State.fset_keeps _ _ _) rfl); exact Keeps.of (State.fset_keeps _ _ _) rfl

theorem State.snapRelease_keeps (s) : Keeps 67108928 s (State.snapRelease s) := by
  unfold State.snapRelease
  refine Keeps.ite ?_ ?_
  next => exact Keeps.refl _
  next => refine Keeps.trans ?_ (Keeps.of (State.gnsMod_keeps _ _) rfl); exact Keeps.of (State.fset_keeps _ _ _) rfl

theorem State.abortBuf_keeps (s v1 v2) : Keeps 134217796 s (State.abortBuf s v1 v2) := by
  unfold State.abortBuf
  extract_lets +onlyGivenNames y0
  clear_value y0
  refine Keeps.ite ?_ ?_
  next =>
    exact Keeps.refl _
  next =>
    refine Keeps.ite ?_ ?_
    next =>
      refine Keeps.trans ?_ (Keeps.of (State.tick1_keeps _) rfl)
      exact Keeps.of (State.ctlMod_keeps _ _ _) rfl
    next =>
      extract_lets +onlyGivenNames y1
      have h2 : Keeps 134217796 s y1 := by
        unfold y1
        refine Keeps.trans ?_ (Keeps.of (State.finc_keeps _ _) rfl)
        exact Keeps.of (State.ctlMod_keeps _ _ _) rfl
      clear_value y1
      refine Keeps.ite ?_ ?_
      next =>
        refine Keeps.trans ?_ (Keeps.of (State.tick1_keeps _) rfl)
        exact h2
      next =>
        exact h2

theorem State.txAbort_keeps (s v1 v2) : Keeps 134217796 s (State.txAbort s v1 v2) := by
  unfold State.txAbort
  refine Keeps.foldl ?_ ?_ _
  next =>
    exact Keeps.refl _
  next =>
    intro t0 x1
    exact Keeps.of (State.abortBuf_keeps _ _ _) rfl

theorem State.writeFxB_keeps (s v1 v2 v3 v4) : Keeps 1602402558 s (State.writeFxB s v1 v2 v3 v4) := by
  unfold State.writeFxB
  refine Keeps.ite ?_ ?_
  next =>
    exact Keeps.of (State.canSwitch_keeps _ _ _) rfl
  next =>
    refine Keeps.ite ?_ ?_
    next =>
      exact Keeps.of (State.txAbort_keeps _ _ _) rfl
    next =>
      refine Keeps.ite ?_ ?_
      next =>
        exact Keeps.of (State.rxqAck_keeps _ _ _ _) rfl
      next =>
        refine Keeps.ite ?_ ?_
        next =>
          exact Keeps.of (State.rxqAck_keeps _ _ _ _) rfl
        next =>
          refine Keeps.ite ?_ ?_
          next =>
            refine Keeps.ite ?_ ?_
            next =>
              exact Keeps.of (State.filterWrite_keeps _ _ _) rfl
            next =>
              refine Keeps.ite ?_ ?_
              next =>
                exact Keeps.of (State.filterRead_keeps _ _ _) rfl
              next =>
                exact Keeps.refl _
          next =>
            refine Keeps.ite ?_ ?_
            next =>
              exact Keeps.of (State.clkSwitch_keeps _ _ _) rfl
            next =>
              refine Keeps.ite ?_ ?_
              next =>
                exact Keeps.of (State.sdfEnables_keeps _ _) rfl
              next =>
                refine Keeps.ite ?_ ?_
                next =>
                  extract_lets +onlyGivenNames y0
                  have h1 : Keeps 1602402558 s y0 := by
                    unfold y0
                    refine Keeps.ite ?_ ?_
                    next =>
                      exact Keeps.of (State.bankOpen_keeps _ _ _) rfl
                    next =>
                      exact Keeps.refl _
                  clear_value y0
                  refine Keeps.ite ?_ ?_
                  next =>
                    refine Keeps.trans ?_ (Keeps.of (State.bankCommit_keeps _) rfl)
                    exact h1
                  next =>
                    exact h1
                next =>
                  refine Keeps.ite ?_ ?_
                  next =>
                    exact Keeps.of (State.bankData_keeps _ _) rfl
                  next =>
                    refine Keeps.ite ?_ ?_
                    next =>
                      exact Keeps.of (State.ptCopy_keeps _ _) rfl
                    next =>
                      refine Keeps.ite ?_ ?_
                      next =>
                        refine Keeps.ite ?_ ?_
                        next =>
                          exact Keeps.of (State.harbourWake_keeps _) rfl
                        next =>
                          exact Keeps.refl _
                      next =>
                        refine Keeps.ite ?_ ?_
                        next =>
                          refine Keeps.ite ?_ ?_
                          next =>
                            exact Keeps.of (State.snapRelease_keeps _) rfl
                          next =>
                            exact Keeps.refl _
                        next =>
                          refine Keeps.ite ?_ ?_
                          next =>
                            exact Keeps.of (State.showPnl_keeps _) rfl
                          next =>
                            exact Keeps.refl _

end Sys2Proof.Machine
end

