-- ==== Sys2Proof/Laws/Keeps4.lean ====
section
/-!
SUPPORT. Operations keep what `Keeps` says, callees before callers: part 4 of 10.
-/

namespace Sys2Proof.Machine

theorem State.regWrite_keeps (s v1 v2) : Keeps 1603714046 s (State.regWrite s v1 v2) := by
  unfold State.regWrite
  split
  next => rename_i z0 z1; exact Keeps.refl _
  next =>
    rename_i z2 z3 z4
    split
    rename_i z5 z6 z7 z8
    refine Keeps.ite ?_ ?_
    next => exact Keeps.of (State.doorbell_keeps _ _) rfl
    next =>
      refine Keeps.ite ?_ ?_
      next => exact Keeps.of (State.rspCi_keeps _ _) rfl
      next =>
        refine Keeps.ite ?_ ?_
        next => exact Keeps.of (State.evtCi_keeps _ _) rfl
        next =>
          extract_lets +onlyGivenNames y9
          clear_value y9
          extract_lets +onlyGivenNames y10
          clear_value y10
          extract_lets +onlyGivenNames y11
          have h12 : Keeps 1603714046 s y11 := by
            unfold y11
            refine Keeps.ite ?_ ?_
            next => exact Keeps.of (State.sdfCfgWrite_keeps _ _ _ _) rfl
            next =>
              refine Keeps.trans ?_ (Keeps.of (State.writeFxB_keeps _ _ _ _ _) rfl)
              refine Keeps.trans ?_ (Keeps.of (State.writeFxA_keeps _ _ _ _) rfl)
              exact Keeps.of (State.plainWrite_keeps _ _ _) rfl
          clear_value y11
          refine Keeps.ite ?_ ?_
          next => refine Keeps.upd_cfg rfl (b := y11) ?_ _; exact h12
          next => exact h12

theorem State.hostWr_keeps (s v1 v2) : Keeps 1603714046 s (State.hostWr s v1 v2) := by
  unfold State.hostWr
  refine Keeps.ite ?_ ?_
  next => exact Keeps.of (State.regWrite_keeps _ _ _) rfl
  next => exact Keeps.refl _

theorem State.fsetK_keeps (s) : Keeps 1048640 s (State.fsetK s) := by
  unfold State.fsetK
  extract_lets +onlyGivenNames y0
  clear_value y0
  refine Keeps.trans ?_ (Keeps.of (State.fset_keeps _ _ _) rfl)
  exact Keeps.upd_fus rfl (Keeps.refl _) _

theorem State.mpcDrop_keeps (s) : Keeps 4194368 s (State.mpcDrop s) := by
  unfold State.mpcDrop
  refine Keeps.trans ?_ (Keeps.of (State.showMpc_keeps _) rfl)
  exact Keeps.of (State.slvMod_keeps _ _) rfl

theorem State.imageBad_keeps (s v1) : Keeps 4837255362 s (State.imageBad s v1) := by
  unfold State.imageBad
  split
  next =>
    refine Keeps.ite ?_ ?_
    next =>
      exact Keeps.of (State.ydFault_keeps _) rfl
    next =>
      exact Keeps.refl _
  next =>
    refine Keeps.ite ?_ ?_
    next =>
      exact Keeps.refl _
    next =>
      refine Keeps.trans ?_ (Keeps.of (State.alarm_keeps _ _ _ _ _) rfl)
      refine Keeps.trans ?_ (Keeps.of (State.fup_keeps _ _) rfl)
      refine Keeps.upd_fus rfl ?_ _
      exact Keeps.refl _
  next =>
    refine Keeps.ite ?_ ?_
    next =>
      exact Keeps.refl _
    next =>
      extract_lets +onlyGivenNames y0
      have h1 : Keeps 4837255362 s y0 := by
        unfold y0
        exact Keeps.of (State.fup_keeps _ _) rfl
      clear_value y0
      refine Keeps.ite ?_ ?_
      next =>
        refine Keeps.trans ?_ (Keeps.of (State.mpcDrop_keeps _) rfl)
        refine Keeps.trans ?_ (Keeps.of (State.slvMod_keeps _ _) rfl)
        exact h1
      next =>
        refine Keeps.trans ?_ (Keeps.of (State.alarm_keeps _ _ _ _ _) rfl)
        refine Keeps.trans ?_ (Keeps.of (State.slvMod_keeps _ _) rfl)
        exact h1
  next =>
    refine Keeps.ite ?_ ?_
    next =>
      exact Keeps.of (State.lgcFault_keeps _ _) rfl
    next =>
      exact Keeps.refl _
  next =>
    exact Keeps.refl _

theorem State.imgVerify_keeps (s) : Keeps 4837255362 s (State.imgVerify s) := by
  unfold State.imgVerify
  refine Keeps.foldl ?_ ?_ _
  next => exact Keeps.refl _
  next =>
    intro t0 x1
    refine Keeps.ite ?_ ?_
    next => exact Keeps.refl _
    next => exact Keeps.of (State.imageBad_keeps _ _) rfl

theorem State.bootConfig_keeps (s) : Keeps 6441839602 s (State.bootConfig s) := by
  unfold State.bootConfig
  split
  next =>
    refine Keeps.ite ?_ ?_
    next =>
      extract_lets +onlyGivenNames y0
      have h1 : Keeps 6441839602 s y0 := by
        unfold y0
        refine Keeps.trans ?_ (Keeps.of (State.imgVerify_keeps _) rfl)
        exact Keeps.of (State.configLoad_keeps _ _ _ _) rfl
      clear_value y0
      extract_lets +onlyGivenNames y2
      have h3 : Keeps 6441839602 s y2 := by
        unfold y2
        refine Keeps.trans ?_ (Keeps.of (State.slvMod_keeps _ _) rfl)
        exact h1
      clear_value y2
      extract_lets +onlyGivenNames y4
      clear_value y4
      refine Keeps.trans ?_ (Keeps.of (State.setRole_keeps _ _) rfl)
      refine Keeps.trans ?_ (Keeps.of (State.fsetK_keeps _) rfl)
      refine Keeps.trans ?_ (Keeps.of (State.cexMod_keeps _ _) rfl)
      exact h3
    next =>
      extract_lets +onlyGivenNames y5
      have h6 : Keeps 6441839602 s y5 := by
        unfold y5
        exact Keeps.of (State.fup_keeps _ _) rfl
      clear_value y5
      refine Keeps.upd_op rfl (b := y5) ?_ _
      exact h6
  next =>
    extract_lets +onlyGivenNames y7
    have h8 : Keeps 6441839602 s y7 := by
      unfold y7
      exact Keeps.of (State.fup_keeps _ _) rfl
    clear_value y7
    refine Keeps.upd_op rfl (b := y7) ?_ _
    exact h8

theorem State.lgcEmpty_keeps (s) : Keeps 536870976 s (State.lgcEmpty s) := by
  unfold State.lgcEmpty
  refine Keeps.trans ?_ (Keeps.of (State.showProg_keeps _) rfl)
  refine Keeps.trans ?_ (Keeps.of (State.fset_keeps _ _ _) rfl)
  refine Keeps.trans ?_ (Keeps.of (State.fset_keeps _ _ _) rfl)
  refine Keeps.trans ?_ (Keeps.of (State.lgcMod_keeps _ _) rfl)
  exact Keeps.of (State.lgcIdle_keeps _) rfl

theorem State.recOff_keeps (s) : Keeps 131136 s (State.recOff s) := by
  unfold State.recOff
  refine Keeps.trans ?_ (Keeps.of (State.showRec_keeps _) rfl)
  exact Keeps.of (State.recMod_keeps _ _) rfl

theorem State.bootKept_keeps (s) : Keeps 1610744006 s (State.bootKept s) := by
  unfold State.bootKept
  generalize 1024 = n
  extract_lets +onlyGivenNames k
  extract_lets +onlyGivenNames s1
  extract_lets +onlyGivenNames s2
  have h1 : Keeps 1610744006 s s1 := Keeps.ite (Keeps.of (Keeps.mem s _ (memDrop_wf _ s.mem)) rfl) (Keeps.refl s)
  have h2 : Keeps 1610744006 s s2 := by
    refine h1.trans ?_
    unfold s2
    split
    · exact Keeps.refl _
    · refine Keeps.trans ?_ (Keeps.of (State.recOff_keeps _) rfl)
      refine Keeps.trans ?_ (Keeps.of (State.recDrain_keeps _ _) rfl)
      exact (Keeps.of (State.recMod_keeps _ _) rfl).trans (Keeps.of (State.stage_keeps _ _ _ _) rfl)
  clear_value s1 s2
  refine h2.trans ?_
  split
  · split
    · exact Keeps.refl _
    · split
      · refine Keeps.trans ?_ (Keeps.of (State.fset_keeps _ _ _) rfl)
        exact (Keeps.of (State.wrPool_keeps _ _ _) rfl).trans (Keeps.of (State.lgcInstall_keeps _ _ _ _) rfl)
      · exact Keeps.of (State.lgcEmpty_keeps _) rfl
  · exact Keeps.refl _

theorem State.bootReached_keeps (s) : Keeps 13380 s (State.bootReached s) := by
  unfold State.bootReached
  extract_lets +onlyGivenNames y0
  clear_value y0
  extract_lets +onlyGivenNames y1
  have h2 : Keeps 13380 s y1 := by unfold y1; exact Keeps.of (State.fset_keeps _ _ _) rfl
  clear_value y1
  extract_lets +onlyGivenNames y3
  clear_value y3
  extract_lets +onlyGivenNames y4
  have h5 : Keeps 13380 s y4 := by unfold y4; refine Keeps.upd_flash rfl (b := y1) ?_ _; exact h2
  clear_value y4
  refine Keeps.ite ?_ ?_
  next => exact h5
  next =>
    extract_lets +onlyGivenNames y6
    clear_value y6
    extract_lets +onlyGivenNames y7
    have h8 : Keeps 13380 s y7 := by
      unfold y7
      refine Keeps.trans ?_ (Keeps.of (State.ledger_keeps _ _ _) rfl)
      refine Keeps.upd_d0 rfl (b := y4) ?_ _
      exact h5
    clear_value y7
    extract_lets +onlyGivenNames y9
    have h10 : Keeps 13380 s y9 := by unfold y9; refine Keeps.trans ?_ (Keeps.of (State.tick1_keeps _) rfl); exact h8
    clear_value y9
    refine Keeps.ite ?_ ?_
    next => refine Keeps.trans ?_ (Keeps.of (State.sysMod_keeps _ _) rfl); exact h10
    next => refine Keeps.trans ?_ (Keeps.of (State.fup_keeps _ _) rfl); exact h10

theorem State.bootTests_keeps (s v1) : Keeps 5970782454 s (State.bootTests s v1) := by
  unfold State.bootTests
  extract_lets +onlyGivenNames y0
  have h1 : Keeps 5970782454 s y0 := by
    unfold y0
    refine Keeps.trans ?_ (Keeps.of (State.setChan_keeps _ _ _) rfl)
    exact Keeps.of (State.setChan_keeps _ _ _) rfl
  clear_value y0
  refine Keeps.foldl ?_ ?_ _
  next => exact h1
  next =>
    intro t2 x3
    refine Keeps.ite ?_ ?_
    next => exact Keeps.refl _
    next => exact Keeps.of (State.engRetire_keeps _ _) rfl

theorem State.timeMod_keeps (s v1) : Keeps 256 s (State.timeMod s v1) := by
  unfold State.timeMod
  exact Keeps.upd_time rfl (Keeps.refl _) _

theorem State.loadFrameCfg_keeps (s v1) : Keeps 320 s (State.loadFrameCfg s v1) := by
  unfold State.loadFrameCfg
  extract_lets +onlyGivenNames y0
  clear_value y0
  extract_lets +onlyGivenNames y1
  clear_value y1
  extract_lets +onlyGivenNames y2
  have h3 : Keeps 320 s y2 := by
    unfold y2
    exact Keeps.of (State.timeMod_keeps _ _) rfl
  clear_value y2
  refine Keeps.ite ?_ ?_
  next =>
    exact h3
  next =>
    refine Keeps.ite ?_ ?_
    next =>
      refine Keeps.trans ?_ (Keeps.of (State.fset_keeps _ _ _) rfl)
      exact h3
    next =>
      exact h3

theorem State.framesBegin_keeps (s) : Keeps 320 s (State.framesBegin s) := by
  unfold State.framesBegin
  extract_lets +onlyGivenNames y0
  have h1 : Keeps 320 s y0 := by
    unfold y0
    refine Keeps.ite ?_ ?_
    next =>
      exact Keeps.of (State.timeMod_keeps _ _) rfl
    next =>
      exact Keeps.of (State.loadFrameCfg_keeps _ _) rfl
  clear_value y0
  refine Keeps.trans ?_ (Keeps.of (State.timeMod_keeps _ _) rfl)
  exact h1

theorem State.restartRecs_keeps (s) : Keeps 133314 s (State.restartRecs s) := by
  unfold State.restartRecs
  extract_lets +onlyGivenNames y0
  clear_value y0
  extract_lets +onlyGivenNames y1
  clear_value y1
  extract_lets +onlyGivenNames y2
  clear_value y2
  extract_lets +onlyGivenNames y3
  clear_value y3
  extract_lets +onlyGivenNames y4
  have h5 : Keeps 133314 s y4 := by unfold y4; exact Keeps.upd_hif rfl (Keeps.refl _) _
  clear_value y4
  refine Keeps.foldl ?_ ?_ _
  next => exact h5
  next => intro t6 x7; exact Keeps.of (State.evtOut_keeps _ _) rfl

theorem State.hostReady_keeps (s) : Keeps 133314 s (State.hostReady s) := by
  unfold State.hostReady
  extract_lets +onlyGivenNames y0
  clear_value y0
  extract_lets +onlyGivenNames y1
  clear_value y1
  extract_lets +onlyGivenNames y2
  have h3 : Keeps 133314 s y2 := by
    unfold y2
    refine Keeps.trans ?_ (Keeps.of (State.intr_keeps _ _) rfl)
    exact Keeps.upd_hif rfl (Keeps.refl _) _
  clear_value y2
  refine Keeps.foldl ?_ ?_ _
  next => refine Keeps.trans ?_ (Keeps.of (State.restartRecs_keeps _) rfl); exact h3
  next => intro t4 x5; exact Keeps.of (State.evtOut_keeps _ _) rfl

theorem State.showBases_keeps (s) : Keeps 64 s (State.showBases s) := by
  unfold State.showBases
  extract_lets +onlyGivenNames y0
  have h1 : ∀ x2 x3 x4, Keeps 64 x4 (y0 x2 x3 x4) := by
    intro x2 x3 x4
    unfold y0
    exact Keeps.of (State.fset_keeps _ _ _) rfl
  clear_value y0
  extract_lets +onlyGivenNames y5
  have h6 : Keeps 64 s y5 := by
    unfold y5
    refine Keeps.trans ?_ (h1 _ _ _)
    refine Keeps.trans ?_ (h1 _ _ _)
    refine Keeps.trans ?_ (h1 _ _ _)
    exact h1 _ _ _
  clear_value y5
  extract_lets +onlyGivenNames y7
  have h8 : Keeps 64 s y7 := by
    unfold y7
    refine Keeps.trans ?_ (h1 _ _ _)
    refine Keeps.trans ?_ (h1 _ _ _)
    refine Keeps.trans ?_ (h1 _ _ _)
    refine Keeps.trans ?_ (h1 _ _ _)
    exact h6
  clear_value y7
  extract_lets +onlyGivenNames y9
  have h10 : Keeps 64 s y9 := by
    unfold y9
    refine Keeps.trans ?_ (h1 _ _ _)
    refine Keeps.trans ?_ (h1 _ _ _)
    exact h8
  clear_value y9
  extract_lets +onlyGivenNames y11
  have h12 : Keeps 64 s y11 := by
    unfold y11
    refine Keeps.foldl ?_ ?_ _
    next =>
      exact h10
    next =>
      intro t13 x14
      exact Keeps.of (State.fset_keeps _ _ _) rfl
  clear_value y11
  refine Keeps.trans ?_ (Keeps.of (State.fset_keeps _ _ _) rfl)
  exact h12

theorem State.leakJump_keeps (s) : Keeps 1073741824 s (State.leakJump s) := by
  unfold State.leakJump
  exact Keeps.upd_dia rfl (Keeps.refl _) _ rfl

theorem State.timeLoad_keeps (s) : Keeps 5368709440 s (State.timeLoad s) := by
  unfold State.timeLoad
  extract_lets +onlyGivenNames y0
  clear_value y0
  refine Keeps.ite ?_ ?_
  next => exact Keeps.of (State.leakJump_keeps _) rfl
  next =>
    extract_lets +onlyGivenNames y1
    have h2 : Keeps 5368709440 s y1 := by
      unfold y1
      refine Keeps.trans ?_ (Keeps.of (State.leakJump_keeps _) rfl)
      exact Keeps.of (State.timeMod_keeps _ _) rfl
    clear_value y1
    refine Keeps.ite ?_ ?_
    next => refine Keeps.trans ?_ (Keeps.of (State.ydMod_keeps _ _) rfl); exact h2
    next => refine Keeps.trans ?_ (Keeps.of (State.fput_keeps _ _ _) rfl); exact h2

theorem State.ydHealth_keeps (s) : Keeps 4311744512 s (State.ydHealth s) := by
  unfold State.ydHealth
  refine Keeps.ite ?_ ?_
  next =>
    exact Keeps.refl _
  next =>
    extract_lets +onlyGivenNames y0
    clear_value y0
    extract_lets +onlyGivenNames y1
    clear_value y1
    extract_lets +onlyGivenNames y2
    clear_value y2
    extract_lets +onlyGivenNames y3
    have h4 : Keeps 4311744512 s y3 := by
      unfold y3
      exact Keeps.of (State.ydPut_keeps _ _ _) rfl
    clear_value y3
    refine Keeps.upd_red rfl (b := y3) ?_ _
    exact h4

theorem State.ydOrigin_keeps (s) : Keeps 4294967296 s (State.ydOrigin s) := by
  unfold State.ydOrigin
  extract_lets +onlyGivenNames y0
  clear_value y0
  exact Keeps.of (State.ydMod_keeps _ _) rfl

theorem State.canStop_keeps (s v1) : Keeps 134217792 s (State.canStop s v1) := by
  unfold State.canStop
  refine Keeps.trans ?_ (Keeps.of (State.fset_keeps _ _ _) rfl)
  refine Keeps.trans ?_ (Keeps.of (State.fset_keeps _ _ _) rfl)
  exact Keeps.of (State.ctlMod_keeps _ _ _) rfl

theorem State.ydRate_keeps (s v1) : Keeps 134217792 s (State.ydRate s v1) := by
  unfold State.ydRate
  extract_lets +onlyGivenNames y0
  clear_value y0
  extract_lets +onlyGivenNames y1
  have h2 : Keeps 134217792 s y1 := by
    unfold y1
    refine Keeps.trans ?_ (Keeps.of (State.fset_keeps _ _ _) rfl)
    exact Keeps.of (State.canStop_keeps _ _) rfl
  clear_value y1
  refine Keeps.trans ?_ (Keeps.of (State.canInitLeave_keeps _ _) rfl)
  exact h2

theorem State.ydBoot_keeps (s) : Keeps 4445962304 s (State.ydBoot s) := by
  unfold State.ydBoot
  split
  rename_i z0 z1 z2 z3
  extract_lets +onlyGivenNames y4
  have h5 : Keeps 4445962304 s y4 := by unfold y4; exact Keeps.of (State.ydMod_keeps _ _) rfl
  clear_value y4
  extract_lets +onlyGivenNames y6
  have h7 : ∀ a0 a1, Keeps 4445962304 a0 (y6 a0 a1) := by
    intro t8 t9
    unfold y6
    refine Keeps.trans ?_ (Keeps.of (State.ydRate_keeps _ _) rfl)
    refine Keeps.trans ?_ (Keeps.of (State.fset_keeps _ _ _) rfl)
    refine Keeps.trans ?_ (Keeps.of (State.fset_keeps _ _ _) rfl)
    exact Keeps.of (State.fset_keeps _ _ _) rfl
  clear_value y6
  refine Keeps.trans ?_ (Keeps.of (State.ydHealth_keeps _) rfl)
  refine Keeps.trans ?_ (Keeps.of (State.ydOrigin_keeps _) rfl)
  refine Keeps.trans ?_ (h7 _ _)
  refine Keeps.trans ?_ (h7 _ _)
  exact h5

theorem State.bootDone_keeps (s v1) : Keeps 6441861110 s (State.bootDone s v1) := by
  unfold State.bootDone
  refine Keeps.ite ?_ ?_
  next =>
    exact Keeps.refl _
  next =>
    extract_lets +onlyGivenNames y0
    clear_value y0
    extract_lets +onlyGivenNames y1
    clear_value y1
    extract_lets +onlyGivenNames y2
    clear_value y2
    split
    next =>
      extract_lets +onlyGivenNames y3
      have h4 : Keeps 6441861110 s y3 := by
        unfold y3
        refine Keeps.trans ?_ (Keeps.of (State.fup_keeps _ _) rfl)
        exact Keeps.of (State.sysMod_keeps _ _) rfl
      clear_value y3
      refine Keeps.trans ?_ (Keeps.of (State.hostReady_keeps _) rfl)
      refine Keeps.trans ?_ (Keeps.of (State.showBases_keeps _) rfl)
      exact h4
    next =>
      extract_lets +onlyGivenNames y5
      clear_value y5
      extract_lets +onlyGivenNames y6
      have h7 : Keeps 6441861110 s y6 := by
        unfold y6
        refine Keeps.trans ?_ (Keeps.of (State.fset_keeps _ _ _) rfl)
        refine Keeps.trans ?_ (Keeps.of (State.fput_keeps _ _ _) rfl)
        refine Keeps.trans ?_ (Keeps.of (State.fset_keeps _ _ _) rfl)
        exact Keeps.of (State.fset_keeps _ _ _) rfl
      clear_value y6
      extract_lets +onlyGivenNames y8
      have h9 : Keeps 6441861110 s y8 := by
        unfold y8
        refine Keeps.trans ?_ (Keeps.of (State.ledger_keeps _ _ _) rfl)
        refine Keeps.trans ?_ (Keeps.of (State.fput_keeps _ _ _) rfl)
        exact h7
      clear_value y8
      extract_lets +onlyGivenNames y10
      have h11 : Keeps 6441861110 s y10 := by
        unfold y10
        refine Keeps.trans ?_ (Keeps.of (State.bootTests_keeps _ _) rfl)
        refine Keeps.trans ?_ (Keeps.of (State.sysMod_keeps _ _) rfl)
        exact h9
      clear_value y10
      extract_lets +onlyGivenNames y12
      have h13 : Keeps 6441861110 s y12 := by
        unfold y12
        refine Keeps.trans ?_ (Keeps.of (State.showBases_keeps _) rfl)
        refine Keeps.trans ?_ (Keeps.of (State.timeLoad_keeps _) rfl)
        exact h11
      clear_value y12
      refine Keeps.ite ?_ ?_
      next =>
        extract_lets +onlyGivenNames y14
        have h15 : Keeps 6441861110 s y14 := by
          unfold y14
          refine Keeps.trans ?_ (Keeps.of (State.bootKept_keeps _) rfl)
          exact h13
        clear_value y14
        extract_lets +onlyGivenNames y16
        clear_value y16
        extract_lets +onlyGivenNames y17
        have h18 : Keeps 6441861110 s y17 := by
          unfold y17
          refine Keeps.upd_op_hif rfl (b := y14) ?_ _ _
          exact h15
        clear_value y17
        refine Keeps.trans ?_ (Keeps.of (State.framesBegin_keeps _) rfl)
        refine Keeps.trans ?_ (Keeps.of (State.bootReached_keeps _) rfl)
        refine Keeps.trans ?_ (Keeps.of (State.ydBoot_keeps _) rfl)
        exact h18
      next =>
        extract_lets +onlyGivenNames y19
        have h20 : Keeps 6441861110 s y19 := by
          unfold y19
          refine Keeps.trans ?_ (Keeps.of (State.framesBegin_keeps _) rfl)
          refine Keeps.trans ?_ (Keeps.of (State.bootConfig_keeps _) rfl)
          refine Keeps.trans ?_ (Keeps.of (State.hostReady_keeps _) rfl)
          refine Keeps.trans ?_ (Keeps.of (State.bootKept_keeps _) rfl)
          exact h13
        clear_value y19
        refine Keeps.trans ?_ (Keeps.of (State.redMod_keeps _ _) rfl)
        refine Keeps.trans ?_ (Keeps.of (State.domJudge_keeps _) rfl)
        refine Keeps.trans ?_ (Keeps.of (State.bootReached_keeps _) rfl)
        exact h20

theorem State.ledPut_keeps (s v1) : Keeps 8320 s (State.ledPut s v1) := by
  unfold State.ledPut
  extract_lets +onlyGivenNames y0
  have h1 : Keeps 8320 s y0 := by unfold y0; exact Keeps.of (State.wrB_keeps _ _ _ _) rfl
  clear_value y0
  refine Keeps.upd_d0 rfl (b := y0) ?_ _
  exact h1

theorem State.ledHead_keeps (s) : Keeps 8320 s (State.ledHead s) := by
  unfold State.ledHead
  split
  next => rename_i z0 z1; exact Keeps.refl _
  next =>
    rename_i z2 z3 z4 z5
    extract_lets +onlyGivenNames y6
    have h7 : Keeps 8320 s y6 := by unfold y6; exact Keeps.of (State.ledPut_keeps _ _) rfl
    clear_value y6
    extract_lets +onlyGivenNames y8
    extract_lets +onlyGivenNames y9
    have h10 : Keeps 8320 s y9 := by unfold y9; refine Keeps.upd_d0 rfl (b := y6) ?_ _; exact h7
    refine Keeps.ite ?_ ?_
    next => refine Keeps.upd_d0 rfl (b := y9) ?_ _; exact h10
    next => exact h10

theorem State.borWrites_keeps (s v1 v2 v3 v4 v5 v6) : Keeps 139460 s (State.borWrites s v1 v2 v3 v4 v5 v6) := by
  unfold State.borWrites
  extract_lets +onlyGivenNames y0
  have h1 : ∀ a0 a1, Keeps 139460 a0 (y0 a0 a1) := by intro t2 t3; unfold y0; exact Keeps.upd_d0 rfl (Keeps.refl _) _
  clear_value y0
  refine Keeps.ite ?_ ?_
  next =>
    extract_lets +onlyGivenNames y4
    have h5 : Keeps 139460 s y4 := by
      unfold y4
      refine Keeps.ite ?_ ?_
      next => exact Keeps.of (State.ledHead_keeps _) rfl
      next => exact Keeps.refl _
    clear_value y4
    extract_lets +onlyGivenNames y6
    have h7 : Keeps 139460 s y6 := by
      unfold y6
      refine Keeps.ite ?_ ?_
      next =>
        split
        next => rename_i z8 z9 z10; refine Keeps.trans ?_ (Keeps.of (State.recFlash_keeps _ _) rfl); exact h5
        next => rename_i z11 z12; exact h5
      next => exact h5
    clear_value y6
    refine Keeps.trans ?_ (Keeps.of (State.ledPut_keeps _ _) rfl)
    exact h7
  next =>
    refine Keeps.ite ?_ ?_
    next => refine Keeps.trans ?_ (h1 _ _); exact Keeps.refl _
    next =>
      refine Keeps.ite ?_ ?_
      next => refine Keeps.trans ?_ (h1 _ _); exact Keeps.refl _
      next => exact Keeps.refl _

theorem State.noteMv_keeps (s v1 v2 v3) : Keeps 4096 s (State.noteMv s v1 v2 v3) := by
  unfold State.noteMv
  exact Keeps.of (State.sysMod_keeps _ _) rfl

theorem State.copyRegs_keeps (s v1 v2) : Keeps 64 s (State.copyRegs s v1 v2) := by
  unfold State.copyRegs
  refine Keeps.foldl ?_ ?_ _
  next => exact Keeps.refl _
  next => intro t0 x1; exact Keeps.of (State.setReg_keeps _ _ _) rfl

theorem State.safRestart_keeps (s v1 v2) : Keeps 33554496 s (State.safRestart s v1 v2) := by
  unfold State.safRestart
  extract_lets +onlyGivenNames y0
  have h1 : Keeps 33554496 s y0 := by
    unfold y0
    refine Keeps.trans ?_ (Keeps.of (State.fset_keeps _ _ _) rfl)
    refine Keeps.trans ?_ (Keeps.of (State.fset_keeps _ _ _) rfl)
    exact Keeps.of (State.fput_keeps _ _ _) rfl
  clear_value y0
  extract_lets +onlyGivenNames y2
  have h3 : Keeps 33554496 s y2 := by
    unfold y2
    refine Keeps.trans ?_ (Keeps.of (State.safMod_keeps _ _) rfl)
    refine Keeps.trans ?_ (Keeps.of (State.copyRegs_keeps _ _ _) rfl)
    exact h1
  clear_value y2
  refine Keeps.ite ?_ ?_
  next =>
    refine Keeps.trans ?_ (Keeps.of (State.showSaf_keeps _) rfl)
    refine Keeps.trans ?_ (Keeps.of (State.safMod_keeps _ _) rfl)
    refine Keeps.trans ?_ (Keeps.of (State.copyRegs_keeps _ _ _) rfl)
    exact h3
  next =>
    refine Keeps.trans ?_ (Keeps.of (State.safMod_keeps _ _) rfl)
    refine Keeps.trans ?_ (Keeps.of (State.fset_keeps _ _ _) rfl)
    exact h3

theorem State.setY_keeps (s v1) : Keeps 8388672 s (State.setY s v1) := by
  unfold State.setY
  refine Keeps.trans ?_ (Keeps.of (State.fset_keeps _ _ _) rfl)
  exact Keeps.of (State.ptpMod_keeps _ _) rfl

theorem State.showSlew_keeps (s) : Keeps 64 s (State.showSlew s) := by
  unfold State.showSlew
  extract_lets +onlyGivenNames y0
  clear_value y0
  refine Keeps.trans ?_ (Keeps.of (State.fput_keeps _ _ _) rfl)
  exact Keeps.of (State.fput_keeps _ _ _) rfl

theorem State.slewDrop_keeps (s) : Keeps 320 s (State.slewDrop s) := by
  unfold State.slewDrop
  refine Keeps.trans ?_ (Keeps.of (State.showSlew_keeps _) rfl)
  exact Keeps.upd_time rfl (Keeps.refl _) _

theorem State.servoRestart_keeps (s) : Keeps 8388928 s (State.servoRestart s) := by
  unfold State.servoRestart
  extract_lets +onlyGivenNames y0
  clear_value y0
  extract_lets +onlyGivenNames y1
  have h2 : Keeps 8388928 s y1 := by unfold y1; exact Keeps.of (State.ptpMod_keeps _ _) rfl
  clear_value y1
  refine Keeps.trans ?_ (Keeps.of (State.slewDrop_keeps _) rfl)
  refine Keeps.trans ?_ (Keeps.of (State.fset_keeps _ _ _) rfl)
  refine Keeps.trans ?_ (Keeps.of (State.fset_keeps _ _ _) rfl)
  refine Keeps.trans ?_ (Keeps.of (State.setY_keeps _ _) rfl)
  exact h2

theorem State.canRetire_keeps (s v1) : Keeps 134217792 s (State.canRetire s v1) := by
  unfold State.canRetire
  refine Keeps.trans ?_ (Keeps.of (State.fset_keeps _ _ _) rfl)
  exact Keeps.of (State.canStop_keeps _ _) rfl

theorem State.showKept_keeps (s v1) : Keeps 140509248 s (State.showKept s v1) := by
  unfold State.showKept
  extract_lets +onlyGivenNames y0
  clear_value y0
  extract_lets +onlyGivenNames y1
  have h2 : Keeps 140509248 s y1 := by unfold y1; exact Keeps.of (State.showRet_keeps _ _ _ _) rfl
  clear_value y1
  split
  next => rename_i z3 z4; refine Keeps.trans ?_ (Keeps.of (State.canRetire_keeps _ _) rfl); exact h2
  next =>
    rename_i z5 z6
    refine Keeps.ite ?_ ?_
    next =>
      refine Keeps.trans ?_ (Keeps.of (State.cexMod_keeps _ _) rfl)
      refine Keeps.trans ?_ (Keeps.of (State.fset_keeps _ _ _) rfl)
      exact h2
    next => exact h2
  next => rename_i z7 z8; refine Keeps.trans ?_ (Keeps.of (State.slvMod_keeps _ _) rfl); exact h2
  next => rename_i z9 z10 z11 z12; exact h2

theorem State.restart_keeps (s v1) : Keeps 8589933560 s (State.restart s v1) := by
  unfold State.restart
  refine Keeps.trans ?_ (Keeps.of (State.showNav_keeps _) rfl)
  refine Keeps.foldl ?_ (fun t x => Keeps.of (State.showKept_keeps t x) rfl) _
  refine Keeps.trans ?_ (Keeps.of (State.fset_keeps _ _ _) rfl)
  refine Keeps.trans ?_ (Keeps.of (State.servoRestart_keeps _) rfl)
  refine Keeps.trans ?_ (Keeps.of (State.safRestart_keeps _ _ _) rfl)
  have two : ∀ (c : Prop) [Decidable c] (a b : State), Keeps 8589933560 s a → Keeps 8589933560 a b → Keeps 8589933560 s (if c then b else a) :=
    fun c _ a b h k => Keeps.ite (h.trans k) h
  refine two _ _ _ ?_ ((Keeps.of (State.fset_keeps _ _ _) rfl).trans ((Keeps.of (State.fset_keeps _ _ _) rfl).trans (Keeps.of (State.fset_keeps _ _ _) rfl)))
  refine two _ _ _ ?_ (Keeps.of (State.fset_keeps _ _ _) rfl)
  refine Keeps.trans ?_ (Keeps.of (State.fset_keeps _ _ _) rfl)
  refine Keeps.trans ?_ (Keeps.of (State.fset_keeps _ _ _) rfl)
  refine ⟨fun w => ?_, rfl⟩
  simp only [State.storesWf, Bool.and_eq_true] at w
  simp only [State.storesWf, Bool.and_eq_true]
  exact ⟨⟨memDrop_wf _ s.mem w.1.1, rfl⟩, rfl⟩

theorem State.brownOut_keeps (s v1 v2 v3 v4 v5 v6) : Keeps 8589933564 s (State.brownOut s v1 v2 v3 v4 v5 v6) := by
  unfold State.brownOut
  refine Keeps.ite ?_ ?_
  next => exact Keeps.refl _
  next =>
    extract_lets +onlyGivenNames y0
    clear_value y0
    extract_lets +onlyGivenNames y1
    have h2 : Keeps 8589933564 s y1 := by
      unfold y1
      refine Keeps.trans ?_ (Keeps.of (State.borWrites_keeps _ _ _ _ _ _ _) rfl)
      refine Keeps.ite ?_ ?_
      next => exact Keeps.of (State.noteMv_keeps _ _ _ _) rfl
      next => exact Keeps.refl _
    clear_value y1
    refine Keeps.trans ?_ (Keeps.of (State.sysMod_keeps _ _) rfl)
    refine Keeps.trans ?_ (Keeps.of (State.fset_keeps _ _ _) rfl)
    refine Keeps.trans ?_ (Keeps.of (State.restart_keeps _ _) rfl)
    exact h2

theorem State.fltErr_keeps (s v1 v2) : Keeps 190658 s (State.fltErr s v1 v2).1 := by
  unfold State.fltErr
  extract_lets +onlyGivenNames y0
  clear_value y0
  extract_lets +onlyGivenNames y1
  have h2 : Keeps 190658 s y1 := by unfold y1; exact Keeps.of (State.fltPut_keeps _ _ _ _) rfl
  clear_value y1
  refine Keeps.ite1 ?_ ?_
  next => dsimp only; refine Keeps.trans ?_ (Keeps.of (State.retire_keeps _ _ _ _) rfl); exact h2
  next => dsimp only; exact h2

theorem State.busOff_keeps (s v1) : Keeps 134408386 s (State.busOff s v1) := by
  unfold State.busOff
  refine Keeps.ite ?_ ?_
  next => exact Keeps.refl _
  next =>
    extract_lets +onlyGivenNames y0
    have h1 : Keeps 134408386 s y0 := by
      unfold y0
      refine Keeps.trans ?_ (Keeps.of (State.finc_keeps _ _) rfl)
      refine Keeps.trans ?_ (Keeps.of (State.fset_keeps _ _ _) rfl)
      refine Keeps.trans ?_ (Keeps.of (State.fup_keeps _ _) rfl)
      exact Keeps.of (State.fset_keeps _ _ _) rfl
    clear_value y0
    extract_lets +onlyGivenNames y2
    have h3 : Keeps 134408386 s y2 := by
      unfold y2
      refine Keeps.trans ?_ (Keeps.of (State.ctlMod_keeps _ _ _) rfl)
      exact h1
    clear_value y2
    extract_lets +onlyGivenNames y4
    have h5 : Keeps 134408386 s y4 := by
      unfold y4
      refine Keeps.ite ?_ ?_
      next =>
        refine Keeps.trans ?_ (Keeps.of (State.ctlMod_keeps _ _ _) rfl)
        refine Keeps.trans ?_ (Keeps.of (State.fcount_keeps _ _ _) rfl)
        exact h3
      next => exact h3
    clear_value y4
    split
    rename_i z6 z7 z8 z9
    have k10 : Keeps 134408386 s z7 := by
      refine Keeps.fst z9 ?_
      refine Keeps.trans ?_ (Keeps.of (State.fltErr_keeps _ _ _) rfl)
      refine Keeps.trans ?_ (Keeps.of (State.event_keeps _ _ _ _ _) rfl)
      exact h5
    refine Keeps.ite ?_ ?_
    next => refine Keeps.trans ?_ (Keeps.of (State.canRetire_keeps _ _) rfl); exact k10
    next => exact k10

theorem State.ydBufPut_keeps (s v1 v2) : Keeps 4294967296 s (State.ydBufPut s v1 v2) := by
  unfold State.ydBufPut
  exact Keeps.of (State.ydMod_keeps _ _) rfl

theorem State.ydTxSync_keeps (s) : Keeps 4294967296 s (State.ydTxSync s) := by
  unfold State.ydTxSync
  refine Keeps.foldl ?_ ?_ _
  next => exact Keeps.refl _
  next =>
    intro t0 x1
    extract_lets +onlyGivenNames y2
    clear_value y2
    refine Keeps.ite ?_ ?_
    next => exact Keeps.of (State.ydBufPut_keeps _ _ _) rfl
    next => exact Keeps.refl _

theorem State.ydCanAfter_keeps {M : Nat} (hM : 4294967296 ||| M = M) (s v1) (h1 : Keeps M s v1) : Keeps M s (State.ydCanAfter s v1) := by
  unfold State.ydCanAfter
  split
  · exact h1
  · exact h1.trans ((Keeps.of (State.ydAlarm_keeps v1 _) (mask_trans (o := 4294967296) rfl hM)).trans (Keeps.of (State.ydTxSync_keeps _) (mask_trans (o := 4294967296) rfl hM)))

theorem State.busOffRecover_keeps (s v1) : Keeps 134217792 s (State.busOffRecover s v1) := by
  unfold State.busOffRecover
  refine Keeps.ite ?_ ?_
  next =>
    refine Keeps.trans ?_ (Keeps.of (State.ctlMod_keeps _ _ _) rfl)
    refine Keeps.trans ?_ (Keeps.of (State.fset_keeps _ _ _) rfl)
    refine Keeps.trans ?_ (Keeps.of (State.fset_keeps _ _ _) rfl)
    refine Keeps.trans ?_ (Keeps.of (State.fset_keeps _ _ _) rfl)
    exact Keeps.of (State.fset_keeps _ _ _) rfl
  next =>
    exact Keeps.refl _

theorem State.canErrState_keeps (s v1) : Keeps 64 s (State.canErrState s v1) := by
  unfold State.canErrState
  refine Keeps.ite ?_ ?_
  next => exact Keeps.of (State.fset_keeps _ _ _) rfl
  next => exact Keeps.of (State.fset_keeps _ _ _) rfl

theorem State.recErr_keeps (s v1 v2) : Keeps 64 s (State.recErr s v1 v2) := by
  unfold State.recErr
  refine Keeps.ite ?_ ?_
  next => exact Keeps.refl _
  next =>
    refine Keeps.trans ?_ (Keeps.of (State.canErrState_keeps _ _) rfl)
    exact Keeps.of (State.fcount_keeps _ _ _) rfl

theorem State.protoExc_keeps (s v1) : Keeps 64 s (State.protoExc s v1) := by
  unfold State.protoExc
  refine Keeps.ite ?_ ?_
  next => refine Keeps.trans ?_ (Keeps.of (State.recErr_keeps _ _ _) rfl); exact Keeps.of (State.fset_keeps _ _ _) rfl
  next => refine Keeps.trans ?_ (Keeps.of (State.fset_keeps _ _ _) rfl); exact Keeps.of (State.fup_keeps _ _) rfl

theorem State.canBusError_keeps (s v1 v2 v3) : Keeps 64 s (State.canBusError s v1 v2 v3) := by
  unfold State.canBusError
  refine Keeps.ite ?_ ?_
  next => exact Keeps.refl _
  next =>
    refine Keeps.ite ?_ ?_
    next => exact Keeps.of (State.protoExc_keeps _ _) rfl
    next =>
      refine Keeps.trans ?_ (Keeps.of (State.recErr_keeps _ _ _) rfl)
      exact Keeps.of (State.fset_keeps _ _ _) rfl

theorem State.showB_keeps (s) : Keeps 67108928 s (State.showB s) := by
  unfold State.showB
  extract_lets +onlyGivenNames y0
  have h1 : Keeps 67108928 s y0 := by unfold y0; exact Keeps.of (State.ppsFold_keeps _) rfl
  clear_value y0
  extract_lets +onlyGivenNames y2
  clear_value y2
  refine Keeps.trans ?_ (Keeps.of (State.fset_keeps _ _ _) rfl)
  refine Keeps.trans ?_ (Keeps.of (State.fset_keeps _ _ _) rfl)
  exact h1

theorem State.readFx_keeps (s v1) : Keeps 1140863040 s (State.readFx s v1) := by
  unfold State.readFx
  extract_lets +onlyGivenNames y0
  have h1 : Keeps 1140863040 s y0 := by
    unfold y0
    split
    next =>
      rename_i z2 z3 z4
      refine Keeps.ite ?_ ?_
      next => exact Keeps.refl _
      next => exact Keeps.of (State.setReg_keeps _ _ _) rfl
    next => rename_i z5 z6; exact Keeps.refl _
  clear_value y0
  refine Keeps.ite ?_ ?_
  next => refine Keeps.trans ?_ (Keeps.of (State.fset_keeps _ _ _) rfl); exact h1
  next =>
    refine Keeps.ite ?_ ?_
    next => refine Keeps.trans ?_ (Keeps.of (State.showB_keeps _) rfl); exact h1
    next =>
      refine Keeps.ite ?_ ?_
      next => refine Keeps.upd_dia rfl (b := y0) ?_ _ rfl; exact h1
      next =>
        refine Keeps.ite ?_ ?_
        next => refine Keeps.trans ?_ (Keeps.of (State.sysMod_keeps _ _) rfl); exact h1
        next =>
          refine Keeps.ite ?_ ?_
          next => refine Keeps.upd_d0 rfl (b := y0) ?_ _; exact h1
          next => exact h1

theorem State.hostRd_keeps (s v1) : Keeps 1140863042 s (State.hostRd s v1) := by
  unfold State.hostRd
  refine Keeps.ite ?_ ?_
  next => exact Keeps.refl _
  next => refine Keeps.trans ?_ (Keeps.of (State.readFx_keeps _ _) rfl); exact Keeps.of (State.send_keeps _ _ _) rfl

theorem State.hostRdN_keeps (s v1 v2 v3 v4) : Keeps 1140863042 s (State.hostRdN s v1 v2 v3 v4) := by
  unfold State.hostRdN
  refine Keeps.ite ?_ ?_
  next => exact Keeps.of (State.hostRd_keeps _ _) rfl
  next =>
    refine Keeps.ite ?_ ?_
    next => exact Keeps.refl _
    next => exact Keeps.of (State.send_keeps _ _ _) rfl

theorem State.bufferSample_keeps (s v1 v2 v3 v4) : Keeps 786496 s (State.bufferSample s v1 v2 v3 v4) := by
  unfold State.bufferSample
  extract_lets +onlyGivenNames y0
  clear_value y0
  extract_lets +onlyGivenNames y1
  clear_value y1
  extract_lets +onlyGivenNames y2
  clear_value y2
  extract_lets +onlyGivenNames y3
  clear_value y3
  refine Keeps.ite ?_ ?_
  next =>
    exact Keeps.of (State.finc_keeps _ _) rfl
  next =>
    refine Keeps.ite ?_ ?_
    next =>
      refine Keeps.ite ?_ ?_
      next =>
        refine Keeps.upd_retro rfl ?_ _
        exact Keeps.refl _
      next =>
        extract_lets +onlyGivenNames y4
        have h5 : Keeps 786496 s y4 := by
          unfold y4
          exact Keeps.of (State.finc_keeps _ _) rfl
        clear_value y4
        refine Keeps.ite ?_ ?_
        next =>
          refine Keeps.trans ?_ (Keeps.of (State.finc_keeps _ _) rfl)
          exact h5
        next =>
          exact h5
    next =>
      extract_lets +onlyGivenNames y6
      have h7 : Keeps 786496 s y6 := by
        unfold y6
        exact Keeps.of (State.ctxPut_keeps _ _ _) rfl
      clear_value y6
      refine Keeps.ite ?_ ?_
      next =>
        exact h7
      next =>
        refine Keeps.ite ?_ ?_
        next =>
          refine Keeps.upd_retro rfl (b := y6) ?_ _
          exact h7
        next =>
          refine Keeps.trans ?_ (Keeps.of (State.finc_keeps _ _) rfl)
          exact h7

theorem State.suspectCtx_keeps (s v1) : Keeps 452802 s (State.suspectCtx s v1) := by
  unfold State.suspectCtx
  extract_lets +onlyGivenNames y0
  clear_value y0
  extract_lets +onlyGivenNames y1
  have h2 : Keeps 452802 s y1 := by
    unfold y1
    refine Keeps.trans ?_ (Keeps.of (State.event_keeps _ _ _ _ _) rfl)
    exact Keeps.of (State.ctxPut_keeps _ _ _) rfl
  clear_value y1
  split
  rename_i z3 z4 z5 z6
  have k7 : Keeps 452802 s z4 := by
    refine Keeps.fst z6 ?_
    refine Keeps.trans ?_ (Keeps.of (State.fltErr_keeps _ _ _) rfl)
    exact h2
  refine Keeps.ite ?_ ?_
  next => refine Keeps.trans ?_ (Keeps.of (State.ctxPut_keeps _ _ _) rfl); exact k7
  next => exact k7

theorem State.lockStep_keeps (s v1 v2) : Keeps 452802 s (State.lockStep s v1 v2) := by
  unfold State.lockStep
  extract_lets +onlyGivenNames y0
  clear_value y0
  extract_lets +onlyGivenNames y1
  clear_value y1
  extract_lets +onlyGivenNames y2
  have h3 : Keeps 452802 s y2 := by
    unfold y2
    exact Keeps.of (State.ctxPut_keeps _ _ _) rfl
  clear_value y2
  refine Keeps.ite ?_ ?_
  next =>
    extract_lets +onlyGivenNames y4
    clear_value y4
    extract_lets +onlyGivenNames y5
    have h6 : Keeps 452802 s y5 := by
      unfold y5
      refine Keeps.trans ?_ (Keeps.of (State.event_keeps _ _ _ _ _) rfl)
      refine Keeps.trans ?_ (Keeps.of (State.ctxPut_keeps _ _ _) rfl)
      exact h3
    clear_value y5
    refine Keeps.ite ?_ ?_
    next =>
      refine Keeps.trans ?_ (Keeps.of (State.clearAlarm_keeps _ _ _ _) rfl)
      exact h6
    next =>
      exact h6
  next =>
    refine Keeps.ite ?_ ?_
    next =>
      refine Keeps.trans ?_ (Keeps.of (State.suspectCtx_keeps _ _) rfl)
      exact h3
    next =>
      exact h3

theorem State.ctxSample_keeps (s v1 v2 v3 v4 v5 v6 v7 v8 v9 v10) : Keeps 977094 s (State.ctxSample s v1 v2 v3 v4 v5 v6 v7 v8 v9 v10) := by
  unfold State.ctxSample
  extract_lets +onlyGivenNames y0
  clear_value y0
  refine Keeps.ite ?_ ?_
  next =>
    exact Keeps.refl _
  next =>
    extract_lets +onlyGivenNames y1
    clear_value y1
    extract_lets +onlyGivenNames y2
    clear_value y2
    refine Keeps.ite ?_ ?_
    next =>
      split
      extract_lets +onlyGivenNames y3
      have h4 : Keeps 977094 s y3 := by
        unfold y3
        refine Keeps.trans ?_ (Keeps.of (State.tick1_keeps _) rfl)
        exact Keeps.of (State.ctxPut_keeps _ _ _) rfl
      clear_value y3
      extract_lets +onlyGivenNames y5
      have h6 : Keeps 977094 s y5 := by
        unfold y5
        split
        next =>
          refine Keeps.trans ?_ (Keeps.of (State.fset_keeps _ _ _) rfl)
          exact h4
        next =>
          exact h4
      clear_value y5
      refine Keeps.trans ?_ (Keeps.of (State.bufferSample_keeps _ _ _ _ _) rfl)
      refine Keeps.trans ?_ (Keeps.of (State.lockStep_keeps _ _ _) rfl)
      exact h6
    next =>
      extract_lets +onlyGivenNames y7
      clear_value y7
      split
      extract_lets +onlyGivenNames y8
      have h9 : Keeps 977094 s y8 := by
        unfold y8
        refine Keeps.trans ?_ (Keeps.of (State.fset_keeps _ _ _) rfl)
        exact Keeps.of (State.ctxPut_keeps _ _ _) rfl
      clear_value y8
      refine Keeps.trans ?_ (Keeps.of (State.bufferSample_keeps _ _ _ _ _) rfl)
      refine Keeps.trans ?_ (Keeps.of (State.lockStep_keeps _ _ _) rfl)
      exact h9

theorem State.deliver_keeps (s v1 v2 v3) : Keeps 977094 s (State.deliver s v1 v2 v3) := by
  unfold State.deliver
  extract_lets +onlyGivenNames y0
  clear_value y0
  refine Keeps.foldl ?_ ?_ _
  next =>
    exact Keeps.refl _
  next =>
    intro t1 x2
    extract_lets +onlyGivenNames y3
    clear_value y3
    extract_lets +onlyGivenNames y4
    clear_value y4
    refine Keeps.ite ?_ ?_
    next =>
      exact Keeps.of (State.finc_keeps _ _) rfl
    next =>
      refine Keeps.ite ?_ ?_
      next =>
        exact Keeps.refl _
      next =>
        exact Keeps.of (State.ctxSample_keeps _ _ _ _ _ _ _ _ _ _ _) rfl

theorem State.canBind_keeps (s v1 v2 v3) : Keeps 977094 s (State.canBind s v1 v2 v3) := by
  unfold State.canBind
  split
  next => rename_i z0 z1; exact Keeps.refl _
  next =>
    rename_i z2 z3 z4
    refine Keeps.foldl ?_ ?_ _
    next => exact Keeps.refl _
    next =>
      intro t5 x6
      extract_lets +onlyGivenNames y7
      clear_value y7
      exact Keeps.of (State.deliver_keeps _ _ _ _) rfl

theorem State.recOk_keeps (s v1) : Keeps 68 s (State.recOk s v1) := by
  unfold State.recOk
  extract_lets +onlyGivenNames y0
  clear_value y0
  refine Keeps.ite ?_ ?_
  next => exact Keeps.refl _
  next =>
    refine Keeps.ite ?_ ?_
    next =>
      refine Keeps.trans ?_ (Keeps.of (State.canErrState_keeps _ _) rfl)
      refine Keeps.trans ?_ (Keeps.of (State.tick1_keeps _) rfl)
      exact Keeps.of (State.fset_keeps _ _ _) rfl
    next =>
      refine Keeps.trans ?_ (Keeps.of (State.canErrState_keeps _ _) rfl)
      exact Keeps.of (State.fset_keeps _ _ _) rfl

theorem State.rxqStore_keeps (s v1 v2 v3 v4 v5 v6 v7) : Keeps 133314 s (State.rxqStore s v1 v2 v3 v4 v5 v6 v7) := by
  unfold State.rxqStore
  refine Keeps.ite ?_ ?_
  next =>
    refine Keeps.trans ?_ (Keeps.of (State.event_keeps _ _ _ _ _) rfl)
    exact Keeps.of (State.finc_keeps _ _) rfl
  next =>
    extract_lets +onlyGivenNames y0
    clear_value y0
    extract_lets +onlyGivenNames y1
    clear_value y1
    extract_lets +onlyGivenNames y2
    clear_value y2
    extract_lets +onlyGivenNames y3
    clear_value y3
    extract_lets +onlyGivenNames y4
    have h5 : Keeps 133314 s y4 := by unfold y4; exact Keeps.of (State.wrB_keeps _ _ _ _) rfl
    clear_value y4
    refine Keeps.trans ?_ (Keeps.of (State.fset_keeps _ _ _) rfl)
    refine Keeps.trans ?_ (Keeps.of (State.fset_keeps _ _ _) rfl)
    exact h5

theorem State.canRx_keeps (s v1 v2 v3 v4 v5) : Keeps 977094 s (State.canRx s v1 v2 v3 v4 v5) := by
  unfold State.canRx
  extract_lets +onlyGivenNames y0
  clear_value y0
  refine Keeps.ite ?_ ?_
  next =>
    exact Keeps.refl _
  next =>
    refine Keeps.ite ?_ ?_
    next =>
      exact Keeps.of (State.protoExc_keeps _ _) rfl
    next =>
      extract_lets +onlyGivenNames y1
      have h2 : Keeps 977094 s y1 := by
        unfold y1
        exact Keeps.of (State.recOk_keeps _ _) rfl
      clear_value y1
      refine Keeps.ite ?_ ?_
      next =>
        exact h2
      next =>
        split
        next =>
          split
          next =>
            refine Keeps.trans ?_ (Keeps.of (State.rxqStore_keeps _ _ _ _ _ _ _ _) rfl)
            exact h2
          next =>
            refine Keeps.trans ?_ (Keeps.of (State.rxqStore_keeps _ _ _ _ _ _ _ _) rfl)
            exact h2
          next =>
            exact h2
        next =>
          split
          next =>
            refine Keeps.trans ?_ (Keeps.of (State.rxqStore_keeps _ _ _ _ _ _ _ _) rfl)
            exact h2
          next =>
            refine Keeps.trans ?_ (Keeps.of (State.rxqStore_keeps _ _ _ _ _ _ _ _) rfl)
            exact h2
          next =>
            refine Keeps.trans ?_ (Keeps.of (State.canBind_keeps _ _ _ _) rfl)
            exact h2
          next =>
            refine Keeps.trans ?_ (Keeps.of (State.rxqStore_keeps _ _ _ _ _ _ _ _) rfl)
            refine Keeps.trans ?_ (Keeps.of (State.canBind_keeps _ _ _ _) rfl)
            exact h2
          next =>
            exact h2

theorem State.canInitAck_keeps (s v1) : Keeps 134217792 s (State.canInitAck s v1) := by
  unfold State.canInitAck
  refine Keeps.ite ?_ ?_
  next => exact Keeps.of (State.canStop_keeps _ _) rfl
  next => exact Keeps.refl _

theorem State.hostWrN_keeps (s v1 v2 v3 v4 v5) : Keeps 1603714046 s (State.hostWrN s v1 v2 v3 v4 v5) := by
  unfold State.hostWrN
  refine Keeps.ite ?_ ?_
  next => exact Keeps.of (State.hostWr_keeps _ _ _) rfl
  next => exact Keeps.refl _

theorem State.canIntegrate_keeps (s v1) : Keeps 64 s (State.canIntegrate s v1) := by
  unfold State.canIntegrate
  refine Keeps.ite ?_ ?_
  next => exact Keeps.refl _
  next => exact Keeps.of (State.fset_keeps _ _ _) rfl

theorem State.canFree_keeps (s v1 v2) : Keeps 134217792 s (State.canFree s v1 v2) := by
  unfold State.canFree
  exact Keeps.of (State.ctlMod_keeps _ _ _) rfl

theorem State.tecErr_keeps (s v1) : Keeps 134408386 s (State.tecErr s v1) := by
  unfold State.tecErr
  refine Keeps.ite ?_ ?_
  next => refine Keeps.trans ?_ (Keeps.of (State.busOff_keeps _ _) rfl); exact Keeps.of (State.fset_keeps _ _ _) rfl
  next =>
    refine Keeps.trans ?_ (Keeps.of (State.canErrState_keeps _ _) rfl)
    exact Keeps.of (State.fset_keeps _ _ _) rfl

theorem State.canTxDone_keeps (s v1 v2 v3 v4) : Keeps 134408386 s (State.canTxDone s v1 v2 v3 v4) := by
  unfold State.canTxDone
  refine Keeps.ite ?_ ?_
  next =>
    exact Keeps.refl _
  next =>
    split
    next =>
      exact Keeps.refl _
    next =>
      split
      next =>
        exact Keeps.refl _
      next =>
        extract_lets +onlyGivenNames y0
        have h1 : ∀ x2, Keeps 134408386 x2 (y0 x2) := by
          intro x2
          unfold y0
          refine Keeps.ite ?_ ?_
          next =>
            refine Keeps.trans ?_ (Keeps.of (State.finc_keeps _ _) rfl)
            exact Keeps.of (State.canFree_keeps _ _ _) rfl
          next =>
            exact Keeps.refl _
        clear_value y0
        refine Keeps.ite ?_ ?_
        next =>
          extract_lets +onlyGivenNames y3
          have h4 : Keeps 134408386 s y3 := by
            unfold y3
            refine Keeps.trans ?_ (Keeps.of (State.fset_keeps _ _ _) rfl)
            exact Keeps.of (State.canFree_keeps _ _ _) rfl
          clear_value y3
          refine Keeps.trans ?_ (Keeps.of (State.send_keeps _ _ _) rfl)
          refine Keeps.trans ?_ (Keeps.of (State.canErrState_keeps _ _) rfl)
          refine Keeps.trans ?_ (Keeps.of (State.fset_keeps _ _ _) rfl)
          exact h4
        next =>
          refine Keeps.ite ?_ ?_
          next =>
            exact h1 _
          next =>
            extract_lets +onlyGivenNames y5
            have h6 : Keeps 134408386 s y5 := by
              unfold y5
              exact Keeps.of (State.fset_keeps _ _ _) rfl
            clear_value y5
            extract_lets +onlyGivenNames y7
            have h8 : Keeps 134408386 s y7 := by
              unfold y7
              refine Keeps.ite ?_ ?_
              next =>
                refine Keeps.trans ?_ (h1 _)
                exact h6
              next =>
                refine Keeps.trans ?_ (Keeps.of (State.tecErr_keeps _ _) rfl)
                refine Keeps.trans ?_ (h1 _)
                exact h6
            clear_value y7
            exact h8

theorem State.canLoad_keeps (s v1) : Keeps 134217792 s (State.canLoad s v1) := by
  unfold State.canLoad
  extract_lets +onlyGivenNames y0
  clear_value y0
  refine Keeps.ite ?_ ?_
  next =>
    exact Keeps.refl _
  next =>
    split
    next =>
      exact Keeps.refl _
    next =>
      extract_lets +onlyGivenNames y1
      clear_value y1
      extract_lets +onlyGivenNames y2
      clear_value y2
      split
      next =>
        exact Keeps.refl _
      next =>
        exact Keeps.of (State.ctlPut_keeps _ _ _) rfl

theorem State.storeObj_keeps (s v1) : Keeps 167622 s (State.storeObj s v1) := by
  unfold State.storeObj
  refine Keeps.ite ?_ ?_
  next => exact Keeps.upd_flash rfl (Keeps.refl _) _
  next =>
    split
    rename_i z0 z1 z2 z3
    have k4 : Keeps 167622 s z1 := by refine Keeps.fst z3 ?_; exact Keeps.of (State.flashTry_keeps _) rfl
    split
    next => rename_i z5 z6; exact k4
    next =>
      rename_i z7 z8 z9
      refine Keeps.ite ?_ ?_
      next => refine Keeps.upd_flash rfl (b := z1) ?_ _; exact k4
      next =>
        refine Keeps.trans ?_ (Keeps.of (State.alarm_keeps _ _ _ _ _) rfl)
        refine Keeps.upd_cfg rfl (b := z1) ?_ _
        exact k4

theorem State.storeObjs_keeps (s v1) : Keeps 167622 s (State.storeObjs s v1) := by
  unfold State.storeObjs
  refine Keeps.foldl ?_ ?_ _
  next => exact Keeps.refl _
  next => intro t0 x1; exact Keeps.of (State.storeObj_keeps _ _) rfl

theorem State.applyAlignCommit_keeps (s v1) : Keeps 3313350 s (State.applyAlignCommit s v1).1 := by
  unfold State.applyAlignCommit
  extract_lets +onlyGivenNames y0
  clear_value y0
  extract_lets +onlyGivenNames y1
  clear_value y1
  split
  next =>
    refine Keeps.mk1 ?_
    exact Keeps.refl _
  next =>
    extract_lets +onlyGivenNames y2
    clear_value y2
    extract_lets +onlyGivenNames y3
    clear_value y3
    extract_lets +onlyGivenNames y4
    clear_value y4
    extract_lets +onlyGivenNames y5
    clear_value y5
    extract_lets +onlyGivenNames y6
    clear_value y6
    extract_lets +onlyGivenNames y7
    clear_value y7
    extract_lets +onlyGivenNames y8
    have h9 : Keeps 3313350 s y8 := by
      unfold y8
      refine Keeps.upd_cfg_fus_cex rfl ?_ _ _ _
      exact Keeps.refl _
    clear_value y8
    refine Keeps.mk1 ?_
    refine Keeps.trans ?_ (Keeps.of (State.storeObjs_keeps _ _) rfl)
    exact h9

theorem State.applyAlignRevert_keeps (s v1) : Keeps 1048576 s (State.applyAlignRevert s v1).1 := by
  unfold State.applyAlignRevert
  extract_lets +onlyGivenNames y0
  clear_value y0
  extract_lets +onlyGivenNames y1
  clear_value y1
  refine Keeps.mk1 ?_
  refine Keeps.upd_fus rfl ?_ _
  exact Keeps.refl _

theorem State.applyAuto_keeps (s v1) : Keeps 1048640 s (State.applyAuto s v1).1 := by
  unfold State.applyAuto
  extract_lets +onlyGivenNames y0
  clear_value y0
  refine Keeps.mk1 ?_
  refine Keeps.trans ?_ (Keeps.of (State.fput_keeps _ _ _) rfl)
  refine Keeps.upd_fus rfl ?_ _
  exact Keeps.refl _

theorem State.applyExclude_keeps (s v1) : Keeps 4194304 s (State.applyExclude s v1).1 := by
  unfold State.applyExclude
  dsimp only
  exact Keeps.upd_slv rfl (Keeps.refl _) _

theorem State.enterFunc_keeps (s v1 v2) : Keeps 2230466 s (State.enterFunc s v1 v2) := by
  unfold State.enterFunc
  extract_lets +onlyGivenNames y0
  clear_value y0
  extract_lets +onlyGivenNames y1
  clear_value y1
  split
  extract_lets +onlyGivenNames y2
  clear_value y2
  extract_lets +onlyGivenNames y3
  clear_value y3
  extract_lets +onlyGivenNames y4
  clear_value y4
  extract_lets +onlyGivenNames y5
  clear_value y5
  extract_lets +onlyGivenNames y6
  clear_value y6
  extract_lets +onlyGivenNames y7
  clear_value y7
  extract_lets +onlyGivenNames y8
  have h9 : Keeps 2230466 s y8 := by
    unfold y8
    refine Keeps.trans ?_ (Keeps.of (State.satFlags_keeps _ _ _) rfl)
    refine Keeps.upd_cex rfl ?_ _
    exact Keeps.refl _
  clear_value y8
  extract_lets +onlyGivenNames y10
  have h11 : Keeps 2230466 s y10 := by
    unfold y10
    refine Keeps.ite ?_ ?_
    next =>
      refine Keeps.trans ?_ (Keeps.of (State.trackEnter_keeps _) rfl)
      exact h9
    next =>
      exact h9
  clear_value y10
  refine Keeps.trans ?_ (Keeps.of (State.event_keeps _ _ _ _ _) rfl)
  refine Keeps.trans ?_ (Keeps.of (State.showFunc_keeps _) rfl)
  exact h11

theorem State.applyFunction_keeps (s v1) : Keeps 2230466 s (State.applyFunction s v1).1 := by
  unfold State.applyFunction
  extract_lets +onlyGivenNames y0
  clear_value y0
  extract_lets +onlyGivenNames y1
  clear_value y1
  split
  next => rename_i z2 z3 z4; dsimp only; exact Keeps.refl _
  next => rename_i z5 z6; dsimp only; exact Keeps.of (State.enterFunc_keeps _ _ _) rfl

theorem State.applyLimits_keeps (s v1) : Keeps 2097152 s (State.applyLimits s v1).1 := by
  unfold State.applyLimits
  dsimp only
  exact Keeps.upd_cex rfl (Keeps.refl _) _

theorem State.applyOrigin_keeps (s v1) : Keeps 3313350 s (State.applyOrigin s v1).1 := by
  unfold State.applyOrigin
  extract_lets +onlyGivenNames y0
  clear_value y0
  refine Keeps.ite1 ?_ ?_
  next =>
    refine Keeps.mk1 ?_
    exact Keeps.refl _
  next =>
    extract_lets +onlyGivenNames y1
    clear_value y1
    extract_lets +onlyGivenNames y2
    clear_value y2
    extract_lets +onlyGivenNames y3
    clear_value y3
    extract_lets +onlyGivenNames y4
    clear_value y4
    extract_lets +onlyGivenNames y5
    clear_value y5
    extract_lets +onlyGivenNames y6
    clear_value y6
    extract_lets +onlyGivenNames y7
    clear_value y7
    extract_lets +onlyGivenNames y8
    clear_value y8
    extract_lets +onlyGivenNames y9
    clear_value y9
    extract_lets +onlyGivenNames y10
    have h11 : Keeps 3313350 s y10 := by
      unfold y10
      refine Keeps.upd_cfg_fus_cex rfl ?_ _ _ _
      exact Keeps.refl _
    clear_value y10
    refine Keeps.mk1 ?_
    refine Keeps.trans ?_ (Keeps.of (State.storeObjs_keeps _ _) rfl)
    exact h11

theorem State.setTarget_keeps (s v1 v2) : Keeps 2097152 s (State.setTarget s v1 v2) := by
  unfold State.setTarget
  split
  rename_i z0 z1 z2 z3
  split
  rename_i z4 z5 z6 z7
  exact Keeps.upd_cex rfl (Keeps.refl _) _

theorem State.applyPosition_keeps (s v1) : Keeps 2097152 s (State.applyPosition s v1).1 := by
  unfold State.applyPosition
  extract_lets +onlyGivenNames y0
  clear_value y0
  extract_lets +onlyGivenNames y1
  clear_value y1
  extract_lets +onlyGivenNames y2
  clear_value y2
  extract_lets +onlyGivenNames y3
  clear_value y3
  extract_lets +onlyGivenNames y4
  clear_value y4
  refine Keeps.ite1 ?_ ?_
  next => dsimp only; exact Keeps.refl _
  next =>
    extract_lets +onlyGivenNames y5
    have h6 : Keeps 2097152 s y5 := by
      unfold y5
      refine Keeps.ite ?_ ?_
      next => exact Keeps.of (State.setTarget_keeps _ _ _) rfl
      next => exact Keeps.refl _
    clear_value y5
    extract_lets +onlyGivenNames y7
    clear_value y7
    extract_lets +onlyGivenNames y8
    clear_value y8
    extract_lets +onlyGivenNames y9
    have h10 : Keeps 2097152 s y9 := by
      unfold y9
      refine Keeps.ite ?_ ?_
      next => refine Keeps.upd_cex rfl (b := y5) ?_ _; exact h6
      next => exact h6
    clear_value y9
    dsimp only
    exact h10

theorem State.applyReadmitPath_keeps (s v1) : Keeps 4384962 s (State.applyReadmitPath s v1).1 := by
  unfold State.applyReadmitPath
  extract_lets +onlyGivenNames y0
  clear_value y0
  extract_lets +onlyGivenNames y1
  have h2 : Keeps 4384962 s y1 := by
    unfold y1
    refine Keeps.trans ?_ (Keeps.of (State.retCleared_keeps _ _ _) rfl)
    exact Keeps.of (State.readmitCh_keeps _ _ _) rfl
  clear_value y1
  dsimp only
  refine Keeps.upd_slv rfl (b := y1) ?_ _
  exact h2

end Sys2Proof.Machine
end

