-- ==== Sys2Proof/Laws/Keeps5.lean ====
section
/-!
SUPPORT. Operations keep what `Keeps` says, callees before callers: part 5 of 10.
-/

namespace Sys2Proof.Machine

theorem State.applyReadmitRef_keeps (s v1) : Keeps 1048576 s (State.applyReadmitRef s v1).1 := by
  unfold State.applyReadmitRef
  extract_lets +onlyGivenNames y0
  clear_value y0
  extract_lets +onlyGivenNames y1
  clear_value y1
  refine Keeps.ite1 ?_ ?_
  next =>
    refine Keeps.mk1 ?_
    exact Keeps.refl _
  next =>
    refine Keeps.mk1 ?_
    refine Keeps.upd_fus rfl ?_ _
    exact Keeps.refl _

theorem State.alarmLevel_keeps (s v1 v2 v3 v4) : Keeps 166082 s (State.alarmLevel s v1 v2 v3 v4) := by
  unfold State.alarmLevel
  refine Keeps.ite ?_ ?_
  next => exact Keeps.of (State.alarm_keeps _ _ _ _ _) rfl
  next => exact Keeps.of (State.clearAlarm_keeps _ _ _ _) rfl

theorem State.capLow_keeps (s) : Keeps 166082 s (State.capLow s) := by
  unfold State.capLow
  extract_lets +onlyGivenNames y0
  clear_value y0
  extract_lets +onlyGivenNames y1
  clear_value y1
  extract_lets +onlyGivenNames y2
  have h3 : Keeps 166082 s y2 := by
    unfold y2
    refine Keeps.foldl ?_ ?_ _
    next => exact Keeps.refl _
    next => intro t4 x5; exact Keeps.of (State.alarmLevel_keeps _ _ _ _ _) rfl
  clear_value y2
  refine Keeps.trans ?_ (Keeps.of (State.fput_keeps _ _ _) rfl)
  exact h3

theorem State.applyScen_keeps (s v1) : Keeps 166082 s (State.applyScen s v1).1 := by
  unfold State.applyScen
  refine Keeps.mk1 ?_
  refine Keeps.trans ?_ (Keeps.of (State.capLow_keeps _) rfl)
  exact Keeps.of (State.fset_keeps _ _ _) rfl

theorem State.applySpeed_keeps (s v1) : Keeps 2097216 s (State.applySpeed s v1).1 := by
  unfold State.applySpeed
  refine Keeps.ite1 ?_ ?_
  next => dsimp only; exact Keeps.refl _
  next =>
    extract_lets +onlyGivenNames y0
    clear_value y0
    extract_lets +onlyGivenNames y1
    clear_value y1
    extract_lets +onlyGivenNames y2
    clear_value y2
    dsimp only
    refine Keeps.trans ?_ (Keeps.of (State.satFlags_keeps _ _ _) rfl)
    exact Keeps.upd_cex rfl (Keeps.refl _) _

theorem State.applyTrack_keeps (s v1 v2) : Keeps 2097216 s (State.applyTrack s v1 v2).1 := by
  unfold State.applyTrack
  extract_lets +onlyGivenNames y0
  clear_value y0
  extract_lets +onlyGivenNames y1
  clear_value y1
  refine Keeps.ite1 ?_ ?_
  next =>
    refine Keeps.ite1 ?_ ?_
    next =>
      refine Keeps.mk1 ?_
      exact Keeps.refl _
    next =>
      refine Keeps.ite1 ?_ ?_
      next =>
        refine Keeps.mk1 ?_
        refine Keeps.upd_cex rfl ?_ _
        exact Keeps.refl _
      next =>
        extract_lets +onlyGivenNames y2
        clear_value y2
        extract_lets +onlyGivenNames y3
        have h4 : Keeps 2097216 s y3 := by
          unfold y3
          refine Keeps.upd_cex rfl ?_ _
          exact Keeps.refl _
        clear_value y3
        refine Keeps.mk1 ?_
        refine Keeps.ite ?_ ?_
        next =>
          refine Keeps.trans ?_ (Keeps.of (State.fup_keeps _ _) rfl)
          exact h4
        next =>
          exact h4
  next =>
    refine Keeps.ite1 ?_ ?_
    next =>
      refine Keeps.mk1 ?_
      exact Keeps.refl _
    next =>
      refine Keeps.mk1 ?_
      refine Keeps.upd_cex rfl ?_ _
      exact Keeps.refl _

theorem State.cmdRejected_keeps (s v1 v2 v3 v4) : Keeps 133314 s (State.cmdRejected s v1 v2 v3 v4) := by
  unfold State.cmdRejected
  extract_lets +onlyGivenNames y0
  clear_value y0
  extract_lets +onlyGivenNames y1
  clear_value y1
  extract_lets +onlyGivenNames y2
  have h3 : Keeps 133314 s y2 := by unfold y2; exact Keeps.upd_hif rfl (Keeps.refl _) _
  clear_value y2
  extract_lets +onlyGivenNames y4
  have h5 : Keeps 133314 s y4 := by
    unfold y4
    refine Keeps.trans ?_ (Keeps.of (State.event_keeps _ _ _ _ _) rfl)
    exact h3
  clear_value y4
  refine Keeps.upd_hif rfl (b := y4) ?_ _
  exact h5

theorem State.applyCmd_keeps (s v1) : Keeps 7532230 s (State.applyCmd s v1) := by
  unfold State.applyCmd
  extract_lets +onlyGivenNames y0
  have h1 : Keeps 7532230 s y0.1 := by
    unfold y0
    refine Keeps.ite1 ?_ ?_
    next => exact Keeps.of (State.applyFunction_keeps _ _) rfl
    next =>
      refine Keeps.ite1 ?_ ?_
      next => exact Keeps.of (State.applyPosition_keeps _ _) rfl
      next =>
        refine Keeps.ite1 ?_ ?_
        next => exact Keeps.of (State.applySpeed_keeps _ _) rfl
        next =>
          refine Keeps.ite1 ?_ ?_
          next => exact Keeps.of (State.applyLimits_keeps _ _) rfl
          next =>
            refine Keeps.ite1 ?_ ?_
            next => exact Keeps.of (State.applyTrack_keeps _ _ _) rfl
            next =>
              refine Keeps.ite1 ?_ ?_
              next => exact Keeps.of (State.applyTrack_keeps _ _ _) rfl
              next =>
                refine Keeps.ite1 ?_ ?_
                next => exact Keeps.of (State.applyOrigin_keeps _ _) rfl
                next =>
                  refine Keeps.ite1 ?_ ?_
                  next => exact Keeps.of (State.applyScen_keeps _ _) rfl
                  next =>
                    refine Keeps.ite1 ?_ ?_
                    next => exact Keeps.of (State.applyExclude_keeps _ _) rfl
                    next =>
                      refine Keeps.ite1 ?_ ?_
                      next => exact Keeps.of (State.applyAlignCommit_keeps _ _) rfl
                      next =>
                        refine Keeps.ite1 ?_ ?_
                        next => exact Keeps.of (State.applyAlignRevert_keeps _ _) rfl
                        next =>
                          refine Keeps.ite1 ?_ ?_
                          next => exact Keeps.of (State.applyReadmitRef_keeps _ _) rfl
                          next =>
                            refine Keeps.ite1 ?_ ?_
                            next => exact Keeps.of (State.applyAuto_keeps _ _) rfl
                            next =>
                              refine Keeps.ite1 ?_ ?_
                              next => exact Keeps.of (State.applyReadmitPath_keeps _ _) rfl
                              next => dsimp only; exact Keeps.refl _
  clear_value y0
  split
  next => rename_i z2 z3 z4 z5 z6; refine Keeps.trans ?_ (Keeps.of (State.cmdRejected_keeps _ _ _ _ _) rfl); exact h1
  next => rename_i z7 z8; exact h1

theorem State.applyAt_keeps (s v1) : Keeps 7532230 s (State.applyAt s v1) := by
  unfold State.applyAt
  refine Keeps.foldl ?_ ?_ _
  next => exact Keeps.refl _
  next => intro t0 x1; exact Keeps.of (State.applyCmd_keeps _ _) rfl

theorem State.ckptPush_keeps (s v1) : Keeps 2097152 s (State.ckptPush s v1) := by
  unfold State.ckptPush
  extract_lets +onlyGivenNames y0
  clear_value y0
  exact Keeps.of (State.cexMod_keeps _ _) rfl

theorem State.captClear_keeps (s v1) : Keeps 2097152 s (State.captClear s v1) := by
  unfold State.captClear
  refine Keeps.upd_cex rfl ?_ _
  exact Keeps.refl _

theorem State.trackStep_keeps (s) : Keeps 2230466 s (State.trackStep s).1 := by
  unfold State.trackStep
  extract_lets +onlyGivenNames y0
  clear_value y0
  extract_lets +onlyGivenNames y1
  clear_value y1
  extract_lets +onlyGivenNames y2
  clear_value y2
  extract_lets +onlyGivenNames y3
  clear_value y3
  extract_lets +onlyGivenNames y4
  clear_value y4
  extract_lets +onlyGivenNames y5
  clear_value y5
  extract_lets +onlyGivenNames y6
  clear_value y6
  split
  split
  extract_lets +onlyGivenNames y7
  clear_value y7
  extract_lets +onlyGivenNames y8
  clear_value y8
  extract_lets +onlyGivenNames y9
  clear_value y9
  extract_lets +onlyGivenNames y10
  clear_value y10
  extract_lets +onlyGivenNames y11
  clear_value y11
  extract_lets +onlyGivenNames y12
  clear_value y12
  extract_lets +onlyGivenNames y13
  clear_value y13
  extract_lets +onlyGivenNames y14
  clear_value y14
  extract_lets +onlyGivenNames y15
  have h16 : Keeps 2230466 s y15 := by
    unfold y15
    refine Keeps.trans ?_ (Keeps.of (State.fset_keeps _ _ _) rfl)
    refine Keeps.trans ?_ (Keeps.of (State.satFlags_keeps _ _ _) rfl)
    refine Keeps.upd_cex rfl ?_ _
    exact Keeps.refl _
  clear_value y15
  extract_lets +onlyGivenNames y17
  have h18 : Keeps 2230466 s y17 := by
    unfold y17
    refine Keeps.ite ?_ ?_
    next =>
      refine Keeps.ite ?_ ?_
      next =>
        refine Keeps.trans ?_ (Keeps.of (State.captClear_keeps _ _) rfl)
        exact h16
      next =>
        refine Keeps.trans ?_ (Keeps.of (State.event_keeps _ _ _ _ _) rfl)
        exact h16
    next =>
      exact h16
  clear_value y17
  refine Keeps.mk1 ?_
  exact h18

theorem State.genSteps_keeps (s v1 v2) : Keeps 2230466 s (State.genSteps s v1 v2).1 := by
  unfold State.genSteps
  extract_lets +onlyGivenNames y0
  clear_value y0
  extract_lets +onlyGivenNames y1
  clear_value y1
  split
  rename_i z2 z3 z4
  have k5 : Keeps 2230466 s z2 := by
    refine Keeps.fst z4 ?_
    refine Keeps.ite1 ?_ ?_
    next =>
      refine Keeps.mk1 ?_
      exact Keeps.refl _
    next =>
      refine Keeps.ite1 ?_ ?_
      next =>
        exact Keeps.of (State.trackStep_keeps _) rfl
      next =>
        extract_lets +onlyGivenNames y6
        clear_value y6
        split
        split
        refine Keeps.mk1 ?_
        refine Keeps.trans ?_ (Keeps.of (State.satFlags_keeps _ _ _) rfl)
        refine Keeps.upd_cex rfl ?_ _
        exact Keeps.refl _
  refine Keeps.ite1 ?_ ?_
  next =>
    refine Keeps.mk1 ?_
    exact k5
  next =>
    split
    refine Keeps.mk1 ?_
    refine Keeps.trans ?_ (Keeps.of (State.satFlags_keeps _ _ _) rfl)
    refine Keeps.upd_cex rfl (b := z2) ?_ _
    exact k5

theorem State.profileStep_keeps (s) : Keeps 2230466 s (State.profileStep s) := by
  unfold State.profileStep
  extract_lets +onlyGivenNames y0
  clear_value y0
  extract_lets +onlyGivenNames y1
  clear_value y1
  extract_lets +onlyGivenNames y2
  clear_value y2
  extract_lets +onlyGivenNames y3
  clear_value y3
  extract_lets +onlyGivenNames y4
  have h5 : Keeps 2230466 s y4 := by
    unfold y4
    refine Keeps.upd_cex rfl ?_ _
    exact Keeps.refl _
  clear_value y4
  split
  rename_i z6 z7 z8
  have k9 : Keeps 2230466 s z6 := by
    refine Keeps.fst z8 ?_
    refine Keeps.trans ?_ (Keeps.of (State.genSteps_keeps _ _ _) rfl)
    exact h5
  split
  rename_i z10 z11 z12
  have k13 : Keeps 2230466 s z10 := by
    refine Keeps.fst z12 ?_
    refine Keeps.ite1 ?_ ?_
    next =>
      split
      rename_i z14 z15 z16
      have k17 : Keeps 2230466 s z14 := by
        refine Keeps.fst z16 ?_
        refine Keeps.trans ?_ (Keeps.of (State.genSteps_keeps _ _ _) rfl)
        exact k9
      refine Keeps.mk1 ?_
      exact k17
    next =>
      refine Keeps.mk1 ?_
      exact k9
  refine Keeps.ite ?_ ?_
  next =>
    extract_lets +onlyGivenNames y18
    clear_value y18
    extract_lets +onlyGivenNames y19
    clear_value y19
    extract_lets +onlyGivenNames y20
    clear_value y20
    extract_lets +onlyGivenNames y21
    clear_value y21
    extract_lets +onlyGivenNames y22
    clear_value y22
    extract_lets +onlyGivenNames y23
    clear_value y23
    extract_lets +onlyGivenNames y24
    have h25 : Keeps 2230466 s y24 := by
      unfold y24
      refine Keeps.trans ?_ (Keeps.of (State.showFunc_keeps _) rfl)
      refine Keeps.upd_cex rfl (b := z10) ?_ _
      exact k13
    clear_value y24
    refine Keeps.ite ?_ ?_
    next =>
      exact h25
    next =>
      refine Keeps.trans ?_ (Keeps.of (State.event_keeps _ _ _ _ _) rfl)
      refine Keeps.trans ?_ (Keeps.of (State.event_keeps _ _ _ _ _) rfl)
      exact h25
  next =>
    exact k13

theorem State.redoPush_keeps (s) : Keeps 16777216 s (State.redoPush s) := by
  unfold State.redoPush
  exact Keeps.of (State.redMod_keeps _ _) rfl

theorem State.snapshot_keeps (s v1) : Keeps 4194368 s (State.snapshot s v1) := by
  unfold State.snapshot
  extract_lets +onlyGivenNames y0
  clear_value y0
  extract_lets +onlyGivenNames y1
  clear_value y1
  extract_lets +onlyGivenNames y2
  clear_value y2
  extract_lets +onlyGivenNames y3
  clear_value y3
  extract_lets +onlyGivenNames y4
  clear_value y4
  extract_lets +onlyGivenNames y5
  clear_value y5
  extract_lets +onlyGivenNames y6
  clear_value y6
  extract_lets +onlyGivenNames y7
  clear_value y7
  extract_lets +onlyGivenNames y8
  clear_value y8
  extract_lets +onlyGivenNames y9
  clear_value y9
  extract_lets +onlyGivenNames y10
  clear_value y10
  extract_lets +onlyGivenNames y11
  clear_value y11
  extract_lets +onlyGivenNames y12
  clear_value y12
  extract_lets +onlyGivenNames y13
  have h14 : Keeps 4194368 s y13 := by
    unfold y13
    refine Keeps.upd_slv rfl ?_ _
    exact Keeps.refl _
  clear_value y13
  extract_lets +onlyGivenNames y15
  have h16 : Keeps 4194368 s y15 := by
    unfold y15
    refine Keeps.trans ?_ (Keeps.of (State.fset_keeps _ _ _) rfl)
    refine Keeps.trans ?_ (Keeps.of (State.fset_keeps _ _ _) rfl)
    refine Keeps.trans ?_ (Keeps.of (State.fset_keeps _ _ _) rfl)
    refine Keeps.trans ?_ (Keeps.of (State.fset_keeps _ _ _) rfl)
    exact h14
  clear_value y15
  refine Keeps.ite ?_ ?_
  next =>
    refine Keeps.trans ?_ (Keeps.of (State.fup_keeps _ _) rfl)
    exact h16
  next =>
    exact h16

theorem State.zoneJoin_keeps (s) : Keeps 16777216 s (State.zoneJoin s) := by
  unfold State.zoneJoin
  refine Keeps.ite ?_ ?_
  next =>
    refine Keeps.upd_red rfl ?_ _
    exact Keeps.refl _
  next =>
    exact Keeps.refl _

theorem State.afterInputs_keeps (s v1) : Keeps 24309446 s (State.afterInputs s v1) := by
  unfold State.afterInputs
  extract_lets +onlyGivenNames y0
  have h1 : Keeps 24309446 s y0 := by
    unfold y0
    refine Keeps.trans ?_ (Keeps.of (State.snapshot_keeps _ _) rfl)
    refine Keeps.trans ?_ (Keeps.of (State.zoneJoin_keeps _) rfl)
    refine Keeps.trans ?_ (Keeps.of (State.ckptPush_keeps _ _) rfl)
    exact Keeps.of (State.applyAt_keeps _ _) rfl
  clear_value y0
  extract_lets +onlyGivenNames y2
  have h3 : Keeps 24309446 s y2 := by
    unfold y2
    refine Keeps.trans ?_ (Keeps.of (State.applyAt_keeps _ _) rfl)
    refine Keeps.trans ?_ (Keeps.of (State.redoPush_keeps _) rfl)
    exact h1
  clear_value y2
  refine Keeps.ite ?_ ?_
  next =>
    refine Keeps.trans ?_ (Keeps.of (State.profileStep_keeps _) rfl)
    exact h3
  next =>
    refine Keeps.trans ?_ (Keeps.of (State.redMod_keeps _ _) rfl)
    refine Keeps.trans ?_ (Keeps.of (State.profileLate_keeps _) rfl)
    exact h3

theorem State.ckptFix_keeps (s) : Keeps 2097152 s (State.ckptFix s) := by
  unfold State.ckptFix
  exact Keeps.of (State.cexMod_keeps _ _) rfl

theorem State.joyStep_keeps (s) : Keeps 2263234 s (State.joyStep s) := by
  unfold State.joyStep
  refine Keeps.ite ?_ ?_
  next =>
    exact Keeps.refl _
  next =>
    extract_lets +onlyGivenNames y0
    clear_value y0
    split
    next =>
      extract_lets +onlyGivenNames y1
      clear_value y1
      extract_lets +onlyGivenNames y2
      have h3 : Keeps 2263234 s y2 := by
        unfold y2
        refine Keeps.trans ?_ (Keeps.of (State.satFlags_keeps _ _ _) rfl)
        refine Keeps.upd_cex rfl ?_ _
        exact Keeps.refl _
      clear_value y2
      refine Keeps.trans ?_ (Keeps.of (State.fput_keeps _ _ _) rfl)
      refine Keeps.trans ?_ (Keeps.of (State.clearAlarm_keeps _ _ _ _) rfl)
      exact h3
    next =>
      extract_lets +onlyGivenNames y4
      clear_value y4
      extract_lets +onlyGivenNames y5
      clear_value y5
      extract_lets +onlyGivenNames y6
      clear_value y6
      refine Keeps.trans ?_ (Keeps.of (State.fput_keeps _ _ _) rfl)
      refine Keeps.trans ?_ (Keeps.of (State.alarm_keeps _ _ _ _ _) rfl)
      refine Keeps.upd_cex rfl ?_ _
      exact Keeps.refl _

theorem State.schedule_keeps (s v1 v2) : Keeps 2097216 s (State.schedule s v1 v2) := by
  unfold State.schedule
  extract_lets +onlyGivenNames y0
  clear_value y0
  extract_lets +onlyGivenNames y1
  clear_value y1
  extract_lets +onlyGivenNames y2
  clear_value y2
  extract_lets +onlyGivenNames y3
  clear_value y3
  extract_lets +onlyGivenNames y4
  clear_value y4
  extract_lets +onlyGivenNames y5
  clear_value y5
  extract_lets +onlyGivenNames y6
  clear_value y6
  extract_lets +onlyGivenNames y7
  clear_value y7
  extract_lets +onlyGivenNames y8
  clear_value y8
  extract_lets +onlyGivenNames y9
  clear_value y9
  extract_lets +onlyGivenNames y10
  have h11 : Keeps 2097216 s y10 := by unfold y10; exact Keeps.upd_cex rfl (Keeps.refl _) _
  clear_value y10
  extract_lets +onlyGivenNames y12
  have h13 : Keeps 2097216 s y12 := by
    unfold y12
    refine Keeps.ite ?_ ?_
    next => refine Keeps.trans ?_ (Keeps.of (State.fcount_keeps _ _ _) rfl); exact h11
    next => exact h11
  clear_value y12
  refine Keeps.trans ?_ (Keeps.of (State.fput_keeps _ _ _) rfl)
  refine Keeps.trans ?_ (Keeps.of (State.fset_keeps _ _ _) rfl)
  refine Keeps.trans ?_ (Keeps.of (State.fset_keeps _ _ _) rfl)
  refine Keeps.trans ?_ (Keeps.of (State.fset_keeps _ _ _) rfl)
  exact h13

theorem State.controlLaw_keeps (s) : Keeps 2263234 s (State.controlLaw s) := by
  unfold State.controlLaw
  extract_lets +onlyGivenNames y0
  clear_value y0
  split
  extract_lets +onlyGivenNames y1
  clear_value y1
  extract_lets +onlyGivenNames y2
  have h3 : Keeps 2263234 s y2 := by
    unfold y2
    refine Keeps.trans ?_ (Keeps.of (State.joyStep_keeps _) rfl)
    exact Keeps.of (State.schedule_keeps _ _ _) rfl
  clear_value y2
  extract_lets +onlyGivenNames y4
  clear_value y4
  extract_lets +onlyGivenNames y5
  clear_value y5
  split
  extract_lets +onlyGivenNames y6
  clear_value y6
  extract_lets +onlyGivenNames y7
  clear_value y7
  extract_lets +onlyGivenNames y8
  clear_value y8
  extract_lets +onlyGivenNames y9
  clear_value y9
  extract_lets +onlyGivenNames y10
  clear_value y10
  extract_lets +onlyGivenNames y11
  clear_value y11
  extract_lets +onlyGivenNames y12
  clear_value y12
  extract_lets +onlyGivenNames y13
  clear_value y13
  extract_lets +onlyGivenNames y14
  clear_value y14
  extract_lets +onlyGivenNames y15
  clear_value y15
  extract_lets +onlyGivenNames y16
  clear_value y16
  extract_lets +onlyGivenNames y17
  clear_value y17
  extract_lets +onlyGivenNames y18
  clear_value y18
  extract_lets +onlyGivenNames y19
  clear_value y19
  extract_lets +onlyGivenNames y20
  clear_value y20
  extract_lets +onlyGivenNames y21
  clear_value y21
  extract_lets +onlyGivenNames y22
  clear_value y22
  extract_lets +onlyGivenNames y23
  have h24 : Keeps 2263234 s y23 := by
    unfold y23
    refine Keeps.trans ?_ (Keeps.of (State.satFlags_keeps _ _ _) rfl)
    refine Keeps.upd_cex rfl (b := y2) ?_ _
    exact h3
  clear_value y23
  extract_lets +onlyGivenNames y25
  have h26 : Keeps 2263234 s y25 := by
    unfold y25
    refine Keeps.ite ?_ ?_
    next =>
      refine Keeps.trans ?_ (Keeps.of (State.fup_keeps _ _) rfl)
      exact h24
    next =>
      exact h24
  clear_value y25
  extract_lets +onlyGivenNames y27
  have h28 : Keeps 2263234 s y27 := by
    unfold y27
    refine Keeps.ite ?_ ?_
    next =>
      refine Keeps.trans ?_ (Keeps.of (State.fup_keeps _ _) rfl)
      exact h26
    next =>
      exact h26
  clear_value y27
  extract_lets +onlyGivenNames y29
  have h30 : Keeps 2263234 s y29 := by
    unfold y29
    refine Keeps.trans ?_ (Keeps.of (State.fput_keeps _ _ _) rfl)
    refine Keeps.trans ?_ (Keeps.of (State.fput_keeps _ _ _) rfl)
    exact h28
  clear_value y29
  refine Keeps.trans ?_ (Keeps.of (State.cexPublish_keeps _ _ _) rfl)
  exact h30

theorem State.fusShow_keeps (s v1) : Keeps 64 s (State.fusShow s v1) := by
  unfold State.fusShow
  extract_lets +onlyGivenNames y0
  have h1 : Keeps 64 s y0 := by
    unfold y0
    refine Keeps.trans ?_ (Keeps.of (State.fset_keeps _ _ _) rfl)
    refine Keeps.trans ?_ (Keeps.of (State.fput_keeps _ _ _) rfl)
    refine Keeps.trans ?_ (Keeps.of (State.fput_keeps _ _ _) rfl)
    exact Keeps.of (State.fput_keeps _ _ _) rfl
  clear_value y0
  extract_lets +onlyGivenNames y2
  have h3 : Keeps 64 s y2 := by
    unfold y2
    refine Keeps.trans ?_ (Keeps.of (State.fset_keeps _ _ _) rfl)
    refine Keeps.trans ?_ (Keeps.of (State.fset_keeps _ _ _) rfl)
    exact h1
  clear_value y2
  extract_lets +onlyGivenNames y4
  have h5 : Keeps 64 s y4 := by
    unfold y4
    refine Keeps.trans ?_ (Keeps.of (State.fset_keeps _ _ _) rfl)
    refine Keeps.trans ?_ (Keeps.of (State.fset_keeps _ _ _) rfl)
    exact h3
  clear_value y4
  extract_lets +onlyGivenNames y6
  have h7 : Keeps 64 s y6 := by unfold y6; refine Keeps.trans ?_ (Keeps.of (State.fset_keeps _ _ _) rfl); exact h5
  clear_value y6
  refine Keeps.foldl ?_ ?_ _
  next => exact h7
  next =>
    intro t8 x9
    extract_lets +onlyGivenNames y10
    clear_value y10
    extract_lets +onlyGivenNames y11
    clear_value y11
    refine Keeps.trans ?_ (Keeps.of (State.fset_keeps _ _ _) rfl)
    refine Keeps.trans ?_ (Keeps.of (State.fset_keeps _ _ _) rfl)
    refine Keeps.trans ?_ (Keeps.of (State.fset_keeps _ _ _) rfl)
    exact Keeps.of (State.fset_keeps _ _ _) rfl

theorem State.fusBoundary_keeps (s) : Keeps 1214658 s (State.fusBoundary s) := by
  unfold State.fusBoundary
  extract_lets +onlyGivenNames y0
  clear_value y0
  extract_lets +onlyGivenNames y1
  clear_value y1
  extract_lets +onlyGivenNames y2
  clear_value y2
  refine Keeps.foldl ?_ ?_ _
  next =>
    refine Keeps.ite ?_ ?_
    next =>
      exact Keeps.refl _
    next =>
      refine Keeps.trans ?_ (Keeps.of (State.fusShow_keeps _ _) rfl)
      refine Keeps.upd_fus rfl ?_ _
      exact Keeps.refl _
  next =>
    intro t3 x4
    refine Keeps.trans ?_ (Keeps.of (State.event_keeps _ _ _ _ _) rfl)
    exact Keeps.of (State.clearAlarm_keeps _ _ _ _) rfl

theorem State.fuseRecord_keeps (s v1) : Keeps 1214658 s (State.fuseRecord s v1) := by
  unfold State.fuseRecord
  extract_lets +onlyGivenNames i
  clear_value i
  extract_lets +onlyGivenNames y1
  have h1 : Keeps 1214658 s y1 := by
    unfold y1
    refine Keeps.trans ?_ (Keeps.of (State.stage_keeps _ _ _ _) rfl)
    refine Keeps.trans ?_ (Keeps.of (State.fset_keeps _ _ _) rfl)
    refine Keeps.trans ?_ (Keeps.of (State.wrB_keeps _ _ _ _) rfl)
    exact Keeps.upd_fus rfl (Keeps.refl _) _
  clear_value y1
  extract_lets +onlyGivenNames y2
  have h2 : Keeps 1214658 s y2 := h1.trans (Keeps.of (State.fusShow_keeps _ _) rfl)
  clear_value y2
  extract_lets +onlyGivenNames y3
  have h3 : Keeps 1214658 s y3 := by
    unfold y3
    refine Keeps.trans ?_ (Keeps.of (State.fput_keeps _ _ _) rfl)
    exact h2.trans (Keeps.of (State.fput_keeps _ _ _) rfl)
  clear_value y3
  extract_lets +onlyGivenNames y4
  have h4 : Keeps 1214658 s y4 := by
    unfold y4
    refine Keeps.foldl h3 ?_ _
    intro t u
    exact Keeps.ite (Keeps.of (State.fup_keeps _ _) rfl) (Keeps.refl _)
  clear_value y4
  extract_lets +onlyGivenNames y5
  have h5 : Keeps 1214658 s y5 := by
    unfold y5
    refine Keeps.trans ?_ (Keeps.of (State.fset_keeps _ _ _) rfl)
    exact h4.trans (Keeps.of (State.fset_keeps _ _ _) rfl)
  clear_value y5
  extract_lets +onlyGivenNames y6
  have h6 : Keeps 1214658 s y6 := Keeps.ite (h5.trans (Keeps.of (State.fcount_keeps _ _ _) rfl)) h5
  clear_value y6
  extract_lets +onlyGivenNames y7
  have h7 : Keeps 1214658 s y7 := Keeps.ite (h6.trans (Keeps.of (State.fcount_keeps _ _ _) rfl)) h6
  clear_value y7
  extract_lets +onlyGivenNames y8
  have h8 : Keeps 1214658 s y8 := by
    unfold y8
    refine Keeps.foldl h7 ?_ _
    intro t u
    exact Keeps.ite (Keeps.of (State.alarm_keeps _ _ _ _ _) rfl) (Keeps.of (State.event_keeps _ _ _ _ _) rfl)
  clear_value y8
  refine Keeps.trans ?_ (Keeps.of (State.alarmLevel_keeps _ _ _ _ _) rfl)
  refine Keeps.trans ?_ (Keeps.of (State.alarmLevel_keeps _ _ _ _ _) rfl)
  exact h8.trans (Keeps.of (State.alarmLevel_keeps _ _ _ _ _) rfl)

theorem State.fuse_keeps (s v1) : Keeps 1214658 s (State.fuse s v1) := by
  unfold State.fuse
  exact Keeps.ite (Keeps.upd_fus rfl (Keeps.refl _) _) (State.fuseRecord_keeps _ _)

theorem State.groupApply_keeps (s v1) : Keeps 537004226 s (State.groupApply s v1) := by
  unfold State.groupApply
  split
  next =>
    rename_i z0 z1 z2
    refine Keeps.trans ?_ (Keeps.of (State.cmdRejected_keeps _ _ _ _ _) rfl)
    exact Keeps.of (State.finc_keeps _ _) rfl
  next =>
    rename_i z3 z4
    refine Keeps.trans ?_ (Keeps.of (State.fset_keeps _ _ _) rfl)
    exact Keeps.of (State.lgcMod_keeps _ _) rfl

theorem State.groupsDue_keeps (s v1 v2) : Keeps 537004226 s (State.groupsDue s v1 v2) := by
  unfold State.groupsDue
  extract_lets +onlyGivenNames y0
  clear_value y0
  extract_lets +onlyGivenNames y1
  clear_value y1
  refine Keeps.foldl ?_ ?_ _
  next => exact Keeps.of (State.lgcMod_keeps _ _) rfl
  next => intro t2 x3; exact Keeps.of (State.groupApply_keeps _ _) rfl

theorem State.lgcCycle_keeps (s v1 v2) : Keeps 537004226 s (State.lgcCycle s v1 v2) := by
  unfold State.lgcCycle
  extract_lets +onlyGivenNames y0
  have h1 : Keeps 537004226 s y0 := by
    unfold y0
    exact Keeps.of (State.groupsDue_keeps _ _ _) rfl
  clear_value y0
  extract_lets +onlyGivenNames y2
  clear_value y2
  extract_lets +onlyGivenNames y3
  clear_value y3
  extract_lets +onlyGivenNames y4
  clear_value y4
  extract_lets +onlyGivenNames y5
  clear_value y5
  extract_lets +onlyGivenNames y6
  clear_value y6
  extract_lets +onlyGivenNames y7
  have h8 : Keeps 537004226 s y7 := by
    unfold y7
    refine Keeps.trans ?_ (Keeps.of (State.ltaskPut_keeps _ _ _) rfl)
    exact h1
  clear_value y7
  extract_lets +onlyGivenNames y9
  have h10 : Keeps 537004226 s y9 := by
    unfold y9
    refine Keeps.ite ?_ ?_
    next =>
      refine Keeps.trans ?_ (Keeps.of (State.fup_keeps _ _) rfl)
      exact h8
    next =>
      exact h8
  clear_value y9
  extract_lets +onlyGivenNames y11
  have h12 : Keeps 537004226 s y11 := by
    unfold y11
    refine Keeps.ite ?_ ?_
    next =>
      refine Keeps.trans ?_ (Keeps.of (State.fup_keeps _ _) rfl)
      exact h10
    next =>
      exact h10
  clear_value y11
  refine Keeps.foldl ?_ ?_ _
  next =>
    exact h12
  next =>
    intro t13 x14
    exact Keeps.of (State.event_keeps _ _ _ _ _) rfl

theorem State.lgcPublish_keeps (s v1 v2 v3) : Keeps 671088832 s (State.lgcPublish s v1 v2 v3) := by
  unfold State.lgcPublish
  extract_lets +onlyGivenNames y0
  have h1 : Keeps 671088832 s y0 := by
    unfold y0
    refine Keeps.foldl ?_ ?_ _
    next =>
      exact Keeps.refl _
    next =>
      intro t2 x3
      exact Keeps.of (State.ptWrite_keeps _ _ _ _ _) rfl
  clear_value y0
  extract_lets +onlyGivenNames y4
  clear_value y4
  extract_lets +onlyGivenNames y5
  have h6 : Keeps 671088832 s y5 := by
    unfold y5
    refine Keeps.trans ?_ (Keeps.of (State.lgcMod_keeps _ _) rfl)
    exact h1
  clear_value y5
  extract_lets +onlyGivenNames y7
  clear_value y7
  extract_lets +onlyGivenNames y8
  have h9 : Keeps 671088832 s y8 := by
    unfold y8
    refine Keeps.foldl ?_ ?_ _
    next =>
      exact h6
    next =>
      intro t10 x11
      refine Keeps.ite ?_ ?_
      next =>
        exact Keeps.of (State.canSubmit_keeps _ _ _ _ _ _) rfl
      next =>
        exact Keeps.refl _
  clear_value y8
  refine Keeps.trans ?_ (Keeps.of (State.ltaskPut_keeps _ _ _) rfl)
  refine Keeps.trans ?_ (Keeps.of (State.fwrap_keeps _ _) rfl)
  exact h9

theorem State.lgcCatch_keeps (s v1) : Keeps 671221954 s (State.lgcCatch s v1) := by
  unfold State.lgcCatch
  refine Keeps.ite ?_ ?_
  next =>
    exact Keeps.refl _
  next =>
    refine Keeps.foldl ?_ ?_ _
    next =>
      exact Keeps.refl _
    next =>
      intro t0 x1
      extract_lets +onlyGivenNames y2
      clear_value y2
      extract_lets +onlyGivenNames y3
      have h4 : Keeps 671221954 t0 y3 := by
        unfold y3
        refine Keeps.foldl ?_ ?_ _
        next =>
          exact Keeps.refl _
        next =>
          intro t5 x6
          split
          next =>
            exact Keeps.of (State.lgcPublish_keeps _ _ _ _) rfl
          next =>
            exact Keeps.refl _
      clear_value y3
      refine Keeps.foldl ?_ ?_ _
      next =>
        exact h4
      next =>
        intro t7 x8
        extract_lets +onlyGivenNames y9
        clear_value y9
        extract_lets +onlyGivenNames y10
        have h11 : Keeps 671221954 t7 y10 := by
          unfold y10
          refine Keeps.trans ?_ (Keeps.of (State.lgcCycle_keeps _ _ _) rfl)
          exact Keeps.of (State.ltaskPut_keeps _ _ _) rfl
        clear_value y10
        extract_lets +onlyGivenNames y12
        clear_value y12
        refine Keeps.trans ?_ (Keeps.of (State.ltaskPut_keeps _ _ _) rfl)
        exact h11

theorem State.resolve_keeps (s v1 v2 v3) : Keeps 50505970 s (State.resolve s v1 v2 v3) := by
  unfold State.resolve
  extract_lets +onlyGivenNames y0
  clear_value y0
  extract_lets +onlyGivenNames y1
  clear_value y1
  split
  next =>
    refine Keeps.trans ?_ (Keeps.of (State.redMod_keeps _ _) rfl)
    refine Keeps.trans ?_ (Keeps.of (State.alarm_keeps _ _ _ _ _) rfl)
    exact Keeps.of (State.fup_keeps _ _) rfl
  next =>
    refine Keeps.ite ?_ ?_
    next =>
      exact Keeps.refl _
    next =>
      refine Keeps.ite ?_ ?_
      next =>
        exact Keeps.of (State.declareFail_keeps _ _) rfl
      next =>
        refine Keeps.trans ?_ (Keeps.of (State.redMod_keeps _ _) rfl)
        exact Keeps.of (State.setRole_keeps _ _) rfl

theorem State.cmpCount_keeps (s v1 v2 v3) : Keeps 50505970 s (State.cmpCount s v1 v2 v3) := by
  unfold State.cmpCount
  split
  next =>
    exact Keeps.refl _
  next =>
    extract_lets +onlyGivenNames y0
    clear_value y0
    extract_lets +onlyGivenNames y1
    have h2 : Keeps 50505970 s y1 := by
      unfold y1
      exact Keeps.of (State.fset_keeps _ _ _) rfl
    clear_value y1
    extract_lets +onlyGivenNames y3
    clear_value y3
    extract_lets +onlyGivenNames y4
    have h5 : Keeps 50505970 s y4 := by
      unfold y4
      refine Keeps.trans ?_ (Keeps.of (State.fset_keeps _ _ _) rfl)
      exact h2
    clear_value y4
    extract_lets +onlyGivenNames y6
    have h7 : Keeps 50505970 s y6 := by
      unfold y6
      refine Keeps.ite ?_ ?_
      next =>
        refine Keeps.ite ?_ ?_
        next =>
          refine Keeps.trans ?_ (Keeps.of (State.event_keeps _ _ _ _ _) rfl)
          refine Keeps.trans ?_ (Keeps.of (State.setQual_keeps _ _) rfl)
          exact h5
        next =>
          exact h5
      next =>
        exact h2
    clear_value y6
    extract_lets +onlyGivenNames y8
    have h9 : Keeps 50505970 s y8 := by
      unfold y8
      refine Keeps.trans ?_ (Keeps.of (State.redMod_keeps _ _) rfl)
      exact h7
    clear_value y8
    refine Keeps.ite ?_ ?_
    next =>
      refine Keeps.trans ?_ (Keeps.of (State.disagreeClear_keeps _) rfl)
      exact h9
    next =>
      exact h9
  next =>
    extract_lets +onlyGivenNames y10
    clear_value y10
    extract_lets +onlyGivenNames y11
    clear_value y11
    extract_lets +onlyGivenNames y12
    have h13 : Keeps 50505970 s y12 := by
      unfold y12
      refine Keeps.trans ?_ (Keeps.of (State.redMod_keeps _ _) rfl)
      refine Keeps.trans ?_ (Keeps.of (State.fset_keeps _ _ _) rfl)
      refine Keeps.trans ?_ (Keeps.of (State.fset_keeps _ _ _) rfl)
      exact Keeps.of (State.fset_keeps _ _ _) rfl
    clear_value y12
    refine Keeps.ite ?_ ?_
    next =>
      extract_lets +onlyGivenNames y14
      clear_value y14
      refine Keeps.trans ?_ (Keeps.of (State.resolve_keeps _ _ _ _) rfl)
      exact h13
    next =>
      exact h13

theorem State.capPut_keeps (s v1 v2 v3) : Keeps 64 s (State.capPut s v1 v2 v3) := by
  unfold State.capPut
  refine Keeps.trans ?_ (Keeps.of (State.fset_keeps _ _ _) rfl)
  refine Keeps.trans ?_ (Keeps.of (State.fset_keeps _ _ _) rfl)
  exact Keeps.of (State.fset_keeps _ _ _) rfl

theorem State.mpcTake_keeps (s v1) : Keeps 2263234 s (State.mpcTake s v1) := by
  unfold State.mpcTake
  extract_lets +onlyGivenNames y0
  have h1 : Keeps 2263234 s y0 := by
    unfold y0
    exact Keeps.of (State.cexMod_keeps _ _) rfl
  clear_value y0
  extract_lets +onlyGivenNames y2
  have h3 : Keeps 2263234 s y2 := by
    unfold y2
    refine Keeps.trans ?_ (Keeps.of (State.fset_keeps _ _ _) rfl)
    refine Keeps.trans ?_ (Keeps.of (State.fset_keeps _ _ _) rfl)
    refine Keeps.trans ?_ (Keeps.of (State.fset_keeps _ _ _) rfl)
    exact h1
  clear_value y2
  split
  next =>
    refine Keeps.trans ?_ (Keeps.of (State.capLow_keeps _) rfl)
    refine Keeps.trans ?_ (Keeps.of (State.capPut_keeps _ _ _ _) rfl)
    exact h3
  next =>
    exact h3

theorem State.mpcListed_keeps (s v1) : Keeps 56797426 s (State.mpcListed s v1) := by
  unfold State.mpcListed
  extract_lets +onlyGivenNames y0
  clear_value y0
  extract_lets +onlyGivenNames y1
  clear_value y1
  extract_lets +onlyGivenNames y2
  clear_value y2
  extract_lets +onlyGivenNames y3
  have h4 : Keeps 56797426 s y3 := by
    unfold y3
    refine Keeps.trans ?_ (Keeps.of (State.showMpc_keeps _) rfl)
    exact Keeps.of (State.slvMod_keeps _ _) rfl
  clear_value y3
  extract_lets +onlyGivenNames y5
  have h6 : Keeps 56797426 s y5 := by
    unfold y5
    refine Keeps.trans ?_ (Keeps.of (State.mpcTake_keeps _ _) rfl)
    exact h4
  clear_value y5
  refine Keeps.ite ?_ ?_
  next =>
    refine Keeps.trans ?_ (Keeps.of (State.cmpCount_keeps _ _ _ _) rfl)
    exact h6
  next =>
    exact h6

theorem State.windStep_keeps (s) : Keeps 2230466 s (State.windStep s).1 := by
  unfold State.windStep
  extract_lets +onlyGivenNames y0
  clear_value y0
  split
  rename_i z1 z2 z3 z4
  extract_lets +onlyGivenNames y5
  clear_value y5
  extract_lets +onlyGivenNames y6
  have h7 : Keeps 2230466 s y6 := by unfold y6; exact Keeps.upd_cex rfl (Keeps.refl _) _
  clear_value y6
  refine Keeps.ite1 ?_ ?_
  next =>
    dsimp only
    refine Keeps.ite ?_ ?_
    next => exact h7
    next =>
      refine Keeps.trans ?_ (Keeps.of (State.event_keeps _ _ _ _ _) rfl)
      refine Keeps.trans ?_ (Keeps.of (State.fup_keeps _ _) rfl)
      exact h7
  next =>
    refine Keeps.ite1 ?_ ?_
    next => dsimp only; refine Keeps.trans ?_ (Keeps.of (State.fup_keeps _ _) rfl); exact h7
    next => dsimp only; exact h7

theorem State.obsCommit_keeps (s) : Keeps 2230466 s (State.obsCommit s) := by
  unfold State.obsCommit
  extract_lets +onlyGivenNames y0
  clear_value y0
  split
  rename_i z1 z2 z3 z4
  split
  rename_i z5 z6 z7 z8 z9
  have k10 : Keeps 2230466 s z6 := by refine Keeps.fst z9 ?_; exact Keeps.of (State.windStep_keeps _) rfl
  extract_lets +onlyGivenNames y11
  clear_value y11
  refine Keeps.trans ?_ (Keeps.of (State.satFlags_keeps _ _ _) rfl)
  refine Keeps.upd_cex rfl (b := z6) ?_ _
  exact k10

theorem State.obsForce_keeps (s v1) : Keeps 2097216 s (State.obsForce s v1) := by
  unfold State.obsForce
  extract_lets +onlyGivenNames y0
  clear_value y0
  split
  extract_lets +onlyGivenNames y1
  clear_value y1
  refine Keeps.trans ?_ (Keeps.of (State.satFlags_keeps _ _ _) rfl)
  exact Keeps.of (State.cexMod_keeps _ _) rfl

theorem State.obsProp_keeps (s) : Keeps 2097216 s (State.obsProp s) := by
  unfold State.obsProp
  extract_lets +onlyGivenNames y0
  clear_value y0
  extract_lets +onlyGivenNames y1
  clear_value y1
  split
  rename_i z2 z3 z4 z5
  extract_lets +onlyGivenNames y6
  clear_value y6
  extract_lets +onlyGivenNames y7
  clear_value y7
  refine Keeps.trans ?_ (Keeps.of (State.satFlags_keeps _ _ _) rfl)
  exact Keeps.upd_cex rfl (Keeps.refl _) _

theorem State.onInputs_keeps {M : Nat} (hM : 262144 ||| M = M) (s v1) (hv1 : ∀ x0, Keeps M x0 (v1 x0)) : Keeps M s (State.onInputs s v1) := by
  unfold State.onInputs
  refine Keeps.ite ?_ ?_
  next =>
    extract_lets +onlyGivenNames y0
    clear_value y0
    extract_lets +onlyGivenNames y1
    have h2 : Keeps M s y1 := by
      unfold y1
      refine Keeps.trans ?_ (hv1 _)
      exact Keeps.upd_ctx (mask_trans (o := 262144) rfl hM) (Keeps.refl _) _
    clear_value y1
    refine Keeps.upd_ctx (mask_trans (o := 262144) rfl hM) (b := y1) ?_ _
    exact h2
  next => refine Keeps.trans ?_ (hv1 _); exact Keeps.refl _

theorem State.redTurn_keeps (s) : Keeps 16777216 s (State.redTurn s) := by
  unfold State.redTurn
  exact Keeps.of (State.redMod_keeps _ _) rfl

theorem State.fuseLate_keeps (s) : Keeps 1214658 s (State.fuseLate s) := by
  unfold State.fuseLate
  extract_lets +onlyGivenNames y0
  clear_value y0
  extract_lets +onlyGivenNames y1
  clear_value y1
  extract_lets +onlyGivenNames y2
  clear_value y2
  extract_lets +onlyGivenNames y3
  clear_value y3
  extract_lets +onlyGivenNames y4
  clear_value y4
  extract_lets +onlyGivenNames y5
  clear_value y5
  extract_lets +onlyGivenNames y6
  clear_value y6
  extract_lets +onlyGivenNames y7
  clear_value y7
  extract_lets +onlyGivenNames y8
  clear_value y8
  extract_lets +onlyGivenNames y9
  have h10 : Keeps 1214658 s y9 := by
    unfold y9
    refine Keeps.trans ?_ (Keeps.of (State.stage_keeps _ _ _ _) rfl)
    refine Keeps.trans ?_ (Keeps.of (State.fset_keeps _ _ _) rfl)
    refine Keeps.trans ?_ (Keeps.of (State.wrB_keeps _ _ _ _) rfl)
    refine Keeps.upd_fus rfl ?_ _
    exact Keeps.refl _
  clear_value y9
  extract_lets +onlyGivenNames y11
  have h12 : Keeps 1214658 s y11 := by
    unfold y11
    refine Keeps.trans ?_ (Keeps.of (State.fcount_keeps _ _ _) rfl)
    refine Keeps.trans ?_ (Keeps.of (State.fup_keeps _ _) rfl)
    refine Keeps.trans ?_ (Keeps.of (State.fup_keeps _ _) rfl)
    refine Keeps.trans ?_ (Keeps.of (State.fusShow_keeps _ _) rfl)
    exact h10
  clear_value y11
  refine Keeps.trans ?_ (Keeps.of (State.alarmLevel_keeps _ _ _ _ _) rfl)
  refine Keeps.trans ?_ (Keeps.of (State.alarmLevel_keeps _ _ _ _ _) rfl)
  refine Keeps.trans ?_ (Keeps.of (State.alarmLevel_keeps _ _ _ _ _) rfl)
  exact h12

theorem State.obsLate_keeps (s) : Keeps 2230466 s (State.obsLate s) := by
  unfold State.obsLate
  split
  rename_i z0 z1 z2 z3
  have k4 : Keeps 2230466 s z0 := by
    refine Keeps.fst z3 ?_
    exact Keeps.of (State.windStep_keeps _) rfl
  extract_lets +onlyGivenNames y5
  clear_value y5
  refine Keeps.trans ?_ (Keeps.of (State.satFlags_keeps _ _ _) rfl)
  refine Keeps.upd_cex rfl (b := z0) ?_ _
  exact k4

theorem State.rederiveRun_keeps (s v1) : Keeps 7532230 s (State.rederiveRun s v1) := by
  unfold State.rederiveRun
  extract_lets +onlyGivenNames y0
  have h1 : Keeps 7532230 s y0 := by unfold y0; exact Keeps.of (State.applyAt_keeps _ _) rfl
  clear_value y0
  extract_lets +onlyGivenNames y2
  have h3 : Keeps 7532230 s y2 := by
    unfold y2
    refine Keeps.ite ?_ ?_
    next => refine Keeps.trans ?_ (Keeps.of (State.profileLate_keeps _) rfl); exact h1
    next => refine Keeps.trans ?_ (Keeps.of (State.profileStep_keeps _) rfl); exact h1
  clear_value y2
  extract_lets +onlyGivenNames y4
  have h5 : Keeps 7532230 s y4 := by
    unfold y4
    refine Keeps.ite ?_ ?_
    next => refine Keeps.trans ?_ (Keeps.of (State.fuseLate_keeps _) rfl); exact h3
    next => refine Keeps.trans ?_ (Keeps.of (State.fuse_keeps _ _) rfl); exact h3
  clear_value y4
  extract_lets +onlyGivenNames y6
  have h7 : Keeps 7532230 s y6 := by
    unfold y6
    refine Keeps.ite ?_ ?_
    next => refine Keeps.trans ?_ (Keeps.of (State.obsLate_keeps _) rfl); exact h5
    next => refine Keeps.trans ?_ (Keeps.of (State.obsCommit_keeps _) rfl); exact h5
  clear_value y6
  extract_lets +onlyGivenNames y8
  have h9 : Keeps 7532230 s y8 := by
    unfold y8
    refine Keeps.trans ?_ (Keeps.of (State.applyAt_keeps _ _) rfl)
    exact h7
  clear_value y8
  extract_lets +onlyGivenNames y10
  have h11 : Keeps 7532230 s y10 := by
    unfold y10
    refine Keeps.ite ?_ ?_
    next => refine Keeps.trans ?_ (Keeps.of (State.controlLate_keeps _) rfl); exact h9
    next => refine Keeps.trans ?_ (Keeps.of (State.controlLaw_keeps _) rfl); exact h9
  clear_value y10
  refine Keeps.trans ?_ (Keeps.of (State.obsProp_keeps _) rfl)
  exact h11

theorem State.refineAt_keeps (s) : Keeps 1048640 s (State.refineAt s) := by
  unfold State.refineAt
  refine Keeps.ite ?_ ?_
  next =>
    exact Keeps.refl _
  next =>
    split
    extract_lets +onlyGivenNames y0
    have h1 : Keeps 1048640 s y0 := by
      unfold y0
      refine Keeps.trans ?_ (Keeps.of (State.fusShow_keeps _ _) rfl)
      refine Keeps.upd_fus rfl ?_ _
      exact Keeps.refl _
    clear_value y0
    refine Keeps.ite ?_ ?_
    next =>
      refine Keeps.trans ?_ (Keeps.of (State.fup_keeps _ _) rfl)
      exact h1
    next =>
      exact h1

theorem State.satFrom_keeps (s v1) : Keeps 64 s (State.satFrom s v1) := by
  unfold State.satFrom
  refine Keeps.foldl ?_ ?_ _
  next =>
    exact Keeps.refl _
  next =>
    intro t0 x1
    exact Keeps.of (State.satFlags_keeps _ _ _) rfl

theorem State.rederive_keeps (s v1) : Keeps 24571846 s (State.rederive s v1) := by
  unfold State.rederive
  extract_lets +onlyGivenNames y0
  clear_value y0
  refine Keeps.ite ?_ ?_
  next =>
    exact Keeps.refl _
  next =>
    split
    next =>
      extract_lets +onlyGivenNames y1
      have h2 : Keeps 24571846 s y1 := by
        unfold y1
        refine Keeps.trans ?_ (Keeps.of (State.timeMod_keeps _ _) rfl)
        refine Keeps.upd_ctx_fus_cex rfl ?_ _ _ _
        exact Keeps.refl _
      clear_value y1
      extract_lets +onlyGivenNames y3
      have h4 : Keeps 24571846 s y3 := by
        unfold y3
        refine Keeps.trans ?_ (Keeps.of (State.fusBoundary_keeps _) rfl)
        refine Keeps.trans ?_ (Keeps.of (State.applyAt_keeps _ _) rfl)
        refine Keeps.trans ?_ (Keeps.of (State.rederiveRun_keeps _ _) rfl)
        refine Keeps.trans ?_ (Keeps.of (State.redMod_keeps _ _) rfl)
        exact h2
      clear_value y3
      extract_lets +onlyGivenNames y5
      have h6 : Keeps 24571846 s y5 := by
        unfold y5
        refine Keeps.trans ?_ (Keeps.of (State.refineAt_keeps _) rfl)
        refine Keeps.upd_time rfl (b := y3) ?_ _
        exact h4
      clear_value y5
      extract_lets +onlyGivenNames y7
      have h8 : Keeps 24571846 s y7 := by
        unfold y7
        exact Keeps.of (State.satFrom_keeps _ _) rfl
      clear_value y7
      refine Keeps.upd_fus_cex rfl (b := y7) ?_ _ _
      exact h8
    next =>
      exact Keeps.refl _

theorem State.statTake_keeps (s v1 v2) : Keeps 4194304 s (State.statTake s v1 v2) := by
  unfold State.statTake
  extract_lets +onlyGivenNames y0
  clear_value y0
  refine Keeps.ite ?_ ?_
  next =>
    refine Keeps.foldl ?_ ?_ _
    next => exact Keeps.refl _
    next =>
      intro t1 x2
      split
      next => rename_i z3 z4 z5; exact Keeps.upd_slv rfl (Keeps.refl _) _
      next => rename_i z6 z7; exact Keeps.refl _
  next =>
    refine Keeps.ite ?_ ?_
    next =>
      refine Keeps.foldl ?_ ?_ _
      next => exact Keeps.refl _
      next =>
        intro t8 x9
        split
        next =>
          rename_i z10 z11 z12
          refine Keeps.ite ?_ ?_
          next => exact Keeps.upd_slv rfl (Keeps.refl _) _
          next => exact Keeps.refl _
        next => rename_i z13 z14; exact Keeps.refl _
    next => exact Keeps.refl _

theorem State.takeGroups_keeps (s v1) : Keeps 537004226 s (State.takeGroups s v1) := by
  unfold State.takeGroups
  refine Keeps.foldl ?_ ?_ _
  next => exact Keeps.refl _
  next =>
    intro t0 x1
    refine Keeps.ite ?_ ?_
    next => exact Keeps.of (State.lgcMod_keeps _ _) rfl
    next =>
      refine Keeps.trans ?_ (Keeps.of (State.cmdRejected_keeps _ _ _ _ _) rfl)
      exact Keeps.of (State.finc_keeps _ _) rfl

theorem State.tauPut_keeps (s v1 v2) : Keeps 2097216 s (State.tauPut s v1 v2) := by
  unfold State.tauPut
  split
  refine Keeps.trans ?_ (Keeps.of (State.satFlags_keeps _ _ _) rfl)
  refine Keeps.upd_cex rfl ?_ _
  exact Keeps.refl _

theorem State.tauTake_keeps (s v1) : Keeps 2097216 s (State.tauTake s v1) := by
  unfold State.tauTake
  split
  next =>
    exact Keeps.refl _
  next =>
    split
    next =>
      exact Keeps.refl _
    next =>
      exact Keeps.of (State.tauPut_keeps _ _ _) rfl

theorem State.catchFrame_keeps (s v1 v2) : Keeps 729214966 s (State.catchFrame s v1 v2) := by
  unfold State.catchFrame
  extract_lets +onlyGivenNames y0
  clear_value y0
  extract_lets +onlyGivenNames y1
  have h2 : Keeps 729214966 s y1 := by
    unfold y1
    refine Keeps.trans ?_ (Keeps.of (State.markUnfol_keeps _ _) rfl)
    refine Keeps.trans ?_ (Keeps.of (State.redTurn_keeps _) rfl)
    exact Keeps.of (State.timeMod_keeps _ _) rfl
  clear_value y1
  extract_lets +onlyGivenNames y3
  have h4 : Keeps 729214966 s y3 := by
    unfold y3
    refine Keeps.ite ?_ ?_
    next =>
      refine Keeps.trans ?_ (Keeps.of (State.obsProp_keeps _) rfl)
      exact h2
    next =>
      exact h2
  clear_value y3
  extract_lets +onlyGivenNames y5
  have h6 : Keeps 729214966 s y5 := by
    unfold y5
    refine Keeps.trans ?_ (Keeps.of (State.fusBoundary_keeps _) rfl)
    refine Keeps.ite ?_ ?_
    next =>
      refine Keeps.trans ?_ (Keeps.of (State.tauTake_keeps _ _) rfl)
      exact h4
    next =>
      refine Keeps.trans ?_ (Keeps.of (State.obsForce_keeps _ _) rfl)
      exact h4
  clear_value y5
  extract_lets +onlyGivenNames y7
  have h8 : Keeps 729214966 s y7 := by
    unfold y7
    refine Keeps.trans ?_ (Keeps.of (State.rederive_keeps _ _) rfl)
    refine Keeps.trans ?_ (Keeps.of (State.refineAt_keeps _) rfl)
    exact h6
  clear_value y7
  extract_lets +onlyGivenNames y9
  clear_value y9
  extract_lets +onlyGivenNames y10
  clear_value y10
  extract_lets +onlyGivenNames y11
  have h12 : Keeps 729214966 s y11 := by
    unfold y11
    refine Keeps.trans ?_ (Keeps.of (State.redMod_keeps _ _) rfl)
    exact h8
  clear_value y11
  extract_lets +onlyGivenNames y13
  have h14 : Keeps 729214966 s y13 := by
    unfold y13
    refine Keeps.foldl ?_ ?_ _
    next =>
      exact h12
    next =>
      intro t15 x16
      exact Keeps.of (State.statTake_keeps _ _ _) rfl
  clear_value y13
  extract_lets +onlyGivenNames y17
  have h18 : Keeps 729214966 s y17 := by
    unfold y17
    split
    next =>
      refine Keeps.trans ?_ (Keeps.of (State.mpcListed_keeps _ _) rfl)
      exact h14
    next =>
      exact h14
  clear_value y17
  extract_lets +onlyGivenNames y19
  have h20 : Keeps 729214966 s y19 := by
    unfold y19
    refine Keeps.trans ?_ (Keeps.of (State.afterInputs_keeps _ _) rfl)
    exact h18
  clear_value y19
  extract_lets +onlyGivenNames y21
  have h22 : Keeps 729214966 s y21 := by
    unfold y21
    refine Keeps.trans ?_ (State.onInputs_keeps rfl _ _ ?_)
    next =>
      refine Keeps.trans ?_ (State.onInputs_keeps rfl _ _ ?_)
      next =>
        exact h20
      next =>
        intro t23
        exact Keeps.of (State.fuse_keeps _ _) rfl
    next =>
      intro t24
      exact Keeps.of (State.obsCommit_keeps _) rfl
  clear_value y21
  extract_lets +onlyGivenNames y25
  have h26 : Keeps 729214966 s y25 := by
    unfold y25
    refine Keeps.trans ?_ (Keeps.of (State.ckptFix_keeps _) rfl)
    refine Keeps.trans ?_ (State.onInputs_keeps rfl _ _ ?_)
    next =>
      refine Keeps.trans ?_ (State.onInputs_keeps rfl _ _ ?_)
      next =>
        exact h22
      next =>
        intro t27
        exact Keeps.of (State.applyAt_keeps _ _) rfl
    next =>
      intro t28
      exact Keeps.of (State.obsProp_keeps _) rfl
  clear_value y25
  refine Keeps.trans ?_ (Keeps.of (State.takeGroups_keeps _ _) rfl)
  refine Keeps.trans ?_ (Keeps.of (State.applyAt_keeps _ _) rfl)
  refine Keeps.trans ?_ (Keeps.of (State.lgcCatch_keeps _ _) rfl)
  refine Keeps.trans ?_ (State.onInputs_keeps rfl _ _ ?_)
  next =>
    exact h26
  next =>
    intro t29
    exact Keeps.of (State.controlLaw_keeps _) rfl

theorem State.conclude_keeps (s v1) : Keeps 50505970 s (State.conclude s v1) := by
  unfold State.conclude
  refine Keeps.ite ?_ ?_
  next =>
    exact Keeps.refl _
  next =>
    extract_lets +onlyGivenNames y0
    have h1 : Keeps 50505970 s y0 := by
      unfold y0
      exact Keeps.of (State.redMod_keeps _ _) rfl
    clear_value y0
    split
    next =>
      exact h1
    next =>
      extract_lets +onlyGivenNames y2
      clear_value y2
      extract_lets +onlyGivenNames y3
      have h4 : Keeps 50505970 s y3 := by
        unfold y3
        refine Keeps.trans ?_ (Keeps.of (State.redMod_keeps _ _) rfl)
        exact h1
      clear_value y3
      refine Keeps.ite ?_ ?_
      next =>
        exact h4
      next =>
        extract_lets +onlyGivenNames y5
        clear_value y5
        extract_lets +onlyGivenNames y6
        have h7 : Keeps 50505970 s y6 := by
          unfold y6
          refine Keeps.ite ?_ ?_
          next =>
            refine Keeps.trans ?_ (Keeps.of (State.markUnfol_keeps _ _) rfl)
            exact h4
          next =>
            exact h4
        clear_value y6
        extract_lets +onlyGivenNames y8
        clear_value y8
        extract_lets +onlyGivenNames y9
        clear_value y9
        extract_lets +onlyGivenNames y10
        clear_value y10
        refine Keeps.trans ?_ (Keeps.of (State.cmpCount_keeps _ _ _ _) rfl)
        exact h7

theorem State.cmdSend_keeps (s v1 v2 v3 v4) : Keeps 41943042 s (State.cmdSend s v1 v2 v3 v4) := by
  unfold State.cmdSend
  extract_lets +onlyGivenNames y0
  clear_value y0
  extract_lets +onlyGivenNames y1
  have h2 : Keeps 41943042 s y1 := by
    unfold y1
    refine Keeps.foldl ?_ ?_ _
    next =>
      exact Keeps.refl _
    next =>
      intro t3 x4
      exact Keeps.of (State.pierSend_keeps _ _ _ _) rfl
  clear_value y1
  refine Keeps.ite ?_ ?_
  next =>
    exact h2
  next =>
    refine Keeps.upd_saf rfl (b := y1) ?_ _
    exact h2

end Sys2Proof.Machine
end

