-- ==== Sys2Proof/Laws/Keeps6.lean ====
section
/-!
SUPPORT. Operations keep what `Keeps` says, callees before callers: part 6 of 10.
-/

namespace Sys2Proof.Machine

theorem State.promoNote_keeps (s v1 v2 v3) : Keeps 133314 s (State.promoNote s v1 v2 v3) := by
  unfold State.promoNote
  extract_lets +onlyGivenNames y0
  have h1 : Keeps 133314 s y0 := by
    unfold y0
    refine Keeps.trans ?_ (Keeps.of (State.fup_keeps _ _) rfl)
    refine Keeps.trans ?_ (Keeps.of (State.fset_keeps _ _ _) rfl)
    refine Keeps.trans ?_ (Keeps.of (State.fput_keeps _ _ _) rfl)
    exact Keeps.of (State.fset_keeps _ _ _) rfl
  clear_value y0
  refine Keeps.trans ?_ (Keeps.of (State.event_keeps _ _ _ _ _) rfl)
  refine Keeps.trans ?_ (Keeps.of (State.fcount_keeps _ _ _) rfl)
  exact h1

theorem State.supersede_keeps (s v1 v2) : Keeps 48367810 s (State.supersede s v1 v2).1 := by
  unfold State.supersede
  extract_lets +onlyGivenNames y0
  clear_value y0
  extract_lets +onlyGivenNames y1
  clear_value y1
  refine Keeps.ite1 ?_ ?_
  next =>
    refine Keeps.mk1 ?_
    exact Keeps.refl _
  next =>
    extract_lets +onlyGivenNames y2
    clear_value y2
    extract_lets +onlyGivenNames y3
    clear_value y3
    extract_lets +onlyGivenNames y4
    clear_value y4
    extract_lets +onlyGivenNames y5
    clear_value y5
    extract_lets +onlyGivenNames y6
    clear_value y6
    extract_lets +onlyGivenNames y7
    clear_value y7
    extract_lets +onlyGivenNames y8
    clear_value y8
    extract_lets +onlyGivenNames y9
    have h10 : Keeps 48367810 s y9 := by
      unfold y9
      refine Keeps.trans ?_ (Keeps.of (State.slvMod_keeps _ _) rfl)
      refine Keeps.trans ?_ (Keeps.of (State.allocPut_keeps _ _) rfl)
      exact Keeps.of (State.cmdSend_keeps _ _ _ _ _) rfl
    clear_value y9
    extract_lets +onlyGivenNames y11
    have h12 : Keeps 48367810 s y11 := by
      unfold y11
      refine Keeps.ite ?_ ?_
      next =>
        refine Keeps.trans ?_ (Keeps.of (State.tauPut_keeps _ _ _) rfl)
        exact h10
      next =>
        exact h10
    clear_value y11
    refine Keeps.mk1 ?_
    refine Keeps.trans ?_ (Keeps.of (State.promoNote_keeps _ _ _ _) rfl)
    refine Keeps.trans ?_ (Keeps.of (State.stage_keeps _ _ _ _) rfl)
    exact h12

theorem State.failAlloc_keeps (s v1 v2 v3) : Keeps 48367810 s (State.failAlloc s v1 v2 v3).1 := by
  unfold State.failAlloc
  extract_lets +onlyGivenNames y0
  clear_value y0
  refine Keeps.ite1 ?_ ?_
  next =>
    refine Keeps.ite1 ?_ ?_
    next => dsimp only; exact Keeps.of (State.allocPut_keeps _ _) rfl
    next => dsimp only; exact Keeps.refl _
  next =>
    split
    next =>
      rename_i z1 z2
      refine Keeps.ite1 ?_ ?_
      next => exact Keeps.of (State.supersede_keeps _ _ _) rfl
      next => dsimp only; exact Keeps.refl _
    next => rename_i z3; dsimp only; exact Keeps.refl _

theorem State.promoMiss_keeps (s) : Keeps 133314 s (State.promoMiss s) := by
  unfold State.promoMiss
  refine Keeps.trans ?_ (Keeps.of (State.event_keeps _ _ _ _ _) rfl)
  refine Keeps.trans ?_ (Keeps.of (State.fup_keeps _ _) rfl)
  exact Keeps.of (State.fcount_keeps _ _ _) rfl

theorem State.failEvent_keeps (s v1 v2) : Keeps 48367810 s (State.failEvent s v1 v2) := by
  unfold State.failEvent
  extract_lets +onlyGivenNames y0
  have h1 : Keeps 48367810 s y0 := by
    unfold y0
    exact Keeps.of (State.slvMod_keeps _ _) rfl
  clear_value y0
  refine Keeps.ite ?_ ?_
  next =>
    exact h1
  next =>
    split
    next =>
      exact h1
    next =>
      split
      extract_lets +onlyGivenNames y2
      clear_value y2
      split
      rename_i z3 z4 z5
      have k6 : Keeps 48367810 s z3 := by
        refine Keeps.fst z5 ?_
        refine Keeps.foldl1 ?_ ?_ _
        next =>
          refine Keeps.mk1 ?_
          exact h1
        next =>
          intro t7 x8
          split
          rename_i z9 z10 z11
          have k12 : Keeps 48367810 t7.1 z9 := by
            refine Keeps.fst z11 ?_
            refine Keeps.trans ?_ (Keeps.of (State.failAlloc_keeps _ _ _ _) rfl)
            exact Keeps.refl _
          refine Keeps.mk1 ?_
          exact k12
      refine Keeps.ite ?_ ?_
      next =>
        exact k6
      next =>
        refine Keeps.trans ?_ (Keeps.of (State.promoMiss_keeps _) rfl)
        exact k6

theorem State.pathsLost_keeps (s v1) : Keeps 48367810 s (State.pathsLost s v1) := by
  unfold State.pathsLost
  extract_lets +onlyGivenNames y0
  have h1 : Keeps 48367810 s y0 := by
    unfold y0
    exact Keeps.of (State.slvMod_keeps _ _) rfl
  clear_value y0
  split
  next =>
    exact h1
  next =>
    extract_lets +onlyGivenNames y2
    clear_value y2
    refine Keeps.ite ?_ ?_
    next =>
      exact h1
    next =>
      refine Keeps.trans ?_ (Keeps.of (State.failEvent_keeps _ _ _) rfl)
      exact h1

theorem State.judgePaths_keeps (s) : Keeps 65202370 s (State.judgePaths s) := by
  unfold State.judgePaths
  extract_lets +onlyGivenNames y0
  clear_value y0
  extract_lets +onlyGivenNames y1
  clear_value y1
  extract_lets +onlyGivenNames y2
  have h3 : Keeps 65202370 s y2 := by
    unfold y2
    exact Keeps.of (State.redMod_keeps _ _) rfl
  clear_value y2
  split
  rename_i z4 z5 z6
  have k7 : Keeps 65202370 s z4 := by
    refine Keeps.fst z6 ?_
    refine Keeps.foldl1 ?_ ?_ _
    next =>
      refine Keeps.mk1 ?_
      exact h3
    next =>
      intro t8 x9
      split
      rename_i z10 z11 z12
      have k13 : Keeps 65202370 t8.1 z10 := by
        refine Keeps.fst z12 ?_
        refine Keeps.trans ?_ (Keeps.of (State.fltErr_keeps _ _ _) rfl)
        exact Keeps.refl _
      refine Keeps.mk1 ?_
      exact k13
  refine Keeps.trans ?_ (Keeps.of (State.pathsLost_keeps _ _) rfl)
  exact k7

theorem State.retroTake_keeps (s v1 v2) : Keeps 2621504 s (State.retroTake s v1 v2) := by
  unfold State.retroTake
  refine Keeps.trans ?_ (Keeps.of (State.fcount_keeps _ _ _) rfl)
  extract_lets +onlyGivenNames y0
  have h1 : Keeps 2621504 s y0 := by
    unfold y0
    exact Keeps.of (State.cexMod_keeps _ _) rfl
  clear_value y0
  refine Keeps.upd_retro rfl (b := y0) ?_ _
  exact h1

theorem State.retroAdopt_keeps (s v1) : Keeps 2621504 s (State.retroAdopt s v1) := by
  unfold State.retroAdopt
  split
  next =>
    extract_lets +onlyGivenNames y0
    have h1 : Keeps 2621504 s y0 := by
      unfold y0
      exact Keeps.of (State.cexMod_keeps _ _) rfl
    clear_value y0
    refine Keeps.ite ?_ ?_
    next =>
      refine Keeps.trans ?_ (Keeps.of (State.retroTake_keeps _ _ _) rfl)
      exact h1
    next =>
      exact h1
  next =>
    exact Keeps.refl _

theorem State.followFrame_keeps (s v1) : Keeps 67039222 s (State.followFrame s v1) := by
  unfold State.followFrame
  extract_lets +onlyGivenNames y0
  clear_value y0
  extract_lets +onlyGivenNames y1
  have h2 : Keeps 67039222 s y1 := by
    unfold y1
    refine Keeps.trans ?_ (Keeps.of (State.conclude_keeps _ _) rfl)
    refine Keeps.ite ?_ ?_
    next =>
      exact Keeps.of (State.markUnfol_keeps _ _) rfl
    next =>
      exact Keeps.refl _
  clear_value y1
  extract_lets +onlyGivenNames y3
  have h4 : Keeps 67039222 s y3 := by
    unfold y3
    refine Keeps.trans ?_ (Keeps.of (State.retroAdopt_keeps _ _) rfl)
    refine Keeps.trans ?_ (Keeps.of (State.rederive_keeps _ _) rfl)
    exact h2
  clear_value y3
  extract_lets +onlyGivenNames y5
  clear_value y5
  extract_lets +onlyGivenNames y6
  clear_value y6
  extract_lets +onlyGivenNames y7
  have h8 : Keeps 67039222 s y7 := by
    unfold y7
    refine Keeps.trans ?_ (Keeps.of (State.redMod_keeps _ _) rfl)
    exact h4
  clear_value y7
  extract_lets +onlyGivenNames y9
  have h10 : Keeps 67039222 s y9 := by
    unfold y9
    refine Keeps.trans ?_ (Keeps.of (State.judgePaths_keeps _) rfl)
    refine Keeps.foldl ?_ ?_ _
    next =>
      exact h8
    next =>
      intro t11 x12
      exact Keeps.of (State.statTake_keeps _ _ _) rfl
  clear_value y9
  extract_lets +onlyGivenNames y13
  have h14 : Keeps 67039222 s y13 := by
    unfold y13
    split
    next =>
      refine Keeps.trans ?_ (Keeps.of (State.mpcListed_keeps _ _) rfl)
      exact h10
    next =>
      exact h10
  clear_value y13
  extract_lets +onlyGivenNames y15
  have h16 : Keeps 67039222 s y15 := by
    unfold y15
    refine Keeps.trans ?_ (Keeps.of (State.afterInputs_keeps _ _) rfl)
    exact h14
  clear_value y15
  refine Keeps.trans ?_ (Keeps.of (State.stage_keeps _ _ _ _) rfl)
  exact h16

theorem State.staleCtx_keeps (s v1) : Keeps 452802 s (State.staleCtx s v1) := by
  unfold State.staleCtx
  extract_lets +onlyGivenNames y0
  clear_value y0
  extract_lets +onlyGivenNames y1
  have h2 : Keeps 452802 s y1 := by unfold y1; exact Keeps.of (State.ctxPut_keeps _ _ _) rfl
  clear_value y1
  refine Keeps.ite ?_ ?_
  next =>
    split
    rename_i z3 z4 z5 z6
    have k7 : Keeps 452802 s z4 := by
      refine Keeps.fst z6 ?_
      refine Keeps.trans ?_ (Keeps.of (State.fltErr_keeps _ _ _) rfl)
      exact h2
    refine Keeps.ite ?_ ?_
    next => refine Keeps.trans ?_ (Keeps.of (State.ctxPut_keeps _ _ _) rfl); exact k7
    next => exact k7
  next => exact h2

theorem State.formCtx_keeps (s v1 v2) : Keeps 452806 s (State.formCtx s v1 v2) := by
  unfold State.formCtx
  extract_lets +onlyGivenNames y0
  clear_value y0
  refine Keeps.ite ?_ ?_
  next =>
    split
    next =>
      rename_i z1 z2 z3
      refine Keeps.trans ?_ (Keeps.of (State.tick1_keeps _) rfl)
      exact Keeps.of (State.ctxPut_keeps _ _ _) rfl
    next => rename_i z4 z5; exact Keeps.of (State.staleCtx_keeps _ _) rfl
  next => exact Keeps.of (State.ctxPut_keeps _ _ _) rfl

theorem State.groupStep_keeps (s v1 v2) : Keeps 452802 s (State.groupStep s v1 v2) := by
  unfold State.groupStep
  extract_lets +onlyGivenNames y0
  clear_value y0
  split
  extract_lets +onlyGivenNames y1
  have h2 : Keeps 452802 s y1 := by
    unfold y1
    refine Keeps.foldl ?_ ?_ _
    next =>
      exact Keeps.refl _
    next =>
      intro t3 x4
      extract_lets +onlyGivenNames y5
      clear_value y5
      refine Keeps.ite ?_ ?_
      next =>
        exact Keeps.of (State.suspectCtx_keeps _ _) rfl
      next =>
        exact Keeps.refl _
  clear_value y1
  refine Keeps.ite ?_ ?_
  next =>
    exact h2
  next =>
    extract_lets +onlyGivenNames y6
    have h7 : Keeps 452802 s y6 := by
      unfold y6
      refine Keeps.foldl ?_ ?_ _
      next =>
        exact h2
      next =>
        intro t8 x9
        exact Keeps.of (State.ctxPut_keeps _ _ _) rfl
    clear_value y6
    refine Keeps.trans ?_ (Keeps.of (State.alarm_keeps _ _ _ _ _) rfl)
    refine Keeps.trans ?_ (Keeps.of (State.fup_keeps _ _) rfl)
    exact h7

theorem State.noteHist_keeps (s v1) : Keeps 262208 s (State.noteHist s v1) := by
  unfold State.noteHist
  extract_lets +onlyGivenNames y0
  clear_value y0
  exact Keeps.of (State.ctxPut_keeps _ _ _) rfl

theorem State.formAll_keeps (s v1) : Keeps 452806 s (State.formAll s v1) := by
  unfold State.formAll
  extract_lets +onlyGivenNames y0
  clear_value y0
  extract_lets +onlyGivenNames y1
  clear_value y1
  extract_lets +onlyGivenNames y2
  have h3 : Keeps 452806 s y2 := by
    unfold y2
    refine Keeps.foldl ?_ ?_ _
    next =>
      exact Keeps.refl _
    next =>
      intro t4 x5
      refine Keeps.trans ?_ (Keeps.of (State.noteHist_keeps _ _) rfl)
      exact Keeps.of (State.formCtx_keeps _ _ _) rfl
  clear_value y2
  refine Keeps.foldl ?_ ?_ _
  next =>
    exact h3
  next =>
    intro t6 x7
    refine Keeps.ite ?_ ?_
    next =>
      exact Keeps.of (State.groupStep_keeps _ _ _) rfl
    next =>
      exact Keeps.refl _

theorem State.holderJudge_keeps (s) : Keeps 50505970 s (State.holderJudge s) := by
  unfold State.holderJudge
  extract_lets +onlyGivenNames y0
  clear_value y0
  extract_lets +onlyGivenNames y1
  clear_value y1
  refine Keeps.ite ?_ ?_
  next =>
    exact Keeps.refl _
  next =>
    split
    next =>
      exact Keeps.of (State.resolve_keeps _ _ _ _) rfl
    next =>
      refine Keeps.ite ?_ ?_
      next =>
        exact Keeps.refl _
      next =>
        extract_lets +onlyGivenNames y2
        have h3 : Keeps 50505970 s y2 := by
          unfold y2
          exact Keeps.of (State.redMod_keeps _ _) rfl
        clear_value y2
        refine Keeps.ite ?_ ?_
        next =>
          refine Keeps.trans ?_ (Keeps.of (State.disagreeClear_keeps _) rfl)
          exact h3
        next =>
          exact h3

theorem State.manSend_keeps (s v1 v2) : Keeps 8388610 s (State.manSend s v1 v2) := by
  unfold State.manSend
  refine Keeps.foldl ?_ ?_ _
  next =>
    exact Keeps.refl _
  next =>
    intro t0 x1
    extract_lets +onlyGivenNames y2
    clear_value y2
    refine Keeps.trans ?_ (Keeps.of (State.seqUp_keeps _ _) rfl)
    refine Keeps.foldl ?_ ?_ _
    next =>
      exact Keeps.refl _
    next =>
      intro t3 x4
      exact Keeps.of (State.send_keeps _ _ _) rfl

theorem State.manifestSeal_keeps (s) : Keeps 25296962 s (State.manifestSeal s) := by
  unfold State.manifestSeal
  extract_lets +onlyGivenNames y0
  clear_value y0
  extract_lets +onlyGivenNames y1
  clear_value y1
  extract_lets +onlyGivenNames y2
  have h3 : Keeps 25296962 s y2 := by unfold y2; exact Keeps.of (State.manSend_keeps _ _ _) rfl
  clear_value y2
  refine Keeps.trans ?_ (Keeps.of (State.redMod_keeps _ _) rfl)
  refine Keeps.trans ?_ (Keeps.of (State.stage_keeps _ _ _ _) rfl)
  exact h3

theorem State.mpcJudge_keeps (s v1) : Keeps 54700274 s (State.mpcJudge s v1) := by
  unfold State.mpcJudge
  split
  next =>
    extract_lets +onlyGivenNames y0
    have h1 : Keeps 54700274 s y0 := by
      unfold y0
      exact Keeps.of (State.slvMod_keeps _ _) rfl
    clear_value y0
    refine Keeps.ite ?_ ?_
    next =>
      refine Keeps.trans ?_ (Keeps.of (State.cmpCount_keeps _ _ _ _) rfl)
      exact h1
    next =>
      exact h1
  next =>
    exact Keeps.of (State.slvMod_keeps _ _) rfl

theorem State.scenStart_keeps (s v1) : Keeps 4194304 s (State.scenStart s v1) := by
  unfold State.scenStart
  refine Keeps.ite ?_ ?_
  next =>
    exact Keeps.refl _
  next =>
    split
    next =>
      extract_lets +onlyGivenNames y0
      clear_value y0
      exact Keeps.of (State.slvMod_keeps _ _) rfl
    next =>
      exact Keeps.refl _

theorem State.mpcCommit_keeps (s) : Keeps 56797426 s (State.mpcCommit s) := by
  unfold State.mpcCommit
  split
  next =>
    split
    next =>
      refine Keeps.ite ?_ ?_
      next =>
        exact Keeps.refl _
      next =>
        extract_lets +onlyGivenNames y0
        have h1 : Keeps 56797426 s y0 := by
          unfold y0
          refine Keeps.trans ?_ (Keeps.of (State.showMpc_keeps _) rfl)
          exact Keeps.of (State.slvMod_keeps _ _) rfl
        clear_value y0
        extract_lets +onlyGivenNames y2
        have h3 : Keeps 56797426 s y2 := by
          unfold y2
          refine Keeps.trans ?_ (Keeps.of (State.mpcTake_keeps _ _) rfl)
          exact h1
        clear_value y2
        extract_lets +onlyGivenNames y4
        have h5 : Keeps 56797426 s y4 := by
          unfold y4
          refine Keeps.ite ?_ ?_
          next =>
            refine Keeps.trans ?_ (Keeps.of (State.mpcJudge_keeps _ _) rfl)
            exact h1
          next =>
            refine Keeps.ite ?_ ?_
            next =>
              exact h1
            next =>
              refine Keeps.ite ?_ ?_
              next =>
                refine Keeps.trans ?_ (Keeps.of (State.redMod_keeps _ _) rfl)
                exact h3
              next =>
                exact h3
        clear_value y4
        refine Keeps.ite ?_ ?_
        next =>
          refine Keeps.trans ?_ (Keeps.of (State.scenStart_keeps _ _) rfl)
          exact h5
        next =>
          exact h5
    next =>
      exact Keeps.refl _
  next =>
    exact Keeps.refl _

theorem State.listCmds_keeps (s) : Keeps 16777216 s (State.listCmds s) := by
  unfold State.listCmds
  extract_lets +onlyGivenNames y0
  clear_value y0
  exact Keeps.of (State.redMod_keeps _ _) rfl

theorem State.listStats_keeps (s) : Keeps 20971520 s (State.listStats s) := by
  unfold State.listStats
  extract_lets +onlyGivenNames y0
  clear_value y0
  extract_lets +onlyGivenNames y1
  have h2 : Keeps 20971520 s y1 := by unfold y1; exact Keeps.of (State.redMod_keeps _ _) rfl
  clear_value y1
  refine Keeps.foldl ?_ ?_ _
  next => exact h2
  next => intro t3 x4; exact Keeps.of (State.statTake_keeps _ _ _) rfl

theorem State.ownInputs_keeps (s) : Keeps 66252486 s (State.ownInputs s) := by
  unfold State.ownInputs
  extract_lets +onlyGivenNames y0
  have h1 : Keeps 66252486 s y0 := by
    unfold y0
    refine Keeps.ite ?_ ?_
    next =>
      exact Keeps.of (State.listCmds_keeps _) rfl
    next =>
      exact Keeps.refl _
  clear_value y0
  extract_lets +onlyGivenNames y2
  have h3 : Keeps 66252486 s y2 := by
    unfold y2
    refine Keeps.trans ?_ (Keeps.of (State.judgePaths_keeps _) rfl)
    refine Keeps.trans ?_ (Keeps.of (State.listStats_keeps _) rfl)
    exact h1
  clear_value y2
  refine Keeps.trans ?_ (Keeps.of (State.afterInputs_keeps _ _) rfl)
  exact h3

theorem State.cutoffRun_keeps (s) : Keeps 67039222 s (State.cutoffRun s) := by
  unfold State.cutoffRun
  extract_lets +onlyGivenNames y0
  clear_value y0
  extract_lets +onlyGivenNames y1
  have h2 : Keeps 67039222 s y1 := by
    unfold y1
    refine Keeps.trans ?_ (Keeps.of (State.mpcCommit_keeps _) rfl)
    refine Keeps.trans ?_ (Keeps.of (State.timeMod_keeps _ _) rfl)
    exact Keeps.of (State.formAll_keeps _ _) rfl
  clear_value y1
  refine Keeps.ite ?_ ?_
  next =>
    split
    next =>
      extract_lets +onlyGivenNames y3
      have h4 : Keeps 67039222 s y3 := by
        unfold y3
        refine Keeps.trans ?_ (Keeps.of (State.redMod_keeps _ _) rfl)
        exact h2
      clear_value y3
      refine Keeps.ite ?_ ?_
      next =>
        refine Keeps.trans ?_ (Keeps.of (State.followFrame_keeps _ _) rfl)
        exact h4
      next =>
        exact h4
    next =>
      exact h2
  next =>
    extract_lets +onlyGivenNames y5
    have h6 : Keeps 67039222 s y5 := by
      unfold y5
      refine Keeps.trans ?_ (Keeps.of (State.ownInputs_keeps _) rfl)
      refine Keeps.trans ?_ (Keeps.of (State.conclude_keeps _ _) rfl)
      refine Keeps.trans ?_ (Keeps.of (State.holderJudge_keeps _) rfl)
      exact h2
    clear_value y5
    refine Keeps.ite ?_ ?_
    next =>
      refine Keeps.trans ?_ (Keeps.of (State.manifestSeal_keeps _) rfl)
      exact h6
    next =>
      exact h6

theorem State.catchUp_keeps (s) : Keeps 738127862 s (State.catchUp s) := by
  unfold State.catchUp
  split
  next =>
    exact Keeps.refl _
  next =>
    extract_lets +onlyGivenNames y0
    clear_value y0
    split
    next =>
      exact Keeps.refl _
    next =>
      refine Keeps.ite ?_ ?_
      next =>
        exact Keeps.refl _
      next =>
        extract_lets +onlyGivenNames y1
        have h2 : Keeps 738127862 s y1 := by
          unfold y1
          refine Keeps.trans ?_ (Keeps.of (State.timeMod_keeps _ _) rfl)
          refine Keeps.foldl ?_ ?_ _
          next =>
            exact Keeps.refl _
          next =>
            intro t3 x4
            exact Keeps.of (State.catchFrame_keeps _ _ _) rfl
        clear_value y1
        extract_lets +onlyGivenNames y5
        clear_value y5
        extract_lets +onlyGivenNames y6
        have h7 : Keeps 738127862 s y6 := by
          unfold y6
          refine Keeps.trans ?_ (Keeps.of (State.fset_keeps _ _ _) rfl)
          refine Keeps.trans ?_ (Keeps.of (State.redMod_keeps _ _) rfl)
          refine Keeps.trans ?_ (Keeps.of (State.redTurn_keeps _) rfl)
          exact h2
        clear_value y6
        extract_lets +onlyGivenNames y8
        have h9 : Keeps 738127862 s y8 := by
          unfold y8
          refine Keeps.ite ?_ ?_
          next =>
            refine Keeps.trans ?_ (Keeps.of (State.obsProp_keeps _) rfl)
            exact h7
          next =>
            exact h7
        clear_value y8
        extract_lets +onlyGivenNames y10
        have h11 : Keeps 738127862 s y10 := by
          unfold y10
          refine Keeps.trans ?_ (Keeps.of (State.fusBoundary_keeps _) rfl)
          refine Keeps.ite ?_ ?_
          next =>
            refine Keeps.trans ?_ (Keeps.of (State.tauTake_keeps _ _) rfl)
            exact h9
          next =>
            refine Keeps.trans ?_ (Keeps.of (State.obsForce_keeps _ _) rfl)
            exact h9
        clear_value y10
        extract_lets +onlyGivenNames y12
        have h13 : Keeps 738127862 s y12 := by
          unfold y12
          refine Keeps.ite ?_ ?_
          next =>
            refine Keeps.trans ?_ (Keeps.of (State.setQual_keeps _ _) rfl)
            refine Keeps.trans ?_ (Keeps.of (State.setRole_keeps _ _) rfl)
            exact h11
          next =>
            exact h11
        clear_value y12
        refine Keeps.ite ?_ ?_
        next =>
          refine Keeps.trans ?_ (Keeps.of (State.cutoffRun_keeps _) rfl)
          exact h13
        next =>
          exact h13

theorem State.cfgTimeout_keeps (s) : Keeps 512 s (State.cfgTimeout s) := by
  unfold State.cfgTimeout
  split
  next =>
    rename_i z0 z1 z2
    refine Keeps.ite ?_ ?_
    next => exact Keeps.of (State.cfgClose_keeps _) rfl
    next => exact Keeps.refl _
  next => rename_i z3 z4; exact Keeps.refl _

theorem State.chanPut_keeps (s v1 v2) : Keeps 67108928 s (State.chanPut s v1 v2) := by
  unfold State.chanPut
  refine Keeps.trans ?_ (Keeps.of (State.showTrack_keeps _) rfl)
  exact Keeps.of (State.gnsMod_keeps _ _) rfl

theorem State.chanAssign_keeps (s v1 v2) : Keeps 67108928 s (State.chanAssign s v1 v2) := by
  induction v1 generalizing s v2 with
  | nil => exact Keeps.refl s
  | cons n ns ih =>
    cases v2 with
    | nil => exact Keeps.refl s
    | cons p r => exact (Keeps.of (State.chanPut_keeps s n _) rfl).trans (ih _ _)

theorem State.allocAnt_keeps (s v1 v2) : Keeps 67108928 s (State.allocAnt s v1 v2) := by
  unfold State.allocAnt
  extract_lets +onlyGivenNames y0
  clear_value y0
  extract_lets +onlyGivenNames y1
  have h2 : Keeps 67108928 s y1 := by
    unfold y1
    refine Keeps.foldl ?_ ?_ _
    next =>
      exact Keeps.refl _
    next =>
      intro t3 x4
      refine Keeps.ite ?_ ?_
      next =>
        exact Keeps.refl _
      next =>
        exact Keeps.of (State.chanPut_keeps _ _ _) rfl
  clear_value y1
  extract_lets +onlyGivenNames y5
  clear_value y5
  extract_lets +onlyGivenNames y6
  clear_value y6
  extract_lets +onlyGivenNames y7
  clear_value y7
  extract_lets +onlyGivenNames y8
  clear_value y8
  extract_lets +onlyGivenNames y9
  clear_value y9
  extract_lets +onlyGivenNames y10
  clear_value y10
  extract_lets +onlyGivenNames y11
  clear_value y11
  extract_lets +onlyGivenNames y12
  have h13 : Keeps 67108928 s y12 := by
    unfold y12
    refine Keeps.trans ?_ (Keeps.of (State.chanAssign_keeps _ _ _) rfl)
    exact h2
  clear_value y12
  split
  next =>
    refine Keeps.trans ?_ (Keeps.of (State.gnsMod_keeps _ _) rfl)
    exact h13
  next =>
    exact h13

theorem State.chanAlloc_keeps (s v1 v2) : Keeps 67108928 s (State.chanAlloc s v1 v2) := by
  unfold State.chanAlloc
  extract_lets +onlyGivenNames y0
  clear_value y0
  refine Keeps.ite ?_ ?_
  next =>
    exact Keeps.refl _
  next =>
    extract_lets +onlyGivenNames y1
    have h2 : Keeps 67108928 s y1 := by
      unfold y1
      refine Keeps.foldl ?_ ?_ _
      next =>
        exact Keeps.refl _
      next =>
        intro t3 x4
        exact Keeps.of (State.fset_keeps _ _ _) rfl
    clear_value y1
    refine Keeps.trans ?_ (Keeps.of (State.allocAnt_keeps _ _ _) rfl)
    refine Keeps.trans ?_ (Keeps.of (State.allocAnt_keeps _ _ _) rfl)
    refine Keeps.trans ?_ (Keeps.of (State.gnsMod_keeps _ _) rfl)
    exact h2

theorem State.chanTimeout_keeps (s) : Keeps 67108928 s (State.chanTimeout s) := by
  unfold State.chanTimeout
  refine Keeps.foldl ?_ ?_ _
  next =>
    exact Keeps.refl _
  next =>
    intro t0 x1
    extract_lets +onlyGivenNames y2
    clear_value y2
    refine Keeps.ite ?_ ?_
    next =>
      exact Keeps.of (State.chanPut_keeps _ _ _) rfl
    next =>
      exact Keeps.refl _

theorem State.ydSupply_keeps (s v1) : Keeps 4294967296 s (State.ydSupply s v1) := by
  unfold State.ydSupply
  refine Keeps.ite ?_ ?_
  next => exact Keeps.refl _
  next => exact Keeps.of (State.ydPut_keeps _ _ _) rfl

theorem State.clockSecond_keeps (s v1) : Keeps 4311744576 s (State.clockSecond s v1) := by
  unfold State.clockSecond
  refine Keeps.ite ?_ ?_
  next => exact Keeps.refl _
  next =>
    refine Keeps.trans ?_ (Keeps.of (State.ydSupply_keeps _ _) rfl)
    refine Keeps.trans ?_ (Keeps.of (State.redMod_keeps _ _) rfl)
    exact Keeps.of (State.finc_keeps _ _) rfl

theorem State.intake_keeps (s) : Keeps 4294901758 s (State.intake s) := by
  unfold State.intake
  extract_lets +onlyGivenNames y0
  clear_value y0
  refine Keeps.ite ?_ ?_
  next => exact Keeps.refl _
  next =>
    extract_lets +onlyGivenNames y1
    clear_value y1
    extract_lets +onlyGivenNames y2
    clear_value y2
    extract_lets +onlyGivenNames y3
    clear_value y3
    extract_lets +onlyGivenNames y4
    have h5 : Keeps 4294901758 s y4 := by unfold y4; exact Keeps.of (State.fset_keeps _ _ _) rfl
    clear_value y4
    extract_lets +onlyGivenNames y6
    clear_value y6
    extract_lets +onlyGivenNames y7
    clear_value y7
    extract_lets +onlyGivenNames y8
    clear_value y8
    refine Keeps.ite ?_ ?_
    next =>
      refine Keeps.trans ?_ (Keeps.of (State.pump_keeps _) rfl)
      refine Keeps.trans ?_ (Keeps.of (State.take_keeps _ _ _ _) rfl)
      exact h5
    next =>
      extract_lets +onlyGivenNames y9
      clear_value y9
      refine Keeps.trans ?_ (Keeps.of (State.respond_keeps _ _ _ _ _) rfl)
      refine Keeps.trans ?_ (Keeps.of (State.stage_keeps _ _ _ _) rfl)
      refine Keeps.trans ?_ (Keeps.of (State.fset_keeps _ _ _) rfl)
      exact h5

theorem State.noteSent_keeps (s v1 v2 v3) : Keeps 4194304 s (State.noteSent s v1 v2 v3) := by
  unfold State.noteSent
  split
  next => rename_i z0 z1 z2; exact Keeps.of (State.allocPut_keeps _ _) rfl
  next => rename_i z3 z4; exact Keeps.refl _

theorem State.obsPayload_keeps (s v1 v2) : Keeps 20971520 s (State.obsPayload s v1 v2) := by
  unfold State.obsPayload
  refine Keeps.foldl ?_ ?_ _
  next =>
    exact Keeps.of (State.noteSent_keeps _ _ _ _) rfl
  next =>
    intro t0 x1
    split
    next =>
      exact Keeps.refl _
    next =>
      extract_lets +onlyGivenNames y2
      clear_value y2
      extract_lets +onlyGivenNames y3
      have h4 : Keeps 20971520 t0 y3 := by
        unfold y3
        exact Keeps.of (State.redMod_keeps _ _) rfl
      clear_value y3
      refine Keeps.upd_slv rfl (b := y3) ?_ _
      exact h4

theorem State.noteSeq_keeps (s v1 v2) : Keeps 8388672 s (State.noteSeq s v1 v2) := by
  unfold State.noteSeq
  extract_lets +onlyGivenNames y0
  clear_value y0
  extract_lets +onlyGivenNames y1
  clear_value y1
  extract_lets +onlyGivenNames y2
  clear_value y2
  extract_lets +onlyGivenNames y3
  have h4 : Keeps 8388672 s y3 := by unfold y3; exact Keeps.upd_net rfl (Keeps.refl _) _
  clear_value y3
  refine Keeps.ite ?_ ?_
  next => refine Keeps.trans ?_ (Keeps.of (State.finc_keeps _ _) rfl); exact h4
  next => exact h4

theorem State.pduIn_keeps (s v1 v2 v3) : Keeps 8388672 s (State.pduIn s v1 v2 v3).1 := by
  unfold State.pduIn
  extract_lets +onlyGivenNames y0
  clear_value y0
  refine Keeps.ite1 ?_ ?_
  next =>
    refine Keeps.mk1 ?_
    exact Keeps.refl _
  next =>
    refine Keeps.ite1 ?_ ?_
    next =>
      refine Keeps.mk1 ?_
      exact Keeps.of (State.finc_keeps _ _) rfl
    next =>
      split
      next =>
        refine Keeps.mk1 ?_
        exact Keeps.of (State.finc_keeps _ _) rfl
      next =>
        refine Keeps.mk1 ?_
        exact Keeps.of (State.finc_keeps _ _) rfl
      next =>
        refine Keeps.ite1 ?_ ?_
        next =>
          refine Keeps.mk1 ?_
          exact Keeps.refl _
        next =>
          refine Keeps.ite1 ?_ ?_
          next =>
            refine Keeps.mk1 ?_
            exact Keeps.of (State.noteSeq_keeps _ _ _) rfl
          next =>
            extract_lets +onlyGivenNames y1
            clear_value y1
            extract_lets +onlyGivenNames y2
            clear_value y2
            extract_lets +onlyGivenNames y3
            have h4 : Keeps 8388672 s y3 := by
              unfold y3
              refine Keeps.upd_net rfl ?_ _
              exact Keeps.refl _
            clear_value y3
            refine Keeps.ite1 ?_ ?_
            next =>
              refine Keeps.mk1 ?_
              refine Keeps.trans ?_ (Keeps.of (State.finc_keeps _ _) rfl)
              exact h4
            next =>
              extract_lets +onlyGivenNames y5
              clear_value y5
              extract_lets +onlyGivenNames y6
              have h7 : Keeps 8388672 s y6 := by
                unfold y6
                refine Keeps.upd_net rfl (b := y3) ?_ _
                exact h4
              clear_value y6
              refine Keeps.mk1 ?_
              refine Keeps.trans ?_ (Keeps.of (State.noteSeq_keeps _ _ _) rfl)
              exact h7

theorem State.stagePdu_keeps (s v1 v2) : Keeps 131136 s (State.stagePdu s v1 v2) := by
  unfold State.stagePdu
  refine Keeps.ite ?_ ?_
  next => exact Keeps.of (State.stage_keeps _ _ _ _) rfl
  next => exact Keeps.refl _

theorem State.commandRx_keeps (s v1 v2) : Keeps 29499456 s (State.commandRx s v1 v2) := by
  unfold State.commandRx
  split
  next =>
    rename_i z0 z1
    have k2 : Keeps 29499456 s z0 := by
      refine Keeps.fst z1 ?_
      exact Keeps.of (State.pduIn_keeps _ _ _ _) rfl
    exact k2
  next =>
    rename_i z3 z4 z5
    have k6 : Keeps 29499456 s z3 := by
      refine Keeps.fst z5 ?_
      exact Keeps.of (State.pduIn_keeps _ _ _ _) rfl
    extract_lets +onlyGivenNames y7
    have h8 : Keeps 29499456 s y7 := by
      unfold y7
      refine Keeps.trans ?_ (Keeps.of (State.noteEpoch_keeps _ _) rfl)
      refine Keeps.trans ?_ (Keeps.of (State.stagePdu_keeps _ _ _) rfl)
      exact k6
    clear_value y7
    refine Keeps.ite ?_ ?_
    next =>
      exact h8
    next =>
      extract_lets +onlyGivenNames y9
      clear_value y9
      refine Keeps.trans ?_ (Keeps.of (State.obsPayload_keeps _ _ _) rfl)
      refine Keeps.trans ?_ (Keeps.of (State.redMod_keeps _ _) rfl)
      exact h8

theorem State.lawNote_keeps (s) : Keeps 16777216 s (State.lawNote s) := by
  unfold State.lawNote
  exact Keeps.of (State.redMod_keeps _ _) rfl

theorem State.controlPhase_keeps (s) : Keeps 19302594 s (State.controlPhase s) := by
  unfold State.controlPhase
  refine Keeps.ite ?_ ?_
  next =>
    refine Keeps.trans ?_ (State.onInputs_keeps rfl _ _ ?_)
    next =>
      exact Keeps.of (State.lawNote_keeps _) rfl
    next =>
      intro t0
      exact Keeps.of (State.controlLaw_keeps _) rfl
  next =>
    exact Keeps.refl _

theorem State.ctrlStatusSend_keeps (s) : Keeps 8388610 s (State.ctrlStatusSend s) := by
  unfold State.ctrlStatusSend
  refine Keeps.ite ?_ ?_
  next => exact Keeps.of (State.pierSend_keeps _ _ _ _) rfl
  next => exact Keeps.refl _

theorem State.crackMeasure_keeps (s v1) : Keeps 2147649730 s (State.crackMeasure s v1) := by
  unfold State.crackMeasure
  refine Keeps.ite ?_ ?_
  next => exact Keeps.refl _
  next =>
    extract_lets +onlyGivenNames y0
    clear_value y0
    extract_lets +onlyGivenNames y1
    have h2 : Keeps 2147649730 s y1 := by unfold y1; exact Keeps.of (State.fset_keeps _ _ _) rfl
    clear_value y1
    extract_lets +onlyGivenNames y3
    have h4 : ∀ a0, Keeps 2147649730 a0 (y3 a0) := by
      intro t5
      unfold y3
      refine Keeps.ite ?_ ?_
      next => exact Keeps.refl _
      next =>
        refine Keeps.trans ?_ (Keeps.of (State.alarm_keeps _ _ _ _ _) rfl)
        refine Keeps.trans ?_ (Keeps.of (State.pnlStop_keeps _) rfl)
        exact Keeps.of (State.pnlMod_keeps _ _) rfl
    clear_value y3
    split
    next =>
      rename_i z6 z7
      refine Keeps.trans ?_ (Keeps.of (State.showPnl_keeps _) rfl)
      refine Keeps.trans ?_ (h4 _)
      exact h2
    next =>
      rename_i z8 z9 z10 z11
      refine Keeps.trans ?_ (Keeps.of (State.showPnl_keeps _) rfl)
      refine Keeps.trans ?_ (Keeps.of (State.fset_keeps _ _ _) rfl)
      refine Keeps.trans ?_ (Keeps.of (State.pnlMod_keeps _ _) rfl)
      exact h2
    next =>
      rename_i z12 z13 z14 z15 z16
      extract_lets +onlyGivenNames y17
      clear_value y17
      extract_lets +onlyGivenNames y18
      clear_value y18
      extract_lets +onlyGivenNames y19
      have h20 : Keeps 2147649730 s y19 := by
        unfold y19
        refine Keeps.trans ?_ (Keeps.of (State.pnlMod_keeps _ _) rfl)
        exact h2
      clear_value y19
      refine Keeps.trans ?_ (Keeps.of (State.showPnl_keeps _) rfl)
      refine Keeps.ite ?_ ?_
      next => refine Keeps.trans ?_ (h4 _); exact h20
      next => exact h20

theorem State.sf2Count_keeps (s v1 v2) : Keeps 64 s (State.sf2Count s v1 v2).1 := by
  unfold State.sf2Count
  extract_lets +onlyGivenNames y0
  clear_value y0
  extract_lets +onlyGivenNames y1
  clear_value y1
  dsimp only
  exact Keeps.of (State.fset_keeps _ _ _) rfl

theorem State.sf2Run_keeps (s) : Keeps 1132636402 s (State.sf2Run s) := by
  unfold State.sf2Run
  refine Keeps.ite ?_ ?_
  next =>
    exact Keeps.refl _
  next =>
    extract_lets +onlyGivenNames y0
    clear_value y0
    extract_lets +onlyGivenNames y1
    clear_value y1
    extract_lets +onlyGivenNames y2
    have h3 : Keeps 1132636402 s y2 := by
      unfold y2
      exact Keeps.of (State.safMod_keeps _ _) rfl
    clear_value y2
    extract_lets +onlyGivenNames y4
    have h5 : Keeps 1132636402 s y4 := by
      unfold y4
      refine Keeps.trans ?_ (Keeps.of (State.fset_keeps _ _ _) rfl)
      refine Keeps.trans ?_ (Keeps.of (State.fset_keeps _ _ _) rfl)
      exact h3
    clear_value y4
    extract_lets +onlyGivenNames y6
    have h7 : Keeps 1132636402 s y6 := by
      unfold y6
      refine Keeps.trans ?_ (Keeps.of (State.fput_keeps _ _ _) rfl)
      refine Keeps.trans ?_ (Keeps.of (State.alarmLevel_keeps _ _ _ _ _) rfl)
      exact h5
    clear_value y6
    split
    rename_i z8 z9 z10
    have k11 : Keeps 1132636402 s z8 := by
      refine Keeps.fst z10 ?_
      refine Keeps.trans ?_ (Keeps.of (State.sf2Count_keeps _ _ _) rfl)
      exact h7
    split
    rename_i z12 z13 z14
    have k15 : Keeps 1132636402 s z12 := by
      refine Keeps.fst z14 ?_
      refine Keeps.trans ?_ (Keeps.of (State.sf2Count_keeps _ _ _) rfl)
      exact k11
    split
    rename_i z16 z17 z18
    have k19 : Keeps 1132636402 s z16 := by
      refine Keeps.fst z18 ?_
      refine Keeps.trans ?_ (Keeps.of (State.sf2Count_keeps _ _ _) rfl)
      exact k15
    extract_lets +onlyGivenNames y20
    clear_value y20
    extract_lets +onlyGivenNames y21
    have h22 : ∀ x23 x24 x25, Keeps 1132636402 x23 (y21 x23 x24 x25) := by
      intro x23 x24 x25
      unfold y21
      refine Keeps.ite ?_ ?_
      next =>
        exact Keeps.of (State.trip_keeps _ _ _ _ _ _) rfl
      next =>
        exact Keeps.refl _
    clear_value y21
    refine Keeps.trans ?_ (h22 _ _ _)
    refine Keeps.trans ?_ (h22 _ _ _)
    refine Keeps.trans ?_ (h22 _ _ _)
    exact k19

theorem State.slotsClose_keeps (s) : Keeps 4194372 s (State.slotsClose s) := by
  unfold State.slotsClose
  split
  next =>
    exact Keeps.refl _
  next =>
    refine Keeps.ite ?_ ?_
    next =>
      exact Keeps.refl _
    next =>
      extract_lets +onlyGivenNames y0
      have h1 : Keeps 4194372 s y0 := by
        unfold y0
        exact Keeps.of (State.allocPut_keeps _ _) rfl
      clear_value y0
      extract_lets +onlyGivenNames y2
      have h3 : Keeps 4194372 s y2 := by
        unfold y2
        refine Keeps.foldl ?_ ?_ _
        next =>
          exact h1
        next =>
          intro t4 x5
          split
          next =>
            refine Keeps.trans ?_ (Keeps.of (State.tick1_keeps _) rfl)
            exact Keeps.of (State.slotStop_keeps _ _ _ _ _) rfl
          next =>
            exact Keeps.refl _
      clear_value y2
      exact h3

theorem State.slotsNotRun_keeps (s) : Keeps 64 s (State.slotsNotRun s) := by
  unfold State.slotsNotRun
  split
  next =>
    exact Keeps.refl _
  next =>
    refine Keeps.ite ?_ ?_
    next =>
      exact Keeps.of (State.fup_keeps _ _) rfl
    next =>
      exact Keeps.refl _

theorem State.crossCheck_keeps (s v1) : Keeps 1136830710 s (State.crossCheck s v1) := by
  unfold State.crossCheck
  refine Keeps.ite ?_ ?_
  next =>
    exact Keeps.refl _
  next =>
    extract_lets +onlyGivenNames y0
    have h1 : Keeps 1136830710 s y0 := by
      unfold y0
      refine Keeps.trans ?_ (Keeps.of (State.sf2Run_keeps _) rfl)
      refine Keeps.trans ?_ (Keeps.of (State.slotsNotRun_keeps _) rfl)
      exact Keeps.of (State.slotsClose_keeps _) rfl
    clear_value y0
    split
    next =>
      exact h1
    next =>
      refine Keeps.ite ?_ ?_
      next =>
        exact h1
      next =>
        extract_lets +onlyGivenNames y2
        clear_value y2
        refine Keeps.foldl ?_ ?_ _
        next =>
          exact h1
        next =>
          intro t3 x4
          refine Keeps.ite ?_ ?_
          next =>
            exact Keeps.of (State.safMod_keeps _ _) rfl
          next =>
            exact Keeps.refl _

theorem State.d0Drop_keeps (s) : Keeps 4096 s (State.d0Drop s) := by
  unfold State.d0Drop
  refine Keeps.ite ?_ ?_
  next => exact Keeps.of (State.sysMod_keeps _ _) rfl
  next => exact Keeps.refl _

theorem State.sentDeliver_keeps (s v1 v2 v3) : Keeps 977094 s (State.sentDeliver s v1 v2 v3) := by
  unfold State.sentDeliver
  extract_lets +onlyGivenNames y0
  clear_value y0
  extract_lets +onlyGivenNames y1
  clear_value y1
  refine Keeps.ite ?_ ?_
  next => exact Keeps.refl _
  next => exact Keeps.of (State.deliver_keeps _ _ _ _) rfl

theorem State.sent450_keeps (s v1 v2 v3 v4) : Keeps 977094 s (State.sent450 s v1 v2 v3 v4) := by
  unfold State.sent450
  split
  next => rename_i z0 z1; exact Keeps.of (State.finc_keeps _ _) rfl
  next =>
    rename_i z2 z3
    refine Keeps.foldl ?_ ?_ _
    next => exact Keeps.of (State.finc_keeps _ _) rfl
    next => intro t4 x5; exact Keeps.of (State.sentDeliver_keeps _ _ _ _) rfl

theorem State.line450_keeps (s v1 v2 v3) : Keeps 9365702 s (State.line450 s v1 v2 v3) := by
  unfold State.line450
  split
  next => rename_i z0 z1; exact Keeps.of (State.finc_keeps _ _) rfl
  next =>
    rename_i z2 z3 z4
    split
    next => rename_i z5 z6; exact Keeps.of (State.sent450_keeps _ _ _ _ _) rfl
    next =>
      rename_i z7 z8 z9 z10 z11
      extract_lets +onlyGivenNames y12
      clear_value y12
      extract_lets +onlyGivenNames y13
      clear_value y13
      extract_lets +onlyGivenNames y14
      clear_value y14
      extract_lets +onlyGivenNames y15
      clear_value y15
      refine Keeps.ite ?_ ?_
      next => refine Keeps.trans ?_ (Keeps.of (State.finc_keeps _ _) rfl); exact Keeps.upd_net rfl (Keeps.refl _) _
      next =>
        extract_lets +onlyGivenNames y16
        clear_value y16
        refine Keeps.ite ?_ ?_
        next =>
          refine Keeps.foldl ?_ ?_ _
          next => exact Keeps.upd_net rfl (Keeps.refl _) _
          next => intro t17 x18; exact Keeps.of (State.sent450_keeps _ _ _ _ _) rfl
        next => exact Keeps.upd_net rfl (Keeps.refl _) _

theorem State.rx450_keeps (s v1 v2 v3 v4) : Keeps 9365702 s (State.rx450 s v1 v2 v3 v4) := by
  unfold State.rx450
  refine Keeps.ite ?_ ?_
  next =>
    exact Keeps.refl _
  next =>
    split
    next =>
      exact Keeps.refl _
    next =>
      refine Keeps.ite ?_ ?_
      next =>
        exact Keeps.of (State.finc_keeps _ _) rfl
      next =>
        extract_lets +onlyGivenNames y0
        clear_value y0
        refine Keeps.ite ?_ ?_
        next =>
          exact Keeps.of (State.finc_keeps _ _) rfl
        next =>
          extract_lets +onlyGivenNames y1
          clear_value y1
          extract_lets +onlyGivenNames y2
          clear_value y2
          extract_lets +onlyGivenNames y3
          clear_value y3
          extract_lets +onlyGivenNames y4
          have h5 : Keeps 9365702 s y4 := by
            unfold y4
            refine Keeps.foldl ?_ ?_ _
            next =>
              exact Keeps.refl _
            next =>
              intro t6 x7
              refine Keeps.trans ?_ (Keeps.of (State.finc_keeps _ _) rfl)
              refine Keeps.upd_net rfl ?_ _
              exact Keeps.refl _
          clear_value y4
          extract_lets +onlyGivenNames y8
          clear_value y8
          refine Keeps.foldl ?_ ?_ _
          next =>
            exact h5
          next =>
            intro t9 x10
            exact Keeps.of (State.line450_keeps _ _ _ _) rfl

theorem State.ptpOut_keeps (s v1 v2 v3 v4 v5 v6 v7 v8 v9) : Keeps 2 s (State.ptpOut s v1 v2 v3 v4 v5 v6 v7 v8 v9) := by
  unfold State.ptpOut
  exact Keeps.of (State.send_keeps _ _ _) rfl

theorem State.delayReq_keeps (s v1) : Keeps 2 s (State.delayReq s v1) := by
  unfold State.delayReq
  split
  next =>
    exact Keeps.refl _
  next =>
    extract_lets +onlyGivenNames y0
    clear_value y0
    refine Keeps.ite ?_ ?_
    next =>
      exact Keeps.refl _
    next =>
      refine Keeps.ite ?_ ?_
      next =>
        refine Keeps.ite ?_ ?_
        next =>
          refine Keeps.trans ?_ (Keeps.of (State.ptpOut_keeps _ _ _ _ _ _ _ _ _ _) rfl)
          exact Keeps.of (State.ptpOut_keeps _ _ _ _ _ _ _ _ _ _) rfl
        next =>
          exact Keeps.refl _
      next =>
        refine Keeps.ite ?_ ?_
        next =>
          exact Keeps.of (State.ptpOut_keeps _ _ _ _ _ _ _ _ _ _) rfl
        next =>
          exact Keeps.refl _

theorem State.delayRx_keeps (s v1) : Keeps 8388672 s (State.delayRx s v1) := by
  unfold State.delayRx
  split
  next =>
    exact Keeps.refl _
  next =>
    extract_lets +onlyGivenNames y0
    clear_value y0
    extract_lets +onlyGivenNames y1
    clear_value y1
    split
    next =>
      exact Keeps.refl _
    next =>
      refine Keeps.ite ?_ ?_
      next =>
        exact Keeps.refl _
      next =>
        extract_lets +onlyGivenNames y2
        clear_value y2
        extract_lets +onlyGivenNames y3
        clear_value y3
        refine Keeps.ite ?_ ?_
        next =>
          extract_lets +onlyGivenNames y4
          clear_value y4
          exact Keeps.of (State.domPut_keeps _ _ _) rfl
        next =>
          refine Keeps.trans ?_ (Keeps.of (State.finc_keeps _ _) rfl)
          exact Keeps.of (State.domPut_keeps _ _ _) rfl

theorem State.pwrPending_keeps (s) : Keeps 4135493342 s (State.pwrPending s) := by
  unfold State.pwrPending
  split
  next => rename_i z0 z1 z2; exact Keeps.of (State.pwrEnter_keeps _ _) rfl
  next => rename_i z3 z4; exact Keeps.refl _

theorem State.storeWaiting_keeps (s) : Keeps 167622 s (State.storeWaiting s) := by
  unfold State.storeWaiting
  refine Keeps.ite ?_ ?_
  next => exact Keeps.refl _
  next => refine Keeps.trans ?_ (Keeps.of (State.storeObjs_keeps _ _) rfl); exact Keeps.upd_flash rfl (Keeps.refl _) _

theorem State.ydSaveTry_keeps (s) : Keeps 4294968324 s (State.ydSaveTry s) := by
  unfold State.ydSaveTry
  split
  next => rename_i z0 z1; exact Keeps.refl _
  next =>
    rename_i z2 z3 z4
    refine Keeps.ite ?_ ?_
    next => exact Keeps.refl _
    next =>
      split
      rename_i z5 z6 z7 z8
      have k9 : Keeps 4294968324 s z6 := by refine Keeps.fst z8 ?_; exact Keeps.of (State.flashTry_keeps _) rfl
      extract_lets +onlyGivenNames y10
      have h11 : Keeps 4294968324 s y10 := by
        unfold y10
        refine Keeps.trans ?_ (Keeps.of (State.ydMod_keeps _ _) rfl)
        exact k9
      clear_value y10
      refine Keeps.ite ?_ ?_
      next => refine Keeps.upd_flash rfl (b := y10) ?_ _; exact h11
      next => refine Keeps.trans ?_ (Keeps.of (State.ydAlarm_keeps _ _) rfl); exact h11

theorem State.railBack_keeps (s v1 v2 v3) : Keeps 4311916230 s (State.railBack s v1 v2 v3) := by
  unfold State.railBack
  refine Keeps.ite ?_ ?_
  next =>
    exact Keeps.refl _
  next =>
    extract_lets +onlyGivenNames y0
    have h1 : Keeps 4311916230 s y0 := by
      unfold y0
      refine Keeps.trans ?_ (Keeps.of (State.redMod_keeps _ _) rfl)
      refine Keeps.trans ?_ (Keeps.of (State.sysMod_keeps _ _) rfl)
      exact Keeps.of (State.noteMv_keeps _ _ _ _) rfl
    clear_value y0
    refine Keeps.ite ?_ ?_
    next =>
      exact h1
    next =>
      extract_lets +onlyGivenNames y2
      have h3 : Keeps 4311916230 s y2 := by
        unfold y2
        refine Keeps.ite ?_ ?_
        next =>
          refine Keeps.trans ?_ (Keeps.of (State.sysMod_keeps _ _) rfl)
          exact h1
        next =>
          exact h1
      clear_value y2
      refine Keeps.ite ?_ ?_
      next =>
        exact h3
      next =>
        extract_lets +onlyGivenNames y4
        clear_value y4
        extract_lets +onlyGivenNames y5
        clear_value y5
        extract_lets +onlyGivenNames y6
        have h7 : Keeps 4311916230 s y6 := by
          unfold y6
          refine Keeps.trans ?_ (Keeps.of (State.sysMod_keeps _ _) rfl)
          refine Keeps.trans ?_ (Keeps.of (State.fset_keeps _ _ _) rfl)
          refine Keeps.trans ?_ (Keeps.of (State.fset_keeps _ _ _) rfl)
          refine Keeps.trans ?_ (Keeps.of (State.finc_keeps _ _) rfl)
          exact h3
        clear_value y6
        refine Keeps.trans ?_ (Keeps.of (State.showPnl_keeps _) rfl)
        refine Keeps.trans ?_ (Keeps.of (State.ydSaveTry_keeps _) rfl)
        refine Keeps.trans ?_ (Keeps.of (State.storeWaiting_keeps _) rfl)
        refine Keeps.trans ?_ (Keeps.of (State.ydSupply_keeps _ _) rfl)
        refine Keeps.trans ?_ (Keeps.of (State.event_keeps _ _ _ _ _) rfl)
        exact h7

theorem State.dipBack_keeps (s v1 v2 v3) : Keeps 8589869054 s (State.dipBack s v1 v2 v3) := by
  unfold State.dipBack
  extract_lets +onlyGivenNames y0
  have h1 : Keeps 8589869054 s y0 := by unfold y0; exact Keeps.of (State.railBack_keeps _ _ _ _) rfl
  clear_value y0
  refine Keeps.ite ?_ ?_
  next =>
    refine Keeps.trans ?_ (Keeps.of (State.pump_keeps _) rfl)
    refine Keeps.trans ?_ (Keeps.of (State.pwrPending_keeps _) rfl)
    exact h1
  next => exact h1

theorem State.discTimeout_keeps (s) : Keeps 33720514 s (State.discTimeout s) := by
  unfold State.discTimeout
  refine Keeps.foldl ?_ ?_ _
  next => exact Keeps.refl _
  next =>
    intro t0 x1
    split
    next =>
      rename_i z2 z3 z4
      refine Keeps.ite ?_ ?_
      next =>
        refine Keeps.trans ?_ (Keeps.of (State.alarm_keeps _ _ _ _ _) rfl)
        refine Keeps.trans ?_ (Keeps.of (State.fset_keeps _ _ _) rfl)
        exact Keeps.of (State.safMod_keeps _ _) rfl
      next => exact Keeps.refl _
    next => rename_i z5 z6; exact Keeps.refl _

theorem State.dispatchRun_keeps (s v1) : Keeps 46270658 s (State.dispatchRun s v1) := by
  unfold State.dispatchRun
  split
  next => rename_i z0 z1; exact Keeps.refl _
  next =>
    rename_i z2 z3 z4
    extract_lets +onlyGivenNames y5
    clear_value y5
    extract_lets +onlyGivenNames y6
    clear_value y6
    extract_lets +onlyGivenNames y7
    clear_value y7
    extract_lets +onlyGivenNames y8
    clear_value y8
    extract_lets +onlyGivenNames y9
    clear_value y9
    extract_lets +onlyGivenNames y10
    clear_value y10
    extract_lets +onlyGivenNames y11
    clear_value y11
    extract_lets +onlyGivenNames y12
    clear_value y12
    extract_lets +onlyGivenNames y13
    have h14 : Keeps 46270658 s y13 := by
      unfold y13
      refine Keeps.trans ?_ (Keeps.of (State.allocPut_keeps _ _) rfl)
      exact Keeps.of (State.cmdSend_keeps _ _ _ _ _) rfl
    clear_value y13
    extract_lets +onlyGivenNames y15
    have h16 : Keeps 46270658 s y15 := by
      unfold y15
      refine Keeps.trans ?_ (Keeps.of (State.stage_keeps _ _ _ _) rfl)
      refine Keeps.trans ?_ (Keeps.of (State.slvMod_keeps _ _) rfl)
      exact h14
    clear_value y15
    refine Keeps.ite ?_ ?_
    next => refine Keeps.trans ?_ (Keeps.of (State.promoNote_keeps _ _ _ _) rfl); exact h16
    next =>
      refine Keeps.ite ?_ ?_
      next => refine Keeps.trans ?_ (Keeps.of (State.promoMiss_keeps _) rfl); exact h16
      next => exact h16

end Sys2Proof.Machine
end

