-- ==== Sys2Proof/Laws/Keeps7.lean ====
section
/-!
SUPPORT. Operations keep what `Keeps` says, callees before callers: part 7 of 10.
-/

namespace Sys2Proof.Machine

theorem State.dispatch_keeps (s) : Keeps 46270658 s (State.dispatch s) := by
  unfold State.dispatch
  split
  next =>
    rename_i z0 z1 z2
    refine Keeps.ite ?_ ?_
    next => exact Keeps.of (State.dispatchRun_keeps _ _) rfl
    next => exact Keeps.refl _
  next => rename_i z3 z4; exact Keeps.refl _

theorem State.lgcResume_keeps (s v1) : Keeps 537036994 s (State.lgcResume s v1) := by
  unfold State.lgcResume
  extract_lets +onlyGivenNames y0
  clear_value y0
  refine Keeps.trans ?_ (Keeps.of (State.lgcRuns_keeps _) rfl)
  exact Keeps.of (State.lgcMod_keeps _ _) rfl

theorem State.lgcRestore_keeps (s) : Keeps 537036994 s (State.lgcRestore s) := by
  unfold State.lgcRestore
  refine Keeps.ite ?_ ?_
  next =>
    refine Keeps.trans ?_ (Keeps.of (State.lgcHalt_keeps _) rfl)
    exact Keeps.of (State.lgcResume_keeps _ _) rfl
  next =>
    exact Keeps.refl _

theorem State.setDom_keeps (s v1 v2) : Keeps 4096 s (State.setDom s v1 v2) := by
  unfold State.setDom
  exact Keeps.of (State.sysMod_keeps _ _) rfl

theorem State.restoreDom_keeps (s v1) : Keeps 604149954 s (State.restoreDom s v1) := by
  unfold State.restoreDom
  extract_lets +onlyGivenNames y0
  have h1 : Keeps 604149954 s y0 := by
    unfold y0
    refine Keeps.trans ?_ (Keeps.of (State.fset_keeps _ _ _) rfl)
    refine Keeps.trans ?_ (Keeps.of (State.sysMod_keeps _ _) rfl)
    exact Keeps.of (State.setDom_keeps _ _ _) rfl
  clear_value y0
  split
  next => rename_i z2; refine Keeps.trans ?_ (Keeps.of (State.showPnl_keeps _) rfl); exact h1
  next => rename_i z3; refine Keeps.trans ?_ (Keeps.of (State.tpCheck_keeps _) rfl); exact h1
  next => rename_i z4; refine Keeps.trans ?_ (Keeps.of (State.lgcRestore_keeps _) rfl); exact h1
  next => rename_i z5 z6 z7 z8; exact h1

theorem State.restoreDue_keeps (s) : Keeps 604149954 s (State.restoreDue s) := by
  unfold State.restoreDue
  refine Keeps.ite ?_ ?_
  next => exact Keeps.refl _
  next =>
    extract_lets +onlyGivenNames y0
    have h1 : Keeps 604149954 s y0 := by
      unfold y0
      refine Keeps.foldl ?_ ?_ _
      next => exact Keeps.refl _
      next =>
        intro t2 x3
        refine Keeps.ite ?_ ?_
        next => exact Keeps.of (State.restoreDom_keeps _ _) rfl
        next => exact Keeps.refl _
    clear_value y0
    refine Keeps.ite ?_ ?_
    next =>
      refine Keeps.trans ?_ (Keeps.of (State.sysMod_keeps _ _) rfl)
      refine Keeps.trans ?_ (Keeps.of (State.clearAlarmD_keeps _ _ _ _ _) rfl)
      exact h1
    next => exact h1

theorem State.ydGnssOff_keeps (s) : Keeps 4294967296 s (State.ydGnssOff s) := by
  unfold State.ydGnssOff
  refine Keeps.ite ?_ ?_
  next => exact Keeps.refl _
  next => refine Keeps.trans ?_ (Keeps.of (State.ydPut_keeps _ _ _) rfl); exact Keeps.of (State.ydMod_keeps _ _) rfl

theorem State.shedFx_keeps (s v1) : Keeps 7046596802 s (State.shedFx s v1) := by
  unfold State.shedFx
  split
  next => rename_i z0; exact Keeps.of (State.pnlStop_keeps _) rfl
  next =>
    rename_i z1
    refine Keeps.trans ?_ (Keeps.of (State.ydGnssOff_keeps _) rfl)
    exact Keeps.of (State.tpCheck_keeps _) rfl
  next => rename_i z2; exact Keeps.of (State.lgcShed_keeps _) rfl
  next => rename_i z3 z4 z5 z6; exact Keeps.refl _

theorem State.shedDom_keeps (s v1) : Keeps 7046600898 s (State.shedDom s v1) := by
  unfold State.shedDom
  refine Keeps.ite ?_ ?_
  next => exact Keeps.refl _
  next =>
    extract_lets +onlyGivenNames y0
    clear_value y0
    extract_lets +onlyGivenNames y1
    have h2 : Keeps 7046600898 s y1 := by
      unfold y1
      refine Keeps.trans ?_ (Keeps.of (State.sysMod_keeps _ _) rfl)
      exact Keeps.of (State.setDom_keeps _ _ _) rfl
    clear_value y1
    extract_lets +onlyGivenNames y3
    have h4 : Keeps 7046600898 s y3 := by
      unfold y3
      refine Keeps.trans ?_ (Keeps.of (State.fset_keeps _ _ _) rfl)
      refine Keeps.trans ?_ (Keeps.of (State.finc_keeps _ _) rfl)
      exact h2
    clear_value y3
    extract_lets +onlyGivenNames y5
    have h6 : Keeps 7046600898 s y5 := by
      unfold y5
      refine Keeps.ite ?_ ?_
      next => refine Keeps.trans ?_ (Keeps.of (State.event_keeps _ _ _ _ _) rfl); exact h4
      next => refine Keeps.trans ?_ (Keeps.of (State.alarmD_keeps _ _ _ _ _) rfl); exact h4
    clear_value y5
    refine Keeps.trans ?_ (Keeps.of (State.shedFx_keeps _ _) rfl)
    exact h6

theorem State.shedDue_keeps (s) : Keeps 7046600898 s (State.shedDue s) := by
  unfold State.shedDue
  refine Keeps.ite ?_ ?_
  next => exact Keeps.refl _
  next =>
    refine Keeps.foldl ?_ ?_ _
    next => exact Keeps.refl _
    next =>
      intro t0 x1
      refine Keeps.ite ?_ ?_
      next => exact Keeps.of (State.shedDom_keeps _ _) rfl
      next => exact Keeps.refl _

theorem State.pnlClear_keeps (s) : Keeps 2147483648 s (State.pnlClear s) := by
  unfold State.pnlClear
  exact Keeps.of (State.pnlMod_keeps _ _) rfl

theorem State.drstD1_keeps (s) : Keeps 3817061362 s (State.drstD1 s) := by
  unfold State.drstD1
  refine Keeps.trans ?_ (Keeps.of (State.trip_keeps _ _ _ _ _ _) rfl)
  refine Keeps.trans ?_ (Keeps.of (State.safMod_keeps _ _) rfl)
  refine Keeps.trans ?_ (Keeps.of (State.setChan_keeps _ _ _) rfl)
  refine Keeps.trans ?_ (Keeps.of (State.sysMod_keeps _ _) rfl)
  refine Keeps.trans ?_ (Keeps.of (State.pnlClear_keeps _) rfl)
  refine (Keeps.of (State.closeSess_keeps s) rfl).trans ?_
  generalize s.closeSess = s0
  refine ⟨fun w => ?_, rfl⟩
  simp only [State.storesWf, Bool.and_eq_true] at w
  simp only [State.storesWf, Bool.and_eq_true]
  exact ⟨⟨w.1.1, filter_wf _ _ w.1.2⟩, rfl⟩

theorem State.lgcStored_keeps (s) : Keeps 536870912 s (State.lgcStored s) := by
  unfold State.lgcStored
  exact Keeps.of (State.lgcMod_keeps _ _) rfl

theorem State.drstRun_keeps (s v1) : Keeps 8453880822 s (State.drstRun s v1) := by
  unfold State.drstRun
  extract_lets +onlyGivenNames y0
  have h1 : Keeps 8453880822 s y0 := by
    unfold y0
    refine Keeps.trans ?_ (Keeps.of (State.closeSess_keeps _) rfl)
    refine Keeps.trans ?_ (Keeps.of (State.fset_keeps _ _ _) rfl)
    exact Keeps.of (State.fset_keeps _ _ _) rfl
  clear_value y0
  split
  next =>
    refine Keeps.trans ?_ (Keeps.of (State.drstD1_keeps _) rfl)
    exact h1
  next =>
    refine Keeps.trans ?_ (Keeps.of (State.trip_keeps _ _ _ _ _ _) rfl)
    exact h1
  next =>
    refine Keeps.foldl ?_ ?_ _
    next =>
      exact h1
    next =>
      intro t2 x3
      exact Keeps.of (State.engRetire_keeps _ _) rfl
  next =>
    refine Keeps.trans ?_ (Keeps.of (State.poisonDrop_keeps _ _) rfl)
    refine Keeps.foldl ?_ ?_ _
    next =>
      exact h1
    next =>
      intro t4 x5
      exact Keeps.of (State.engRetire_keeps _ _) rfl
  next =>
    refine Keeps.trans ?_ (Keeps.of (State.poisonDrop_keeps _ _) rfl)
    refine Keeps.foldl ?_ ?_ _
    next =>
      exact h1
    next =>
      intro t6 x7
      exact Keeps.of (State.engRetire_keeps _ _) rfl
  next =>
    refine Keeps.trans ?_ (Keeps.of (State.lgcStored_keeps _) rfl)
    refine Keeps.foldl ?_ ?_ _
    next =>
      exact h1
    next =>
      intro t8 x9
      exact Keeps.of (State.engRetire_keeps _ _) rfl
  next =>
    refine Keeps.foldl ?_ ?_ _
    next =>
      refine Keeps.trans ?_ (Keeps.of (State.engRetire_keeps _ _) rfl)
      exact h1
    next =>
      intro t10 x11
      exact Keeps.of (State.sdfStop_keeps _ _) rfl
  next =>
    refine Keeps.trans ?_ (Keeps.of (State.tpCheck_keeps _) rfl)
    refine Keeps.trans ?_ (Keeps.of (State.engRetire_keeps _ _) rfl)
    exact h1
  next =>
    refine Keeps.trans ?_ (Keeps.of (State.pnlStop_keeps _) rfl)
    exact h1
  next =>
    exact h1

theorem State.drst_keeps (s) : Keeps 8453880822 s (State.drst s) := by
  unfold State.drst
  split
  next =>
    rename_i z0 z1 z2
    extract_lets +onlyGivenNames y3
    have h4 : Keeps 8453880822 s y3 := by unfold y3; exact Keeps.of (State.sysMod_keeps _ _) rfl
    clear_value y3
    refine Keeps.ite ?_ ?_
    next => exact Keeps.refl _
    next =>
      refine Keeps.ite ?_ ?_
      next => exact h4
      next => refine Keeps.trans ?_ (Keeps.of (State.drstRun_keeps _ _) rfl); exact h4
  next => rename_i z5 z6; exact Keeps.refl _

theorem State.poisonPut_keeps (s v1) : Keeps 5970782454 s (State.poisonPut s v1) := by
  unfold State.poisonPut
  refine Keeps.trans ?_ (Keeps.of (State.poisonSlv_keeps _) rfl)
  refine Keeps.upd_dia rfl ?_ _ rfl
  exact Keeps.refl _

theorem State.recBad_keeps (s v1) : Keeps 1073873024 s (State.recBad s v1) := by
  unfold State.recBad
  refine Keeps.ite ?_ ?_
  next =>
    refine Keeps.upd_dia rfl ?_ _ rfl
    exact Keeps.refl _
  next =>
    refine Keeps.ite ?_ ?_
    next =>
      exact Keeps.of (State.recMod_keeps _ _) rfl
    next =>
      split
      next =>
        extract_lets +onlyGivenNames y0
        clear_value y0
        exact Keeps.of (State.wrB_keeps _ _ _ _) rfl
      next =>
        exact Keeps.refl _

theorem State.trialFail_keeps (s) : Keeps 9280 s (State.trialFail s) := by
  unfold State.trialFail
  extract_lets +onlyGivenNames y0
  clear_value y0
  extract_lets +onlyGivenNames y1
  clear_value y1
  extract_lets +onlyGivenNames y2
  clear_value y2
  refine Keeps.trans ?_ (Keeps.of (State.ledger_keeps _ _ _) rfl)
  exact Keeps.upd_flash rfl (Keeps.refl _) _

theorem State.wdr_keeps (s) : Keeps 8589934584 s (State.wdr s) := by
  unfold State.wdr
  refine Keeps.ite ?_ ?_
  next => exact Keeps.refl _
  next =>
    extract_lets +onlyGivenNames y0
    clear_value y0
    extract_lets +onlyGivenNames y1
    have h2 : Keeps 8589934584 s y1 := by
      unfold y1
      refine Keeps.trans ?_ (Keeps.of (State.sysMod_keeps _ _) rfl)
      refine Keeps.trans ?_ (Keeps.of (State.finc_keeps _ _) rfl)
      exact Keeps.of (State.restart_keeps _ _) rfl
    clear_value y1
    refine Keeps.ite ?_ ?_
    next => refine Keeps.trans ?_ (Keeps.of (State.trialFail_keeps _) rfl); exact h2
    next => exact h2

theorem State.eccBad_keeps (s v1 v2) : Keeps 8589934590 s (State.eccBad s v1 v2) := by
  unfold State.eccBad
  refine Keeps.ite ?_ ?_
  next =>
    exact Keeps.refl _
  next =>
    extract_lets +onlyGivenNames y0
    have h1 : Keeps 8589934590 s y0 := by
      unfold y0
      refine Keeps.ite ?_ ?_
      next =>
        exact Keeps.of (State.recBad_keeps _ _) rfl
      next =>
        exact Keeps.refl _
    clear_value y0
    extract_lets +onlyGivenNames y2
    have h3 : Keeps 8589934590 s y2 := by
      unfold y2
      refine Keeps.trans ?_ (Keeps.of (State.ledger_keeps _ _ _) rfl)
      refine Keeps.trans ?_ (Keeps.of (State.alarm_keeps _ _ _ _ _) rfl)
      exact h1
    clear_value y2
    split
    next =>
      refine Keeps.trans ?_ (Keeps.of (State.poisonPut_keeps _ _) rfl)
      exact h3
    next =>
      refine Keeps.trans ?_ (Keeps.of (State.poisonPut_keeps _ _) rfl)
      exact h3
    next =>
      refine Keeps.ite ?_ ?_
      next =>
        refine Keeps.trans ?_ (Keeps.of (State.ptWrite_keeps _ _ _ _ _) rfl)
        exact h3
      next =>
        exact h3
    next =>
      refine Keeps.trans ?_ (Keeps.of (State.engRetire_keeps _ _) rfl)
      exact h3
    next =>
      refine Keeps.trans ?_ (Keeps.of (State.wdr_keeps _) rfl)
      exact h3
    next =>
      refine Keeps.trans ?_ (Keeps.of (State.channelFault_keeps _ _ _) rfl)
      exact h3
    next =>
      exact h3

theorem State.engError_keeps (s v1 v2) : Keeps 5970782454 s (State.engError s v1 v2) := by
  unfold State.engError
  refine Keeps.ite ?_ ?_
  next => exact Keeps.refl _
  next =>
    refine Keeps.ite ?_ ?_
    next => exact Keeps.of (State.engRetire_keeps _ _) rfl
    next =>
      refine Keeps.ite ?_ ?_
      next => exact Keeps.refl _
      next =>
        split
        rename_i z0 z1 z2 z3
        have k4 : Keeps 5970782454 s z1 := by refine Keeps.fst z3 ?_; exact Keeps.of (State.fltErr_keeps _ _ _) rfl
        refine Keeps.ite ?_ ?_
        next => refine Keeps.trans ?_ (Keeps.of (State.engOut_keeps _ _) rfl); exact k4
        next => exact k4

theorem State.testSlice_keeps (s v1) : Keeps 5970782454 s (State.testSlice s v1) := by
  unfold State.testSlice
  extract_lets +onlyGivenNames y0
  clear_value y0
  extract_lets +onlyGivenNames y1
  clear_value y1
  extract_lets +onlyGivenNames y2
  clear_value y2
  split
  next => rename_i z3 z4; exact Keeps.refl _
  next =>
    rename_i z5 z6 z7
    refine Keeps.ite ?_ ?_
    next => exact Keeps.refl _
    next =>
      extract_lets +onlyGivenNames y8
      have h9 : Keeps 5970782454 s y8 := by unfold y8; exact Keeps.of (State.redMod_keeps _ _) rfl
      clear_value y8
      refine Keeps.ite ?_ ?_
      next => refine Keeps.trans ?_ (Keeps.of (State.redMod_keeps _ _) rfl); exact h9
      next => refine Keeps.trans ?_ (Keeps.of (State.engRetire_keeps _ _) rfl); exact h9

theorem State.spiFault_keeps (s) : Keeps 133314 s (State.spiFault s) := by
  unfold State.spiFault
  refine Keeps.trans ?_ (Keeps.of (State.hostErr_keeps _ _) rfl)
  exact Keeps.upd_hif rfl (Keeps.refl _) _

theorem State.rdFxAt_keeps (s v1) : Keeps 1140863040 s (State.rdFxAt s v1) := by
  unfold State.rdFxAt
  refine Keeps.ite ?_ ?_
  next => exact Keeps.of (State.readFx_keeps _ _) rfl
  next => exact Keeps.refl _

theorem State.hostBytes_keeps (s v1 v2) : Keeps 1140863040 s (State.hostBytes s v1 v2).1 := by
  induction v2 generalizing s v1 with
  | zero => exact Keeps.refl s
  | succ n ih =>
    simp only [State.hostBytes]
    refine Keeps.trans ?_ (ih _ _)
    exact Keeps.ite (Keeps.of (State.rdFxAt_keeps s _) rfl) (Keeps.refl s)

theorem State.spiReadAt_keeps (s v1 v2) : Keeps 1140996290 s (State.spiReadAt s v1 v2) := by
  unfold State.spiReadAt
  refine Keeps.ite ?_ ?_
  next =>
    exact Keeps.of (State.spiFault_keeps _) rfl
  next =>
    split
    rename_i z0 z1 z2
    have k3 : Keeps 1140996290 s z0 := by
      refine Keeps.fst z2 ?_
      exact Keeps.of (State.hostBytes_keeps _ _ _) rfl
    extract_lets +onlyGivenNames y4
    have h5 : Keeps 1140996290 s y4 := by
      unfold y4
      refine Keeps.trans ?_ (Keeps.of (State.send_keeps _ _ _) rfl)
      exact k3
    clear_value y4
    extract_lets +onlyGivenNames y6
    clear_value y6
    extract_lets +onlyGivenNames y7
    have h8 : Keeps 1140996290 s y7 := by
      unfold y7
      refine Keeps.ite ?_ ?_
      next =>
        refine Keeps.trans ?_ (Keeps.of (State.hostErr_keeps _ _) rfl)
        refine Keeps.upd_hif rfl (b := y4) ?_ _
        exact h5
      next =>
        exact h5
    clear_value y7
    refine Keeps.ite ?_ ?_
    next =>
      refine Keeps.trans ?_ (Keeps.of (State.spiFault_keeps _) rfl)
      exact h8
    next =>
      exact h8

theorem State.sramWr_keeps (s v1 v2) : Keeps 133314 s (State.sramWr s v1 v2) := by
  unfold State.sramWr
  extract_lets +onlyGivenNames y0
  clear_value y0
  refine Keeps.ite ?_ ?_
  next =>
    exact Keeps.of (State.wrB_keeps _ _ _ _) rfl
  next =>
    exact Keeps.of (State.hostErr_keeps _ _) rfl

theorem State.hostStore_keeps (s v1 v2) : Keeps 1603714046 s (State.hostStore s v1 v2) := by
  unfold State.hostStore
  refine Keeps.ite ?_ ?_
  next =>
    refine Keeps.ite ?_ ?_
    next =>
      refine Keeps.ite ?_ ?_
      next => exact Keeps.of (State.wrB_keeps _ _ _ _) rfl
      next =>
        refine Keeps.trans ?_ (Keeps.of (State.hostErr_keeps _ _) rfl)
        exact Keeps.of (State.wrB_keeps _ _ _ _) rfl
    next =>
      refine Keeps.ite ?_ ?_
      next => exact Keeps.of (State.hostErr_keeps _ _) rfl
      next =>
        refine Keeps.ite ?_ ?_
        next => exact Keeps.of (State.regWrite_keeps _ _ _) rfl
        next => exact Keeps.of (State.hostErr_keeps _ _) rfl
  next =>
    refine Keeps.ite ?_ ?_
    next => exact Keeps.of (State.sramWr_keeps _ _ _) rfl
    next => exact Keeps.of (State.hostErr_keeps _ _) rfl

theorem State.storeWords_keeps (s v1 v2) : Keeps 1603714046 s (State.storeWords s v1 v2) := by
  induction v2 generalizing s v1 with
  | nil => exact Keeps.refl s
  | cons w ws ih => exact (Keeps.of (State.hostStore_keeps s _ w) rfl).trans (ih _ _)

theorem State.spiWriteAt_keeps (s v1 v2) : Keeps 1603714046 s (State.spiWriteAt s v1 v2) := by
  unfold State.spiWriteAt
  refine Keeps.ite ?_ ?_
  next => exact Keeps.of (State.spiFault_keeps _) rfl
  next =>
    extract_lets +onlyGivenNames y0
    clear_value y0
    extract_lets +onlyGivenNames y1
    have h2 : Keeps 1603714046 s y1 := by unfold y1; exact Keeps.of (State.storeWords_keeps _ _ _) rfl
    clear_value y1
    refine Keeps.ite ?_ ?_
    next => refine Keeps.trans ?_ (Keeps.of (State.spiFault_keeps _) rfl); exact h2
    next => exact h2

theorem State.spiRun_keeps (s v1 v2) : Keeps 1603714046 s (State.spiRun s v1 v2) := by
  unfold State.spiRun
  extract_lets +onlyGivenNames y0
  clear_value y0
  refine Keeps.ite ?_ ?_
  next => exact Keeps.upd_hif rfl (Keeps.refl _) _
  next =>
    refine Keeps.ite ?_ ?_
    next => exact Keeps.upd_hif rfl (Keeps.refl _) _
    next =>
      refine Keeps.ite ?_ ?_
      next => refine Keeps.trans ?_ (Keeps.of (State.send_keeps _ _ _) rfl); exact Keeps.upd_hif rfl (Keeps.refl _) _
      next =>
        refine Keeps.ite ?_ ?_
        next =>
          extract_lets +onlyGivenNames y1
          clear_value y1
          refine Keeps.ite ?_ ?_
          next => exact Keeps.of (State.spiReadAt_keeps _ _ _) rfl
          next => exact Keeps.of (State.spiWriteAt_keeps _ _ _) rfl
        next => exact Keeps.of (State.spiFault_keeps _) rfl

theorem State.spiTrans_keeps (s v1 v2 v3) : Keeps 1603714046 s (State.spiTrans s v1 v2 v3) := by
  unfold State.spiTrans
  refine Keeps.ite ?_ ?_
  next => exact Keeps.refl _
  next =>
    refine Keeps.ite ?_ ?_
    next => exact Keeps.of (State.spiRun_keeps _ _ _) rfl
    next =>
      refine Keeps.ite ?_ ?_
      next =>
        refine Keeps.ite ?_ ?_
        next => exact Keeps.of (State.spiRun_keeps _ _ _) rfl
        next => exact Keeps.of (State.spiFault_keeps _) rfl
      next =>
        extract_lets +onlyGivenNames y0
        clear_value y0
        refine Keeps.ite ?_ ?_
        next => exact Keeps.of (State.spiFault_keeps _) rfl
        next => exact Keeps.of (State.spiRun_keeps _ _ _) rfl

theorem State.estPair_keeps (s v1 v2 v3) : Keeps 1132636402 s (State.estPair s v1 v2 v3) := by
  unfold State.estPair
  split
  rename_i z0 z1 z2 z3
  extract_lets +onlyGivenNames y4
  clear_value y4
  refine Keeps.ite ?_ ?_
  next => exact Keeps.refl _
  next =>
    extract_lets +onlyGivenNames y5
    have h6 : ∀ a0 a1 a2 a3, Keeps 1132636402 a0 (y5 a0 a1 a2 a3) := by
      intro t7 t8 t9 t10
      unfold y5
      refine Keeps.ite ?_ ?_
      next => exact Keeps.of (State.trip_keeps _ _ _ _ _ _) rfl
      next => exact Keeps.refl _
    clear_value y5
    extract_lets +onlyGivenNames y11
    have h12 : Keeps 1132636402 s y11 := by
      unfold y11
      refine Keeps.trans ?_ (h6 _ _ _ _)
      refine Keeps.trans ?_ (h6 _ _ _ _)
      exact Keeps.refl _
    clear_value y11
    split
    rename_i z13 z14 z15 z16
    extract_lets +onlyGivenNames y17
    clear_value y17
    extract_lets +onlyGivenNames y18
    clear_value y18
    extract_lets +onlyGivenNames y19
    clear_value y19
    extract_lets +onlyGivenNames y20
    clear_value y20
    extract_lets +onlyGivenNames y21
    clear_value y21
    extract_lets +onlyGivenNames y22
    clear_value y22
    extract_lets +onlyGivenNames y23
    have h24 : Keeps 1132636402 s y23 := by
      unfold y23
      refine Keeps.trans ?_ (Keeps.of (State.safMod_keeps _ _) rfl)
      exact h12
    clear_value y23
    extract_lets +onlyGivenNames y25
    have h26 : Keeps 1132636402 s y25 := by
      unfold y25
      refine Keeps.trans ?_ (Keeps.of (State.fset_keeps _ _ _) rfl)
      exact h24
    clear_value y25
    extract_lets +onlyGivenNames y27
    clear_value y27
    refine Keeps.ite ?_ ?_
    next =>
      refine Keeps.trans ?_ (Keeps.of (State.clearAlarm_keeps _ _ _ _) rfl)
      refine Keeps.trans ?_ (Keeps.of (State.fset_keeps _ _ _) rfl)
      refine Keeps.trans ?_ (Keeps.of (State.safMod_keeps _ _) rfl)
      exact h26
    next => exact h26

theorem State.rstPair_keeps (s v1 v2) : Keeps 33554432 s (State.rstPair s v1 v2) := by
  unfold State.rstPair
  split
  rename_i z0 z1 z2 z3
  extract_lets +onlyGivenNames y4
  clear_value y4
  extract_lets +onlyGivenNames y5
  clear_value y5
  exact Keeps.of (State.safMod_keeps _ _) rfl

theorem State.estopChange_keeps (s v1 v2 v3 v4) : Keeps 1132636402 s (State.estopChange s v1 v2 v3 v4) := by
  unfold State.estopChange
  split
  rename_i z0 z1 z2 z3
  split
  rename_i z4 z5 z6 z7
  extract_lets +onlyGivenNames y8
  have h9 : Keeps 1132636402 s y8 := by
    unfold y8
    refine Keeps.trans ?_ (Keeps.of (State.fput_keeps _ _ _) rfl)
    refine Keeps.trans ?_ (Keeps.of (State.fput_keeps _ _ _) rfl)
    refine Keeps.trans ?_ (Keeps.of (State.fset_keeps _ _ _) rfl)
    exact Keeps.of (State.fset_keeps _ _ _) rfl
  clear_value y8
  refine Keeps.trans ?_ (Keeps.of (State.rstPair_keeps _ _ _) rfl)
  refine Keeps.foldl ?_ ?_ _
  next => exact h9
  next => intro t10 x11; exact Keeps.of (State.estPair_keeps _ _ _ _) rfl

theorem State.handback_keeps (s) : Keeps 50505970 s (State.handback s) := by
  unfold State.handback
  split
  next =>
    rename_i z0 z1 z2 z3
    refine Keeps.ite ?_ ?_
    next => exact Keeps.refl _
    next =>
      refine Keeps.ite ?_ ?_
      next =>
        extract_lets +onlyGivenNames y4
        have h5 : Keeps 50505970 s y4 := by
          unfold y4
          refine Keeps.trans ?_ (Keeps.of (State.fset_keeps _ _ _) rfl)
          exact Keeps.of (State.takeEpoch_keeps _) rfl
        clear_value y4
        refine Keeps.trans ?_ (Keeps.of (State.redMod_keeps _ _) rfl)
        refine Keeps.trans ?_ (Keeps.of (State.event_keeps _ _ _ _ _) rfl)
        refine Keeps.trans ?_ (Keeps.of (State.fup_keeps _ _) rfl)
        exact h5
      next =>
        refine Keeps.ite ?_ ?_
        next =>
          refine Keeps.trans ?_ (Keeps.of (State.redMod_keeps _ _) rfl)
          refine Keeps.trans ?_ (Keeps.of (State.clearAlarm_keeps _ _ _ _) rfl)
          refine Keeps.trans ?_ (Keeps.of (State.fup_keeps _ _) rfl)
          exact Keeps.of (State.setRole_keeps _ _) rfl
        next => exact Keeps.refl _
  next => rename_i z6 z7; exact Keeps.refl _

theorem State.imgCapture_keeps (s) : Keeps 25165826 s (State.imgCapture s) := by
  unfold State.imgCapture
  split
  next =>
    exact Keeps.refl _
  next =>
    refine Keeps.ite ?_ ?_
    next =>
      exact Keeps.refl _
    next =>
      extract_lets +onlyGivenNames y0
      clear_value y0
      extract_lets +onlyGivenNames y1
      clear_value y1
      extract_lets +onlyGivenNames y2
      clear_value y2
      extract_lets +onlyGivenNames y3
      clear_value y3
      extract_lets +onlyGivenNames y4
      have h5 : Keeps 25165826 s y4 := by
        unfold y4
        refine Keeps.foldl ?_ ?_ _
        next =>
          exact Keeps.refl _
        next =>
          intro t6 x7
          extract_lets +onlyGivenNames y8
          clear_value y8
          refine Keeps.trans ?_ (Keeps.of (State.seqUp_keeps _ _) rfl)
          refine Keeps.foldl ?_ ?_ _
          next =>
            exact Keeps.refl _
          next =>
            intro t9 x10
            exact Keeps.of (State.send_keeps _ _ _) rfl
      clear_value y4
      refine Keeps.trans ?_ (Keeps.of (State.redMod_keeps _ _) rfl)
      exact h5

theorem State.spanPut_keeps (s v1 v2) : Keeps 16777280 s (State.spanPut s v1 v2) := by
  unfold State.spanPut
  extract_lets +onlyGivenNames y0
  have h1 : Keeps 16777280 s y0 := by unfold y0; exact Keeps.of (State.redMod_keeps _ _) rfl
  clear_value y0
  refine Keeps.ite ?_ ?_
  next => refine Keeps.trans ?_ (Keeps.of (State.fput_keeps _ _ _) rfl); exact h1
  next => refine Keeps.trans ?_ (Keeps.of (State.fput_keeps _ _ _) rfl); exact h1

theorem State.leaseSend_keeps (s v1) : Keeps 25165890 s (State.leaseSend s v1) := by
  unfold State.leaseSend
  extract_lets +onlyGivenNames y0
  clear_value y0
  extract_lets +onlyGivenNames y1
  clear_value y1
  extract_lets +onlyGivenNames y2
  clear_value y2
  extract_lets +onlyGivenNames y3
  have h4 : Keeps 25165890 s y3 := by
    unfold y3
    refine Keeps.foldl ?_ ?_ _
    next =>
      exact Keeps.refl _
    next =>
      intro t5 x6
      exact Keeps.of (State.send_keeps _ _ _) rfl
  clear_value y3
  extract_lets +onlyGivenNames y7
  have h8 : Keeps 25165890 s y7 := by
    unfold y7
    refine Keeps.foldl ?_ ?_ _
    next =>
      exact h4
    next =>
      intro t9 x10
      extract_lets +onlyGivenNames y11
      clear_value y11
      extract_lets +onlyGivenNames y12
      have h13 : Keeps 25165890 t9 y12 := by
        unfold y12
        exact Keeps.of (State.send_keeps _ _ _) rfl
      clear_value y12
      refine Keeps.trans ?_ (Keeps.of (State.spanPut_keeps _ _ _) rfl)
      exact h13
  clear_value y7
  extract_lets +onlyGivenNames y14
  have h15 : Keeps 25165890 s y14 := by
    unfold y14
    refine Keeps.trans ?_ (Keeps.of (State.fset_keeps _ _ _) rfl)
    refine Keeps.trans ?_ (Keeps.of (State.seqUp_keeps _ _) rfl)
    exact h8
  clear_value y14
  refine Keeps.trans ?_ (Keeps.of (State.redMod_keeps _ _) rfl)
  refine Keeps.trans ?_ (Keeps.of (State.fset_keeps _ _ _) rfl)
  exact h15

theorem State.readyReq_keeps (s) : Keeps 16777216 s (State.readyReq s) := by
  unfold State.readyReq
  extract_lets +onlyGivenNames y0
  clear_value y0
  extract_lets +onlyGivenNames y1
  clear_value y1
  refine Keeps.ite ?_ ?_
  next => exact Keeps.of (State.reqImage_keeps _) rfl
  next => exact Keeps.refl _

theorem State.holderLinks_keeps (s) : Keeps 166082 s (State.holderLinks s) := by
  unfold State.holderLinks
  refine Keeps.ite ?_ ?_
  next => exact Keeps.refl _
  next =>
    extract_lets +onlyGivenNames y0
    clear_value y0
    extract_lets +onlyGivenNames y1
    clear_value y1
    extract_lets +onlyGivenNames y2
    have h3 : ∀ a0 a1 a2 a3, Keeps 166082 a0 (y2 a0 a1 a2 a3) := by
      intro t4 t5 t6 t7
      unfold y2
      refine Keeps.trans ?_ (Keeps.of (State.fput_keeps _ _ _) rfl)
      exact Keeps.of (State.alarmLevel_keeps _ _ _ _ _) rfl
    clear_value y2
    refine Keeps.trans ?_ (h3 _ _ _ _)
    refine Keeps.trans ?_ (h3 _ _ _ _)
    refine Keeps.trans ?_ (h3 _ _ _ _)
    exact Keeps.refl _

theorem State.takeOver_keeps (s) : Keeps 50505970 s (State.takeOver s) := by
  unfold State.takeOver
  extract_lets +onlyGivenNames y0
  clear_value y0
  extract_lets +onlyGivenNames y1
  have h2 : Keeps 50505970 s y1 := by
    unfold y1
    refine Keeps.trans ?_ (Keeps.of (State.holderLinks_keeps _) rfl)
    refine Keeps.trans ?_ (Keeps.of (State.setRole_keeps _ _) rfl)
    exact Keeps.of (State.takeEpoch_keeps _) rfl
  clear_value y1
  extract_lets +onlyGivenNames y3
  clear_value y3
  extract_lets +onlyGivenNames y4
  have h5 : Keeps 50505970 s y4 := by
    unfold y4
    refine Keeps.trans ?_ (Keeps.of (State.redMod_keeps _ _) rfl)
    refine Keeps.trans ?_ (Keeps.of (State.finc_keeps _ _) rfl)
    refine Keeps.trans ?_ (Keeps.of (State.fup_keeps _ _) rfl)
    refine Keeps.trans ?_ (Keeps.of (State.fset_keeps _ _ _) rfl)
    exact h2
  clear_value y4
  extract_lets +onlyGivenNames y6
  clear_value y6
  refine Keeps.trans ?_ (Keeps.of (State.ledger_keeps _ _ _) rfl)
  refine Keeps.trans ?_ (Keeps.of (State.event_keeps _ _ _ _ _) rfl)
  exact h5

theorem State.transferExec_keeps (s) : Keeps 50505970 s (State.transferExec s) := by
  unfold State.transferExec
  split
  next =>
    refine Keeps.ite ?_ ?_
    next =>
      exact Keeps.refl _
    next =>
      refine Keeps.ite ?_ ?_
      next =>
        refine Keeps.trans ?_ (Keeps.of (State.redMod_keeps _ _) rfl)
        refine Keeps.trans ?_ (Keeps.of (State.setEpoch_keeps _ _ _) rfl)
        refine Keeps.trans ?_ (Keeps.of (State.noteEpoch_keeps _ _) rfl)
        exact Keeps.of (State.setRole_keeps _ _) rfl
      next =>
        refine Keeps.ite ?_ ?_
        next =>
          exact Keeps.of (State.takeOver_keeps _) rfl
        next =>
          exact Keeps.of (State.redMod_keeps _ _) rfl
  next =>
    exact Keeps.refl _

theorem State.boundaryNet_keeps (s) : Keeps 58894578 s (State.boundaryNet s) := by
  unfold State.boundaryNet
  refine Keeps.ite ?_ ?_
  next =>
    extract_lets +onlyGivenNames y0
    have h1 : Keeps 58894578 s y0 := by
      unfold y0
      refine Keeps.ite ?_ ?_
      next =>
        refine Keeps.trans ?_ (Keeps.of (State.handback_keeps _) rfl)
        exact Keeps.of (State.transferExec_keeps _) rfl
      next =>
        exact Keeps.refl _
    clear_value y0
    refine Keeps.trans ?_ (Keeps.of (State.readyReq_keeps _) rfl)
    refine Keeps.trans ?_ (Keeps.of (State.imgCapture_keeps _) rfl)
    refine Keeps.trans ?_ (Keeps.of (State.leaseSend_keeps _ _) rfl)
    exact h1
  next =>
    exact Keeps.refl _

theorem State.canCapture_keeps (s) : Keeps 134217792 s (State.canCapture s) := by
  unfold State.canCapture
  extract_lets +onlyGivenNames y0
  clear_value y0
  extract_lets +onlyGivenNames y1
  clear_value y1
  extract_lets +onlyGivenNames y2
  have h3 : Keeps 134217792 s y2 := by unfold y2; exact Keeps.upd_can rfl (Keeps.refl _) _
  clear_value y2
  refine Keeps.trans ?_ (Keeps.of (State.fset_keeps _ _ _) rfl)
  refine Keeps.trans ?_ (Keeps.of (State.fset_keeps _ _ _) rfl)
  refine Keeps.trans ?_ (Keeps.of (State.fset_keeps _ _ _) rfl)
  refine Keeps.trans ?_ (Keeps.of (State.fset_keeps _ _ _) rfl)
  exact h3

theorem State.commitLoad_keeps (s) : Keeps 1607904242 s (State.commitLoad s) := by
  unfold State.commitLoad
  split
  next => rename_i z0 z1; exact Keeps.refl _
  next =>
    rename_i z2 z3 z4
    extract_lets +onlyGivenNames y5
    have h6 : Keeps 1607904242 s y5 := by unfold y5; exact Keeps.of (State.configLoad_keeps _ _ _ _) rfl
    clear_value y5
    refine Keeps.trans ?_ (Keeps.of (State.stage_keeps _ _ _ _) rfl)
    exact h6

theorem State.diaLoad_keeps (s) : Keeps 65536 s (State.diaLoad s) := by
  unfold State.diaLoad
  exact Keeps.upd_diaF rfl (Keeps.refl _) _

theorem State.cePlace_keeps (s) : Keeps 133314 s (State.cePlace s) := by
  unfold State.cePlace
  split
  split
  next =>
    refine Keeps.trans ?_ (Keeps.of (State.fset_keeps _ _ _) rfl)
    refine Keeps.trans ?_ (Keeps.of (State.fset_keeps _ _ _) rfl)
    refine Keeps.trans ?_ (Keeps.of (State.fset_keeps _ _ _) rfl)
    exact Keeps.of (State.fset_keeps _ _ _) rfl
  next =>
    split
    extract_lets +onlyGivenNames y0
    have h1 : Keeps 133314 s y0 := by
      unfold y0
      refine Keeps.trans ?_ (Keeps.of (State.fset_keeps _ _ _) rfl)
      refine Keeps.trans ?_ (Keeps.of (State.fset_keeps _ _ _) rfl)
      exact Keeps.of (State.fset_keeps _ _ _) rfl
    clear_value y0
    extract_lets +onlyGivenNames y2
    have h3 : Keeps 133314 s y2 := by
      unfold y2
      split
      next =>
        refine Keeps.trans ?_ (Keeps.of (State.fup_keeps _ _) rfl)
        refine Keeps.trans ?_ (Keeps.of (State.fset_keeps _ _ _) rfl)
        exact h1
      next =>
        refine Keeps.trans ?_ (Keeps.of (State.fset_keeps _ _ _) rfl)
        exact h1
    clear_value y2
    refine Keeps.ite ?_ ?_
    next =>
      refine Keeps.trans ?_ (Keeps.of (State.event_keeps _ _ _ _ _) rfl)
      refine Keeps.trans ?_ (Keeps.of (State.fup_keeps _ _) rfl)
      exact h3
    next =>
      exact h3
  next =>
    exact Keeps.refl _

theorem State.engReturn_keeps (s v1 v2) : Keeps 2279618 s (State.engReturn s v1 v2) := by
  unfold State.engReturn
  extract_lets +onlyGivenNames y0
  have h1 : Keeps 2279618 s y0 := by
    unfold y0
    refine Keeps.trans ?_ (Keeps.of (State.showRet_keeps _ _ _ _) rfl)
    exact Keeps.of (State.fltPut_keeps _ _ _ _) rfl
  clear_value y0
  refine Keeps.ite ?_ ?_
  next =>
    extract_lets +onlyGivenNames y2
    have h3 : Keeps 2279618 s y2 := by
      unfold y2
      refine Keeps.trans ?_ (Keeps.of (State.retCleared_keeps _ _ _) rfl)
      refine Keeps.trans ?_ (Keeps.of (State.fset_keeps _ _ _) rfl)
      exact h1
    clear_value y2
    refine Keeps.ite ?_ ?_
    next =>
      refine Keeps.trans ?_ (Keeps.of (State.cePlace_keeps _) rfl)
      exact h3
    next =>
      refine Keeps.trans ?_ (Keeps.of (State.cexMod_keeps _ _) rfl)
      exact h3
  next =>
    refine Keeps.trans ?_ (Keeps.of (State.retCleared_keeps _ _ _) rfl)
    exact h1

theorem State.engBoundary_keeps (s) : Keeps 2279634 s (State.engBoundary s) := by
  unfold State.engBoundary
  extract_lets +onlyGivenNames y0
  clear_value y0
  extract_lets +onlyGivenNames y1
  have h2 : Keeps 2279634 s y1 := by
    unfold y1
    refine Keeps.foldl ?_ ?_ _
    next =>
      exact Keeps.of (State.cexMod_keeps _ _) rfl
    next =>
      intro t3 x4
      exact Keeps.of (State.engReturn_keeps _ _ _) rfl
  clear_value y1
  refine Keeps.ite ?_ ?_
  next =>
    exact h2
  next =>
    extract_lets +onlyGivenNames y5
    have h6 : Keeps 2279634 s y5 := by
      unfold y5
      refine Keeps.ite ?_ ?_
      next =>
        refine Keeps.trans ?_ (Keeps.of (State.cePlace_keeps _) rfl)
        refine Keeps.trans ?_ (Keeps.of (State.cexMod_keeps _ _) rfl)
        exact h2
      next =>
        exact h2
    clear_value y5
    extract_lets +onlyGivenNames y7
    have h8 : Keeps 2279634 s y7 := by
      unfold y7
      refine Keeps.trans ?_ (Keeps.of (State.fput_keeps _ _ _) rfl)
      exact h6
    clear_value y7
    extract_lets +onlyGivenNames y9
    have h10 : Keeps 2279634 s y9 := by
      unfold y9
      refine Keeps.ite ?_ ?_
      next =>
        exact h8
      next =>
        refine Keeps.upd_op rfl (b := y7) ?_ _
        exact h8
    clear_value y9
    refine Keeps.trans ?_ (Keeps.of (State.alarmLevel_keeps _ _ _ _ _) rfl)
    exact h10

theorem State.scenDone_keeps (s) : Keeps 4360386 s (State.scenDone s) := by
  unfold State.scenDone
  split
  next =>
    split
    next =>
      extract_lets +onlyGivenNames y0
      have h1 : Keeps 4360386 s y0 := by
        unfold y0
        refine Keeps.trans ?_ (Keeps.of (State.fset_keeps _ _ _) rfl)
        refine Keeps.trans ?_ (Keeps.of (State.fset_keeps _ _ _) rfl)
        exact Keeps.of (State.slvMod_keeps _ _) rfl
      clear_value y0
      refine Keeps.ite ?_ ?_
      next =>
        exact h1
      next =>
        split
        next =>
          refine Keeps.trans ?_ (Keeps.of (State.capLow_keeps _) rfl)
          refine Keeps.trans ?_ (Keeps.of (State.capPut_keeps _ _ _ _) rfl)
          exact h1
        next =>
          exact h1
    next =>
      exact Keeps.refl _
  next =>
    exact Keeps.refl _

theorem State.mpcClose_keeps (s) : Keeps 56797430 s (State.mpcClose s) := by
  unfold State.mpcClose
  extract_lets +onlyGivenNames y0
  have h1 : Keeps 56797430 s y0 := by
    unfold y0
    refine Keeps.foldl ?_ ?_ _
    next =>
      exact Keeps.refl _
    next =>
      intro t2 x3
      split
      next =>
        refine Keeps.ite ?_ ?_
        next =>
          refine Keeps.trans ?_ (Keeps.of (State.tick1_keeps _) rfl)
          exact Keeps.of (State.mpcEnd_keeps _ _ _) rfl
        next =>
          exact Keeps.refl _
      next =>
        exact Keeps.refl _
  clear_value y0
  extract_lets +onlyGivenNames y4
  have h5 : Keeps 56797430 s y4 := by
    unfold y4
    refine Keeps.trans ?_ (Keeps.of (State.mpcCommit_keeps _) rfl)
    exact h1
  clear_value y4
  refine Keeps.ite ?_ ?_
  next =>
    refine Keeps.trans ?_ (Keeps.of (State.scenDone_keeps _) rfl)
    exact h5
  next =>
    exact h5

theorem State.capAge_keeps (s) : Keeps 4360386 s (State.capAge s) := by
  unfold State.capAge
  extract_lets +onlyGivenNames y0
  have h1 : Keeps 4360386 s y0 := by
    unfold y0
    refine Keeps.foldl ?_ ?_ _
    next => exact Keeps.refl _
    next => intro t2 x3; exact Keeps.of (State.finc_keeps _ _) rfl
  clear_value y0
  refine Keeps.trans ?_ (Keeps.of (State.capLow_keeps _) rfl)
  refine Keeps.upd_slv rfl (b := y0) ?_ _
  exact h1

theorem State.mpcStart_keeps (s) : Keeps 4360386 s (State.mpcStart s) := by
  unfold State.mpcStart
  extract_lets +onlyGivenNames y0
  clear_value y0
  refine Keeps.ite ?_ ?_
  next =>
    exact Keeps.refl _
  next =>
    extract_lets +onlyGivenNames y1
    clear_value y1
    extract_lets +onlyGivenNames y2
    have h3 : Keeps 4360386 s y2 := by
      unfold y2
      refine Keeps.trans ?_ (Keeps.of (State.slvMod_keeps _ _) rfl)
      exact Keeps.of (State.capAge_keeps _) rfl
    clear_value y2
    extract_lets +onlyGivenNames y4
    clear_value y4
    refine Keeps.ite ?_ ?_
    next =>
      refine Keeps.trans ?_ (Keeps.of (State.showMpc_keeps _) rfl)
      refine Keeps.trans ?_ (Keeps.of (State.slvMod_keeps _ _) rfl)
      exact h3
    next =>
      refine Keeps.trans ?_ (Keeps.of (State.showMpc_keeps _) rfl)
      exact h3

theorem State.planWatch_keeps (s v1) : Keeps 16910530 s (State.planWatch s v1) := by
  unfold State.planWatch
  split
  next =>
    extract_lets +onlyGivenNames y0
    clear_value y0
    refine Keeps.ite ?_ ?_
    next =>
      refine Keeps.trans ?_ (Keeps.of (State.event_keeps _ _ _ _ _) rfl)
      refine Keeps.trans ?_ (Keeps.of (State.fup_keeps _ _) rfl)
      exact Keeps.of (State.redMod_keeps _ _) rfl
    next =>
      exact Keeps.refl _
  next =>
    exact Keeps.refl _

theorem State.promoEnd_keeps (s v1) : Keeps 4327618 s (State.promoEnd s v1) := by
  unfold State.promoEnd
  split
  next =>
    refine Keeps.ite ?_ ?_
    next =>
      refine Keeps.trans ?_ (Keeps.of (State.promoMiss_keeps _) rfl)
      exact Keeps.of (State.allocPut_keeps _ _) rfl
    next =>
      exact Keeps.refl _
  next =>
    exact Keeps.refl _

theorem State.retroAbort_keeps (s) : Keeps 2230466 s (State.retroAbort s) := by
  unfold State.retroAbort
  refine Keeps.ite ?_ ?_
  next =>
    refine Keeps.trans ?_ (Keeps.of (State.event_keeps _ _ _ _ _) rfl)
    refine Keeps.trans ?_ (Keeps.of (State.fup_keeps _ _) rfl)
    refine Keeps.trans ?_ (Keeps.of (State.fcount_keeps _ _ _) rfl)
    exact Keeps.of (State.cexMod_keeps _ _) rfl
  next =>
    exact Keeps.refl _

theorem State.funcStandby_keeps (s) : Keeps 2230466 s (State.funcStandby s) := by
  unfold State.funcStandby
  refine Keeps.ite ?_ ?_
  next =>
    exact Keeps.refl _
  next =>
    refine Keeps.trans ?_ (Keeps.of (State.event_keeps _ _ _ _ _) rfl)
    refine Keeps.trans ?_ (Keeps.of (State.showFunc_keeps _) rfl)
    refine Keeps.upd_cex rfl ?_ _
    exact Keeps.refl _

theorem State.toSafe_keeps (s) : Keeps 52562162 s (State.toSafe s) := by
  unfold State.toSafe
  extract_lets +onlyGivenNames y0
  have h1 : Keeps 52562162 s y0 := by
    unfold y0
    refine Keeps.trans ?_ (Keeps.of (State.setQual_keeps _ _) rfl)
    refine Keeps.trans ?_ (Keeps.of (State.reqGone_keeps _) rfl)
    refine Keeps.trans ?_ (Keeps.of (State.holderGone_keeps _) rfl)
    exact Keeps.of (State.funcStandby_keeps _) rfl
  clear_value y0
  refine Keeps.trans ?_ (Keeps.of (State.safRole_keeps _) rfl)
  refine Keeps.trans ?_ (Keeps.of (State.redMod_keeps _ _) rfl)
  refine Keeps.trans ?_ (Keeps.of (State.fset_keeps _ _ _) rfl)
  refine Keeps.upd_op_role rfl (b := y0) ?_ _ _
  exact h1

theorem State.safeDue_keeps (s) : Keeps 52562162 s (State.safeDue s) := by
  unfold State.safeDue
  refine Keeps.ite ?_ ?_
  next => exact Keeps.of (State.toSafe_keeps _) rfl
  next => exact Keeps.refl _

theorem State.settle_keeps (s v1) : Keeps 20971584 s (State.settle s v1) := by
  unfold State.settle
  refine Keeps.ite ?_ ?_
  next => exact Keeps.refl _
  next =>
    split
    next => rename_i z0 z1; exact Keeps.refl _
    next =>
      rename_i z2 z3 z4
      refine Keeps.ite ?_ ?_
      next => exact Keeps.refl _
      next =>
        extract_lets +onlyGivenNames y5
        clear_value y5
        extract_lets +onlyGivenNames y6
        clear_value y6
        extract_lets +onlyGivenNames y7
        clear_value y7
        extract_lets +onlyGivenNames y8
        clear_value y8
        extract_lets +onlyGivenNames y9
        clear_value y9
        extract_lets +onlyGivenNames y10
        have h11 : Keeps 20971584 s y10 := by
          unfold y10
          refine Keeps.trans ?_ (Keeps.of (State.allocPut_keeps _ _) rfl)
          exact Keeps.of (State.slvMod_keeps _ _) rfl
        clear_value y10
        refine Keeps.ite ?_ ?_
        next => exact h11
        next => refine Keeps.trans ?_ (Keeps.of (State.markUnfol_keeps _ _) rfl); exact h11

theorem State.beginFrame_keeps (s v1) : Keeps 58388470 s (State.beginFrame s v1) := by
  unfold State.beginFrame
  extract_lets +onlyGivenNames y0
  clear_value y0
  extract_lets +onlyGivenNames y1
  have h2 : Keeps 58388470 s y1 := by
    unfold y1
    refine Keeps.ite ?_ ?_
    next =>
      refine Keeps.trans ?_ (Keeps.of (State.settle_keeps _ _) rfl)
      refine Keeps.trans ?_ (Keeps.of (State.promoEnd_keeps _ _) rfl)
      exact Keeps.of (State.applyAt_keeps _ _) rfl
    next =>
      exact Keeps.refl _
  clear_value y1
  extract_lets +onlyGivenNames y3
  have h4 : Keeps 58388470 s y3 := by
    unfold y3
    refine Keeps.trans ?_ (Keeps.of (State.retroAbort_keeps _) rfl)
    refine Keeps.trans ?_ (Keeps.of (State.planWatch_keeps _ _) rfl)
    exact h2
  clear_value y3
  extract_lets +onlyGivenNames y5
  have h6 : Keeps 58388470 s y5 := by
    unfold y5
    refine Keeps.trans ?_ (Keeps.of (State.fset_keeps _ _ _) rfl)
    refine Keeps.trans ?_ (Keeps.of (State.timeMod_keeps _ _) rfl)
    refine Keeps.trans ?_ (Keeps.of (State.redTurn_keeps _) rfl)
    exact h4
  clear_value y5
  extract_lets +onlyGivenNames y7
  have h8 : Keeps 58388470 s y7 := by
    unfold y7
    refine Keeps.trans ?_ (Keeps.of (State.engBoundary_keeps _) rfl)
    refine Keeps.trans ?_ (Keeps.of (State.safeDue_keeps _) rfl)
    exact h6
  clear_value y7
  refine Keeps.ite ?_ ?_
  next =>
    exact h8
  next =>
    extract_lets +onlyGivenNames y9
    have h10 : Keeps 58388470 s y9 := by
      unfold y9
      refine Keeps.ite ?_ ?_
      next =>
        refine Keeps.trans ?_ (Keeps.of (State.obsProp_keeps _) rfl)
        exact h8
      next =>
        exact h8
    clear_value y9
    extract_lets +onlyGivenNames y11
    have h12 : Keeps 58388470 s y11 := by
      unfold y11
      refine Keeps.trans ?_ (Keeps.of (State.fusBoundary_keeps _) rfl)
      refine Keeps.trans ?_ (Keeps.of (State.tauTake_keeps _ _) rfl)
      exact h10
    clear_value y11
    extract_lets +onlyGivenNames y13
    have h14 : Keeps 58388470 s y13 := by
      unfold y13
      refine Keeps.upd_retro rfl (b := y11) ?_ _
      exact h12
    clear_value y13
    refine Keeps.trans ?_ (Keeps.of (State.holderLinks_keeps _) rfl)
    refine Keeps.trans ?_ (Keeps.of (State.mpcStart_keeps _) rfl)
    refine Keeps.trans ?_ (Keeps.of (State.mpcClose_keeps _) rfl)
    exact h14

theorem State.instMove_keeps (s v1) : Keeps 125829632 s (State.instMove s v1) := by
  unfold State.instMove
  extract_lets +onlyGivenNames y0
  clear_value y0
  refine Keeps.upd_cfg_net_red_saf_gns rfl ?_ _ _ _ _ _
  exact Keeps.refl _

theorem State.leak_keeps (s v1 v2) : Keeps 16384 s (State.leak s v1 v2) := by
  unfold State.leak
  extract_lets +onlyGivenNames y0
  clear_value y0
  exact Keeps.upd_fch rfl (Keeps.refl _) _

theorem State.leakTo_keeps (s v1) : Keeps 1073758208 s (State.leakTo s v1) := by
  unfold State.leakTo
  refine Keeps.ite ?_ ?_
  next => exact Keeps.refl _
  next =>
    extract_lets +onlyGivenNames y0
    have h1 : Keeps 1073758208 s y0 := by unfold y0; exact Keeps.of (State.leak_keeps _ _ _) rfl
    clear_value y0
    refine Keeps.upd_dia rfl (b := y0) ?_ _ rfl
    exact h1

theorem State.slewReq_keeps (s v1 v2) : Keeps 320 s (State.slewReq s v1 v2) := by
  unfold State.slewReq
  refine Keeps.trans ?_ (Keeps.of (State.showSlew_keeps _) rfl)
  exact Keeps.upd_time rfl (Keeps.refl _) _

theorem State.specLost_keeps (s) : Keeps 64 s (State.specLost s) := by
  unfold State.specLost
  split
  next =>
    refine Keeps.ite ?_ ?_
    next =>
      exact Keeps.of (State.fcount_keeps _ _ _) rfl
    next =>
      exact Keeps.refl _
  next =>
    exact Keeps.refl _

theorem State.stepCtxs_keeps (s v1) : Keeps 262144 s (State.stepCtxs s v1) := by
  unfold State.stepCtxs
  exact Keeps.upd_ctx rfl (Keeps.refl _) _

theorem State.timeStep_keeps (s v1 v2) : Keeps 1206807490 s (State.timeStep s v1 v2) := by
  unfold State.timeStep
  extract_lets +onlyGivenNames y0
  clear_value y0
  extract_lets +onlyGivenNames y1
  have h2 : Keeps 1206807490 s y1 := by
    unfold y1
    refine Keeps.trans ?_ (Keeps.of (State.leakTo_keeps _ _) rfl)
    refine Keeps.trans ?_ (Keeps.of (State.specLost_keeps _) rfl)
    exact Keeps.of (State.retroAbort_keeps _) rfl
  clear_value y1
  extract_lets +onlyGivenNames y3
  have h4 : Keeps 1206807490 s y3 := by
    unfold y3
    refine Keeps.trans ?_ (Keeps.of (State.timeMod_keeps _ _) rfl)
    exact h2
  clear_value y3
  extract_lets +onlyGivenNames y5
  have h6 : Keeps 1206807490 s y5 := by
    unfold y5
    refine Keeps.trans ?_ (Keeps.of (State.stepCtxs_keeps _ _) rfl)
    refine Keeps.trans ?_ (Keeps.of (State.fset_keeps _ _ _) rfl)
    refine Keeps.trans ?_ (Keeps.of (State.fup_keeps _ _) rfl)
    refine Keeps.trans ?_ (Keeps.of (State.instMove_keeps _ _) rfl)
    refine Keeps.trans ?_ (Keeps.of (State.leakJump_keeps _) rfl)
    exact h4
  clear_value y5
  extract_lets +onlyGivenNames y7
  have h8 : Keeps 1206807490 s y7 := by
    unfold y7
    refine Keeps.trans ?_ (Keeps.of (State.fcount_keeps _ _ _) rfl)
    exact h6
  clear_value y7
  extract_lets +onlyGivenNames y9
  have h10 : Keeps 1206807490 s y9 := by
    unfold y9
    refine Keeps.trans ?_ (Keeps.of (State.cexMod_keeps _ _) rfl)
    refine Keeps.upd_retro rfl (b := y7) ?_ _
    exact h8
  clear_value y9
  extract_lets +onlyGivenNames y11
  have h12 : Keeps 1206807490 s y11 := by
    unfold y11
    refine Keeps.trans ?_ (Keeps.of (State.ledger_keeps _ _ _) rfl)
    refine Keeps.trans ?_ (Keeps.of (State.mpcDrop_keeps _) rfl)
    exact h10
  clear_value y11
  extract_lets +onlyGivenNames y13
  have h14 : Keeps 1206807490 s y13 := by
    unfold y13
    refine Keeps.trans ?_ (Keeps.of (State.event_keeps _ _ _ _ _) rfl)
    exact h12
  clear_value y13
  extract_lets +onlyGivenNames y15
  clear_value y15
  refine Keeps.ite ?_ ?_
  next =>
    exact h14
  next =>
    refine Keeps.trans ?_ (Keeps.of (State.slewReq_keeps _ _ _) rfl)
    refine Keeps.trans ?_ (Keeps.of (State.ptpMod_keeps _ _) rfl)
    exact h14

theorem State.frameTurn_keeps (s) : Keeps 1207889910 s (State.frameTurn s) := by
  unfold State.frameTurn
  extract_lets +onlyGivenNames y0
  clear_value y0
  extract_lets +onlyGivenNames y1
  have h2 : Keeps 1207889910 s y1 := by
    unfold y1
    split
    next =>
      rename_i z3 z4 z5 z6
      refine Keeps.ite ?_ ?_
      next => exact Keeps.of (State.timeStep_keeps _ _ _) rfl
      next => exact Keeps.refl _
    next => rename_i z7 z8; exact Keeps.refl _
  clear_value y1
  extract_lets +onlyGivenNames y9
  have h10 : Keeps 1207889910 s y9 := by
    unfold y9
    refine Keeps.trans ?_ (Keeps.of (State.loadFrameCfg_keeps _ _) rfl)
    exact h2
  clear_value y9
  refine Keeps.trans ?_ (Keeps.of (State.beginFrame_keeps _ _) rfl)
  exact h10

theorem State.gnssLatch_keeps (s v1) : Keeps 67109060 s (State.gnssLatch s v1) := by
  unfold State.gnssLatch
  extract_lets +onlyGivenNames y0
  clear_value y0
  extract_lets +onlyGivenNames y1
  clear_value y1
  refine Keeps.ite ?_ ?_
  next =>
    exact Keeps.refl _
  next =>
    extract_lets +onlyGivenNames y2
    clear_value y2
    extract_lets +onlyGivenNames y3
    clear_value y3
    extract_lets +onlyGivenNames y4
    have h5 : Keeps 67109060 s y4 := by
      unfold y4
      refine Keeps.foldl ?_ ?_ _
      next =>
        exact Keeps.refl _
      next =>
        intro t6 x7
        extract_lets +onlyGivenNames y8
        clear_value y8
        extract_lets +onlyGivenNames y9
        clear_value y9
        refine Keeps.trans ?_ (Keeps.of (State.chanPut_keeps _ _ _) rfl)
        exact Keeps.of (State.fcount_keeps _ _ _) rfl
    clear_value y4
    extract_lets +onlyGivenNames y10
    clear_value y10
    extract_lets +onlyGivenNames y11
    clear_value y11
    extract_lets +onlyGivenNames y12
    clear_value y12
    extract_lets +onlyGivenNames y13
    clear_value y13
    extract_lets +onlyGivenNames y14
    have h15 : Keeps 67109060 s y14 := by
      unfold y14
      refine Keeps.trans ?_ (Keeps.of (State.fset_keeps _ _ _) rfl)
      refine Keeps.trans ?_ (Keeps.of (State.wrB_keeps _ _ _ _) rfl)
      exact h5
    clear_value y14
    extract_lets +onlyGivenNames y16
    have h17 : Keeps 67109060 s y16 := by
      unfold y16
      refine Keeps.trans ?_ (Keeps.of (State.gnsMod_keeps _ _) rfl)
      exact h15
    clear_value y16
    refine Keeps.upd_free rfl (b := y16) ?_ _
    exact h17

theorem State.leReturned_keeps (s v1) : Keeps 64 s (State.leReturned s v1) := by
  unfold State.leReturned
  extract_lets +onlyGivenNames y0
  have h1 : Keeps 64 s y0 := by unfold y0; exact Keeps.of (State.fset_keeps _ _ _) rfl
  clear_value y0
  refine Keeps.ite ?_ ?_
  next => exact h1
  next => refine Keeps.trans ?_ (Keeps.of (State.fset_keeps _ _ _) rfl); exact h1

theorem State.lesReturn_keeps (s v1) : Keeps 64 s (State.lesReturn s v1) := by
  unfold State.lesReturn
  refine Keeps.foldl ?_ ?_ _
  next => exact Keeps.refl _
  next => intro t0 x1; exact Keeps.of (State.leReturned_keeps _ _) rfl

theorem State.recCkpt_keeps (s) : Keeps 131136 s (State.recCkpt s) := by
  unfold State.recCkpt
  refine Keeps.trans ?_ (Keeps.of (State.recMod_keeps _ _) rfl)
  exact Keeps.of (State.stage_keeps _ _ _ _) rfl

theorem State.recStart_keeps (s v1 v2) : Keeps 131136 s (State.recStart s v1 v2) := by
  unfold State.recStart
  extract_lets +onlyGivenNames y0
  have h1 : Keeps 131136 s y0 := by unfold y0; exact Keeps.of (State.recMod_keeps _ _) rfl
  clear_value y0
  refine Keeps.trans ?_ (Keeps.of (State.showRec_keeps _) rfl)
  refine Keeps.trans ?_ (Keeps.of (State.recCkpt_keeps _) rfl)
  refine Keeps.trans ?_ (Keeps.of (State.stage_keeps _ _ _ _) rfl)
  refine Keeps.trans ?_ (Keeps.of (State.stage_keeps _ _ _ _) rfl)
  exact h1

theorem State.recApply_keeps (s) : Keeps 131136 s (State.recApply s) := by
  unfold State.recApply
  split
  next => rename_i z0 z1; exact Keeps.refl _
  next =>
    rename_i z2 z3 z4 z5
    extract_lets +onlyGivenNames y6
    have h7 : Keeps 131136 s y6 := by unfold y6; exact Keeps.of (State.recMod_keeps _ _) rfl
    clear_value y6
    refine Keeps.ite ?_ ?_
    next => exact h7
    next =>
      extract_lets +onlyGivenNames y8
      have h9 : Keeps 131136 s y8 := by
        unfold y8
        refine Keeps.ite ?_ ?_
        next => exact h7
        next => refine Keeps.trans ?_ (Keeps.of (State.recStop_keeps _) rfl); exact h7
      clear_value y8
      refine Keeps.ite ?_ ?_
      next => exact h9
      next => refine Keeps.trans ?_ (Keeps.of (State.recStart_keeps _ _ _) rfl); exact h9

theorem State.rtcSet_keeps (s) : Keeps 4096 s (State.rtcSet s) := by
  unfold State.rtcSet
  refine Keeps.ite ?_ ?_
  next => exact Keeps.upd_sys rfl (Keeps.refl _) _
  next => exact Keeps.refl _

theorem State.sf3Boundary_keeps (s) : Keeps 64 s (State.sf3Boundary s) := by
  unfold State.sf3Boundary
  refine Keeps.ite ?_ ?_
  next =>
    exact Keeps.refl _
  next =>
    exact Keeps.of (State.fset_keeps _ _ _) rfl

theorem State.safBoundary_keeps (s) : Keeps 33554496 s (State.safBoundary s) := by
  unfold State.safBoundary
  extract_lets +onlyGivenNames y0
  have h1 : Keeps 33554496 s y0 := by
    unfold y0
    exact Keeps.of (State.sf3Boundary_keeps _) rfl
  clear_value y0
  refine Keeps.ite ?_ ?_
  next =>
    refine Keeps.trans ?_ (Keeps.of (State.safRole_keeps _) rfl)
    exact h1
  next =>
    extract_lets +onlyGivenNames y2
    clear_value y2
    refine Keeps.trans ?_ (Keeps.of (State.showSaf_keeps _) rfl)
    refine Keeps.trans ?_ (Keeps.of (State.safMod_keeps _ _) rfl)
    exact h1

end Sys2Proof.Machine
end

