-- ==== Sys2Proof/Laws/Keeps8.lean ====
section
/-!
SUPPORT. Operations keep what `Keeps` says, callees before callers: part 8 of 10.
-/

namespace Sys2Proof.Machine

theorem State.sdfBoundary_keeps (s v1) : Keeps 1401071858 s (State.sdfBoundary s v1) := by
  unfold State.sdfBoundary
  extract_lets +onlyGivenNames y0
  clear_value y0
  extract_lets +onlyGivenNames y1
  clear_value y1
  extract_lets +onlyGivenNames y2
  clear_value y2
  extract_lets +onlyGivenNames y3
  have h4 : Keeps 1401071858 s y3 := by
    unfold y3
    refine Keeps.foldl ?_ ?_ _
    next => exact Keeps.upd_sdf rfl (Keeps.refl _) _
    next =>
      intro t5 x6
      refine Keeps.ite ?_ ?_
      next => extract_lets +onlyGivenNames y7; clear_value y7; exact Keeps.upd_sdf rfl (Keeps.refl _) _
      next => exact Keeps.refl _
  clear_value y3
  refine Keeps.foldl ?_ ?_ _
  next => exact h4
  next =>
    intro t8 x9
    refine Keeps.ite ?_ ?_
    next =>
      refine Keeps.ite ?_ ?_
      next =>
        extract_lets +onlyGivenNames y10
        have h11 : Keeps 1401071858 t8 y10 := by unfold y10; exact Keeps.of (State.sdfStop_keeps _ _) rfl
        clear_value y10
        refine Keeps.trans ?_ (Keeps.of (State.event_keeps _ _ _ _ _) rfl)
        refine Keeps.trans ?_ (Keeps.of (State.fset_keeps _ _ _) rfl)
        exact h11
      next =>
        split
        next =>
          rename_i z12 z13 z14
          refine Keeps.trans ?_ (Keeps.of (State.sdfWindow_keeps _ _ _) rfl)
          exact Keeps.of (State.sdfPut_keeps _ _ _) rfl
        next => rename_i z15 z16; exact Keeps.refl _
    next =>
      split
      next =>
        rename_i z17 z18 z19
        refine Keeps.ite ?_ ?_
        next => exact Keeps.of (State.sdfPut_keeps _ _ _) rfl
        next => exact Keeps.refl _
      next => rename_i z20 z21; exact Keeps.refl _

theorem State.snapStart_keeps (s) : Keeps 67108928 s (State.snapStart s) := by
  unfold State.snapStart
  split
  next => rename_i z0 z1; exact Keeps.refl _
  next =>
    rename_i z2 z3 z4
    refine Keeps.trans ?_ (Keeps.of (State.fset_keeps _ _ _) rfl)
    refine Keeps.trans ?_ (Keeps.of (State.fset_keeps _ _ _) rfl)
    exact Keeps.of (State.gnsMod_keeps _ _) rfl

theorem State.sysPoints_keeps (s v1 v2) : Keeps 128 s (State.sysPoints s v1 v2) := by
  unfold State.sysPoints
  extract_lets +onlyGivenNames y0
  clear_value y0
  extract_lets +onlyGivenNames y1
  clear_value y1
  refine Keeps.foldl ?_ ?_ _
  next =>
    exact Keeps.refl _
  next =>
    intro t2 x3
    exact Keeps.of (State.ptWrite_keeps _ _ _ _ _) rfl

theorem State.tpStepped_keeps (s) : Keeps 67242178 s (State.tpStepped s) := by
  unfold State.tpStepped
  refine Keeps.ite ?_ ?_
  next => exact Keeps.refl _
  next =>
    extract_lets +onlyGivenNames y0
    clear_value y0
    extract_lets +onlyGivenNames y1
    have h2 : Keeps 67242178 s y1 := by unfold y1; exact Keeps.of (State.gnsMod_keeps _ _) rfl
    clear_value y1
    refine Keeps.foldl ?_ ?_ _
    next => exact h2
    next =>
      intro t3 x4
      refine Keeps.ite ?_ ?_
      next => exact Keeps.of (State.tpRecord_keeps _ _ _ _) rfl
      next => exact Keeps.refl _

theorem State.boundaryRun_keeps (s v1) : Keeps 4294967294 s (State.boundaryRun s v1) := by
  unfold State.boundaryRun
  extract_lets +onlyGivenNames y0
  clear_value y0
  extract_lets +onlyGivenNames y1
  clear_value y1
  extract_lets +onlyGivenNames y2
  clear_value y2
  extract_lets +onlyGivenNames y3
  clear_value y3
  extract_lets +onlyGivenNames y4
  have h5 : Keeps 4294967294 s y4 := by
    unfold y4
    refine Keeps.trans ?_ (Keeps.of (State.commitLoad_keeps _) rfl)
    exact Keeps.of (State.takeGroups_keeps _ _) rfl
  clear_value y4
  extract_lets +onlyGivenNames y6
  have h7 : Keeps 4294967294 s y6 := by
    unfold y6
    refine Keeps.trans ?_ (Keeps.of (State.lesReturn_keeps _ _) rfl)
    refine Keeps.trans ?_ (Keeps.of (State.frameTurn_keeps _) rfl)
    refine Keeps.trans ?_ (Keeps.of (State.recApply_keeps _) rfl)
    refine Keeps.trans ?_ (Keeps.of (State.diaLoad_keeps _) rfl)
    exact h5
  clear_value y6
  extract_lets +onlyGivenNames y8
  have h9 : Keeps 4294967294 s y8 := by
    unfold y8
    refine Keeps.ite ?_ ?_
    next =>
      refine Keeps.trans ?_ (Keeps.of (State.tpStepped_keeps _) rfl)
      exact h7
    next =>
      exact h7
  clear_value y8
  extract_lets +onlyGivenNames y10
  have h11 : Keeps 4294967294 s y10 := by
    unfold y10
    refine Keeps.trans ?_ (Keeps.of (State.sdfBoundary_keeps _ _) rfl)
    refine Keeps.trans ?_ (Keeps.of (State.canCapture_keeps _) rfl)
    refine Keeps.trans ?_ (Keeps.of (State.safBoundary_keeps _) rfl)
    refine Keeps.trans ?_ (Keeps.of (State.rtcSet_keeps _) rfl)
    exact h9
  clear_value y10
  extract_lets +onlyGivenNames y12
  have h13 : Keeps 4294967294 s y12 := by
    unfold y12
    refine Keeps.ite ?_ ?_
    next =>
      refine Keeps.trans ?_ (Keeps.of (State.lgcPeriod_keeps _) rfl)
      exact h11
    next =>
      exact h11
  clear_value y12
  extract_lets +onlyGivenNames y14
  have h15 : Keeps 4294967294 s y14 := by
    unfold y14
    refine Keeps.trans ?_ (Keeps.of (State.snapStart_keeps _) rfl)
    refine Keeps.trans ?_ (Keeps.of (State.gnssLatch_keeps _ _) rfl)
    exact h13
  clear_value y14
  extract_lets +onlyGivenNames y16
  have h17 : Keeps 4294967294 s y16 := by
    unfold y16
    refine Keeps.trans ?_ (Keeps.of (State.boundaryNet_keeps _) rfl)
    refine Keeps.trans ?_ (Keeps.of (State.sysPoints_keeps _ _ _) rfl)
    exact h15
  clear_value y16
  refine Keeps.trans ?_ (Keeps.of (State.pump_keeps _) rfl)
  exact h17

theorem State.boundaryYd_keeps (s) : Keeps 134218048 s (State.boundaryYd s) := by
  unfold State.boundaryYd
  extract_lets +onlyGivenNames y0
  clear_value y0
  refine Keeps.ite ?_ ?_
  next =>
    exact Keeps.refl _
  next =>
    refine Keeps.trans ?_ (Keeps.of (State.canCapture_keeps _) rfl)
    exact Keeps.of (State.timeMod_keeps _ _) rfl

theorem State.boundary_keeps (s v1) : Keeps 4294967294 s (State.boundary s v1) := by
  unfold State.boundary
  refine Keeps.ite ?_ ?_
  next => exact Keeps.of (State.boundaryYd_keeps _) rfl
  next =>
    refine Keeps.ite ?_ ?_
    next => exact Keeps.of (State.boundaryRun_keeps _ _) rfl
    next => exact Keeps.refl _

theorem State.fusionPhase_keeps (s) : Keeps 1476802 s (State.fusionPhase s) := by
  unfold State.fusionPhase
  refine Keeps.ite ?_ ?_
  next =>
    refine State.onInputs_keeps rfl _ _ ?_
    intro t0
    exact Keeps.of (State.fuse_keeps _ _) rfl
  next =>
    exact Keeps.refl _

theorem State.poisonFus_keeps (s) : Keeps 5970782454 s (State.poisonFus s) := by
  unfold State.poisonFus
  split
  next =>
    extract_lets +onlyGivenNames y0
    clear_value y0
    refine Keeps.ite ?_ ?_
    next =>
      exact Keeps.of (State.poisonRead_keeps _ _ _) rfl
    next =>
      exact Keeps.refl _
  next =>
    exact Keeps.refl _

theorem State.tpHold_keeps (s) : Keeps 67274946 s (State.tpHold s) := by
  unfold State.tpHold
  extract_lets +onlyGivenNames y0
  clear_value y0
  extract_lets +onlyGivenNames y1
  clear_value y1
  refine Keeps.ite ?_ ?_
  next =>
    extract_lets +onlyGivenNames y2
    have h3 : Keeps 67274946 s y2 := by
      unfold y2
      exact Keeps.of (State.ppsFold_keeps _) rfl
    clear_value y2
    extract_lets +onlyGivenNames y4
    have h5 : Keeps 67274946 s y4 := by
      unfold y4
      refine Keeps.trans ?_ (Keeps.of (State.finc_keeps _ _) rfl)
      refine Keeps.trans ?_ (Keeps.of (State.fset_keeps _ _ _) rfl)
      refine Keeps.trans ?_ (Keeps.of (State.setTp_keeps _ _) rfl)
      exact h3
    clear_value y4
    refine Keeps.trans ?_ (Keeps.of (State.alarm_keeps _ _ _ _ _) rfl)
    refine Keeps.trans ?_ (Keeps.of (State.gnsMod_keeps _ _) rfl)
    exact h5
  next =>
    exact Keeps.refl _

theorem State.ifActive_keeps (s v1) : Keeps 166082 s (State.ifActive s v1) := by
  unfold State.ifActive
  refine Keeps.ite ?_ ?_
  next =>
    refine Keeps.trans ?_ (Keeps.of (State.clearAlarm_keeps _ _ _ _) rfl)
    exact Keeps.of (State.fset_keeps _ _ _) rfl
  next => exact Keeps.refl _

theorem State.ifLost_keeps (s v1) : Keeps 67274946 s (State.ifLost s v1) := by
  unfold State.ifLost
  refine Keeps.ite ?_ ?_
  next => exact Keeps.refl _
  next =>
    extract_lets +onlyGivenNames y0
    have h1 : Keeps 67274946 s y0 := by unfold y0; exact Keeps.of (State.fset_keeps _ _ _) rfl
    clear_value y0
    extract_lets +onlyGivenNames y2
    have h3 : Keeps 67274946 s y2 := by
      unfold y2
      refine Keeps.foldl ?_ ?_ _
      next => exact h1
      next =>
        intro t4 x5
        extract_lets +onlyGivenNames y6
        clear_value y6
        extract_lets +onlyGivenNames y7
        clear_value y7
        refine Keeps.ite ?_ ?_
        next => exact Keeps.of (State.chanPut_keeps _ _ _) rfl
        next => exact Keeps.refl _
    clear_value y2
    refine Keeps.trans ?_ (Keeps.of (State.alarm_keeps _ _ _ _ _) rfl)
    exact h3

theorem State.gnssSample_keeps (s v1 v2 v3 v4 v5 v6) : Keeps 977094 s (State.gnssSample s v1 v2 v3 v4 v5 v6) := by
  unfold State.gnssSample
  refine Keeps.foldl ?_ ?_ _
  next =>
    exact Keeps.refl _
  next =>
    intro t0 x1
    refine Keeps.foldl ?_ ?_ _
    next =>
      exact Keeps.refl _
    next =>
      intro t2 x3
      extract_lets +onlyGivenNames y4
      clear_value y4
      refine Keeps.ite ?_ ?_
      next =>
        exact Keeps.of (State.finc_keeps _ _) rfl
      next =>
        exact Keeps.of (State.ctxSample_keeps _ _ _ _ _ _ _ _ _ _ _) rfl

theorem State.antSolve_keeps (s v1 v2 v3) : Keeps 68085958 s (State.antSolve s v1 v2 v3) := by
  unfold State.antSolve
  extract_lets +onlyGivenNames y0
  clear_value y0
  extract_lets +onlyGivenNames y1
  clear_value y1
  split
  next =>
    refine Keeps.ite ?_ ?_
    next =>
      refine Keeps.trans ?_ (Keeps.of (State.gnsMod_keeps _ _) rfl)
      exact Keeps.of (State.fset_keeps _ _ _) rfl
    next =>
      extract_lets +onlyGivenNames y2
      clear_value y2
      extract_lets +onlyGivenNames y3
      clear_value y3
      extract_lets +onlyGivenNames y4
      have h5 : Keeps 68085958 s y4 := by
        unfold y4
        refine Keeps.trans ?_ (Keeps.of (State.gnsMod_keeps _ _) rfl)
        exact Keeps.of (State.fset_keeps _ _ _) rfl
      clear_value y4
      extract_lets +onlyGivenNames y6
      clear_value y6
      refine Keeps.trans ?_ (Keeps.of (State.gnssSample_keeps _ _ _ _ _ _ _) rfl)
      exact h5
  next =>
    refine Keeps.trans ?_ (Keeps.of (State.gnsMod_keeps _ _) rfl)
    exact Keeps.of (State.fset_keeps _ _ _) rfl

theorem State.hdgSolve_keeps (s v1 v2) : Keeps 977094 s (State.hdgSolve s v1 v2) := by
  unfold State.hdgSolve
  extract_lets +onlyGivenNames y0
  clear_value y0
  split
  next =>
    extract_lets +onlyGivenNames y1
    clear_value y1
    refine Keeps.ite ?_ ?_
    next =>
      exact Keeps.of (State.fset_keeps _ _ _) rfl
    next =>
      refine Keeps.trans ?_ (Keeps.of (State.gnssSample_keeps _ _ _ _ _ _ _) rfl)
      exact Keeps.of (State.fset_keeps _ _ _) rfl
  next =>
    exact Keeps.of (State.fset_keeps _ _ _) rfl

theorem State.setB_keeps (s v1) : Keeps 67108864 s (State.setB s v1) := by
  unfold State.setB
  exact Keeps.of (State.gnsMod_keeps _ _) rfl

theorem State.tpSolve_keeps (s v1 v2) : Keeps 67274946 s (State.tpSolve s v1 v2) := by
  unfold State.tpSolve
  extract_lets +onlyGivenNames y0
  have h1 : Keeps 67274946 s y0 := by
    unfold y0
    refine Keeps.trans ?_ (Keeps.of (State.gnsMod_keeps _ _) rfl)
    exact Keeps.of (State.ppsFold_keeps _) rfl
  clear_value y0
  refine Keeps.ite ?_ ?_
  next =>
    refine Keeps.trans ?_ (Keeps.of (State.fset_keeps _ _ _) rfl)
    refine Keeps.trans ?_ (Keeps.of (State.setTp_keeps _ _) rfl)
    refine Keeps.trans ?_ (Keeps.of (State.setB_keeps _ _) rfl)
    exact h1
  next =>
    refine Keeps.ite ?_ ?_
    next =>
      refine Keeps.trans ?_ (Keeps.of (State.fset_keeps _ _ _) rfl)
      exact h1
    next =>
      refine Keeps.ite ?_ ?_
      next =>
        extract_lets +onlyGivenNames y2
        clear_value y2
        refine Keeps.ite ?_ ?_
        next =>
          refine Keeps.trans ?_ (Keeps.of (State.clearAlarm_keeps _ _ _ _) rfl)
          refine Keeps.trans ?_ (Keeps.of (State.setTp_keeps _ _) rfl)
          exact h1
        next =>
          extract_lets +onlyGivenNames y3
          clear_value y3
          extract_lets +onlyGivenNames y4
          clear_value y4
          extract_lets +onlyGivenNames y5
          clear_value y5
          refine Keeps.trans ?_ (Keeps.of (State.gnsMod_keeps _ _) rfl)
          exact h1
      next =>
        exact h1

theorem State.gnssSolve_keeps (s v1 v2 v3) : Keeps 68085958 s (State.gnssSolve s v1 v2 v3) := by
  unfold State.gnssSolve
  split
  next => rename_i z0 z1; exact Keeps.refl _
  next =>
    rename_i z2 z3 z4 z5
    refine Keeps.ite ?_ ?_
    next => exact Keeps.refl _
    next =>
      extract_lets +onlyGivenNames y6
      have h7 : Keeps 68085958 s y6 := by unfold y6; exact Keeps.of (State.gnsMod_keeps _ _) rfl
      clear_value y6
      extract_lets +onlyGivenNames y8
      have h9 : Keeps 68085958 s y8 := by
        unfold y8
        refine Keeps.trans ?_ (Keeps.of (State.hdgSolve_keeps _ _ _) rfl)
        refine Keeps.trans ?_ (Keeps.of (State.antSolve_keeps _ _ _ _) rfl)
        refine Keeps.trans ?_ (Keeps.of (State.antSolve_keeps _ _ _ _) rfl)
        exact h7
      clear_value y8
      extract_lets +onlyGivenNames y10
      clear_value y10
      split
      next => rename_i z11 z12 z13 z14; refine Keeps.trans ?_ (Keeps.of (State.tpSolve_keeps _ _ _) rfl); exact h9
      next => rename_i z15 z16 z17 z18 z19; refine Keeps.trans ?_ (Keeps.of (State.tpSolve_keeps _ _ _) rfl); exact h9
      next => rename_i z20 z21 z22 z23; refine Keeps.trans ?_ (Keeps.of (State.gnsMod_keeps _ _) rfl); exact h9

theorem State.ydPuts_keeps (s v1) : Keeps 4294967296 s (State.ydPuts s v1) := by
  unfold State.ydPuts
  refine Keeps.foldl ?_ ?_ _
  next => exact Keeps.refl _
  next => intro t0 x1; exact Keeps.of (State.ydPut_keeps _ _ _) rfl

theorem State.ydGnss_keeps (s v1) : Keeps 4362080256 s (State.ydGnss s v1) := by
  unfold State.ydGnss
  split
  next => rename_i z0 z1; exact Keeps.refl _
  next =>
    rename_i z2 z3 z4
    refine Keeps.ite ?_ ?_
    next => exact Keeps.refl _
    next =>
      extract_lets +onlyGivenNames y5
      clear_value y5
      extract_lets +onlyGivenNames y6
      have h7 : Keeps 4362080256 s y6 := by unfold y6; exact Keeps.of (State.ydMod_keeps _ _) rfl
      clear_value y6
      split
      next => rename_i z8; refine Keeps.trans ?_ (Keeps.of (State.ydPuts_keeps _ _) rfl); exact h7
      next =>
        rename_i z9 z10
        extract_lets +onlyGivenNames y11
        have h12 : Keeps 4362080256 s y11 := by
          unfold y11
          refine Keeps.trans ?_ (Keeps.of (State.ydPuts_keeps _ _) rfl)
          exact h7
        clear_value y11
        refine Keeps.ite ?_ ?_
        next => exact h12
        next =>
          extract_lets +onlyGivenNames y13
          have h14 : Keeps 4362080256 s y13 := by
            unfold y13
            refine Keeps.trans ?_ (Keeps.of (State.gnsMod_keeps _ _) rfl)
            refine Keeps.trans ?_ (Keeps.of (State.ydPuts_keeps _ _) rfl)
            exact h12
          clear_value y13
          refine Keeps.ite ?_ ?_
          next => exact h14
          next => refine Keeps.upd_sys rfl (b := y13) ?_ _; exact h14

theorem State.snapWrite_keeps (s v1 v2) : Keeps 1073742016 s (State.snapWrite s v1 v2) := by
  unfold State.snapWrite
  refine Keeps.trans ?_ (Keeps.of (State.fset_keeps _ _ _) rfl)
  refine Keeps.trans ?_ (Keeps.of (State.fset_keeps _ _ _) rfl)
  exact Keeps.of (State.wrPool_keeps _ _ _) rfl

theorem State.harbourSnap_keeps (s v1 v2) : Keeps 1140984002 s (State.harbourSnap s v1 v2) := by
  unfold State.harbourSnap
  extract_lets +onlyGivenNames y0
  clear_value y0
  refine Keeps.ite ?_ ?_
  next => exact Keeps.refl _
  next =>
    extract_lets +onlyGivenNames y1
    have h2 : Keeps 1140984002 s y1 := by unfold y1; exact Keeps.of (State.gnsMod_keeps _ _) rfl
    clear_value y1
    extract_lets +onlyGivenNames y3
    have h4 : Keeps 1140984002 s y3 := by
      unfold y3
      refine Keeps.trans ?_ (Keeps.of (State.snapWrite_keeps _ _ _) rfl)
      exact h2
    clear_value y3
    extract_lets +onlyGivenNames y5
    clear_value y5
    refine Keeps.ite ?_ ?_
    next =>
      extract_lets +onlyGivenNames y6
      have h7 : Keeps 1140984002 s y6 := by
        unfold y6
        refine Keeps.trans ?_ (Keeps.of (State.fset_keeps _ _ _) rfl)
        refine Keeps.trans ?_ (Keeps.of (State.fset_keeps _ _ _) rfl)
        refine Keeps.trans ?_ (Keeps.of (State.fset_keeps _ _ _) rfl)
        refine Keeps.trans ?_ (Keeps.of (State.fset_keeps _ _ _) rfl)
        exact h4
      clear_value y6
      refine Keeps.trans ?_ (Keeps.of (State.event_keeps _ _ _ _ _) rfl)
      refine Keeps.trans ?_ (Keeps.of (State.gnsMod_keeps _ _) rfl)
      exact h7
    next => refine Keeps.trans ?_ (Keeps.of (State.fset_keeps _ _ _) rfl); exact h4

theorem State.harvestIn_keeps (s) : Keeps 1082196034 s (State.harvestIn s) := by
  unfold State.harvestIn
  refine Keeps.ite ?_ ?_
  next => exact Keeps.refl _
  next =>
    extract_lets +onlyGivenNames y0
    clear_value y0
    extract_lets +onlyGivenNames y1
    have h2 : Keeps 1082196034 s y1 := by unfold y1; exact Keeps.of (State.harvLocal_keeps _ _ _ _) rfl
    clear_value y1
    extract_lets +onlyGivenNames y3
    have h4 : Keeps 1082196034 s y3 := by
      unfold y3
      refine Keeps.trans ?_ (Keeps.of (State.fset_keeps _ _ _) rfl)
      exact h2
    clear_value y3
    refine Keeps.upd_diaF rfl (b := y3) ?_ _
    exact h4

theorem State.harvPut_keeps (s v1 v2) : Keeps 1073883330 s (State.harvPut s v1 v2) := by
  unfold State.harvPut
  extract_lets +onlyGivenNames y0
  clear_value y0
  extract_lets +onlyGivenNames y1
  have h2 : Keeps 1073883330 s y1 := by
    unfold y1
    refine Keeps.trans ?_ (Keeps.of (State.fset_keeps _ _ _) rfl)
    exact Keeps.of (State.wrB_keeps _ _ _ _) rfl
  clear_value y1
  extract_lets +onlyGivenNames y3
  have h4 : Keeps 1073883330 s y3 := by
    unfold y3
    refine Keeps.trans ?_ (Keeps.of (State.diaMod_keeps _ _ (fun _ => rfl)) rfl)
    exact h2
  clear_value y3
  extract_lets +onlyGivenNames y5
  have h6 : Keeps 1073883330 s y5 := by
    unfold y5
    refine Keeps.trans ?_ (Keeps.of (State.event_keeps _ _ _ _ _) rfl)
    exact h4
  clear_value y5
  refine Keeps.trans ?_ (Keeps.of (State.ledger_keeps _ _ _) rfl)
  refine Keeps.trans ?_ (Keeps.of (State.stage_keeps _ _ _ _) rfl)
  exact h6

theorem State.harvestLatch_keeps (s) : Keeps 1140992198 s (State.harvestLatch s) := by
  unfold State.harvestLatch
  extract_lets +onlyGivenNames y0
  clear_value y0
  refine Keeps.ite ?_ ?_
  next => exact Keeps.refl _
  next =>
    extract_lets +onlyGivenNames y1
    have h2 : Keeps 1140992198 s y1 := by unfold y1; exact Keeps.refl _
    clear_value y1
    extract_lets +onlyGivenNames y3
    have h4 : Keeps 1140992198 s y3 := by
      unfold y3
      refine Keeps.trans ?_ (Keeps.of (State.tick1_keeps _) rfl)
      refine Keeps.trans ?_ (Keeps.of (State.showHarv_keeps _) rfl)
      refine Keeps.of (State.diaMod_keeps _ _ (fun _ => rfl)) rfl
    clear_value y3
    split
    rename_i z5 z6 z7 z8
    have k9 : Keeps 1140992198 s z6 := by
      refine Keeps.fst z8 ?_
      refine Keeps.ite1 ?_ ?_
      next => refine Keeps.trans ?_ (Keeps.of (State.snapTrig_keeps _ _) rfl); exact h4
      next => dsimp only; exact h4
    extract_lets +onlyGivenNames y10
    clear_value y10
    refine Keeps.foldl ?_ ?_ _
    next => exact k9
    next => intro t11 x12; exact Keeps.of (State.harvPut_keeps _ _ _) rfl

theorem State.harvestRx_keeps (s v1 v2) : Keeps 1082261568 s (State.harvestRx s v1 v2) := by
  unfold State.harvestRx
  split
  next =>
    rename_i z0 z1
    have k2 : Keeps 1082261568 s z0 := by
      refine Keeps.fst z1 ?_
      exact Keeps.of (State.pduIn_keeps _ _ _ _) rfl
    exact k2
  next =>
    rename_i z3 z4 z5
    have k6 : Keeps 1082261568 s z3 := by
      refine Keeps.fst z5 ?_
      exact Keeps.of (State.pduIn_keeps _ _ _ _) rfl
    extract_lets +onlyGivenNames y7
    clear_value y7
    split
    extract_lets +onlyGivenNames y8
    have h9 : Keeps 1082261568 s y8 := by
      unfold y8
      refine Keeps.trans ?_ (Keeps.of (State.stagePdu_keeps _ _ _) rfl)
      exact k6
    clear_value y8
    extract_lets +onlyGivenNames y10
    clear_value y10
    refine Keeps.ite ?_ ?_
    next =>
      exact h9
    next =>
      extract_lets +onlyGivenNames y11
      clear_value y11
      extract_lets +onlyGivenNames y12
      have h13 : Keeps 1082261568 s y12 := by
        unfold y12
        refine Keeps.upd_net rfl (b := y8) ?_ _
        exact h9
      clear_value y12
      refine Keeps.ite ?_ ?_
      next =>
        refine Keeps.trans ?_ (Keeps.of (State.finc_keeps _ _) rfl)
        exact h13
      next =>
        refine Keeps.trans ?_ (Keeps.of (State.harvPend_keeps _ _) rfl)
        exact h13

theorem State.eccNote_keeps (s v1) : Keeps 16777216 s (State.eccNote s v1) := by
  unfold State.eccNote
  exact Keeps.of (State.redMod_keeps _ _) rfl

theorem State.showHealth_keeps (s v1 v2) : Keeps 64 s (State.showHealth s v1 v2) := by
  unfold State.showHealth
  split
  next => rename_i z0; exact Keeps.of (State.fset_keeps _ _ _) rfl
  next => rename_i z1; exact Keeps.of (State.fset_keeps _ _ _) rfl
  next => rename_i z2 z3 z4; exact Keeps.of (State.fset_keeps _ _ _) rfl

theorem State.healthRun_keeps (s) : Keeps 16910530 s (State.healthRun s) := by
  unfold State.healthRun
  refine Keeps.ite ?_ ?_
  next => exact Keeps.refl _
  next =>
    extract_lets +onlyGivenNames y0
    clear_value y0
    extract_lets +onlyGivenNames y1
    clear_value y1
    extract_lets +onlyGivenNames y2
    clear_value y2
    extract_lets +onlyGivenNames y3
    have h4 : Keeps 16910530 s y3 := by unfold y3; exact Keeps.of (State.showHealth_keeps _ _ _) rfl
    clear_value y3
    extract_lets +onlyGivenNames y5
    clear_value y5
    extract_lets +onlyGivenNames y6
    clear_value y6
    extract_lets +onlyGivenNames y7
    clear_value y7
    extract_lets +onlyGivenNames y8
    have h9 : Keeps 16910530 s y8 := by
      unfold y8
      refine Keeps.trans ?_ (Keeps.of (State.redMod_keeps _ _) rfl)
      refine Keeps.trans ?_ (Keeps.of (State.fset_keeps _ _ _) rfl)
      refine Keeps.trans ?_ (Keeps.of (State.wrB_keeps _ _ _ _) rfl)
      exact h4
    clear_value y8
    refine Keeps.trans ?_ (Keeps.of (State.event_keeps _ _ _ _ _) rfl)
    exact h9

theorem State.holdCharged_keeps (s) : Keeps 4295139014 s (State.holdCharged s) := by
  unfold State.holdCharged
  refine Keeps.trans ?_ (Keeps.of (State.ydSaveTry_keeps _) rfl)
  refine Keeps.trans ?_ (Keeps.of (State.storeWaiting_keeps _) rfl)
  exact Keeps.of (State.sysMod_keeps _ _) rfl

theorem State.imageCheck_keeps (s v1) : Keeps 4837255362 s (State.imageCheck s v1) := by
  unfold State.imageCheck
  refine Keeps.ite ?_ ?_
  next =>
    exact Keeps.refl _
  next =>
    refine Keeps.foldl ?_ ?_ _
    next =>
      exact Keeps.refl _
    next =>
      intro t0 x1
      exact Keeps.of (State.imageBad_keeps _ _) rfl

theorem State.zoneEnter_keeps (s) : Keeps 50505970 s (State.zoneEnter s) := by
  unfold State.zoneEnter
  extract_lets +onlyGivenNames y0
  have h1 : Keeps 50505970 s y0 := by
    unfold y0
    refine Keeps.trans ?_ (Keeps.of (State.redMod_keeps _ _) rfl)
    refine Keeps.trans ?_ (Keeps.of (State.setRole_keeps _ _) rfl)
    exact Keeps.of (State.takeEpoch_keeps _) rfl
  clear_value y0
  refine Keeps.trans ?_ (Keeps.of (State.alarm_keeps _ _ _ _ _) rfl)
  refine Keeps.trans ?_ (Keeps.of (State.fup_keeps _ _) rfl)
  exact h1

theorem State.splitPolicy_keeps (s) : Keeps 50505970 s (State.splitPolicy s) := by
  unfold State.splitPolicy
  refine Keeps.ite ?_ ?_
  next =>
    exact Keeps.of (State.zoneEnter_keeps _) rfl
  next =>
    refine Keeps.trans ?_ (Keeps.of (State.alarm_keeps _ _ _ _ _) rfl)
    refine Keeps.trans ?_ (Keeps.of (State.fup_keeps _ _) rfl)
    exact Keeps.of (State.setRole_keeps _ _) rfl

theorem State.keyDecide_keeps (s) : Keeps 50505970 s (State.keyDecide s) := by
  unfold State.keyDecide
  refine Keeps.ite ?_ ?_
  next =>
    exact Keeps.refl _
  next =>
    extract_lets +onlyGivenNames y0
    clear_value y0
    extract_lets +onlyGivenNames y1
    clear_value y1
    extract_lets +onlyGivenNames y2
    clear_value y2
    extract_lets +onlyGivenNames y3
    clear_value y3
    extract_lets +onlyGivenNames y4
    clear_value y4
    extract_lets +onlyGivenNames y5
    clear_value y5
    extract_lets +onlyGivenNames y6
    clear_value y6
    extract_lets +onlyGivenNames y7
    clear_value y7
    extract_lets +onlyGivenNames y8
    clear_value y8
    extract_lets +onlyGivenNames y9
    clear_value y9
    extract_lets +onlyGivenNames y10
    have h11 : Keeps 50505970 s y10 := by
      unfold y10
      refine Keeps.trans ?_ (Keeps.of (State.fput_keeps _ _ _) rfl)
      refine Keeps.trans ?_ (Keeps.of (State.fput_keeps _ _ _) rfl)
      exact Keeps.of (State.redMod_keeps _ _) rfl
    clear_value y10
    refine Keeps.ite ?_ ?_
    next =>
      extract_lets +onlyGivenNames y12
      have h13 : ∀ x14 x15, Keeps 50505970 x14 (y12 x14 x15) := by
        intro x14 x15
        unfold y12
        refine Keeps.trans ?_ (Keeps.of (State.fput_keeps _ _ _) rfl)
        exact Keeps.of (State.alarmLevel_keeps _ _ _ _ _) rfl
      clear_value y12
      extract_lets +onlyGivenNames y16
      have h17 : Keeps 50505970 s y16 := by
        unfold y16
        refine Keeps.ite ?_ ?_
        next =>
          refine Keeps.trans ?_ (h13 _ _)
          exact h11
        next =>
          exact h11
      clear_value y16
      refine Keeps.ite ?_ ?_
      next =>
        refine Keeps.trans ?_ (Keeps.of (State.takeOver_keeps _) rfl)
        exact h17
      next =>
        refine Keeps.ite ?_ ?_
        next =>
          refine Keeps.trans ?_ (Keeps.of (State.takeOver_keeps _) rfl)
          exact h17
        next =>
          refine Keeps.ite ?_ ?_
          next =>
            refine Keeps.trans ?_ (Keeps.of (State.redMod_keeps _ _) rfl)
            refine Keeps.ite ?_ ?_
            next =>
              refine Keeps.trans ?_ (h13 _ _)
              exact h17
            next =>
              exact h17
          next =>
            refine Keeps.ite ?_ ?_
            next =>
              refine Keeps.trans ?_ (Keeps.of (State.splitPolicy_keeps _) rfl)
              exact h17
            next =>
              refine Keeps.ite ?_ ?_
              next =>
                extract_lets +onlyGivenNames y18
                have h19 : Keeps 50505970 s y18 := by
                  unfold y18
                  refine Keeps.ite ?_ ?_
                  next =>
                    refine Keeps.trans ?_ (Keeps.of (State.fset_keeps _ _ _) rfl)
                    refine Keeps.trans ?_ (Keeps.of (State.clearAlarm_keeps _ _ _ _) rfl)
                    refine Keeps.trans ?_ (Keeps.of (State.fset_keeps _ _ _) rfl)
                    refine Keeps.trans ?_ (Keeps.of (State.clearAlarm_keeps _ _ _ _) rfl)
                    exact h17
                  next =>
                    exact h17
                clear_value y18
                refine Keeps.trans ?_ (Keeps.of (State.alarm_keeps _ _ _ _ _) rfl)
                refine Keeps.trans ?_ (Keeps.of (State.fput_keeps _ _ _) rfl)
                refine Keeps.trans ?_ (Keeps.of (State.setRole_keeps _ _) rfl)
                exact h19
              next =>
                extract_lets +onlyGivenNames y20
                clear_value y20
                extract_lets +onlyGivenNames y21
                have h22 : Keeps 50505970 s y21 := by
                  unfold y21
                  refine Keeps.trans ?_ (Keeps.of (State.fput_keeps _ _ _) rfl)
                  refine Keeps.trans ?_ (Keeps.of (State.alarmLevel_keeps _ _ _ _ _) rfl)
                  exact h17
                clear_value y21
                extract_lets +onlyGivenNames y23
                have h24 : Keeps 50505970 s y23 := by
                  unfold y23
                  refine Keeps.ite ?_ ?_
                  next =>
                    exact h22
                  next =>
                    refine Keeps.trans ?_ (h13 _ _)
                    exact h22
                clear_value y23
                refine Keeps.ite ?_ ?_
                next =>
                  refine Keeps.trans ?_ (Keeps.of (State.reqImage_keeps _) rfl)
                  refine Keeps.trans ?_ (Keeps.of (State.fset_keeps _ _ _) rfl)
                  refine Keeps.trans ?_ (Keeps.of (State.clearAlarm_keeps _ _ _ _) rfl)
                  refine Keeps.trans ?_ (Keeps.of (State.fset_keeps _ _ _) rfl)
                  refine Keeps.trans ?_ (Keeps.of (State.clearAlarm_keeps _ _ _ _) rfl)
                  refine Keeps.trans ?_ (Keeps.of (State.setRole_keeps _ _) rfl)
                  exact h24
                next =>
                  exact h24
    next =>
      exact h11

theorem State.leakTick_keeps (s) : Keeps 1073758208 s (State.leakTick s) := by
  unfold State.leakTick
  exact Keeps.of (State.leakTo_keeps _ _) rfl

theorem State.yieldKey_keeps (s) : Keeps 50497778 s (State.yieldKey s) := by
  unfold State.yieldKey
  refine Keeps.trans ?_ (Keeps.of (State.redMod_keeps _ _) rfl)
  exact Keeps.of (State.setRole_keeps _ _) rfl

theorem State.leaseTake_keeps (s v1 v2 v3) : Keeps 50505970 s (State.leaseTake s v1 v2 v3) := by
  unfold State.leaseTake
  extract_lets +onlyGivenNames y0
  clear_value y0
  extract_lets +onlyGivenNames y1
  clear_value y1
  extract_lets +onlyGivenNames y2
  have h3 : Keeps 50505970 s y2 := by
    unfold y2
    exact Keeps.of (State.noteEpoch_keeps _ _) rfl
  clear_value y2
  extract_lets +onlyGivenNames y4
  have h5 : Keeps 50505970 s y4 := by
    unfold y4
    refine Keeps.ite ?_ ?_
    next =>
      refine Keeps.trans ?_ (Keeps.of (State.redMod_keeps _ _) rfl)
      exact h3
    next =>
      exact h3
  clear_value y4
  extract_lets +onlyGivenNames y6
  have h7 : Keeps 50505970 s y6 := by
    unfold y6
    refine Keeps.ite ?_ ?_
    next =>
      refine Keeps.trans ?_ (Keeps.of (State.redMod_keeps _ _) rfl)
      exact h5
    next =>
      exact h5
  clear_value y6
  refine Keeps.ite ?_ ?_
  next =>
    refine Keeps.ite ?_ ?_
    next =>
      refine Keeps.ite ?_ ?_
      next =>
        refine Keeps.trans ?_ (Keeps.of (State.yieldKey_keeps _) rfl)
        refine Keeps.trans ?_ (Keeps.of (State.setEpoch_keeps _ _ _) rfl)
        exact h7
      next =>
        exact h7
    next =>
      refine Keeps.ite ?_ ?_
      next =>
        refine Keeps.trans ?_ (Keeps.of (State.redMod_keeps _ _) rfl)
        exact h7
      next =>
        refine Keeps.ite ?_ ?_
        next =>
          exact h7
        next =>
          extract_lets +onlyGivenNames y8
          clear_value y8
          extract_lets +onlyGivenNames y9
          clear_value y9
          extract_lets +onlyGivenNames y10
          have h11 : Keeps 50505970 s y10 := by
            unfold y10
            refine Keeps.trans ?_ (Keeps.of (State.setEpoch_keeps _ _ _) rfl)
            exact h7
          clear_value y10
          extract_lets +onlyGivenNames y12
          have h13 : Keeps 50505970 s y12 := by
            unfold y12
            refine Keeps.trans ?_ (Keeps.of (State.redMod_keeps _ _) rfl)
            exact h11
          clear_value y12
          extract_lets +onlyGivenNames y14
          clear_value y14
          extract_lets +onlyGivenNames y15
          have h16 : Keeps 50505970 s y15 := by
            unfold y15
            refine Keeps.trans ?_ (Keeps.of (State.fput_keeps _ _ _) rfl)
            refine Keeps.trans ?_ (Keeps.of (State.alarmLevel_keeps _ _ _ _ _) rfl)
            exact h13
          clear_value y15
          extract_lets +onlyGivenNames y17
          have h18 : Keeps 50505970 s y17 := by
            unfold y17
            refine Keeps.ite ?_ ?_
            next =>
              refine Keeps.trans ?_ (Keeps.of (State.reqGone_keeps _) rfl)
              exact h16
            next =>
              exact h16
          clear_value y17
          refine Keeps.ite ?_ ?_
          next =>
            refine Keeps.trans ?_ (Keeps.of (State.setRole_keeps _ _) rfl)
            exact h18
          next =>
            exact h18
  next =>
    refine Keeps.ite ?_ ?_
    next =>
      refine Keeps.trans ?_ (Keeps.of (State.redMod_keeps _ _) rfl)
      exact h7
    next =>
      exact h7

theorem State.leaseRx_keeps (s v1 v2) : Keeps 58894578 s (State.leaseRx s v1 v2) := by
  unfold State.leaseRx
  extract_lets +onlyGivenNames y0
  clear_value y0
  split
  next =>
    rename_i z1 z2
    have k3 : Keeps 58894578 s z1 := by
      refine Keeps.fst z2 ?_
      exact Keeps.of (State.pduIn_keeps _ _ _ _) rfl
    exact k3
  next =>
    rename_i z4 z5 z6
    have k7 : Keeps 58894578 s z4 := by
      refine Keeps.fst z6 ?_
      exact Keeps.of (State.pduIn_keeps _ _ _ _) rfl
    extract_lets +onlyGivenNames y8
    clear_value y8
    extract_lets +onlyGivenNames y9
    clear_value y9
    refine Keeps.ite ?_ ?_
    next =>
      exact k7
    next =>
      extract_lets +onlyGivenNames y10
      clear_value y10
      extract_lets +onlyGivenNames y11
      have h12 : Keeps 58894578 s y11 := by
        unfold y11
        refine Keeps.trans ?_ (Keeps.of (State.stagePdu_keeps _ _ _) rfl)
        exact k7
      clear_value y11
      extract_lets +onlyGivenNames y13
      clear_value y13
      extract_lets +onlyGivenNames y14
      clear_value y14
      extract_lets +onlyGivenNames y15
      clear_value y15
      extract_lets +onlyGivenNames y16
      clear_value y16
      extract_lets +onlyGivenNames y17
      clear_value y17
      extract_lets +onlyGivenNames y18
      have h19 : Keeps 58894578 s y18 := by
        unfold y18
        refine Keeps.ite ?_ ?_
        next =>
          refine Keeps.trans ?_ (Keeps.of (State.fset_keeps _ _ _) rfl)
          refine Keeps.trans ?_ (Keeps.of (State.spanPut_keeps _ _ _) rfl)
          exact h12
        next =>
          refine Keeps.trans ?_ (Keeps.of (State.fset_keeps _ _ _) rfl)
          exact h12
      clear_value y18
      extract_lets +onlyGivenNames y20
      clear_value y20
      extract_lets +onlyGivenNames y21
      clear_value y21
      extract_lets +onlyGivenNames y22
      have h23 : Keeps 58894578 s y22 := by
        unfold y22
        refine Keeps.trans ?_ (Keeps.of (State.leaseTake_keeps _ _ _ _) rfl)
        refine Keeps.trans ?_ (Keeps.of (State.showHealth_keeps _ _ _) rfl)
        refine Keeps.trans ?_ (Keeps.of (State.redMod_keeps _ _) rfl)
        exact h19
      clear_value y22
      refine Keeps.ite ?_ ?_
      next =>
        refine Keeps.trans ?_ (Keeps.of (State.redMod_keeps _ _) rfl)
        exact h23
      next =>
        exact h23

theorem State.ledgerCommit_keeps (s) : Keeps 8320 s (State.ledgerCommit s) := by
  unfold State.ledgerCommit
  refine Keeps.ite ?_ ?_
  next => exact Keeps.refl _
  next => exact Keeps.of (State.ledHead_keeps _) rfl

theorem State.chanLoss_keeps (s v1) : Keeps 67108928 s (State.chanLoss s v1) := by
  unfold State.chanLoss
  extract_lets +onlyGivenNames y0
  clear_value y0
  refine Keeps.ite ?_ ?_
  next => exact Keeps.of (State.chanPut_keeps _ _ _) rfl
  next => exact Keeps.refl _

theorem State.cycleDone_keeps (s v1 v2) : Keeps 536870976 s (State.cycleDone s v1 v2) := by
  unfold State.cycleDone
  extract_lets +onlyGivenNames y0
  clear_value y0
  split
  next => rename_i z1 z2; exact Keeps.refl _
  next =>
    rename_i z3 z4 z5
    extract_lets +onlyGivenNames y6
    have h7 : Keeps 536870976 s y6 := by unfold y6; exact Keeps.of (State.ltaskPut_keeps _ _ _) rfl
    clear_value y6
    extract_lets +onlyGivenNames y8
    clear_value y8
    extract_lets +onlyGivenNames y9
    have h10 : Keeps 536870976 s y9 := by
      unfold y9
      refine Keeps.trans ?_ (Keeps.of (State.fset_keeps _ _ _) rfl)
      exact h7
    clear_value y9
    refine Keeps.ite ?_ ?_
    next => refine Keeps.trans ?_ (Keeps.of (State.fset_keeps _ _ _) rfl); exact h10
    next => exact h10

theorem State.lgcMove_keeps (s v1) : Keeps 64 s (State.lgcMove s v1) := by
  unfold State.lgcMove
  extract_lets +onlyGivenNames y0
  clear_value y0
  extract_lets +onlyGivenNames y1
  clear_value y1
  refine Keeps.ite ?_ ?_
  next =>
    exact Keeps.of (State.fset_keeps _ _ _) rfl
  next =>
    exact Keeps.refl _

theorem State.cycTurn_keeps (s v1) : Keeps 537004226 s (State.cycTurn s v1) := by
  unfold State.cycTurn
  split
  extract_lets +onlyGivenNames y0
  clear_value y0
  extract_lets +onlyGivenNames y1
  clear_value y1
  extract_lets +onlyGivenNames y2
  have h3 : Keeps 537004226 s y2 := by
    unfold y2
    refine Keeps.trans ?_ (Keeps.of (State.ltaskPut_keeps _ _ _) rfl)
    exact Keeps.of (State.lgcMove_keeps _ _) rfl
  clear_value y2
  refine Keeps.ite ?_ ?_
  next =>
    refine Keeps.trans ?_ (Keeps.of (State.event_keeps _ _ _ _ _) rfl)
    refine Keeps.trans ?_ (Keeps.of (State.fup_keeps _ _) rfl)
    refine Keeps.trans ?_ (Keeps.of (State.fcount_keeps _ _ _) rfl)
    exact h3
  next =>
    split
    next =>
      refine Keeps.ite ?_ ?_
      next =>
        extract_lets +onlyGivenNames y4
        clear_value y4
        extract_lets +onlyGivenNames y5
        have h6 : Keeps 537004226 s y5 := by
          unfold y5
          refine Keeps.trans ?_ (Keeps.of (State.ltaskPut_keeps _ _ _) rfl)
          exact h3
        clear_value y5
        refine Keeps.ite ?_ ?_
        next =>
          refine Keeps.trans ?_ (Keeps.of (State.lgcStopped_keeps _) rfl)
          exact h6
        next =>
          exact h6
      next =>
        refine Keeps.trans ?_ (Keeps.of (State.lgcCycle_keeps _ _ _) rfl)
        exact h3
    next =>
      refine Keeps.trans ?_ (Keeps.of (State.lgcCycle_keeps _ _ _) rfl)
      exact h3

theorem State.cycleStart_keeps (s) : Keeps 671221954 s (State.cycleStart s) := by
  unfold State.cycleStart
  refine Keeps.ite ?_ ?_
  next =>
    exact Keeps.refl _
  next =>
    extract_lets +onlyGivenNames y0
    clear_value y0
    extract_lets +onlyGivenNames y1
    have h2 : Keeps 671221954 s y1 := by
      unfold y1
      refine Keeps.foldl ?_ ?_ _
      next =>
        exact Keeps.refl _
      next =>
        intro t3 x4
        split
        next =>
          refine Keeps.ite ?_ ?_
          next =>
            exact Keeps.of (State.lgcPublish_keeps _ _ _ _) rfl
          next =>
            exact Keeps.refl _
        next =>
          exact Keeps.refl _
    clear_value y1
    refine Keeps.foldl ?_ ?_ _
    next =>
      exact h2
    next =>
      intro t5 x6
      exact Keeps.of (State.cycTurn_keeps _ _) rfl

theorem State.lgcWatchdog_keeps (s) : Keeps 537036994 s (State.lgcWatchdog s) := by
  unfold State.lgcWatchdog
  refine Keeps.ite ?_ ?_
  next => exact Keeps.of (State.lgcFault_keeps _ _) rfl
  next => exact Keeps.refl _

theorem State.manComplete_keeps (s v1) : Keeps 67039222 s (State.manComplete s v1) := by
  unfold State.manComplete
  refine Keeps.ite ?_ ?_
  next =>
    exact Keeps.refl _
  next =>
    refine Keeps.ite ?_ ?_
    next =>
      refine Keeps.ite ?_ ?_
      next =>
        exact Keeps.of (State.followFrame_keeps _ _) rfl
      next =>
        exact Keeps.refl _
    next =>
      refine Keeps.ite ?_ ?_
      next =>
        exact Keeps.of (State.redMod_keeps _ _) rfl
      next =>
        exact Keeps.refl _

theorem State.manEpoch_keeps (s v1) : Keeps 16777280 s (State.manEpoch s v1) := by
  unfold State.manEpoch
  split
  next =>
    refine Keeps.ite ?_ ?_
    next =>
      exact Keeps.of (State.setEpoch_keeps _ _ _) rfl
    next =>
      exact Keeps.refl _
  next =>
    exact Keeps.refl _

theorem State.segPut_keeps (s v1 v2 v3) : Keeps 16777216 s (State.segPut s v1 v2 v3).1 := by
  unfold State.segPut
  extract_lets +onlyGivenNames y0
  clear_value y0
  split
  extract_lets +onlyGivenNames y1
  clear_value y1
  extract_lets +onlyGivenNames y2
  clear_value y2
  extract_lets +onlyGivenNames y3
  clear_value y3
  refine Keeps.ite1 ?_ ?_
  next =>
    refine Keeps.mk1 ?_
    exact Keeps.refl _
  next =>
    extract_lets +onlyGivenNames y4
    clear_value y4
    extract_lets +onlyGivenNames y5
    clear_value y5
    refine Keeps.mk1 ?_
    exact Keeps.of (State.redMod_keeps _ _) rfl

theorem State.stepNote_keeps (s v1) : Keeps 256 s (State.stepNote s v1) := by
  unfold State.stepNote
  refine Keeps.ite ?_ ?_
  next =>
    exact Keeps.refl _
  next =>
    exact Keeps.of (State.timeMod_keeps _ _) rfl

theorem State.suppRx_keeps (s v1) : Keeps 655424 s (State.suppRx s v1) := by
  unfold State.suppRx
  refine Keeps.ite ?_ ?_
  next =>
    exact Keeps.refl _
  next =>
    extract_lets +onlyGivenNames y0
    clear_value y0
    extract_lets +onlyGivenNames y1
    clear_value y1
    extract_lets +onlyGivenNames y2
    have h3 : Keeps 655424 s y2 := by
      unfold y2
      refine Keeps.upd_retro rfl ?_ _
      exact Keeps.refl _
    clear_value y2
    refine Keeps.ite ?_ ?_
    next =>
      exact h3
    next =>
      refine Keeps.trans ?_ (Keeps.of (State.stage_keeps _ _ _ _) rfl)
      exact h3

theorem State.manifestRx_keeps (s v1 v2) : Keeps 67039222 s (State.manifestRx s v1 v2) := by
  unfold State.manifestRx
  split
  next =>
    rename_i z0 z1
    have k2 : Keeps 67039222 s z0 := by
      refine Keeps.fst z1 ?_
      exact Keeps.of (State.pduIn_keeps _ _ _ _) rfl
    exact k2
  next =>
    rename_i z3 z4 z5
    have k6 : Keeps 67039222 s z3 := by
      refine Keeps.fst z5 ?_
      exact Keeps.of (State.pduIn_keeps _ _ _ _) rfl
    extract_lets +onlyGivenNames y7
    have h8 : Keeps 67039222 s y7 := by
      unfold y7
      refine Keeps.ite ?_ ?_
      next =>
        refine Keeps.trans ?_ (Keeps.of (State.noteEpoch_keeps _ _) rfl)
        exact k6
      next =>
        refine Keeps.trans ?_ (Keeps.of (State.manEpoch_keeps _ _) rfl)
        refine Keeps.trans ?_ (Keeps.of (State.noteEpoch_keeps _ _) rfl)
        exact k6
    clear_value y7
    refine Keeps.ite ?_ ?_
    next =>
      exact h8
    next =>
      extract_lets +onlyGivenNames y9
      clear_value y9
      split
      next =>
        rename_i z10 z11
        have k12 : Keeps 67039222 s z10 := by
          refine Keeps.fst z11 ?_
          refine Keeps.trans ?_ (Keeps.of (State.segPut_keeps _ _ _ _) rfl)
          exact h8
        exact k12
      next =>
        rename_i z13 z14 z15
        have k16 : Keeps 67039222 s z13 := by
          refine Keeps.fst z15 ?_
          refine Keeps.trans ?_ (Keeps.of (State.segPut_keeps _ _ _ _) rfl)
          exact h8
        refine Keeps.ite ?_ ?_
        next =>
          refine Keeps.trans ?_ (Keeps.of (State.suppRx_keeps _ _) rfl)
          exact k16
        next =>
          extract_lets +onlyGivenNames y17
          clear_value y17
          extract_lets +onlyGivenNames y18
          have h19 : Keeps 67039222 s y18 := by
            unfold y18
            refine Keeps.ite ?_ ?_
            next =>
              refine Keeps.trans ?_ (Keeps.of (State.redMod_keeps _ _) rfl)
              exact k16
            next =>
              exact k16
          clear_value y18
          refine Keeps.ite ?_ ?_
          next =>
            exact h19
          next =>
            refine Keeps.trans ?_ (Keeps.of (State.manComplete_keeps _ _) rfl)
            refine Keeps.trans ?_ (Keeps.of (State.stepNote_keeps _ _) rfl)
            exact h19

theorem State.reform_keeps (s v1) : Keeps 452806 s (State.reform s v1) := by
  unfold State.reform
  refine Keeps.foldl ?_ ?_ _
  next =>
    exact Keeps.refl _
  next =>
    intro t0 x1
    extract_lets +onlyGivenNames y2
    have h3 : Keeps 452806 t0 y2 := by
      unfold y2
      exact Keeps.of (State.formCtx_keeps _ _ _) rfl
    clear_value y2
    extract_lets +onlyGivenNames y4
    clear_value y4
    refine Keeps.trans ?_ (Keeps.of (State.ctxPut_keeps _ _ _) rfl)
    exact h3

theorem State.unfollow_keeps (s) : Keeps 67038966 s (State.unfollow s) := by
  unfold State.unfollow
  extract_lets +onlyGivenNames y0
  clear_value y0
  extract_lets +onlyGivenNames y1
  have h2 : Keeps 67038966 s y1 := by
    unfold y1
    refine Keeps.trans ?_ (Keeps.of (State.retroAdopt_keeps _ _) rfl)
    refine Keeps.trans ?_ (Keeps.of (State.conclude_keeps _ _) rfl)
    refine Keeps.trans ?_ (Keeps.of (State.markUnfol_keeps _ _) rfl)
    exact Keeps.of (State.reform_keeps _ _) rfl
  clear_value y1
  extract_lets +onlyGivenNames y3
  have h4 : Keeps 67038966 s y3 := by
    unfold y3
    refine Keeps.trans ?_ (Keeps.of (State.reqImage_keeps _) rfl)
    refine Keeps.trans ?_ (Keeps.of (State.ownInputs_keeps _) rfl)
    exact h2
  clear_value y3
  extract_lets +onlyGivenNames y5
  clear_value y5
  refine Keeps.trans ?_ (Keeps.of (State.redMod_keeps _ _) rfl)
  refine Keeps.trans ?_ (Keeps.of (State.stage_keeps _ _ _ _) rfl)
  exact h4

theorem State.ydPin_keeps (s v1) : Keeps 4294967296 s (State.ydPin s v1) := by
  unfold State.ydPin
  refine Keeps.ite ?_ ?_
  next => exact Keeps.refl _
  next => exact Keeps.of (State.ydMod_keeps _ _) rfl

theorem State.modClear_keeps (s v1 v2) : Keeps 268601538 s (State.modClear s v1 v2) := by
  unfold State.modClear
  refine Keeps.ite ?_ ?_
  next => exact Keeps.refl _
  next =>
    refine Keeps.trans ?_ (Keeps.of (State.sdfWindow_keeps _ _ _) rfl)
    refine Keeps.trans ?_ (Keeps.of (State.clearAlarm_keeps _ _ _ _) rfl)
    exact Keeps.of (State.sdfFlag_keeps _ _ _ _) rfl

theorem State.modFault_keeps (s v1) : Keeps 1132636402 s (State.modFault s v1) := by
  unfold State.modFault
  refine Keeps.ite ?_ ?_
  next =>
    exact Keeps.refl _
  next =>
    extract_lets +onlyGivenNames y0
    have h1 : Keeps 1132636402 s y0 := by
      unfold y0
      refine Keeps.trans ?_ (Keeps.of (State.alarm_keeps _ _ _ _ _) rfl)
      refine Keeps.trans ?_ (Keeps.of (State.sdfFlag_keeps _ _ _ _) rfl)
      exact Keeps.of (State.sdfFlag_keeps _ _ _ _) rfl
    clear_value y0
    refine Keeps.trans ?_ (Keeps.of (State.sdfEnables_keeps _ _) rfl)
    exact h1

theorem State.sdfRunLen_keeps (s v1 v2 v3) : Keeps 1401071858 s (State.sdfRunLen s v1 v2 v3) := by
  unfold State.sdfRunLen
  split
  next =>
    exact Keeps.refl _
  next =>
    extract_lets +onlyGivenNames y0
    clear_value y0
    extract_lets +onlyGivenNames y1
    clear_value y1
    extract_lets +onlyGivenNames y2
    have h3 : Keeps 1401071858 s y2 := by
      unfold y2
      exact Keeps.of (State.sdfPut_keeps _ _ _) rfl
    clear_value y2
    refine Keeps.ite ?_ ?_
    next =>
      refine Keeps.ite ?_ ?_
      next =>
        exact h3
      next =>
        refine Keeps.trans ?_ (Keeps.of (State.modFault_keeps _ _) rfl)
        exact h3
    next =>
      refine Keeps.ite ?_ ?_
      next =>
        refine Keeps.trans ?_ (Keeps.of (State.modClear_keeps _ _ _) rfl)
        exact h3
      next =>
        exact h3

theorem State.sdfSample_keeps (s v1 v2 v3) : Keeps 1401071858 s (State.sdfSample s v1 v2 v3) := by
  unfold State.sdfSample
  split
  next => rename_i z0 z1; exact Keeps.refl _
  next =>
    rename_i z2 z3 z4
    refine Keeps.ite ?_ ?_
    next => exact Keeps.of (State.sdfPut_keeps _ _ _) rfl
    next =>
      extract_lets +onlyGivenNames y5
      clear_value y5
      extract_lets +onlyGivenNames y6
      clear_value y6
      extract_lets +onlyGivenNames y7
      clear_value y7
      extract_lets +onlyGivenNames y8
      clear_value y8
      extract_lets +onlyGivenNames y9
      clear_value y9
      split
      rename_i z10 z11 z12 z13 z14
      split
      rename_i z15 z16 z17 z18 z19
      extract_lets +onlyGivenNames y20
      have h21 : Keeps 1401071858 s y20 := by unfold y20; exact Keeps.of (State.sdfPut_keeps _ _ _) rfl
      clear_value y20
      refine Keeps.trans ?_ (Keeps.of (State.sdfEvents_keeps _ _ _ _) rfl)
      exact h21

theorem State.sdfBit_keeps (s v1 v2) : Keeps 1401071858 s (State.sdfBit s v1 v2) := by
  unfold State.sdfBit
  split
  next => rename_i z0 z1; exact Keeps.refl _
  next =>
    rename_i z2 z3 z4
    extract_lets +onlyGivenNames y5
    clear_value y5
    extract_lets +onlyGivenNames y6
    clear_value y6
    extract_lets +onlyGivenNames y7
    have h8 : Keeps 1401071858 s y7 := by unfold y7; exact Keeps.of (State.sdfRunLen_keeps _ _ _ _) rfl
    clear_value y7
    split
    next => rename_i z9 z10; exact h8
    next =>
      rename_i z11 z12 z13
      split
      rename_i z14 z15 z16 z17 z18
      extract_lets +onlyGivenNames y19
      have h20 : Keeps 1401071858 s y19 := by
        unfold y19
        refine Keeps.trans ?_ (Keeps.of (State.sdfPut_keeps _ _ _) rfl)
        exact h8
      clear_value y19
      extract_lets +onlyGivenNames y21
      clear_value y21
      split
      next => rename_i z22 z23; refine Keeps.trans ?_ (Keeps.of (State.sdfSample_keeps _ _ _ _) rfl); exact h20
      next => rename_i z24; exact h20

theorem State.sdfPair_keeps (s v1 v2) : Keeps 1401071858 s (State.sdfPair s v1 v2) := by
  unfold State.sdfPair
  extract_lets +onlyGivenNames y0
  have h1 : Keeps 1401071858 s y0 := by
    unfold y0
    exact Keeps.of (State.sdfBit_keeps _ _ _) rfl
  clear_value y0
  refine Keeps.trans ?_ (Keeps.of (State.sdfBit_keeps _ _ _) rfl)
  exact h1

theorem State.sdfFeed_keeps (s v1 v2) : Keeps 1401071858 s (State.sdfFeed s v1 v2) := by
  unfold State.sdfFeed
  refine Keeps.ite ?_ ?_
  next =>
    refine Keeps.foldl ?_ ?_ _
    next =>
      exact Keeps.refl _
    next =>
      intro t0 x1
      exact Keeps.of (State.sdfPair_keeps _ _ _) rfl
  next =>
    exact Keeps.refl _

theorem State.mpcStop_keeps (s v1 v2 v3 v4) : Keeps 4194372 s (State.mpcStop s v1 v2 v3 v4) := by
  unfold State.mpcStop
  split
  next =>
    exact Keeps.refl _
  next =>
    refine Keeps.ite ?_ ?_
    next =>
      exact Keeps.refl _
    next =>
      refine Keeps.ite ?_ ?_
      next =>
        refine Keeps.trans ?_ (Keeps.of (State.tick1_keeps _) rfl)
        exact Keeps.of (State.mpcEnd_keeps _ _ _) rfl
      next =>
        exact Keeps.of (State.mpcEnd_keeps _ _ _) rfl

theorem State.navData_keeps (s v1) : Keeps 67108928 s (State.navData s v1) := by
  unfold State.navData
  refine Keeps.ite ?_ ?_
  next => exact Keeps.refl _
  next =>
    extract_lets +onlyGivenNames y0
    clear_value y0
    extract_lets +onlyGivenNames y1
    have h2 : Keeps 67108928 s y1 := by unfold y1; exact Keeps.of (State.gnsMod_keeps _ _) rfl
    clear_value y1
    extract_lets +onlyGivenNames y3
    have h4 : Keeps 67108928 s y3 := by
      unfold y3
      refine Keeps.ite ?_ ?_
      next => exact h2
      next =>
        refine Keeps.foldl ?_ ?_ _
        next => exact h2
        next =>
          intro t5 x6
          extract_lets +onlyGivenNames y7
          clear_value y7
          refine Keeps.ite ?_ ?_
          next => exact Keeps.of (State.chanPut_keeps _ _ _) rfl
          next => exact Keeps.refl _
    clear_value y3
    extract_lets +onlyGivenNames y8
    have h9 : Keeps 67108928 s y8 := by
      unfold y8
      split
      next =>
        rename_i z10 z11 z12 z13
        refine Keeps.trans ?_ (Keeps.of (State.fput_keeps _ _ _) rfl)
        refine Keeps.trans ?_ (Keeps.of (State.fset_keeps _ _ _) rfl)
        refine Keeps.trans ?_ (Keeps.of (State.gnsMod_keeps _ _) rfl)
        exact h4
      next => rename_i z14 z15; exact h4
    clear_value y8
    refine Keeps.trans ?_ (Keeps.of (State.showNav_keeps _) rfl)
    exact h9

end Sys2Proof.Machine
end

