-- ==== Sys2Proof/Laws/Keeps9.lean ====
section
/-!
SUPPORT. Operations keep what `Keeps` says, callees before callers: part 9 of 10.
-/

namespace Sys2Proof.Machine

theorem State.specCheck_keeps (s) : Keeps 4194368 s (State.specCheck s) := by
  unfold State.specCheck
  extract_lets +onlyGivenNames y0
  clear_value y0
  extract_lets +onlyGivenNames y1
  have h2 : Keeps 4194368 s y1 := by
    unfold y1
    refine Keeps.ite ?_ ?_
    next =>
      exact Keeps.of (State.slvMod_keeps _ _) rfl
    next =>
      exact Keeps.refl _
  clear_value y1
  extract_lets +onlyGivenNames y3
  have h4 : Keeps 4194368 s y3 := by
    unfold y3
    split
    next =>
      refine Keeps.ite ?_ ?_
      next =>
        refine Keeps.ite ?_ ?_
        next =>
          refine Keeps.trans ?_ (Keeps.of (State.showMpc_keeps _) rfl)
          refine Keeps.trans ?_ (Keeps.of (State.fcount_keeps _ _ _) rfl)
          refine Keeps.trans ?_ (Keeps.of (State.slvMod_keeps _ _) rfl)
          exact h2
        next =>
          refine Keeps.trans ?_ (Keeps.of (State.showMpc_keeps _) rfl)
          refine Keeps.trans ?_ (Keeps.of (State.fcount_keeps _ _ _) rfl)
          refine Keeps.trans ?_ (Keeps.of (State.slvMod_keeps _ _) rfl)
          exact h2
      next =>
        exact h2
    next =>
      exact h2
  clear_value y3
  refine Keeps.ite ?_ ?_
  next =>
    refine Keeps.trans ?_ (Keeps.of (State.scenStart_keeps _ _) rfl)
    exact h4
  next =>
    exact h4

theorem State.observerPhase_keeps (s) : Keeps 7794374 s (State.observerPhase s) := by
  unfold State.observerPhase
  refine Keeps.ite ?_ ?_
  next =>
    extract_lets +onlyGivenNames y0
    have h1 : Keeps 7794374 s y0 := by
      unfold y0
      refine Keeps.trans ?_ (Keeps.of (State.specCheck_keeps _) rfl)
      refine State.onInputs_keeps rfl _ _ ?_
      intro t2
      exact Keeps.of (State.obsCommit_keeps _) rfl
    clear_value y0
    refine Keeps.trans ?_ (Keeps.of (State.ckptFix_keeps _) rfl)
    refine Keeps.trans ?_ (State.onInputs_keeps rfl _ _ ?_)
    next =>
      refine Keeps.trans ?_ (State.onInputs_keeps rfl _ _ ?_)
      next => exact h1
      next => intro t3; exact Keeps.of (State.applyAt_keeps _ _) rfl
    next => intro t4; exact Keeps.of (State.obsProp_keeps _) rfl
  next => exact Keeps.refl _

theorem State.outputFault_keeps (s v1) : Keeps 1132636402 s (State.outputFault s v1) := by
  unfold State.outputFault
  refine Keeps.ite ?_ ?_
  next =>
    exact Keeps.refl _
  next =>
    extract_lets +onlyGivenNames y0
    clear_value y0
    refine Keeps.trans ?_ (Keeps.of (State.safMod_keeps _ _) rfl)
    exact Keeps.of (State.chanFault_keeps _ _ _ _ _) rfl

theorem State.bandStep_keeps (s) : Keeps 2147483712 s (State.bandStep s) := by
  unfold State.bandStep
  extract_lets +onlyGivenNames y0
  clear_value y0
  refine Keeps.ite ?_ ?_
  next => refine Keeps.trans ?_ (Keeps.of (State.fset_keeps _ _ _) rfl); exact Keeps.of (State.pnlMod_keeps _ _) rfl
  next =>
    extract_lets +onlyGivenNames y1
    clear_value y1
    extract_lets +onlyGivenNames y2
    clear_value y2
    extract_lets +onlyGivenNames y3
    clear_value y3
    extract_lets +onlyGivenNames y4
    clear_value y4
    refine Keeps.trans ?_ (Keeps.of (State.fset_keeps _ _ _) rfl)
    refine Keeps.trans ?_ (Keeps.of (State.fset_keeps _ _ _) rfl)
    exact Keeps.of (State.pnlMod_keeps _ _) rfl

theorem State.podDrive_keeps (s v1) : Keeps 2147483712 s (State.podDrive s v1) := by
  unfold State.podDrive
  extract_lets +onlyGivenNames y0
  clear_value y0
  split
  next => rename_i z1 z2; exact Keeps.refl _
  next =>
    rename_i z3 z4 z5
    extract_lets +onlyGivenNames y6
    have h7 : Keeps 2147483712 s y6 := by
      unfold y6
      refine Keeps.foldl ?_ ?_ _
      next => exact Keeps.refl _
      next =>
        intro t8 x9
        split
        rename_i z10 z11 z12 z13
        extract_lets +onlyGivenNames y14
        clear_value y14
        extract_lets +onlyGivenNames y15
        have h16 : Keeps 2147483712 t8 y15 := by unfold y15; exact Keeps.of (State.pnlMod_keeps _ _) rfl
        clear_value y15
        refine Keeps.ite ?_ ?_
        next => refine Keeps.trans ?_ (Keeps.of (State.fup_keeps _ _) rfl); exact h16
        next => exact h16
    clear_value y6
    extract_lets +onlyGivenNames y17
    have h18 : Keeps 2147483712 s y17 := by
      unfold y17
      refine Keeps.trans ?_ (Keeps.of (State.podPut_keeps _ _ _) rfl)
      exact h7
    clear_value y17
    refine Keeps.ite ?_ ?_
    next => refine Keeps.trans ?_ (Keeps.of (State.finc_keeps _ _) rfl); exact h18
    next => exact h18

theorem State.podEnd_keeps (s v1) : Keeps 2147616962 s (State.podEnd s v1) := by
  unfold State.podEnd
  extract_lets +onlyGivenNames y0
  clear_value y0
  split
  next => rename_i z1 z2; exact Keeps.refl _
  next =>
    rename_i z3 z4 z5
    refine Keeps.ite ?_ ?_
    next => exact Keeps.refl _
    next =>
      refine Keeps.ite ?_ ?_
      next =>
        split
        next => rename_i z6 z7 z8; exact Keeps.of (State.podPut_keeps _ _ _) rfl
        next => rename_i z9 z10; exact Keeps.of (State.podPut_keeps _ _ _) rfl
      next =>
        extract_lets +onlyGivenNames y11
        have h12 : Keeps 2147616962 s y11 := by unfold y11; exact Keeps.of (State.pnlMod_keeps _ _) rfl
        clear_value y11
        refine Keeps.trans ?_ (Keeps.of (State.event_keeps _ _ _ _ _) rfl)
        refine Keeps.trans ?_ (Keeps.of (State.finc_keeps _ _) rfl)
        refine Keeps.trans ?_ (Keeps.of (State.podPut_keeps _ _ _) rfl)
        exact h12

theorem State.podStart_keeps (s v1 v2) : Keeps 2147483648 s (State.podStart s v1 v2) := by
  unfold State.podStart
  extract_lets +onlyGivenNames y0
  clear_value y0
  refine Keeps.ite ?_ ?_
  next => exact Keeps.refl _
  next =>
    split
    next =>
      rename_i z1 z2 z3
      refine Keeps.ite ?_ ?_
      next => exact Keeps.of (State.podPut_keeps _ _ _) rfl
      next =>
        split
        next => rename_i z4 z5 z6; exact Keeps.of (State.podPut_keeps _ _ _) rfl
        next => rename_i z7 z8; exact Keeps.of (State.podPut_keeps _ _ _) rfl
    next =>
      rename_i z9 z10
      split
      next => rename_i z11 z12 z13; exact Keeps.of (State.podPut_keeps _ _ _) rfl
      next => rename_i z14 z15; exact Keeps.refl _

theorem State.panelFrame_keeps (s) : Keeps 2147616962 s (State.panelFrame s) := by
  unfold State.panelFrame
  extract_lets +onlyGivenNames y0
  clear_value y0
  refine Keeps.ite ?_ ?_
  next => exact Keeps.refl _
  next =>
    extract_lets +onlyGivenNames y1
    have h2 : Keeps 2147616962 s y1 := by
      unfold y1
      refine Keeps.trans ?_ (Keeps.of (State.bandStep_keeps _) rfl)
      exact Keeps.of (State.pnlMod_keeps _ _) rfl
    clear_value y1
    extract_lets +onlyGivenNames y3
    clear_value y3
    extract_lets +onlyGivenNames y4
    have h5 : Keeps 2147616962 s y4 := by
      unfold y4
      refine Keeps.foldl ?_ ?_ _
      next => exact h2
      next => intro t6 x7; exact Keeps.of (State.podEnd_keeps _ _) rfl
    clear_value y4
    extract_lets +onlyGivenNames y8
    clear_value y8
    extract_lets +onlyGivenNames y9
    clear_value y9
    refine Keeps.ite ?_ ?_
    next =>
      refine Keeps.ite ?_ ?_
      next =>
        refine Keeps.trans ?_ (Keeps.of (State.showPnl_keeps _) rfl)
        refine Keeps.trans ?_ (Keeps.of (State.send_keeps _ _ _) rfl)
        refine Keeps.trans ?_ (Keeps.of (State.pnlMod_keeps _ _) rfl)
        exact h5
      next => refine Keeps.trans ?_ (Keeps.of (State.showPnl_keeps _) rfl); exact h5
    next =>
      extract_lets +onlyGivenNames y10
      have h11 : Keeps 2147616962 s y10 := by
        unfold y10
        refine Keeps.ite ?_ ?_
        next =>
          refine Keeps.foldl ?_ ?_ _
          next => exact h5
          next => intro t12 x13; exact Keeps.of (State.podStart_keeps _ _ _) rfl
        next => exact h5
      clear_value y10
      extract_lets +onlyGivenNames y14
      have h15 : Keeps 2147616962 s y14 := by
        unfold y14
        refine Keeps.trans ?_ (Keeps.of (State.send_keeps _ _ _) rfl)
        exact h11
      clear_value y14
      extract_lets +onlyGivenNames y16
      have h17 : Keeps 2147616962 s y16 := by
        unfold y16
        refine Keeps.foldl ?_ ?_ _
        next => exact h15
        next => intro t18 x19; exact Keeps.of (State.podDrive_keeps _ _) rfl
      clear_value y16
      refine Keeps.trans ?_ (Keeps.of (State.showPnl_keeps _) rfl)
      refine Keeps.ite ?_ ?_
      next => exact h17
      next => refine Keeps.trans ?_ (Keeps.of (State.pnlMod_keeps _ _) rfl); exact h17

theorem State.pathLoss_keeps (s) : Keeps 50505970 s (State.pathLoss s) := by
  unfold State.pathLoss
  extract_lets +onlyGivenNames y0
  clear_value y0
  refine Keeps.ite ?_ ?_
  next => exact Keeps.of (State.holderLinks_keeps _) rfl
  next =>
    extract_lets +onlyGivenNames y1
    clear_value y1
    refine Keeps.ite ?_ ?_
    next => exact Keeps.of (State.declareFail_keeps _ _) rfl
    next => exact Keeps.of (State.holderLinks_keeps _) rfl

theorem State.lateEvent_keeps (s) : Keeps 133314 s (State.lateEvent s) := by
  unfold State.lateEvent
  exact Keeps.of (State.event_keeps _ _ _ _ _) rfl

theorem State.observerLate_keeps (s) : Keeps 24571590 s (State.observerLate s) := by
  unfold State.observerLate
  extract_lets +onlyGivenNames y0
  have h1 : Keeps 24571590 s y0 := by
    unfold y0
    refine Keeps.trans ?_ (State.onInputs_keeps rfl _ _ ?_)
    next =>
      refine Keeps.trans ?_ (Keeps.of (State.specCheck_keeps _) rfl)
      refine State.onInputs_keeps rfl _ _ ?_
      intro t2
      exact Keeps.of (State.obsLate_keeps _) rfl
    next => intro t3; exact Keeps.of (State.applyAt_keeps _ _) rfl
  clear_value y0
  refine Keeps.trans ?_ (Keeps.of (State.lateBit_keeps _ _) rfl)
  refine Keeps.trans ?_ (Keeps.of (State.fup_keeps _ _) rfl)
  refine Keeps.trans ?_ (Keeps.of (State.ckptFix_keeps _) rfl)
  exact h1

theorem State.phaseLate_keeps (s v1) : Keeps 24571590 s (State.phaseLate s v1) := by
  unfold State.phaseLate
  extract_lets +onlyGivenNames y0
  clear_value y0
  split
  next =>
    rename_i z1
    refine Keeps.ite ?_ ?_
    next =>
      refine Keeps.trans ?_ (Keeps.of (State.lateEvent_keeps _) rfl)
      refine Keeps.trans ?_ (Keeps.of (State.lateBit_keeps _ _) rfl)
      refine Keeps.trans ?_ (Keeps.of (State.fup_keeps _ _) rfl)
      refine State.onInputs_keeps rfl _ _ ?_
      intro t2
      exact Keeps.of (State.fuseLate_keeps _) rfl
    next => exact Keeps.refl _
  next =>
    rename_i z3
    refine Keeps.ite ?_ ?_
    next =>
      refine Keeps.trans ?_ (Keeps.of (State.lateEvent_keeps _) rfl)
      exact Keeps.of (State.observerLate_keeps _) rfl
    next => exact Keeps.refl _
  next =>
    rename_i z4
    refine Keeps.ite ?_ ?_
    next =>
      refine Keeps.trans ?_ (Keeps.of (State.lateBit_keeps _ _) rfl)
      exact Keeps.of (State.controlLate_keeps _) rfl
    next => exact Keeps.refl _
  next =>
    rename_i z5
    refine Keeps.ite ?_ ?_
    next =>
      refine Keeps.trans ?_ (Keeps.of (State.lateBit_keeps _ _) rfl)
      exact Keeps.of (State.profUndo_keeps _) rfl
    next => exact Keeps.refl _
  next =>
    rename_i z6
    split
    next =>
      rename_i z7 z8 z9
      refine Keeps.ite ?_ ?_
      next =>
        refine Keeps.trans ?_ (Keeps.of (State.lateEvent_keeps _) rfl)
        refine Keeps.trans ?_ (Keeps.of (State.lateBit_keeps _ _) rfl)
        exact Keeps.of (State.fup_keeps _ _) rfl
      next => exact Keeps.refl _
    next => rename_i z10 z11; exact Keeps.refl _
  next =>
    rename_i z12
    split
    next =>
      rename_i z13 z14 z15
      refine Keeps.ite ?_ ?_
      next =>
        refine Keeps.trans ?_ (Keeps.of (State.lateEvent_keeps _) rfl)
        refine Keeps.trans ?_ (Keeps.of (State.lateBit_keeps _ _) rfl)
        exact Keeps.of (State.fup_keeps _ _) rfl
      next => exact Keeps.refl _
    next => rename_i z16 z17; exact Keeps.refl _
  next => rename_i z18 z19 z20 z21 z22 z23 z24; exact Keeps.refl _

theorem State.d0Restore_keeps (s) : Keeps 33566912 s (State.d0Restore s) := by
  unfold State.d0Restore
  refine Keeps.trans ?_ (Keeps.of (State.ledger_keeps _ _ _) rfl)
  refine Keeps.trans ?_ (Keeps.of (State.fup_keeps _ _) rfl)
  refine Keeps.trans ?_ (Keeps.of (State.fset_keeps _ _ _) rfl)
  refine Keeps.trans ?_ (Keeps.of (State.fset_keeps _ _ _) rfl)
  refine Keeps.trans ?_ (Keeps.of (State.safMod_keeps _ _) rfl)
  refine Keeps.trans ?_ (Keeps.of (State.fset_keeps _ _ _) rfl)
  refine Keeps.trans ?_ (Keeps.of (State.fset_keeps _ _ _) rfl)
  refine Keeps.upd_sys_d0 rfl (b := { s with mem := memDrop (fun r => r == rgnLed) s.mem }) ?_ _ _
  exact Keeps.of (Keeps.mem s _ (memDrop_wf _ s.mem)) rfl

theorem State.porStart_keeps (s v1) : Keeps 8589933560 s (State.porStart s v1) := by
  unfold State.porStart
  extract_lets +onlyGivenNames y0
  have h1 : Keeps 8589933560 s y0 := by
    unfold y0
    refine Keeps.trans ?_ (Keeps.of (State.fput_keeps _ _ _) rfl)
    exact Keeps.of (State.restart_keeps _ _) rfl
  clear_value y0
  extract_lets +onlyGivenNames y2
  have h3 : Keeps 8589933560 s y2 := by
    unfold y2
    refine Keeps.ite ?_ ?_
    next => refine Keeps.trans ?_ (Keeps.of (State.d0Restore_keeps _) rfl); exact h1
    next => exact h1
  clear_value y2
  refine Keeps.trans ?_ (Keeps.of (State.sysMod_keeps _ _) rfl)
  exact h3

theorem State.powerOn_keeps (s) : Keeps 8589933560 s (State.powerOn s) := by
  unfold State.powerOn
  refine Keeps.ite ?_ ?_
  next => exact Keeps.of (State.porStart_keeps _ _) rfl
  next => exact Keeps.refl _

theorem State.linkChange_keeps (s v1 v2 v3) : Keeps 190658 s (State.linkChange s v1 v2 v3) := by
  unfold State.linkChange
  refine Keeps.ite ?_ ?_
  next => exact Keeps.refl _
  next =>
    refine Keeps.ite ?_ ?_
    next => exact Keeps.refl _
    next =>
      extract_lets +onlyGivenNames y0
      clear_value y0
      extract_lets +onlyGivenNames y1
      have h2 : Keeps 190658 s y1 := by
        unfold y1
        refine Keeps.trans ?_ (Keeps.of (State.fput_keeps _ _ _) rfl)
        exact Keeps.of (State.fput_keeps _ _ _) rfl
      clear_value y1
      refine Keeps.ite ?_ ?_
      next => exact h2
      next =>
        extract_lets +onlyGivenNames y3
        have h4 : Keeps 190658 s y3 := by
          unfold y3
          refine Keeps.trans ?_ (Keeps.of (State.event_keeps _ _ _ _ _) rfl)
          exact h2
        clear_value y3
        refine Keeps.ite ?_ ?_
        next => refine Keeps.trans ?_ (Keeps.of (State.igmpReports_keeps _ _) rfl); exact h4
        next =>
          split
          rename_i z5 z6 z7 z8
          have k9 : Keeps 190658 s z6 := by
            refine Keeps.fst z8 ?_
            refine Keeps.trans ?_ (Keeps.of (State.fltErr_keeps _ _ _) rfl)
            exact h4
          refine Keeps.ite ?_ ?_
          next => refine Keeps.trans ?_ (Keeps.of (State.fup_keeps _ _) rfl); exact k9
          next => exact k9

theorem State.portChange_keeps (s v1 v2 v3 v4) : Keeps 190658 s (State.portChange s v1 v2 v3 v4) := by
  unfold State.portChange
  extract_lets +onlyGivenNames y0
  have h1 : Keeps 190658 s y0 := by
    unfold y0
    exact Keeps.of (State.linkChange_keeps _ _ _ _) rfl
  clear_value y0
  refine Keeps.ite ?_ ?_
  next =>
    refine Keeps.ite ?_ ?_
    next =>
      exact h1
    next =>
      refine Keeps.trans ?_ (Keeps.of (State.fcount_keeps _ _ _) rfl)
      exact h1
  next =>
    refine Keeps.ite ?_ ?_
    next =>
      exact h1
    next =>
      extract_lets +onlyGivenNames y2
      have h3 : Keeps 190658 s y2 := by
        unfold y2
        refine Keeps.ite ?_ ?_
        next =>
          refine Keeps.trans ?_ (Keeps.of (State.retCleared_keeps _ _ _) rfl)
          exact h1
        next =>
          exact h1
      clear_value y2
      extract_lets +onlyGivenNames y4
      have h5 : Keeps 190658 s y4 := by
        unfold y4
        refine Keeps.trans ?_ (Keeps.of (State.fcount_keeps _ _ _) rfl)
        exact h3
      clear_value y4
      refine Keeps.ite ?_ ?_
      next =>
        exact h5
      next =>
        split
        rename_i z6 z7 z8
        have k9 : Keeps 190658 s z6 := by
          refine Keeps.fst z8 ?_
          refine Keeps.trans ?_ (Keeps.of (State.fltErr_keeps _ _ _) rfl)
          exact h5
        refine Keeps.ite ?_ ?_
        next =>
          refine Keeps.trans ?_ (Keeps.of (State.fup_keeps _ _) rfl)
          exact k9
        next =>
          exact k9

theorem State.primaryRevert_keeps (s) : Keeps 8521922 s (State.primaryRevert s) := by
  unfold State.primaryRevert
  extract_lets +onlyGivenNames y0
  clear_value y0
  refine Keeps.ite ?_ ?_
  next => exact Keeps.of (State.domSwitch_keeps _ _ _) rfl
  next => exact Keeps.refl _

theorem State.lgcExchange_keeps (s v1) : Keeps 537036994 s (State.lgcExchange s v1) := by
  unfold State.lgcExchange
  split
  next =>
    exact Keeps.refl _
  next =>
    split
    refine Keeps.ite ?_ ?_
    next =>
      refine Keeps.trans ?_ (Keeps.of (State.lgcMod_keeps _ _) rfl)
      exact Keeps.of (State.fset_keeps _ _ _) rfl
    next =>
      extract_lets +onlyGivenNames y0
      clear_value y0
      extract_lets +onlyGivenNames y1
      have h2 : Keeps 537036994 s y1 := by
        unfold y1
        refine Keeps.trans ?_ (Keeps.of (State.lgcInstall_keeps _ _ _ _) rfl)
        refine Keeps.trans ?_ (Keeps.of (State.lgcMod_keeps _ _) rfl)
        refine Keeps.trans ?_ (Keeps.of (State.ptHold_keeps _) rfl)
        exact Keeps.of (State.lgcIdle_keeps _) rfl
      clear_value y1
      refine Keeps.trans ?_ (Keeps.of (State.lgcStart_keeps _ _) rfl)
      exact h2

theorem State.programExchange_keeps (s) : Keeps 4294901758 s (State.programExchange s) := by
  unfold State.programExchange
  split
  next => rename_i z0 z1; exact Keeps.refl _
  next =>
    rename_i z2 z3 z4
    refine Keeps.ite ?_ ?_
    next => exact Keeps.refl _
    next =>
      extract_lets +onlyGivenNames y5
      have h6 : Keeps 4294901758 s y5 := by unfold y5; exact Keeps.of (State.lgcExchange_keeps _ _) rfl
      clear_value y5
      refine Keeps.trans ?_ (Keeps.of (State.pump_keeps _) rfl)
      refine Keeps.trans ?_ (Keeps.of (State.finish_keeps _ _ _) rfl)
      exact h6

theorem State.ptpSend_keeps (s v1 v2 v3) : Keeps 8388674 s (State.ptpSend s v1 v2 v3) := by
  unfold State.ptpSend
  split
  next =>
    exact Keeps.refl _
  next =>
    extract_lets +onlyGivenNames y0
    clear_value y0
    extract_lets +onlyGivenNames y1
    have h2 : ∀ x3, Keeps 8388674 x3 (y1 x3) := by
      intro x3
      unfold y1
      exact Keeps.of (State.ptpMod_keeps _ _) rfl
    clear_value y1
    extract_lets +onlyGivenNames y4
    clear_value y4
    extract_lets +onlyGivenNames y5
    clear_value y5
    extract_lets +onlyGivenNames y6
    have h7 : ∀ x8, Keeps 8388674 x8 (y6 x8) := by
      intro x8
      unfold y6
      exact Keeps.of (State.domPut_keeps _ _ _) rfl
    clear_value y6
    split
    next =>
      refine Keeps.ite ?_ ?_
      next =>
        refine Keeps.trans ?_ (h2 _)
        refine Keeps.trans ?_ (Keeps.of (State.ptpOut_keeps _ _ _ _ _ _ _ _ _ _) rfl)
        exact Keeps.of (State.ptpOut_keeps _ _ _ _ _ _ _ _ _ _) rfl
      next =>
        exact Keeps.refl _
    next =>
      split
      next =>
        refine Keeps.ite ?_ ?_
        next =>
          refine Keeps.trans ?_ (h2 _)
          exact Keeps.of (State.ptpOut_keeps _ _ _ _ _ _ _ _ _ _) rfl
        next =>
          exact Keeps.refl _
      next =>
        exact Keeps.refl _
    next =>
      refine Keeps.ite ?_ ?_
      next =>
        refine Keeps.ite ?_ ?_
        next =>
          refine Keeps.trans ?_ (h2 _)
          refine Keeps.trans ?_ (h7 _)
          exact Keeps.of (State.ptpOut_keeps _ _ _ _ _ _ _ _ _ _) rfl
        next =>
          exact Keeps.refl _
      next =>
        refine Keeps.ite ?_ ?_
        next =>
          refine Keeps.trans ?_ (h2 _)
          refine Keeps.trans ?_ (h7 _)
          exact Keeps.of (State.ptpOut_keeps _ _ _ _ _ _ _ _ _ _) rfl
        next =>
          exact Keeps.refl _

theorem State.railTimeout_keeps (s v1) : Keeps 12416 s (State.railTimeout s v1) := by
  unfold State.railTimeout
  refine Keeps.ite ?_ ?_
  next => exact Keeps.refl _
  next =>
    extract_lets +onlyGivenNames y0
    clear_value y0
    extract_lets +onlyGivenNames y1
    have h2 : Keeps 12416 s y1 := by unfold y1; exact Keeps.of (State.ledPut_keeps _ _) rfl
    clear_value y1
    refine Keeps.trans ?_ (Keeps.of (State.sysMod_keeps _ _) rfl)
    exact h2

theorem State.recBlockSend_keeps (s) : Keeps 131138 s (State.recBlockSend s) := by
  unfold State.recBlockSend
  split
  next =>
    rename_i z0 z1 z2 z3
    refine Keeps.ite ?_ ?_
    next =>
      split
      next => rename_i z4 z5 z6; exact Keeps.of (State.recSend_keeps _ _ _) rfl
      next => rename_i z7 z8; exact Keeps.refl _
    next => exact Keeps.refl _
  next => rename_i z9 z10; exact Keeps.refl _

theorem State.recBlockWrite_keeps (s) : Keeps 131268 s (State.recBlockWrite s) := by
  unfold State.recBlockWrite
  refine Keeps.ite ?_ ?_
  next => exact Keeps.refl _
  next =>
    split
    next => rename_i z0 z1 z2; exact Keeps.of (State.recFlash_keeps _ _) rfl
    next => rename_i z3 z4; exact Keeps.refl _

theorem State.recCheckpoint_keeps (s) : Keeps 131136 s (State.recCheckpoint s) := by
  unfold State.recCheckpoint
  refine Keeps.ite ?_ ?_
  next => exact Keeps.refl _
  next =>
    extract_lets +onlyGivenNames y0
    clear_value y0
    extract_lets +onlyGivenNames y1
    clear_value y1
    refine Keeps.trans ?_ (Keeps.of (State.recMod_keeps _ _) rfl)
    exact Keeps.of (State.stage_keeps _ _ _ _) rfl

theorem State.refineMinute_keeps (s) : Keeps 1048640 s (State.refineMinute s) := by
  unfold State.refineMinute
  refine Keeps.ite ?_ ?_
  next =>
    exact Keeps.refl _
  next =>
    exact Keeps.of (State.refineAt_keeps _) rfl

theorem State.lgcAdopt_keeps (s v1) : Keeps 536870912 s (State.lgcAdopt s v1) := by
  unfold State.lgcAdopt
  refine Keeps.foldl ?_ ?_ _
  next =>
    exact Keeps.refl _
  next =>
    intro t0 x1
    extract_lets +onlyGivenNames y2
    clear_value y2
    exact Keeps.of (State.ltaskPut_keeps _ _ _) rfl

theorem State.imgAdopt_keeps (s v1 v2 v3) : Keeps 561512768 s (State.imgAdopt s v1 v2 v3) := by
  unfold State.imgAdopt
  extract_lets +onlyGivenNames y0
  clear_value y0
  extract_lets +onlyGivenNames y1
  clear_value y1
  extract_lets +onlyGivenNames y2
  clear_value y2
  extract_lets +onlyGivenNames y3
  clear_value y3
  extract_lets +onlyGivenNames y4
  clear_value y4
  extract_lets +onlyGivenNames y5
  clear_value y5
  extract_lets +onlyGivenNames y6
  have h7 : Keeps 561512768 s y6 := by
    unfold y6
    refine Keeps.upd_retro_fus_cex_slv_lgc rfl ?_ _ _ _ _ _
    exact Keeps.refl _
  clear_value y6
  extract_lets +onlyGivenNames y8
  have h9 : Keeps 561512768 s y8 := by
    unfold y8
    refine Keeps.trans ?_ (Keeps.of (State.timeMod_keeps _ _) rfl)
    refine Keeps.trans ?_ (Keeps.of (State.fset_keeps _ _ _) rfl)
    refine Keeps.trans ?_ (Keeps.of (State.fput_keeps _ _ _) rfl)
    exact h7
  clear_value y8
  extract_lets +onlyGivenNames y10
  have h11 : Keeps 561512768 s y10 := by
    unfold y10
    refine Keeps.foldl ?_ ?_ _
    next =>
      exact h9
    next =>
      intro t12 x13
      exact Keeps.of (State.setReg_keeps _ _ _) rfl
  clear_value y10
  extract_lets +onlyGivenNames y14
  have h15 : Keeps 561512768 s y14 := by
    unfold y14
    refine Keeps.trans ?_ (Keeps.of (State.redMod_keeps _ _) rfl)
    exact h11
  clear_value y14
  refine Keeps.trans ?_ (Keeps.of (State.fset_keeps _ _ _) rfl)
  refine Keeps.trans ?_ (Keeps.of (State.finc_keeps _ _) rfl)
  refine Keeps.trans ?_ (Keeps.of (State.lgcAdopt_keeps _ _) rfl)
  refine Keeps.trans ?_ (Keeps.of (State.showMpc_keeps _) rfl)
  refine Keeps.trans ?_ (Keeps.of (State.showFunc_keeps _) rfl)
  refine Keeps.trans ?_ (Keeps.of (State.fusShow_keeps _ _) rfl)
  exact h15

theorem State.loadObjs_keeps (s v1) : Keeps 64 s (State.loadObjs s v1) := by
  unfold State.loadObjs
  refine Keeps.foldl ?_ ?_ _
  next => exact Keeps.refl _
  next => intro t0 x1; exact Keeps.of (State.loadObj_keeps _ _) rfl

theorem State.rplArea_keeps (s v1 v2) (h1 : s.storesWf = true → RegFile.wf v1.regs = true) :
    Keeps 25035632 s (State.rplArea s v1 v2) := by
  refine ⟨fun w => ?_, rfl⟩
  have hr := h1 w
  simp only [State.storesWf, State.rplWf, Bool.and_eq_true] at w
  simp only [State.rplArea, State.storesWf, State.rplWf, Bool.and_eq_true]
  exact ⟨⟨w.1.1, hr⟩, w.2⟩

theorem State.rplBack_keeps (s t : State) (f : Replay → Replay) (hf : ∀ q, (f q).regs = t.regs)
    (ht : s.storesWf = true → t.storesWf = true) : Keeps 1073741824 s (s.rplMod f) := by
  refine Keeps.of (Keeps.rpl s _ (fun w r e => ?_)) rfl
  have h := ht w
  simp only [State.storesWf, Bool.and_eq_true] at h
  cases h2 : s.dia.rpl with
  | none => simp [h2] at e
  | some q =>
    simp only [h2, Option.map_some, Option.some.injEq] at e
    rw [← e, hf]; exact h.1.2

theorem State.rplLoad_keeps (s v1) (h1 : s.storesWf = true → RegFile.wf v1.regs = true) :
    Keeps 1635648368 s (State.rplLoad s v1) := by
  unfold State.rplLoad
  split
  · exact Keeps.of (State.rplStop_keeps _ _) rfl
  · split
    · exact Keeps.of (State.rplStop_keeps _ _) rfl
    · refine Keeps.ite (Keeps.of (State.rplStop_keeps _ _) rfl) (Keeps.ite (Keeps.of (State.rplStop_keeps _ _) rfl) ?_)
      extract_lets +onlyGivenNames secs
      split
      · exact Keeps.of (State.rplStop_keeps _ _) rfl
      · extract_lets +onlyGivenNames area
        extract_lets +onlyGivenNames t
        extract_lets +onlyGivenNames t1
        have ha : Keeps 1635648368 s area := (Keeps.of (State.rplArea_keeps s _ _ h1) rfl).trans (Keeps.of (State.loadObjs_keeps _ _) rfl)
        have ht : Keeps 1635648368 s t := ha.trans (Keeps.of (State.imgAdopt_keeps _ _ _ _) rfl)
        have ht1 : Keeps 1635648368 s t1 := ht.trans (Keeps.of (State.redMod_keeps _ _) rfl)
        clear_value t1
        exact (Keeps.of (State.rplBack_keeps s t1 _ (fun _ => rfl) ht1.stores) rfl).trans (Keeps.of (State.showRpl_keeps _ _ _) rfl)

theorem State.rplOutput_keeps (s v1) : Keeps 4194304 s (State.rplOutput s v1).1 := by
  unfold State.rplOutput
  extract_lets +onlyGivenNames y0
  clear_value y0
  split
  next => rename_i z1 z2; dsimp only; exact Keeps.refl _
  next =>
    rename_i z3 z4 z5
    extract_lets +onlyGivenNames y6
    clear_value y6
    extract_lets +onlyGivenNames y7
    clear_value y7
    extract_lets +onlyGivenNames y8
    clear_value y8
    extract_lets +onlyGivenNames y9
    clear_value y9
    extract_lets +onlyGivenNames y10
    clear_value y10
    extract_lets +onlyGivenNames y11
    clear_value y11
    extract_lets +onlyGivenNames y12
    clear_value y12
    dsimp only
    exact Keeps.of (State.allocPut_keeps _ _) rfl

theorem State.rplOutputs_keeps (s v1 v2) : Keeps 4194304 s (State.rplOutputs s v1 v2).1 := by
  unfold State.rplOutputs
  refine Keeps.foldl1 ?_ ?_ _
  next => dsimp only; exact Keeps.refl _
  next => rintro ⟨t0, y1⟩ x2; dsimp only; exact Keeps.of (State.rplOutput_keeps _ _) rfl

theorem State.rplPdus_keeps (s v1 v2) : Keeps 20971520 s (State.rplPdus s v1 v2) := by
  unfold State.rplPdus
  refine Keeps.foldl ?_ ?_ _
  next => exact Keeps.refl _
  next =>
    intro t0 x1
    split
    next => rename_i z2 z3 z4; exact Keeps.of (State.obsPayload_keeps _ _ _) rfl
    next => rename_i z5 z6; exact Keeps.refl _

theorem State.rplRetro_keeps (s v1) : Keeps 2097152 s (State.rplRetro s v1) := by
  unfold State.rplRetro
  split
  next =>
    exact Keeps.refl _
  next =>
    extract_lets +onlyGivenNames y0
    clear_value y0
    extract_lets +onlyGivenNames y1
    clear_value y1
    exact Keeps.of (State.cexMod_keeps _ _) rfl

theorem State.rplSlots_keeps (s v1 v2) : Keeps 4194368 s (State.rplSlots s v1 v2) := by
  unfold State.rplSlots
  extract_lets +onlyGivenNames y0
  have h1 : Keeps 4194368 s y0 := by
    unfold y0
    refine Keeps.foldl ?_ ?_ _
    next =>
      exact Keeps.refl _
    next =>
      intro t2 x3
      split
      next =>
        exact Keeps.refl _
      next =>
        extract_lets +onlyGivenNames y4
        clear_value y4
        refine Keeps.ite ?_ ?_
        next =>
          exact Keeps.refl _
        next =>
          exact Keeps.of (State.slotStop_keeps _ _ _ _ _) rfl
  clear_value y0
  split
  next =>
    refine Keeps.trans ?_ (Keeps.of (State.allocPut_keeps _ _) rfl)
    exact h1
  next =>
    exact h1

theorem State.rplFrame_keeps (s v1 v2 v3 v4) : Keeps 67039222 s (State.rplFrame s v1 v2 v3 v4).1 := by
  unfold State.rplFrame
  extract_lets +onlyGivenNames y0
  clear_value y0
  split
  rename_i z1 z2 z3
  have k4 : Keeps 67039222 s z1 := by
    refine Keeps.fst z3 ?_
    exact Keeps.of (State.rplOutputs_keeps _ _ _) rfl
  extract_lets +onlyGivenNames y5
  have h6 : Keeps 67039222 s y5 := by
    unfold y5
    refine Keeps.trans ?_ (Keeps.of (State.timeMod_keeps _ _) rfl)
    refine Keeps.trans ?_ (Keeps.of (State.settle_keeps _ _) rfl)
    exact k4
  clear_value y5
  extract_lets +onlyGivenNames y7
  clear_value y7
  extract_lets +onlyGivenNames y8
  clear_value y8
  extract_lets +onlyGivenNames y9
  have h10 : Keeps 67039222 s y9 := by
    unfold y9
    refine Keeps.trans ?_ (Keeps.of (State.retroAdopt_keeps _ _) rfl)
    refine Keeps.trans ?_ (Keeps.of (State.refineAt_keeps _) rfl)
    refine Keeps.trans ?_ (Keeps.of (State.fusBoundary_keeps _) rfl)
    refine Keeps.trans ?_ (Keeps.of (State.tauTake_keeps _ _) rfl)
    refine Keeps.trans ?_ (Keeps.of (State.redTurn_keeps _) rfl)
    exact h6
  clear_value y9
  extract_lets +onlyGivenNames y11
  clear_value y11
  extract_lets +onlyGivenNames y12
  clear_value y12
  extract_lets +onlyGivenNames y13
  have h14 : Keeps 67039222 s y13 := by
    unfold y13
    refine Keeps.trans ?_ (Keeps.of (State.redMod_keeps _ _) rfl)
    refine Keeps.upd_op rfl (b := y9) ?_ _
    exact h10
  clear_value y13
  extract_lets +onlyGivenNames y15
  have h16 : Keeps 67039222 s y15 := by
    unfold y15
    refine Keeps.trans ?_ (Keeps.of (State.judgePaths_keeps _) rfl)
    refine Keeps.foldl ?_ ?_ _
    next =>
      exact h14
    next =>
      intro t17 x18
      exact Keeps.of (State.statTake_keeps _ _ _) rfl
  clear_value y15
  extract_lets +onlyGivenNames y19
  have h20 : Keeps 67039222 s y19 := by
    unfold y19
    split
    next =>
      refine Keeps.trans ?_ (Keeps.of (State.mpcListed_keeps _ _) rfl)
      exact h16
    next =>
      exact h16
  clear_value y19
  extract_lets +onlyGivenNames y21
  have h22 : Keeps 67039222 s y21 := by
    unfold y21
    refine Keeps.trans ?_ (Keeps.of (State.applyAt_keeps _ _) rfl)
    refine Keeps.trans ?_ (Keeps.of (State.redoPush_keeps _) rfl)
    refine Keeps.trans ?_ (Keeps.of (State.snapshot_keeps _ _) rfl)
    refine Keeps.trans ?_ (Keeps.of (State.ckptPush_keeps _ _) rfl)
    refine Keeps.trans ?_ (Keeps.of (State.applyAt_keeps _ _) rfl)
    exact h20
  clear_value y21
  extract_lets +onlyGivenNames y23
  have h24 : Keeps 67039222 s y23 := by
    unfold y23
    refine Keeps.ite ?_ ?_
    next =>
      refine Keeps.trans ?_ (Keeps.of (State.profileLate_keeps _) rfl)
      exact h22
    next =>
      refine Keeps.trans ?_ (Keeps.of (State.profileStep_keeps _) rfl)
      exact h22
  clear_value y23
  extract_lets +onlyGivenNames y25
  have h26 : Keeps 67039222 s y25 := by
    unfold y25
    refine Keeps.trans ?_ (State.onInputs_keeps rfl _ _ ?_)
    next =>
      exact h24
    next =>
      intro t27
      refine Keeps.ite ?_ ?_
      next =>
        exact Keeps.of (State.fuseLate_keeps _) rfl
      next =>
        exact Keeps.of (State.fuse_keeps _ _) rfl
  clear_value y25
  extract_lets +onlyGivenNames y28
  have h29 : Keeps 67039222 s y28 := by
    unfold y28
    refine Keeps.trans ?_ (State.onInputs_keeps rfl _ _ ?_)
    next =>
      refine Keeps.trans ?_ (State.onInputs_keeps rfl _ _ ?_)
      next =>
        exact h26
      next =>
        intro t30
        refine Keeps.ite ?_ ?_
        next =>
          exact Keeps.of (State.obsLate_keeps _) rfl
        next =>
          exact Keeps.of (State.obsCommit_keeps _) rfl
    next =>
      intro t31
      exact Keeps.of (State.applyAt_keeps _ _) rfl
  clear_value y28
  extract_lets +onlyGivenNames y32
  have h33 : Keeps 67039222 s y32 := by
    unfold y32
    refine Keeps.ite ?_ ?_
    next =>
      exact h29
    next =>
      refine Keeps.trans ?_ (State.onInputs_keeps rfl _ _ ?_)
      next =>
        exact h29
      next =>
        intro t34
        exact Keeps.of (State.obsProp_keeps _) rfl
  clear_value y32
  extract_lets +onlyGivenNames y35
  have h36 : Keeps 67039222 s y35 := by
    unfold y35
    refine Keeps.trans ?_ (State.onInputs_keeps rfl _ _ ?_)
    next =>
      refine Keeps.trans ?_ (Keeps.of (State.ckptFix_keeps _) rfl)
      exact h33
    next =>
      intro t37
      refine Keeps.ite ?_ ?_
      next =>
        exact Keeps.of (State.controlLate_keeps _) rfl
      next =>
        exact Keeps.of (State.controlLaw_keeps _) rfl
  clear_value y35
  extract_lets +onlyGivenNames y38
  have h39 : Keeps 67039222 s y38 := by
    unfold y38
    refine Keeps.ite ?_ ?_
    next =>
      refine Keeps.trans ?_ (State.onInputs_keeps rfl _ _ ?_)
      next =>
        exact h36
      next =>
        intro t40
        exact Keeps.of (State.obsProp_keeps _) rfl
    next =>
      exact h36
  clear_value y38
  extract_lets +onlyGivenNames y41
  have h42 : Keeps 67039222 s y41 := by
    unfold y41
    refine Keeps.trans ?_ (Keeps.of (State.rplPdus_keeps _ _ _) rfl)
    refine Keeps.trans ?_ (Keeps.of (State.rplSlots_keeps _ _ _) rfl)
    refine Keeps.trans ?_ (Keeps.of (State.allocStart_keeps _) rfl)
    exact h39
  clear_value y41
  split
  rename_i z43 z44 z45
  have k46 : Keeps 67039222 s z43 := by
    refine Keeps.fst z45 ?_
    refine Keeps.trans ?_ (Keeps.of (State.rplOutputs_keeps _ _ _) rfl)
    exact h42
  extract_lets +onlyGivenNames y47
  have h48 : Keeps 67039222 s y47 := by
    unfold y47
    refine Keeps.trans ?_ (Keeps.of (State.applyAt_keeps _ _) rfl)
    refine Keeps.trans ?_ (Keeps.of (State.rplRetro_keeps _ _) rfl)
    exact k46
  clear_value y47
  extract_lets +onlyGivenNames y49
  clear_value y49
  extract_lets +onlyGivenNames y50
  clear_value y50
  refine Keeps.mk1 ?_
  refine Keeps.upd_recd rfl (b := y47) ?_ _
  exact h48

theorem State.rplReport_keeps (s v1 v2) : Keeps 133314 s (State.rplReport s v1 v2) := by
  unfold State.rplReport
  extract_lets +onlyGivenNames y0
  extract_lets +onlyGivenNames y1
  have h2 : Keeps 133314 s y1 := by
    unfold y1
    refine Keeps.foldl ?_ ?_ _
    next => exact Keeps.refl _
    next =>
      intro t3 x4
      refine Keeps.trans ?_ (Keeps.of (State.finc_keeps _ _) rfl)
      exact Keeps.of (State.event_keeps _ _ _ _ _) rfl
  clear_value y1
  extract_lets +onlyGivenNames y5
  have h6 : Keeps 133314 s y5 := by
    unfold y5
    refine Keeps.trans ?_ (Keeps.of (State.fset_keeps _ _ _) rfl)
    refine Keeps.trans ?_ (Keeps.of (State.finc_keeps _ _) rfl)
    exact h2
  clear_value y5
  refine Keeps.ite ?_ ?_
  next => refine Keeps.trans ?_ (Keeps.of (State.rplStop_keeps _ _) rfl); exact h6
  next => exact h6

theorem State.rplOne_keeps (s v1 v2) (h1 : s.storesWf = true → RegFile.wf v1.regs = true) :
    Keeps 1140781046 s (State.rplOne s v1 v2) := by
  unfold State.rplOne
  split
  · exact Keeps.refl _
  · extract_lets +onlyGivenNames n
    clear_value n
    extract_lets +onlyGivenNames grp
    clear_value grp
    extract_lets +onlyGivenNames next
    clear_value next
    split
    · exact Keeps.refl _
    · extract_lets +onlyGivenNames m
      clear_value m
      refine Keeps.ite (Keeps.of (State.rplStop_keeps _ _) rfl) (Keeps.ite (Keeps.of (State.rplStop_keeps _ _) rfl) ?_)
      extract_lets +onlyGivenNames nf
      clear_value nf
      split
      rename_i t ds e
      have ht : Keeps 1140781046 s t := Keeps.fst e ((Keeps.of (State.rplArea_keeps s _ _ h1) rfl).trans (Keeps.of (State.rplFrame_keeps _ _ _ _ _) rfl))
      exact (Keeps.of (State.rplBack_keeps s t _ (fun _ => rfl) ht.stores) rfl).trans (Keeps.of (State.rplReport_keeps _ _ _) rfl)

theorem rplEnt_regs (r : Replay) (e : RecIn) : (rplEnt r e).regs = r.regs := by
  unfold rplEnt
  split
  · rfl
  · split
    · rfl
    · split <;> rfl

theorem rplEnts_regs (l : List RecIn) (r : Replay) : (l.foldl rplEnt r).regs = r.regs := by
  induction l generalizing r with
  | nil => rfl
  | cons e l ih => rw [List.foldl_cons, ih, rplEnt_regs]

theorem rplTake_regs (r : Replay) (b : List Byte) : (rplTake r b).1.regs = r.regs := by
  unfold rplTake
  split
  · rfl
  · extract_lets +onlyGivenNames q
    extract_lets +onlyGivenNames inOrder
    split
    · rfl
    · extract_lets +onlyGivenNames body
      extract_lets +onlyGivenNames first
      extract_lets +onlyGivenNames new
      split
      split
      exact rplEnts_regs _ _

theorem State.rplNext_regs (s : State) (r r1 : Replay) (b : List Byte) (h : s.rplNext r = some (b, r1)) :
    r1.regs = r.regs := by
  unfold State.rplNext at h
  split at h
  · dsimp only at h
    split at h
    · cases h
    · cases h; rfl
  · split at h
    · cases h
    · cases h; rfl

theorem State.rplPull_regs (s : State) (n : Nat) (r : Replay) : (s.rplPull n r).1.regs = r.regs := by
  induction n generalizing r with
  | zero => rfl
  | succ n ih =>
    unfold State.rplPull
    split
    · rfl
    · split
      · rfl
      · next b r1 e =>
        have h1 := s.rplNext_regs r r1 b e
        have h2 := rplTake_regs r1 b
        generalize rplTake r1 b = p at h2 ⊢
        obtain ⟨r2, ok⟩ := p
        dsimp only at h2 ⊢
        split
        · rw [ih, h2, h1]
        · rw [h2, h1]

theorem State.replayFrame_keeps (s) : Keeps 1677651958 s (State.replayFrame s) := by
  unfold State.replayFrame
  split
  · exact Keeps.refl _
  · next r0 e0 =>
    extract_lets +onlyGivenNames st
    refine Keeps.ite (Keeps.refl _) ?_
    generalize (if r0.flash = true then recRing / 4096 + 1 else 65) = n
    have hp := s.rplPull_regs n r0
    generalize s.rplPull n r0 = p at hp ⊢
    obtain ⟨r, got⟩ := p
    dsimp only at hp ⊢
    have hw : s.storesWf = true → RegFile.wf r.regs = true := by
      intro w
      simp only [State.storesWf, State.rplWf, e0, Bool.and_eq_true] at w
      rw [hp]; exact w.2
    have h1 : Keeps 1677651958 s (s.diaMod (fun d => { d with rpl := some r })) :=
      Keeps.of (Keeps.rpl s _ (fun w q e => by cases e; exact hw w)) rfl
    have hd : (s.diaMod (fun d => { d with rpl := some r })).dia.rpl = some r := rfl
    generalize s.diaMod (fun d => { d with rpl := some r }) = s0 at h1 hd ⊢
    have h2 : Keeps 1677651958 s (s0.showRpl (if r.run.isSome = true then rplRunning else rplLoading) 0) :=
      h1.trans (Keeps.of (State.showRpl_keeps _ _ _) rfl)
    have hd1 : (s0.showRpl (if r.run.isSome = true then rplRunning else rplLoading) 0).dia.rpl = some r := hd
    generalize s0.showRpl (if r.run.isSome = true then rplRunning else rplLoading) 0 = s1 at h2 hd1 ⊢
    have hw1 : s1.storesWf = true → RegFile.wf r.regs = true := by
      intro w
      simp only [State.storesWf, State.rplWf, hd1, Bool.and_eq_true] at w
      exact w.2
    have load : Keeps 1677651958 s (s1.rplLoad r) := h2.trans (Keeps.of (State.rplLoad_keeps s1 r hw1) rfl)
    have one : ∀ objs, Keeps 1677651958 s (s1.rplOne r objs) := fun objs => h2.trans (Keeps.of (State.rplOne_keeps s1 r objs hw1) rfl)
    split
    · exact h2.trans (Keeps.of (State.rplStop_keeps _ _) rfl)
    · exact load
    · exact one _
    · exact Keeps.ite load (h2.trans (Keeps.of (State.showRpl_keeps _ _ _) rfl))
    · refine Keeps.ite ?_ (h2.trans (Keeps.of (State.showRpl_keeps _ _ _) rfl))
      exact Keeps.ite (one _) ((one _).trans (Keeps.of (State.showRpl_keeps _ _ _) rfl))

theorem State.release_keeps (s v1 v2) : Keeps 1132640498 s (State.release s v1 v2) := by
  unfold State.release
  refine Keeps.ite ?_ ?_
  next => exact Keeps.refl _
  next =>
    extract_lets +onlyGivenNames y0
    clear_value y0
    extract_lets +onlyGivenNames y1
    have h2 : Keeps 1132640498 s y1 := by unfold y1; exact Keeps.of (State.sysMod_keeps _ _) rfl
    clear_value y1
    refine Keeps.ite ?_ ?_
    next => exact h2
    next => refine Keeps.trans ?_ (Keeps.of (State.safPowerOn_keeps _) rfl); exact h2

theorem State.imgDrop_keeps (s) : Keeps 16910530 s (State.imgDrop s) := by
  unfold State.imgDrop
  extract_lets +onlyGivenNames y0
  have h1 : Keeps 16910530 s y0 := by unfold y0; exact Keeps.of (State.redMod_keeps _ _) rfl
  clear_value y0
  refine Keeps.trans ?_ (Keeps.of (State.event_keeps _ _ _ _ _) rfl)
  refine Keeps.trans ?_ (Keeps.of (State.fup_keeps _ _) rfl)
  refine Keeps.trans ?_ (Keeps.of (State.fset_keeps _ _ _) rfl)
  exact h1

theorem State.resyncFail_keeps (s) : Keeps 16910530 s (State.resyncFail s) := by
  unfold State.resyncFail
  extract_lets +onlyGivenNames y0
  clear_value y0
  refine Keeps.ite ?_ ?_
  next => exact Keeps.of (State.imgDrop_keeps _) rfl
  next => exact Keeps.refl _

theorem State.retroTrim_keeps (s) : Keeps 524352 s (State.retroTrim s) := by
  unfold State.retroTrim
  extract_lets +onlyGivenNames y0
  clear_value y0
  extract_lets +onlyGivenNames y1
  clear_value y1
  extract_lets +onlyGivenNames y2
  clear_value y2
  extract_lets +onlyGivenNames y3
  clear_value y3
  extract_lets +onlyGivenNames y4
  have h5 : Keeps 524352 s y4 := by
    unfold y4
    exact Keeps.of (State.fcount_keeps _ _ _) rfl
  clear_value y4
  refine Keeps.upd_retro rfl (b := y4) ?_ _
  exact h5

theorem State.retroStart_keeps (s) : Keeps 2621504 s (State.retroStart s) := by
  unfold State.retroStart
  refine Keeps.ite ?_ ?_
  next =>
    exact Keeps.refl _
  next =>
    extract_lets +onlyGivenNames y0
    have h1 : Keeps 2621504 s y0 := by
      unfold y0
      exact Keeps.of (State.retroTrim_keeps _) rfl
    clear_value y0
    extract_lets +onlyGivenNames y2
    clear_value y2
    extract_lets +onlyGivenNames y3
    clear_value y3
    refine Keeps.ite ?_ ?_
    next =>
      exact h1
    next =>
      refine Keeps.trans ?_ (Keeps.of (State.cexMod_keeps _ _) rfl)
      exact h1

theorem State.retroDone_keeps (s) : Keeps 19398720 s (State.retroDone s) := by
  unfold State.retroDone
  split
  next =>
    exact Keeps.refl _
  next =>
    refine Keeps.ite ?_ ?_
    next =>
      exact Keeps.refl _
    next =>
      extract_lets +onlyGivenNames y0
      have h1 : Keeps 19398720 s y0 := by
        unfold y0
        exact Keeps.of (State.cexMod_keeps _ _) rfl
      clear_value y0
      split
      next =>
        exact h1
      next =>
        extract_lets +onlyGivenNames y2
        have h3 : Keeps 19398720 s y2 := by
          unfold y2
          refine Keeps.trans ?_ (Keeps.of (State.satFlags_keeps _ _ _) rfl)
          exact h1
        clear_value y2
        refine Keeps.ite ?_ ?_
        next =>
          refine Keeps.trans ?_ (Keeps.of (State.cexMod_keeps _ _) rfl)
          exact h3
        next =>
          refine Keeps.trans ?_ (Keeps.of (State.redMod_keeps _ _) rfl)
          refine Keeps.trans ?_ (Keeps.of (State.retroTake_keeps _ _ _) rfl)
          exact h3

theorem State.retroSupp_keeps (s) : Keeps 9044034 s (State.retroSupp s) := by
  unfold State.retroSupp
  refine Keeps.ite ?_ ?_
  next =>
    exact Keeps.refl _
  next =>
    extract_lets +onlyGivenNames y0
    have h1 : Keeps 9044034 s y0 := by
      unfold y0
      exact Keeps.of (State.retroTrim_keeps _) rfl
    clear_value y0
    extract_lets +onlyGivenNames y2
    clear_value y2
    extract_lets +onlyGivenNames y3
    clear_value y3
    split
    next =>
      exact h1
    next =>
      extract_lets +onlyGivenNames y4
      clear_value y4
      extract_lets +onlyGivenNames y5
      clear_value y5
      extract_lets +onlyGivenNames y6
      have h7 : Keeps 9044034 s y6 := by
        unfold y6
        refine Keeps.trans ?_ (Keeps.of (State.manSend_keeps _ _ _) rfl)
        exact h1
      clear_value y6
      refine Keeps.ite ?_ ?_
      next =>
        exact h7
      next =>
        refine Keeps.trans ?_ (Keeps.of (State.stage_keeps _ _ _ _) rfl)
        exact h7

theorem State.rtcmRx_keeps (s v1 v2 v3) : Keeps 67108928 s (State.rtcmRx s v1 v2 v3) := by
  unfold State.rtcmRx
  extract_lets +onlyGivenNames y0
  clear_value y0
  extract_lets +onlyGivenNames y1
  clear_value y1
  refine Keeps.ite ?_ ?_
  next =>
    exact Keeps.refl _
  next =>
    extract_lets +onlyGivenNames y2
    clear_value y2
    extract_lets +onlyGivenNames y3
    clear_value y3
    refine Keeps.ite ?_ ?_
    next =>
      exact Keeps.of (State.finc_keeps _ _) rfl
    next =>
      extract_lets +onlyGivenNames y4
      clear_value y4
      extract_lets +onlyGivenNames y5
      clear_value y5
      refine Keeps.ite ?_ ?_
      next =>
        exact Keeps.of (State.finc_keeps _ _) rfl
      next =>
        refine Keeps.trans ?_ (Keeps.of (State.gnsMod_keeps _ _) rfl)
        exact Keeps.of (State.finc_keeps _ _) rfl

theorem State.safTimeout_keeps (s) : Keeps 576 s (State.safTimeout s) := by
  unfold State.safTimeout
  split
  next =>
    rename_i z0 z1 z2
    refine Keeps.ite ?_ ?_
    next => exact Keeps.of (State.safClose_keeps _) rfl
    next => exact Keeps.refl _
  next => rename_i z3 z4; exact Keeps.refl _

theorem State.rstPress_keeps (s) : Keeps 1132636402 s (State.rstPress s) := by
  unfold State.rstPress
  exact Keeps.of (State.estopChange_keeps _ _ _ _ _) rfl

theorem State.rstRelease_keeps (s) : Keeps 33728706 s (State.rstRelease s) := by
  unfold State.rstRelease
  refine Keeps.ite ?_ ?_
  next =>
    exact Keeps.refl _
  next =>
    extract_lets +onlyGivenNames y0
    have h1 : Keeps 33728706 s y0 := by
      unfold y0
      exact Keeps.of (State.safMod_keeps _ _) rfl
    clear_value y0
    refine Keeps.ite ?_ ?_
    next =>
      refine Keeps.ite ?_ ?_
      next =>
        exact h1
      next =>
        refine Keeps.trans ?_ (Keeps.of (State.latchClear_keeps _ _) rfl)
        exact h1
    next =>
      refine Keeps.trans ?_ (Keeps.of (State.finc_keeps _ _) rfl)
      exact h1

theorem State.rstLetGo_keeps (s) : Keeps 1132636402 s (State.rstLetGo s) := by
  unfold State.rstLetGo
  refine Keeps.trans ?_ (Keeps.of (State.rstRelease_keeps _) rfl)
  exact Keeps.of (State.estopChange_keeps _ _ _ _ _) rfl

theorem State.safWatchdog_keeps (s v1) : Keeps 1132640498 s (State.safWatchdog s v1) := by
  unfold State.safWatchdog
  refine Keeps.ite ?_ ?_
  next => exact Keeps.refl _
  next =>
    refine Keeps.trans ?_ (Keeps.of (State.askReset_keeps _ _ _) rfl)
    exact Keeps.of (State.chanFault_keeps _ _ _ _ _) rfl

theorem State.safr_keeps (s) : Keeps 33559104 s (State.safr s) := by
  unfold State.safr
  split
  next =>
    refine Keeps.ite ?_ ?_
    next =>
      exact Keeps.refl _
    next =>
      extract_lets +onlyGivenNames y0
      have h1 : Keeps 33559104 s y0 := by
        unfold y0
        refine Keeps.trans ?_ (Keeps.of (State.fset_keeps _ _ _) rfl)
        refine Keeps.trans ?_ (Keeps.of (State.finc_keeps _ _) rfl)
        refine Keeps.trans ?_ (Keeps.of (State.closeSess_keeps _) rfl)
        exact Keeps.of (State.sysMod_keeps _ _) rfl
      clear_value y0
      extract_lets +onlyGivenNames y2
      have h3 : Keeps 33559104 s y2 := by
        unfold y2
        refine Keeps.trans ?_ (Keeps.of (State.safMod_keeps _ _) rfl)
        exact h1
      clear_value y2
      extract_lets +onlyGivenNames y4
      have h5 : Keeps 33559104 s y4 := by
        unfold y4
        refine Keeps.foldl ?_ ?_ _
        next =>
          exact h3
        next =>
          intro t6 x7
          exact Keeps.of (State.loadObj_keeps _ _) rfl
      clear_value y4
      refine Keeps.trans ?_ (Keeps.of (State.setChan_keeps _ _ _) rfl)
      refine Keeps.trans ?_ (Keeps.of (State.setChan_keeps _ _ _) rfl)
      exact h5
  next =>
    exact Keeps.refl _

theorem State.sampleCtx_keeps (s v1 v2 v3 v4 v5) : Keeps 977094 s (State.sampleCtx s v1 v2 v3 v4 v5) := by
  unfold State.sampleCtx
  extract_lets +onlyGivenNames y0
  clear_value y0
  extract_lets +onlyGivenNames y1
  clear_value y1
  extract_lets +onlyGivenNames y2
  clear_value y2
  extract_lets +onlyGivenNames y3
  clear_value y3
  refine Keeps.ite ?_ ?_
  next =>
    exact Keeps.of (State.finc_keeps _ _) rfl
  next =>
    extract_lets +onlyGivenNames y4
    clear_value y4
    extract_lets +onlyGivenNames y5
    clear_value y5
    extract_lets +onlyGivenNames y6
    clear_value y6
    exact Keeps.of (State.ctxSample_keeps _ _ _ _ _ _ _ _ _ _ _) rfl

theorem State.sampleEntry_keeps (s v1 v2 v3) : Keeps 977094 s (State.sampleEntry s v1 v2 v3) := by
  unfold State.sampleEntry
  refine Keeps.ite ?_ ?_
  next => exact Keeps.refl _
  next =>
    split
    next => rename_i z0 z1; exact Keeps.of (State.finc_keeps _ _) rfl
    next =>
      rename_i z2 z3
      refine Keeps.foldl ?_ ?_ _
      next => exact Keeps.refl _
      next =>
        intro t4 x5
        refine Keeps.foldl ?_ ?_ _
        next => exact Keeps.refl _
        next => intro t6 x7; exact Keeps.of (State.sampleCtx_keeps _ _ _ _ _ _) rfl

theorem State.sampleRx_keeps (s v1 v2) : Keeps 9365702 s (State.sampleRx s v1 v2) := by
  unfold State.sampleRx
  split
  next =>
    rename_i z0 z1
    have k2 : Keeps 9365702 s z0 := by
      refine Keeps.fst z1 ?_
      exact Keeps.of (State.pduIn_keeps _ _ _ _) rfl
    exact k2
  next =>
    rename_i z3 z4 z5
    have k6 : Keeps 9365702 s z3 := by
      refine Keeps.fst z5 ?_
      exact Keeps.of (State.pduIn_keeps _ _ _ _) rfl
    refine Keeps.foldl ?_ ?_ _
    next =>
      exact k6
    next =>
      intro t7 x8
      exact Keeps.of (State.sampleEntry_keeps _ _ _ _) rfl

theorem State.sdfDeliver_keeps (s v1 v2 v3 v4) : Keeps 977094 s (State.sdfDeliver s v1 v2 v3 v4) := by
  unfold State.sdfDeliver
  extract_lets +onlyGivenNames y0
  have h1 : Keeps 977094 s y0 := by
    unfold y0
    refine Keeps.trans ?_ (Keeps.of (State.sdfFlag_keeps _ _ _ _) rfl)
    exact Keeps.of (State.fset_keeps _ _ _) rfl
  clear_value y0
  extract_lets +onlyGivenNames y2
  clear_value y2
  extract_lets +onlyGivenNames y3
  have h4 : Keeps 977094 s y3 := by
    unfold y3
    refine Keeps.ite ?_ ?_
    next =>
      refine Keeps.trans ?_ (Keeps.of (State.ptWrite_keeps _ _ _ _ _) rfl)
      exact h1
    next =>
      exact h1
  clear_value y3
  extract_lets +onlyGivenNames y5
  clear_value y5
  extract_lets +onlyGivenNames y6
  clear_value y6
  refine Keeps.ite ?_ ?_
  next =>
    refine Keeps.trans ?_ (Keeps.of (State.ctxSample_keeps _ _ _ _ _ _ _ _ _ _ _) rfl)
    exact h4
  next =>
    exact h4

theorem State.sdfOutput_keeps (s v1) : Keeps 269412550 s (State.sdfOutput s v1) := by
  unfold State.sdfOutput
  split
  next =>
    exact Keeps.refl _
  next =>
    extract_lets +onlyGivenNames y0
    clear_value y0
    extract_lets +onlyGivenNames y1
    clear_value y1
    split
    next =>
      exact Keeps.refl _
    next =>
      extract_lets +onlyGivenNames y2
      clear_value y2
      extract_lets +onlyGivenNames y3
      clear_value y3
      extract_lets +onlyGivenNames y4
      clear_value y4
      extract_lets +onlyGivenNames y5
      clear_value y5
      split
      next =>
        exact Keeps.refl _
      next =>
        exact Keeps.of (State.sdfPut_keeps _ _ _) rfl
      next =>
        extract_lets +onlyGivenNames y6
        have h7 : Keeps 269412550 s y6 := by
          unfold y6
          exact Keeps.of (State.sdfPut_keeps _ _ _) rfl
        clear_value y6
        refine Keeps.ite ?_ ?_
        next =>
          exact h7
        next =>
          refine Keeps.trans ?_ (Keeps.of (State.sdfDeliver_keeps _ _ _ _ _) rfl)
          exact h7

end Sys2Proof.Machine
end

