-- ==== Sys2Proof/Laws/Keeps10.lean ====
section
/-!
SUPPORT. Operations keep what `Keeps` says, callees before callers: part 10 of 10.
-/

namespace Sys2Proof.Machine

theorem State.sf4Check_keeps (s) : Keeps 1132636402 s (State.sf4Check s) := by
  unfold State.sf4Check
  extract_lets +onlyGivenNames y0
  clear_value y0
  refine Keeps.ite ?_ ?_
  next =>
    exact Keeps.refl _
  next =>
    refine Keeps.ite ?_ ?_
    next =>
      refine Keeps.trans ?_ (Keeps.of (State.fset_keeps _ _ _) rfl)
      exact Keeps.of (State.safMod_keeps _ _) rfl
    next =>
      refine Keeps.ite ?_ ?_
      next =>
        exact Keeps.refl _
      next =>
        extract_lets +onlyGivenNames y1
        clear_value y1
        extract_lets +onlyGivenNames y2
        have h3 : Keeps 1132636402 s y2 := by
          unfold y2
          exact Keeps.of (State.safMod_keeps _ _) rfl
        clear_value y2
        refine Keeps.ite ?_ ?_
        next =>
          exact h3
        next =>
          refine Keeps.ite ?_ ?_
          next =>
            refine Keeps.trans ?_ (Keeps.of (State.fset_keeps _ _ _) rfl)
            exact h3
          next =>
            extract_lets +onlyGivenNames y4
            clear_value y4
            extract_lets +onlyGivenNames y5
            have h6 : Keeps 1132636402 s y5 := by
              unfold y5
              refine Keeps.trans ?_ (Keeps.of (State.fset_keeps _ _ _) rfl)
              exact h3
            clear_value y5
            refine Keeps.ite ?_ ?_
            next =>
              refine Keeps.trans ?_ (Keeps.of (State.trip_keeps _ _ _ _ _ _) rfl)
              exact h6
            next =>
              exact h6

theorem State.sf5Miss_keeps (s v1) : Keeps 1132636402 s (State.sf5Miss s v1) := by
  unfold State.sf5Miss
  extract_lets +onlyGivenNames y0
  clear_value y0
  extract_lets +onlyGivenNames y1
  have h2 : Keeps 1132636402 s y1 := by
    unfold y1
    refine Keeps.trans ?_ (Keeps.of (State.redMod_keeps _ _) rfl)
    exact Keeps.of (State.fset_keeps _ _ _) rfl
  clear_value y1
  refine Keeps.ite ?_ ?_
  next =>
    refine Keeps.trans ?_ (Keeps.of (State.trip_keeps _ _ _ _ _ _) rfl)
    exact h2
  next =>
    exact h2

theorem State.sf3Count_keeps (s v1) : Keeps 1132636402 s (State.sf3Count s v1) := by
  unfold State.sf3Count
  split
  next =>
    refine Keeps.trans ?_ (Keeps.of (State.safMod_keeps _ _) rfl)
    exact Keeps.of (State.fset_keeps _ _ _) rfl
  next =>
    extract_lets +onlyGivenNames y0
    clear_value y0
    extract_lets +onlyGivenNames y1
    have h2 : Keeps 1132636402 s y1 := by
      unfold y1
      refine Keeps.trans ?_ (Keeps.of (State.safMod_keeps _ _) rfl)
      exact Keeps.of (State.fset_keeps _ _ _) rfl
    clear_value y1
    refine Keeps.ite ?_ ?_
    next =>
      refine Keeps.trans ?_ (Keeps.of (State.trip_keeps _ _ _ _ _ _) rfl)
      exact h2
    next =>
      exact h2

theorem State.xchkLate_keeps (s) : Keeps 16910530 s (State.xchkLate s) := by
  unfold State.xchkLate
  refine Keeps.ite ?_ ?_
  next =>
    exact Keeps.refl _
  next =>
    refine Keeps.trans ?_ (Keeps.of (State.lateEvent_keeps _) rfl)
    refine Keeps.trans ?_ (Keeps.of (State.lateBit_keeps _ _) rfl)
    exact Keeps.of (State.fup_keeps _ _) rfl

theorem State.sf5Words_keeps (s v1 v2) : Keeps 1136830706 s (State.sf5Words s v1 v2) := by
  unfold State.sf5Words
  extract_lets +onlyGivenNames y0
  clear_value y0
  extract_lets +onlyGivenNames y1
  clear_value y1
  extract_lets +onlyGivenNames y2
  have h3 : Keeps 1136830706 s y2 := by
    unfold y2
    refine Keeps.ite ?_ ?_
    next =>
      exact Keeps.of (State.xchkLate_keeps _) rfl
    next =>
      exact Keeps.refl _
  clear_value y2
  extract_lets +onlyGivenNames y4
  clear_value y4
  split
  extract_lets +onlyGivenNames y5
  clear_value y5
  extract_lets +onlyGivenNames y6
  have h7 : Keeps 1136830706 s y6 := by
    unfold y6
    refine Keeps.trans ?_ (Keeps.of (State.allocPut_keeps _ _) rfl)
    exact h3
  clear_value y6
  extract_lets +onlyGivenNames y8
  have h9 : Keeps 1136830706 s y8 := by
    unfold y8
    refine Keeps.ite ?_ ?_
    next =>
      exact h7
    next =>
      refine Keeps.trans ?_ (Keeps.of (State.sf3Count_keeps _ _) rfl)
      exact h7
  clear_value y8
  extract_lets +onlyGivenNames y10
  have h11 : Keeps 1136830706 s y10 := by
    unfold y10
    refine Keeps.ite ?_ ?_
    next =>
      exact h9
    next =>
      refine Keeps.trans ?_ (Keeps.of (State.fcount_keeps _ _ _) rfl)
      exact h9
  clear_value y10
  refine Keeps.ite ?_ ?_
  next =>
    refine Keeps.trans ?_ (Keeps.of (State.fset_keeps _ _ _) rfl)
    exact h11
  next =>
    refine Keeps.trans ?_ (Keeps.of (State.sf5Miss_keeps _ _) rfl)
    exact h11

theorem State.sf5Compare_keeps (s v1) : Keeps 1136830710 s (State.sf5Compare s v1) := by
  unfold State.sf5Compare
  refine Keeps.ite ?_ ?_
  next =>
    exact Keeps.of (State.fset_keeps _ _ _) rfl
  next =>
    refine Keeps.ite ?_ ?_
    next =>
      exact Keeps.refl _
    next =>
      extract_lets +onlyGivenNames y0
      have h1 : Keeps 1136830710 s y0 := by
        unfold y0
        exact Keeps.of (State.slotsClose_keeps _) rfl
      clear_value y0
      split
      next =>
        refine Keeps.ite ?_ ?_
        next =>
          exact Keeps.refl _
        next =>
          refine Keeps.trans ?_ (Keeps.of (State.sf5Words_keeps _ _ _) rfl)
          exact h1
      next =>
        refine Keeps.ite ?_ ?_
        next =>
          exact h1
        next =>
          refine Keeps.trans ?_ (Keeps.of (State.sf5Miss_keeps _ _) rfl)
          refine Keeps.trans ?_ (Keeps.of (State.fcount_keeps _ _ _) rfl)
          refine Keeps.trans ?_ (Keeps.of (State.xchkLate_keeps _) rfl)
          exact h1

theorem State.chanAcquired_keeps (s v1) : Keeps 67108928 s (State.chanAcquired s v1) := by
  unfold State.chanAcquired
  extract_lets +onlyGivenNames y0
  clear_value y0
  refine Keeps.ite ?_ ?_
  next => exact Keeps.of (State.chanPut_keeps _ _ _) rfl
  next => exact Keeps.refl _

theorem State.slewEnd_keeps (s) : Keeps 64 s (State.slewEnd s) := by
  unfold State.slewEnd
  refine Keeps.ite ?_ ?_
  next => exact Keeps.of (State.showSlew_keeps _) rfl
  next => exact Keeps.refl _

theorem State.slotReturn_keeps (s v1) : Keeps 4194368 s (State.slotReturn s v1) := by
  unfold State.slotReturn
  split
  next =>
    exact Keeps.refl _
  next =>
    refine Keeps.ite ?_ ?_
    next =>
      exact Keeps.of (State.slotStop_keeps _ _ _ _ _) rfl
    next =>
      exact Keeps.refl _

theorem State.snapDone_keeps (s v1) : Keeps 1073875138 s (State.snapDone s v1) := by
  unfold State.snapDone
  split
  next =>
    rename_i z0 z1 z2
    refine Keeps.ite ?_ ?_
    next =>
      refine Keeps.trans ?_ (Keeps.of (State.event_keeps _ _ _ _ _) rfl)
      exact Keeps.of (State.snapWrite_keeps _ _ _) rfl
    next => exact Keeps.refl _
  next => rename_i z3 z4; exact Keeps.refl _

theorem State.slotDeadline_keeps (s v1 v2 v3) : Keeps 4194372 s (State.slotDeadline s v1 v2 v3) := by
  unfold State.slotDeadline
  split
  next =>
    exact Keeps.refl _
  next =>
    refine Keeps.ite ?_ ?_
    next =>
      refine Keeps.trans ?_ (Keeps.of (State.tick1_keeps _) rfl)
      exact Keeps.of (State.slotStop_keeps _ _ _ _ _) rfl
    next =>
      exact Keeps.refl _

theorem State.spanDown_keeps (s v1) : Keeps 16967874 s (State.spanDown s v1) := by
  unfold State.spanDown
  extract_lets +onlyGivenNames y0
  clear_value y0
  extract_lets +onlyGivenNames y1
  clear_value y1
  refine Keeps.ite ?_ ?_
  next =>
    split
    rename_i z2 z3 z4
    have k5 : Keeps 16967874 s z2 := by
      refine Keeps.fst z4 ?_
      refine Keeps.trans ?_ (Keeps.of (State.fltErr_keeps _ _ _) rfl)
      exact Keeps.of (State.spanPut_keeps _ _ _) rfl
    refine Keeps.trans ?_ (Keeps.of (State.holderLinks_keeps _) rfl)
    refine Keeps.ite ?_ ?_
    next =>
      refine Keeps.trans ?_ (Keeps.of (State.fup_keeps _ _) rfl)
      exact k5
    next =>
      exact k5
  next =>
    exact Keeps.refl _

theorem State.spanUp_keeps (s v1) : Keeps 16943298 s (State.spanUp s v1) := by
  unfold State.spanUp
  extract_lets +onlyGivenNames y0
  clear_value y0
  refine Keeps.ite ?_ ?_
  next =>
    refine Keeps.trans ?_ (Keeps.of (State.holderLinks_keeps _) rfl)
    refine Keeps.ite ?_ ?_
    next =>
      refine Keeps.trans ?_ (Keeps.of (State.retCleared_keeps _ _ _) rfl)
      exact Keeps.of (State.spanPut_keeps _ _ _) rfl
    next =>
      exact Keeps.of (State.spanPut_keeps _ _ _) rfl
  next =>
    exact Keeps.refl _

theorem State.srst_keeps (s) : Keeps 8589933560 s (State.srst s) := by
  unfold State.srst
  split
  next =>
    rename_i z0 z1 z2
    refine Keeps.ite ?_ ?_
    next => exact Keeps.of (State.restart_keeps _ _) rfl
    next => exact Keeps.refl _
  next => rename_i z3 z4; exact Keeps.refl _

theorem State.imgWhole_keeps (s v1) : Keeps 561646018 s (State.imgWhole s v1) := by
  unfold State.imgWhole
  extract_lets +onlyGivenNames y0
  clear_value y0
  extract_lets +onlyGivenNames y1
  clear_value y1
  refine Keeps.ite ?_ ?_
  next => exact Keeps.of (State.imgDrop_keeps _) rfl
  next =>
    split
    next => rename_i z2 z3; exact Keeps.of (State.imgDrop_keeps _) rfl
    next => rename_i z4 z5 z6; exact Keeps.of (State.imgAdopt_keeps _ _ _ _) rfl

theorem State.imageRx_keeps (s v1 v2) : Keeps 570034626 s (State.imageRx s v1 v2) := by
  unfold State.imageRx
  split
  next =>
    rename_i z0 z1
    have k2 : Keeps 570034626 s z0 := by
      refine Keeps.fst z1 ?_
      exact Keeps.of (State.pduIn_keeps _ _ _ _) rfl
    exact k2
  next =>
    rename_i z3 z4 z5
    have k6 : Keeps 570034626 s z3 := by
      refine Keeps.fst z5 ?_
      exact Keeps.of (State.pduIn_keeps _ _ _ _) rfl
    extract_lets +onlyGivenNames y7
    clear_value y7
    split
    refine Keeps.ite ?_ ?_
    next =>
      exact k6
    next =>
      extract_lets +onlyGivenNames y8
      clear_value y8
      extract_lets +onlyGivenNames y9
      clear_value y9
      extract_lets +onlyGivenNames y10
      clear_value y10
      extract_lets +onlyGivenNames y11
      have h12 : Keeps 570034626 s y11 := by
        unfold y11
        refine Keeps.trans ?_ (Keeps.of (State.fset_keeps _ _ _) rfl)
        refine Keeps.trans ?_ (Keeps.of (State.redMod_keeps _ _) rfl)
        exact k6
      clear_value y11
      refine Keeps.ite ?_ ?_
      next =>
        refine Keeps.trans ?_ (Keeps.of (State.imgWhole_keeps _ _) rfl)
        exact h12
      next =>
        exact h12

theorem State.statusRx_keeps (s v1 v2) : Keeps 65185986 s (State.statusRx s v1 v2) := by
  unfold State.statusRx
  split
  next =>
    rename_i z0 z1
    have k2 : Keeps 65185986 s z0 := by
      refine Keeps.fst z1 ?_
      exact Keeps.of (State.pduIn_keeps _ _ _ _) rfl
    exact k2
  next =>
    rename_i z3 z4 z5
    have k6 : Keeps 65185986 s z3 := by
      refine Keeps.fst z5 ?_
      exact Keeps.of (State.pduIn_keeps _ _ _ _) rfl
    extract_lets +onlyGivenNames y7
    clear_value y7
    refine Keeps.ite ?_ ?_
    next =>
      exact k6
    next =>
      refine Keeps.ite ?_ ?_
      next =>
        refine Keeps.trans ?_ (Keeps.of (State.noteEpoch_keeps _ _) rfl)
        exact k6
      next =>
        extract_lets +onlyGivenNames y8
        clear_value y8
        extract_lets +onlyGivenNames y9
        clear_value y9
        extract_lets +onlyGivenNames y10
        clear_value y10
        extract_lets +onlyGivenNames y11
        have h12 : Keeps 65185986 s y11 := by
          unfold y11
          refine Keeps.ite ?_ ?_
          next =>
            refine Keeps.trans ?_ (Keeps.of (State.stagePdu_keeps _ _ _) rfl)
            exact k6
          next =>
            exact k6
        clear_value y11
        extract_lets +onlyGivenNames y13
        have h14 : Keeps 65185986 s y13 := by
          unfold y13
          refine Keeps.trans ?_ (Keeps.of (State.redMod_keeps _ _) rfl)
          refine Keeps.trans ?_ (Keeps.of (State.noteEpoch_keeps _ _) rfl)
          exact h12
        clear_value y13
        split
        extract_lets +onlyGivenNames y15
        have h16 : Keeps 65185986 s y15 := by
          unfold y15
          refine Keeps.trans ?_ (Keeps.of (State.holderLinks_keeps _) rfl)
          exact h14
        clear_value y15
        refine Keeps.ite ?_ ?_
        next =>
          refine Keeps.trans ?_ (Keeps.of (State.failEvent_keeps _ _ _) rfl)
          exact h16
        next =>
          exact h16

theorem State.supplyWarn_keeps (s v1 v2) : Keeps 16781376 s (State.supplyWarn s v1 v2) := by
  unfold State.supplyWarn
  refine Keeps.ite ?_ ?_
  next =>
    exact Keeps.refl _
  next =>
    extract_lets +onlyGivenNames y0
    have h1 : Keeps 16781376 s y0 := by
      unfold y0
      exact Keeps.of (State.noteMv_keeps _ _ _ _) rfl
    clear_value y0
    extract_lets +onlyGivenNames y2
    have h3 : Keeps 16781376 s y2 := by
      unfold y2
      refine Keeps.trans ?_ (Keeps.of (State.redMod_keeps _ _) rfl)
      exact h1
    clear_value y2
    refine Keeps.ite ?_ ?_
    next =>
      refine Keeps.trans ?_ (Keeps.of (State.sysMod_keeps _ _) rfl)
      exact h3
    next =>
      extract_lets +onlyGivenNames y4
      have h5 : Keeps 16781376 s y4 := by
        unfold y4
        refine Keeps.ite ?_ ?_
        next =>
          refine Keeps.ite ?_ ?_
          next =>
            refine Keeps.trans ?_ (Keeps.of (State.sysMod_keeps _ _) rfl)
            exact h3
          next =>
            exact h3
        next =>
          refine Keeps.trans ?_ (Keeps.of (State.sysMod_keeps _ _) rfl)
          exact h3
      clear_value y4
      refine Keeps.trans ?_ (Keeps.of (State.showPnl_keeps _) rfl)
      refine Keeps.trans ?_ (Keeps.of (State.sysMod_keeps _ _) rfl)
      exact h5

theorem State.initialSet_keeps (s v1) : Keeps 1199575872 s (State.initialSet s v1) := by
  unfold State.initialSet
  extract_lets +onlyGivenNames y0
  have h1 : Keeps 1199575872 s y0 := by
    unfold y0
    exact Keeps.of (State.instMove_keeps _ _) rfl
  clear_value y0
  extract_lets +onlyGivenNames y2
  clear_value y2
  extract_lets +onlyGivenNames y3
  have h4 : Keeps 1199575872 s y3 := by
    unfold y3
    refine Keeps.upd_time rfl (b := y0) ?_ _
    exact h1
  clear_value y3
  extract_lets +onlyGivenNames y5
  have h6 : Keeps 1199575872 s y5 := by
    unfold y5
    refine Keeps.trans ?_ (Keeps.of (State.leakJump_keeps _) rfl)
    exact h4
  clear_value y5
  extract_lets +onlyGivenNames y7
  clear_value y7
  extract_lets +onlyGivenNames y8
  have h9 : Keeps 1199575872 s y8 := by
    unfold y8
    refine Keeps.upd_sys rfl (b := y5) ?_ _
    exact h6
  clear_value y8
  refine Keeps.trans ?_ (Keeps.of (State.ptpMod_keeps _ _) rfl)
  refine Keeps.trans ?_ (Keeps.of (State.setServo_keeps _ _) rfl)
  refine Keeps.trans ?_ (Keeps.of (State.fset_keeps _ _ _) rfl)
  exact h9

theorem State.lockCount_keeps (s v1) : Keeps 8388672 s (State.lockCount s v1) := by
  unfold State.lockCount
  extract_lets +onlyGivenNames y0
  clear_value y0
  extract_lets +onlyGivenNames y1
  clear_value y1
  extract_lets +onlyGivenNames y2
  clear_value y2
  extract_lets +onlyGivenNames y3
  clear_value y3
  extract_lets +onlyGivenNames y4
  have h5 : Keeps 8388672 s y4 := by unfold y4; exact Keeps.of (State.ptpMod_keeps _ _) rfl
  clear_value y4
  refine Keeps.ite ?_ ?_
  next => refine Keeps.trans ?_ (Keeps.of (State.setServo_keeps _ _) rfl); exact h5
  next =>
    refine Keeps.ite ?_ ?_
    next => refine Keeps.trans ?_ (Keeps.of (State.setServo_keeps _ _) rfl); exact h5
    next => exact h5

theorem State.armStep_keeps (s v1) : Keeps 8388864 s (State.armStep s v1) := by
  unfold State.armStep
  extract_lets +onlyGivenNames y0
  clear_value y0
  exact Keeps.upd_time_net rfl (Keeps.refl _) _ _

theorem State.stepOrSlew_keeps (s v1) : Keeps 8388928 s (State.stepOrSlew s v1) := by
  unfold State.stepOrSlew
  refine Keeps.ite ?_ ?_
  next =>
    refine Keeps.ite ?_ ?_
    next => exact Keeps.of (State.armStep_keeps _ _) rfl
    next => exact Keeps.refl _
  next => exact Keeps.of (State.slewReq_keeps _ _ _) rfl

theorem State.servoRun_keeps (s v1 v2) : Keeps 8522182 s (State.servoRun s v1 v2) := by
  unfold State.servoRun
  extract_lets +onlyGivenNames y0
  clear_value y0
  refine Keeps.ite ?_ ?_
  next =>
    extract_lets +onlyGivenNames y1
    have h2 : Keeps 8522182 s y1 := by unfold y1; exact Keeps.of (State.ptpMod_keeps _ _) rfl
    clear_value y1
    refine Keeps.ite ?_ ?_
    next =>
      extract_lets +onlyGivenNames y3
      clear_value y3
      split
      next =>
        rename_i z4 z5 z6
        refine Keeps.ite ?_ ?_
        next => refine Keeps.trans ?_ (Keeps.of (State.domSwitch_keeps _ _ _) rfl); exact h2
        next => refine Keeps.trans ?_ (Keeps.of (State.stepOrSlew_keeps _ _) rfl); exact h2
      next => rename_i z7 z8; refine Keeps.trans ?_ (Keeps.of (State.stepOrSlew_keeps _ _) rfl); exact h2
    next => exact h2
  next =>
    extract_lets +onlyGivenNames y9
    clear_value y9
    split
    rename_i z10 z11 z12 z13
    extract_lets +onlyGivenNames y14
    clear_value y14
    extract_lets +onlyGivenNames y15
    clear_value y15
    extract_lets +onlyGivenNames y16
    clear_value y16
    split
    rename_i z17 z18 z19 z20
    extract_lets +onlyGivenNames y21
    clear_value y21
    extract_lets +onlyGivenNames y22
    clear_value y22
    extract_lets +onlyGivenNames y23
    have h24 : Keeps 8522182 s y23 := by
      unfold y23
      refine Keeps.trans ?_ (Keeps.of (State.tick1_keeps _) rfl)
      refine Keeps.trans ?_ (Keeps.of (State.servoInc_keeps _ _) rfl)
      exact Keeps.of (State.setY_keeps _ _) rfl
    clear_value y23
    extract_lets +onlyGivenNames y25
    clear_value y25
    extract_lets +onlyGivenNames y26
    have h27 : Keeps 8522182 s y26 := by
      unfold y26
      refine Keeps.trans ?_ (Keeps.of (State.ptpMod_keeps _ _) rfl)
      exact h24
    clear_value y26
    extract_lets +onlyGivenNames y28
    clear_value y28
    extract_lets +onlyGivenNames y29
    have h30 : Keeps 8522182 s y29 := by unfold y29; refine Keeps.upd_time rfl (b := y26) ?_ _; exact h27
    clear_value y29
    extract_lets +onlyGivenNames y31
    have h32 : Keeps 8522182 s y31 := by
      unfold y31
      refine Keeps.ite ?_ ?_
      next => refine Keeps.trans ?_ (Keeps.of (State.stepOrSlew_keeps _ _) rfl); exact h30
      next => refine Keeps.trans ?_ (Keeps.of (State.slewReq_keeps _ _ _) rfl); exact h30
    clear_value y31
    refine Keeps.trans ?_ (Keeps.of (State.lockCount_keeps _ _) rfl)
    exact h32

theorem State.syncRate_keeps (s v1 v2) : Keeps 8554946 s (State.syncRate s v1 v2) := by
  unfold State.syncRate
  extract_lets +onlyGivenNames y0
  clear_value y0
  extract_lets +onlyGivenNames y1
  clear_value y1
  refine Keeps.ite ?_ ?_
  next =>
    refine Keeps.trans ?_ (Keeps.of (State.domJudge_keeps _) rfl)
    exact Keeps.of (State.domPut_keeps _ _ _) rfl
  next =>
    refine Keeps.ite ?_ ?_
    next =>
      exact Keeps.of (State.domPut_keeps _ _ _) rfl
    next =>
      exact Keeps.refl _

theorem State.syncRx_keeps (s v1) : Keeps 1199741894 s (State.syncRx s v1) := by
  unfold State.syncRx
  split
  next =>
    exact Keeps.refl _
  next =>
    refine Keeps.ite ?_ ?_
    next =>
      exact Keeps.refl _
    next =>
      extract_lets +onlyGivenNames y0
      have h1 : Keeps 1199741894 s y0 := by
        unfold y0
        exact Keeps.of (State.syncRate_keeps _ _ _) rfl
      clear_value y0
      extract_lets +onlyGivenNames y2
      clear_value y2
      extract_lets +onlyGivenNames y3
      clear_value y3
      extract_lets +onlyGivenNames y4
      clear_value y4
      refine Keeps.ite ?_ ?_
      next =>
        exact h1
      next =>
        extract_lets +onlyGivenNames y5
        clear_value y5
        extract_lets +onlyGivenNames y6
        clear_value y6
        extract_lets +onlyGivenNames y7
        have h8 : Keeps 1199741894 s y7 := by
          unfold y7
          refine Keeps.trans ?_ (Keeps.of (State.domPut_keeps _ _ _) rfl)
          exact h1
        clear_value y7
        refine Keeps.ite ?_ ?_
        next =>
          refine Keeps.ite ?_ ?_
          next =>
            refine Keeps.trans ?_ (Keeps.of (State.initialSet_keeps _ _) rfl)
            exact h8
          next =>
            exact h8
        next =>
          extract_lets +onlyGivenNames y9
          have h10 : Keeps 1199741894 s y9 := by
            unfold y9
            refine Keeps.trans ?_ (Keeps.of (State.domJudge_keeps _) rfl)
            exact h8
          clear_value y9
          refine Keeps.ite ?_ ?_
          next =>
            refine Keeps.trans ?_ (Keeps.of (State.servoRun_keeps _ _ _) rfl)
            exact h10
          next =>
            exact h10

theorem State.testPulse_keeps (s v1 v2) : Keeps 1132636402 s (State.testPulse s v1 v2) := by
  unfold State.testPulse
  refine Keeps.ite ?_ ?_
  next =>
    exact Keeps.refl _
  next =>
    extract_lets +onlyGivenNames y0
    have h1 : Keeps 1132636402 s y0 := by
      unfold y0
      exact Keeps.of (State.safMod_keeps _ _) rfl
    clear_value y0
    refine Keeps.ite ?_ ?_
    next =>
      exact h1
    next =>
      refine Keeps.trans ?_ (Keeps.of (State.outputFault_keeps _ _) rfl)
      exact h1

theorem State.tpPulse_keeps (s) : Keeps 67108866 s (State.tpPulse s) := by
  unfold State.tpPulse
  extract_lets +onlyGivenNames y0
  have h1 : Keeps 67108866 s y0 := by unfold y0; exact Keeps.of (State.ppsFold_keeps _) rfl
  clear_value y0
  refine Keeps.ite ?_ ?_
  next => exact h1
  next =>
    refine Keeps.foldl ?_ ?_ _
    next => exact h1
    next =>
      intro t2 x3
      extract_lets +onlyGivenNames y4
      clear_value y4
      extract_lets +onlyGivenNames y5
      clear_value y5
      refine Keeps.ite ?_ ?_
      next => exact Keeps.refl _
      next =>
        extract_lets +onlyGivenNames y6
        have h7 : Keeps 67108866 t2 y6 := by unfold y6; exact Keeps.of (State.gnsMod_keeps _ _) rfl
        clear_value y6
        extract_lets +onlyGivenNames y8
        clear_value y8
        refine Keeps.ite ?_ ?_
        next => refine Keeps.trans ?_ (Keeps.of (State.send_keeps _ _ _) rfl); exact h7
        next => exact h7

theorem State.tpRecords_keeps (s) : Keeps 67242178 s (State.tpRecords s) := by
  unfold State.tpRecords
  extract_lets +onlyGivenNames y0
  have h1 : Keeps 67242178 s y0 := by
    unfold y0
    exact Keeps.of (State.ppsFold_keeps _) rfl
  clear_value y0
  refine Keeps.ite ?_ ?_
  next =>
    exact h1
  next =>
    refine Keeps.foldl ?_ ?_ _
    next =>
      exact h1
    next =>
      intro t2 x3
      extract_lets +onlyGivenNames y4
      clear_value y4
      extract_lets +onlyGivenNames y5
      clear_value y5
      refine Keeps.ite ?_ ?_
      next =>
        exact Keeps.of (State.tpRecord_keeps _ _ _ _) rfl
      next =>
        exact Keeps.refl _

theorem State.leapTurn_keeps (s) : Keeps 67108928 s (State.leapTurn s) := by
  unfold State.leapTurn
  split
  next =>
    rename_i z0 z1 z2 z3
    refine Keeps.ite ?_ ?_
    next =>
      refine Keeps.trans ?_ (Keeps.of (State.fset_keeps _ _ _) rfl)
      refine Keeps.trans ?_ (Keeps.of (State.fset_keeps _ _ _) rfl)
      exact Keeps.of (State.gnsMod_keeps _ _) rfl
    next => exact Keeps.refl _
  next => rename_i z4 z5; exact Keeps.refl _

theorem State.tpSettings_keeps (s) : Keeps 67242178 s (State.tpSettings s) := by
  unfold State.tpSettings
  extract_lets +onlyGivenNames y0
  clear_value y0
  extract_lets +onlyGivenNames y1
  have h2 : Keeps 67242178 s y1 := by
    unfold y1
    exact Keeps.of (State.gnsMod_keeps _ _) rfl
  clear_value y1
  refine Keeps.foldl ?_ ?_ _
  next =>
    exact h2
  next =>
    intro t3 x4
    exact Keeps.of (State.tpRevise_keeps _ _) rfl

theorem State.tpSecond_keeps (s) : Keeps 67274946 s (State.tpSecond s) := by
  unfold State.tpSecond
  extract_lets +onlyGivenNames y0
  clear_value y0
  refine Keeps.ite ?_ ?_
  next =>
    exact Keeps.refl _
  next =>
    extract_lets +onlyGivenNames y1
    have h2 : Keeps 67274946 s y1 := by
      unfold y1
      refine Keeps.trans ?_ (Keeps.of (State.gnsMod_keeps _ _) rfl)
      refine Keeps.trans ?_ (Keeps.of (State.leapTurn_keeps _) rfl)
      refine Keeps.trans ?_ (Keeps.of (State.tpSettings_keeps _) rfl)
      refine Keeps.trans ?_ (Keeps.of (State.ppsFold_keeps _) rfl)
      exact Keeps.of (State.tpHold_keeps _) rfl
    clear_value y1
    extract_lets +onlyGivenNames y3
    clear_value y3
    extract_lets +onlyGivenNames y4
    clear_value y4
    refine Keeps.ite ?_ ?_
    next =>
      refine Keeps.trans ?_ (Keeps.of (State.fset_keeps _ _ _) rfl)
      refine Keeps.trans ?_ (Keeps.of (State.event_keeps _ _ _ _ _) rfl)
      refine Keeps.trans ?_ (Keeps.of (State.clearAlarm_keeps _ _ _ _) rfl)
      refine Keeps.trans ?_ (Keeps.of (State.gnsMod_keeps _ _) rfl)
      refine Keeps.trans ?_ (Keeps.of (State.finc_keeps _ _) rfl)
      refine Keeps.trans ?_ (Keeps.of (State.fup_keeps _ _) rfl)
      refine Keeps.trans ?_ (Keeps.of (State.setTp_keeps _ _) rfl)
      refine Keeps.trans ?_ (Keeps.of (State.setB_keeps _ _) rfl)
      exact h2
    next =>
      refine Keeps.ite ?_ ?_
      next =>
        refine Keeps.trans ?_ (Keeps.of (State.setB_keeps _ _) rfl)
        exact h2
      next =>
        refine Keeps.ite ?_ ?_
        next =>
          extract_lets +onlyGivenNames y5
          clear_value y5
          extract_lets +onlyGivenNames y6
          have h7 : Keeps 67274946 s y6 := by
            unfold y6
            refine Keeps.trans ?_ (Keeps.of (State.setB_keeps _ _) rfl)
            exact h2
          clear_value y6
          refine Keeps.ite ?_ ?_
          next =>
            refine Keeps.trans ?_ (Keeps.of (State.fset_keeps _ _ _) rfl)
            refine Keeps.trans ?_ (Keeps.of (State.setTp_keeps _ _) rfl)
            exact h7
          next =>
            exact h7
        next =>
          refine Keeps.ite ?_ ?_
          next =>
            refine Keeps.trans ?_ (Keeps.of (State.fset_keeps _ _ _) rfl)
            exact h2
          next =>
            exact h2

theorem State.chanLock_keeps (s v1) : Keeps 67108928 s (State.chanLock s v1) := by
  unfold State.chanLock
  extract_lets +onlyGivenNames y0
  clear_value y0
  refine Keeps.ite ?_ ?_
  next => exact Keeps.of (State.chanPut_keeps _ _ _) rfl
  next => exact Keeps.refl _

theorem State.imgTimeout_keeps (s) : Keeps 512 s (State.imgTimeout s) := by
  unfold State.imgTimeout
  split
  next =>
    rename_i z0 z1 z2
    refine Keeps.ite ?_ ?_
    next => exact Keeps.upd_cfg rfl (Keeps.refl _) _
    next => exact Keeps.refl _
  next => rename_i z3 z4; exact Keeps.refl _

theorem State.transitionEnd_keeps (s) : Keeps 8388672 s (State.transitionEnd s) := by
  unfold State.transitionEnd
  refine Keeps.ite ?_ ?_
  next => exact Keeps.of (State.setServo_keeps _ _) rfl
  next => exact Keeps.refl _

theorem State.trialTimeout_keeps (s) : Keeps 9280 s (State.trialTimeout s) := by
  unfold State.trialTimeout
  refine Keeps.ite ?_ ?_
  next => exact Keeps.of (State.trialFail_keeps _) rfl
  next => exact Keeps.refl _

theorem State.tripPass_keeps (s) : Keeps 33554496 s (State.tripPass s) := by
  unfold State.tripPass
  refine Keeps.foldl ?_ ?_ _
  next => exact Keeps.of (State.safMod_keeps _ _) rfl
  next => intro t0 x1; exact Keeps.of (State.latchSet_keeps _ _ _) rfl

theorem State.uartBreak_keeps (s v1) : Keeps 64 s (State.uartBreak s v1) := by
  unfold State.uartBreak
  refine Keeps.ite ?_ ?_
  next => exact Keeps.refl _
  next => exact Keeps.of (State.fup_keeps _ _) rfl

theorem State.uartSentence_keeps (s v1 v2 v3) : Keeps 977094 s (State.uartSentence s v1 v2 v3) := by
  unfold State.uartSentence
  split
  next => rename_i z0 z1; exact Keeps.of (State.finc_keeps _ _) rfl
  next =>
    rename_i z2 z3 z4
    split
    next => rename_i z5 z6; exact Keeps.of (State.finc_keeps _ _) rfl
    next =>
      rename_i z7 z8
      refine Keeps.foldl ?_ ?_ _
      next => exact Keeps.refl _
      next => intro t9 x10; exact Keeps.of (State.sentDeliver_keeps _ _ _ _) rfl

theorem State.uartChar_keeps (s v1 v2 v3) : Keeps 135194822 s (State.uartChar s v1 v2 v3) := by
  unfold State.uartChar
  extract_lets +onlyGivenNames y0
  clear_value y0
  split
  next =>
    refine Keeps.ite ?_ ?_
    next =>
      exact Keeps.of (State.uartPut_keeps _ _ _) rfl
    next =>
      refine Keeps.ite ?_ ?_
      next =>
        exact Keeps.of (State.uartPut_keeps _ _ _) rfl
      next =>
        refine Keeps.ite ?_ ?_
        next =>
          exact Keeps.of (State.uartPut_keeps _ _ _) rfl
        next =>
          exact Keeps.refl _
  next =>
    refine Keeps.ite ?_ ?_
    next =>
      refine Keeps.trans ?_ (Keeps.of (State.finc_keeps _ _) rfl)
      exact Keeps.of (State.uartPut_keeps _ _ _) rfl
    next =>
      refine Keeps.ite ?_ ?_
      next =>
        refine Keeps.trans ?_ (Keeps.of (State.finc_keeps _ _) rfl)
        exact Keeps.of (State.uartPut_keeps _ _ _) rfl
      next =>
        refine Keeps.ite ?_ ?_
        next =>
          refine Keeps.trans ?_ (Keeps.of (State.uartSentence_keeps _ _ _ _) rfl)
          exact Keeps.of (State.uartPut_keeps _ _ _) rfl
        next =>
          exact Keeps.of (State.uartPut_keeps _ _ _) rfl

theorem State.uartRx_keeps (s v1 v2 v3) : Keeps 135194822 s (State.uartRx s v1 v2 v3) := by
  unfold State.uartRx
  extract_lets +onlyGivenNames y0
  clear_value y0
  refine Keeps.ite ?_ ?_
  next => exact Keeps.refl _
  next =>
    extract_lets +onlyGivenNames y1
    clear_value y1
    extract_lets +onlyGivenNames y2
    clear_value y2
    extract_lets +onlyGivenNames y3
    have h4 : Keeps 135194822 s y3 := by unfold y3; exact Keeps.of (State.uartPut_keeps _ _ _) rfl
    clear_value y3
    refine Keeps.ite ?_ ?_
    next =>
      refine Keeps.trans ?_ (Keeps.of (State.finc_keeps _ _) rfl)
      refine Keeps.trans ?_ (Keeps.of (State.uartPut_keeps _ _ _) rfl)
      exact h4
    next =>
      refine Keeps.ite ?_ ?_
      next => refine Keeps.trans ?_ (Keeps.of (State.finc_keeps _ _) rfl); exact h4
      next =>
        refine Keeps.ite ?_ ?_
        next => refine Keeps.trans ?_ (Keeps.of (State.uartChar_keeps _ _ _ _) rfl); exact h4
        next => exact h4

theorem State.uartTxDone_keeps (s v1) : Keeps 134217730 s (State.uartTxDone s v1) := by
  unfold State.uartTxDone
  split
  next => rename_i z0 z1; exact Keeps.refl _
  next =>
    rename_i z2 z3 z4 z5
    refine Keeps.trans ?_ (Keeps.of (State.send_keeps _ _ _) rfl)
    exact Keeps.of (State.uartPut_keeps _ _ _) rfl

theorem State.vinOff_keeps (s) : Keeps 4104 s (State.vinOff s) := by
  unfold State.vinOff
  refine Keeps.trans ?_ (Keeps.of (State.sysMod_keeps _ _) rfl)
  exact Keeps.upd_pwr rfl (Keeps.refl _) _

theorem State.vinReturn_keeps (s) : Keeps 4096 s (State.vinReturn s) := by
  unfold State.vinReturn
  refine Keeps.ite ?_ ?_
  next => exact Keeps.of (State.sysMod_keeps _ _) rfl
  next => exact Keeps.refl _

theorem State.wake_keeps (s v1) : Keeps 8589933562 s (State.wake s v1) := by
  unfold State.wake
  extract_lets +onlyGivenNames y0
  clear_value y0
  refine Keeps.ite ?_ ?_
  next => exact Keeps.refl _
  next =>
    split
    next => rename_i z1 z2; exact Keeps.of (State.porStart_keeps _ _) rfl
    next =>
      rename_i z3 z4
      extract_lets +onlyGivenNames y5
      have h6 : Keeps 8589933562 s y5 := by unfold y5; exact Keeps.of (State.restart_keeps _ _) rfl
      clear_value y5
      refine Keeps.ite ?_ ?_
      next => exact h6
      next => refine Keeps.trans ?_ (Keeps.of (State.safPowerOn_keeps _) rfl); exact h6
    next => rename_i z7 z8; exact Keeps.of (State.harbourWake_keeps _) rfl
    next => rename_i z9 z10 z11 z12; exact Keeps.refl _

theorem State.xrst_keeps (s v1 v2) : Keeps 8589933560 s (State.xrst s v1 v2) := by
  unfold State.xrst
  refine Keeps.ite ?_ ?_
  next => exact Keeps.of (State.porStart_keeps _ _) rfl
  next =>
    refine Keeps.ite ?_ ?_
    next => exact Keeps.refl _
    next =>
      refine Keeps.trans ?_ (Keeps.of (State.sysMod_keeps _ _) rfl)
      exact Keeps.of (State.restart_keeps _ _) rfl

theorem State.ydTake_keeps (s v1 v2 v3) : Keeps 4294967296 s (State.ydTake s v1 v2 v3) := by
  unfold State.ydTake
  extract_lets +onlyGivenNames y0
  clear_value y0
  refine Keeps.ite ?_ ?_
  next =>
    refine Keeps.ite ?_ ?_
    next => exact Keeps.refl _
    next =>
      extract_lets +onlyGivenNames y1
      clear_value y1
      extract_lets +onlyGivenNames y2
      clear_value y2
      refine Keeps.trans ?_ (Keeps.of (State.ydPut_keeps _ _ _) rfl)
      exact Keeps.of (State.ydMod_keeps _ _) rfl
  next =>
    refine Keeps.ite ?_ ?_
    next =>
      extract_lets +onlyGivenNames y3
      clear_value y3
      refine Keeps.ite ?_ ?_
      next => exact Keeps.refl _
      next => exact Keeps.of (State.ydMod_keeps _ _) rfl
    next => exact Keeps.refl _

theorem State.ydCanRx_keeps (s v1 v2 v3) : Keeps 4294967364 s (State.ydCanRx s v1 v2 v3) := by
  unfold State.ydCanRx
  refine Keeps.ite ?_ ?_
  next => exact Keeps.refl _
  next =>
    refine Keeps.ite ?_ ?_
    next => exact Keeps.of (State.protoExc_keeps _ _) rfl
    next =>
      extract_lets +onlyGivenNames y0
      have h1 : Keeps 4294967364 s y0 := by unfold y0; exact Keeps.of (State.recOk_keeps _ _) rfl
      clear_value y0
      refine Keeps.ite ?_ ?_
      next => exact h1
      next =>
        refine Keeps.ite ?_ ?_
        next => refine Keeps.trans ?_ (Keeps.of (State.ydTake_keeps _ _ _ _) rfl); exact h1
        next =>
          extract_lets +onlyGivenNames y2
          clear_value y2
          split
          next => rename_i z3 z4; exact h1
          next =>
            rename_i z5 z6 z7
            extract_lets +onlyGivenNames y8
            clear_value y8
            extract_lets +onlyGivenNames y9
            clear_value y9
            extract_lets +onlyGivenNames y10
            clear_value y10
            refine Keeps.trans ?_ (Keeps.of (State.tick1_keeps _) rfl)
            refine Keeps.trans ?_ (Keeps.of (State.ydBufPut_keeps _ _ _) rfl)
            exact h1

theorem State.ydSpiErr_keeps (s) : Keeps 4294967296 s (State.ydSpiErr s) := by
  unfold State.ydSpiErr
  refine Keeps.ite ?_ ?_
  next => exact Keeps.of (State.ydPut_keeps _ _ _) rfl
  next => exact Keeps.refl _

theorem State.ydRead_keeps (s v1) : Keeps 4294967296 s (State.ydRead s v1).1 := by
  unfold State.ydRead
  refine Keeps.ite1 ?_ ?_
  next => dsimp only; exact Keeps.refl _
  next =>
    split
    next => rename_i z0 z1 z2; dsimp only; exact Keeps.of (State.ydMod_keeps _ _) rfl
    next =>
      rename_i z3 z4
      extract_lets +onlyGivenNames y5
      clear_value y5
      extract_lets +onlyGivenNames y6
      have h7 : Keeps 4294967296 s y6 := by
        unfold y6
        refine Keeps.ite ?_ ?_
        next => exact Keeps.of (State.ydMod_keeps _ _) rfl
        next => exact Keeps.refl _
      clear_value y6
      extract_lets +onlyGivenNames y8
      have h9 : Keeps 4294967296 s y8 := by
        unfold y8
        refine Keeps.ite ?_ ?_
        next => refine Keeps.trans ?_ (Keeps.of (State.ydMod_keeps _ _) rfl); exact h7
        next =>
          refine Keeps.ite ?_ ?_
          next => refine Keeps.trans ?_ (Keeps.of (State.ydPut_keeps _ _ _) rfl); exact h7
          next => exact h7
      clear_value y8
      dsimp only
      exact h9

theorem State.ydReadN_keeps (s v1 v2) : Keeps 4294967296 s (State.ydReadN s v1 v2).1 := by
  induction v2 generalizing s v1 with
  | zero => exact Keeps.refl s
  | succ n ih =>
    simp only [State.ydReadN]
    exact (Keeps.of (State.ydRead_keeps s _) rfl).trans (ih _ _)

theorem State.ydSpiReadOp_keeps (s v1 v2) : Keeps 4294967298 s (State.ydSpiReadOp s v1 v2) := by
  unfold State.ydSpiReadOp
  refine Keeps.ite ?_ ?_
  next => exact Keeps.refl _
  next =>
    split
    rename_i z0 z1 z2 z3
    have k4 : Keeps 4294967298 s z1 := by refine Keeps.fst z3 ?_; exact Keeps.of (State.ydReadN_keeps _ _ _) rfl
    split
    rename_i z5 z6 z7 z8
    have k9 : Keeps 4294967298 s z6 := by
      refine Keeps.fst z8 ?_
      refine Keeps.ite1 ?_ ?_
      next => dsimp only; refine Keeps.trans ?_ (Keeps.of (State.ydSpiErr_keeps _) rfl); exact k4
      next => dsimp only; exact k4
    refine Keeps.trans ?_ (Keeps.of (State.send_keeps _ _ _) rfl)
    exact k9

theorem State.ydSave_keeps (s) : Keeps 4294968324 s (State.ydSave s) := by
  unfold State.ydSave
  extract_lets +onlyGivenNames y0
  clear_value y0
  extract_lets +onlyGivenNames y1
  clear_value y1
  refine Keeps.trans ?_ (Keeps.of (State.ydSaveTry_keeps _) rfl)
  exact Keeps.of (State.ydMod_keeps _ _) rfl

theorem State.ydControl_keeps (s v1) : Keeps 4294980676 s (State.ydControl s v1) := by
  unfold State.ydControl
  refine Keeps.ite ?_ ?_
  next => exact Keeps.refl _
  next =>
    extract_lets +onlyGivenNames y0
    have h1 : Keeps 4294980676 s y0 := by
      unfold y0
      refine Keeps.trans ?_ (Keeps.of (State.ydMod_keeps _ _) rfl)
      exact Keeps.of (State.ydPut_keeps _ _ _) rfl
    clear_value y0
    extract_lets +onlyGivenNames y2
    have h3 : Keeps 4294980676 s y2 := by
      unfold y2
      refine Keeps.ite ?_ ?_
      next => refine Keeps.trans ?_ (Keeps.of (State.ydSave_keeps _) rfl); exact h1
      next => exact h1
    clear_value y2
    extract_lets +onlyGivenNames y4
    clear_value y4
    extract_lets +onlyGivenNames y5
    have h6 : Keeps 4294980676 s y5 := by
      unfold y5
      refine Keeps.ite ?_ ?_
      next => refine Keeps.upd_sys rfl (b := y2) ?_ _; exact h3
      next => exact h3
    clear_value y5
    refine Keeps.ite ?_ ?_
    next => exact h6
    next => refine Keeps.trans ?_ (Keeps.of (State.ydGiveUp_keeps _) rfl); exact h6

theorem State.ydLoadPair_keeps (s v1 v2 v3) : Keeps 4294967296 s (State.ydLoadPair s v1 v2 v3) := by
  unfold State.ydLoadPair
  extract_lets +onlyGivenNames y0
  clear_value y0
  extract_lets +onlyGivenNames y1
  clear_value y1
  refine Keeps.ite ?_ ?_
  next => exact Keeps.refl _
  next =>
    refine Keeps.ite ?_ ?_
    next => exact Keeps.of (State.ydBufPut_keeps _ _ _) rfl
    next =>
      refine Keeps.ite ?_ ?_
      next => exact Keeps.of (State.ydBufPut_keeps _ _ _) rfl
      next =>
        extract_lets +onlyGivenNames y2
        have h3 : Keeps 4294967296 s y2 := by
          unfold y2
          refine Keeps.trans ?_ (Keeps.of (State.ydPut_keeps _ _ _) rfl)
          exact Keeps.of (State.ydPut_keeps _ _ _) rfl
        clear_value y2
        refine Keeps.ite ?_ ?_
        next => refine Keeps.trans ?_ (Keeps.of (State.ydOrigin_keeps _) rfl); exact h3
        next => exact h3

theorem State.ydTxReq_keeps (s v1) : Keeps 4429185088 s (State.ydTxReq s v1) := by
  unfold State.ydTxReq
  extract_lets +onlyGivenNames y0
  clear_value y0
  refine Keeps.ite ?_ ?_
  next => exact Keeps.refl _
  next =>
    extract_lets +onlyGivenNames y1
    clear_value y1
    extract_lets +onlyGivenNames y2
    clear_value y2
    split
    next =>
      rename_i z3 z4 z5
      have k6 : Keeps 4429185088 s z4 := by
        refine Keeps.fst z5 ?_
        exact Keeps.of (State.canSubmit_keeps _ _ _ _ _ _) rfl
      refine Keeps.trans ?_ (Keeps.of (State.ydBufPut_keeps _ _ _) rfl)
      exact k6
    next =>
      rename_i z7 z8 z9 z10
      have k11 : Keeps 4429185088 s z8 := by
        refine Keeps.fst z10 ?_
        exact Keeps.of (State.canSubmit_keeps _ _ _ _ _ _) rfl
      exact k11

theorem State.ydMbWrite_keeps (s v1 v2) : Keeps 4429185088 s (State.ydMbWrite s v1 v2) := by
  unfold State.ydMbWrite
  extract_lets +onlyGivenNames y0
  clear_value y0
  extract_lets +onlyGivenNames y1
  clear_value y1
  split
  next => rename_i z2; exact Keeps.of (State.ydPut_keeps _ _ _) rfl
  next =>
    rename_i z3
    refine Keeps.ite ?_ ?_
    next => exact Keeps.refl _
    next =>
      extract_lets +onlyGivenNames y4
      have h5 : Keeps 4429185088 s y4 := by unfold y4; exact Keeps.of (State.ydBufPut_keeps _ _ _) rfl
      clear_value y4
      refine Keeps.ite ?_ ?_
      next => refine Keeps.trans ?_ (Keeps.of (State.ydTxReq_keeps _ _) rfl); exact h5
      next => exact h5
  next => rename_i z6; exact Keeps.of (State.ydBufPut_keeps _ _ _) rfl
  next =>
    rename_i z7 z8 z9 z10
    refine Keeps.ite ?_ ?_
    next =>
      refine Keeps.ite ?_ ?_
      next => exact Keeps.refl _
      next => extract_lets +onlyGivenNames y11; clear_value y11; exact Keeps.of (State.ydBufPut_keeps _ _ _) rfl
    next => exact Keeps.refl _

theorem State.ydWrite_keeps (s v1 v2) : Keeps 4429198404 s (State.ydWrite s v1 v2) := by
  unfold State.ydWrite
  refine Keeps.ite ?_ ?_
  next => exact Keeps.refl _
  next =>
    refine Keeps.ite ?_ ?_
    next =>
      refine Keeps.ite ?_ ?_
      next => exact Keeps.refl _
      next => exact Keeps.of (State.ydMod_keeps _ _) rfl
    next =>
      refine Keeps.ite ?_ ?_
      next =>
        split
        next =>
          rename_i z0 z1 z2 z3
          refine Keeps.ite ?_ ?_
          next =>
            refine Keeps.trans ?_ (Keeps.of (State.ydLoadPair_keeps _ _ _ _) rfl)
            exact Keeps.of (State.ydMod_keeps _ _) rfl
          next => exact Keeps.of (State.ydLoadPair_keeps _ _ _ _) rfl
        next => rename_i z4 z5; exact Keeps.of (State.ydLoadPair_keeps _ _ _ _) rfl
      next =>
        refine Keeps.ite ?_ ?_
        next => exact Keeps.of (State.ydControl_keeps _ _) rfl
        next =>
          refine Keeps.ite ?_ ?_
          next => exact Keeps.of (State.ydPut_keeps _ _ _) rfl
          next =>
            refine Keeps.ite ?_ ?_
            next => exact Keeps.of (State.ydMbWrite_keeps _ _ _) rfl
            next =>
              split
              next => rename_i z6 z7; exact Keeps.refl _
              next =>
                rename_i z8 z9 z10
                extract_lets +onlyGivenNames y11
                clear_value y11
                extract_lets +onlyGivenNames y12
                have h13 : Keeps 4429198404 s y12 := by unfold y12; exact Keeps.of (State.ydPut_keeps _ _ _) rfl
                clear_value y12
                refine Keeps.ite ?_ ?_
                next =>
                  refine Keeps.foldl ?_ ?_ _
                  next => exact h13
                  next =>
                    intro t14 x15
                    refine Keeps.ite ?_ ?_
                    next => exact Keeps.of (State.ydRate_keeps _ _) rfl
                    next => exact Keeps.refl _
                next => exact h13

theorem State.ydWriteN_keeps (s v1) : ∀ v2, Keeps 4429198404 s (State.ydWriteN s v1 v2)
  | [] => Keeps.refl s
  | [_] => Keeps.of (State.ydSpiErr_keeps s) rfl
  | h :: l :: r => (Keeps.of (State.ydWrite_keeps s _ _) rfl).trans (State.ydWriteN_keeps _ _ r)

theorem State.ydSpiWriteOp_keeps (s v1) : Keeps 4429198406 s (State.ydSpiWriteOp s v1) := by
  unfold State.ydSpiWriteOp
  refine Keeps.ite ?_ ?_
  next => exact Keeps.refl _
  next =>
    split
    next => rename_i z0; exact Keeps.refl _
    next =>
      rename_i z1 z2 z3
      refine Keeps.ite ?_ ?_
      next =>
        split
        next => rename_i z4 z5 z6; exact Keeps.of (State.ydSpiReadOp_keeps _ _ _) rfl
        next => rename_i z7; exact Keeps.of (State.ydSpiErr_keeps _) rfl
      next =>
        refine Keeps.ite ?_ ?_
        next => exact Keeps.of (State.ydSpiErr_keeps _) rfl
        next =>
          split
          next => rename_i z8; exact Keeps.of (State.ydSpiErr_keeps _) rfl
          next => rename_i z9 z10 z11; exact Keeps.of (State.ydWriteN_keeps _ _ _) rfl

theorem State.ydBecome_keeps (s) : Keeps 4294975552 s (State.ydBecome s) := by
  unfold State.ydBecome
  refine Keeps.ite ?_ ?_
  next => exact Keeps.refl _
  next =>
    refine Keeps.trans ?_ (Keeps.of (State.ledger_keeps _ _ _) rfl)
    refine Keeps.trans ?_ (Keeps.of (State.ydPut_keeps _ _ _) rfl)
    exact Keeps.of (State.ydMod_keeps _ _) rfl

theorem State.ydMastery_keeps (s) : Keeps 4294975552 s (State.ydMastery s) := by
  unfold State.ydMastery
  extract_lets +onlyGivenNames y0
  clear_value y0
  extract_lets +onlyGivenNames y1
  clear_value y1
  extract_lets +onlyGivenNames y2
  clear_value y2
  refine Keeps.ite ?_ ?_
  next => exact Keeps.of (State.ydGiveUp_keeps _) rfl
  next =>
    refine Keeps.ite ?_ ?_
    next => exact Keeps.refl _
    next =>
      refine Keeps.ite ?_ ?_
      next => exact Keeps.of (State.ydBecome_keeps _) rfl
      next =>
        refine Keeps.ite ?_ ?_
        next => exact Keeps.of (State.ydBecome_keeps _) rfl
        next => exact Keeps.refl _

theorem State.ydCycle_keeps (s v1) : Keeps 4294975556 s (State.ydCycle s v1) := by
  unfold State.ydCycle
  extract_lets +onlyGivenNames y0
  clear_value y0
  extract_lets +onlyGivenNames y1
  clear_value y1
  extract_lets +onlyGivenNames y2
  clear_value y2
  extract_lets +onlyGivenNames y3
  clear_value y3
  extract_lets +onlyGivenNames y4
  clear_value y4
  split
  rename_i z5 z6 z7 z8
  extract_lets +onlyGivenNames y9
  clear_value y9
  extract_lets +onlyGivenNames y10
  clear_value y10
  extract_lets +onlyGivenNames y11
  clear_value y11
  extract_lets +onlyGivenNames y12
  clear_value y12
  extract_lets +onlyGivenNames y13
  clear_value y13
  extract_lets +onlyGivenNames y14
  clear_value y14
  extract_lets +onlyGivenNames y15
  clear_value y15
  extract_lets +onlyGivenNames y16
  clear_value y16
  extract_lets +onlyGivenNames y17
  clear_value y17
  extract_lets +onlyGivenNames y18
  clear_value y18
  extract_lets +onlyGivenNames y19
  clear_value y19
  extract_lets +onlyGivenNames y20
  clear_value y20
  extract_lets +onlyGivenNames y21
  clear_value y21
  extract_lets +onlyGivenNames y22
  clear_value y22
  extract_lets +onlyGivenNames y23
  clear_value y23
  extract_lets +onlyGivenNames y24
  clear_value y24
  extract_lets +onlyGivenNames y25
  have h26 : Keeps 4294975556 s y25 := by unfold y25; exact Keeps.of (State.ydMod_keeps _ _) rfl
  clear_value y25
  extract_lets +onlyGivenNames y27
  have h28 : Keeps 4294975556 s y27 := by
    unfold y27
    refine Keeps.trans ?_ (Keeps.of (State.ydPuts_keeps _ _) rfl)
    exact h26
  clear_value y27
  extract_lets +onlyGivenNames y29
  have h30 : Keeps 4294975556 s y29 := by
    unfold y29
    refine Keeps.trans ?_ (Keeps.of (State.ydAlarm_keeps _ _) rfl)
    exact h28
  clear_value y29
  extract_lets +onlyGivenNames y31
  have h32 : Keeps 4294975556 s y31 := by
    unfold y31
    refine Keeps.trans ?_ (Keeps.of (State.ydMastery_keeps _) rfl)
    exact h30
  clear_value y31
  refine Keeps.upd_free rfl (b := y31) ?_ _
  exact h32

theorem State.ydStart_keeps (s) : Keeps 4294975556 s (State.ydStart s) := by
  unfold State.ydStart
  extract_lets +onlyGivenNames y0
  clear_value y0
  refine Keeps.ite ?_ ?_
  next => exact Keeps.refl _
  next =>
    extract_lets +onlyGivenNames y1
    clear_value y1
    extract_lets +onlyGivenNames y2
    clear_value y2
    extract_lets +onlyGivenNames y3
    have h4 : Keeps 4294975556 s y3 := by unfold y3; exact Keeps.of (State.ydMod_keeps _ _) rfl
    clear_value y3
    refine Keeps.ite ?_ ?_
    next => refine Keeps.trans ?_ (Keeps.of (State.ydCycle_keeps _ _) rfl); exact h4
    next => exact h4

theorem State.ydReleaseOk_keeps (s) : Keeps 4294975552 s (State.ydReleaseOk s).1 := by
  unfold State.ydReleaseOk
  extract_lets +onlyGivenNames y0
  clear_value y0
  refine Keeps.ite1 ?_ ?_
  next => dsimp only; exact Keeps.refl _
  next =>
    refine Keeps.ite1 ?_ ?_
    next =>
      extract_lets +onlyGivenNames y1
      have h2 : Keeps 4294975552 s y1 := by
        unfold y1
        refine Keeps.trans ?_ (Keeps.of (State.ydAlarm_keeps _ _) rfl)
        exact Keeps.of (State.ydMod_keeps _ _) rfl
      clear_value y1
      refine Keeps.ite1 ?_ ?_
      next => dsimp only; exact h2
      next => dsimp only; refine Keeps.trans ?_ (Keeps.of (State.ydGiveUp_keeps _) rfl); exact h2
    next => dsimp only; exact Keeps.of (State.ydMod_keeps _ _) rfl

theorem State.ydSend_keeps (s v1 v2 v3) : Keeps 134217792 s (State.ydSend s v1 v2 v3) := by
  unfold State.ydSend
  exact Keeps.of (State.canSubmit_keeps _ _ _ _ _ _) rfl

theorem State.ydRelease_keeps (s) : Keeps 4429193280 s (State.ydRelease s) := by
  unfold State.ydRelease
  split
  next => rename_i z0 z1; exact Keeps.refl _
  next =>
    rename_i z2 z3 z4
    refine Keeps.ite ?_ ?_
    next => exact Keeps.refl _
    next =>
      extract_lets +onlyGivenNames y5
      have h6 : Keeps 4429193280 s y5 := by
        unfold y5
        refine Keeps.trans ?_ (Keeps.of (State.ydMod_keeps _ _) rfl)
        refine Keeps.trans ?_ (Keeps.of (State.ydPut_keeps _ _ _) rfl)
        refine Keeps.trans ?_ (Keeps.of (State.ydAlarm_keeps _ _) rfl)
        exact Keeps.of (State.ydPuts_keeps _ _) rfl
      clear_value y5
      split
      rename_i z7 z8 z9 z10
      have k11 : Keeps 4429193280 s z8 := by
        refine Keeps.fst z10 ?_
        refine Keeps.trans ?_ (Keeps.of (State.ydReleaseOk_keeps _) rfl)
        exact h6
      extract_lets +onlyGivenNames y12
      clear_value y12
      extract_lets +onlyGivenNames y13
      clear_value y13
      extract_lets +onlyGivenNames y14
      have h15 : Keeps 4429193280 s y14 := by
        unfold y14
        refine Keeps.ite ?_ ?_
        next =>
          refine Keeps.foldl ?_ ?_ _
          next => exact k11
          next => intro t16 x17; exact Keeps.of (State.ydSend_keeps _ _ _ _) rfl
        next => exact k11
      clear_value y14
      extract_lets +onlyGivenNames y18
      clear_value y18
      extract_lets +onlyGivenNames y19
      clear_value y19
      refine Keeps.trans ?_ (Keeps.of (State.ydSend_keeps _ _ _ _) rfl)
      refine Keeps.trans ?_ (Keeps.of (State.ydSend_keeps _ _ _ _) rfl)
      exact h15

end Sys2Proof.Machine
end

