-- ==== Sys2Proof/Laws/KeepsExec.lean ====
section
/-!
SUPPORT. What each command keeps: the canonical form of the stores, the queue, and every part of the state outside its mask.
-/

namespace Sys2Proof.Machine

theorem execGetInfo_keeps (h : HCmd) (s post : State) (h : execGetInfo h s = .next post) :
    Keeps 4294901758 s post := by
  obtain rfl := Host.Outcome.next.inj h
  exact Keeps.of (State.hostCmd_keeps _ _ _) rfl

theorem execEnterConfig_keeps (h : HCmd) (s post : State) (h : execEnterConfig h s = .next post) :
    Keeps 4294901758 s post := by
  obtain rfl := Host.Outcome.next.inj h
  exact Keeps.of (State.hostCmd_keeps _ _ _) rfl

theorem execLeaveConfig_keeps (h : HCmd) (s post : State) (h : execLeaveConfig h s = .next post) :
    Keeps 4294901758 s post := by
  obtain rfl := Host.Outcome.next.inj h
  exact Keeps.of (State.hostCmd_keeps _ _ _) rfl

theorem execReset_keeps (h : HCmd) (s post : State) (h : execReset h s = .next post) :
    Keeps 4294901758 s post := by
  obtain rfl := Host.Outcome.next.inj h
  exact Keeps.of (State.hostCmd_keeps _ _ _) rfl

theorem execSetRtc_keeps (h : HCmd) (s post : State) (h : execSetRtc h s = .next post) :
    Keeps 4294901758 s post := by
  obtain rfl := Host.Outcome.next.inj h
  exact Keeps.of (State.hostCmd_keeps _ _ _) rfl

theorem execCfgOpen_keeps (h : HCmd) (s post : State) (h : execCfgOpen h s = .next post) :
    Keeps 4294901758 s post := by
  obtain rfl := Host.Outcome.next.inj h
  exact Keeps.of (State.hostCmd_keeps _ _ _) rfl

theorem execCfgAbort_keeps (h : HCmd) (s post : State) (h : execCfgAbort h s = .next post) :
    Keeps 4294901758 s post := by
  obtain rfl := Host.Outcome.next.inj h
  exact Keeps.of (State.hostCmd_keeps _ _ _) rfl

theorem execObjStage_keeps (h : HCmd) (s post : State) (h : execObjStage h s = .next post) :
    Keeps 4294901758 s post := by
  obtain rfl := Host.Outcome.next.inj h
  exact Keeps.of (State.hostCmd_keeps _ _ _) rfl

theorem execObjRead_keeps (h : HCmd) (s post : State) (h : execObjRead h s = .next post) :
    Keeps 4294901758 s post := by
  obtain rfl := Host.Outcome.next.inj h
  exact Keeps.of (State.hostCmd_keeps _ _ _) rfl

theorem execObjUnstage_keeps (h : HCmd) (s post : State) (h : execObjUnstage h s = .next post) :
    Keeps 4294901758 s post := by
  obtain rfl := Host.Outcome.next.inj h
  exact Keeps.of (State.hostCmd_keeps _ _ _) rfl

theorem execCfgCommit_keeps (h : HCmd) (s post : State) (h : execCfgCommit h s = .next post) :
    Keeps 4294901758 s post := by
  obtain rfl := Host.Outcome.next.inj h
  exact Keeps.of (State.hostCmd_keeps _ _ _) rfl

theorem execCfgRevert_keeps (h : HCmd) (s post : State) (h : execCfgRevert h s = .next post) :
    Keeps 4294901758 s post := by
  obtain rfl := Host.Outcome.next.inj h
  exact Keeps.of (State.hostCmd_keeps _ _ _) rfl

theorem execImgBegin_keeps (h : HCmd) (s post : State) (h : execImgBegin h s = .next post) :
    Keeps 4294901758 s post := by
  obtain rfl := Host.Outcome.next.inj h
  exact Keeps.of (State.hostCmd_keeps _ _ _) rfl

theorem execImgAppend_keeps (h : HCmd) (s post : State) (h : execImgAppend h s = .next post) :
    Keeps 4294901758 s post := by
  obtain rfl := Host.Outcome.next.inj h
  exact Keeps.of (State.hostCmd_keeps _ _ _) rfl

theorem execImgEnd_keeps (h : HCmd) (s post : State) (h : execImgEnd h s = .next post) :
    Keeps 4294901758 s post := by
  obtain rfl := Host.Outcome.next.inj h
  exact Keeps.of (State.hostCmd_keeps _ _ _) rfl

theorem execImgCancel_keeps (h : HCmd) (s post : State) (h : execImgCancel h s = .next post) :
    Keeps 4294901758 s post := by
  obtain rfl := Host.Outcome.next.inj h
  exact Keeps.of (State.hostCmd_keeps _ _ _) rfl

theorem execAlignCommit_keeps (h : HCmd) (s post : State) (h : execAlignCommit h s = .next post) :
    Keeps 4294901758 s post := by
  obtain rfl := Host.Outcome.next.inj h
  exact Keeps.of (State.hostCmd_keeps _ _ _) rfl

theorem execAlignRevert_keeps (h : HCmd) (s post : State) (h : execAlignRevert h s = .next post) :
    Keeps 4294901758 s post := by
  obtain rfl := Host.Outcome.next.inj h
  exact Keeps.of (State.hostCmd_keeps _ _ _) rfl

theorem execOverlayCommit_keeps (h : HCmd) (s post : State) (h : execOverlayCommit h s = .next post) :
    Keeps 4294901758 s post := by
  obtain rfl := Host.Outcome.next.inj h
  exact Keeps.of (State.hostCmd_keeps _ _ _) rfl

theorem execSetFunction_keeps (h : HCmd) (s post : State) (h : execSetFunction h s = .next post) :
    Keeps 4294901758 s post := by
  obtain rfl := Host.Outcome.next.inj h
  exact Keeps.of (State.hostCmd_keeps _ _ _) rfl

theorem execSetPosition_keeps (h : HCmd) (s post : State) (h : execSetPosition h s = .next post) :
    Keeps 4294901758 s post := by
  obtain rfl := Host.Outcome.next.inj h
  exact Keeps.of (State.hostCmd_keeps _ _ _) rfl

theorem execSetSpeed_keeps (h : HCmd) (s post : State) (h : execSetSpeed h s = .next post) :
    Keeps 4294901758 s post := by
  obtain rfl := Host.Outcome.next.inj h
  exact Keeps.of (State.hostCmd_keeps _ _ _) rfl

theorem execSetLimits_keeps (h : HCmd) (s post : State) (h : execSetLimits h s = .next post) :
    Keeps 4294901758 s post := by
  obtain rfl := Host.Outcome.next.inj h
  exact Keeps.of (State.hostCmd_keeps _ _ _) rfl

theorem execTrackLoad_keeps (h : HCmd) (s post : State) (h : execTrackLoad h s = .next post) :
    Keeps 4294901758 s post := by
  obtain rfl := Host.Outcome.next.inj h
  exact Keeps.of (State.hostCmd_keeps _ _ _) rfl

theorem execTrackAppend_keeps (h : HCmd) (s post : State) (h : execTrackAppend h s = .next post) :
    Keeps 4294901758 s post := by
  obtain rfl := Host.Outcome.next.inj h
  exact Keeps.of (State.hostCmd_keeps _ _ _) rfl

theorem execSetOrigin_keeps (h : HCmd) (s post : State) (h : execSetOrigin h s = .next post) :
    Keeps 4294901758 s post := by
  obtain rfl := Host.Outcome.next.inj h
  exact Keeps.of (State.hostCmd_keeps _ _ _) rfl

theorem execScenEnable_keeps (h : HCmd) (s post : State) (h : execScenEnable h s = .next post) :
    Keeps 4294901758 s post := by
  obtain rfl := Host.Outcome.next.inj h
  exact Keeps.of (State.hostCmd_keeps _ _ _) rfl

theorem execThrExclude_keeps (h : HCmd) (s post : State) (h : execThrExclude h s = .next post) :
    Keeps 4294901758 s post := by
  obtain rfl := Host.Outcome.next.inj h
  exact Keeps.of (State.hostCmd_keeps _ _ _) rfl

theorem execRefReadmit_keeps (h : HCmd) (s post : State) (h : execRefReadmit h s = .next post) :
    Keeps 4294901758 s post := by
  obtain rfl := Host.Outcome.next.inj h
  exact Keeps.of (State.hostCmd_keeps _ _ _) rfl

theorem execSetAutoreadmit_keeps (h : HCmd) (s post : State) (h : execSetAutoreadmit h s = .next post) :
    Keeps 4294901758 s post := by
  obtain rfl := Host.Outcome.next.inj h
  exact Keeps.of (State.hostCmd_keeps _ _ _) rfl

theorem execKeyClaim_keeps (h : HCmd) (s post : State) (h : execKeyClaim h s = .next post) :
    Keeps 4294901758 s post := by
  obtain rfl := Host.Outcome.next.inj h
  exact Keeps.of (State.hostCmd_keeps _ _ _) rfl

theorem execKeyTransfer_keeps (h : HCmd) (s post : State) (h : execKeyTransfer h s = .next post) :
    Keeps 4294901758 s post := by
  obtain rfl := Host.Outcome.next.inj h
  exact Keeps.of (State.hostCmd_keeps _ _ _) rfl

theorem execKeyRelinquish_keeps (h : HCmd) (s post : State) (h : execKeyRelinquish h s = .next post) :
    Keeps 4294901758 s post := by
  obtain rfl := Host.Outcome.next.inj h
  exact Keeps.of (State.hostCmd_keeps _ _ _) rfl

theorem execResync_keeps (h : HCmd) (s post : State) (h : execResync h s = .next post) :
    Keeps 4294901758 s post := by
  obtain rfl := Host.Outcome.next.inj h
  exact Keeps.of (State.hostCmd_keeps _ _ _) rfl

theorem execDisagreeClear_keeps (h : HCmd) (s post : State) (h : execDisagreeClear h s = .next post) :
    Keeps 4294901758 s post := by
  obtain rfl := Host.Outcome.next.inj h
  exact Keeps.of (State.hostCmd_keeps _ _ _) rfl

theorem execSafOpen_keeps (h : HCmd) (s post : State) (h : execSafOpen h s = .next post) :
    Keeps 4294901758 s post := by
  obtain rfl := Host.Outcome.next.inj h
  exact Keeps.of (State.hostCmd_keeps _ _ _) rfl

theorem execSafClose_keeps (h : HCmd) (s post : State) (h : execSafClose h s = .next post) :
    Keeps 4294901758 s post := by
  obtain rfl := Host.Outcome.next.inj h
  exact Keeps.of (State.hostCmd_keeps _ _ _) rfl

theorem execSafPassword_keeps (h : HCmd) (s post : State) (h : execSafPassword h s = .next post) :
    Keeps 4294901758 s post := by
  obtain rfl := Host.Outcome.next.inj h
  exact Keeps.of (State.hostCmd_keeps _ _ _) rfl

theorem execSafCommit_keeps (h : HCmd) (s post : State) (h : execSafCommit h s = .next post) :
    Keeps 4294901758 s post := by
  obtain rfl := Host.Outcome.next.inj h
  exact Keeps.of (State.hostCmd_keeps _ _ _) rfl

theorem execSafAck_keeps (h : HCmd) (s post : State) (h : execSafAck h s = .next post) :
    Keeps 4294901758 s post := by
  obtain rfl := Host.Outcome.next.inj h
  exact Keeps.of (State.hostCmd_keeps _ _ _) rfl

theorem execSafReset_keeps (h : HCmd) (s post : State) (h : execSafReset h s = .next post) :
    Keeps 4294901758 s post := by
  obtain rfl := Host.Outcome.next.inj h
  exact Keeps.of (State.hostCmd_keeps _ _ _) rfl

theorem execSafTrip_keeps (h : HCmd) (s post : State) (h : execSafTrip h s = .next post) :
    Keeps 4294901758 s post := by
  obtain rfl := Host.Outcome.next.inj h
  exact Keeps.of (State.hostCmd_keeps _ _ _) rfl

theorem execLogStart_keeps (h : HCmd) (s post : State) (h : execLogStart h s = .next post) :
    Keeps 4294901758 s post := by
  obtain rfl := Host.Outcome.next.inj h
  exact Keeps.of (State.hostCmd_keeps _ _ _) rfl

theorem execLogStop_keeps (h : HCmd) (s post : State) (h : execLogStop h s = .next post) :
    Keeps 4294901758 s post := by
  obtain rfl := Host.Outcome.next.inj h
  exact Keeps.of (State.hostCmd_keeps _ _ _) rfl

theorem execLogExchange_keeps (h : HCmd) (s post : State) (h : execLogExchange h s = .next post) :
    Keeps 4294901758 s post := by
  obtain rfl := Host.Outcome.next.inj h
  exact Keeps.of (State.hostCmd_keeps _ _ _) rfl

theorem execLogChange_keeps (h : HCmd) (s post : State) (h : execLogChange h s = .next post) :
    Keeps 4294901758 s post := by
  obtain rfl := Host.Outcome.next.inj h
  exact Keeps.of (State.hostCmd_keeps _ _ _) rfl

theorem execPtWrite_keeps (h : HCmd) (s post : State) (h : execPtWrite h s = .next post) :
    Keeps 4294901758 s post := by
  obtain rfl := Host.Outcome.next.inj h
  exact Keeps.of (State.hostCmd_keeps _ _ _) rfl

theorem execGnsSnap_keeps (h : HCmd) (s post : State) (h : execGnsSnap h s = .next post) :
    Keeps 4294901758 s post := by
  obtain rfl := Host.Outcome.next.inj h
  exact Keeps.of (State.hostCmd_keeps _ _ _) rfl

theorem execGnsForget_keeps (h : HCmd) (s post : State) (h : execGnsForget h s = .next post) :
    Keeps 4294901758 s post := by
  obtain rfl := Host.Outcome.next.inj h
  exact Keeps.of (State.hostCmd_keeps _ _ _) rfl

theorem execCanSend_keeps (h : HCmd) (s post : State) (h : execCanSend h s = .next post) :
    Keeps 4294901758 s post := by
  obtain rfl := Host.Outcome.next.inj h
  exact Keeps.of (State.hostCmd_keeps _ _ _) rfl

theorem execUartSend_keeps (h : HCmd) (s post : State) (h : execUartSend h s = .next post) :
    Keeps 4294901758 s post := by
  obtain rfl := Host.Outcome.next.inj h
  exact Keeps.of (State.hostCmd_keeps _ _ _) rfl

theorem execSdfStart_keeps (h : HCmd) (s post : State) (h : execSdfStart h s = .next post) :
    Keeps 4294901758 s post := by
  obtain rfl := Host.Outcome.next.inj h
  exact Keeps.of (State.hostCmd_keeps _ _ _) rfl

theorem execSdfStop_keeps (h : HCmd) (s post : State) (h : execSdfStop h s = .next post) :
    Keeps 4294901758 s post := by
  obtain rfl := Host.Outcome.next.inj h
  exact Keeps.of (State.hostCmd_keeps _ _ _) rfl

theorem execPnlUpdate_keeps (h : HCmd) (s post : State) (h : execPnlUpdate h s = .next post) :
    Keeps 4294901758 s post := by
  obtain rfl := Host.Outcome.next.inj h
  exact Keeps.of (State.hostCmd_keeps _ _ _) rfl

theorem execPnlResume_keeps (h : HCmd) (s post : State) (h : execPnlResume h s = .next post) :
    Keeps 4294901758 s post := by
  obtain rfl := Host.Outcome.next.inj h
  exact Keeps.of (State.hostCmd_keeps _ _ _) rfl

theorem execHarvest_keeps (h : HCmd) (s post : State) (h : execHarvest h s = .next post) :
    Keeps 4294901758 s post := by
  obtain rfl := Host.Outcome.next.inj h
  exact Keeps.of (State.hostCmd_keeps _ _ _) rfl

theorem execRecCtrl_keeps (h : HCmd) (s post : State) (h : execRecCtrl h s = .next post) :
    Keeps 4294901758 s post := by
  obtain rfl := Host.Outcome.next.inj h
  exact Keeps.of (State.hostCmd_keeps _ _ _) rfl

theorem execRecRead_keeps (h : HCmd) (s post : State) (h : execRecRead h s = .next post) :
    Keeps 4294901758 s post := by
  obtain rfl := Host.Outcome.next.inj h
  exact Keeps.of (State.hostCmd_keeps _ _ _) rfl

theorem execLedgerRead_keeps (h : HCmd) (s post : State) (h : execLedgerRead h s = .next post) :
    Keeps 4294901758 s post := by
  obtain rfl := Host.Outcome.next.inj h
  exact Keeps.of (State.hostCmd_keeps _ _ _) rfl

theorem execReadmit_keeps (h : HCmd) (s post : State) (h : execReadmit h s = .next post) :
    Keeps 4294901758 s post := by
  obtain rfl := Host.Outcome.next.inj h
  exact Keeps.of (State.hostCmd_keeps _ _ _) rfl

theorem execReplayEnter_keeps (h : HCmd) (s post : State) (h : execReplayEnter h s = .next post) :
    Keeps 4294901758 s post := by
  obtain rfl := Host.Outcome.next.inj h
  exact Keeps.of (State.hostCmd_keeps _ _ _) rfl

theorem execReplayFeed_keeps (h : HCmd) (s post : State) (h : execReplayFeed h s = .next post) :
    Keeps 4294901758 s post := by
  obtain rfl := Host.Outcome.next.inj h
  exact Keeps.of (State.hostCmd_keeps _ _ _) rfl

theorem execReplayExit_keeps (h : HCmd) (s post : State) (h : execReplayExit h s = .next post) :
    Keeps 4294901758 s post := by
  obtain rfl := Host.Outcome.next.inj h
  exact Keeps.of (State.hostCmd_keeps _ _ _) rfl

theorem execPwrState_keeps (h : HCmd) (s post : State) (h : execPwrState h s = .next post) :
    Keeps 4294901758 s post := by
  obtain rfl := Host.Outcome.next.inj h
  exact Keeps.of (State.hostCmd_keeps _ _ _) rfl

theorem execDoorbell_keeps (v : Nat) (s post : State) (h : execDoorbell v s = .next post) :
    Keeps 1603714046 s post := by
  obtain rfl := Host.Outcome.next.inj h
  exact Keeps.of (State.hostWr_keeps _ _ _) rfl

theorem execHifRspCiWrite_keeps (v : Nat) (s post : State) (h : execHifRspCiWrite v s = .next post) :
    Keeps 1603714046 s post := by
  obtain rfl := Host.Outcome.next.inj h
  exact Keeps.of (State.hostWr_keeps _ _ _) rfl

theorem execHifEvtCiWrite_keeps (v : Nat) (s post : State) (h : execHifEvtCiWrite v s = .next post) :
    Keeps 1603714046 s post := by
  obtain rfl := Host.Outcome.next.inj h
  exact Keeps.of (State.hostWr_keeps _ _ _) rfl

theorem execSpiRead_keeps (quad : Bool) (addr : Nat) (n : Nat) (s post : State) (h : execSpiRead quad addr n s = .next post) :
    Keeps 1603714046 s post := by
  obtain rfl := Host.Outcome.next.inj h
  exact Keeps.of (State.spiTrans_keeps _ _ _ _) rfl

theorem execSpiWrite_keeps (quad : Bool) (addr : Nat) (bs : List Byte) (s post : State) (h : execSpiWrite quad addr bs s = .next post) :
    Keeps 1603714046 s post := by
  obtain rfl := Host.Outcome.next.inj h
  exact Keeps.of (State.spiTrans_keeps _ _ _ _) rfl

theorem execSpiStatus_keeps (quad : Bool) (s post : State) (h : execSpiStatus quad s = .next post) :
    Keeps 1603714046 s post := by
  obtain rfl := Host.Outcome.next.inj h
  exact Keeps.of (State.spiTrans_keeps _ _ _ _) rfl

theorem execEnterQuad_keeps (quad : Bool) (s post : State) (h : execEnterQuad quad s = .next post) :
    Keeps 1603714046 s post := by
  obtain rfl := Host.Outcome.next.inj h
  exact Keeps.of (State.spiTrans_keeps _ _ _ _) rfl

theorem execExitQuad_keeps (quad : Bool) (s post : State) (h : execExitQuad quad s = .next post) :
    Keeps 1603714046 s post := by
  obtain rfl := Host.Outcome.next.inj h
  exact Keeps.of (State.spiTrans_keeps _ _ _ _) rfl

theorem execRegisterWrite_keeps (a : Nat) (bs : List Byte) (s post : State) (h : execRegisterWrite a bs s = .next post) :
    Keeps 1603714046 s post := by
  obtain rfl := Host.Outcome.next.inj h
  refine Keeps.ite ?_ ?_
  next =>
    exact Keeps.of (State.hostStore_keeps _ _ _) rfl
  next =>
    exact Keeps.refl _

theorem execTimIncIntWrite_keeps (v : Nat) (s post : State) (h : execTimIncIntWrite v s = .next post) :
    Keeps 1603714046 s post := by
  obtain rfl := Host.Outcome.next.inj h
  exact Keeps.of (State.hostWr_keeps _ _ _) rfl

theorem execContextEnable_keeps (n : Nat) (s post : State) (h : execContextEnable n s = .next post) :
    Keeps 1603714046 s post := by
  obtain rfl := Host.Outcome.next.inj h
  exact Keeps.of (State.hostWrN_keeps _ _ _ _ _ _) rfl

theorem execContextDisable_keeps (n : Nat) (s post : State) (h : execContextDisable n s = .next post) :
    Keeps 1603714046 s post := by
  obtain rfl := Host.Outcome.next.inj h
  exact Keeps.of (State.hostWrN_keeps _ _ _ _ _ _) rfl

theorem execScxStatRead_keeps (n : Nat) (s post : State) (h : execScxStatRead n s = .next post) :
    Keeps 1140863042 s post := by
  obtain rfl := Host.Outcome.next.inj h
  exact Keeps.of (State.hostRdN_keeps _ _ _ _ _) rfl

theorem execNetPortStatRead_keeps (n : Nat) (s post : State) (h : execNetPortStatRead n s = .next post) :
    Keeps 1140863042 s post := by
  obtain rfl := Host.Outcome.next.inj h
  exact Keeps.of (State.hostRdN_keeps _ _ _ _ _) rfl

theorem execCanStatRead_keeps (n : Nat) (s post : State) (h : execCanStatRead n s = .next post) :
    Keeps 1140863042 s post := by
  obtain rfl := Host.Outcome.next.inj h
  exact Keeps.of (State.hostRdN_keeps _ _ _ _ _) rfl

theorem execCanCntRead_keeps (n : Nat) (s post : State) (h : execCanCntRead n s = .next post) :
    Keeps 1140863042 s post := by
  obtain rfl := Host.Outcome.next.inj h
  exact Keeps.of (State.hostRdN_keeps _ _ _ _ _) rfl

theorem execCanUcntRead_keeps (n : Nat) (s post : State) (h : execCanUcntRead n s = .next post) :
    Keeps 1140863042 s post := by
  obtain rfl := Host.Outcome.next.inj h
  exact Keeps.of (State.hostRdN_keeps _ _ _ _ _) rfl

theorem execLogTaskTimeRead_keeps (n : Nat) (s post : State) (h : execLogTaskTimeRead n s = .next post) :
    Keeps 1140863042 s post := by
  obtain rfl := Host.Outcome.next.inj h
  exact Keeps.of (State.hostRdN_keeps _ _ _ _ _) rfl

theorem execLogTaskCntRead_keeps (n : Nat) (s post : State) (h : execLogTaskCntRead n s = .next post) :
    Keeps 1140863042 s post := by
  obtain rfl := Host.Outcome.next.inj h
  exact Keeps.of (State.hostRdN_keeps _ _ _ _ _) rfl

theorem execCanInitEnter_keeps (n : Nat) (s post : State) (h : execCanInitEnter n s = .next post) :
    Keeps 1603714046 s post := by
  obtain rfl := Host.Outcome.next.inj h
  exact Keeps.of (State.hostWrN_keeps _ _ _ _ _ _) rfl

theorem execCanInitLeave_keeps (n : Nat) (s post : State) (h : execCanInitLeave n s = .next post) :
    Keeps 1603714046 s post := by
  obtain rfl := Host.Outcome.next.inj h
  exact Keeps.of (State.hostWrN_keeps _ _ _ _ _ _) rfl

theorem execFilterWrite_keeps (n : Nat) (idx : Nat) (s post : State) (h : execFilterWrite n idx s = .next post) :
    Keeps 1603714046 s post := by
  obtain rfl := Host.Outcome.next.inj h
  exact Keeps.of (State.hostWrN_keeps _ _ _ _ _ _) rfl

theorem execFilterRead_keeps (n : Nat) (idx : Nat) (s post : State) (h : execFilterRead n idx s = .next post) :
    Keeps 1603714046 s post := by
  obtain rfl := Host.Outcome.next.inj h
  exact Keeps.of (State.hostWrN_keeps _ _ _ _ _ _) rfl

theorem execRxqAck_keeps (n : Nat) (q : Nat) (k : Nat) (s post : State) (h : execRxqAck n q k s = .next post) :
    Keeps 1603714046 s post := by
  obtain rfl := Host.Outcome.next.inj h
  exact Keeps.of (State.hostWrN_keeps _ _ _ _ _ _) rfl

theorem execTxAbort_keeps (n : Nat) (mask : Nat) (s post : State) (h : execTxAbort n mask s = .next post) :
    Keeps 1603714046 s post := by
  obtain rfl := Host.Outcome.next.inj h
  exact Keeps.of (State.hostWrN_keeps _ _ _ _ _ _) rfl

theorem execBankOpen_keeps (b : Nat) (addr : Nat) (s post : State) (h : execBankOpen b addr s = .next post) :
    Keeps 1603714046 s post := by
  obtain rfl := Host.Outcome.next.inj h
  exact Keeps.of (State.hostWr_keeps _ _ _) rfl

theorem execBankDataWrite_keeps (w : Nat) (s post : State) (h : execBankDataWrite w s = .next post) :
    Keeps 1603714046 s post := by
  obtain rfl := Host.Outcome.next.inj h
  exact Keeps.of (State.hostWr_keeps _ _ _) rfl

theorem execSdfChannelStart_keeps (n : Nat) (s post : State) (h : execSdfChannelStart n s = .next post) :
    Keeps 1603714046 s post := by
  obtain rfl := Host.Outcome.next.inj h
  exact Keeps.of (State.hostWrN_keeps _ _ _ _ _ _) rfl

theorem execSdfChannelStop_keeps (n : Nat) (s post : State) (h : execSdfChannelStop n s = .next post) :
    Keeps 1603714046 s post := by
  obtain rfl := Host.Outcome.next.inj h
  exact Keeps.of (State.hostWrN_keeps _ _ _ _ _ _) rfl

theorem execInputSwitch_keeps (n : Nat) (src : Nat) (s post : State) (h : execInputSwitch n src s = .next post) :
    Keeps 1603714046 s post := by
  obtain rfl := Host.Outcome.next.inj h
  exact Keeps.of (State.hostWrN_keeps _ _ _ _ _ _) rfl

theorem execPointCopy_keeps (n : Nat) (s post : State) (h : execPointCopy n s = .next post) :
    Keeps 1603714046 s post := by
  obtain rfl := Host.Outcome.next.inj h
  exact Keeps.of (State.hostWr_keeps _ _ _) rfl

theorem execFrameBoundary_keeps (dt : Nat) (meas : List GnssMeas) (s post : State) (h : execFrameBoundary dt meas s = .next post) :
    Keeps 8589934590 s post := by
  obtain rfl := Host.Outcome.next.inj h
  refine State.timed_keeps rfl _ _ _ _ ?_
  intro t0
  refine Keeps.trans ?_ (Keeps.of (State.poisonSlv_keeps _) rfl)
  exact Keeps.of (State.boundary_keeps _ _) rfl

theorem execSlewEnd_keeps (dt : Nat) (s post : State) (h : execSlewEnd dt s = .next post) :
    Keeps 4416 s post := by
  obtain rfl := Host.Outcome.next.inj h
  refine State.native_keeps rfl _ _ _ _ ?_
  intro t0
  exact Keeps.of (State.slewEnd_keeps _) rfl

theorem execCutoff_keeps (dt : Nat) (s post : State) (h : execCutoff dt s = .next post) :
    Keeps 67043318 s post := by
  obtain rfl := Host.Outcome.next.inj h
  refine State.native_keeps rfl _ _ _ _ ?_
  intro t0
  refine Keeps.ite ?_ ?_
  next =>
    exact Keeps.of (State.cutoffRun_keeps _) rfl
  next =>
    exact Keeps.refl _

theorem execFusionPhase_keeps (dt : Nat) (s post : State) (h : execFusionPhase dt s = .next post) :
    Keeps 5972097526 s post := by
  obtain rfl := Host.Outcome.next.inj h
  refine State.native_keeps rfl _ _ _ _ ?_
  intro t0
  refine Keeps.trans ?_ (Keeps.of (State.fusionPhase_keeps _) rfl)
  exact Keeps.of (State.poisonFus_keeps _) rfl

theorem execObserverCommit_keeps (dt : Nat) (s post : State) (h : execObserverCommit dt s = .next post) :
    Keeps 7798726 s post := by
  obtain rfl := Host.Outcome.next.inj h
  refine State.native_keeps rfl _ _ _ _ ?_
  intro t0
  exact Keeps.of (State.observerPhase_keeps _) rfl

theorem execControlLaw_keeps (dt : Nat) (s post : State) (h : execControlLaw dt s = .next post) :
    Keeps 19306946 s post := by
  obtain rfl := Host.Outcome.next.inj h
  refine State.native_keeps rfl _ _ _ _ ?_
  intro t0
  exact Keeps.of (State.controlPhase_keeps _) rfl

theorem execAllocationPhase_keeps (dt : Nat) (s post : State) (h : execAllocationPhase dt s = .next post) :
    Keeps 5970786806 s post := by
  obtain rfl := Host.Outcome.next.inj h
  refine State.native_keeps rfl _ _ _ _ ?_
  intro t0
  refine Keeps.trans ?_ (Keeps.of (State.poisonSlv_keeps _) rfl)
  exact Keeps.of (State.allocationPhase_keeps _) rfl

theorem execSlotReturn_keeps (dt : Nat) (slot : Nat) (s post : State) (h : execSlotReturn dt slot s = .next post) :
    Keeps 4198720 s post := by
  obtain rfl := Host.Outcome.next.inj h
  refine State.native_keeps rfl _ _ _ _ ?_
  intro t0
  exact Keeps.of (State.slotReturn_keeps _ _) rfl

theorem execSolveDeadline_keeps (dt : Nat) (slot : Nat) (n : Option Nat) (fact : Bool) (s post : State) (h : execSolveDeadline dt slot n fact s = .next post) :
    Keeps 4198724 s post := by
  obtain rfl := Host.Outcome.next.inj h
  refine State.native_keeps rfl _ _ _ _ ?_
  intro t0
  exact Keeps.of (State.slotDeadline_keeps _ _ _ _) rfl

theorem execMpcSolveStop_keeps (dt : Nat) (which : Nat) (cut : Bool) (n : Option Nat) (fact : Bool) (s post : State) (h : execMpcSolveStop dt which cut n fact s = .next post) :
    Keeps 4198724 s post := by
  obtain rfl := Host.Outcome.next.inj h
  refine State.native_keeps rfl _ _ _ _ ?_
  intro t0
  exact Keeps.of (State.mpcStop_keeps _ _ _ _ _) rfl

theorem execMpcCommit_keeps (dt : Nat) (s post : State) (h : execMpcCommit dt s = .next post) :
    Keeps 56801778 s post := by
  obtain rfl := Host.Outcome.next.inj h
  refine State.native_keeps rfl _ _ _ _ ?_
  intro t0
  exact Keeps.of (State.mpcCommit_keeps _) rfl

theorem execScenarioMpcDone_keeps (dt : Nat) (s post : State) (h : execScenarioMpcDone dt s = .next post) :
    Keeps 4364738 s post := by
  obtain rfl := Host.Outcome.next.inj h
  refine State.native_keeps rfl _ _ _ _ ?_
  intro t0
  exact Keeps.of (State.scenDone_keeps _) rfl

theorem execCrossCheck_keeps (dt : Nat) (chans : Nat) (s post : State) (h : execCrossCheck dt chans s = .next post) :
    Keeps 1136835062 s post := by
  obtain rfl := Host.Outcome.next.inj h
  refine State.native_keeps rfl _ _ _ _ ?_
  intro t0
  exact Keeps.of (State.crossCheck_keeps _ _) rfl

theorem execSf5Compare_keeps (dt : Nat) (bad : Nat) (s post : State) (h : execSf5Compare dt bad s = .next post) :
    Keeps 1136835062 s post := by
  obtain rfl := Host.Outcome.next.inj h
  refine State.native_keeps rfl _ _ _ _ ?_
  intro t0
  exact Keeps.of (State.sf5Compare_keeps _ _) rfl

theorem execDispatch_keeps (dt : Nat) (s post : State) (h : execDispatch dt s = .next post) :
    Keeps 46275010 s post := by
  obtain rfl := Host.Outcome.next.inj h
  refine State.native_keeps rfl _ _ _ _ ?_
  intro t0
  exact Keeps.of (State.dispatch_keeps _) rfl

theorem execPhaseLate_keeps (dt : Nat) (ph : Nat) (s post : State) (h : execPhaseLate dt ph s = .next post) :
    Keeps 24575942 s post := by
  obtain rfl := Host.Outcome.next.inj h
  refine State.native_keeps rfl _ _ _ _ ?_
  intro t0
  exact Keeps.of (State.phaseLate_keeps _ _) rfl

theorem execSf4Check_keeps (dt : Nat) (s post : State) (h : execSf4Check dt s = .next post) :
    Keeps 1132640754 s post := by
  obtain rfl := Host.Outcome.next.inj h
  refine State.native_keeps rfl _ _ _ _ ?_
  intro t0
  exact Keeps.of (State.sf4Check_keeps _) rfl

theorem execRetroSupplementSend_keeps (dt : Nat) (s post : State) (h : execRetroSupplementSend dt s = .next post) :
    Keeps 9048386 s post := by
  obtain rfl := Host.Outcome.next.inj h
  refine State.native_keeps rfl _ _ _ _ ?_
  intro t0
  exact Keeps.of (State.retroSupp_keeps _) rfl

theorem execControllerStatusSend_keeps (dt : Nat) (s post : State) (h : execControllerStatusSend dt s = .next post) :
    Keeps 8392962 s post := by
  obtain rfl := Host.Outcome.next.inj h
  refine State.native_keeps rfl _ _ _ _ ?_
  intro t0
  exact Keeps.of (State.ctrlStatusSend_keeps _) rfl

theorem execRetroPass_keeps (dt : Nat) (s post : State) (h : execRetroPass dt s = .next post) :
    Keeps 2625856 s post := by
  obtain rfl := Host.Outcome.next.inj h
  refine State.native_keeps rfl _ _ _ _ ?_
  intro t0
  exact Keeps.of (State.retroStart_keeps _) rfl

theorem execRetroPassDone_keeps (dt : Nat) (s post : State) (h : execRetroPassDone dt s = .next post) :
    Keeps 19403072 s post := by
  obtain rfl := Host.Outcome.next.inj h
  refine State.native_keeps rfl _ _ _ _ ?_
  intro t0
  exact Keeps.of (State.retroDone_keeps _) rfl

theorem execRetroAbort_keeps (dt : Nat) (s post : State) (h : execRetroAbort dt s = .next post) :
    Keeps 2234818 s post := by
  obtain rfl := Host.Outcome.next.inj h
  refine State.native_keeps rfl _ _ _ _ ?_
  intro t0
  refine Keeps.ite ?_ ?_
  next =>
    exact Keeps.of (State.retroAbort_keeps _) rfl
  next =>
    exact Keeps.refl _

theorem execEngineTestSlice_keeps (dt : Nat) (pass : Bool) (s post : State) (h : execEngineTestSlice dt pass s = .next post) :
    Keeps 5970786806 s post := by
  obtain rfl := Host.Outcome.next.inj h
  refine State.timed_keeps rfl _ _ _ _ ?_
  intro t0
  exact Keeps.of (State.testSlice_keeps _ _) rfl

theorem execAllocRecordWrite_keeps (dt : Nat) (s post : State) (h : execAllocRecordWrite dt s = .next post) :
    Keeps 4329920 s post := by
  obtain rfl := Host.Outcome.next.inj h
  refine State.native_keeps rfl _ _ _ _ ?_
  intro t0
  exact Keeps.of (State.allocRecordRun_keeps _) rfl

theorem execKeystoneDecision_keeps (dt : Nat) (s post : State) (h : execKeystoneDecision dt s = .next post) :
    Keeps 50510322 s post := by
  obtain rfl := Host.Outcome.next.inj h
  refine State.native_keeps rfl _ _ _ _ ?_
  intro t0
  refine Keeps.ite ?_ ?_
  next =>
    exact Keeps.of (State.keyDecide_keeps _) rfl
  next =>
    exact Keeps.refl _

theorem execTransferExecute_keeps (dt : Nat) (s post : State) (h : execTransferExecute dt s = .next post) :
    Keeps 50510322 s post := by
  obtain rfl := Host.Outcome.next.inj h
  refine State.native_keeps rfl _ _ _ _ ?_
  intro t0
  refine Keeps.ite ?_ ?_
  next =>
    exact Keeps.of (State.transferExec_keeps _) rfl
  next =>
    exact Keeps.refl _

theorem execHandback_keeps (dt : Nat) (s post : State) (h : execHandback dt s = .next post) :
    Keeps 50510322 s post := by
  obtain rfl := Host.Outcome.next.inj h
  refine State.native_keeps rfl _ _ _ _ ?_
  intro t0
  refine Keeps.ite ?_ ?_
  next =>
    exact Keeps.of (State.handback_keeps _) rfl
  next =>
    exact Keeps.refl _

theorem execLeaseRx_keeps (dt : Nat) (via : Via) (bs : List Byte) (s post : State) (h : execLeaseRx dt via bs s = .next post) :
    Keeps 58898930 s post := by
  obtain rfl := Host.Outcome.next.inj h
  refine State.native_keeps rfl _ _ _ _ ?_
  intro t0
  exact Keeps.of (State.leaseRx_keeps _ _ _) rfl

theorem execSpanDown_keeps (dt : Nat) (n : Nat) (s post : State) (h : execSpanDown dt n s = .next post) :
    Keeps 16972226 s post := by
  obtain rfl := Host.Outcome.next.inj h
  refine State.native_keeps rfl _ _ _ _ ?_
  intro t0
  exact Keeps.of (State.spanDown_keeps _ _) rfl

theorem execSpanUp_keeps (dt : Nat) (n : Nat) (s post : State) (h : execSpanUp dt n s = .next post) :
    Keeps 16947650 s post := by
  obtain rfl := Host.Outcome.next.inj h
  refine State.native_keeps rfl _ _ _ _ ?_
  intro t0
  exact Keeps.of (State.spanUp_keeps _ _) rfl

theorem execPathLoss_keeps (dt : Nat) (s post : State) (h : execPathLoss dt s = .next post) :
    Keeps 50510322 s post := by
  obtain rfl := Host.Outcome.next.inj h
  refine State.native_keeps rfl _ _ _ _ ?_
  intro t0
  refine Keeps.ite ?_ ?_
  next =>
    exact Keeps.of (State.pathLoss_keeps _) rfl
  next =>
    exact Keeps.refl _

theorem execManifestRx_keeps (dt : Nat) (via : Via) (bs : List Byte) (s post : State) (h : execManifestRx dt via bs s = .next post) :
    Keeps 67043318 s post := by
  obtain rfl := Host.Outcome.next.inj h
  refine State.native_keeps rfl _ _ _ _ ?_
  intro t0
  exact Keeps.of (State.manifestRx_keeps _ _ _) rfl

theorem execManifestTimeout_keeps (dt : Nat) (s post : State) (h : execManifestTimeout dt s = .next post) :
    Keeps 67043318 s post := by
  obtain rfl := Host.Outcome.next.inj h
  refine State.native_keeps rfl _ _ _ _ ?_
  intro t0
  refine Keeps.ite ?_ ?_
  next =>
    exact Keeps.of (State.unfollow_keeps _) rfl
  next =>
    exact Keeps.refl _

theorem execCommandPduRx_keeps (dt : Nat) (via : Via) (bs : List Byte) (s post : State) (h : execCommandPduRx dt via bs s = .next post) :
    Keeps 29503808 s post := by
  obtain rfl := Host.Outcome.next.inj h
  refine State.native_keeps rfl _ _ _ _ ?_
  intro t0
  exact Keeps.of (State.commandRx_keeps _ _ _) rfl

theorem execStateImageRx_keeps (dt : Nat) (via : Via) (bs : List Byte) (s post : State) (h : execStateImageRx dt via bs s = .next post) :
    Keeps 570038722 s post := by
  obtain rfl := Host.Outcome.next.inj h
  refine State.native_keeps rfl _ _ _ _ ?_
  intro t0
  exact Keeps.of (State.imageRx_keeps _ _ _) rfl

theorem execCatchUpDone_keeps (dt : Nat) (s post : State) (h : execCatchUpDone dt s = .next post) :
    Keeps 738131958 s post := by
  obtain rfl := Host.Outcome.next.inj h
  refine State.native_keeps rfl _ _ _ _ ?_
  intro t0
  exact Keeps.of (State.catchUp_keeps _) rfl

theorem execResyncFail_keeps (dt : Nat) (s post : State) (h : execResyncFail dt s = .next post) :
    Keeps 16914882 s post := by
  obtain rfl := Host.Outcome.next.inj h
  refine State.native_keeps rfl _ _ _ _ ?_
  intro t0
  exact Keeps.of (State.resyncFail_keeps _) rfl

theorem execHealthRecompute_keeps (dt : Nat) (ecc : Nat) (s post : State) (h : execHealthRecompute dt ecc s = .next post) :
    Keeps 4311882178 s post := by
  obtain rfl := Host.Outcome.next.inj h
  refine State.timed_keeps rfl _ _ _ _ ?_
  intro t0
  extract_lets +onlyGivenNames y1
  have h2 : Keeps 4311882178 t0 y1 := by
    unfold y1
    exact Keeps.of (State.eccNote_keeps _ _) rfl
  clear_value y1
  refine Keeps.ite ?_ ?_
  next =>
    refine Keeps.trans ?_ (Keeps.of (State.ydHealth_keeps _) rfl)
    exact h2
  next =>
    refine Keeps.trans ?_ (Keeps.of (State.healthRun_keeps _) rfl)
    exact h2

theorem execImageCrcCheck_keeps (dt : Nat) (bad : List (Nat × Nat)) (s post : State) (h : execImageCrcCheck dt bad s = .next post) :
    Keeps 4837259714 s post := by
  obtain rfl := Host.Outcome.next.inj h
  refine State.timed_keeps rfl _ _ _ _ ?_
  intro t0
  exact Keeps.of (State.imageCheck_keeps _ _) rfl

theorem execRefineMinute_keeps (dt : Nat) (s post : State) (h : execRefineMinute dt s = .next post) :
    Keeps 1052992 s post := by
  obtain rfl := Host.Outcome.next.inj h
  refine State.native_keeps rfl _ _ _ _ ?_
  intro t0
  exact Keeps.of (State.refineMinute_keeps _) rfl

theorem execSamplePduRx_keeps (dt : Nat) (via : Via) (bs : List Byte) (s post : State) (h : execSamplePduRx dt via bs s = .next post) :
    Keeps 9370054 s post := by
  obtain rfl := Host.Outcome.next.inj h
  refine State.native_keeps rfl _ _ _ _ ?_
  intro t0
  exact Keeps.of (State.sampleRx_keeps _ _ _) rfl

theorem execStatusPduRx_keeps (dt : Nat) (via : Via) (bs : List Byte) (s post : State) (h : execStatusPduRx dt via bs s = .next post) :
    Keeps 65190338 s post := by
  obtain rfl := Host.Outcome.next.inj h
  refine State.native_keeps rfl _ _ _ _ ?_
  intro t0
  exact Keeps.of (State.statusRx_keeps _ _ _) rfl

theorem execHarvestPduRx_keeps (dt : Nat) (via : Via) (bs : List Byte) (s post : State) (h : execHarvestPduRx dt via bs s = .next post) :
    Keeps 1082265920 s post := by
  obtain rfl := Host.Outcome.next.inj h
  refine State.native_keeps rfl _ _ _ _ ?_
  intro t0
  exact Keeps.of (State.harvestRx_keeps _ _ _) rfl

theorem execAnnounceRx_keeps (dt : Nat) (a : Ann) (s post : State) (h : execAnnounceRx dt a s = .next post) :
    Keeps 8559042 s post := by
  obtain rfl := Host.Outcome.next.inj h
  refine State.native_keeps rfl _ _ _ _ ?_
  intro t0
  exact Keeps.of (State.announce_keeps _ _) rfl

theorem execAnnounceTimeout_keeps (dt : Nat) (dom : Nat) (s post : State) (h : execAnnounceTimeout dt dom s = .next post) :
    Keeps 8559042 s post := by
  obtain rfl := Host.Outcome.next.inj h
  refine State.native_keeps rfl _ _ _ _ ?_
  intro t0
  exact Keeps.of (State.announceTimeout_keeps _ _) rfl

theorem execSyncRx_keeps (dt : Nat) (m : SyncMsg) (s post : State) (h : execSyncRx dt m s = .next post) :
    Keeps 1199741894 s post := by
  obtain rfl := Host.Outcome.next.inj h
  refine State.native_keeps rfl _ _ _ _ ?_
  intro t0
  exact Keeps.of (State.syncRx_keeps _ _) rfl

theorem execDelayRespRx_keeps (dt : Nat) (m : DelayMsg) (s post : State) (h : execDelayRespRx dt m s = .next post) :
    Keeps 8393024 s post := by
  obtain rfl := Host.Outcome.next.inj h
  refine State.native_keeps rfl _ _ _ _ ?_
  intro t0
  exact Keeps.of (State.delayRx_keeps _ _) rfl

theorem execTransitionEnd_keeps (dt : Nat) (s post : State) (h : execTransitionEnd dt s = .next post) :
    Keeps 8393024 s post := by
  obtain rfl := Host.Outcome.next.inj h
  refine State.native_keeps rfl _ _ _ _ ?_
  intro t0
  exact Keeps.of (State.transitionEnd_keeps _) rfl

theorem execPrimaryRevert_keeps (dt : Nat) (s post : State) (h : execPrimaryRevert dt s = .next post) :
    Keeps 8526274 s post := by
  obtain rfl := Host.Outcome.next.inj h
  refine State.native_keeps rfl _ _ _ _ ?_
  intro t0
  exact Keeps.of (State.primaryRevert_keeps _) rfl

theorem execDatagram450Rx_keeps (dt : Nat) (n : Tagged) (addr : Nat) (port : Nat) (bs : List Byte) (s post : State) (h : execDatagram450Rx dt n addr port bs s = .next post) :
    Keeps 9370054 s post := by
  obtain rfl := Host.Outcome.next.inj h
  refine State.native_keeps rfl _ _ _ _ ?_
  intro t0
  exact Keeps.of (State.rx450_keeps _ _ _ _ _) rfl

theorem execUartCharacterRx_keeps (dt : Nat) (n : Nat) (c : Nat) (err : Nat) (s post : State) (h : execUartCharacterRx dt n c err s = .next post) :
    Keeps 135199174 s post := by
  obtain rfl := Host.Outcome.next.inj h
  refine State.native_keeps rfl _ _ _ _ ?_
  intro t0
  exact Keeps.of (State.uartRx_keeps _ _ _ _) rfl

theorem execUartBreak_keeps (dt : Nat) (n : Nat) (s post : State) (h : execUartBreak dt n s = .next post) :
    Keeps 4416 s post := by
  obtain rfl := Host.Outcome.next.inj h
  refine State.native_keeps rfl _ _ _ _ ?_
  intro t0
  exact Keeps.of (State.uartBreak_keeps _ _) rfl

theorem execCanFrameRx_keeps (dt : Nat) (n : Nat) (id : Nat) (ide : Bool) (fdf : Bool) (brs : Bool) (dlc : Nat) (data : List Byte) (esi : Bool) (rtr : Bool) (stamp : Nat) (s post : State) (h : execCanFrameRx dt n id ide fdf brs dlc data esi rtr stamp s = .next post) :
    Keeps 4295948742 s post := by
  obtain rfl := Host.Outcome.next.inj h
  refine State.timed_keeps rfl _ _ _ _ ?_
  intro t0
  refine State.ydCanAfter_keeps rfl _ _ ?_
  exact Keeps.of (State.canRx_keeps _ _ _ _ _ _) rfl

theorem execCanTxLoad_keeps (dt : Nat) (n : Nat) (s post : State) (h : execCanTxLoad dt n s = .next post) :
    Keeps 4429189440 s post := by
  obtain rfl := Host.Outcome.next.inj h
  refine State.timed_keeps rfl _ _ _ _ ?_
  intro t0
  refine State.ydCanAfter_keeps rfl _ _ ?_
  exact Keeps.of (State.canLoad_keeps _ _) rfl

theorem execCanTxDone_keeps (dt : Nat) (n : Nat) (how : Nat) (kind : Nat) (sof : Nat) (s post : State) (h : execCanTxDone dt n how kind sof s = .next post) :
    Keeps 4429380034 s post := by
  obtain rfl := Host.Outcome.next.inj h
  refine State.timed_keeps rfl _ _ _ _ ?_
  intro t0
  refine State.ydCanAfter_keeps rfl _ _ ?_
  exact Keeps.of (State.canTxDone_keeps _ _ _ _ _) rfl

theorem execCanInitAck_keeps (dt : Nat) (n : Nat) (s post : State) (h : execCanInitAck dt n s = .next post) :
    Keeps 4429189440 s post := by
  obtain rfl := Host.Outcome.next.inj h
  refine State.timed_keeps rfl _ _ _ _ ?_
  intro t0
  refine State.ydCanAfter_keeps rfl _ _ ?_
  exact Keeps.of (State.canInitAck_keeps _ _) rfl

theorem execCanIntegration_keeps (dt : Nat) (n : Nat) (s post : State) (h : execCanIntegration dt n s = .next post) :
    Keeps 4294971712 s post := by
  obtain rfl := Host.Outcome.next.inj h
  refine State.timed_keeps rfl _ _ _ _ ?_
  intro t0
  refine State.ydCanAfter_keeps rfl _ _ ?_
  exact Keeps.of (State.canIntegrate_keeps _ _) rfl

theorem execBusOff_keeps (dt : Nat) (n : Nat) (s post : State) (h : execBusOff dt n s = .next post) :
    Keeps 4429380034 s post := by
  obtain rfl := Host.Outcome.next.inj h
  refine State.timed_keeps rfl _ _ _ _ ?_
  intro t0
  refine State.ydCanAfter_keeps rfl _ _ ?_
  exact Keeps.of (State.busOff_keeps _ _) rfl

theorem execBusOffRecovery_keeps (dt : Nat) (n : Nat) (s post : State) (h : execBusOffRecovery dt n s = .next post) :
    Keeps 4429189440 s post := by
  obtain rfl := Host.Outcome.next.inj h
  refine State.timed_keeps rfl _ _ _ _ ?_
  intro t0
  refine State.ydCanAfter_keeps rfl _ _ ?_
  exact Keeps.of (State.busOffRecover_keeps _ _) rfl

theorem execGnssSolution_keeps (dt : Nat) (a : Option GnssPos) (b : Option GnssPos) (h : Option GnssHdg) (s post : State) (h : execGnssSolution dt a b h s = .next post) :
    Keeps 4363057606 s post := by
  obtain rfl := Host.Outcome.next.inj h
  refine State.timed_keeps rfl _ _ _ _ ?_
  intro t0
  refine Keeps.ite ?_ ?_
  next =>
    exact Keeps.of (State.ydGnss_keeps _ _) rfl
  next =>
    exact Keeps.of (State.gnssSolve_keeps _ _ _ _) rfl

theorem execRtcmFrameRx_keeps (dt : Nat) (src : RtcmVia) (num : Nat) (bs : List Byte) (s post : State) (h : execRtcmFrameRx dt src num bs s = .next post) :
    Keeps 67113280 s post := by
  obtain rfl := Host.Outcome.next.inj h
  refine State.native_keeps rfl _ _ _ _ ?_
  intro t0
  exact Keeps.of (State.rtcmRx_keeps _ _ _ _) rfl

theorem execAmbiguityFixed_keeps (dt : Nat) (ant : Nat) (ratio : Nat) (s post : State) (h : execAmbiguityFixed dt ant ratio s = .next post) :
    Keeps 67113216 s post := by
  obtain rfl := Host.Outcome.next.inj h
  refine State.native_keeps rfl _ _ _ _ ?_
  intro t0
  exact Keeps.of (State.ambiguity_keeps _ _ _) rfl

theorem execChannelAllocation_keeps (dt : Nat) (duty : List Nat) (sky : List Sky) (s post : State) (h : execChannelAllocation dt duty sky s = .next post) :
    Keeps 67113280 s post := by
  obtain rfl := Host.Outcome.next.inj h
  refine State.timed_keeps rfl _ _ _ _ ?_
  intro t0
  exact Keeps.of (State.chanAlloc_keeps _ _ _) rfl

theorem execChannelLostTimeout_keeps (dt : Nat) (s post : State) (h : execChannelLostTimeout dt s = .next post) :
    Keeps 67113280 s post := by
  obtain rfl := Host.Outcome.next.inj h
  refine State.timed_keeps rfl _ _ _ _ ?_
  intro t0
  exact Keeps.of (State.chanTimeout_keeps _) rfl

theorem execGnssIfLost_keeps (dt : Nat) (n : Nat) (s post : State) (h : execGnssIfLost dt n s = .next post) :
    Keeps 67279298 s post := by
  obtain rfl := Host.Outcome.next.inj h
  refine State.timed_keeps rfl _ _ _ _ ?_
  intro t0
  exact Keeps.of (State.ifLost_keeps _ _) rfl

theorem execGnssHoldover_keeps (dt : Nat) (s post : State) (h : execGnssHoldover dt s = .next post) :
    Keeps 67279298 s post := by
  obtain rfl := Host.Outcome.next.inj h
  refine State.native_keeps rfl _ _ _ _ ?_
  intro t0
  exact Keeps.of (State.tpHold_keeps _) rfl

theorem execTpSecond_keeps (dt : Nat) (s post : State) (h : execTpSecond dt s = .next post) :
    Keeps 67279298 s post := by
  obtain rfl := Host.Outcome.next.inj h
  refine State.native_keeps rfl _ _ _ _ ?_
  intro t0
  exact Keeps.of (State.tpSecond_keeps _) rfl

theorem execTpRecordWrite_keeps (dt : Nat) (s post : State) (h : execTpRecordWrite dt s = .next post) :
    Keeps 67246530 s post := by
  obtain rfl := Host.Outcome.next.inj h
  refine State.native_keeps rfl _ _ _ _ ?_
  intro t0
  exact Keeps.of (State.tpRecords_keeps _) rfl

theorem execTimePulse_keeps (dt : Nat) (s post : State) (h : execTimePulse dt s = .next post) :
    Keeps 67113218 s post := by
  obtain rfl := Host.Outcome.next.inj h
  refine State.native_keeps rfl _ _ _ _ ?_
  intro t0
  exact Keeps.of (State.tpPulse_keeps _) rfl

theorem execSnapDone_keeps (dt : Nat) (samples : List Byte) (s post : State) (h : execSnapDone dt samples s = .next post) :
    Keeps 1073879490 s post := by
  obtain rfl := Host.Outcome.next.inj h
  refine State.native_keeps rfl _ _ _ _ ?_
  intro t0
  exact Keeps.of (State.snapDone_keeps _ _) rfl

theorem execHarbourSnapshot_keeps (dt : Nat) (fix : CoarseFix) (samples : List Byte) (s post : State) (h : execHarbourSnapshot dt fix samples s = .next post) :
    Keeps 1140988354 s post := by
  obtain rfl := Host.Outcome.next.inj h
  refine State.native_keeps rfl _ _ _ _ ?_
  intro t0
  exact Keeps.of (State.harbourSnap_keeps _ _ _) rfl

theorem execSdfOutput_keeps (dt : Nat) (ch : Nat) (bits : List (Bool × Bool)) (s post : State) (h : execSdfOutput dt ch bits s = .next post) :
    Keeps 1401879030 s post := by
  obtain rfl := Host.Outcome.next.inj h
  refine State.native_keeps rfl _ _ _ _ ?_
  intro t0
  refine Keeps.trans ?_ (Keeps.of (State.sdfOutput_keeps _ _) rfl)
  exact Keeps.of (State.sdfFeed_keeps _ _ _) rfl

theorem execSdfThreshold_keeps (dt : Nat) (ch : Nat) (bits : List (Bool × Bool)) (s post : State) (h : execSdfThreshold dt ch bits s = .next post) :
    Keeps 1401076210 s post := by
  obtain rfl := Host.Outcome.next.inj h
  refine State.native_keeps rfl _ _ _ _ ?_
  intro t0
  exact Keeps.of (State.sdfFeed_keeps _ _ _) rfl

theorem execModFault_keeps (dt : Nat) (ch : Nat) (bits : List (Bool × Bool)) (s post : State) (h : execModFault dt ch bits s = .next post) :
    Keeps 1401076210 s post := by
  obtain rfl := Host.Outcome.next.inj h
  refine State.native_keeps rfl _ _ _ _ ?_
  intro t0
  exact Keeps.of (State.sdfFeed_keeps _ _ _) rfl

theorem execModFaultClear_keeps (dt : Nat) (ch : Nat) (bits : List (Bool × Bool)) (s post : State) (h : execModFaultClear dt ch bits s = .next post) :
    Keeps 1401076210 s post := by
  obtain rfl := Host.Outcome.next.inj h
  refine State.native_keeps rfl _ _ _ _ ?_
  intro t0
  exact Keeps.of (State.sdfFeed_keeps _ _ _) rfl

theorem execLogicCycleStart_keeps (dt : Nat) (s post : State) (h : execLogicCycleStart dt s = .next post) :
    Keeps 671226306 s post := by
  obtain rfl := Host.Outcome.next.inj h
  refine State.native_keeps rfl _ _ _ _ ?_
  intro t0
  exact Keeps.of (State.cycleStart_keeps _) rfl

theorem execLogicCycleDone_keeps (dt : Nat) (t : Nat) (us : Nat) (s post : State) (h : execLogicCycleDone dt t us s = .next post) :
    Keeps 536875328 s post := by
  obtain rfl := Host.Outcome.next.inj h
  refine State.native_keeps rfl _ _ _ _ ?_
  intro t0
  exact Keeps.of (State.cycleDone_keeps _ _ _) rfl

theorem execLogicWatchdog_keeps (dt : Nat) (s post : State) (h : execLogicWatchdog dt s = .next post) :
    Keeps 537041346 s post := by
  obtain rfl := Host.Outcome.next.inj h
  refine State.native_keeps rfl _ _ _ _ ?_
  intro t0
  exact Keeps.of (State.lgcWatchdog_keeps _) rfl

theorem execProgramExchange_keeps (dt : Nat) (s post : State) (h : execProgramExchange dt s = .next post) :
    Keeps 4294901758 s post := by
  obtain rfl := Host.Outcome.next.inj h
  refine State.native_keeps rfl _ _ _ _ ?_
  intro t0
  exact Keeps.of (State.programExchange_keeps _) rfl

theorem execPanelFrame_keeps (dt : Nat) (s post : State) (h : execPanelFrame dt s = .next post) :
    Keeps 2147621314 s post := by
  obtain rfl := Host.Outcome.next.inj h
  refine State.native_keeps rfl _ _ _ _ ?_
  intro t0
  exact Keeps.of (State.panelFrame_keeps _) rfl

theorem execCrackMeasure_keeps (dt : Nat) (r : Option Nat) (s post : State) (h : execCrackMeasure dt r s = .next post) :
    Keeps 2147654082 s post := by
  obtain rfl := Host.Outcome.next.inj h
  refine State.native_keeps rfl _ _ _ _ ?_
  intro t0
  exact Keeps.of (State.crackMeasure_keeps _ _) rfl

theorem execEstopChange_keeps (dt : Nat) (la : Nat) (lb : Nat) (ra : Bool) (rb : Bool) (s post : State) (h : execEstopChange dt la lb ra rb s = .next post) :
    Keeps 1132640754 s post := by
  obtain rfl := Host.Outcome.next.inj h
  refine State.native_keeps rfl _ _ _ _ ?_
  intro t0
  exact Keeps.of (State.estopChange_keeps _ _ _ _ _) rfl

theorem execTripPropagate_keeps (dt : Nat) (s post : State) (h : execTripPropagate dt s = .next post) :
    Keeps 33558848 s post := by
  obtain rfl := Host.Outcome.next.inj h
  refine State.native_keeps rfl _ _ _ _ ?_
  intro t0
  exact Keeps.of (State.tripPass_keeps _) rfl

theorem execDiscTimeout_keeps (dt : Nat) (s post : State) (h : execDiscTimeout dt s = .next post) :
    Keeps 33724866 s post := by
  obtain rfl := Host.Outcome.next.inj h
  refine State.native_keeps rfl _ _ _ _ ?_
  intro t0
  exact Keeps.of (State.discTimeout_keeps _) rfl

theorem execSafeRstRelease_keeps (dt : Nat) (s post : State) (h : execSafeRstRelease dt s = .next post) :
    Keeps 1132640754 s post := by
  obtain rfl := Host.Outcome.next.inj h
  refine State.native_keeps rfl _ _ _ _ ?_
  intro t0
  exact Keeps.of (State.rstLetGo_keeps _) rfl

theorem execAckWindowExpiry_keeps (dt : Nat) (s post : State) (h : execAckWindowExpiry dt s = .next post) :
    Keeps 4416 s post := by
  obtain rfl := Host.Outcome.next.inj h
  refine State.native_keeps rfl _ _ _ _ ?_
  intro t0
  exact Keeps.of (State.armExpire_keeps _) rfl

theorem execTestPulse_keeps (dt : Nat) (ch : Nat) (stuck : Nat) (s post : State) (h : execTestPulse dt ch stuck s = .next post) :
    Keeps 1132640754 s post := by
  obtain rfl := Host.Outcome.next.inj h
  refine State.native_keeps rfl _ _ _ _ ?_
  intro t0
  exact Keeps.of (State.testPulse_keeps _ _ _) rfl

theorem execOutputFault_keeps (dt : Nat) (ch : Nat) (s post : State) (h : execOutputFault dt ch s = .next post) :
    Keeps 1132640754 s post := by
  obtain rfl := Host.Outcome.next.inj h
  refine State.native_keeps rfl _ _ _ _ ?_
  intro t0
  exact Keeps.of (State.outputFault_keeps _ _) rfl

theorem execChannelFault_keeps (dt : Nat) (ch : Nat) (kind : Nat) (s post : State) (h : execChannelFault dt ch kind s = .next post) :
    Keeps 1132640754 s post := by
  obtain rfl := Host.Outcome.next.inj h
  refine State.native_keeps rfl _ _ _ _ ?_
  intro t0
  exact Keeps.of (State.channelFault_keeps _ _ _) rfl

theorem execSafetyWatchdog_keeps (dt : Nat) (ch : Nat) (s post : State) (h : execSafetyWatchdog dt ch s = .next post) :
    Keeps 1132640754 s post := by
  obtain rfl := Host.Outcome.next.inj h
  refine State.native_keeps rfl _ _ _ _ ?_
  intro t0
  exact Keeps.of (State.safWatchdog_keeps _ _) rfl

theorem execSafSessionTimeout_keeps (dt : Nat) (s post : State) (h : execSafSessionTimeout dt s = .next post) :
    Keeps 4294901758 s post := by
  obtain rfl := Host.Outcome.next.inj h
  refine State.native_keeps rfl _ _ _ _ ?_
  intro t0
  refine Keeps.trans ?_ (Keeps.of (State.pump_keeps _) rfl)
  exact Keeps.of (State.safTimeout_keeps _) rfl

theorem execCfgSessionTimeout_keeps (dt : Nat) (s post : State) (h : execCfgSessionTimeout dt s = .next post) :
    Keeps 4294901758 s post := by
  obtain rfl := Host.Outcome.next.inj h
  refine State.native_keeps rfl _ _ _ _ ?_
  intro t0
  refine Keeps.trans ?_ (Keeps.of (State.pump_keeps _) rfl)
  exact Keeps.of (State.cfgTimeout_keeps _) rfl

theorem execTransferTimeout_keeps (dt : Nat) (s post : State) (h : execTransferTimeout dt s = .next post) :
    Keeps 4294901758 s post := by
  obtain rfl := Host.Outcome.next.inj h
  refine State.native_keeps rfl _ _ _ _ ?_
  intro t0
  refine Keeps.trans ?_ (Keeps.of (State.pump_keeps _) rfl)
  exact Keeps.of (State.imgTimeout_keeps _) rfl

theorem execEngineHardError_keeps (dt : Nat) (e : Nat) (hard : Bool) (s post : State) (h : execEngineHardError dt e hard s = .next post) :
    Keeps 5970786806 s post := by
  obtain rfl := Host.Outcome.next.inj h
  refine State.timed_keeps rfl _ _ _ _ ?_
  intro t0
  exact Keeps.of (State.engError_keeps _ _ _) rfl

theorem execEccUncorrectable_keeps (dt : Nat) (region : Nat) (idx : Nat) (s post : State) (h : execEccUncorrectable dt region idx s = .next post) :
    Keeps 8589934590 s post := by
  obtain rfl := Host.Outcome.next.inj h
  refine State.timed_keeps rfl _ _ _ _ ?_
  intro t0
  exact Keeps.of (State.eccBad_keeps _ _ _) rfl

theorem execLeakTick_keeps (dt : Nat) (s post : State) (h : execLeakTick dt s = .next post) :
    Keeps 1073762560 s post := by
  obtain rfl := Host.Outcome.next.inj h
  refine State.timed_keeps rfl _ _ _ _ ?_
  intro t0
  exact Keeps.of (State.leakTick_keeps _) rfl

theorem execHarvestIn_keeps (dt : Nat) (s post : State) (h : execHarvestIn dt s = .next post) :
    Keeps 1082200386 s post := by
  obtain rfl := Host.Outcome.next.inj h
  refine State.native_keeps rfl _ _ _ _ ?_
  intro t0
  exact Keeps.of (State.harvestIn_keeps _) rfl

theorem execHarvestLatch_keeps (dt : Nat) (s post : State) (h : execHarvestLatch dt s = .next post) :
    Keeps 1140996550 s post := by
  obtain rfl := Host.Outcome.next.inj h
  refine State.native_keeps rfl _ _ _ _ ?_
  intro t0
  exact Keeps.of (State.harvestLatch_keeps _) rfl

theorem execLedgerCommit_keeps (dt : Nat) (s post : State) (h : execLedgerCommit dt s = .next post) :
    Keeps 12672 s post := by
  obtain rfl := Host.Outcome.next.inj h
  refine State.timed_keeps rfl _ _ _ _ ?_
  intro t0
  exact Keeps.of (State.ledgerCommit_keeps _) rfl

theorem execRecBlockWrite_keeps (dt : Nat) (s post : State) (h : execRecBlockWrite dt s = .next post) :
    Keeps 135620 s post := by
  obtain rfl := Host.Outcome.next.inj h
  refine State.native_keeps rfl _ _ _ _ ?_
  intro t0
  exact Keeps.of (State.recBlockWrite_keeps _) rfl

theorem execRecBlockSend_keeps (dt : Nat) (s post : State) (h : execRecBlockSend dt s = .next post) :
    Keeps 135490 s post := by
  obtain rfl := Host.Outcome.next.inj h
  refine State.native_keeps rfl _ _ _ _ ?_
  intro t0
  exact Keeps.of (State.recBlockSend_keeps _) rfl

theorem execRecCheckpoint_keeps (dt : Nat) (s post : State) (h : execRecCheckpoint dt s = .next post) :
    Keeps 135488 s post := by
  obtain rfl := Host.Outcome.next.inj h
  refine State.native_keeps rfl _ _ _ _ ?_
  intro t0
  exact Keeps.of (State.recCheckpoint_keeps _) rfl

theorem execReplayFrame_keeps (dt : Nat) (s post : State) (h : execReplayFrame dt s = .next post) :
    Keeps 4294901758 s post := by
  obtain rfl := Host.Outcome.next.inj h
  refine State.native_keeps rfl _ _ _ _ ?_
  intro t0
  refine Keeps.trans ?_ (Keeps.of (State.pump_keeps _) rfl)
  exact Keeps.of (State.replayFrame_keeps _) rfl

theorem execSupplyWarning_keeps (dt : Nat) (rail : Nat) (mv : Nat) (s post : State) (h : execSupplyWarning dt rail mv s = .next post) :
    Keeps 16781632 s post := by
  obtain rfl := Host.Outcome.next.inj h
  refine Keeps.trans ?_ (Keeps.of (State.supplyWarn_keeps _ _ _) rfl)
  exact Keeps.of (State.advance_keeps _ _) rfl

theorem execDipRecovery_keeps (dt : Nat) (rail : Nat) (mv : Nat) (low : Nat) (s post : State) (h : execDipRecovery dt rail mv low s = .next post) :
    Keeps 8589869054 s post := by
  obtain rfl := Host.Outcome.next.inj h
  refine Keeps.trans ?_ (Keeps.of (State.dipBack_keeps _ _ _ _) rfl)
  exact Keeps.of (State.advance_keeps _ _) rfl

theorem execDomainShed_keeps (dt : Nat) (s post : State) (h : execDomainShed dt s = .next post) :
    Keeps 7046601154 s post := by
  obtain rfl := Host.Outcome.next.inj h
  refine Keeps.trans ?_ (Keeps.of (State.shedDue_keeps _) rfl)
  exact Keeps.of (State.advance_keeps _ _) rfl

theorem execDomainRestore_keeps (dt : Nat) (s post : State) (h : execDomainRestore dt s = .next post) :
    Keeps 604150210 s post := by
  obtain rfl := Host.Outcome.next.inj h
  refine Keeps.trans ?_ (Keeps.of (State.restoreDue_keeps _) rfl)
  exact Keeps.of (State.advance_keeps _ _) rfl

theorem execClockMonitorSecond_keeps (dt : Nat) (warn : Bool) (s post : State) (h : execClockMonitorSecond dt warn s = .next post) :
    Keeps 4311748928 s post := by
  obtain rfl := Host.Outcome.next.inj h
  refine Keeps.trans ?_ (Keeps.of (State.clockSecond_keeps _ _) rfl)
  exact Keeps.of (State.advance_keeps _ _) rfl

theorem execPor_keeps (dt : Nat) (s post : State) (h : execPor dt s = .next post) :
    Keeps 8589933560 s post := by
  obtain rfl := Host.Outcome.next.inj h
  refine Keeps.trans ?_ (Keeps.of (State.powerOn_keeps _) rfl)
  exact Keeps.of (State.advance_keeps _ _) rfl

theorem execRailTimeout_keeps (dt : Nat) (rail : Nat) (s post : State) (h : execRailTimeout dt rail s = .next post) :
    Keeps 12672 s post := by
  obtain rfl := Host.Outcome.next.inj h
  refine Keeps.trans ?_ (Keeps.of (State.railTimeout_keeps _ _) rfl)
  exact Keeps.of (State.advance_keeps _ _) rfl

theorem execResetRelease_keeps (dt : Nat) (yd : Bool) (host : Bool) (s post : State) (h : execResetRelease dt yd host s = .next post) :
    Keeps 1132640754 s post := by
  obtain rfl := Host.Outcome.next.inj h
  refine Keeps.trans ?_ (Keeps.of (State.release_keeps _ _ _) rfl)
  exact Keeps.of (State.advance_keeps _ _) rfl

theorem execBor_keeps (dt : Nat) (src : Nat) (mv : Nat) (ov : Bool) (led : Bool) (prog : Bool) (ok : Bool) (s post : State) (h : execBor dt src mv ov led prog ok s = .next post) :
    Keeps 8589933564 s post := by
  obtain rfl := Host.Outcome.next.inj h
  refine Keeps.trans ?_ (Keeps.of (State.brownOut_keeps _ _ _ _ _ _ _) rfl)
  exact Keeps.of (State.advance_keeps _ _) rfl

theorem execVinOff_keeps (dt : Nat) (s post : State) (h : execVinOff dt s = .next post) :
    Keeps 4360 s post := by
  obtain rfl := Host.Outcome.next.inj h
  refine Keeps.trans ?_ (Keeps.of (State.vinOff_keeps _) rfl)
  exact Keeps.of (State.advance_keeps _ _) rfl

theorem execXrst_keeps (dt : Nat) (yd : Bool) (host : Bool) (s post : State) (h : execXrst dt yd host s = .next post) :
    Keeps 8589933560 s post := by
  obtain rfl := Host.Outcome.next.inj h
  refine Keeps.trans ?_ (Keeps.of (State.xrst_keeps _ _ _) rfl)
  exact Keeps.of (State.advance_keeps _ _) rfl

theorem execWdr_keeps (dt : Nat) (s post : State) (h : execWdr dt s = .next post) :
    Keeps 8589934584 s post := by
  obtain rfl := Host.Outcome.next.inj h
  refine Keeps.trans ?_ (Keeps.of (State.wdr_keeps _) rfl)
  exact Keeps.of (State.advance_keeps _ _) rfl

theorem execSrst_keeps (dt : Nat) (s post : State) (h : execSrst dt s = .next post) :
    Keeps 8589933560 s post := by
  obtain rfl := Host.Outcome.next.inj h
  refine Keeps.trans ?_ (Keeps.of (State.srst_keeps _) rfl)
  exact Keeps.of (State.advance_keeps _ _) rfl

theorem execDrst_keeps (dt : Nat) (s post : State) (h : execDrst dt s = .next post) :
    Keeps 8453880822 s post := by
  obtain rfl := Host.Outcome.next.inj h
  refine Keeps.trans ?_ (Keeps.of (State.drst_keeps _) rfl)
  exact Keeps.of (State.advance_keeps _ _) rfl

theorem execSafr_keeps (dt : Nat) (s post : State) (h : execSafr dt s = .next post) :
    Keeps 33559360 s post := by
  obtain rfl := Host.Outcome.next.inj h
  refine Keeps.trans ?_ (Keeps.of (State.safr_keeps _) rfl)
  exact Keeps.of (State.advance_keeps _ _) rfl

theorem execWake_keeps (dt : Nat) (src : Nat) (s post : State) (h : execWake dt src s = .next post) :
    Keeps 8589933562 s post := by
  obtain rfl := Host.Outcome.next.inj h
  refine Keeps.trans ?_ (Keeps.of (State.wake_keeps _ _) rfl)
  exact Keeps.of (State.advance_keeps _ _) rfl

theorem execBootDone_keeps (dt : Nat) (fail : Nat) (s post : State) (h : execBootDone dt fail s = .next post) :
    Keeps 6441861110 s post := by
  obtain rfl := Host.Outcome.next.inj h
  refine Keeps.trans ?_ (Keeps.of (State.bootDone_keeps _ _) rfl)
  exact Keeps.of (State.advance_keeps _ _) rfl

theorem execTrialTimeout_keeps (dt : Nat) (s post : State) (h : execTrialTimeout dt s = .next post) :
    Keeps 13632 s post := by
  obtain rfl := Host.Outcome.next.inj h
  refine Keeps.trans ?_ (Keeps.of (State.trialTimeout_keeps _) rfl)
  exact Keeps.of (State.advance_keeps _ _) rfl

theorem execYdSpiRead_keeps (addr : Nat) (n : Nat) (s post : State) (h : execYdSpiRead addr n s = .next post) :
    Keeps 4294967298 s post := by
  obtain rfl := Host.Outcome.next.inj h
  exact Keeps.of (State.ydSpiReadOp_keeps _ _ _) rfl

theorem execYdSpiWrite_keeps (bs : List Byte) (s post : State) (h : execYdSpiWrite bs s = .next post) :
    Keeps 4429198406 s post := by
  obtain rfl := Host.Outcome.next.inj h
  exact Keeps.of (State.ydSpiWriteOp_keeps _ _) rfl

theorem execYdPairLowRead_keeps (addr : Nat) (s post : State) (h : execYdPairLowRead addr s = .next post) :
    Keeps 4294967298 s post := by
  obtain rfl := Host.Outcome.next.inj h
  exact Keeps.of (State.ydSpiReadOp_keeps _ _ _) rfl

theorem execYdPairLowWrite_keeps (addr : Nat) (v : Nat) (s post : State) (h : execYdPairLowWrite addr v s = .next post) :
    Keeps 4429198406 s post := by
  obtain rfl := Host.Outcome.next.inj h
  exact Keeps.of (State.ydSpiWriteOp_keeps _ _) rfl

theorem execYdPairHighWrite_keeps (addr : Nat) (v : Nat) (s post : State) (h : execYdPairHighWrite addr v s = .next post) :
    Keeps 4429198406 s post := by
  obtain rfl := Host.Outcome.next.inj h
  exact Keeps.of (State.ydSpiWriteOp_keeps _ _) rfl

theorem execYdSave_keeps (v : Nat) (s post : State) (h : execYdSave v s = .next post) :
    Keeps 4429198406 s post := by
  obtain rfl := Host.Outcome.next.inj h
  exact Keeps.of (State.ydSpiWriteOp_keeps _ _) rfl

theorem execYdSrst_keeps (v : Nat) (s post : State) (h : execYdSrst v s = .next post) :
    Keeps 4429198406 s post := by
  obtain rfl := Host.Outcome.next.inj h
  exact Keeps.of (State.ydSpiWriteOp_keeps _ _) rfl

theorem execYdCapture_keeps (v : Nat) (s post : State) (h : execYdCapture v s = .next post) :
    Keeps 4429198406 s post := by
  obtain rfl := Host.Outcome.next.inj h
  exact Keeps.of (State.ydSpiWriteOp_keeps _ _) rfl

theorem execYdMbTxReq_keeps (v : Nat) (s post : State) (h : execYdMbTxReq v s = .next post) :
    Keeps 4429198406 s post := by
  obtain rfl := Host.Outcome.next.inj h
  exact Keeps.of (State.ydSpiWriteOp_keeps _ _) rfl

theorem execYdCycleStart_keeps (dt : Nat) (s post : State) (h : execYdCycleStart dt s = .next post) :
    Keeps 4294979908 s post := by
  obtain rfl := Host.Outcome.next.inj h
  refine State.timed_keeps rfl _ _ _ _ ?_
  intro t0
  exact Keeps.of (State.ydStart_keeps _) rfl

theorem execYdRelease_keeps (dt : Nat) (s post : State) (h : execYdRelease dt s = .next post) :
    Keeps 4429197632 s post := by
  obtain rfl := Host.Outcome.next.inj h
  refine State.timed_keeps rfl _ _ _ _ ?_
  intro t0
  exact Keeps.of (State.ydRelease_keeps _) rfl

theorem execYdCanRx_keeps (dt : Nat) (n : Nat) (id : Nat) (ide : Bool) (fdf : Bool) (brs : Bool) (dlc : Nat) (data : List Byte) (rtr : Bool) (s post : State) (h : execYdCanRx dt n id ide fdf brs dlc data rtr s = .next post) :
    Keeps 4294971716 s post := by
  obtain rfl := Host.Outcome.next.inj h
  refine State.timed_keeps rfl _ _ _ _ ?_
  intro t0
  refine State.ydCanAfter_keeps rfl _ _ ?_
  exact Keeps.of (State.ydCanRx_keeps _ _ _ _) rfl

theorem execMasterInAccept_keeps (dt : Nat) (high : Bool) (s post : State) (h : execMasterInAccept dt high s = .next post) :
    Keeps 4294971648 s post := by
  obtain rfl := Host.Outcome.next.inj h
  refine State.timed_keeps rfl _ _ _ _ ?_
  intro t0
  exact Keeps.of (State.ydPin_keeps _ _) rfl

theorem execPortLinkChange_keeps (dt : Nat) (n : Nat) (up : Bool) (fast : Bool) (errs : Nat) (s post : State) (h : execPortLinkChange dt n up fast errs s = .next post) :
    Keeps 195010 s post := by
  obtain rfl := Host.Outcome.next.inj h
  refine State.native_keeps rfl _ _ _ _ ?_
  intro t0
  exact Keeps.of (State.portChange_keeps _ _ _ _ _) rfl

theorem execArpIcmpIgmpRx_keeps (dt : Nat) (n : Nat) (f : List Byte) (s post : State) (h : execArpIcmpIgmpRx dt n f s = .next post) :
    Keeps 4354 s post := by
  obtain rfl := Host.Outcome.next.inj h
  refine State.native_keeps rfl _ _ _ _ ?_
  intro t0
  exact Keeps.of (State.arpIcmpIgmp_keeps _ _ _) rfl

theorem execDelayReqRx_keeps (dt : Nat) (m : ReqMsg) (s post : State) (h : execDelayReqRx dt m s = .next post) :
    Keeps 4354 s post := by
  obtain rfl := Host.Outcome.next.inj h
  refine State.native_keeps rfl _ _ _ _ ?_
  intro t0
  exact Keeps.of (State.delayReq_keeps _ _) rfl

theorem execPtpMessageInterval_keeps (dt : Nat) (port : Nat) (domain : Nat) (what : Nat) (s post : State) (h : execPtpMessageInterval dt port domain what s = .next post) :
    Keeps 8393026 s post := by
  obtain rfl := Host.Outcome.next.inj h
  refine State.native_keeps rfl _ _ _ _ ?_
  intro t0
  exact Keeps.of (State.ptpSend_keeps _ _ _ _) rfl

theorem execCanBusError_keeps (dt : Nat) (n : Nat) (kind : Nat) (eight : Bool) (s post : State) (h : execCanBusError dt n kind eight s = .next post) :
    Keeps 4294971712 s post := by
  obtain rfl := Host.Outcome.next.inj h
  refine State.timed_keeps rfl _ _ _ _ ?_
  intro t0
  refine State.ydCanAfter_keeps rfl _ _ ?_
  exact Keeps.of (State.canBusError_keeps _ _ _ _) rfl

theorem execSignalAcquired_keeps (dt : Nat) (ch : Nat) (s post : State) (h : execSignalAcquired dt ch s = .next post) :
    Keeps 67113280 s post := by
  obtain rfl := Host.Outcome.next.inj h
  refine State.timed_keeps rfl _ _ _ _ ?_
  intro t0
  exact Keeps.of (State.chanAcquired_keeps _ _) rfl

theorem execTrackLock_keeps (dt : Nat) (ch : Nat) (s post : State) (h : execTrackLock dt ch s = .next post) :
    Keeps 67113280 s post := by
  obtain rfl := Host.Outcome.next.inj h
  refine State.timed_keeps rfl _ _ _ _ ?_
  intro t0
  exact Keeps.of (State.chanLock_keeps _ _) rfl

theorem execLockLost_keeps (dt : Nat) (ch : Nat) (s post : State) (h : execLockLost dt ch s = .next post) :
    Keeps 67113280 s post := by
  obtain rfl := Host.Outcome.next.inj h
  refine State.timed_keeps rfl _ _ _ _ ?_
  intro t0
  exact Keeps.of (State.chanLoss_keeps _ _) rfl

theorem execNavigationData_keeps (dt : Nat) (m : NavMsg) (s post : State) (h : execNavigationData dt m s = .next post) :
    Keeps 67113280 s post := by
  obtain rfl := Host.Outcome.next.inj h
  refine State.timed_keeps rfl _ _ _ _ ?_
  intro t0
  exact Keeps.of (State.navData_keeps _ _) rfl

theorem execGnssIfActive_keeps (dt : Nat) (n : Nat) (s post : State) (h : execGnssIfActive dt n s = .next post) :
    Keeps 170434 s post := by
  obtain rfl := Host.Outcome.next.inj h
  refine State.timed_keeps rfl _ _ _ _ ?_
  intro t0
  exact Keeps.of (State.ifActive_keeps _ _) rfl

theorem execSafeRstPress_keeps (dt : Nat) (s post : State) (h : execSafeRstPress dt s = .next post) :
    Keeps 1132640754 s post := by
  obtain rfl := Host.Outcome.next.inj h
  refine State.native_keeps rfl _ _ _ _ ?_
  intro t0
  exact Keeps.of (State.rstPress_keeps _) rfl

theorem execHoldUpCharged_keeps (dt : Nat) (s post : State) (h : execHoldUpCharged dt s = .next post) :
    Keeps 8589869054 s post := by
  obtain rfl := Host.Outcome.next.inj h
  refine Keeps.trans ?_ (Keeps.of (State.pump_keeps _) rfl)
  refine Keeps.trans ?_ (Keeps.of (State.holdCharged_keeps _) rfl)
  exact Keeps.of (State.advance_keeps _ _) rfl

theorem execVinReturn_keeps (dt : Nat) (s post : State) (h : execVinReturn dt s = .next post) :
    Keeps 4352 s post := by
  obtain rfl := Host.Outcome.next.inj h
  refine Keeps.trans ?_ (Keeps.of (State.vinReturn_keeps _) rfl)
  exact Keeps.of (State.advance_keeps _ _) rfl

theorem execD0Lost_keeps (dt : Nat) (s post : State) (h : execD0Lost dt s = .next post) :
    Keeps 4352 s post := by
  obtain rfl := Host.Outcome.next.inj h
  refine Keeps.trans ?_ (Keeps.of (State.d0Drop_keeps _) rfl)
  exact Keeps.of (State.advance_keeps _ _) rfl

theorem execUartTxDone_keeps (dt : Nat) (n : Nat) (s post : State) (h : execUartTxDone dt n s = .next post) :
    Keeps 134222082 s post := by
  obtain rfl := Host.Outcome.next.inj h
  refine State.native_keeps rfl _ _ _ _ ?_
  intro t0
  exact Keeps.of (State.uartTxDone_keeps _ _) rfl

theorem execCommandIntake_keeps (s post : State) (h : execCommandIntake s = .next post) :
    Keeps 4294901758 s post := by
  obtain rfl := Host.Outcome.next.inj h
  exact Keeps.of (State.intake_keeps _) rfl

theorem execPcieReset_keeps (s post : State) (h : execPcieReset s = .next post) :
    Keeps 4096 s post := by
  obtain rfl := Host.Outcome.next.inj h
  refine Keeps.ite ?_ ?_
  next =>
    exact Keeps.refl _
  next =>
    exact Keeps.of (State.sysMod_keeps _ _) rfl

theorem execTimNowLoRead_keeps (s post : State) (h : execTimNowLoRead s = .next post) :
    Keeps 1140863042 s post := by
  obtain rfl := Host.Outcome.next.inj h
  exact Keeps.of (State.hostRd_keeps _ _) rfl

theorem execTimCntSpecRead_keeps (s post : State) (h : execTimCntSpecRead s = .next post) :
    Keeps 1140863042 s post := by
  obtain rfl := Host.Outcome.next.inj h
  exact Keeps.of (State.hostRd_keeps _ _) rfl

theorem execTimCntRetroRead_keeps (s post : State) (h : execTimCntRetroRead s = .next post) :
    Keeps 1140863042 s post := by
  obtain rfl := Host.Outcome.next.inj h
  exact Keeps.of (State.hostRd_keeps _ _) rfl

theorem execTimSrvCntRead_keeps (s post : State) (h : execTimSrvCntRead s = .next post) :
    Keeps 1140863042 s post := by
  obtain rfl := Host.Outcome.next.inj h
  exact Keeps.of (State.hostRd_keeps _ _) rfl

theorem execFusCntRead_keeps (s post : State) (h : execFusCntRead s = .next post) :
    Keeps 1140863042 s post := by
  obtain rfl := Host.Outcome.next.inj h
  exact Keeps.of (State.hostRd_keeps _ _) rfl

theorem execCexCntRead_keeps (s post : State) (h : execCexCntRead s = .next post) :
    Keeps 1140863042 s post := by
  obtain rfl := Host.Outcome.next.inj h
  exact Keeps.of (State.hostRd_keeps _ _) rfl

theorem execSlvCntRead_keeps (s post : State) (h : execSlvCntRead s = .next post) :
    Keeps 1140863042 s post := by
  obtain rfl := Host.Outcome.next.inj h
  exact Keeps.of (State.hostRd_keeps _ _) rfl

theorem execSlvCnt2Read_keeps (s post : State) (h : execSlvCnt2Read s = .next post) :
    Keeps 1140863042 s post := by
  obtain rfl := Host.Outcome.next.inj h
  exact Keeps.of (State.hostRd_keeps _ _) rfl

theorem execRedCntRead_keeps (s post : State) (h : execRedCntRead s = .next post) :
    Keeps 1140863042 s post := by
  obtain rfl := Host.Outcome.next.inj h
  exact Keeps.of (State.hostRd_keeps _ _) rfl

theorem execSafCntRead_keeps (s post : State) (h : execSafCntRead s = .next post) :
    Keeps 1140863042 s post := by
  obtain rfl := Host.Outcome.next.inj h
  exact Keeps.of (State.hostRd_keeps _ _) rfl

theorem execGnsRtcmCntRead_keeps (s post : State) (h : execGnsRtcmCntRead s = .next post) :
    Keeps 1140863042 s post := by
  obtain rfl := Host.Outcome.next.inj h
  exact Keeps.of (State.hostRd_keeps _ _) rfl

theorem execGnsSnapStatRead_keeps (s post : State) (h : execGnsSnapStatRead s = .next post) :
    Keeps 1140863042 s post := by
  obtain rfl := Host.Outcome.next.inj h
  exact Keeps.of (State.hostRd_keeps _ _) rfl

theorem execGnsCntRead_keeps (s post : State) (h : execGnsCntRead s = .next post) :
    Keeps 1140863042 s post := by
  obtain rfl := Host.Outcome.next.inj h
  exact Keeps.of (State.hostRd_keeps _ _) rfl

theorem execGnsClkBLoRead_keeps (s post : State) (h : execGnsClkBLoRead s = .next post) :
    Keeps 1140863042 s post := by
  obtain rfl := Host.Outcome.next.inj h
  exact Keeps.of (State.hostRd_keeps _ _) rfl

theorem execNetPierErrRead_keeps (s post : State) (h : execNetPierErrRead s = .next post) :
    Keeps 1140863042 s post := by
  obtain rfl := Host.Outcome.next.inj h
  exact Keeps.of (State.hostRd_keeps _ _) rfl

theorem execNetPierDupRead_keeps (s post : State) (h : execNetPierDupRead s = .next post) :
    Keeps 1140863042 s post := by
  obtain rfl := Host.Outcome.next.inj h
  exact Keeps.of (State.hostRd_keeps _ _) rfl

theorem execNet450CntRead_keeps (s post : State) (h : execNet450CntRead s = .next post) :
    Keeps 1140863042 s post := by
  obtain rfl := Host.Outcome.next.inj h
  exact Keeps.of (State.hostRd_keeps _ _) rfl

theorem execLogOnlRead_keeps (s post : State) (h : execLogOnlRead s = .next post) :
    Keeps 1140863042 s post := by
  obtain rfl := Host.Outcome.next.inj h
  exact Keeps.of (State.hostRd_keeps _ _) rfl

theorem execHifCntRead_keeps (s post : State) (h : execHifCntRead s = .next post) :
    Keeps 1140863042 s post := by
  obtain rfl := Host.Outcome.next.inj h
  exact Keeps.of (State.hostRd_keeps _ _) rfl

theorem execPmuDipRead_keeps (s post : State) (h : execPmuDipRead s = .next post) :
    Keeps 1140863042 s post := by
  obtain rfl := Host.Outcome.next.inj h
  exact Keeps.of (State.hostRd_keeps _ _) rfl

theorem execPmuShedRead_keeps (s post : State) (h : execPmuShedRead s = .next post) :
    Keeps 1140863042 s post := by
  obtain rfl := Host.Outcome.next.inj h
  exact Keeps.of (State.hostRd_keeps _ _) rfl

theorem execPmuVmonRead_keeps (s post : State) (h : execPmuVmonRead s = .next post) :
    Keeps 1140863042 s post := by
  obtain rfl := Host.Outcome.next.inj h
  exact Keeps.of (State.hostRd_keeps _ _) rfl

theorem execPmuCntRead_keeps (s post : State) (h : execPmuCntRead s = .next post) :
    Keeps 1140863042 s post := by
  obtain rfl := Host.Outcome.next.inj h
  exact Keeps.of (State.hostRd_keeps _ _) rfl

theorem execDiaHarvRead_keeps (s post : State) (h : execDiaHarvRead s = .next post) :
    Keeps 1140863042 s post := by
  obtain rfl := Host.Outcome.next.inj h
  exact Keeps.of (State.hostRd_keeps _ _) rfl

theorem execDiaRecWpLoRead_keeps (s post : State) (h : execDiaRecWpLoRead s = .next post) :
    Keeps 1140863042 s post := by
  obtain rfl := Host.Outcome.next.inj h
  exact Keeps.of (State.hostRd_keeps _ _) rfl

theorem execDiaRecLostRead_keeps (s post : State) (h : execDiaRecLostRead s = .next post) :
    Keeps 1140863042 s post := by
  obtain rfl := Host.Outcome.next.inj h
  exact Keeps.of (State.hostRd_keeps _ _) rfl

theorem execDiaRplCntRead_keeps (s post : State) (h : execDiaRplCntRead s = .next post) :
    Keeps 1140863042 s post := by
  obtain rfl := Host.Outcome.next.inj h
  exact Keeps.of (State.hostRd_keeps _ _) rfl

theorem execPnlCntRead_keeps (s post : State) (h : execPnlCntRead s = .next post) :
    Keeps 1140863042 s post := by
  obtain rfl := Host.Outcome.next.inj h
  exact Keeps.of (State.hostRd_keeps _ _) rfl

theorem execPnlBalcntRead_keeps (s post : State) (h : execPnlBalcntRead s = .next post) :
    Keeps 1140863042 s post := by
  obtain rfl := Host.Outcome.next.inj h
  exact Keeps.of (State.hostRd_keeps _ _) rfl

theorem execSnapRelease_keeps (s post : State) (h : execSnapRelease s = .next post) :
    Keeps 1603714046 s post := by
  obtain rfl := Host.Outcome.next.inj h
  exact Keeps.of (State.hostWr_keeps _ _ _) rfl

theorem execBankCommit_keeps (s post : State) (h : execBankCommit s = .next post) :
    Keeps 1603714046 s post := by
  obtain rfl := Host.Outcome.next.inj h
  exact Keeps.of (State.hostWr_keeps _ _ _) rfl

theorem execHarbourWake_keeps (s post : State) (h : execHarbourWake s = .next post) :
    Keeps 1603714046 s post := by
  obtain rfl := Host.Outcome.next.inj h
  exact Keeps.of (State.hostWr_keeps _ _ _) rfl

theorem execYdStatusRead_keeps (s post : State) (h : execYdStatusRead s = .next post) :
    Keeps 4294967298 s post := by
  obtain rfl := Host.Outcome.next.inj h
  exact Keeps.of (State.ydSpiReadOp_keeps _ _ _) rfl

theorem execYdSpiErrRead_keeps (s post : State) (h : execYdSpiErrRead s = .next post) :
    Keeps 4294967298 s post := by
  obtain rfl := Host.Outcome.next.inj h
  exact Keeps.of (State.ydSpiReadOp_keeps _ _ _) rfl

end Sys2Proof.Machine
end

