-- ==== Sys2Proof/Laws/Regs.lean ====
section
/-!
SUPPORT. Laws of bit fields, registers and memory: what a write reads back as, and what it leaves alone.
-/

namespace Sys2Proof.Machine

/-! ## Bit fields -/

theorem bits_lt (x lo w : Nat) : bits x lo w < 2 ^ w := Nat.mod_lt _ (Nat.two_pow_pos w)

theorem bits_testBit (x lo w i : Nat) : (bits x lo w).testBit i = (decide (i < w) && x.testBit (lo + i)) := by
  unfold bits
  rw [Nat.testBit_mod_two_pow, Nat.testBit_shiftRight]

theorem putBits_eq (x lo w v : Nat) : putBits x lo w v = 2 ^ (lo + w) * (x >>> (lo + w)) + (2 ^ lo * (v % 2 ^ w) + x % 2 ^ lo) := by
  unfold putBits
  rw [Nat.shiftLeft_eq, Nat.shiftLeft_eq, Nat.mul_comm, Nat.add_assoc, Nat.mul_comm (v % 2 ^ w)]

theorem putBits_testBit (x lo w v i : Nat) :
    (putBits x lo w v).testBit i = if i < lo then x.testBit i else if i < lo + w then v.testBit (i - lo) else x.testBit i := by
  have hlo : x % 2 ^ lo < 2 ^ lo := Nat.mod_lt _ (Nat.two_pow_pos lo)
  have hv : v % 2 ^ w < 2 ^ w := Nat.mod_lt _ (Nat.two_pow_pos w)
  have hlow : 2 ^ lo * (v % 2 ^ w) + x % 2 ^ lo < 2 ^ (lo + w) := by
    rw [Nat.pow_add]
    have e : 2 ^ lo * (v % 2 ^ w) + 2 ^ lo = 2 ^ lo * (v % 2 ^ w + 1) := (Nat.mul_succ _ _).symm
    have m : 2 ^ lo * (v % 2 ^ w + 1) ≤ 2 ^ lo * 2 ^ w := Nat.mul_le_mul_left _ hv
    omega
  rw [putBits_eq, Nat.testBit_two_pow_mul_add _ hlow, Nat.testBit_two_pow_mul_add _ hlo]
  by_cases h1 : i < lo
  · have : i < lo + w := by omega
    simp [h1, this, Nat.testBit_mod_two_pow]
  · by_cases h2 : i < lo + w
    · have h3 : i - lo < w := by omega
      simp [h1, h2, Nat.testBit_mod_two_pow, h3]
    · have h4 : lo + w + (i - (lo + w)) = i := by omega
      simp [h1, h2, Nat.testBit_shiftRight, h4]

/-- A field reads as what was put in it. -/
theorem bits_putBits (x lo w v : Nat) : bits (putBits x lo w v) lo w = v % 2 ^ w := by
  apply Nat.eq_of_testBit_eq
  intro i
  rw [bits_testBit, putBits_testBit, Nat.testBit_mod_two_pow]
  by_cases h : i < w
  · have h1 : ¬ lo + i < lo := by omega
    simp [h, h1]
  · simp [h]

/-- A field below or above the one written is left alone. -/
theorem bits_putBits_other (x lo w v lo' w' : Nat) (h : lo' + w' ≤ lo ∨ lo + w ≤ lo') :
    bits (putBits x lo w v) lo' w' = bits x lo' w' := by
  apply Nat.eq_of_testBit_eq
  intro i
  rw [bits_testBit, putBits_testBit, bits_testBit]
  by_cases hi : i < w'
  · simp only [hi, decide_true, Bool.true_and]
    rcases h with h | h
    · simp [show lo' + i < lo by omega]
    · simp [show ¬ lo' + i < lo by omega, show ¬ lo' + i < lo + w by omega]
  · simp [hi]

/-- A field of a word cut to 32 bits. -/
theorem bits_mod (x lo w : Nat) (h : lo + w ≤ 32) : bits (x % 2 ^ 32) lo w = bits x lo w := by
  apply Nat.eq_of_testBit_eq
  intro i
  rw [bits_testBit, bits_testBit, Nat.testBit_mod_two_pow]
  by_cases hi : i < w
  · simp [hi, show lo + i < 32 by omega]
  · simp [hi]

/-! ## Tables, whatever their form -/

/-- A write leaves every other key alone. -/
theorem tabSet_other {α : Type} [DecidableEq α] (d : Nat → α) (t : Tab α) (k j : Nat) (v : α) (hj : j ≠ k) :
    tabGet d (tabSet d t k v) j = tabGet d t j := by
  rw [tabGet_tabSet, if_neg hj]

/-! ## Registers -/

/-- A register written leaves the others alone. -/
theorem State.reg_setReg_other (s : State) (a b : Nat) (w : Word) (h : b ≠ a) : (s.setReg a w).reg b = s.reg b :=
  tabSet_other regReset s.regs a b w h

/-- A register reads as written. -/
theorem State.reg_setReg (s : State) (a : Nat) (w : Word) : (s.setReg a w).reg a = w := by
  show tabGet regReset (tabSet regReset s.regs a w) a = w
  rw [tabGet_tabSet, if_pos rfl]

/-- A field written leaves every other register alone. -/
theorem State.reg_fset_other (s : State) (f : Fld) (v a : Nat) (h : a ≠ f.addr) : (s.fset f v).reg a = s.reg a :=
  s.reg_setReg_other f.addr a _ h

/-- A field of another register is left alone. -/
theorem State.fget_fset_other (s : State) (f g : Fld) (v : Nat) (h : g.addr ≠ f.addr) : (s.fset f v).fget g = s.fget g := by
  unfold State.fget
  rw [s.reg_fset_other f v g.addr h]

/-- A field reads as written, cut to its width. -/
theorem State.fget_fset (s : State) (f : Fld) (v : Nat) (hf : f.lo + f.w ≤ 32) :
    (s.fset f v).fget f = v % 2 ^ f.w := by
  unfold State.fget State.fset
  rw [s.reg_setReg f.addr _, BitVec.toNat_ofNat, bits_mod _ _ _ hf, bits_putBits]

/-- Another field of the same register is left alone. -/
theorem State.fget_fset_beside (s : State) (f g : Fld) (v : Nat) (ha : g.addr = f.addr) (hg : g.lo + g.w ≤ 32)
    (hd : g.lo + g.w ≤ f.lo ∨ f.lo + f.w ≤ g.lo) : (s.fset f v).fget g = s.fget g := by
  unfold State.fget State.fset
  rw [ha, s.reg_setReg f.addr _, BitVec.toNat_ofNat, bits_mod _ _ _ hg, bits_putBits_other _ _ _ _ _ _ hd]

/-! ## Memory -/

/-- A byte written leaves the others alone. -/
theorem State.rd8_wr8_other (s : State) (a b : Nat) (v : Byte) (h : b ≠ a) : (s.wr8 a v).rd8 b = s.rd8 b :=
  tabSet_other memDflt s.mem a b v h

theorem wrMem_other (bs : List Byte) : ∀ (m : Tab Byte) (a b : Nat), (b < a ∨ a + bs.length ≤ b) →
    tabGet memDflt (wrMem m a bs) b = tabGet memDflt m b := by
  induction bs with
  | nil => intro m a b _; rfl
  | cons v r ih =>
    intro m a b h
    simp only [List.length_cons] at h
    rw [wrMem, ih _ _ _ (by omega)]
    exact tabSet_other memDflt m a b v (by omega)

/-- Bytes written leave every byte outside them alone. -/
theorem State.rd8_wrB_other (s : State) (r o b : Nat) (bs : List Byte) (h : b < cell r o ∨ cell r o + bs.length ≤ b) :
    (s.wrB r o bs).rd8 b = s.rd8 b := wrMem_other bs s.mem (cell r o) b h

theorem wrMem_tabWf (bs : List Byte) : ∀ (m : Tab Byte) (a : Nat), tabWf memDflt m = true → tabWf memDflt (wrMem m a bs) = true := by
  induction bs with
  | nil => exact fun _ _ h => h
  | cons b r ih => exact fun m a h => ih _ _ (tabSet_wf m a b h)

/-- Bytes read back as written. -/
theorem rdMem_wrMem (bs : List Byte) : ∀ (m : Tab Byte) (a : Nat), rdMem (wrMem m a bs) a bs.length = bs := by
  induction bs with
  | nil => intros; rfl
  | cons b r ih =>
    intro m a
    simp only [wrMem, List.length_cons, rdMem]
    rw [ih, wrMem_other r _ (a + 1) a (by omega), tabGet_tabSet, if_pos rfl]

theorem State.rdB_wrB (s : State) (r o : Nat) (bs : List Byte) :
    (s.wrB r o bs).rdB r o bs.length = bs := rdMem_wrMem bs s.mem (cell r o)

end Sys2Proof.Machine
end

