-- ==== Sys2Proof/Laws/State.lean ====
section
/-!
SUPPORT. What the elementary updates leave of each field of the state: one lemma per update and field, true by `rfl`.
-/

namespace Sys2Proof.Machine

variable (s : State)

/-! ### setReg -/

@[simp] theorem State.setReg_pending (a : Nat) (w : Word) : (s.setReg a w).pending = s.pending := rfl
@[simp] theorem State.setReg_out (a : Nat) (w : Word) : (s.setReg a w).out = s.out := rfl
@[simp] theorem State.setReg_free (a : Nat) (w : Word) : (s.setReg a w).free = s.free := rfl
@[simp] theorem State.setReg_pwr (a : Nat) (w : Word) : (s.setReg a w).pwr = s.pwr := rfl
@[simp] theorem State.setReg_op (a : Nat) (w : Word) : (s.setReg a w).op = s.op := rfl
@[simp] theorem State.setReg_role (a : Nat) (w : Word) : (s.setReg a w).role = s.role := rfl
@[simp] theorem State.setReg_mem (a : Nat) (w : Word) : (s.setReg a w).mem = s.mem := rfl
@[simp] theorem State.setReg_time (a : Nat) (w : Word) : (s.setReg a w).time = s.time := rfl
@[simp] theorem State.setReg_cfg (a : Nat) (w : Word) : (s.setReg a w).cfg = s.cfg := rfl
@[simp] theorem State.setReg_flash (a : Nat) (w : Word) : (s.setReg a w).flash = s.flash := rfl
@[simp] theorem State.setReg_hif (a : Nat) (w : Word) : (s.setReg a w).hif = s.hif := rfl
@[simp] theorem State.setReg_sys (a : Nat) (w : Word) : (s.setReg a w).sys = s.sys := rfl
@[simp] theorem State.setReg_d0 (a : Nat) (w : Word) : (s.setReg a w).d0 = s.d0 := rfl
@[simp] theorem State.setReg_fch (a : Nat) (w : Word) : (s.setReg a w).fch = s.fch := rfl
@[simp] theorem State.setReg_alarms (a : Nat) (w : Word) : (s.setReg a w).alarms = s.alarms := rfl
@[simp] theorem State.setReg_diaF (a : Nat) (w : Word) : (s.setReg a w).diaF = s.diaF := rfl
@[simp] theorem State.setReg_recd (a : Nat) (w : Word) : (s.setReg a w).recd = s.recd := rfl
@[simp] theorem State.setReg_ctx (a : Nat) (w : Word) : (s.setReg a w).ctx = s.ctx := rfl
@[simp] theorem State.setReg_retro (a : Nat) (w : Word) : (s.setReg a w).retro = s.retro := rfl
@[simp] theorem State.setReg_fus (a : Nat) (w : Word) : (s.setReg a w).fus = s.fus := rfl
@[simp] theorem State.setReg_cex (a : Nat) (w : Word) : (s.setReg a w).cex = s.cex := rfl
@[simp] theorem State.setReg_slv (a : Nat) (w : Word) : (s.setReg a w).slv = s.slv := rfl
@[simp] theorem State.setReg_net (a : Nat) (w : Word) : (s.setReg a w).net = s.net := rfl
@[simp] theorem State.setReg_red (a : Nat) (w : Word) : (s.setReg a w).red = s.red := rfl
@[simp] theorem State.setReg_saf (a : Nat) (w : Word) : (s.setReg a w).saf = s.saf := rfl
@[simp] theorem State.setReg_gns (a : Nat) (w : Word) : (s.setReg a w).gns = s.gns := rfl
@[simp] theorem State.setReg_can (a : Nat) (w : Word) : (s.setReg a w).can = s.can := rfl
@[simp] theorem State.setReg_sdf (a : Nat) (w : Word) : (s.setReg a w).sdf = s.sdf := rfl
@[simp] theorem State.setReg_lgc (a : Nat) (w : Word) : (s.setReg a w).lgc = s.lgc := rfl
@[simp] theorem State.setReg_dia (a : Nat) (w : Word) : (s.setReg a w).dia = s.dia := rfl
@[simp] theorem State.setReg_pnl (a : Nat) (w : Word) : (s.setReg a w).pnl = s.pnl := rfl
@[simp] theorem State.setReg_yd (a : Nat) (w : Word) : (s.setReg a w).yd = s.yd := rfl
@[simp] theorem State.setReg_rd8 (a : Nat) (w : Word) (j : Nat) : (s.setReg a w).rd8 j = s.rd8 j := rfl

/-! ### fset -/

@[simp] theorem State.fset_pending (f : Fld) (v : Nat) : (s.fset f v).pending = s.pending := rfl
@[simp] theorem State.fset_out (f : Fld) (v : Nat) : (s.fset f v).out = s.out := rfl
@[simp] theorem State.fset_free (f : Fld) (v : Nat) : (s.fset f v).free = s.free := rfl
@[simp] theorem State.fset_pwr (f : Fld) (v : Nat) : (s.fset f v).pwr = s.pwr := rfl
@[simp] theorem State.fset_op (f : Fld) (v : Nat) : (s.fset f v).op = s.op := rfl
@[simp] theorem State.fset_role (f : Fld) (v : Nat) : (s.fset f v).role = s.role := rfl
@[simp] theorem State.fset_mem (f : Fld) (v : Nat) : (s.fset f v).mem = s.mem := rfl
@[simp] theorem State.fset_time (f : Fld) (v : Nat) : (s.fset f v).time = s.time := rfl
@[simp] theorem State.fset_cfg (f : Fld) (v : Nat) : (s.fset f v).cfg = s.cfg := rfl
@[simp] theorem State.fset_flash (f : Fld) (v : Nat) : (s.fset f v).flash = s.flash := rfl
@[simp] theorem State.fset_hif (f : Fld) (v : Nat) : (s.fset f v).hif = s.hif := rfl
@[simp] theorem State.fset_sys (f : Fld) (v : Nat) : (s.fset f v).sys = s.sys := rfl
@[simp] theorem State.fset_d0 (f : Fld) (v : Nat) : (s.fset f v).d0 = s.d0 := rfl
@[simp] theorem State.fset_fch (f : Fld) (v : Nat) : (s.fset f v).fch = s.fch := rfl
@[simp] theorem State.fset_alarms (f : Fld) (v : Nat) : (s.fset f v).alarms = s.alarms := rfl
@[simp] theorem State.fset_diaF (f : Fld) (v : Nat) : (s.fset f v).diaF = s.diaF := rfl
@[simp] theorem State.fset_recd (f : Fld) (v : Nat) : (s.fset f v).recd = s.recd := rfl
@[simp] theorem State.fset_ctx (f : Fld) (v : Nat) : (s.fset f v).ctx = s.ctx := rfl
@[simp] theorem State.fset_retro (f : Fld) (v : Nat) : (s.fset f v).retro = s.retro := rfl
@[simp] theorem State.fset_fus (f : Fld) (v : Nat) : (s.fset f v).fus = s.fus := rfl
@[simp] theorem State.fset_cex (f : Fld) (v : Nat) : (s.fset f v).cex = s.cex := rfl
@[simp] theorem State.fset_slv (f : Fld) (v : Nat) : (s.fset f v).slv = s.slv := rfl
@[simp] theorem State.fset_net (f : Fld) (v : Nat) : (s.fset f v).net = s.net := rfl
@[simp] theorem State.fset_red (f : Fld) (v : Nat) : (s.fset f v).red = s.red := rfl
@[simp] theorem State.fset_saf (f : Fld) (v : Nat) : (s.fset f v).saf = s.saf := rfl
@[simp] theorem State.fset_gns (f : Fld) (v : Nat) : (s.fset f v).gns = s.gns := rfl
@[simp] theorem State.fset_can (f : Fld) (v : Nat) : (s.fset f v).can = s.can := rfl
@[simp] theorem State.fset_sdf (f : Fld) (v : Nat) : (s.fset f v).sdf = s.sdf := rfl
@[simp] theorem State.fset_lgc (f : Fld) (v : Nat) : (s.fset f v).lgc = s.lgc := rfl
@[simp] theorem State.fset_dia (f : Fld) (v : Nat) : (s.fset f v).dia = s.dia := rfl
@[simp] theorem State.fset_pnl (f : Fld) (v : Nat) : (s.fset f v).pnl = s.pnl := rfl
@[simp] theorem State.fset_yd (f : Fld) (v : Nat) : (s.fset f v).yd = s.yd := rfl
@[simp] theorem State.fset_rd8 (f : Fld) (v : Nat) (j : Nat) : (s.fset f v).rd8 j = s.rd8 j := rfl

/-! ### wr8 -/

@[simp] theorem State.wr8_pending (a : Nat) (b : Byte) : (s.wr8 a b).pending = s.pending := rfl
@[simp] theorem State.wr8_out (a : Nat) (b : Byte) : (s.wr8 a b).out = s.out := rfl
@[simp] theorem State.wr8_free (a : Nat) (b : Byte) : (s.wr8 a b).free = s.free := rfl
@[simp] theorem State.wr8_pwr (a : Nat) (b : Byte) : (s.wr8 a b).pwr = s.pwr := rfl
@[simp] theorem State.wr8_op (a : Nat) (b : Byte) : (s.wr8 a b).op = s.op := rfl
@[simp] theorem State.wr8_role (a : Nat) (b : Byte) : (s.wr8 a b).role = s.role := rfl
@[simp] theorem State.wr8_regs (a : Nat) (b : Byte) : (s.wr8 a b).regs = s.regs := rfl
@[simp] theorem State.wr8_time (a : Nat) (b : Byte) : (s.wr8 a b).time = s.time := rfl
@[simp] theorem State.wr8_cfg (a : Nat) (b : Byte) : (s.wr8 a b).cfg = s.cfg := rfl
@[simp] theorem State.wr8_flash (a : Nat) (b : Byte) : (s.wr8 a b).flash = s.flash := rfl
@[simp] theorem State.wr8_hif (a : Nat) (b : Byte) : (s.wr8 a b).hif = s.hif := rfl
@[simp] theorem State.wr8_sys (a : Nat) (b : Byte) : (s.wr8 a b).sys = s.sys := rfl
@[simp] theorem State.wr8_d0 (a : Nat) (b : Byte) : (s.wr8 a b).d0 = s.d0 := rfl
@[simp] theorem State.wr8_fch (a : Nat) (b : Byte) : (s.wr8 a b).fch = s.fch := rfl
@[simp] theorem State.wr8_alarms (a : Nat) (b : Byte) : (s.wr8 a b).alarms = s.alarms := rfl
@[simp] theorem State.wr8_diaF (a : Nat) (b : Byte) : (s.wr8 a b).diaF = s.diaF := rfl
@[simp] theorem State.wr8_recd (a : Nat) (b : Byte) : (s.wr8 a b).recd = s.recd := rfl
@[simp] theorem State.wr8_ctx (a : Nat) (b : Byte) : (s.wr8 a b).ctx = s.ctx := rfl
@[simp] theorem State.wr8_retro (a : Nat) (b : Byte) : (s.wr8 a b).retro = s.retro := rfl
@[simp] theorem State.wr8_fus (a : Nat) (b : Byte) : (s.wr8 a b).fus = s.fus := rfl
@[simp] theorem State.wr8_cex (a : Nat) (b : Byte) : (s.wr8 a b).cex = s.cex := rfl
@[simp] theorem State.wr8_slv (a : Nat) (b : Byte) : (s.wr8 a b).slv = s.slv := rfl
@[simp] theorem State.wr8_net (a : Nat) (b : Byte) : (s.wr8 a b).net = s.net := rfl
@[simp] theorem State.wr8_red (a : Nat) (b : Byte) : (s.wr8 a b).red = s.red := rfl
@[simp] theorem State.wr8_saf (a : Nat) (b : Byte) : (s.wr8 a b).saf = s.saf := rfl
@[simp] theorem State.wr8_gns (a : Nat) (b : Byte) : (s.wr8 a b).gns = s.gns := rfl
@[simp] theorem State.wr8_can (a : Nat) (b : Byte) : (s.wr8 a b).can = s.can := rfl
@[simp] theorem State.wr8_sdf (a : Nat) (b : Byte) : (s.wr8 a b).sdf = s.sdf := rfl
@[simp] theorem State.wr8_lgc (a : Nat) (b : Byte) : (s.wr8 a b).lgc = s.lgc := rfl
@[simp] theorem State.wr8_dia (a : Nat) (b : Byte) : (s.wr8 a b).dia = s.dia := rfl
@[simp] theorem State.wr8_pnl (a : Nat) (b : Byte) : (s.wr8 a b).pnl = s.pnl := rfl
@[simp] theorem State.wr8_yd (a : Nat) (b : Byte) : (s.wr8 a b).yd = s.yd := rfl
@[simp] theorem State.wr8_reg (a : Nat) (b : Byte) (j : Nat) : (s.wr8 a b).reg j = s.reg j := rfl
@[simp] theorem State.wr8_fget (a : Nat) (b : Byte) (g : Fld) : (s.wr8 a b).fget g = s.fget g := rfl

/-! ### wrB -/

@[simp] theorem State.wrB_pending (r o : Nat) (bs : List Byte) : (s.wrB r o bs).pending = s.pending := rfl
@[simp] theorem State.wrB_out (r o : Nat) (bs : List Byte) : (s.wrB r o bs).out = s.out := rfl
@[simp] theorem State.wrB_free (r o : Nat) (bs : List Byte) : (s.wrB r o bs).free = s.free := rfl
@[simp] theorem State.wrB_pwr (r o : Nat) (bs : List Byte) : (s.wrB r o bs).pwr = s.pwr := rfl
@[simp] theorem State.wrB_op (r o : Nat) (bs : List Byte) : (s.wrB r o bs).op = s.op := rfl
@[simp] theorem State.wrB_role (r o : Nat) (bs : List Byte) : (s.wrB r o bs).role = s.role := rfl
@[simp] theorem State.wrB_regs (r o : Nat) (bs : List Byte) : (s.wrB r o bs).regs = s.regs := rfl
@[simp] theorem State.wrB_time (r o : Nat) (bs : List Byte) : (s.wrB r o bs).time = s.time := rfl
@[simp] theorem State.wrB_cfg (r o : Nat) (bs : List Byte) : (s.wrB r o bs).cfg = s.cfg := rfl
@[simp] theorem State.wrB_flash (r o : Nat) (bs : List Byte) : (s.wrB r o bs).flash = s.flash := rfl
@[simp] theorem State.wrB_hif (r o : Nat) (bs : List Byte) : (s.wrB r o bs).hif = s.hif := rfl
@[simp] theorem State.wrB_sys (r o : Nat) (bs : List Byte) : (s.wrB r o bs).sys = s.sys := rfl
@[simp] theorem State.wrB_d0 (r o : Nat) (bs : List Byte) : (s.wrB r o bs).d0 = s.d0 := rfl
@[simp] theorem State.wrB_fch (r o : Nat) (bs : List Byte) : (s.wrB r o bs).fch = s.fch := rfl
@[simp] theorem State.wrB_alarms (r o : Nat) (bs : List Byte) : (s.wrB r o bs).alarms = s.alarms := rfl
@[simp] theorem State.wrB_diaF (r o : Nat) (bs : List Byte) : (s.wrB r o bs).diaF = s.diaF := rfl
@[simp] theorem State.wrB_recd (r o : Nat) (bs : List Byte) : (s.wrB r o bs).recd = s.recd := rfl
@[simp] theorem State.wrB_ctx (r o : Nat) (bs : List Byte) : (s.wrB r o bs).ctx = s.ctx := rfl
@[simp] theorem State.wrB_retro (r o : Nat) (bs : List Byte) : (s.wrB r o bs).retro = s.retro := rfl
@[simp] theorem State.wrB_fus (r o : Nat) (bs : List Byte) : (s.wrB r o bs).fus = s.fus := rfl
@[simp] theorem State.wrB_cex (r o : Nat) (bs : List Byte) : (s.wrB r o bs).cex = s.cex := rfl
@[simp] theorem State.wrB_slv (r o : Nat) (bs : List Byte) : (s.wrB r o bs).slv = s.slv := rfl
@[simp] theorem State.wrB_net (r o : Nat) (bs : List Byte) : (s.wrB r o bs).net = s.net := rfl
@[simp] theorem State.wrB_red (r o : Nat) (bs : List Byte) : (s.wrB r o bs).red = s.red := rfl
@[simp] theorem State.wrB_saf (r o : Nat) (bs : List Byte) : (s.wrB r o bs).saf = s.saf := rfl
@[simp] theorem State.wrB_gns (r o : Nat) (bs : List Byte) : (s.wrB r o bs).gns = s.gns := rfl
@[simp] theorem State.wrB_can (r o : Nat) (bs : List Byte) : (s.wrB r o bs).can = s.can := rfl
@[simp] theorem State.wrB_sdf (r o : Nat) (bs : List Byte) : (s.wrB r o bs).sdf = s.sdf := rfl
@[simp] theorem State.wrB_lgc (r o : Nat) (bs : List Byte) : (s.wrB r o bs).lgc = s.lgc := rfl
@[simp] theorem State.wrB_dia (r o : Nat) (bs : List Byte) : (s.wrB r o bs).dia = s.dia := rfl
@[simp] theorem State.wrB_pnl (r o : Nat) (bs : List Byte) : (s.wrB r o bs).pnl = s.pnl := rfl
@[simp] theorem State.wrB_yd (r o : Nat) (bs : List Byte) : (s.wrB r o bs).yd = s.yd := rfl
@[simp] theorem State.wrB_reg (r o : Nat) (bs : List Byte) (j : Nat) : (s.wrB r o bs).reg j = s.reg j := rfl
@[simp] theorem State.wrB_fget (r o : Nat) (bs : List Byte) (g : Fld) : (s.wrB r o bs).fget g = s.fget g := rfl

/-! ### send -/

@[simp] theorem State.send_pending (p : Port) (bs : List Byte) : (s.send p bs).pending = s.pending := rfl
@[simp] theorem State.send_free (p : Port) (bs : List Byte) : (s.send p bs).free = s.free := rfl
@[simp] theorem State.send_pwr (p : Port) (bs : List Byte) : (s.send p bs).pwr = s.pwr := rfl
@[simp] theorem State.send_op (p : Port) (bs : List Byte) : (s.send p bs).op = s.op := rfl
@[simp] theorem State.send_role (p : Port) (bs : List Byte) : (s.send p bs).role = s.role := rfl
@[simp] theorem State.send_regs (p : Port) (bs : List Byte) : (s.send p bs).regs = s.regs := rfl
@[simp] theorem State.send_mem (p : Port) (bs : List Byte) : (s.send p bs).mem = s.mem := rfl
@[simp] theorem State.send_time (p : Port) (bs : List Byte) : (s.send p bs).time = s.time := rfl
@[simp] theorem State.send_cfg (p : Port) (bs : List Byte) : (s.send p bs).cfg = s.cfg := rfl
@[simp] theorem State.send_flash (p : Port) (bs : List Byte) : (s.send p bs).flash = s.flash := rfl
@[simp] theorem State.send_hif (p : Port) (bs : List Byte) : (s.send p bs).hif = s.hif := rfl
@[simp] theorem State.send_sys (p : Port) (bs : List Byte) : (s.send p bs).sys = s.sys := rfl
@[simp] theorem State.send_d0 (p : Port) (bs : List Byte) : (s.send p bs).d0 = s.d0 := rfl
@[simp] theorem State.send_fch (p : Port) (bs : List Byte) : (s.send p bs).fch = s.fch := rfl
@[simp] theorem State.send_alarms (p : Port) (bs : List Byte) : (s.send p bs).alarms = s.alarms := rfl
@[simp] theorem State.send_diaF (p : Port) (bs : List Byte) : (s.send p bs).diaF = s.diaF := rfl
@[simp] theorem State.send_recd (p : Port) (bs : List Byte) : (s.send p bs).recd = s.recd := rfl
@[simp] theorem State.send_ctx (p : Port) (bs : List Byte) : (s.send p bs).ctx = s.ctx := rfl
@[simp] theorem State.send_retro (p : Port) (bs : List Byte) : (s.send p bs).retro = s.retro := rfl
@[simp] theorem State.send_fus (p : Port) (bs : List Byte) : (s.send p bs).fus = s.fus := rfl
@[simp] theorem State.send_cex (p : Port) (bs : List Byte) : (s.send p bs).cex = s.cex := rfl
@[simp] theorem State.send_slv (p : Port) (bs : List Byte) : (s.send p bs).slv = s.slv := rfl
@[simp] theorem State.send_net (p : Port) (bs : List Byte) : (s.send p bs).net = s.net := rfl
@[simp] theorem State.send_red (p : Port) (bs : List Byte) : (s.send p bs).red = s.red := rfl
@[simp] theorem State.send_saf (p : Port) (bs : List Byte) : (s.send p bs).saf = s.saf := rfl
@[simp] theorem State.send_gns (p : Port) (bs : List Byte) : (s.send p bs).gns = s.gns := rfl
@[simp] theorem State.send_can (p : Port) (bs : List Byte) : (s.send p bs).can = s.can := rfl
@[simp] theorem State.send_sdf (p : Port) (bs : List Byte) : (s.send p bs).sdf = s.sdf := rfl
@[simp] theorem State.send_lgc (p : Port) (bs : List Byte) : (s.send p bs).lgc = s.lgc := rfl
@[simp] theorem State.send_dia (p : Port) (bs : List Byte) : (s.send p bs).dia = s.dia := rfl
@[simp] theorem State.send_pnl (p : Port) (bs : List Byte) : (s.send p bs).pnl = s.pnl := rfl
@[simp] theorem State.send_yd (p : Port) (bs : List Byte) : (s.send p bs).yd = s.yd := rfl
@[simp] theorem State.send_reg (p : Port) (bs : List Byte) (j : Nat) : (s.send p bs).reg j = s.reg j := rfl
@[simp] theorem State.send_fget (p : Port) (bs : List Byte) (g : Fld) : (s.send p bs).fget g = s.fget g := rfl
@[simp] theorem State.send_rd8 (p : Port) (bs : List Byte) (j : Nat) : (s.send p bs).rd8 j = s.rd8 j := rfl

/-! ### tick1 -/

@[simp] theorem State.tick1_pending : (s.tick1).pending = s.pending := rfl
@[simp] theorem State.tick1_out : (s.tick1).out = s.out := rfl
@[simp] theorem State.tick1_pwr : (s.tick1).pwr = s.pwr := rfl
@[simp] theorem State.tick1_op : (s.tick1).op = s.op := rfl
@[simp] theorem State.tick1_role : (s.tick1).role = s.role := rfl
@[simp] theorem State.tick1_regs : (s.tick1).regs = s.regs := rfl
@[simp] theorem State.tick1_mem : (s.tick1).mem = s.mem := rfl
@[simp] theorem State.tick1_time : (s.tick1).time = s.time := rfl
@[simp] theorem State.tick1_cfg : (s.tick1).cfg = s.cfg := rfl
@[simp] theorem State.tick1_flash : (s.tick1).flash = s.flash := rfl
@[simp] theorem State.tick1_hif : (s.tick1).hif = s.hif := rfl
@[simp] theorem State.tick1_sys : (s.tick1).sys = s.sys := rfl
@[simp] theorem State.tick1_d0 : (s.tick1).d0 = s.d0 := rfl
@[simp] theorem State.tick1_fch : (s.tick1).fch = s.fch := rfl
@[simp] theorem State.tick1_alarms : (s.tick1).alarms = s.alarms := rfl
@[simp] theorem State.tick1_diaF : (s.tick1).diaF = s.diaF := rfl
@[simp] theorem State.tick1_recd : (s.tick1).recd = s.recd := rfl
@[simp] theorem State.tick1_ctx : (s.tick1).ctx = s.ctx := rfl
@[simp] theorem State.tick1_retro : (s.tick1).retro = s.retro := rfl
@[simp] theorem State.tick1_fus : (s.tick1).fus = s.fus := rfl
@[simp] theorem State.tick1_cex : (s.tick1).cex = s.cex := rfl
@[simp] theorem State.tick1_slv : (s.tick1).slv = s.slv := rfl
@[simp] theorem State.tick1_net : (s.tick1).net = s.net := rfl
@[simp] theorem State.tick1_red : (s.tick1).red = s.red := rfl
@[simp] theorem State.tick1_saf : (s.tick1).saf = s.saf := rfl
@[simp] theorem State.tick1_gns : (s.tick1).gns = s.gns := rfl
@[simp] theorem State.tick1_can : (s.tick1).can = s.can := rfl
@[simp] theorem State.tick1_sdf : (s.tick1).sdf = s.sdf := rfl
@[simp] theorem State.tick1_lgc : (s.tick1).lgc = s.lgc := rfl
@[simp] theorem State.tick1_dia : (s.tick1).dia = s.dia := rfl
@[simp] theorem State.tick1_pnl : (s.tick1).pnl = s.pnl := rfl
@[simp] theorem State.tick1_yd : (s.tick1).yd = s.yd := rfl
@[simp] theorem State.tick1_reg (j : Nat) : (s.tick1).reg j = s.reg j := rfl
@[simp] theorem State.tick1_fget (g : Fld) : (s.tick1).fget g = s.fget g := rfl
@[simp] theorem State.tick1_rd8 (j : Nat) : (s.tick1).rd8 j = s.rd8 j := rfl

/-! ### ydPut -/

@[simp] theorem State.ydPut_pending (a v : Nat) : (s.ydPut a v).pending = s.pending := rfl
@[simp] theorem State.ydPut_out (a v : Nat) : (s.ydPut a v).out = s.out := rfl
@[simp] theorem State.ydPut_free (a v : Nat) : (s.ydPut a v).free = s.free := rfl
@[simp] theorem State.ydPut_pwr (a v : Nat) : (s.ydPut a v).pwr = s.pwr := rfl
@[simp] theorem State.ydPut_op (a v : Nat) : (s.ydPut a v).op = s.op := rfl
@[simp] theorem State.ydPut_role (a v : Nat) : (s.ydPut a v).role = s.role := rfl
@[simp] theorem State.ydPut_regs (a v : Nat) : (s.ydPut a v).regs = s.regs := rfl
@[simp] theorem State.ydPut_mem (a v : Nat) : (s.ydPut a v).mem = s.mem := rfl
@[simp] theorem State.ydPut_time (a v : Nat) : (s.ydPut a v).time = s.time := rfl
@[simp] theorem State.ydPut_cfg (a v : Nat) : (s.ydPut a v).cfg = s.cfg := rfl
@[simp] theorem State.ydPut_flash (a v : Nat) : (s.ydPut a v).flash = s.flash := rfl
@[simp] theorem State.ydPut_hif (a v : Nat) : (s.ydPut a v).hif = s.hif := rfl
@[simp] theorem State.ydPut_sys (a v : Nat) : (s.ydPut a v).sys = s.sys := rfl
@[simp] theorem State.ydPut_d0 (a v : Nat) : (s.ydPut a v).d0 = s.d0 := rfl
@[simp] theorem State.ydPut_fch (a v : Nat) : (s.ydPut a v).fch = s.fch := rfl
@[simp] theorem State.ydPut_alarms (a v : Nat) : (s.ydPut a v).alarms = s.alarms := rfl
@[simp] theorem State.ydPut_diaF (a v : Nat) : (s.ydPut a v).diaF = s.diaF := rfl
@[simp] theorem State.ydPut_recd (a v : Nat) : (s.ydPut a v).recd = s.recd := rfl
@[simp] theorem State.ydPut_ctx (a v : Nat) : (s.ydPut a v).ctx = s.ctx := rfl
@[simp] theorem State.ydPut_retro (a v : Nat) : (s.ydPut a v).retro = s.retro := rfl
@[simp] theorem State.ydPut_fus (a v : Nat) : (s.ydPut a v).fus = s.fus := rfl
@[simp] theorem State.ydPut_cex (a v : Nat) : (s.ydPut a v).cex = s.cex := rfl
@[simp] theorem State.ydPut_slv (a v : Nat) : (s.ydPut a v).slv = s.slv := rfl
@[simp] theorem State.ydPut_net (a v : Nat) : (s.ydPut a v).net = s.net := rfl
@[simp] theorem State.ydPut_red (a v : Nat) : (s.ydPut a v).red = s.red := rfl
@[simp] theorem State.ydPut_saf (a v : Nat) : (s.ydPut a v).saf = s.saf := rfl
@[simp] theorem State.ydPut_gns (a v : Nat) : (s.ydPut a v).gns = s.gns := rfl
@[simp] theorem State.ydPut_can (a v : Nat) : (s.ydPut a v).can = s.can := rfl
@[simp] theorem State.ydPut_sdf (a v : Nat) : (s.ydPut a v).sdf = s.sdf := rfl
@[simp] theorem State.ydPut_lgc (a v : Nat) : (s.ydPut a v).lgc = s.lgc := rfl
@[simp] theorem State.ydPut_dia (a v : Nat) : (s.ydPut a v).dia = s.dia := rfl
@[simp] theorem State.ydPut_pnl (a v : Nat) : (s.ydPut a v).pnl = s.pnl := rfl
@[simp] theorem State.ydPut_reg (a v : Nat) (j : Nat) : (s.ydPut a v).reg j = s.reg j := rfl
@[simp] theorem State.ydPut_fget (a v : Nat) (g : Fld) : (s.ydPut a v).fget g = s.fget g := rfl
@[simp] theorem State.ydPut_rd8 (a v : Nat) (j : Nat) : (s.ydPut a v).rd8 j = s.rd8 j := rfl

/-! ### recMod -/

@[simp] theorem State.recMod_pending (f : RecSt → RecSt) : (s.recMod f).pending = s.pending := rfl
@[simp] theorem State.recMod_out (f : RecSt → RecSt) : (s.recMod f).out = s.out := rfl
@[simp] theorem State.recMod_free (f : RecSt → RecSt) : (s.recMod f).free = s.free := rfl
@[simp] theorem State.recMod_pwr (f : RecSt → RecSt) : (s.recMod f).pwr = s.pwr := rfl
@[simp] theorem State.recMod_op (f : RecSt → RecSt) : (s.recMod f).op = s.op := rfl
@[simp] theorem State.recMod_role (f : RecSt → RecSt) : (s.recMod f).role = s.role := rfl
@[simp] theorem State.recMod_regs (f : RecSt → RecSt) : (s.recMod f).regs = s.regs := rfl
@[simp] theorem State.recMod_mem (f : RecSt → RecSt) : (s.recMod f).mem = s.mem := rfl
@[simp] theorem State.recMod_time (f : RecSt → RecSt) : (s.recMod f).time = s.time := rfl
@[simp] theorem State.recMod_cfg (f : RecSt → RecSt) : (s.recMod f).cfg = s.cfg := rfl
@[simp] theorem State.recMod_flash (f : RecSt → RecSt) : (s.recMod f).flash = s.flash := rfl
@[simp] theorem State.recMod_hif (f : RecSt → RecSt) : (s.recMod f).hif = s.hif := rfl
@[simp] theorem State.recMod_sys (f : RecSt → RecSt) : (s.recMod f).sys = s.sys := rfl
@[simp] theorem State.recMod_d0 (f : RecSt → RecSt) : (s.recMod f).d0 = s.d0 := rfl
@[simp] theorem State.recMod_fch (f : RecSt → RecSt) : (s.recMod f).fch = s.fch := rfl
@[simp] theorem State.recMod_alarms (f : RecSt → RecSt) : (s.recMod f).alarms = s.alarms := rfl
@[simp] theorem State.recMod_diaF (f : RecSt → RecSt) : (s.recMod f).diaF = s.diaF := rfl
@[simp] theorem State.recMod_recd (f : RecSt → RecSt) : (s.recMod f).recd = f s.recd := rfl
@[simp] theorem State.recMod_ctx (f : RecSt → RecSt) : (s.recMod f).ctx = s.ctx := rfl
@[simp] theorem State.recMod_retro (f : RecSt → RecSt) : (s.recMod f).retro = s.retro := rfl
@[simp] theorem State.recMod_fus (f : RecSt → RecSt) : (s.recMod f).fus = s.fus := rfl
@[simp] theorem State.recMod_cex (f : RecSt → RecSt) : (s.recMod f).cex = s.cex := rfl
@[simp] theorem State.recMod_slv (f : RecSt → RecSt) : (s.recMod f).slv = s.slv := rfl
@[simp] theorem State.recMod_net (f : RecSt → RecSt) : (s.recMod f).net = s.net := rfl
@[simp] theorem State.recMod_red (f : RecSt → RecSt) : (s.recMod f).red = s.red := rfl
@[simp] theorem State.recMod_saf (f : RecSt → RecSt) : (s.recMod f).saf = s.saf := rfl
@[simp] theorem State.recMod_gns (f : RecSt → RecSt) : (s.recMod f).gns = s.gns := rfl
@[simp] theorem State.recMod_can (f : RecSt → RecSt) : (s.recMod f).can = s.can := rfl
@[simp] theorem State.recMod_sdf (f : RecSt → RecSt) : (s.recMod f).sdf = s.sdf := rfl
@[simp] theorem State.recMod_lgc (f : RecSt → RecSt) : (s.recMod f).lgc = s.lgc := rfl
@[simp] theorem State.recMod_dia (f : RecSt → RecSt) : (s.recMod f).dia = s.dia := rfl
@[simp] theorem State.recMod_pnl (f : RecSt → RecSt) : (s.recMod f).pnl = s.pnl := rfl
@[simp] theorem State.recMod_yd (f : RecSt → RecSt) : (s.recMod f).yd = s.yd := rfl
@[simp] theorem State.recMod_reg (f : RecSt → RecSt) (j : Nat) : (s.recMod f).reg j = s.reg j := rfl
@[simp] theorem State.recMod_fget (f : RecSt → RecSt) (g : Fld) : (s.recMod f).fget g = s.fget g := rfl
@[simp] theorem State.recMod_rd8 (f : RecSt → RecSt) (j : Nat) : (s.recMod f).rd8 j = s.rd8 j := rfl

/-! ### timeMod -/

@[simp] theorem State.timeMod_pending (f : TimeSt → TimeSt) : (s.timeMod f).pending = s.pending := rfl
@[simp] theorem State.timeMod_out (f : TimeSt → TimeSt) : (s.timeMod f).out = s.out := rfl
@[simp] theorem State.timeMod_free (f : TimeSt → TimeSt) : (s.timeMod f).free = s.free := rfl
@[simp] theorem State.timeMod_pwr (f : TimeSt → TimeSt) : (s.timeMod f).pwr = s.pwr := rfl
@[simp] theorem State.timeMod_op (f : TimeSt → TimeSt) : (s.timeMod f).op = s.op := rfl
@[simp] theorem State.timeMod_role (f : TimeSt → TimeSt) : (s.timeMod f).role = s.role := rfl
@[simp] theorem State.timeMod_regs (f : TimeSt → TimeSt) : (s.timeMod f).regs = s.regs := rfl
@[simp] theorem State.timeMod_mem (f : TimeSt → TimeSt) : (s.timeMod f).mem = s.mem := rfl
@[simp] theorem State.timeMod_time (f : TimeSt → TimeSt) : (s.timeMod f).time = f s.time := rfl
@[simp] theorem State.timeMod_cfg (f : TimeSt → TimeSt) : (s.timeMod f).cfg = s.cfg := rfl
@[simp] theorem State.timeMod_flash (f : TimeSt → TimeSt) : (s.timeMod f).flash = s.flash := rfl
@[simp] theorem State.timeMod_hif (f : TimeSt → TimeSt) : (s.timeMod f).hif = s.hif := rfl
@[simp] theorem State.timeMod_sys (f : TimeSt → TimeSt) : (s.timeMod f).sys = s.sys := rfl
@[simp] theorem State.timeMod_d0 (f : TimeSt → TimeSt) : (s.timeMod f).d0 = s.d0 := rfl
@[simp] theorem State.timeMod_fch (f : TimeSt → TimeSt) : (s.timeMod f).fch = s.fch := rfl
@[simp] theorem State.timeMod_alarms (f : TimeSt → TimeSt) : (s.timeMod f).alarms = s.alarms := rfl
@[simp] theorem State.timeMod_diaF (f : TimeSt → TimeSt) : (s.timeMod f).diaF = s.diaF := rfl
@[simp] theorem State.timeMod_recd (f : TimeSt → TimeSt) : (s.timeMod f).recd = s.recd := rfl
@[simp] theorem State.timeMod_ctx (f : TimeSt → TimeSt) : (s.timeMod f).ctx = s.ctx := rfl
@[simp] theorem State.timeMod_retro (f : TimeSt → TimeSt) : (s.timeMod f).retro = s.retro := rfl
@[simp] theorem State.timeMod_fus (f : TimeSt → TimeSt) : (s.timeMod f).fus = s.fus := rfl
@[simp] theorem State.timeMod_cex (f : TimeSt → TimeSt) : (s.timeMod f).cex = s.cex := rfl
@[simp] theorem State.timeMod_slv (f : TimeSt → TimeSt) : (s.timeMod f).slv = s.slv := rfl
@[simp] theorem State.timeMod_net (f : TimeSt → TimeSt) : (s.timeMod f).net = s.net := rfl
@[simp] theorem State.timeMod_red (f : TimeSt → TimeSt) : (s.timeMod f).red = s.red := rfl
@[simp] theorem State.timeMod_saf (f : TimeSt → TimeSt) : (s.timeMod f).saf = s.saf := rfl
@[simp] theorem State.timeMod_gns (f : TimeSt → TimeSt) : (s.timeMod f).gns = s.gns := rfl
@[simp] theorem State.timeMod_can (f : TimeSt → TimeSt) : (s.timeMod f).can = s.can := rfl
@[simp] theorem State.timeMod_sdf (f : TimeSt → TimeSt) : (s.timeMod f).sdf = s.sdf := rfl
@[simp] theorem State.timeMod_lgc (f : TimeSt → TimeSt) : (s.timeMod f).lgc = s.lgc := rfl
@[simp] theorem State.timeMod_dia (f : TimeSt → TimeSt) : (s.timeMod f).dia = s.dia := rfl
@[simp] theorem State.timeMod_pnl (f : TimeSt → TimeSt) : (s.timeMod f).pnl = s.pnl := rfl
@[simp] theorem State.timeMod_yd (f : TimeSt → TimeSt) : (s.timeMod f).yd = s.yd := rfl
@[simp] theorem State.timeMod_reg (f : TimeSt → TimeSt) (j : Nat) : (s.timeMod f).reg j = s.reg j := rfl
@[simp] theorem State.timeMod_fget (f : TimeSt → TimeSt) (g : Fld) : (s.timeMod f).fget g = s.fget g := rfl
@[simp] theorem State.timeMod_rd8 (f : TimeSt → TimeSt) (j : Nat) : (s.timeMod f).rd8 j = s.rd8 j := rfl

/-! ### gnsMod -/

@[simp] theorem State.gnsMod_pending (f : GnsSt → GnsSt) : (s.gnsMod f).pending = s.pending := rfl
@[simp] theorem State.gnsMod_out (f : GnsSt → GnsSt) : (s.gnsMod f).out = s.out := rfl
@[simp] theorem State.gnsMod_free (f : GnsSt → GnsSt) : (s.gnsMod f).free = s.free := rfl
@[simp] theorem State.gnsMod_pwr (f : GnsSt → GnsSt) : (s.gnsMod f).pwr = s.pwr := rfl
@[simp] theorem State.gnsMod_op (f : GnsSt → GnsSt) : (s.gnsMod f).op = s.op := rfl
@[simp] theorem State.gnsMod_role (f : GnsSt → GnsSt) : (s.gnsMod f).role = s.role := rfl
@[simp] theorem State.gnsMod_regs (f : GnsSt → GnsSt) : (s.gnsMod f).regs = s.regs := rfl
@[simp] theorem State.gnsMod_mem (f : GnsSt → GnsSt) : (s.gnsMod f).mem = s.mem := rfl
@[simp] theorem State.gnsMod_time (f : GnsSt → GnsSt) : (s.gnsMod f).time = s.time := rfl
@[simp] theorem State.gnsMod_cfg (f : GnsSt → GnsSt) : (s.gnsMod f).cfg = s.cfg := rfl
@[simp] theorem State.gnsMod_flash (f : GnsSt → GnsSt) : (s.gnsMod f).flash = s.flash := rfl
@[simp] theorem State.gnsMod_hif (f : GnsSt → GnsSt) : (s.gnsMod f).hif = s.hif := rfl
@[simp] theorem State.gnsMod_sys (f : GnsSt → GnsSt) : (s.gnsMod f).sys = s.sys := rfl
@[simp] theorem State.gnsMod_d0 (f : GnsSt → GnsSt) : (s.gnsMod f).d0 = s.d0 := rfl
@[simp] theorem State.gnsMod_fch (f : GnsSt → GnsSt) : (s.gnsMod f).fch = s.fch := rfl
@[simp] theorem State.gnsMod_alarms (f : GnsSt → GnsSt) : (s.gnsMod f).alarms = s.alarms := rfl
@[simp] theorem State.gnsMod_diaF (f : GnsSt → GnsSt) : (s.gnsMod f).diaF = s.diaF := rfl
@[simp] theorem State.gnsMod_recd (f : GnsSt → GnsSt) : (s.gnsMod f).recd = s.recd := rfl
@[simp] theorem State.gnsMod_ctx (f : GnsSt → GnsSt) : (s.gnsMod f).ctx = s.ctx := rfl
@[simp] theorem State.gnsMod_retro (f : GnsSt → GnsSt) : (s.gnsMod f).retro = s.retro := rfl
@[simp] theorem State.gnsMod_fus (f : GnsSt → GnsSt) : (s.gnsMod f).fus = s.fus := rfl
@[simp] theorem State.gnsMod_cex (f : GnsSt → GnsSt) : (s.gnsMod f).cex = s.cex := rfl
@[simp] theorem State.gnsMod_slv (f : GnsSt → GnsSt) : (s.gnsMod f).slv = s.slv := rfl
@[simp] theorem State.gnsMod_net (f : GnsSt → GnsSt) : (s.gnsMod f).net = s.net := rfl
@[simp] theorem State.gnsMod_red (f : GnsSt → GnsSt) : (s.gnsMod f).red = s.red := rfl
@[simp] theorem State.gnsMod_saf (f : GnsSt → GnsSt) : (s.gnsMod f).saf = s.saf := rfl
@[simp] theorem State.gnsMod_gns (f : GnsSt → GnsSt) : (s.gnsMod f).gns = f s.gns := rfl
@[simp] theorem State.gnsMod_can (f : GnsSt → GnsSt) : (s.gnsMod f).can = s.can := rfl
@[simp] theorem State.gnsMod_sdf (f : GnsSt → GnsSt) : (s.gnsMod f).sdf = s.sdf := rfl
@[simp] theorem State.gnsMod_lgc (f : GnsSt → GnsSt) : (s.gnsMod f).lgc = s.lgc := rfl
@[simp] theorem State.gnsMod_dia (f : GnsSt → GnsSt) : (s.gnsMod f).dia = s.dia := rfl
@[simp] theorem State.gnsMod_pnl (f : GnsSt → GnsSt) : (s.gnsMod f).pnl = s.pnl := rfl
@[simp] theorem State.gnsMod_yd (f : GnsSt → GnsSt) : (s.gnsMod f).yd = s.yd := rfl
@[simp] theorem State.gnsMod_reg (f : GnsSt → GnsSt) (j : Nat) : (s.gnsMod f).reg j = s.reg j := rfl
@[simp] theorem State.gnsMod_fget (f : GnsSt → GnsSt) (g : Fld) : (s.gnsMod f).fget g = s.fget g := rfl
@[simp] theorem State.gnsMod_rd8 (f : GnsSt → GnsSt) (j : Nat) : (s.gnsMod f).rd8 j = s.rd8 j := rfl

/-! ### diaMod -/

@[simp] theorem State.diaMod_pending (f : DiaSt → DiaSt) : (s.diaMod f).pending = s.pending := rfl
@[simp] theorem State.diaMod_out (f : DiaSt → DiaSt) : (s.diaMod f).out = s.out := rfl
@[simp] theorem State.diaMod_free (f : DiaSt → DiaSt) : (s.diaMod f).free = s.free := rfl
@[simp] theorem State.diaMod_pwr (f : DiaSt → DiaSt) : (s.diaMod f).pwr = s.pwr := rfl
@[simp] theorem State.diaMod_op (f : DiaSt → DiaSt) : (s.diaMod f).op = s.op := rfl
@[simp] theorem State.diaMod_role (f : DiaSt → DiaSt) : (s.diaMod f).role = s.role := rfl
@[simp] theorem State.diaMod_regs (f : DiaSt → DiaSt) : (s.diaMod f).regs = s.regs := rfl
@[simp] theorem State.diaMod_mem (f : DiaSt → DiaSt) : (s.diaMod f).mem = s.mem := rfl
@[simp] theorem State.diaMod_time (f : DiaSt → DiaSt) : (s.diaMod f).time = s.time := rfl
@[simp] theorem State.diaMod_cfg (f : DiaSt → DiaSt) : (s.diaMod f).cfg = s.cfg := rfl
@[simp] theorem State.diaMod_flash (f : DiaSt → DiaSt) : (s.diaMod f).flash = s.flash := rfl
@[simp] theorem State.diaMod_hif (f : DiaSt → DiaSt) : (s.diaMod f).hif = s.hif := rfl
@[simp] theorem State.diaMod_sys (f : DiaSt → DiaSt) : (s.diaMod f).sys = s.sys := rfl
@[simp] theorem State.diaMod_d0 (f : DiaSt → DiaSt) : (s.diaMod f).d0 = s.d0 := rfl
@[simp] theorem State.diaMod_fch (f : DiaSt → DiaSt) : (s.diaMod f).fch = s.fch := rfl
@[simp] theorem State.diaMod_alarms (f : DiaSt → DiaSt) : (s.diaMod f).alarms = s.alarms := rfl
@[simp] theorem State.diaMod_diaF (f : DiaSt → DiaSt) : (s.diaMod f).diaF = s.diaF := rfl
@[simp] theorem State.diaMod_recd (f : DiaSt → DiaSt) : (s.diaMod f).recd = s.recd := rfl
@[simp] theorem State.diaMod_ctx (f : DiaSt → DiaSt) : (s.diaMod f).ctx = s.ctx := rfl
@[simp] theorem State.diaMod_retro (f : DiaSt → DiaSt) : (s.diaMod f).retro = s.retro := rfl
@[simp] theorem State.diaMod_fus (f : DiaSt → DiaSt) : (s.diaMod f).fus = s.fus := rfl
@[simp] theorem State.diaMod_cex (f : DiaSt → DiaSt) : (s.diaMod f).cex = s.cex := rfl
@[simp] theorem State.diaMod_slv (f : DiaSt → DiaSt) : (s.diaMod f).slv = s.slv := rfl
@[simp] theorem State.diaMod_net (f : DiaSt → DiaSt) : (s.diaMod f).net = s.net := rfl
@[simp] theorem State.diaMod_red (f : DiaSt → DiaSt) : (s.diaMod f).red = s.red := rfl
@[simp] theorem State.diaMod_saf (f : DiaSt → DiaSt) : (s.diaMod f).saf = s.saf := rfl
@[simp] theorem State.diaMod_gns (f : DiaSt → DiaSt) : (s.diaMod f).gns = s.gns := rfl
@[simp] theorem State.diaMod_can (f : DiaSt → DiaSt) : (s.diaMod f).can = s.can := rfl
@[simp] theorem State.diaMod_sdf (f : DiaSt → DiaSt) : (s.diaMod f).sdf = s.sdf := rfl
@[simp] theorem State.diaMod_lgc (f : DiaSt → DiaSt) : (s.diaMod f).lgc = s.lgc := rfl
@[simp] theorem State.diaMod_dia (f : DiaSt → DiaSt) : (s.diaMod f).dia = f s.dia := rfl
@[simp] theorem State.diaMod_pnl (f : DiaSt → DiaSt) : (s.diaMod f).pnl = s.pnl := rfl
@[simp] theorem State.diaMod_yd (f : DiaSt → DiaSt) : (s.diaMod f).yd = s.yd := rfl
@[simp] theorem State.diaMod_reg (f : DiaSt → DiaSt) (j : Nat) : (s.diaMod f).reg j = s.reg j := rfl
@[simp] theorem State.diaMod_fget (f : DiaSt → DiaSt) (g : Fld) : (s.diaMod f).fget g = s.fget g := rfl
@[simp] theorem State.diaMod_rd8 (f : DiaSt → DiaSt) (j : Nat) : (s.diaMod f).rd8 j = s.rd8 j := rfl

/-! ### lgcMod -/

@[simp] theorem State.lgcMod_pending (f : LgcSt → LgcSt) : (s.lgcMod f).pending = s.pending := rfl
@[simp] theorem State.lgcMod_out (f : LgcSt → LgcSt) : (s.lgcMod f).out = s.out := rfl
@[simp] theorem State.lgcMod_free (f : LgcSt → LgcSt) : (s.lgcMod f).free = s.free := rfl
@[simp] theorem State.lgcMod_pwr (f : LgcSt → LgcSt) : (s.lgcMod f).pwr = s.pwr := rfl
@[simp] theorem State.lgcMod_op (f : LgcSt → LgcSt) : (s.lgcMod f).op = s.op := rfl
@[simp] theorem State.lgcMod_role (f : LgcSt → LgcSt) : (s.lgcMod f).role = s.role := rfl
@[simp] theorem State.lgcMod_regs (f : LgcSt → LgcSt) : (s.lgcMod f).regs = s.regs := rfl
@[simp] theorem State.lgcMod_mem (f : LgcSt → LgcSt) : (s.lgcMod f).mem = s.mem := rfl
@[simp] theorem State.lgcMod_time (f : LgcSt → LgcSt) : (s.lgcMod f).time = s.time := rfl
@[simp] theorem State.lgcMod_cfg (f : LgcSt → LgcSt) : (s.lgcMod f).cfg = s.cfg := rfl
@[simp] theorem State.lgcMod_flash (f : LgcSt → LgcSt) : (s.lgcMod f).flash = s.flash := rfl
@[simp] theorem State.lgcMod_hif (f : LgcSt → LgcSt) : (s.lgcMod f).hif = s.hif := rfl
@[simp] theorem State.lgcMod_sys (f : LgcSt → LgcSt) : (s.lgcMod f).sys = s.sys := rfl
@[simp] theorem State.lgcMod_d0 (f : LgcSt → LgcSt) : (s.lgcMod f).d0 = s.d0 := rfl
@[simp] theorem State.lgcMod_fch (f : LgcSt → LgcSt) : (s.lgcMod f).fch = s.fch := rfl
@[simp] theorem State.lgcMod_alarms (f : LgcSt → LgcSt) : (s.lgcMod f).alarms = s.alarms := rfl
@[simp] theorem State.lgcMod_diaF (f : LgcSt → LgcSt) : (s.lgcMod f).diaF = s.diaF := rfl
@[simp] theorem State.lgcMod_recd (f : LgcSt → LgcSt) : (s.lgcMod f).recd = s.recd := rfl
@[simp] theorem State.lgcMod_ctx (f : LgcSt → LgcSt) : (s.lgcMod f).ctx = s.ctx := rfl
@[simp] theorem State.lgcMod_retro (f : LgcSt → LgcSt) : (s.lgcMod f).retro = s.retro := rfl
@[simp] theorem State.lgcMod_fus (f : LgcSt → LgcSt) : (s.lgcMod f).fus = s.fus := rfl
@[simp] theorem State.lgcMod_cex (f : LgcSt → LgcSt) : (s.lgcMod f).cex = s.cex := rfl
@[simp] theorem State.lgcMod_slv (f : LgcSt → LgcSt) : (s.lgcMod f).slv = s.slv := rfl
@[simp] theorem State.lgcMod_net (f : LgcSt → LgcSt) : (s.lgcMod f).net = s.net := rfl
@[simp] theorem State.lgcMod_red (f : LgcSt → LgcSt) : (s.lgcMod f).red = s.red := rfl
@[simp] theorem State.lgcMod_saf (f : LgcSt → LgcSt) : (s.lgcMod f).saf = s.saf := rfl
@[simp] theorem State.lgcMod_gns (f : LgcSt → LgcSt) : (s.lgcMod f).gns = s.gns := rfl
@[simp] theorem State.lgcMod_can (f : LgcSt → LgcSt) : (s.lgcMod f).can = s.can := rfl
@[simp] theorem State.lgcMod_sdf (f : LgcSt → LgcSt) : (s.lgcMod f).sdf = s.sdf := rfl
@[simp] theorem State.lgcMod_lgc (f : LgcSt → LgcSt) : (s.lgcMod f).lgc = f s.lgc := rfl
@[simp] theorem State.lgcMod_dia (f : LgcSt → LgcSt) : (s.lgcMod f).dia = s.dia := rfl
@[simp] theorem State.lgcMod_pnl (f : LgcSt → LgcSt) : (s.lgcMod f).pnl = s.pnl := rfl
@[simp] theorem State.lgcMod_yd (f : LgcSt → LgcSt) : (s.lgcMod f).yd = s.yd := rfl
@[simp] theorem State.lgcMod_reg (f : LgcSt → LgcSt) (j : Nat) : (s.lgcMod f).reg j = s.reg j := rfl
@[simp] theorem State.lgcMod_fget (f : LgcSt → LgcSt) (g : Fld) : (s.lgcMod f).fget g = s.fget g := rfl
@[simp] theorem State.lgcMod_rd8 (f : LgcSt → LgcSt) (j : Nat) : (s.lgcMod f).rd8 j = s.rd8 j := rfl

/-! ### slvMod -/

@[simp] theorem State.slvMod_pending (f : SlvSt → SlvSt) : (s.slvMod f).pending = s.pending := rfl
@[simp] theorem State.slvMod_out (f : SlvSt → SlvSt) : (s.slvMod f).out = s.out := rfl
@[simp] theorem State.slvMod_free (f : SlvSt → SlvSt) : (s.slvMod f).free = s.free := rfl
@[simp] theorem State.slvMod_pwr (f : SlvSt → SlvSt) : (s.slvMod f).pwr = s.pwr := rfl
@[simp] theorem State.slvMod_op (f : SlvSt → SlvSt) : (s.slvMod f).op = s.op := rfl
@[simp] theorem State.slvMod_role (f : SlvSt → SlvSt) : (s.slvMod f).role = s.role := rfl
@[simp] theorem State.slvMod_regs (f : SlvSt → SlvSt) : (s.slvMod f).regs = s.regs := rfl
@[simp] theorem State.slvMod_mem (f : SlvSt → SlvSt) : (s.slvMod f).mem = s.mem := rfl
@[simp] theorem State.slvMod_time (f : SlvSt → SlvSt) : (s.slvMod f).time = s.time := rfl
@[simp] theorem State.slvMod_cfg (f : SlvSt → SlvSt) : (s.slvMod f).cfg = s.cfg := rfl
@[simp] theorem State.slvMod_flash (f : SlvSt → SlvSt) : (s.slvMod f).flash = s.flash := rfl
@[simp] theorem State.slvMod_hif (f : SlvSt → SlvSt) : (s.slvMod f).hif = s.hif := rfl
@[simp] theorem State.slvMod_sys (f : SlvSt → SlvSt) : (s.slvMod f).sys = s.sys := rfl
@[simp] theorem State.slvMod_d0 (f : SlvSt → SlvSt) : (s.slvMod f).d0 = s.d0 := rfl
@[simp] theorem State.slvMod_fch (f : SlvSt → SlvSt) : (s.slvMod f).fch = s.fch := rfl
@[simp] theorem State.slvMod_alarms (f : SlvSt → SlvSt) : (s.slvMod f).alarms = s.alarms := rfl
@[simp] theorem State.slvMod_diaF (f : SlvSt → SlvSt) : (s.slvMod f).diaF = s.diaF := rfl
@[simp] theorem State.slvMod_recd (f : SlvSt → SlvSt) : (s.slvMod f).recd = s.recd := rfl
@[simp] theorem State.slvMod_ctx (f : SlvSt → SlvSt) : (s.slvMod f).ctx = s.ctx := rfl
@[simp] theorem State.slvMod_retro (f : SlvSt → SlvSt) : (s.slvMod f).retro = s.retro := rfl
@[simp] theorem State.slvMod_fus (f : SlvSt → SlvSt) : (s.slvMod f).fus = s.fus := rfl
@[simp] theorem State.slvMod_cex (f : SlvSt → SlvSt) : (s.slvMod f).cex = s.cex := rfl
@[simp] theorem State.slvMod_slv (f : SlvSt → SlvSt) : (s.slvMod f).slv = f s.slv := rfl
@[simp] theorem State.slvMod_net (f : SlvSt → SlvSt) : (s.slvMod f).net = s.net := rfl
@[simp] theorem State.slvMod_red (f : SlvSt → SlvSt) : (s.slvMod f).red = s.red := rfl
@[simp] theorem State.slvMod_saf (f : SlvSt → SlvSt) : (s.slvMod f).saf = s.saf := rfl
@[simp] theorem State.slvMod_gns (f : SlvSt → SlvSt) : (s.slvMod f).gns = s.gns := rfl
@[simp] theorem State.slvMod_can (f : SlvSt → SlvSt) : (s.slvMod f).can = s.can := rfl
@[simp] theorem State.slvMod_sdf (f : SlvSt → SlvSt) : (s.slvMod f).sdf = s.sdf := rfl
@[simp] theorem State.slvMod_lgc (f : SlvSt → SlvSt) : (s.slvMod f).lgc = s.lgc := rfl
@[simp] theorem State.slvMod_dia (f : SlvSt → SlvSt) : (s.slvMod f).dia = s.dia := rfl
@[simp] theorem State.slvMod_pnl (f : SlvSt → SlvSt) : (s.slvMod f).pnl = s.pnl := rfl
@[simp] theorem State.slvMod_yd (f : SlvSt → SlvSt) : (s.slvMod f).yd = s.yd := rfl
@[simp] theorem State.slvMod_reg (f : SlvSt → SlvSt) (j : Nat) : (s.slvMod f).reg j = s.reg j := rfl
@[simp] theorem State.slvMod_fget (f : SlvSt → SlvSt) (g : Fld) : (s.slvMod f).fget g = s.fget g := rfl
@[simp] theorem State.slvMod_rd8 (f : SlvSt → SlvSt) (j : Nat) : (s.slvMod f).rd8 j = s.rd8 j := rfl

/-! ### cexMod -/

@[simp] theorem State.cexMod_pending (f : CexSt → CexSt) : (s.cexMod f).pending = s.pending := rfl
@[simp] theorem State.cexMod_out (f : CexSt → CexSt) : (s.cexMod f).out = s.out := rfl
@[simp] theorem State.cexMod_free (f : CexSt → CexSt) : (s.cexMod f).free = s.free := rfl
@[simp] theorem State.cexMod_pwr (f : CexSt → CexSt) : (s.cexMod f).pwr = s.pwr := rfl
@[simp] theorem State.cexMod_op (f : CexSt → CexSt) : (s.cexMod f).op = s.op := rfl
@[simp] theorem State.cexMod_role (f : CexSt → CexSt) : (s.cexMod f).role = s.role := rfl
@[simp] theorem State.cexMod_regs (f : CexSt → CexSt) : (s.cexMod f).regs = s.regs := rfl
@[simp] theorem State.cexMod_mem (f : CexSt → CexSt) : (s.cexMod f).mem = s.mem := rfl
@[simp] theorem State.cexMod_time (f : CexSt → CexSt) : (s.cexMod f).time = s.time := rfl
@[simp] theorem State.cexMod_cfg (f : CexSt → CexSt) : (s.cexMod f).cfg = s.cfg := rfl
@[simp] theorem State.cexMod_flash (f : CexSt → CexSt) : (s.cexMod f).flash = s.flash := rfl
@[simp] theorem State.cexMod_hif (f : CexSt → CexSt) : (s.cexMod f).hif = s.hif := rfl
@[simp] theorem State.cexMod_sys (f : CexSt → CexSt) : (s.cexMod f).sys = s.sys := rfl
@[simp] theorem State.cexMod_d0 (f : CexSt → CexSt) : (s.cexMod f).d0 = s.d0 := rfl
@[simp] theorem State.cexMod_fch (f : CexSt → CexSt) : (s.cexMod f).fch = s.fch := rfl
@[simp] theorem State.cexMod_alarms (f : CexSt → CexSt) : (s.cexMod f).alarms = s.alarms := rfl
@[simp] theorem State.cexMod_diaF (f : CexSt → CexSt) : (s.cexMod f).diaF = s.diaF := rfl
@[simp] theorem State.cexMod_recd (f : CexSt → CexSt) : (s.cexMod f).recd = s.recd := rfl
@[simp] theorem State.cexMod_ctx (f : CexSt → CexSt) : (s.cexMod f).ctx = s.ctx := rfl
@[simp] theorem State.cexMod_retro (f : CexSt → CexSt) : (s.cexMod f).retro = s.retro := rfl
@[simp] theorem State.cexMod_fus (f : CexSt → CexSt) : (s.cexMod f).fus = s.fus := rfl
@[simp] theorem State.cexMod_cex (f : CexSt → CexSt) : (s.cexMod f).cex = f s.cex := rfl
@[simp] theorem State.cexMod_slv (f : CexSt → CexSt) : (s.cexMod f).slv = s.slv := rfl
@[simp] theorem State.cexMod_net (f : CexSt → CexSt) : (s.cexMod f).net = s.net := rfl
@[simp] theorem State.cexMod_red (f : CexSt → CexSt) : (s.cexMod f).red = s.red := rfl
@[simp] theorem State.cexMod_saf (f : CexSt → CexSt) : (s.cexMod f).saf = s.saf := rfl
@[simp] theorem State.cexMod_gns (f : CexSt → CexSt) : (s.cexMod f).gns = s.gns := rfl
@[simp] theorem State.cexMod_can (f : CexSt → CexSt) : (s.cexMod f).can = s.can := rfl
@[simp] theorem State.cexMod_sdf (f : CexSt → CexSt) : (s.cexMod f).sdf = s.sdf := rfl
@[simp] theorem State.cexMod_lgc (f : CexSt → CexSt) : (s.cexMod f).lgc = s.lgc := rfl
@[simp] theorem State.cexMod_dia (f : CexSt → CexSt) : (s.cexMod f).dia = s.dia := rfl
@[simp] theorem State.cexMod_pnl (f : CexSt → CexSt) : (s.cexMod f).pnl = s.pnl := rfl
@[simp] theorem State.cexMod_yd (f : CexSt → CexSt) : (s.cexMod f).yd = s.yd := rfl
@[simp] theorem State.cexMod_reg (f : CexSt → CexSt) (j : Nat) : (s.cexMod f).reg j = s.reg j := rfl
@[simp] theorem State.cexMod_fget (f : CexSt → CexSt) (g : Fld) : (s.cexMod f).fget g = s.fget g := rfl
@[simp] theorem State.cexMod_rd8 (f : CexSt → CexSt) (j : Nat) : (s.cexMod f).rd8 j = s.rd8 j := rfl

/-! ### pnlMod -/

@[simp] theorem State.pnlMod_pending (f : PnlSt → PnlSt) : (s.pnlMod f).pending = s.pending := rfl
@[simp] theorem State.pnlMod_out (f : PnlSt → PnlSt) : (s.pnlMod f).out = s.out := rfl
@[simp] theorem State.pnlMod_free (f : PnlSt → PnlSt) : (s.pnlMod f).free = s.free := rfl
@[simp] theorem State.pnlMod_pwr (f : PnlSt → PnlSt) : (s.pnlMod f).pwr = s.pwr := rfl
@[simp] theorem State.pnlMod_op (f : PnlSt → PnlSt) : (s.pnlMod f).op = s.op := rfl
@[simp] theorem State.pnlMod_role (f : PnlSt → PnlSt) : (s.pnlMod f).role = s.role := rfl
@[simp] theorem State.pnlMod_regs (f : PnlSt → PnlSt) : (s.pnlMod f).regs = s.regs := rfl
@[simp] theorem State.pnlMod_mem (f : PnlSt → PnlSt) : (s.pnlMod f).mem = s.mem := rfl
@[simp] theorem State.pnlMod_time (f : PnlSt → PnlSt) : (s.pnlMod f).time = s.time := rfl
@[simp] theorem State.pnlMod_cfg (f : PnlSt → PnlSt) : (s.pnlMod f).cfg = s.cfg := rfl
@[simp] theorem State.pnlMod_flash (f : PnlSt → PnlSt) : (s.pnlMod f).flash = s.flash := rfl
@[simp] theorem State.pnlMod_hif (f : PnlSt → PnlSt) : (s.pnlMod f).hif = s.hif := rfl
@[simp] theorem State.pnlMod_sys (f : PnlSt → PnlSt) : (s.pnlMod f).sys = s.sys := rfl
@[simp] theorem State.pnlMod_d0 (f : PnlSt → PnlSt) : (s.pnlMod f).d0 = s.d0 := rfl
@[simp] theorem State.pnlMod_fch (f : PnlSt → PnlSt) : (s.pnlMod f).fch = s.fch := rfl
@[simp] theorem State.pnlMod_alarms (f : PnlSt → PnlSt) : (s.pnlMod f).alarms = s.alarms := rfl
@[simp] theorem State.pnlMod_diaF (f : PnlSt → PnlSt) : (s.pnlMod f).diaF = s.diaF := rfl
@[simp] theorem State.pnlMod_recd (f : PnlSt → PnlSt) : (s.pnlMod f).recd = s.recd := rfl
@[simp] theorem State.pnlMod_ctx (f : PnlSt → PnlSt) : (s.pnlMod f).ctx = s.ctx := rfl
@[simp] theorem State.pnlMod_retro (f : PnlSt → PnlSt) : (s.pnlMod f).retro = s.retro := rfl
@[simp] theorem State.pnlMod_fus (f : PnlSt → PnlSt) : (s.pnlMod f).fus = s.fus := rfl
@[simp] theorem State.pnlMod_cex (f : PnlSt → PnlSt) : (s.pnlMod f).cex = s.cex := rfl
@[simp] theorem State.pnlMod_slv (f : PnlSt → PnlSt) : (s.pnlMod f).slv = s.slv := rfl
@[simp] theorem State.pnlMod_net (f : PnlSt → PnlSt) : (s.pnlMod f).net = s.net := rfl
@[simp] theorem State.pnlMod_red (f : PnlSt → PnlSt) : (s.pnlMod f).red = s.red := rfl
@[simp] theorem State.pnlMod_saf (f : PnlSt → PnlSt) : (s.pnlMod f).saf = s.saf := rfl
@[simp] theorem State.pnlMod_gns (f : PnlSt → PnlSt) : (s.pnlMod f).gns = s.gns := rfl
@[simp] theorem State.pnlMod_can (f : PnlSt → PnlSt) : (s.pnlMod f).can = s.can := rfl
@[simp] theorem State.pnlMod_sdf (f : PnlSt → PnlSt) : (s.pnlMod f).sdf = s.sdf := rfl
@[simp] theorem State.pnlMod_lgc (f : PnlSt → PnlSt) : (s.pnlMod f).lgc = s.lgc := rfl
@[simp] theorem State.pnlMod_dia (f : PnlSt → PnlSt) : (s.pnlMod f).dia = s.dia := rfl
@[simp] theorem State.pnlMod_pnl (f : PnlSt → PnlSt) : (s.pnlMod f).pnl = f s.pnl := rfl
@[simp] theorem State.pnlMod_yd (f : PnlSt → PnlSt) : (s.pnlMod f).yd = s.yd := rfl
@[simp] theorem State.pnlMod_reg (f : PnlSt → PnlSt) (j : Nat) : (s.pnlMod f).reg j = s.reg j := rfl
@[simp] theorem State.pnlMod_fget (f : PnlSt → PnlSt) (g : Fld) : (s.pnlMod f).fget g = s.fget g := rfl
@[simp] theorem State.pnlMod_rd8 (f : PnlSt → PnlSt) (j : Nat) : (s.pnlMod f).rd8 j = s.rd8 j := rfl

/-! ### sysMod -/

@[simp] theorem State.sysMod_pending (f : SysSt → SysSt) : (s.sysMod f).pending = s.pending := rfl
@[simp] theorem State.sysMod_out (f : SysSt → SysSt) : (s.sysMod f).out = s.out := rfl
@[simp] theorem State.sysMod_free (f : SysSt → SysSt) : (s.sysMod f).free = s.free := rfl
@[simp] theorem State.sysMod_pwr (f : SysSt → SysSt) : (s.sysMod f).pwr = s.pwr := rfl
@[simp] theorem State.sysMod_op (f : SysSt → SysSt) : (s.sysMod f).op = s.op := rfl
@[simp] theorem State.sysMod_role (f : SysSt → SysSt) : (s.sysMod f).role = s.role := rfl
@[simp] theorem State.sysMod_regs (f : SysSt → SysSt) : (s.sysMod f).regs = s.regs := rfl
@[simp] theorem State.sysMod_mem (f : SysSt → SysSt) : (s.sysMod f).mem = s.mem := rfl
@[simp] theorem State.sysMod_time (f : SysSt → SysSt) : (s.sysMod f).time = s.time := rfl
@[simp] theorem State.sysMod_cfg (f : SysSt → SysSt) : (s.sysMod f).cfg = s.cfg := rfl
@[simp] theorem State.sysMod_flash (f : SysSt → SysSt) : (s.sysMod f).flash = s.flash := rfl
@[simp] theorem State.sysMod_hif (f : SysSt → SysSt) : (s.sysMod f).hif = s.hif := rfl
@[simp] theorem State.sysMod_sys (f : SysSt → SysSt) : (s.sysMod f).sys = f s.sys := rfl
@[simp] theorem State.sysMod_d0 (f : SysSt → SysSt) : (s.sysMod f).d0 = s.d0 := rfl
@[simp] theorem State.sysMod_fch (f : SysSt → SysSt) : (s.sysMod f).fch = s.fch := rfl
@[simp] theorem State.sysMod_alarms (f : SysSt → SysSt) : (s.sysMod f).alarms = s.alarms := rfl
@[simp] theorem State.sysMod_diaF (f : SysSt → SysSt) : (s.sysMod f).diaF = s.diaF := rfl
@[simp] theorem State.sysMod_recd (f : SysSt → SysSt) : (s.sysMod f).recd = s.recd := rfl
@[simp] theorem State.sysMod_ctx (f : SysSt → SysSt) : (s.sysMod f).ctx = s.ctx := rfl
@[simp] theorem State.sysMod_retro (f : SysSt → SysSt) : (s.sysMod f).retro = s.retro := rfl
@[simp] theorem State.sysMod_fus (f : SysSt → SysSt) : (s.sysMod f).fus = s.fus := rfl
@[simp] theorem State.sysMod_cex (f : SysSt → SysSt) : (s.sysMod f).cex = s.cex := rfl
@[simp] theorem State.sysMod_slv (f : SysSt → SysSt) : (s.sysMod f).slv = s.slv := rfl
@[simp] theorem State.sysMod_net (f : SysSt → SysSt) : (s.sysMod f).net = s.net := rfl
@[simp] theorem State.sysMod_red (f : SysSt → SysSt) : (s.sysMod f).red = s.red := rfl
@[simp] theorem State.sysMod_saf (f : SysSt → SysSt) : (s.sysMod f).saf = s.saf := rfl
@[simp] theorem State.sysMod_gns (f : SysSt → SysSt) : (s.sysMod f).gns = s.gns := rfl
@[simp] theorem State.sysMod_can (f : SysSt → SysSt) : (s.sysMod f).can = s.can := rfl
@[simp] theorem State.sysMod_sdf (f : SysSt → SysSt) : (s.sysMod f).sdf = s.sdf := rfl
@[simp] theorem State.sysMod_lgc (f : SysSt → SysSt) : (s.sysMod f).lgc = s.lgc := rfl
@[simp] theorem State.sysMod_dia (f : SysSt → SysSt) : (s.sysMod f).dia = s.dia := rfl
@[simp] theorem State.sysMod_pnl (f : SysSt → SysSt) : (s.sysMod f).pnl = s.pnl := rfl
@[simp] theorem State.sysMod_yd (f : SysSt → SysSt) : (s.sysMod f).yd = s.yd := rfl
@[simp] theorem State.sysMod_reg (f : SysSt → SysSt) (j : Nat) : (s.sysMod f).reg j = s.reg j := rfl
@[simp] theorem State.sysMod_fget (f : SysSt → SysSt) (g : Fld) : (s.sysMod f).fget g = s.fget g := rfl
@[simp] theorem State.sysMod_rd8 (f : SysSt → SysSt) (j : Nat) : (s.sysMod f).rd8 j = s.rd8 j := rfl

/-! ### redMod -/

@[simp] theorem State.redMod_pending (f : RedSt → RedSt) : (s.redMod f).pending = s.pending := rfl
@[simp] theorem State.redMod_out (f : RedSt → RedSt) : (s.redMod f).out = s.out := rfl
@[simp] theorem State.redMod_free (f : RedSt → RedSt) : (s.redMod f).free = s.free := rfl
@[simp] theorem State.redMod_pwr (f : RedSt → RedSt) : (s.redMod f).pwr = s.pwr := rfl
@[simp] theorem State.redMod_op (f : RedSt → RedSt) : (s.redMod f).op = s.op := rfl
@[simp] theorem State.redMod_role (f : RedSt → RedSt) : (s.redMod f).role = s.role := rfl
@[simp] theorem State.redMod_regs (f : RedSt → RedSt) : (s.redMod f).regs = s.regs := rfl
@[simp] theorem State.redMod_mem (f : RedSt → RedSt) : (s.redMod f).mem = s.mem := rfl
@[simp] theorem State.redMod_time (f : RedSt → RedSt) : (s.redMod f).time = s.time := rfl
@[simp] theorem State.redMod_cfg (f : RedSt → RedSt) : (s.redMod f).cfg = s.cfg := rfl
@[simp] theorem State.redMod_flash (f : RedSt → RedSt) : (s.redMod f).flash = s.flash := rfl
@[simp] theorem State.redMod_hif (f : RedSt → RedSt) : (s.redMod f).hif = s.hif := rfl
@[simp] theorem State.redMod_sys (f : RedSt → RedSt) : (s.redMod f).sys = s.sys := rfl
@[simp] theorem State.redMod_d0 (f : RedSt → RedSt) : (s.redMod f).d0 = s.d0 := rfl
@[simp] theorem State.redMod_fch (f : RedSt → RedSt) : (s.redMod f).fch = s.fch := rfl
@[simp] theorem State.redMod_alarms (f : RedSt → RedSt) : (s.redMod f).alarms = s.alarms := rfl
@[simp] theorem State.redMod_diaF (f : RedSt → RedSt) : (s.redMod f).diaF = s.diaF := rfl
@[simp] theorem State.redMod_recd (f : RedSt → RedSt) : (s.redMod f).recd = s.recd := rfl
@[simp] theorem State.redMod_ctx (f : RedSt → RedSt) : (s.redMod f).ctx = s.ctx := rfl
@[simp] theorem State.redMod_retro (f : RedSt → RedSt) : (s.redMod f).retro = s.retro := rfl
@[simp] theorem State.redMod_fus (f : RedSt → RedSt) : (s.redMod f).fus = s.fus := rfl
@[simp] theorem State.redMod_cex (f : RedSt → RedSt) : (s.redMod f).cex = s.cex := rfl
@[simp] theorem State.redMod_slv (f : RedSt → RedSt) : (s.redMod f).slv = s.slv := rfl
@[simp] theorem State.redMod_net (f : RedSt → RedSt) : (s.redMod f).net = s.net := rfl
@[simp] theorem State.redMod_red (f : RedSt → RedSt) : (s.redMod f).red = f s.red := rfl
@[simp] theorem State.redMod_saf (f : RedSt → RedSt) : (s.redMod f).saf = s.saf := rfl
@[simp] theorem State.redMod_gns (f : RedSt → RedSt) : (s.redMod f).gns = s.gns := rfl
@[simp] theorem State.redMod_can (f : RedSt → RedSt) : (s.redMod f).can = s.can := rfl
@[simp] theorem State.redMod_sdf (f : RedSt → RedSt) : (s.redMod f).sdf = s.sdf := rfl
@[simp] theorem State.redMod_lgc (f : RedSt → RedSt) : (s.redMod f).lgc = s.lgc := rfl
@[simp] theorem State.redMod_dia (f : RedSt → RedSt) : (s.redMod f).dia = s.dia := rfl
@[simp] theorem State.redMod_pnl (f : RedSt → RedSt) : (s.redMod f).pnl = s.pnl := rfl
@[simp] theorem State.redMod_yd (f : RedSt → RedSt) : (s.redMod f).yd = s.yd := rfl
@[simp] theorem State.redMod_reg (f : RedSt → RedSt) (j : Nat) : (s.redMod f).reg j = s.reg j := rfl
@[simp] theorem State.redMod_fget (f : RedSt → RedSt) (g : Fld) : (s.redMod f).fget g = s.fget g := rfl
@[simp] theorem State.redMod_rd8 (f : RedSt → RedSt) (j : Nat) : (s.redMod f).rd8 j = s.rd8 j := rfl

/-! ### safMod -/

@[simp] theorem State.safMod_pending (f : SafSt → SafSt) : (s.safMod f).pending = s.pending := rfl
@[simp] theorem State.safMod_out (f : SafSt → SafSt) : (s.safMod f).out = s.out := rfl
@[simp] theorem State.safMod_free (f : SafSt → SafSt) : (s.safMod f).free = s.free := rfl
@[simp] theorem State.safMod_pwr (f : SafSt → SafSt) : (s.safMod f).pwr = s.pwr := rfl
@[simp] theorem State.safMod_op (f : SafSt → SafSt) : (s.safMod f).op = s.op := rfl
@[simp] theorem State.safMod_role (f : SafSt → SafSt) : (s.safMod f).role = s.role := rfl
@[simp] theorem State.safMod_regs (f : SafSt → SafSt) : (s.safMod f).regs = s.regs := rfl
@[simp] theorem State.safMod_mem (f : SafSt → SafSt) : (s.safMod f).mem = s.mem := rfl
@[simp] theorem State.safMod_time (f : SafSt → SafSt) : (s.safMod f).time = s.time := rfl
@[simp] theorem State.safMod_cfg (f : SafSt → SafSt) : (s.safMod f).cfg = s.cfg := rfl
@[simp] theorem State.safMod_flash (f : SafSt → SafSt) : (s.safMod f).flash = s.flash := rfl
@[simp] theorem State.safMod_hif (f : SafSt → SafSt) : (s.safMod f).hif = s.hif := rfl
@[simp] theorem State.safMod_sys (f : SafSt → SafSt) : (s.safMod f).sys = s.sys := rfl
@[simp] theorem State.safMod_d0 (f : SafSt → SafSt) : (s.safMod f).d0 = s.d0 := rfl
@[simp] theorem State.safMod_fch (f : SafSt → SafSt) : (s.safMod f).fch = s.fch := rfl
@[simp] theorem State.safMod_alarms (f : SafSt → SafSt) : (s.safMod f).alarms = s.alarms := rfl
@[simp] theorem State.safMod_diaF (f : SafSt → SafSt) : (s.safMod f).diaF = s.diaF := rfl
@[simp] theorem State.safMod_recd (f : SafSt → SafSt) : (s.safMod f).recd = s.recd := rfl
@[simp] theorem State.safMod_ctx (f : SafSt → SafSt) : (s.safMod f).ctx = s.ctx := rfl
@[simp] theorem State.safMod_retro (f : SafSt → SafSt) : (s.safMod f).retro = s.retro := rfl
@[simp] theorem State.safMod_fus (f : SafSt → SafSt) : (s.safMod f).fus = s.fus := rfl
@[simp] theorem State.safMod_cex (f : SafSt → SafSt) : (s.safMod f).cex = s.cex := rfl
@[simp] theorem State.safMod_slv (f : SafSt → SafSt) : (s.safMod f).slv = s.slv := rfl
@[simp] theorem State.safMod_net (f : SafSt → SafSt) : (s.safMod f).net = s.net := rfl
@[simp] theorem State.safMod_red (f : SafSt → SafSt) : (s.safMod f).red = s.red := rfl
@[simp] theorem State.safMod_saf (f : SafSt → SafSt) : (s.safMod f).saf = f s.saf := rfl
@[simp] theorem State.safMod_gns (f : SafSt → SafSt) : (s.safMod f).gns = s.gns := rfl
@[simp] theorem State.safMod_can (f : SafSt → SafSt) : (s.safMod f).can = s.can := rfl
@[simp] theorem State.safMod_sdf (f : SafSt → SafSt) : (s.safMod f).sdf = s.sdf := rfl
@[simp] theorem State.safMod_lgc (f : SafSt → SafSt) : (s.safMod f).lgc = s.lgc := rfl
@[simp] theorem State.safMod_dia (f : SafSt → SafSt) : (s.safMod f).dia = s.dia := rfl
@[simp] theorem State.safMod_pnl (f : SafSt → SafSt) : (s.safMod f).pnl = s.pnl := rfl
@[simp] theorem State.safMod_yd (f : SafSt → SafSt) : (s.safMod f).yd = s.yd := rfl
@[simp] theorem State.safMod_reg (f : SafSt → SafSt) (j : Nat) : (s.safMod f).reg j = s.reg j := rfl
@[simp] theorem State.safMod_fget (f : SafSt → SafSt) (g : Fld) : (s.safMod f).fget g = s.fget g := rfl
@[simp] theorem State.safMod_rd8 (f : SafSt → SafSt) (j : Nat) : (s.safMod f).rd8 j = s.rd8 j := rfl

/-! ### ydMod -/

@[simp] theorem State.ydMod_pending (f : YdSt → YdSt) : (s.ydMod f).pending = s.pending := rfl
@[simp] theorem State.ydMod_out (f : YdSt → YdSt) : (s.ydMod f).out = s.out := rfl
@[simp] theorem State.ydMod_free (f : YdSt → YdSt) : (s.ydMod f).free = s.free := rfl
@[simp] theorem State.ydMod_pwr (f : YdSt → YdSt) : (s.ydMod f).pwr = s.pwr := rfl
@[simp] theorem State.ydMod_op (f : YdSt → YdSt) : (s.ydMod f).op = s.op := rfl
@[simp] theorem State.ydMod_role (f : YdSt → YdSt) : (s.ydMod f).role = s.role := rfl
@[simp] theorem State.ydMod_regs (f : YdSt → YdSt) : (s.ydMod f).regs = s.regs := rfl
@[simp] theorem State.ydMod_mem (f : YdSt → YdSt) : (s.ydMod f).mem = s.mem := rfl
@[simp] theorem State.ydMod_time (f : YdSt → YdSt) : (s.ydMod f).time = s.time := rfl
@[simp] theorem State.ydMod_cfg (f : YdSt → YdSt) : (s.ydMod f).cfg = s.cfg := rfl
@[simp] theorem State.ydMod_flash (f : YdSt → YdSt) : (s.ydMod f).flash = s.flash := rfl
@[simp] theorem State.ydMod_hif (f : YdSt → YdSt) : (s.ydMod f).hif = s.hif := rfl
@[simp] theorem State.ydMod_sys (f : YdSt → YdSt) : (s.ydMod f).sys = s.sys := rfl
@[simp] theorem State.ydMod_d0 (f : YdSt → YdSt) : (s.ydMod f).d0 = s.d0 := rfl
@[simp] theorem State.ydMod_fch (f : YdSt → YdSt) : (s.ydMod f).fch = s.fch := rfl
@[simp] theorem State.ydMod_alarms (f : YdSt → YdSt) : (s.ydMod f).alarms = s.alarms := rfl
@[simp] theorem State.ydMod_diaF (f : YdSt → YdSt) : (s.ydMod f).diaF = s.diaF := rfl
@[simp] theorem State.ydMod_recd (f : YdSt → YdSt) : (s.ydMod f).recd = s.recd := rfl
@[simp] theorem State.ydMod_ctx (f : YdSt → YdSt) : (s.ydMod f).ctx = s.ctx := rfl
@[simp] theorem State.ydMod_retro (f : YdSt → YdSt) : (s.ydMod f).retro = s.retro := rfl
@[simp] theorem State.ydMod_fus (f : YdSt → YdSt) : (s.ydMod f).fus = s.fus := rfl
@[simp] theorem State.ydMod_cex (f : YdSt → YdSt) : (s.ydMod f).cex = s.cex := rfl
@[simp] theorem State.ydMod_slv (f : YdSt → YdSt) : (s.ydMod f).slv = s.slv := rfl
@[simp] theorem State.ydMod_net (f : YdSt → YdSt) : (s.ydMod f).net = s.net := rfl
@[simp] theorem State.ydMod_red (f : YdSt → YdSt) : (s.ydMod f).red = s.red := rfl
@[simp] theorem State.ydMod_saf (f : YdSt → YdSt) : (s.ydMod f).saf = s.saf := rfl
@[simp] theorem State.ydMod_gns (f : YdSt → YdSt) : (s.ydMod f).gns = s.gns := rfl
@[simp] theorem State.ydMod_can (f : YdSt → YdSt) : (s.ydMod f).can = s.can := rfl
@[simp] theorem State.ydMod_sdf (f : YdSt → YdSt) : (s.ydMod f).sdf = s.sdf := rfl
@[simp] theorem State.ydMod_lgc (f : YdSt → YdSt) : (s.ydMod f).lgc = s.lgc := rfl
@[simp] theorem State.ydMod_dia (f : YdSt → YdSt) : (s.ydMod f).dia = s.dia := rfl
@[simp] theorem State.ydMod_pnl (f : YdSt → YdSt) : (s.ydMod f).pnl = s.pnl := rfl
@[simp] theorem State.ydMod_yd (f : YdSt → YdSt) : (s.ydMod f).yd = f s.yd := rfl
@[simp] theorem State.ydMod_reg (f : YdSt → YdSt) (j : Nat) : (s.ydMod f).reg j = s.reg j := rfl
@[simp] theorem State.ydMod_fget (f : YdSt → YdSt) (g : Fld) : (s.ydMod f).fget g = s.fget g := rfl
@[simp] theorem State.ydMod_rd8 (f : YdSt → YdSt) (j : Nat) : (s.ydMod f).rd8 j = s.rd8 j := rfl

/-! ### ptpMod -/

@[simp] theorem State.ptpMod_pending (f : PtpSt → PtpSt) : (s.ptpMod f).pending = s.pending := rfl
@[simp] theorem State.ptpMod_out (f : PtpSt → PtpSt) : (s.ptpMod f).out = s.out := rfl
@[simp] theorem State.ptpMod_free (f : PtpSt → PtpSt) : (s.ptpMod f).free = s.free := rfl
@[simp] theorem State.ptpMod_pwr (f : PtpSt → PtpSt) : (s.ptpMod f).pwr = s.pwr := rfl
@[simp] theorem State.ptpMod_op (f : PtpSt → PtpSt) : (s.ptpMod f).op = s.op := rfl
@[simp] theorem State.ptpMod_role (f : PtpSt → PtpSt) : (s.ptpMod f).role = s.role := rfl
@[simp] theorem State.ptpMod_regs (f : PtpSt → PtpSt) : (s.ptpMod f).regs = s.regs := rfl
@[simp] theorem State.ptpMod_mem (f : PtpSt → PtpSt) : (s.ptpMod f).mem = s.mem := rfl
@[simp] theorem State.ptpMod_time (f : PtpSt → PtpSt) : (s.ptpMod f).time = s.time := rfl
@[simp] theorem State.ptpMod_cfg (f : PtpSt → PtpSt) : (s.ptpMod f).cfg = s.cfg := rfl
@[simp] theorem State.ptpMod_flash (f : PtpSt → PtpSt) : (s.ptpMod f).flash = s.flash := rfl
@[simp] theorem State.ptpMod_hif (f : PtpSt → PtpSt) : (s.ptpMod f).hif = s.hif := rfl
@[simp] theorem State.ptpMod_sys (f : PtpSt → PtpSt) : (s.ptpMod f).sys = s.sys := rfl
@[simp] theorem State.ptpMod_d0 (f : PtpSt → PtpSt) : (s.ptpMod f).d0 = s.d0 := rfl
@[simp] theorem State.ptpMod_fch (f : PtpSt → PtpSt) : (s.ptpMod f).fch = s.fch := rfl
@[simp] theorem State.ptpMod_alarms (f : PtpSt → PtpSt) : (s.ptpMod f).alarms = s.alarms := rfl
@[simp] theorem State.ptpMod_diaF (f : PtpSt → PtpSt) : (s.ptpMod f).diaF = s.diaF := rfl
@[simp] theorem State.ptpMod_recd (f : PtpSt → PtpSt) : (s.ptpMod f).recd = s.recd := rfl
@[simp] theorem State.ptpMod_ctx (f : PtpSt → PtpSt) : (s.ptpMod f).ctx = s.ctx := rfl
@[simp] theorem State.ptpMod_retro (f : PtpSt → PtpSt) : (s.ptpMod f).retro = s.retro := rfl
@[simp] theorem State.ptpMod_fus (f : PtpSt → PtpSt) : (s.ptpMod f).fus = s.fus := rfl
@[simp] theorem State.ptpMod_cex (f : PtpSt → PtpSt) : (s.ptpMod f).cex = s.cex := rfl
@[simp] theorem State.ptpMod_slv (f : PtpSt → PtpSt) : (s.ptpMod f).slv = s.slv := rfl
@[simp] theorem State.ptpMod_red (f : PtpSt → PtpSt) : (s.ptpMod f).red = s.red := rfl
@[simp] theorem State.ptpMod_saf (f : PtpSt → PtpSt) : (s.ptpMod f).saf = s.saf := rfl
@[simp] theorem State.ptpMod_gns (f : PtpSt → PtpSt) : (s.ptpMod f).gns = s.gns := rfl
@[simp] theorem State.ptpMod_can (f : PtpSt → PtpSt) : (s.ptpMod f).can = s.can := rfl
@[simp] theorem State.ptpMod_sdf (f : PtpSt → PtpSt) : (s.ptpMod f).sdf = s.sdf := rfl
@[simp] theorem State.ptpMod_lgc (f : PtpSt → PtpSt) : (s.ptpMod f).lgc = s.lgc := rfl
@[simp] theorem State.ptpMod_dia (f : PtpSt → PtpSt) : (s.ptpMod f).dia = s.dia := rfl
@[simp] theorem State.ptpMod_pnl (f : PtpSt → PtpSt) : (s.ptpMod f).pnl = s.pnl := rfl
@[simp] theorem State.ptpMod_yd (f : PtpSt → PtpSt) : (s.ptpMod f).yd = s.yd := rfl
@[simp] theorem State.ptpMod_reg (f : PtpSt → PtpSt) (j : Nat) : (s.ptpMod f).reg j = s.reg j := rfl
@[simp] theorem State.ptpMod_fget (f : PtpSt → PtpSt) (g : Fld) : (s.ptpMod f).fget g = s.fget g := rfl
@[simp] theorem State.ptpMod_rd8 (f : PtpSt → PtpSt) (j : Nat) : (s.ptpMod f).rd8 j = s.rd8 j := rfl

end Sys2Proof.Machine
end

