-- ==== Sys2Proof/Laws/Reports.lean ====
section
/-!
SUPPORT. What the reporting operations leave alone: interrupts, events, alarms, recorder staging, ledger requests,
responses. Each is `Reports`; so is every sequence of them.
-/

namespace Sys2Proof.Machine

theorem Reports.refl (s : State) : Reports s s := ⟨rfl, rfl, rfl, rfl, fun _ _ => rfl, fun _ _ => rfl⟩

theorem Reports.trans {s t u : State} (h : Reports s t) (k : Reports t u) : Reports s u where
  rest := by rw [k.rest, h.rest]
  hif := by rw [k.hif, h.hif]
  recd := by rw [k.recd, h.recd]
  d0 := by rw [k.d0, h.d0]
  regs := fun a ha => (k.regs a ha).trans (h.regs a ha)
  cells := fun a ha => (k.cells a ha).trans (h.cells a ha)

theorem Reports.ite {s t u : State} {c : Prop} [Decidable c] (h : Reports s t) (k : Reports s u) :
    Reports s (if c then t else u) := by split <;> assumption

/-- A field of a register that reports nothing. -/
theorem Reports.fget {s t : State} (h : Reports s t) (f : Fld) (hf : reportReg f.addr = false) : t.fget f = s.fget f := by
  unfold State.fget; rw [h.regs f.addr hf]

theorem Reports.fbit {s t : State} (h : Reports s t) (f : Fld) (hf : reportReg f.addr = false) : t.fbit f = s.fbit f := by
  unfold State.fbit; rw [h.fget f hf]

/-! ## Fields no report touches -/

variable {s t : State}

theorem Reports.pending (h : Reports s t) : t.pending = s.pending := by rw [h.rest]
theorem Reports.free (h : Reports s t) : t.free = s.free := by rw [h.rest]
theorem Reports.pwr (h : Reports s t) : t.pwr = s.pwr := by rw [h.rest]
theorem Reports.op (h : Reports s t) : t.op = s.op := by rw [h.rest]
theorem Reports.role (h : Reports s t) : t.role = s.role := by rw [h.rest]
theorem Reports.time (h : Reports s t) : t.time = s.time := by rw [h.rest]
theorem Reports.cfg (h : Reports s t) : t.cfg = s.cfg := by rw [h.rest]
theorem Reports.flash (h : Reports s t) : t.flash = s.flash := by rw [h.rest]
theorem Reports.sys (h : Reports s t) : t.sys = s.sys := by rw [h.rest]
theorem Reports.fch (h : Reports s t) : t.fch = s.fch := by rw [h.rest]
theorem Reports.diaF (h : Reports s t) : t.diaF = s.diaF := by rw [h.rest]
theorem Reports.ctx (h : Reports s t) : t.ctx = s.ctx := by rw [h.rest]
theorem Reports.retro (h : Reports s t) : t.retro = s.retro := by rw [h.rest]
theorem Reports.fus (h : Reports s t) : t.fus = s.fus := by rw [h.rest]
theorem Reports.cex (h : Reports s t) : t.cex = s.cex := by rw [h.rest]
theorem Reports.slv (h : Reports s t) : t.slv = s.slv := by rw [h.rest]
theorem Reports.net (h : Reports s t) : t.net = s.net := by rw [h.rest]
theorem Reports.red (h : Reports s t) : t.red = s.red := by rw [h.rest]
theorem Reports.saf (h : Reports s t) : t.saf = s.saf := by rw [h.rest]
theorem Reports.gns (h : Reports s t) : t.gns = s.gns := by rw [h.rest]
theorem Reports.can (h : Reports s t) : t.can = s.can := by rw [h.rest]
theorem Reports.sdf (h : Reports s t) : t.sdf = s.sdf := by rw [h.rest]
theorem Reports.lgc (h : Reports s t) : t.lgc = s.lgc := by rw [h.rest]
theorem Reports.dia (h : Reports s t) : t.dia = s.dia := by rw [h.rest]
theorem Reports.pnl (h : Reports s t) : t.pnl = s.pnl := by rw [h.rest]
theorem Reports.yd (h : Reports s t) : t.yd = s.yd := by rw [h.rest]
theorem Reports.taken (h : Reports s t) : t.hif.taken = s.hif.taken := by rw [h.hif]
theorem Reports.ready (h : Reports s t) : t.hif.ready = s.hif.ready := by rw [h.hif]

/-! ## The operations -/

/-- A field of a reporting register. -/
theorem State.fset_reports (s : State) (f : Fld) (v : Nat) (hf : reportReg f.addr = true) : Reports s (s.fset f v) where
  rest := rfl
  hif := rfl
  recd := rfl
  d0 := rfl
  regs := fun a ha => s.reg_fset_other f v a (fun e => by rw [e, hf] at ha; cases ha)
  cells := fun _ _ => rfl

theorem State.send_reports (s : State) (p : Port) (bs : List Byte) : Reports s (s.send p bs) :=
  ⟨rfl, rfl, rfl, rfl, fun _ _ => rfl, fun _ _ => rfl⟩

theorem State.intr_reports (s : State) (f : Fld) (hf : f.addr = aHIF_INT_STAT) : Reports s (s.intr f) := by
  have h1 : Reports s (s.fup f) := s.fset_reports f 1 (by rw [hf]; rfl)
  unfold State.intr
  dsimp only
  exact Reports.ite h1 (Reports.ite (h1.trans (State.send_reports _ _ _)) h1)

theorem State.hifErr_reports (s : State) (f : Fld) (hf : f.addr = aHIF_ERR) : Reports s (s.hifErr f) :=
  (s.fset_reports f 1 (by rw [hf]; rfl)).trans (State.intr_reports _ _ rfl)

theorem State.stage_reports (s : State) (type own : Nat) (p : List Byte) : Reports s (s.stage type own p) := by
  unfold State.stage
  refine Reports.ite (Reports.refl s) (Reports.ite ?_ ?_)
  · refine Reports.trans (t := s.fcount DIA_REC_LOST.COUNT 1) (s.fset_reports DIA_REC_LOST.COUNT _ rfl) ?_
    exact ⟨rfl, rfl, rfl, rfl, fun _ _ => rfl, fun _ _ => rfl⟩
  · refine Reports.trans ?_ (State.fset_reports _ DIA_REC_STAT.FILL _ rfl)
    exact ⟨rfl, rfl, rfl, rfl, fun _ _ => rfl, fun _ _ => rfl⟩

theorem fitBytes_length (n : Nat) (bs : List Byte) : (fitBytes n bs).length = n := by
  simp only [fitBytes, List.length_append, List.length_take, List.length_replicate]; omega

theorem leBytes_length (n : Nat) : ∀ v, (leBytes n v).length = n := by
  induction n with
  | zero => intro v; rfl
  | succ n ih => intro v; simp [leBytes, ih]

theorem evtBytes_length (e : Evt) (q : Nat) : (evtBytes e q).length = 64 := by
  simp only [evtBytes, List.length_append, leBytes_length, fitBytes_length]

theorem rspBytes_length (op tag seq : Nat) (r : Res) : (rspBytes op tag seq r).length = 256 := by
  simp only [rspBytes, List.length_append, leBytes_length, fitBytes_length]

/-- Bytes written inside a reporting region. -/
theorem State.wrB_reports (s : State) (r o : Nat) (bs : List Byte) (hr : [rgnRsp, rgnEvt, rgnXr].contains r = true)
    (ho : o + bs.length ≤ 2 ^ 32) : Reports s (s.wrB r o bs) where
  rest := rfl
  hif := rfl
  recd := rfl
  d0 := rfl
  regs := fun _ _ => rfl
  cells := by
    intro a ha
    refine s.rd8_wrB_other r o a bs ?_
    have hne : a / 2 ^ 32 ≠ r := fun e => by rw [reportCell, e, hr] at ha; cases ha
    simp only [cell]
    omega

theorem State.evtPut_reports (s : State) (e : Evt) : Reports s (s.evtPut e) := by
  unfold State.evtPut
  dsimp only
  have h1 : Reports s (s.wrB rgnEvt (s.fget HIF_EVT_PI.IDX % 1024 * 64) (evtBytes e s.hif.evtSeq)) := by
    refine State.wrB_reports s rgnEvt _ _ rfl ?_
    rw [evtBytes_length]; omega
  generalize s.wrB rgnEvt (s.fget HIF_EVT_PI.IDX % 1024 * 64) (evtBytes e s.hif.evtSeq) = s1 at h1
  have h2 := h1.trans (s1.fset_reports HIF_EVT_PI.IDX (s1.fget HIF_EVT_PI.IDX + 1) rfl)
  have h3 : Reports s { (s1.fwrap HIF_EVT_PI.IDX) with hif := { (s1.fwrap HIF_EVT_PI.IDX).hif with
      evtSeq := ((s1.fwrap HIF_EVT_PI.IDX).hif.evtSeq + 1) % 2 ^ 32 } } :=
    h2.trans ⟨rfl, rfl, rfl, rfl, fun _ _ => rfl, fun _ _ => rfl⟩
  have h4 := h3.trans (State.intr_reports _ HIF_INT_STAT.EVT rfl)
  exact Reports.ite (h4.trans (State.stage_reports _ _ _ _)) h4

theorem State.evtOut_reports (s : State) (e : Evt) : Reports s (s.evtOut e) := by
  unfold State.evtOut
  refine Reports.ite ⟨rfl, rfl, rfl, rfl, fun _ _ => rfl, fun _ _ => rfl⟩ (Reports.ite ?_ (s.evtPut_reports e))
  refine Reports.trans (t := s.finc HIF_CNT.EVT_LOST) (s.fset_reports HIF_CNT.EVT_LOST _ rfl) ?_
  exact ⟨rfl, rfl, rfl, rfl, fun _ _ => rfl, fun _ _ => rfl⟩

/-- Raising an event reports, and does nothing else. -/
theorem State.event_reports (s : State) (src low sev : Nat) (d : List Byte) : Reports s (s.event src low sev d) :=
  Reports.ite (Reports.refl s) (s.evtOut_reports _)

theorem State.alarmD_reports (s : State) (src low idx : Nat) (d : List Byte) : Reports s (s.alarmD src low idx d) := by
  unfold State.alarmD
  refine Reports.ite (Reports.refl s) (Reports.trans ?_ (State.event_reports _ _ _ _ _))
  exact ⟨rfl, rfl, rfl, rfl, fun _ _ => rfl, fun _ _ => rfl⟩

theorem State.alarm_reports (s : State) (src low idx det : Nat) : Reports s (s.alarm src low idx det) :=
  s.alarmD_reports _ _ _ _

theorem State.clearAlarm_reports (s : State) (src low idx : Nat) : Reports s (s.clearAlarm src low idx) := by
  unfold State.clearAlarm
  refine Reports.ite (Reports.trans ?_ (State.event_reports _ _ _ _ _)) (Reports.refl s)
  exact ⟨rfl, rfl, rfl, rfl, fun _ _ => rfl, fun _ _ => rfl⟩

theorem State.clearAlarmD_reports (s : State) (src low idx : Nat) (d : List Byte) : Reports s (s.clearAlarmD src low idx d) := by
  unfold State.clearAlarmD
  refine Reports.ite (Reports.trans ?_ (State.event_reports _ _ _ _ _)) (Reports.refl s)
  exact ⟨rfl, rfl, rfl, rfl, fun _ _ => rfl, fun _ _ => rfl⟩

theorem State.ledger_reports (s : State) (type : Nat) (d : List Byte) : Reports s (s.ledger type d) := by
  unfold State.ledger
  refine Reports.ite (Reports.trans (t := s.fcount DIA_LEDGER.LOST 1) (s.fset_reports DIA_LEDGER.LOST _ rfl) ?_) ?_
  · exact ⟨rfl, rfl, rfl, rfl, fun _ _ => rfl, fun _ _ => rfl⟩
  · exact ⟨rfl, rfl, rfl, rfl, fun _ _ => rfl, fun _ _ => rfl⟩

theorem State.hostErr_reports (s : State) (f : Fld) (hf : f.addr = aHIF_ERR) : Reports s (s.hostErr f) :=
  Reports.ite (s.hifErr_reports f hf) ((s.hifErr_reports f hf).trans (State.event_reports _ _ _ _ _))

/-! ## What an event does not change of the alarms in force -/

theorem State.fset_alarms' (s : State) (f : Fld) (v : Nat) : (s.fset f v).alarms = s.alarms := rfl

theorem State.intr_alarms (s : State) (f : Fld) : (s.intr f).alarms = s.alarms := by
  unfold State.intr; dsimp only; repeat' split
  all_goals rfl

theorem State.stage_alarms (s : State) (type own : Nat) (p : List Byte) : (s.stage type own p).alarms = s.alarms := by
  unfold State.stage; dsimp only; repeat' split
  all_goals rfl

theorem State.evtPut_alarms (s : State) (e : Evt) : (s.evtPut e).alarms = s.alarms := by
  unfold State.evtPut
  dsimp only
  generalize evtBytes e s.hif.evtSeq = bs
  have h1 : ((s.wrB rgnEvt (s.fget HIF_EVT_PI.IDX % 1024 * 64) bs).fwrap HIF_EVT_PI.IDX).alarms = s.alarms := rfl
  generalize (s.wrB rgnEvt (s.fget HIF_EVT_PI.IDX % 1024 * 64) bs).fwrap HIF_EVT_PI.IDX = s2 at h1
  have h4 : ∀ q, (({ s2 with hif := q } : State).intr HIF_INT_STAT.EVT).alarms = s.alarms := by
    intro q; rw [State.intr_alarms]; exact h1
  split
  · rw [State.stage_alarms, h4]
  · exact h4 _

theorem State.event_alarms (s : State) (src low sev : Nat) (d : List Byte) : (s.event src low sev d).alarms = s.alarms := by
  unfold State.event State.evtOut
  dsimp only
  repeat' split
  · rfl
  · rfl
  · rfl
  · exact State.evtPut_alarms _ _

/-- An alarm raised is in force. -/
theorem State.alarmD_in (s : State) (src low idx : Nat) (d : List Byte) : (s.alarmD src low idx d).hasAlarm src low idx = true := by
  unfold State.alarmD State.hasAlarm
  split
  · assumption
  · rw [State.event_alarms]; simp

/-- An alarm cleared is not in force. -/
theorem State.clearAlarm_out (s : State) (src low idx : Nat) : (s.clearAlarm src low idx).hasAlarm src low idx = false := by
  unfold State.clearAlarm State.hasAlarm
  split
  · rw [State.event_alarms]; simp
  · next h => simpa using h

/-! ## HIF_ERR -/

theorem State.intr_err (s : State) (f : Fld) (hf : f.addr = aHIF_INT_STAT) : (s.intr f).reg aHIF_ERR = s.reg aHIF_ERR := by
  have h1 : (s.fup f).reg aHIF_ERR = s.reg aHIF_ERR := s.reg_fset_other f 1 _ (by rw [hf]; decide)
  unfold State.intr
  dsimp only
  repeat' split
  all_goals exact h1

theorem State.stage_err (s : State) (type own : Nat) (p : List Byte) : (s.stage type own p).reg aHIF_ERR = s.reg aHIF_ERR := by
  unfold State.stage
  dsimp only
  repeat' split
  · rfl
  · exact s.reg_fset_other DIA_REC_LOST.COUNT _ _ (by decide)
  · exact State.reg_fset_other _ DIA_REC_STAT.FILL _ _ (by decide)

theorem State.evtPut_err (s : State) (e : Evt) : (s.evtPut e).reg aHIF_ERR = s.reg aHIF_ERR := by
  unfold State.evtPut
  dsimp only
  generalize evtBytes e s.hif.evtSeq = bs
  have h1 : (s.wrB rgnEvt (s.fget HIF_EVT_PI.IDX % 1024 * 64) bs).reg aHIF_ERR = s.reg aHIF_ERR := rfl
  generalize s.wrB rgnEvt (s.fget HIF_EVT_PI.IDX % 1024 * 64) bs = s1 at h1
  have h2 : (s1.fwrap HIF_EVT_PI.IDX).reg aHIF_ERR = s1.reg aHIF_ERR := s1.reg_fset_other HIF_EVT_PI.IDX _ _ (by decide)
  generalize s1.fwrap HIF_EVT_PI.IDX = s2 at h2
  have h3 : ∀ q, ({ s2 with hif := q } : State).reg aHIF_ERR = s2.reg aHIF_ERR := fun _ => rfl
  have h4 : ∀ q, (({ s2 with hif := q } : State).intr HIF_INT_STAT.EVT).reg aHIF_ERR = s.reg aHIF_ERR := by
    intro q; rw [State.intr_err _ _ rfl, h3, h2, h1]
  split
  · rw [State.stage_err, h4]
  · exact h4 _

/-- Raising an event leaves HIF_ERR alone. -/
theorem State.event_err (s : State) (src low sev : Nat) (d : List Byte) :
    (s.event src low sev d).reg aHIF_ERR = s.reg aHIF_ERR := by
  unfold State.event State.evtOut
  dsimp only
  repeat' split
  · rfl
  · rfl
  · exact s.reg_fset_other HIF_CNT.EVT_LOST _ _ (by decide)
  · exact State.evtPut_err _ _

/-- A bit of HIF_ERR is set by what sets it. -/
theorem State.hostErr_set (s : State) (f : Fld) (hf : f.addr = aHIF_ERR) (hw : f.lo + f.w ≤ 32) (h1 : 1 ≤ f.w)
    (h : tabWf regReset s.regs = true) : (s.hostErr f).fget f = 1 := by
  have e : (s.hifErr f).fget f = 1 := by
    unfold State.fget
    rw [hf]
    unfold State.hifErr
    rw [State.intr_err _ _ rfl, ← hf]
    have := s.fget_fset f 1 hw
    unfold State.fget at this
    unfold State.fup
    rw [this]
    exact Nat.mod_eq_of_lt (Nat.one_lt_two_pow (by omega))
  unfold State.hostErr
  dsimp only
  split
  · exact e
  · unfold State.fget at e ⊢
    rw [hf] at e ⊢
    rw [State.event_err]; exact e

end Sys2Proof.Machine
end

