-- ==== Sys2Proof/Tests/Slice0.lean ====
section
/-!
SUPPORT. The model's own tests: ill-formed commands are refused by WellFormed; worked examples of the spec; one command or
two of each family on a small state; and for each statement with hypotheses a state and operands that meet them. Expected
values are the spec's (its examples, its tables), not the model's.
-/

namespace Sys2Proof.Tests

-- One test after another: each waits for all declarations before it, and a thread per waiting test adds up.
set_option Elab.async false

open Sys2Proof.Machine

/-! ## States to test on -/

/-- A unit up and running on the host's SPI path, every domain powered, its reports released. -/
def up : State := { State.reset with
  op := .ready, role := .active, alarms := [], hif := { State.reset.hif with ready := true, held := [] },
  d0 := { State.reset.d0 with queue := [] }, sys := { State.reset.sys with domOn := 0xFFF, holdOk := true, hostSel := true } }

/-- The same in CONFIG. -/
def conf : State := { up with op := .config, role := .none }

/-- A host command with a payload and a page. -/
def cmd (p : List Byte) (page : Option (List Byte) := none) : HCmd := ⟨7, 9, p, page⟩

/-- `n` zero bytes. -/
def zs (n : Nat) : List Byte := List.replicate n 0

/-- The command answers a next state with the property. -/
def gives (c : Instr) (s : State) (p : State → Bool) : Bool :=
  match exec c s with | .next t => p t | _ => false

/-- One step of the machine with the command in front answers a next state with the property. -/
def steps (c : Instr) (s : State) (p : State → Bool) : Bool :=
  match step { s with pending := [c] } with | .next t => p t | _ => false

/-! ## Well-formed commands -/

/-- The host commands with one payload and page. -/
def hostCmds (h : HCmd) : List Instr :=
  [.getInfo h, .enterConfig h, .leaveConfig h, .reset h, .setRtc h, .cfgOpen h, .cfgAbort h, .objStage h, .objRead h,
   .objUnstage h, .cfgCommit h, .cfgRevert h, .imgBegin h, .imgAppend h, .imgEnd h, .imgCancel h, .alignCommit h,
   .alignRevert h, .overlayCommit h, .setFunction h, .setPosition h, .setSpeed h, .setLimits h, .trackLoad h,
   .trackAppend h, .setOrigin h, .scenEnable h, .thrExclude h, .refReadmit h, .setAutoreadmit h, .keyClaim h,
   .keyTransfer h, .keyRelinquish h, .resync h, .disagreeClear h, .safOpen h, .safClose h, .safPassword h, .safCommit
   h, .safAck h, .safReset h, .safTrip h, .logStart h, .logStop h, .logExchange h, .logChange h, .ptWrite h, .gnsSnap
   h, .gnsForget h, .canSend h, .uartSend h, .sdfStart h, .sdfStop h, .pnlUpdate h, .pnlResume h, .harvest h, .recCtrl
   h, .recRead h, .ledgerRead h, .readmit h, .replayEnter h, .replayFeed h, .replayExit h, .pwrState h]

theorem test_wf_host : (hostCmds (cmd [])).all Instr.wf = true := by decide

theorem test_wf_payload_too_long : (hostCmds (cmd (zs 225))).all (fun i => !i.wf) = true := by decide +kernel

theorem test_wf_page_empty : (hostCmds (cmd [] (some []))).all (fun i => !i.wf) = true := by decide +kernel

theorem test_wf_page_too_long : (hostCmds (cmd [] (some (zs 4097)))).all (fun i => !i.wf) = true := by decide +kernel

/-- The commands of numbered instances, each one past the last. -/
def pastLast : List Instr :=
  [.contextEnable 256, .contextDisable 256, .scxStatRead 256, .netPortStatRead 6, .canStatRead 8, .canCntRead 8,
   .canUcntRead 16, .logTaskTimeRead 2, .logTaskCntRead 2, .canInitEnter 8, .canInitLeave 8, .filterWrite 8 0,
   .filterRead 8 0, .rxqAck 8 0 0, .txAbort 8 0, .sdfChannelStart 32, .sdfChannelStop 32, .inputSwitch 32 0, .leaseRx 0 ⟨6, none, 0, 0, 0⟩ [], .spanDown 0 2, .spanUp 0 2, .manifestRx 0 ⟨6, none, 0, 0, 0⟩ [], .commandPduRx 0 ⟨6, none, 0, 0, 0⟩ [], .stateImageRx 0 ⟨6, none, 0, 0, 0⟩ [], .samplePduRx 0 ⟨6, none, 0, 0, 0⟩ [], .statusPduRx 0 ⟨6, none, 0, 0, 0⟩ [], .harvestPduRx 0 ⟨6, none, 0, 0, 0⟩ [], .datagram450Rx 0 ⟨4, none⟩ 0 0 [], .uartCharacterRx 0 16 0 0, .uartBreak 0
   16, .canFrameRx 0 8 0 false false false 0 [] false false 0, .canTxLoad 0 8, .canTxDone 0 8 0 0 0, .canInitAck 0 8,
   .canIntegration 0 8, .busOff 0 8, .busOffRecovery 0 8, .ambiguityFixed 0 3 0, .gnssIfLost 0 4, .sdfOutput 0 32 [],
   .sdfThreshold 0 32 [], .modFault 0 32 [], .modFaultClear 0 32 [], .logicCycleDone 0 2 0, .engineHardError 0 16
   false, .ydCanRx 0 2 0 false false false 0 [] false, .portLinkChange 0 6 false false 0, .arpIcmpIgmpRx 0 4 [],
   .ptpMessageInterval 0 4 0 0, .canBusError 0 8 0 false, .signalAcquired 0 128, .trackLock 0 128, .lockLost 0 128,
   .gnssIfActive 0 4, .uartTxDone 0 16]

theorem test_wf_instance : pastLast.all (fun i => !i.wf) = true := by decide

theorem test_wf_write_size : (Instr.registerWrite 0x1000 (zs 9)).wf = false ∧ (Instr.registerWrite 0x1000 (zs 8)).wf = true := by decide

/-- An ill-formed host command is answered BAD_LEN (R533): the status word of the response. -/
theorem test_ill_formed_answered :
    gives (.getInfo (cmd (zs 225))) up (fun t => uAt 2 (t.rdB rgnRsp 0 256) 2 == 0x2003) = true := by decide +kernel

/-! ## Worked examples of the spec -/

/-- R13: an A40 of 0.600006103515625 narrows to 0x4CCD, one of 1.25 saturates to 0x7FFF. -/
theorem test_narrow : narrow 16 16 0x4CCD0000 = 0x4CCD ∧ (A40.f16 (a40 (5 * 2 ^ 29)) 0) = (0x7FFF, 1) := by decide

/-- R99: half of 0x1234_5678 in two passes. -/
theorem test_product : (a40 0).mac 0x4000 0x12345678 = ⟨152709948, false⟩ := by decide

/-- The taut wire of R42: 12,869 mm between two samples, 12,868 mm extrapolated. Instants from F(k) - 200 ms. -/
theorem test_interpolate :
    (formValue false 62500 24 0 [⟨76500000, .l32, [12811], [], []⟩, ⟨139000000, .l32, [12840], [], []⟩,
      ⟨201500000, .l32, [12870], [], []⟩] 200000000).map (·.x) = some [12869] := by decide +kernel

theorem test_extrapolate :
    (formValue false 62500 24 0 [⟨76500000, .l32, [12811], [], []⟩, ⟨139000000, .l32, [12840], [], []⟩] 200000000).map
      (fun v => (v.x, v.extrap)) = some ([12868], true) := by decide +kernel

/-- The cross-fade of R129: 0x2052 in the first frame, 0x2800 in the 25th, 0x3000 in the last of fifty. -/
theorem test_crossfade : [1, 25, 50].map (fun n => xfade 0x2000 0x3000 n 50) = [0x2052, 0x2800, 0x3000] := by decide

/-- The CAN stamp of R312: 136,850 ns after F(k1), the counter having wrapped. -/
theorem test_can_stamp :
    ({ up with can := { up.can with cap0 := some ⟨0, 4294962000, 52, false⟩, cap1 := some ⟨10000000, 4704, 52, false⟩ } }.canTime 4841)
      = some (10000000 + 136850) := by decide +kernel

/-- The time pulse of R260: offset 35,400 ps, cable 120 ns; of the edges 4 ns apart, the one 84.0 ns before the second, with
QERR 600 ps. -/
theorem test_pulse_edge :
    let s := { up with time := { up.time with ns := 2000000000 } }
    s.tpEdge (3 * 10 ^ 12 + 35400 - 120000) = ((3 * 10 ^ 9 - 84) * 2 ^ 33, 600) := by decide +kernel

/-- Filter channel 4 of the spec's example: ORDER 3, R 64, GDF 31.5 gives D_grp 156.725 µs and SETTLE_MIN 25. -/
theorem test_filter_delay :
    let s := (((up.fset (fldAt SDF_CH_CFG.ORDER 4) 3).fset (fldAt SDF_CH_CFG.R 4) 64).fset (fldAt SDF_CH_CFG.FIR_BYP 4) 0)
    let t := { s with sdf := { s.sdf with banks := [(64, 8064)] } }
    t.dGrp 4 * 50 = 156725 * 512 ∧ t.settleMin 4 = 25 := by decide +kernel

/-- LEAK_T of a CAN controller with the defaults 4 and 60 s is 15,000 ms (R484). -/
theorem test_leak_time : up.leakT 3 = 15000 := by decide +kernel

/-- Floating-point: 1 + 2 is 3, 1 / 3 rounds to 0x3EAA_AAAB, the root of 2 to 0x3FB5_04F3 (IEEE 754 binary32). -/
theorem test_binary32 : fadd 0x3F800000 0x40000000 = 0x40400000 ∧ fdiv 0x3F800000 0x40400000 = 0x3EAAAAAB
    ∧ fsqrt 0x40000000 = 0x3FB504F3 := by decide +kernel

/-- The check value of CRC-32C: 0xE306_9283 of the nine digits. -/
theorem test_crc : crc32c (ascii "123456789") = 0xE3069283 := by decide +kernel

/-! ## The queue and the frame -/

/-- `s` in frame 1, `h` hundredths into it, CUTOFF handled or not. -/
def inFrame (s : State) (h : Nat) (cut : Bool) : State :=
  { s with time := { s.time with ns := BitVec.ofNat 64 (10000000 + h * 100000), frame := 1, inFrame := true, cutDone := cut } }

/-- A step takes the command in front and leaves the rest. -/
theorem test_step_front :
    (match step { up with pending := [.spiStatus false, .enterQuad false] } with
      | .next t => decide (t.pending = [.enterQuad false]) && decide (t.out.length = 1) | _ => false) = true := by decide +kernel

/-- A boundary that is due starts the frame whose number TIME_NS gives (R23). -/
theorem test_boundary :
    gives (.frameBoundary 0 []) { up with time := { up.time with ns := 70000000 } }
      (fun t => t.time.inFrame && t.time.frame == 7 && t.fget TIM_FRAME_NUM.FRAME == 7) = true := by decide +kernel

/-- CUTOFF comes 2.0 ms into a frame of 10 ms: not at 1.9 ms (R17). -/
theorem test_cutoff :
    gives (.cutoff 0) (inFrame up 20 false) (fun t => t.time.cutDone) = true
      ∧ gives (.cutoff 0) (inFrame up 19 false) (fun t => t.time.cutDone) = false := by decide +kernel

/-! ## Host path and host commands -/

/-- The status byte of a ready unit in single mode is READY alone (R379). -/
theorem test_status_byte : gives (.spiStatus false) up (fun t => decide (t.out = [⟨0, .spi, [8]⟩])) = true := by decide +kernel

/-- A doorbell of three entries is taken, one of 65 is not (R381). -/
theorem test_doorbell :
    gives (.doorbell 3) up (fun t => t.fget HIF_CMD_PI.PI == 3) = true
      ∧ gives (.doorbell 65) up (fun t => t.fget HIF_CMD_PI.PI == 0 && t.fbit HIF_ERR.DB_RANGE) = true := by decide +kernel

/-- SET_RTC in CONFIG sets the RTC, which counts periods of 8 ns (R408, R467). -/
theorem test_set_rtc :
    gives (.setRtc (cmd [0, 0, 1, 0, 0, 0, 0, 0])) conf (fun t => t.sys.rtcValid && t.sys.rtc == 0x10000 / 8) = true := by decide +kernel

/-- SAF_TRIP of group 1 latches it on both channels with cause 11 (R232, R410). -/
theorem test_saf_trip :
    gives (.safTrip (cmd [2, 0, 0, 0])) { up with saf := { up.saf with latch := [0, 0], out := [15, 15] } }
      (fun t => decide (t.saf.latch = [2, 2]) && decide (t.saf.out = [13, 13])) = true := by decide +kernel

/-! ## Redundancy, safety, network -/

/-- A lease that lapsed with proof of silence is the standby's to take; with SET_N = 1 nothing is decided (R197). -/
theorem test_decision_alone :
    gives (.keystoneDecision 0) (((inFrame up 8 false).fset RED_CFG.SET_N 1)) (fun t => decide (t.role = .active)) = true := by decide +kernel

/-- A read-back fault of channel 1 drops its outputs and passes the trip on (R220, R234). -/
theorem test_output_fault :
    gives (.outputFault 0 1) { up with saf := { up.saf with latch := [0, 0], out := [15, 15] } }
      (fun t => decide (t.saf.latch = [0, 15]) && decide (t.saf.out = [15, 0]) && decide (t.saf.msgs = [⟨0, 15⟩])) = true := by
  decide +kernel

/-- A span's link shows in NET_PORT_STAT (R297). -/
theorem test_link : gives (.portLinkChange 0 4 true true 0) up (fun t => t.fbit (fldAt NET_PORT_STAT.LINK 4)) = true := by decide +kernel

/-! ## CAN, serial lines, filters, logic, GNSS -/

/-- Controller 0 in traffic. -/
def canUp : State := (up.fset (fldAt CAN_CTRL.INIT 0) 0).fput (fldAt CAN_STAT.SYNC 0) true |>.fput (fldAt CAN_STAT.INIT_ACK 0) false

/-- Bus-off shows as STATE 2 and is counted (R303). -/
theorem test_bus_off :
    gives (.busOff 0 0) canUp (fun t => t.fget (fldAt CAN_STAT.STATE 0) == 2 && t.fget (fldAt CAN_CNT.BUSOFF 0) == 1) = true := by
  decide +kernel

/-- A bank that no channel uses opens as LOADING (R331). -/
theorem test_bank_open : gives (.bankOpen 3 0) up (fun t => t.fget SDF_BANK_STAT.LOADING == 8) = true := by decide +kernel

/-- A point of class HOST written and read back through LOG_PT_D0 to D3; unwritten it is zero (R369). -/
theorem test_point_copy : gives (.pointCopy 5) up (fun t => t.fget LOG_PT_SEL.INDEX == 5) = true := by decide +kernel

/-- A stream that is lost is no longer active and raises its alarm (R251). -/
theorem test_stream_lost :
    gives (.gnssIfLost 0 2) (up.fput (fldAt GNS_IF_STAT.ACTIVE 2) true)
      (fun t => !t.fbit (fldAt GNS_IF_STAT.ACTIVE 2) && t.hasAlarm 0x09 0x01 2) = true := by decide +kernel

/-! ## Diagnostics and power -/

/-- CAN2 of the spec's example: at a level of 4, with the default limit of 4, one more transient error retires it (R484). -/
theorem test_retire :
    let s := { up with fch := tabSet fltZero up.fch (fltKey 3 2) { fltZero 0 with level := 4 } }
    (s.fltErr 3 2).2 = true ∧ (up.fltErr 3 2).2 = false := by decide +kernel

/-- VIN below 2.5 V is OFF (R450). -/
theorem test_vin_off : gives (.vinOff 0) up (fun t => decide (t.pwr = .off)) = true := by decide +kernel

/-- A WDR is counted and takes SV back to BOOT with role NONE (R454). -/
theorem test_wdr : gives (.wdr 0) up (fun t => decide (t.op = .boot) && decide (t.role = .none) && t.fget PMU_CNT.WDR == 1) = true := by
  decide +kernel

/-! ## The YD-22 mode -/

/-- A unit up in YD-22 mode. -/
def ydUp : State := { up with
  role := .none, hif := { up.hif with ready := false }, sys := { up.sys with yd := true, strapYd := true, domOn := 0x70B }
  yd := { up.yd with ready := true } }

/-- YD_ID reads 0x2201, most significant byte first (R418, R420). -/
theorem test_yd_id : gives (.ydSpiRead 0 2) ydUp (fun t => decide (t.out = [⟨0, .spi, [0x22, 0x01]⟩])) = true := by decide +kernel

/-- A write of one byte is incomplete and counted in YD_SPI_ERR (R418). -/
theorem test_yd_incomplete : gives (.ydSpiWrite [0x1E, 7]) ydUp (fun t => t.ydReg 0xF3 == 1) = true := by decide +kernel

/-! ## The statements' hypotheses can be met

One theorem for each statement with hypotheses (`Certificates/Slice0/Obligations.lean`), under its name: states and operands
that meet them together, for each of its cases, at the boundary values of ranges. Which result the flash write or another
free value has is open: a case on it is met by one value or the other. -/

/-- The premises most statements share. -/
def ok (s : State) : Bool := s.hostOn && s.storesWf

/-- `freeFor`, decided. -/
def isFree (s : State) (op : Nat) (h : HCmd) : Bool :=
  s.mayTake && decide (s.hif.taken = []) && !s.sys.recovery && decide (opForm op h = 0) && s.storesWf

theorem isFree_spec (s : State) (op : Nat) (h : HCmd) (e : isFree s op h = true) : freeFor s op h := by
  simpa [isFree, freeFor, and_assoc] using e

theorem witness_StepIdles : up.pending = [] := by decide

theorem witness_CommandFrames : ∃ t, exec .pcieReset up = .next t := ⟨_, rfl⟩

theorem witness_StepKeepsStores : up.storesWf = true ∧ (∃ t, step up = .next t) ∧ State.reset.storesWf = true :=
  ⟨by decide +kernel, ⟨_, rfl⟩, by decide +kernel⟩

theorem witness_RegisterReads :
    ok up = true ∧ gives (.netPortStatRead 5) up (fun t => t.out.length == 1) = true
      ∧ gives (.netPortStatRead 6) up (fun t => decide (t.out = [⟨0, .host, [0, 0, 0, 0]⟩])) = true := by decide +kernel

/-- At each boundary address exactly one clause of HostWrites holds for a write of one byte. -/
theorem witness_HostWrites :
    ok up = true ∧ regRow 0x50 = none ∧ [0x1000, 0x4FFF, 0x5000, 0x8FFF, 0xFFE, 0x9001, 0xFFFE, 0x10000, 0xFFFFFF, 0x2000000].all (fun a =>
      [decide (0x1000 ≤ a) && decide (a + 1 ≤ 0x5000), decide (0x5000 ≤ a) && decide (a < 0x9000),
        decide (a < 0x1000) || decide (0x9000 ≤ a) && decide (a < 0x10000),
        decide (0x10000 ≤ a) && (decide (a < 0x1000000) || decide (0x2000000 ≤ a))].count true == 1) = true := by decide +kernel

theorem witness_RingIndexWrites :
    let s := (up.fset HIF_CMD_PI.PI 10).fset HIF_RSP_PI.IDX 5 |>.fset HIF_RSP_CI.CI 3 |>.fset HIF_EVT_PI.IDX 5 |>.fset HIF_EVT_CI.CI 3
    ok s = true ∧ ok State.reset = true ∧ State.reset.hif.ready = false
      ∧ gives (.doorbell 9) s (fun t => t.fbit HIF_ERR.DB_RANGE) = true ∧ gives (.doorbell 64) s (fun t => t.fget HIF_CMD_PI.PI == 64) = true
      ∧ gives (.doorbell 65) s (fun t => t.fget HIF_CMD_PI.PI == 10) = true
      ∧ gives (.hifRspCiWrite 2) s (fun t => t.fbit HIF_ERR.DB_RANGE) = true ∧ gives (.hifRspCiWrite 5) s (fun t => t.fget HIF_RSP_CI.CI == 5) = true
      ∧ gives (.hifEvtCiWrite 6) s (fun t => t.fbit HIF_ERR.DB_RANGE) = true ∧ gives (.hifEvtCiWrite 3) s (fun t => t.fget HIF_EVT_CI.CI == 3) = true := by
  decide +kernel

theorem witness_SpiStatusByte : up.hostOn = true ∧ up.sys.hostSel = true := by decide

/-- The unit with its SPI port in quad mode. -/
def quadUp : State := { up with hif := { up.hif with quad := true } }

theorem witness_SpiPort :
    ok up = true ∧ up.sys.hostSel = true ∧ false = up.hif.quad ∧ true = quadUp.hif.quad ∧ ok quadUp = true ∧ { up with sys := { up.sys with hostSel := false } }.sys.hostSel = false
      ∧ gives (.spiRead false 0x1002 4) up (fun t => t.hif.spiErr) = true ∧ 4096 < 4097
      ∧ gives (.spiRead false 0x4FFC 4) up (fun t => t.out.length == 1) = true ∧ gives (.spiRead false 0x2000000 4) up (fun t => t.out.length == 1) = true
      ∧ gives (.spiRead false 0x1000008 4) { up with dia := { up.dia with poison := [(0, 1)] } } (fun t => t.fbit HIF_ERR.ECC && t.hif.spiErr) = true
      ∧ gives (.spiRead false 0x1BFFFFC 4) up (fun t => decide (t.out = [⟨0, .spi, [0, 0, 0, 0]⟩])) = true ∧ up.sys.yd = false
      ∧ gives (.spiRead false 0xFFC 4) up (fun t => t.out.length == 1) = true ∧ gives (.spiRead false 0x9000 4) up (fun t => t.out.length == 1) = true
      ∧ gives (.spiWrite false 0x1001 (zs 4)) up (fun t => t.hif.spiErr) = true ∧ gives (.spiWrite false 0x1000 (zs 3)) up (fun t => t.hif.spiErr) = true
      ∧ gives (.registerWrite 0x1000 (zs 4)) up (fun t => t.hostOn) = true := by decide +kernel

theorem witness_RegisterEffects :
    let on := up.fput (fldAt SCX_CFG.EN 255) true
    let off := up.fset (fldAt SCX_PERIOD.TP 255) 10
    let harb : State := { up with pwr := .harbour }
    let busy := up.fput GNS_SNAP_STAT.BUSY true
    ok up = true ∧ up.fget (fldAt SCX_CFG.MODE 255) ≤ 1 ∧ up.fbit (fldAt SCX_CFG.EN 255) = false ∧ ok off = true ∧ ok on = true ∧ on.fget (fldAt SCX_CFG.MODE 255) ≤ 1
      ∧ on.fbit (fldAt SCX_CFG.EN 255) = true ∧ off.fget (fldAt SCX_PERIOD.TP 255) ≠ 0 ∧ up.fget (fldAt SCX_PERIOD.TP 255) = 0
      ∧ ok harb = true ∧ ok busy = true ∧ busy.fbit GNS_SNAP_STAT.BUSY = true ∧ up.fbit GNS_SNAP_STAT.BUSY = false
      ∧ incMin ≤ 8 * 2 ^ 32 ∧ 8 * 2 ^ 32 ≤ incMax ∧ 7 * 2 ^ 32 < incMin ∧ incMax < 9 * 2 ^ 32 := by decide +kernel

theorem witness_CanRegisterWrites :
    let q := up.fset (fldAt (rxqSw 1) 7) 4
    let put (w0 w1 w2 : Nat) (s : State) : State := ((s.fset (fldAt CAN_FLT_DATA0.DATA 0) w0).fset (fldAt CAN_FLT_DATA1.DATA 0) w1).fset (fldAt CAN_FLT_DATA2.DATA 0) w2
    ok up = true ∧ ok canUp = true ∧ up.fbit (fldAt CAN_CTRL.INIT 7) = true ∧ canUp.fbit (fldAt CAN_CTRL.INIT 0) = false ∧ up.fget (fldAt CAN_CTRL.NOMATCH 7) ≤ 2
      ∧ ok q = true ∧ q.fget (fldAt (rxqSw 1) 7) = 4 ∧ gives (.rxqAck 7 1 4) q (fun t => t.fget (fldAt (rxqSw 1) 7) == 0) = true
      ∧ gives (.rxqAck 7 1 5) q (fun t => t.fbit (fldAt (rxqErr 1) 7)) = true
      ∧ gives (.filterWrite 0 1023) (put 0x08000000 0x7FF 0x7FF up) (fun t => t.can != up.can) = true
      ∧ gives (.filterWrite 0 1023) (put 0x08000000 0x800 0x800 up) (fun t => t.fbit (fldAt CAN_FLT_SEL.ERR 0)) = true
      ∧ gives (.filterWrite 0 0) (put 0x08000000 1 2 canUp) (fun t => t.can == canUp.can) = true
      ∧ canUp.op ≠ .boot ∧ canUp.op ≠ .config ∧ canUp.fbit (fldAt CAN_STAT.INIT_ACK 0) = false := by decide +kernel

/-- A filter channel in operation. -/
def chan0 : SdfCh := ⟨0, 0, [0, 0, 0, 0, 0], [0, 0, 0, 0, 0], 0, [], [], 1, 0, 0, 25, none, 0, 0, 0, 0, 0, 0⟩

/-- Channel 4 set up as in the spec's example, its bank valid and its clock on; running or not. -/
def sdfUp (run : Bool) : State :=
  let s := (((((up.fset (fldAt SDF_CH_CFG.ORDER 4) 3).fset (fldAt SDF_CH_CFG.R 4) 64).fset SDF_BANK_STAT.VALID 255).fput (fldAt SDF_CLK_CFG.EN 0) true).fset
    (fldAt SDF_CH_OUT.L 4) 10).fset (fldAt SDF_CH_OUT.CTX_DIV 4) 1 |>.fput (fldAt SDF_CH_CFG.EN 4) run |>.fput (fldAt SDF_CH_STAT.RUN 4) run
  { s with sdf := { s.sdf with ch := if run then s.sdf.ch.set 4 (some chan0) else s.sdf.ch } }

theorem witness_FilterRegisterWrites :
    let s := sdfUp false
    let r := sdfUp true
    let l := up.fset SDF_BANK_STAT.LOADING 255
    ok s = true ∧ ok r = true ∧ s.sch SDF_CH_CFG.SRC 4 ≤ 2 ∧ 3 ≤ s.sch SDF_CH_CFG.ORDER 4 ∧ s.sch SDF_CH_CFG.ORDER 4 ≤ 5 ∧ 16 ≤ s.sch SDF_CH_CFG.R 4
      ∧ s.sch SDF_CH_CFG.R 4 ≤ 512 ∧ s.sdfCh 4 = none ∧ s.startErr 4 (s.sdfRunning.filter (fun m => m != 4)) = 0 ∧ 4 < s.sdf.ch.length
      ∧ ok l = true ∧ up.fget SDF_BANK_STAT.LOADING = 0 ∧ up.startErr 4 [] ≠ 0 ∧ r.bankUsed 0 = true ∧ s.bankUsed 0 = false
      ∧ (r.sdfCh 4).isSome = true ∧ r.fbit (fldAt SDF_CH_CFG.EN 4) = true ∧ r.sch SDF_CH_CFG.SRC 4 ≤ 2 ∧ 3 ≤ r.sch SDF_CH_CFG.ORDER 4
      ∧ r.sch SDF_CH_CFG.R 4 = 64
      ∧ gives (.bankDataWrite 5) (l.fset SDF_BANK_CTRL.ADDR 1088) (fun t => t.fget SDF_BANK_CTRL.ADDR == 1089) = true
      ∧ gives (.bankDataWrite 5) (l.fset SDF_BANK_CTRL.ADDR 1089) (fun t => t.fget SDF_BANK_CTRL.ADDR == 1089) = true := by decide +kernel

/-- A payload of `n` bytes that begins with `l`. -/
def pay (l : List Byte) (n : Nat) : HCmd := cmd (l ++ zs (n - l.length))

/-- One track point of a LOAD or APPEND page: leg speed and radius 1.0. -/
def trackPage : List Byte := [1, 0, 0, 0] ++ zs 8 ++ leBytes 4 0x3F800000 ++ leBytes 4 0x3F800000 ++ zs 8

theorem witness_ListedCommands :
    up.role.holds = true ∧ ({ up with role := .zone } : State).role = .zone
      ∧ ([(0x020C, pay [15] 4), (0x020D, pay [15] 4), (0x0301, pay [4, 1] 4), (0x0302, pay [3] 16), (0x0303, cmd (zs 8)),
          (0x0304, cmd ((upTo 6).flatMap (fun _ => leBytes 4 0x3F800000))), (0x0305, cmd [] (some trackPage)), (0x0306, cmd [] (some trackPage)),
          (0x0307, pay [] 16), (0x0308, pay [2] 4), (0x0309, pay [] 4), (0x030A, pay [15] 4), (0x030B, pay [1] 4), (0x0B05, pay [5, 0, 31, 0] 4)]
          : List (Nat × HCmd)).all (fun c => isFree up c.1 c.2) = true
      ∧ (flt 0 (fltAt trackPage 12) && fle 0 (fltAt trackPage 16) && decide (byteAt trackPage 20 ≤ 1)) = true
      ∧ (flt 0 (fltAt (leBytes 4 0x3F800000) 0) && ffinite (fltAt (leBytes 4 0x3F800000) 0)) = true
      ∧ isFree (up.fset LOG_STATUS.STATE lgRunning) 0x0604 (cmd [] (some (zs 6 ++ [1, 1] ++ zs 8))) = true
      ∧ (up.fset LOG_STATUS.STATE lgRunning).lgState = lgRunning
      ∧ (cmdEBytes ⟨0x0305, 9, none, trackPage⟩).length ≤ 1016 ∧ up.red.listQ = [] := by decide +kernel

/-- What CommandsTurnedAway lists, each in a form that its opcode has and, for the second clause, one that it has not. -/
theorem witness_CommandsTurnedAway :
    conf.role.holds = false ∧ conf.role ≠ .zone
      ∧ ([(0x020C, pay [15] 4), (0x020D, pay [15] 4), (0x0301, pay [4, 1] 4), (0x0302, pay [3] 16), (0x0303, cmd (zs 8)), (0x0304, pay [] 24),
          (0x0305, cmd [] (some trackPage)), (0x0306, cmd [] (some trackPage)), (0x0307, pay [] 16), (0x0308, pay [2] 4), (0x0309, pay [] 4),
          (0x030A, pay [15] 4), (0x030B, pay [1] 4), (0x0402, pay [] 4), (0x0403, pay [] 4), (0x0604, cmd [] (some (zs 6 ++ [1, 1] ++ zs 8)))]
          : List (Nat × HCmd)).all (fun c => isFree conf c.1 c.2) = true
      ∧ up.mayTake = true ∧ up.hif.taken = [] ∧ up.sys.recovery = false ∧ up.storesWf = true
      ∧ opcodes.all (fun c => opForm c (cmd (zs 225)) == 0x2003 && opForm c (cmd (zs 3) (if opExt c then none else some [0])) == 0x2004) = true
      ∧ State.reset.mayTake = false := by decide +kernel

theorem witness_SystemCommands :
    let dip : State := { up with sys := { up.sys with low := 2 } }
    isFree up 0x0101 (cmd []) = true ∧ isFree conf 0x0105 (pay [1] 8) = true ∧ conf.op = .config ∧ uAt 8 (pay [1] 8).payload 0 < 2 ^ 32 * 1000000000
      ∧ isFree up 0x0102 (cmd []) = true ∧ up.op = .ready ∧ isFree conf 0x0103 (cmd []) = true ∧ conf.engOk = true ∧ conf.cfg.uncommitted = false
      ∧ isFree up 0x0104 (pay [0, 1] 4) = true ∧ isFree up 0x0104 (pay [1, 11] 4) = true ∧ isFree up 0x0104 (pay [1, 9] 4) = true ∧ up.sys.rstReq = none
      ∧ [1, 2, 3].all (fun c => isFree up 0x0C01 (pay [c] 4) && isFree dip 0x0C01 (pay [c] 4)) = true ∧ up.cfg.uncommitted = false
      ∧ up.inDip = false ∧ dip.inDip = true ∧ dip.op = .ready := by decide +kernel

/-- In CONFIG with both sessions open, session 9. -/
def sess (b : Bool) : State := { conf with cfg := { conf.cfg with
  cfgSess := if b then none else some ⟨9, 0⟩, safSess := if b then some ⟨9, 0⟩ else none, issued := [9] } }

/-- An object of a kind with `n` zero bytes of fields. -/
def objPage (kind n : Nat) : List Byte := leBytes 2 (kind * 1024) ++ [1, 0] ++ leBytes 4 n ++ leBytes 4 (crc32c (zs n)) ++ zs n

theorem witness_ConfigurationSession :
    let a := objPage 0x04 16
    let b := objPage 0x03 52
    conf.op = .config ∧ isFree conf 0x0201 (cmd []) = true ∧ conf.cfg.cfgSess = none ∧ conf.cfg.issued.length + 2 ≤ 2 ^ 32
      ∧ isFree (sess false) 0x0202 (cmd []) = true ∧ (sess false).cfg.cfgSess.map (·.id) = some (cmd []).session.toNat ∧ (cmd []).session.toNat ≠ 0
      ∧ isFree conf 0x0207 (cmd []) = true
      ∧ isFree (sess false) 0x0203 (cmd [] (some a)) = true ∧ idExists (uAt 2 a 0) = true ∧ objBad a = none ∧ kindSafety (idKind (uAt 2 a 0)) = false
      ∧ isFree (sess true) 0x0203 (cmd [] (some b)) = true ∧ idExists (uAt 2 b 0) = true ∧ objBad b = none ∧ kindSafety (idKind (uAt 2 b 0)) = true
      ∧ (sess true).cfg.safSess.map (·.id) = some 9
      ∧ isFree (sess false) 0x0205 (pay [0, 0x10] 4) = true ∧ isFree up 0x0204 (pay [0, 0x10, 1] 4) = true ∧ idExists 0x1000 = true := by
  decide +kernel

/-- A transfer of `kind` in the session of `sess`, with `got` of `total` bytes. -/
def xfer (kind total : Nat) (got : List Byte) : State :=
  { sess false with cfg := { (sess false).cfg with xfer := some ⟨kind, 0, total, got, 0⟩ } }

theorem witness_ConfigurationCommit :
    let s := sess false
    let bad : State := { s with cfg := { s.cfg with staged := [⟨0x0000, 1, []⟩] } }
    let r := xfer 4 4 [1, 2]
    let n (b : List Byte) (k : Nat) : HCmd := cmd (leBytes 4 k ++ zs 4) (some b)
    isFree s 0x0206 (cmd []) = true ∧ s.op = .config ∧ s.cfg.load = none ∧ s.writesHeld = false ∧ s.commitFault (putObjs s.cfg.objs s.cfg.staged) s.cfg.imgs [] [] = none
      ∧ isFree bad 0x0206 (cmd []) = true ∧ (bad.commitFault (putObjs bad.cfg.objs bad.cfg.staged) bad.cfg.imgs bad.cfg.staged []).isSome = true
      ∧ isFree s 0x0208 (pay [5, 7, 0, 0, 8, 17] 8) = true ∧ s.whyImg 5 (pay [] 8) = 0 ∧ 7 < imgSlots 5 ∧ s.imgFits 5 7 4360 = true ∧ s.cfg.xfer = none
      ∧ s.whyImg 3 (pay [] 8) = 0 ∧ s.poolBusy = false ∧ r.cfg.xfer ≠ none ∧ r.whyImg 5 (pay [] 8) = 0 ∧ isFree r 0x0208 (pay [5, 0, 0, 0, 8, 17] 8) = true
      ∧ isFree r 0x0209 (n [3, 4] 2) = true ∧ isFree r 0x0209 (n [3] 1) = true ∧ isFree r 0x020B (cmd []) = true ∧ isFree r 0x020A (cmd []) = true := by
  decide +kernel

/-- A lease of a qualified unit heard in frame `f`. -/
def leaseAt (f : Nat) : LeaseSt := ⟨1, 0, 2, 0, 255, 4, 0, f, 0, 0, 0, 0, 0, 0, some f, some f⟩

/-- A set of two units, this one 0 and the other a qualified standby, in frame 40. -/
def pair : State :=
  let s := (up.fset RED_CFG.SET_N 2).fset RED_CFG.UNIT 0
  { s with time := { s.time with ns := 401000000, frame := 40, inFrame := true }, red := { s.red with leases := [none, some (leaseAt 40), none] } }

theorem witness_RedundancyCommands :
    let r : State := { pair with role := .ready }
    let other : State := { pair.fset RED_ROLE.HOLDER 1 with role := .ready, red := { pair.red with leases := [none, some { leaseAt 40 with hash := 1 }, none] } }
    isFree r 0x0401 (cmd []) = true ∧ r.role = .ready ∧ r.red.bootAt + 2 * r.keyLease ≤ r.time.frame ∧ recent r.time.frame (2 * r.keyLease) r.red.claimAt = false
      ∧ isFree pair 0x0402 (pay [1, 2] 4) = true ∧ isFree pair 0x0402 (pay [2, 31] 4) = true ∧ pair.role.holds = true ∧ pair.successor = some 1 ∧ pair.successor ≠ some 2
      ∧ isFree pair 0x0403 (pay [0] 4) = true ∧ pair.successor = some 1 ∧ isFree up 0x0403 (pay [0] 4) = true ∧ up.successor = none
      ∧ isFree up 0x0403 (pay [1] 4) = true ∧ isFree r 0x0404 (cmd []) = true ∧ r.hashDiff = false ∧ isFree other 0x0404 (cmd []) = true ∧ other.hashDiff = true ∧ r.op = .ready ∧ isFree up 0x0405 (cmd []) = true := by decide +kernel

/-- A stored password record whose hash is right for `pw`, or is not. -/
def pwRec (pw : List Byte) (b : Bool) : PwRec := ⟨zs 16, if b then pbkdf2 pw (zs 16) pwIter else 0 :: pbkdf2 pw (zs 16) pwIter⟩

theorem witness_password (pw : List Byte) : pwMatch (pwRec pw true) pw = true ∧ pwMatch (pwRec pw false) pw = false := by
  simp [pwMatch, pwRec]

theorem witness_SafetyConfiguration :
    let s : State := { conf with saf := { conf.saf with pw := some ⟨zs 16, []⟩ } }
    let late : State := { s with d0 := { s.d0 with pwFails := 3 }, saf := { s.saf with pwAt := 1 } }
    let p := pay ([0, 8] ++ zs 34 ++ ascii "~!aaaaaa") 68
    let good : State := ((sess true).fset SAF_STATUS.SA_OK 1).fset SAF_STATUS.SB_OK 1
    let dead : State := good.fset SAF_STATUS.SB_OK 0
    isFree s 0x0501 (pay [] 8) = true ∧ isFree s 0x0501 (pay [] 32) = true ∧ s.cfg.safSess = none ∧ s.cfg.issued.length + 2 ≤ 2 ^ 32 ∧ s.pwWait = 0
      ∧ isFree late 0x0501 (pay [] 8) = true ∧ late.pwWait ≠ 0
      ∧ isFree (sess true) 0x0502 (cmd []) = true ∧ (sess true).cfg.safSess.map (·.id) = some 9
      ∧ isFree conf 0x0503 p = true ∧ conf.saf.pw = none ∧ byteAt p.payload 0 = 0 ∧ ((p.payload.drop 36).take 8).all (fun c => decide (0x21 ≤ c.toNat) && decide (c.toNat ≤ 0x7E)) = true
      ∧ conf.writesHeld = false ∧ isFree good 0x0504 (cmd []) = true ∧ good.cfg.load = none
      ∧ good.commitFault (putObjs good.cfg.objs []) good.cfg.imgs [] [] = none ∧ good.chanOk 0 = true ∧ good.chanOk 1 = true
      ∧ good.writesHeld = false ∧ good.cfg.safSess.map (·.id) = some 9
      ∧ isFree dead 0x0504 (cmd []) = true ∧ (dead.chanOk 0 && dead.chanOk 1) = false := by decide +kernel

theorem witness_SafetyCommands :
    let s := sess true
    let src := s.fput SAF_CFG.RST_SRC true
    let arm := src.fset SAF_STATUS.ARMED 5
    isFree up 0x0505 (pay [15, 0, 0, 0, 2, 2, 2, 2] 8) = true ∧ up.ackWhy 0 2 = some 1 ∧ isFree up 0x0505 (pay [15, 0, 0, 0, 1, 1, 1, 1] 8) = true
      ∧ (∀ g, g < 4 → up.ackWhy g 1 = none)
      ∧ isFree s 0x0506 (cmd []) = true ∧ (up.fput SAF_CFG.RST_SRC false).fbit SAF_CFG.RST_SRC = false ∧ isFree src 0x0506 (cmd []) = true ∧ src.fget SAF_STATUS.ARMED = 0
      ∧ isFree arm 0x0506 (cmd []) = true ∧ arm.fbit SAF_CFG.RST_SRC = true ∧ arm.fget SAF_STATUS.ARMED ≠ 0 ∧ arm.cfg.safSess.map (·.id) = some 9
      ∧ isFree (s.fput SAF_CFG.RST_SRC false) 0x0506 (cmd []) = true ∧ (s.fput SAF_CFG.RST_SRC false).fget SAF_STATUS.ARMED = 0
      ∧ isFree (arm.fput SAF_CFG.RST_SRC false) 0x0506 (cmd []) = true ∧ (arm.fput SAF_CFG.RST_SRC false).fget SAF_STATUS.ARMED ≠ 0
      ∧ isFree up 0x0507 (pay [15] 4) = true ∧ bit ({ up with saf := { up.saf with latch := [0, 0] } }.latch 0) 3 = false := by decide +kernel

theorem witness_LogicCommands :
    let run := up.fset LOG_STATUS.STATE lgRunning
    let stop := up.fset LOG_STATUS.STATE lgStopped
    let sby : State := { run.fput RED_ROLE.QUALIFIED true with role := .standby, lgc := { run.lgc with pend := some [] } }
    let host : State := { up with cfg := { up.cfg with objs := [⟨0x2000, 1, leBytes 4 1024 ++ leBytes 4 8 ++ [1, 2, 0, 0]⟩] } }
    let img : State := { up with lgc := { up.lgc with img := some [] } }
    let lost := stop.fset LOG_STATUS.LE_RETIRED 3
    let shed : State := { stop with sys := { stop.sys with domOn := 0xFBF } }
    let badC : State := { stop with lgc := { stop.lgc with img := some (zs 6 ++ [1] ++ zs 10) } }
    stop.fget LOG_STATUS.LE_RETIRED ≠ 3 ∧ bit stop.sys.domOn 6 = true ∧ stop.lgc.img = none
      ∧ gives (.logStart (cmd [])) lost (fun t => t.lgState == lgFault && t.fget LOG_STATUS.ERR == 8) = true
      ∧ gives (.logStart (cmd [])) shed (fun t => t.lgState == lgFault && t.fget LOG_STATUS.ERR == 9) = true
      ∧ gives (.logStart (cmd [])) badC (fun t => t.lgState == lgFault && t.fget LOG_STATUS.ERR == 4) = true
      ∧ isFree stop 0x0601 (cmd []) = true ∧ stop.lgState = lgStopped ∧ isFree run 0x0601 (cmd []) = true ∧ run.lgState ≠ lgStopped ∧ run.lgState ≠ lgFault
      ∧ isFree run 0x0602 (cmd []) = true ∧ isFree stop 0x0602 (cmd []) = true ∧ stop.lgState ≠ lgRunning
      ∧ isFree sby 0x0603 (cmd []) = true ∧ sby.fbit RED_ROLE.QUALIFIED = true ∧ sby.lgState = lgRunning ∧ sby.lgc.pend.isSome = true
      ∧ isFree host 0x0605 (pay [7, 4, 0, 0, 1] 12) = true ∧ host.ptInfo 1031 = (1, 2) ∧ (host.ptInfo 1032).2 ≠ 2 ∧ isFree host 0x0605 (pay [8, 4] 12) = true
      ∧ isFree img 0x020E (pay [] 4) = true ∧ img.lgc.img.isSome = true ∧ img.writesHeld = false ∧ img.fget LOG_PROG_ID.ID = 0 ∧ isFree img 0x020E (pay [1] 4) = true := by
  decide +kernel

theorem witness_GnssAndSendCommands :
    let en := up.fput GNS_CFG.EN true
    let busy := en.fput GNS_SNAP_STAT.BUSY true
    let ent : CanEnt := ⟨⟨1, false, false, false, 0, []⟩, 0, none, none, 0⟩
    let full : State := { up with can := { up.can with ctl := up.can.ctl.set 7 { up.ctl 7 with queue := List.replicate 64 ent } } }
    let fd := up.fput (fldAt CAN_CTRL.FD_EN 7) true
    let noFd := up.fput (fldAt CAN_CTRL.FD_EN 7) false
    let tx : State := { up with can := { up.can with uart := up.can.uart.set 15 { up.uart 15 with tx := [[1]] } } }
    isFree en 0x0701 (cmd []) = true ∧ en.fbit GNS_CFG.EN = true ∧ en.snapOk = true ∧ isFree busy 0x0701 (cmd []) = true ∧ busy.snapOk = false
      ∧ isFree conf 0x0702 (pay [7] 4) = true ∧ isFree conf 0x0702 (pay [0] 4) = true ∧ conf.op = .config
      ∧ isFree up 0x0801 (pay [7, 0, 15, 0, 0xFF, 7] 80) = true ∧ isFree noFd 0x0801 (pay [7, 2, 0] 80) = true ∧ noFd.cctrl CAN_CTRL.FD_EN 7 = false
      ∧ isFree fd 0x0801 (pay [7, 3, 8, 0, 0xFF, 0xFF, 0xFF, 0x1F] 80) = true ∧ fd.cctrl CAN_CTRL.FD_EN 7 = true ∧ isFree full 0x0801 (pay [7] 80) = true
      ∧ (full.ctl 7).queue.length = 64 ∧ (up.ctl 7).queue.length < 64
      ∧ isFree up 0x0802 (pay [15, 0, 1] 5) = true ∧ isFree up 0x0802 (pay [15, 0, 200] 204) = true ∧ (up.uart 15).tx = [] ∧ isFree tx 0x0802 (pay [15, 0, 1] 5) = true
      ∧ (tx.uart 15).tx ≠ [] := by decide +kernel

theorem witness_FilterAndPanelCommands :
    let s := sdfUp false
    let named : List Nat := (upTo 32).filter (fun n => bit 0x10 n && (s.sdfCh n).isNone)
    let panel : State := { up with cfg := { up.cfg with objs := [⟨0x6000, 1, zs 28 ++ [31, 31] ++ List.replicate 510 255⟩] } }.fset PNL_CFG.NDRV 1
    let queued : State := { panel with pnl := { panel.pnl with pods := [(31, ⟨none, none, some [0, 0], 0⟩)] } }
    isFree s 0x0901 (pay [0x10] 4) = true ∧ named = [4] ∧ s.startErr 4 (s.sdfRunning ++ []) = 0 ∧ isFree up 0x0901 (pay [1] 4) = true ∧ up.startErr 0 (up.sdfRunning ++ []) ≠ 0
      ∧ isFree (sdfUp true) 0x0902 (pay [0x10] 4) = true ∧ bit 0x10 4 = true ∧ bit 0x10 5 = false
      ∧ isFree panel 0x0A01 (pay [31, 0, 2] 5) = true ∧ (panel.podSegs 31).length = 2 ∧ isFree panel 0x0A01 (pay [31, 0, 1] 5) = true
      ∧ isFree queued 0x0A01 (pay [31, 0, 2] 5) = true ∧ (queued.pod 31).queue.isSome = true ∧ isFree up 0x0A02 (cmd []) = true := by decide +kernel

theorem witness_DiagnosticCommands :
    let h : Harv := ⟨1, 0, 0, 0, 0⟩
    let full : State := { up with dia := { up.dia with harv := List.replicate 8 h } }
    let rpl : State := conf.rplEnter false 0
    let blk : List Byte := leBytes 4 0x43525847 ++ leBytes 8 0 ++ zs 16
    let block : List Byte := blk ++ leBytes 4 (crc32c blk)
    let fullR : State := { rpl with dia := { rpl.dia with rpl := rpl.dia.rpl.map (fun r => { r with blocks := List.replicate 64 [] }) } }
    isFree up 0x0B01 (pay [] 4) = true ∧ isFree full 0x0B01 (pay [] 4) = true ∧ 8 ≤ full.dia.harv.length ∧ up.dia.harv.length < 8
      ∧ isFree up 0x0B02 (pay [2, 3] 4) = true ∧ isFree up 0x0B03 (pay [0, 0, 0, 0, 0, 0, 0, 0, 1] 12) = true ∧ isFree up 0x0B03 (pay [0, 0, 0, 0, 0, 0, 0, 0, 0, 16] 12) = true
      ∧ isFree up 0x0B04 (pay [0, 0, 1] 4) = true ∧ isFree up 0x0B04 (pay [0, 0, 0, 16] 4) = true
      ∧ isFree up 0x0B05 (pay [3, 0, 7] 4) = true ∧ 7 < clsCount 3 ∧ isFree up 0x0B05 (pay [0, 0, 255] 4) = true ∧ 255 < clsCount 0
      ∧ isFree conf 0x0B06 (pay [1] 12) = true ∧ conf.op = .config ∧ conf.cfg.uncommitted = false
      ∧ isFree rpl 0x0B07 (cmd [] (some block)) = true ∧ rpl.op = .replay ∧ rpl.dia.rpl.isSome = true ∧ rpl.dia.rpl.map (·.flash) = some false
      ∧ rpl.fget DIA_RPL_STAT.STATE ≠ rplStopped ∧ blockOk block = true ∧ fullR.dia.rpl.map (·.blocks.length) = some 64 ∧ isFree fullR 0x0B07 (cmd [] (some block)) = true
      ∧ isFree rpl 0x0B08 (cmd []) = true := by decide +kernel

/-- `up` with an entry and its page waiting in slot 0 of the command ring. -/
def ringWith (op : Nat) (h : HCmd) : State := ((up.wrB rgnCmd 0 (entryBytes op h)).wrB rgnXp 0 (pageOf h)).fset HIF_CMD_PI.PI 1

theorem witness_CommandIntake :
    let bad := up.fset HIF_CMD_PI.PI 1
    up.mayTake = true ∧ up.storesWf = true ∧ up.fget HIF_CMD_PI.PI = up.fget HIF_CMD_CI.IDX
      ∧ ([(0x0101, cmd []), (0x0203, cmd [] (some [1])), (0x0209, cmd (zs 8) (some [1, 2])), (0x0305, cmd [] (some trackPage)), (0x0507, pay [1] 4)]
          : List (Nat × HCmd)).all (fun c => let s := ringWith c.1 c.2
            s.mayTake && s.storesWf && s.fget HIF_CMD_PI.PI != s.fget HIF_CMD_CI.IDX && decide (s.rdB rgnCmd 0 256 = entryBytes c.1 c.2)
              && decide (s.rdB rgnXp 0 (pageOf c.2).length = pageOf c.2)) = true
      ∧ bad.mayTake = true ∧ bad.storesWf = true ∧ entryFault (bad.rdB rgnCmd 0 256) (bad.rdB rgnXp 0 0) = 0x2001 := by decide +kernel

/-- `s` at the instant `n` ns. -/
def atNs (n : Nat) (s : State) : State := { s with time := { s.time with ns := BitVec.ofNat 64 n } }

theorem witness_SafetyInputs :
    let s := (atNs 200000000 up).fset SAF_EST_MAP.MAP 0xF
    let d : State := { s with saf := { s.saf with diffAt := [some 0, none, none, none], msgs := [⟨1, 3⟩], press := true, both := true } }
    let r := ((d.fput SAF_ESTOP.RST_A true).fput SAF_ESTOP.RST_B true).fput SAF_CFG.RST_SRC false
    let v (s : State) : State := (s.advance 0).estopChange (s.fget SAF_ESTOP.LEVEL_A) (s.fget SAF_ESTOP.LEVEL_B) false false
    let a := r.fset SAF_STATUS.ARMED 1
    let early := (atNs 50000000 r).fset SAF_STATUS.ARMED 1
    ok d = true ∧ (d.advance 0).estMap 0 ≠ 0 ∧ (d.saf.diffAt.getD 0 none).any (fun t => decide (t + d.discT < (d.advance 0).now)) = true ∧ (d.advance 0).saf.msgs = [⟨1, 3⟩]
      ∧ ok r = true ∧ (r.advance 0).saf.press = true ∧ (r.advance 0).fbit SAF_CFG.RST_SRC = false ∧ (v r).fget SAF_STATUS.ARMED = 0
      ∧ ok (a.fput SAF_CFG.RST_SRC true) = true ∧ (v (a.fput SAF_CFG.RST_SRC true)).pressOk = true ∧ (v (a.fput SAF_CFG.RST_SRC true)).fget SAF_STATUS.ARMED ≠ 0
      ∧ ok a = true ∧ (v a).fget SAF_STATUS.ARMED ≠ 0 ∧ (v a).pressOk = true ∧ ok early = true ∧ (v early).pressOk = false := by decide +kernel

/-- An allocation of frame 1 with slot 0 to be solved, not started, started or released by its parts. -/
def alloc (started : Bool) (slots : List SlotSt) : AllocSt :=
  ⟨1, [], 1, 0, 0, [], 0, false, [], started, slots, [], [], 0, false, none, false, [], none, 0, false, false, false⟩

/-- An empty result. -/
def outA : SlotOut := ⟨[0], [], [], [], [], []⟩

/-- A slot to be solved. -/
def slotA : SlotSt := ⟨0, 0, true, false, outA, [some outA], none, stNotRun⟩

/-- `s` with one allocation. -/
def withAlloc (a : AllocSt) (s : State) : State := { s with slv := { s.slv with allocs := [a] } }

theorem witness_SafetyChannelFaults :
    let s : State := { ((atNs 600000000000 up).fput SAF_CFG.TPULSE true).fset SAF_STATUS.SB_OK 1 with
      saf := { up.saf with out := [15, 15] }, cfg := { up.cfg with safSess := some ⟨9, 0⟩ } }
    let y := atNs 599999999999 s
    let p (n : Nat) : State := (atNs n s).advance 0
    (p 750000000).pulseDue 1 = true ∧ (p 750299999).pulseDue 1 = true ∧ (p 750300000).pulseDue 1 = false ∧ (p 749999999).pulseDue 1 = false
      ∧ (p 250000000).pulseDue 0 = true ∧ (p 750000000).saf.pulseTo.length = 2 ∧ (p 750000000).chanOk 1 = true ∧ (p 750000000).fbit SAF_CFG.TPULSE = true
      ∧ ok s = true ∧ (s.advance 0).fbit SAF_CFG.TPULSE = true ∧ (s.advance 0).chanOk 1 = true ∧ 1 &&& (s.advance 0).safOut 1 ≠ 0 ∧ 16 &&& (s.advance 0).safOut 1 = 0
      ∧ (s.advance 0).sys.rstReq = none ∧ (s.advance 0).cfg.safSess = some ⟨9, 0⟩ ∧ (s.advance 0).hif.taken = [] ∧ 0 + 600000000000 ≤ (s.advance 0).now
      ∧ ok y = true ∧ (y.advance 0).now < 0 + 600000000000 := by decide +kernel

theorem witness_ErrorsAndTimeouts :
    let s : State := { atNs 600000000000 up with cfg := { up.cfg with cfgSess := some ⟨9, 0⟩, xfer := some ⟨1, 0, 4, [], 540000000000⟩ } }
    let y := atNs 599999999999 s
    let l : State := { up with dia := { up.dia with leakMs := 7 } }
    let w : State := (withAlloc { alloc true [slotA] with busy := [(1, 0)] } (inFrame up 50 true)).advance 0
    ok w = true ∧ (w.allocOf w.time.frame).map (fun a => a.busy.head?) = some (some (1, 0)) ∧ w.engDead 8 = false ∧ w.dia.poison = []
      ∧ (s.advance 0).slv.mpc = none ∧ (s.advance 0).slv.scen = none ∧ (s.advance 0).allocOf (s.advance 0).time.frame = none
      ∧ ok s = true ∧ (s.advance 0).hif.taken = [] ∧ 0 + 600000000000 ≤ (s.advance 0).now ∧ 540000000000 + 60000000000 ≤ (s.advance 0).now
      ∧ ok y = true ∧ (y.advance 0).now < 0 + 600000000000 ∧ (y.advance 0).now < 540000000000 + 60000000000
      ∧ [0, 3, 15].all (fun e => !(s.advance 0).engDead e) = true ∧ ok l = true ∧ (l.advance 0).now / 1000000 ≤ (l.advance 0).dia.leakMs
      ∧ (s.advance 0).dia.leakMs < (s.advance 0).now / 1000000 := by decide +kernel

/-- The first byte of the transmit page lies in its area. -/
theorem witness_ErrorsAndTimeouts_area :
    fixedAreas.find? (fun x => decide (x.2.2.1 ≤ sramBase rgnXp) && decide (sramBase rgnXp < x.2.2.1 + x.2.2.2)) = some (rgnXp, 0, sramBase rgnXp, 0x40000) := by
  simp [fixedAreas, fixedSizes, rgnXp]

theorem witness_RecordingOnItsOwn :
    let e (k : Nat) : RecEntry := ⟨k, 0, zs 4100⟩
    let s : State := { atNs 600000000000 up with recd := { up.recd with staged := [e 1], sink := 1 }, d0 := { up.d0 with queue := [⟨0, 0, 1, [1]⟩] } }
    let t : State := (({ s with recd := { s.recd with staged := [e 2], sink := 2 } }).fput (fldAt NET_PORT_CFG.EN 0) true).fput (fldAt NET_PORT_STAT.LINK 0) true
    let held : State := { s with sys := { s.sys with holdOk := false } }
    let man (f : Nat) : RecIn := ⟨0, f, 1, true, zs 64⟩
    let rp : State := { conf.rplEnter false 0 with dia := { conf.dia with rpl := (conf.rplEnter false 0).dia.rpl.map (fun r =>
      { r with run := some [], k := 6, ents := [man 7, man 8] }) } }
    let hin : State := { up with diaF := [(aDIA_CFG, BitVec.ofNat 32 (2 ^ DIA_CFG.HIN_EN.lo))] }
    ok s = true ∧ ok t = true ∧ ok held = true ∧ ok hin = true ∧ hin.dget DIA_CFG.HIN_EN ≠ 0
      ∧ (s.advance 0).writesHeld = false ∧ (held.advance 0).writesHeld = true ∧ (s.advance 0).d0.queue.head?.isSome = true ∧ (s.advance 0).d0.lostNew = 0
      ∧ ((s.advance 0).recNext 1 false).isSome = true ∧ ((t.advance 0).recNext 2 false).isSome = true ∧ (t.advance 0).ethOn 0 = true
      ∧ (t.advance 0).fbit (fldAt NET_PORT_STAT.LINK 0) = true ∧ (s.advance 0).recd.sink ≠ 0 ∧ (s.advance 0).time.cutDone = false
      ∧ (s.advance 0).recd.ckptAt + (s.advance 0).dget DIA_CFG.CKPT_INT * 1000000000 ≤ (s.advance 0).now
      ∧ ok rp = true ∧ (rp.advance 0).op = .replay ∧ (rp.advance 0).hif.taken = [] ∧ (rp.advance 0).fget DIA_RPL_STAT.STATE ≠ rplStopped
      ∧ (rp.advance 0).fget DIA_RPL_STAT.STATE ≠ rplDone
      ∧ (rp.advance 0).dia.rpl.map (fun r => (r.run.isSome, manPlaces r.ents, (entMan (man 7)).frame == (r.k + 1) % 2 ^ 32)) = some (true, [0, 1], true) := by
  decide +kernel

theorem witness_FrameStart :
    let b := atNs 70000000 up
    let c := inFrame up 20 false
    let m := entMan ⟨0, 1, 1, true, zs 64⟩
    let y : State := { c with role := .standby, red := { c.red with nextMan := some m } }
    let w : State := { up with time := { up.time with slewLeft := 5 } }
    ok b = true ∧ (b.advance 0).hif.taken = [] ∧ (b.advance 0).boundDue = true ∧ (b.advance 0).time.armed = none ∧ (c.advance 0).boundDue = false
      ∧ ok w = true ∧ (w.advance 0).time.slewLeft ≠ 0 ∧ (up.advance 0).time.slewLeft = 0
      ∧ ok c = true ∧ (c.advance 0).cutDue = true ∧ (inFrame up 19 false).cutDue = false ∧ (upTo 3).all (fun v => v == (c.advance 0).unit || ((c.advance 0).standbyLease v).all (fun l => decide (l.mis < 8))) = true ∧ (c.advance 0).role ≠ .standby ∧ (c.advance 0).dispatches = true
      ∧ ok y = true ∧ (y.advance 0).cutDue = true ∧ (y.advance 0).red.nextMan = some m ∧ m.frame = (y.advance 0).time.frame := by decide +kernel

/-- `s` with the fusion, the observer and the law of frame 1 done, in that order, up to `n`. -/
def donePhases (n : Nat) (s : State) : State :=
  { s with fus := { s.fus with doneK := if 0 < n then some 1 else none }
           cex := { s.cex with commitK := if 1 < n then some 1 else none, lawK := if 2 < n then some 1 else none } }

theorem witness_FramePhases :
    let s (h n : Nat) : State := (donePhases n (inFrame up h true)).advance 0
    let al (h : Nat) : State := (withAlloc (alloc false [slotA]) (donePhases 3 (inFrame up h true))).advance 0
    let run (h : Nat) : State := (withAlloc { alloc true [slotA] with pass := 1 } (donePhases 3 (inFrame up h true))).advance 0
    let bad (r : Nat) : State := { s 35 0 with dia := { (s 35 0).dia with poison := [(r, 5)] } }
    ok (s 35 0) = true ∧ (s 35 0).shift = 0 ∧ (s 35 0).inputsIn = true ∧ (s 35 0).isNow (s 35 0).fus.doneK = false ∧ 0 < (s 35 0).feLive ∧ (s 35 0).upToPct 35 = true
      ∧ ok (bad 1) = true ∧ (bad 1).dia.poison.any (fun w => w.1 == 1) = true ∧ (bad 2).dia.poison.all (fun w => w.1 != 1) = true ∧ (s 35 0).dia.poison = []
      ∧ (s 42 1).isNow (s 42 1).fus.doneK = true ∧ (s 42 1).isNow (s 42 1).cex.commitK = false ∧ (s 42 1).upToPct 42 = true
      ∧ (s 42 1).ceLive.contains ((s 42 1).fget CEX_ASSIGN.OBS) = true ∧ (s 42 1).ceLive.contains ((s 42 1).fget CEX_ASSIGN.LAW) = true
      ∧ (s 42 2).isNow (s 42 2).cex.commitK = true ∧ (s 42 2).isNow (s 42 2).cex.lawK = false
      ∧ (al 42).isNow (al 42).cex.lawK = true ∧ (al 42).past 42 = true ∧ 0 < (al 42).seLive ∧ ((al 42).allocOf 1).map (·.started) = some false ∧ (al 42).inputsIn = true
      ∧ (s 35 0).past 35 = true ∧ (s 42 1).past 42 = true ∧ bit (s 42 1).red.late 3 = false
      ∧ (run 70).runs = true ∧ (run 70).role ≠ .none ∧ ((run 70).allocOf 1).map (fun a => (a.started, a.compared)) = some (true, false) ∧ (run 70).past 70 = true
      ∧ (run 80).past 80 = true ∧ (run 80).dispatches = true ∧ ((run 80).allocOf 1).map (fun a => (a.sent, a.pick.isSome)) = some (none, true) := by decide +kernel

theorem witness_Solves :
    let a : AllocSt := { alloc true (List.replicate 16 slotA) with busy := [(0, 0), (1, 15)], todo := [1] }
    let s (h : Nat) : State := (withAlloc a (donePhases 3 (inFrame up h true))).advance 0
    let m (x : Option MpcRes) : MpcRun := ⟨1, false, resetObsX, ⟨[], [], [], [], [], [], false⟩, 0, x⟩
    let r : MpcRes := ⟨1, 5, [], 0, 1⟩
    let mpc (x : Option MpcRes) : State := ({ inFrame up 25 true with slv := { up.slv with mpc := some (m x), scen := some (15, m x) } }).advance 0
    let late : State := { mpc none with time := { (mpc none).time with ns := 60000000 } }
    let spec : State := ({ mpc (some r) with slv := { up.slv with mpc := some { m (some r) with spec := true } } }).advance 0
    ok (s 65) = true ∧ [0, 15].all (fun i => decide ((s 65).slotOpen i = some a)) = true ∧ (s 65).slotOpen 1 = none ∧ a.slots.length = 16
      ∧ (s 65).upToPct (65 + (s 65).shift) = true ∧ (s 65).past (65 + (s 65).shift) = true ∧ (s 65).now ≤ (s 65).atPct 1 (65 + (s 65).shift) + 5000
      ∧ (s 66).upToPct (65 + (s 66).shift) = false ∧ (s 64).past (65 + (s 64).shift) = false
      ∧ ok (mpc none) = true ∧ (mpc none).slv.mpc.map (·.stop) = some none ∧ (mpc none).mpcSuspended = false ∧ late.mpcSuspended = false ∧ ok late = true
      ∧ (mpc none).slv.scen.map (fun x => (x.1, x.2.stop)) = some (15, none) ∧ late.fOf (1 + late.mpcM) ≤ late.now
      ∧ ok (mpc (some r)) = true ∧ (mpc (some r)).time.cutDone = true ∧ r.setAt ≤ (mpc (some r)).time.frame ∧ (mpc (some r)).role ≠ .standby
      ∧ ok spec = true ∧ spec.slv.mpc.map (·.spec) = some true ∧ stStatus r.stat ≠ 5 ∧ stStatus 5 = 5 := by decide +kernel

theorem witness_CheckAndDispatch :
    let s (h : Nat) (a : AllocSt) : State := (withAlloc a (donePhases 3 (((inFrame up h true).fset SAF_STATUS.SA_OK 1).fset SAF_STATUS.SB_OK 1))).advance 0
    let a := alloc true [slotA]
    let words (x y : List Byte) : State := { s 70 a with saf := { up.saf with words := [some ⟨1, x, [0]⟩, some ⟨1, y, [0]⟩] } }
    let done : AllocSt := { a with compared := true, pass := 1 }
    let none_ : State := { s 70 a with role := .none }
    let alone : State := { (s 70 a).fset SAF_STATUS.SA_OK 0 with role := .none, saf := { up.saf with latch := [15, 0] } }
    let empty : State := { s 70 a with slv := up.slv }
    let armed : State := { s 80 a with saf := { up.saf with sf4On := true } }
    let sent : State := { s 80 a with saf := { up.saf with cmdK := some 1 } }
    ok (s 65 a) = true ∧ (s 65 a).past (65 + (s 65 a).shift) = true ∧ (s 65 a).upToPct (70 + (s 65 a).shift) = true ∧ (s 65 a).runs = true ∧ (s 65 a).role ≠ .none
      ∧ (s 65 a).saf.words.length = 2 ∧ (s 65 a).chanOk 1 = true ∧ ((s 65 a).allocOf 1).map (fun x => (x.started, x.compared)) = some (true, false)
      ∧ ok none_ = true ∧ none_.role = .none ∧ none_.sf5Alone = false ∧ ok alone = true ∧ alone.sf5Alone = true ∧ (alone.allocOf 1).map (·.compared) = some false ∧ alone.runs = true
      ∧ ok empty = true ∧ empty.allocOf 1 = none ∧ empty.runs = true ∧ empty.role ≠ .none ∧ empty.past (70 + empty.shift) = true ∧ bit empty.red.late 4 = false ∧ ok (words [1] [1]) = true ∧ (words [1] [1]).past (70 + (words [1] [1]).shift) = true
      ∧ (((words [1] [2]).saf.words.getD 0 none).map (·.word) ≠ ((words [1] [2]).saf.words.getD 1 none).map (·.word)) ∧ ((words [1] [2]).fset SAF_RUN.SF5 1).fget SAF_RUN.SF5 = 1
      ∧ ok (s 70 done) = true ∧ (s 70 done).dispatchDue done = true ∧ (s 80 done).dispatchDue done = true ∧ done.pick = some 0 ∧ a.pick = none
      ∧ (s 80 a).past 80 = true ∧ (s 79 a).past 80 = false ∧ (s 80 a).dispatches = true ∧ ok armed = true ∧ armed.saf.sf4On = true ∧ armed.sf4Thr = true ∧ armed.saf.sf4K = none
      ∧ ok sent = true ∧ sent.saf.cmdK = some 1 ∧ sent.sf4Thr = true ∧ sent.time.frame = 1 ∧ armed.saf.cmdK ≠ some 1
      ∧ (armed.fset SAF_RUN.SF4 2).fget SAF_RUN.SF4 = 2 ∧ ({ s 80 a with role := .standby } : State).dispatches = false := by decide +kernel

theorem witness_SlackWork :
    let s (h : Nat) : State := (donePhases 3 (inFrame up h true)).advance 0
    let x : RetroS := ⟨1, ⟨5000000, .l32, [0], [], []⟩, 0, 0, 1, false⟩
    let r : State := { s 80 with retro := [x] }
    let m : State := { s 80 with red := { up.red with man := some (entMan ⟨0, 1, 1, true, zs 64⟩) } }
    let ck : Ckpt := ⟨1, [], up.fus, up.cex.obs, [], resetObsX, resetFix⟩
    let p : State := { s 81 with cex := { (s 81).cex with retroRun := some [x], ckpts := [ck] }, retro := [x] }
    let q : State := { p with time := { p.time with ns := 20000000 } }
    let w (i : Nat) : State := withAlloc { alloc true [slotA] with k := i } (s 80)
    ok (s 80) = true ∧ (s 80).runs = true ∧ (s 80).dispatches = true ∧ (s 80).past 80 = true ∧ m.red.man.isSome = true ∧ m.retro = [] ∧ ok m = true
      ∧ ((s 80).bounds && (s 80).time.inFrame && (s 80).past 80 && (s 80).upToPct 85) = true ∧ ((s 86).bounds && (s 86).time.inFrame && (s 86).past 80 && (s 86).upToPct 85) = false
      ∧ ok r = true ∧ r.retro.any r.retroMine = true ∧ r.isNow r.cex.commitK = true ∧ r.cex.retroRun = none
      ∧ ok p = true ∧ (p.retroCalc [x]).isSome = true ∧ p.cex.retroRun.isSome = true ∧ p.now < p.fOf 2 ∧ ok q = true ∧ q.fOf 2 ≤ q.now
      ∧ ((s 80).sliceEngs.drop 0 ++ (s 80).sliceEngs.take 0).find? (fun e => !(s 80).engDead e) = some 0 ∧ (s 80).red.nextSlice % 14 = 0
      ∧ ok (w 0) = true ∧ ((w 0).allocOf 0).map (fun a => (a.written, a.started)) = some (false, true) := by decide +kernel

/-- A PDU that stands in its fields, from node 1. -/
def pduA (ty : Nat) (p : List Byte) : Pdu := ⟨ty, 1, 0, 1, 5, p⟩

/-- The way of a PDU of type `ty` to port `n`. -/
def viaFor (s : State) (n ty : Nat) : Via :=
  if 4 ≤ n then ⟨n, none, spanIp (s.spanUnit (n - 4)), 0xFFFFFFFF, s.fget NET_PIER_CFG.BASE_PORT + 5⟩
  else ⟨n, none, 0, s.fget NET_PIER_GRP.GROUP, s.fget NET_PIER_CFG.BASE_PORT + pduPort ty⟩

/-- `takesPdu` of a PDU no port has seen, decided. -/
def isTaken (s : State) (n ty : Nat) (p : Pdu) : Bool :=
  decide (p.type = ty) && decide (p.node < 1024) && decide (p.epoch < 2 ^ 32) && decide (p.frame < 2 ^ 32) && decide (p.seq < 2 ^ 32)
    && decide (p.payload.length < 2 ^ 16) && decide (p.node ≠ s.ownNode) && s.viaOk (viaFor s n ty) (24 + p.payload.length)
    && takesType s (viaFor s n ty) ty && decide (s.net.seen = [])

theorem isTaken_spec (s : State) (n ty : Nat) (p : Pdu) (e : isTaken s n ty p = true) : takesPdu s (viaFor s n ty) ty p := by
  simp only [isTaken, Bool.and_eq_true, decide_eq_true_eq, and_assoc] at e
  obtain ⟨h1, h2, h3, h4, h5, h6, h7, h8, h9, h10⟩ := e
  exact ⟨h1, h2, h3, h4, h5, h6, h7, h8, h9, .inr (by simp [h10])⟩

/-- `s` with port 0 up and carrying the pier protocol and PTP. -/
def netUp (s : State) : State :=
  ((((s.fput (fldAt NET_PORT_CFG.EN 0) true).fput (fldAt NET_PORT_CFG.PIER 0) true).fput (fldAt NET_PORT_CFG.I450 0) true).fput
    (fldAt NET_PORT_STAT.LINK 0) true).fset TIM_PTP_CFG.PORTS 1

theorem witness_KeystoneMoves :
    let q : State := ((({ pair with role := .standby } : State).fset RED_CFG.UNIT 1).fput RED_ROLE.QUALIFIED true)
    let z (f : RedSt → RedSt) : State := ({ q with red := f { q.red with leases := [none, none, none] } } : State).advance 0
    let lapse := z (fun r => { r with validTo := some 39 })
    let obj : Obj := ⟨0x4000, 1, [9, 0, 0, 1, 1]⟩
    let proof_ : State := { lapse with cfg := { lapse.cfg with objs := [obj] }, red := { lapse.red with silent := [(9, 400000000)] } }
    let held (x : Option Nat) := z (fun r => { r with validTo := some 40, holdSpan := x })
    let plan (s : State) (b : Bool) (f : Nat) : State := ({ s with red := { s.red with plan := some (f, 1, b) } } : State).advance 0
    let late (s : State) : State := { s with time := { s.time with ns := 401000000 } }
    let zone : State := { plan (late pair) true 40 with role := .zone }
    let cancel : State := { plan pair false 42 with
      time := { pair.time with ns := 410000000 }
      red := { pair.red with plan := some (42, 1, false), leases := [none, some (leaseAt 39), none] } }
    let path : State := { late pair with red := { pair.red with
      leases := [none, some { leaseAt 40 with piersSeen := 1 }, none], spans := [{ spanOff with up := true }, spanOff] } }
    ok (z id) = true ∧ (z id).runs = true ∧ (z id).past 8 = true ∧ (z id).fget RED_CFG.SET_N ≠ 1 ∧ (z id).role = .standby
      ∧ (z id).fbit RED_ROLE.QUALIFIED = true ∧ (z id).successor = some (z id).unit ∧ (z (fun r => { r with declHolder := true })).red.declHolder = true
      ∧ lapse.red.validTo.all (fun v => decide (v < 40)) = true ∧ recent 40 lapse.keyLease lapse.red.dispAt = false ∧ lapse.silence 40 = false ∧ ok proof_ = true
      ∧ proof_.silence 40 = true ∧ lapse.fbit RED_CFG.SPLIT_POLICY = false ∧ lapse.red.declHolder = false
      ∧ (held none).red.validTo.any (fun v => decide (40 ≤ v)) = true ∧ recent 40 1 (held none).red.holdSpan = false ∧ recent 40 1 (held (some 39)).red.holdSpan = true
      ∧ ok pair = true ∧ pair.role.holds = true ∧ (plan (late pair) false 40).red.plan = some (40, 1, false) ∧ (plan (late pair) false 40).runs = true
      ∧ ok cancel = true ∧ cancel.red.plan = some (42, 1, false) ∧ cancel.boundDue = true ∧ cancel.time.armed = none ∧ cancel.cfg.load = none ∧ cancel.hif.taken = []
      ∧ 42 ≤ cancel.time.frame + 2 ∧ cancel.time.frame < 42 ∧ (cancel.lease 1).all (fun l => l.net != some 40 && l.span != some 40) = true
      ∧ ok (plan q false 40) = true ∧ (plan q true 41).red.plan = some (41, 1, true) ∧ ok zone = true ∧ zone.role = .zone ∧ zone.runs = true
      ∧ ok path = true ∧ path.runs = true ∧ recent 40 path.keyLease path.red.thrStat = false ∧ path.spansUp ≠ []
      ∧ (upTo 3).any (fun v => (path.lease v).any (fun l => bit l.flags 2 && decide (0 < l.piersSeen) && (recent 40 path.keyLease l.net || recent 40 path.keyLease l.span))) = true
      ∧ recent 40 path.keyLease (some 40) = true := by decide +kernel

theorem witness_LeasesAndSpans :
    let s := netUp up
    let sby : State := { s with role := .standby }
    let zone : State := { s with role := .zone }
    let flag (f : Nat) : Pdu := pduA pduLease ([2, 3, 0, 0, BitVec.ofNat 8 f] ++ zs 27)
    let l (role : Nat) (hash : Nat) : Pdu := pduA pduLease ([2, BitVec.ofNat 8 role] ++ zs 22 ++ leBytes 4 hash ++ zs 4)
    let sp (x : SpanSt) : State := { up with red := { up.red with spans := [spanOff, x] } }
    isTaken s 0 pduLease (l 3 0) = true ∧ ok s = true ∧ isTaken sby 0 pduLease (l 6 0) = true ∧ ok sby = true ∧ (l 3 0).payload.length = 32 ∧ byteAt (l 3 0).payload 0 < 3
      ∧ isTaken zone 0 pduLease (l 3 0) = true ∧ (zone.advance 0).role = .zone ∧ ok zone = true ∧ bit (leaseOf 0 (flag 64) none).flags 6 = true
      ∧ isTaken zone 0 pduLease (flag 64) = true ∧ (leaseOf 0 (l 5 0) none).role = 5 ∧ isTaken s 0 pduLease (l 5 0) = true ∧ (s.advance 0).red.plan = none
      ∧ (sby.advance 0).red.leases.length = 3 ∧ (sby.advance 0).role.holds = false ∧ (leaseOf 0 (l 3 0) none).role = 3 ∧ (leaseOf 0 (l 6 0) none).role = 6
      ∧ later ((sby.advance 0).fget RED_EPOCH.EPOCH) (leaseOf 0 (l 3 0) none).epoch = false ∧ (leaseOf 0 (l 3 0) none).hash = 0
      ∧ (leaseOf 0 (l 3 1) none).hash ≠ (leaseOf 0 (l 3 0) none).hash ∧ 2 ≠ (s.advance 0).unit ∧ (s.advance 0).role.holds = true
      ∧ later 1 ((s.advance 0).fget RED_EPOCH.EPOCH) = true ∧ (s.advance 0).fget RED_ROLE.HOLDER ≠ 2
      ∧ (s.advance 0).viaOk ⟨6, none, 0, 0, 0⟩ 0 = false ∧ (s.advance 0).viaOk (viaFor s 0 pduSample) 0 = true ∧ takesType (s.advance 0) (viaFor s 0 pduSample) pduLease = false
      ∧ (s.advance 0).viaOk (viaFor s 0 pduLease) 56 = true ∧ takesType (s.advance 0) (viaFor s 0 pduLease) pduLease = true ∧ pduParse pduLease [] = .format ∧ pduParse pduLease ((pduBytes (l 3 0)).dropLast ++ [1]) = .crc
      ∧ ok (sp { spanOff with up := true, last := none }) = true ∧ (sp { spanOff with up := true, last := some 0 }).red.spans.length = 2
      ∧ (none : Option Nat).all (fun f => decide (f + 3 < 0 + 1)) = true ∧ (some 0).all (fun f => decide (f + 3 < 0 + 1)) = false
      ∧ ok (sp { spanOff with run := 20 }) = true ∧ ((sp { spanOff with run := 20 }).span 1).run = 20 ∧ (sp spanOff).retired 2 1 = false
      ∧ ((sp { spanOff with run := 19 }).span 1).run < 20 := by decide +kernel

theorem witness_HealthAndRefinement :
    let img (k i : Nat) : State := { up with cfg := { up.cfg with imgs := [⟨k, i, []⟩] } }
    let min_ : State := { up with time := { up.time with ns := 60000000000, frame := 6000, inFrame := true } }
    let ref : List Byte := [0, 1] ++ zs 66
    let spoilt : State := { up with cfg := { up.cfg with imgs := [⟨1, 15, zs 200⟩] } }
    let r : State := { min_ with cfg := { up.cfg with objs := [⟨0x1400 + 15, 1, ref⟩] } }
    ok up = true ∧ (up.advance 0).role ≠ .none ∧ ok (img 1 15) = true ∧ ((img 1 15).img 1 15).isSome = true ∧ (up.advance 0).fus.imgBad.contains 15 = false
      ∧ ((img 2 0).img 2 0).isSome = true ∧ ((img 2 1).img 2 1).isSome = true ∧ ok (img 2 1) = true
      ∧ ok min_ = true ∧ (min_.advance 0).runs = true ∧ (min_.advance 0).fNow % 60000000000 = 0 ∧ (min_.advance 0).time.cutDone = false ∧ (min_.advance 0).fus.refs.length = 16
      ∧ (up.advance 0).cfg.imgs.all imgCrcOk = true ∧ (spoilt.advance 0).cfg.imgs = [⟨1, 15, zs 200⟩] ∧ imgCrcOk ⟨1, 15, zs 200⟩ = false
      ∧ (spoilt.advance 0).role ≠ .none ∧ ((spoilt.advance 0).img 1 15).isSome = true ∧ ok spoilt = true
      ∧ (up.advance 0).runs = false ∧ ok r = true ∧ (r.refCfg 15).isSome = true := by decide +kernel

theorem witness_Following :
    let s : State := (({ inFrame ((netUp up).fset RED_CFG.SET_N 2) 26 true with role := .standby } : State).advance 0)
    let m : Pdu := { pduA pduManifest (zs 64) with frame := 2 }
    let cmd_ := pduA pduCommand []
    let req : State := { s with red := { s.red with reqAt := some 1 } }
    let im (u : Nat) : Pdu := pduA pduImage (zs 8 ++ leBytes 4 8388608 ++ leBytes 4 0 ++ leBytes 2 8 ++ [BitVec.ofNat 8 u] ++ zs 5 ++ zs 8)
    let old : State := { s with time := { s.time with frame := 34, ns := 342600000 }, red := { s.red with reqAt := some 1 } }
    let cb (k : Nat) : State := { inFrame up 24 true with role := .ready, red := { up.red with catchB := some k } }
    isTaken s 4 pduManifest m = true ∧ ok s = true ∧ 64 ≤ m.payload.length ∧ m.epoch = s.fget RED_EPOCH.EPOCH ∧ byteAt m.payload 28 = 0 ∧ byteAt m.payload 29 = 0
      ∧ s.red.rx = [] ∧ s.red.reqAt = none ∧ s.red.catchB = none ∧ s.role = .standby ∧ s.runs = true ∧ 1 < expandFrame 1 m.frame ∧ s.time.frame = 1
      ∧ bit (manOf 1 0 2 (m.payload.take 64) (m.payload.drop 64)).flags 10 = false
      ∧ s.manTimeout = true ∧ ({ s with role := .active } : State).manTimeout = false ∧ s.red.unfol.contains 1 = false
      ∧ isTaken s 4 pduCommand cmd_ = false ∧ isTaken s 0 pduCommand cmd_ = true ∧ s.dispatches = false ∧ ({ s with role := .active } : State).dispatches = true
      ∧ isTaken req 4 pduImage (im req.unit) = true ∧ ok req = true ∧ byteAt (im req.unit).payload 18 = req.unit ∧ req.red.reqAt.isSome = true ∧ req.red.imgRx = none
      ∧ uAt 4 (im 0).payload 8 = 8388608 ∧ uAt 2 (im 0).payload 16 = 8 ∧ 24 + 8 ≤ (im 0).payload.length
      ∧ ok (cb 1) = true ∧ (cb 1).red.catchB = some 1 ∧ (cb 1).catchList 1 1 = some [] ∧ (cb 1).now < (cb 1).atPct 1 ((cb 1).time.cutoff + 5) ∧ (cb 0).catchList 0 1 = none
      ∧ ok old = true ∧ old.red.reqAt.any (fun r => decide (r + 32 < 34)) = true ∧ s.red.reqAt.any (fun r => decide (r + 32 < 1)) = false := by decide +kernel

theorem witness_NetworkReceive :
    let bind : List Byte := [0, 0, 1, 0] ++ [1, 0, 7, 0] ++ zs 8 ++ [20, 0, 0, 0] ++ zs 8
    let s : State := { netUp up with cfg := { up.cfg with objs := [⟨0x1C00, 1, bind⟩] } }
    let t : State := { s with ctx := tabSet ctxDflt s.ctx 20 { ctxOff with q := .empty } }
    let smp (inv : Nat) : Pdu := pduA pduSample ([1, 0, 0, 0] ++ [7, 0, BitVec.ofNat 8 inv, 4] ++ leBytes 8 1000 ++ zs 4)
    let e (inv : Nat) := sampleEntries (smp inv).payload 1 4
    let stat := pduA pduStatus [0, 0, 0, 0, 0, 0, 0, 0]
    let harv := pduA pduHarvest (leBytes 8 1000000000 ++ leBytes 4 3 ++ [1, 0, 2, 0])
    let far := pduA pduHarvest (leBytes 8 1000000001 ++ leBytes 4 3 ++ [1, 0, 2, 0])
    let full : State := { s with dia := { s.dia with harv := List.replicate 8 ⟨1, 0, 0, 0, 0⟩ } }
    let seen : State := { s with net := { s.net with harvIds := [(1, 3, 0)] } }
    let g := ((s.fset (fldAt NET_450_ADDR.GROUP 0) 5).fset (fldAt NET_450_PORT.PORT 0) 6)
    let dgram := ascii "UdPbC" ++ [0] ++ ascii "\\s:VD0001,n:1*13\\$VDHDT,0.0,T*30" ++ [13, 10]
    let line : Line450 := ⟨ascii "VD0001", none, ascii "$VDHDT,0.0,T*30"⟩
    let hdt : State := { g with cfg := { g.cfg with objs := [⟨0x1F00, 1, [3, 2, 1, 0, 0] ++ ascii "VD0001VDHDT" ++ [20, 1, 0, 0] ++ zs 8⟩] } }
    let arp : List Byte := zs 12 ++ [8, 6] ++ zs 6 ++ [0, 1] ++ zs 16 ++ beBytes 4 (s.ipOf 0)
    isTaken t 0 pduSample (smp 0) = true ∧ ok t = true ∧ (e 0).length = 1 ∧ (e 0).map (·.invalid) = [false] ∧ (upTo 8).any (fun i => (e i).map (·.invalid) == [true]) = true
      ∧ (t.bindOf 0 (fun b => uAt 2 b 0 == 1 && uAt 2 b 2 == 7)).length = 1 ∧ t.bindOf 0 (fun b => uAt 2 b 0 == 1 && uAt 2 b 2 == 8) = []
      ∧ fieldCtxs (fieldsOf bind) = [20] ∧ (t.ctxOf 20).q = .empty ∧ (t.ctxOf 20).localMode = false ∧ (t.ctxOf 20).buf = [] ∧ (e 0).map (fun x => (x.isLocal, x.rate)) = [(false, (t.ctxOf 20).hermite)]
      ∧ isTaken s 0 pduStatus stat = true ∧ ok s = true ∧ byteAt stat.payload 0 < 3 ∧ stat.payload.length = uAt 2 stat.payload 6 + 8
      ∧ isTaken s 0 pduHarvest harv = true ∧ isTaken s 0 pduHarvest far = true ∧ byteAt harv.payload 14 = 2 ∧ uAt 8 harv.payload 0 ≤ (s.advance 0).now + 1000000000
      ∧ (s.advance 0).now + 1000000000 < uAt 8 far.payload 0 ∧ full.dia.harv.length = 8 ∧ isTaken full 0 pduHarvest harv = true
      ∧ seen.net.harvIds.any (fun x => decide ((seen.advance 0).now ≤ x.2.2 + 10000000000) && x.1 == 1 && x.2.1 == 3) = true
      ∧ ok g = true ∧ (g.advance 0).ethOn 0 = true ∧ (g.advance 0).fbit (fldAt NET_PORT_CFG.I450 0) = true ∧ ((g.advance 0).slot450 5 6).isSome = true ∧ (g.advance 0).slot450 5 7 = none
      ∧ (ascii "UdPbC" ++ [0] ++ ascii "x").take 6 = ascii "UdPbC" ++ [0] ∧ ((linesOf (ascii "\\x\\y")).map lineOf).any (·.isNone) = true ∧ (zs 6).take 6 ≠ ascii "UdPbC" ++ [0]
      ∧ (linesOf ((dgram.drop 6))).map lineOf = [some line] ∧ dgram.take 6 = ascii "UdPbC" ++ [0] ∧ line.grp = none
      ∧ sentBody line.sent = some (ascii "VDHDT,0.0,T") ∧ g.net.grps = [] ∧ (g.advance 0).slot450 5 6 = some 0
      ∧ (g.advance 0).bind450 0 line.src (ascii "VDHDT,0.0,T") = [] ∧ ((hdt.advance 0).bind450 0 line.src (ascii "VDHDT,0.0,T")).length = 1 ∧ ok hdt = true
      ∧ (hdt.advance 0).ethOn 0 = true ∧ (hdt.advance 0).fbit (fldAt NET_PORT_CFG.I450 0) = true ∧ (hdt.advance 0).slot450 5 6 = some 0
      ∧ (s.advance 0).netOn = true ∧ (up.advance 0).ethOn 0 = false
      ∧ ((s.advance 0).ethIn 0 arp).any (fun x => x.2.1 == 0x0806 && beAt 2 x.2.2 6 == 1 && beAt 4 x.2.2 24 == (s.advance 0).ipOf 0) = true := by decide +kernel

theorem witness_TimeProtocol :
    let ann (port : Nat) : Ann := ⟨port, 0, 7, 128, 6, 0x21, 0, 128, 9, 0, 0, 37, 0x20, 0, ⟨none, false⟩⟩
    let dom (s : State) (f : DomSt → DomSt) : State := { s with net := { s.net with ptp := { s.net.ptp with pri := f s.net.ptp.pri } } }
    let s := dom (netUp up) (fun d => { d with masters := [⟨ann 0, 5⟩], best := some ⟨ann 0, 5⟩, paths := ⟨some (3, 0), [], 16, 0⟩ :: List.replicate 3 resetPath })
    let bc := (dom s (fun d => { d with masters := [⟨ann 1, 5⟩], best := some ⟨ann 1, 5⟩ })).fput TIM_PTP_CFG.BC true
    let p2p := s.fput TIM_PTP_CFG.DELAY true
    let tr := (s.fset TIM_SRV_STAT.SERVO svTransition).fset TIM_SRV_CFG2.TRANS_T 0
    ((dom s (fun d => { d with offRate := [(7, 0)] })).dom 0).offRate.contains (7, 0) = true ∧ (s.dom 0).offRate.contains (7, 0) = false
      ∧ ok s = true ∧ (s.advance 0).domIdx 0 = some 0 ∧ (s.advance 0).domIdx 9 = none ∧ (s.advance 0).ptpIn 0 ⟨none, false⟩ = true ∧ (s.advance 0).ptpOn 0 = true ∧ (up.advance 0).ptpOn 0 = false ∧ (s.advance 0).ptpIn 0 ⟨none, true⟩ = false
      ∧ (tr.advance 0).servo ≠ svFree ∧ ((s.advance 0).dom 1).best = none ∧ ((up.advance 0).dom 0).best = none ∧ ((s.advance 0).dom 0).best.any (fun b => b.ann.src == 7 && b.ann.port == 0) = true
      ∧ ((s.advance 0).pathOf ((s.advance 0).dom 0) 0).n ≠ 0 ∧ ((up.advance 0).pathOf ((up.advance 0).dom 0) 0).n = 0 ∧ ((s.advance 0).dom 0).paths.length = 4 ∧ ((s.advance 0).pathOf ((s.advance 0).dom 0) 0).req.map (·.1) = some 3 ∧ (s.advance 0).fbit TIM_PTP_CFG.DELAY = false
      ∧ ((10 * ((s.advance 0).fget TIM_SRV_CFG2.PD_GATE) + 1 : Nat) : Int).natAbs > 10 * (s.advance 0).fget TIM_SRV_CFG2.PD_GATE
      ∧ ok tr = true ∧ (tr.advance 0).servo = svTransition ∧ (tr.advance 0).net.ptp.transAt + (tr.advance 0).fget TIM_SRV_CFG2.TRANS_T * 1000000000 ≤ (tr.advance 0).now
      ∧ (s.advance 0).servo ≠ svTransition ∧ ok p2p = true ∧ (p2p.advance 0).fbit TIM_PTP_CFG.DELAY = true ∧ ok bc = true ∧ (bc.advance 0).masterOn 0 0 = true
      ∧ (s.advance 0).masterOn 0 0 = false ∧ (s.advance 0).slaveOn 0 0 = true ∧ (s.advance 0).fbit TIM_DOM_CFG.REVERT = (up.fbit TIM_DOM_CFG.REVERT) := by decide +kernel

/-- The primary domain is taken back: it has been USABLE for REVERT_T while the secondary is selected. -/
theorem witness_TimeProtocol_revert :
    let ann : Ann := ⟨0, 0, 7, 128, 6, 0x21, 0, 128, 9, 0, 8, 37, 0x20, 0, ⟨none, false⟩⟩
    let s0 := (((netUp up).fput TIM_DOM_CFG.REVERT true).fset TIM_SRV_STAT.SEL 1).fset TIM_SRV_STAT.SERVO svLocked |>.fset TIM_SRV_CFG2.REVERT_T 0
    let s : State := { s0 with net := { s0.net with ptp := { s0.net.ptp with pri := { s0.net.ptp.pri with
      masters := [⟨ann, 5⟩], best := some ⟨ann, 5⟩, nMeas := 16, usableAt := some 0 } } } }.advance 0
    ok s = true ∧ s.fbit TIM_DOM_CFG.REVERT = true ∧ s.sel = 1 ∧ s.usable 0 = true ∧ s.servo = svLocked
      ∧ s.net.ptp.pri.usableAt.any (fun t => decide (t + s.fget TIM_SRV_CFG2.REVERT_T * 1000000000 ≤ s.now)) = true := by decide +kernel

theorem witness_SerialLines :
    let s := (up.fset (fldAt CAN_UCFG.USE 15) 1)
    let l (k : Nat) : State := { s with can := { s.can with uart := s.can.uart.set 15 { uartOff with line := some (zs k) } } }
    let tx : State := { s with can := { s.can with uart := s.can.uart.set 15 { uartOff with tx := [[1]] } } }
    ok s = true ∧ (s.advance 0).can.uart.length = 16 ∧ (s.advance 0).fget (fldAt CAN_UCFG.USE 15) = 1 ∧ bit (s.advance 0).sys.domOn 9 = true
      ∧ (up.advance 0).fget (fldAt CAN_UCFG.USE 15) = 0 ∧ ((s.advance 0).uart 15).line = none ∧ ((s.advance 0).uart 15).tag = false
      ∧ ok (l 80) = true ∧ (((l 80).advance 0).uart 15).line = some (zs 80) ∧ ok tx = true ∧ ((tx.advance 0).uart 15).tx.head? = some [1] ∧ ((s.advance 0).uart 15).tx = [] := by
  decide +kernel

theorem witness_CanReceive :
    let m : CanMsg := ⟨0x7FF, false, false, false, 8, zs 8⟩
    let s := canUp.fset (fldAt CAN_CTRL.NOMATCH 0) 1
    let full := s.fset (fldAt (rxqSw 0) 0) 64
    let req : State := { canUp with can := { canUp.can with ctl := canUp.can.ctl.set 0 { canUp.ctl 0 with initReq := true } } }
    let bo : State := { canUp.fset (fldAt CAN_STAT.STATE 0) 2 with can := { canUp.can with ctl := canUp.can.ctl.set 0 { canUp.ctl 0 with boWait := true } } }
    ok s = true ∧ s.can.ctl.length = 8 ∧ (s.advance 0).canOn 0 = true ∧ (up.advance 0).canOn 0 = false ∧ fltFind ((s.advance 0).ctl 0).flt m = none
      ∧ (s.advance 0).fget (fldAt CAN_CTRL.NOMATCH 0) = 1 ∧ (s.advance 0).fget (fldAt (rxqSw 0) 0) < 64 ∧ ok full = true ∧ 64 ≤ (full.advance 0).fget (fldAt (rxqSw 0) 0)
      ∧ (s.advance 0).cctrl CAN_CTRL.LOM 0 = false ∧ (s.advance 0).fget (fldAt CAN_STAT.REC 0) ≤ 127 ∧ ok req = true ∧ ((req.advance 0).ctl 0).initReq = true
      ∧ ((s.advance 0).ctl 0).initReq = false ∧ ok bo = true ∧ (bo.advance 0).fget (fldAt CAN_STAT.STATE 0) = 2 ∧ ((bo.advance 0).ctl 0).boWait = true
      ∧ (bo.advance 0).canDead 0 = false ∧ (s.advance 0).fget (fldAt CAN_STAT.STATE 0) ≠ 2 ∧ canUp.fget (fldAt CAN_CTRL.NOMATCH 0) ≤ 2
      ∧ canUp.fbit (fldAt CAN_CTRL.INIT 0) = false ∧ up.fbit (fldAt CAN_CTRL.INIT 0) = true ∧ up.retired 3 0 = false ∧ up.canInit 0 = true ∧ fltOkElem 0 0 0 = true
      ∧ ok up = true ∧ up.can.ctl.length = 8 ∧ up.fget (fldAt CAN_CTRL.NOMATCH 0) ≤ 2 ∧ 64 ≤ full.fget (fldAt (rxqSw 0) 0) := by decide +kernel

theorem witness_CanTransmit :
    let e : CanEnt := ⟨⟨1, false, false, false, 0, []⟩, 0, none, none, 0⟩
    let q : State := { canUp with can := { canUp.can with ctl := canUp.can.ctl.set 0 { canUp.ctl 0 with queue := [e] } } }
    let b : State := { canUp with can := { canUp.can with ctl := canUp.can.ctl.set 0 { canUp.ctl 0 with bufs := [none, none, some e], loaded := [2] } } }
    let hi := b.fset (fldAt CAN_STAT.TEC 0) 248
    ok q = true ∧ q.can.ctl.length = 8 ∧ ((q.advance 0).ctl 0).queue = [e] ∧ e.at_ ≤ (q.advance 0).now ∧ ((q.advance 0).ctl 0).bufs.length = 3 ∧ ((q.advance 0).ctl 0).bufs.contains none = true
      ∧ ((q.advance 0).canInit 0 || (q.advance 0).canDead 0 || (q.advance 0).cctrl CAN_CTRL.LOM 0 || (q.advance 0).fget (fldAt CAN_STAT.STATE 0) == 2 || ((q.advance 0).ctl 0).initReq) = false
      ∧ (up.advance 0).canInit 0 = true ∧ ok b = true ∧ (b.advance 0).canOffer 0 (b.advance 0).time.ticks = some 2 ∧ ((b.advance 0).ctl 0).bufs.getD 2 none = some e ∧ (b.advance 0).canOn 0 = true
      ∧ (b.advance 0).cctrl CAN_CTRL.LOM 0 = false ∧ (q.advance 0).canOffer 0 (q.advance 0).time.ticks = none ∧ (b.advance 0).fget (fldAt CAN_STAT.STATE 0) ≠ 1
      ∧ ((b.fput (fldAt CAN_CTRL.DAR 0) true).advance 0).cctrl CAN_CTRL.DAR 0 = true ∧ (b.advance 0).cctrl CAN_CTRL.DAR 0 = false
      ∧ (b.ctl 0).onBus = none ∧ (b.fset (fldAt CAN_STAT.SYNC 0) 0).canOn 0 = false ∧ (b.ctl 0).bufs.getD 2 none = some e
      ∧ (b.advance 0).fget (fldAt CAN_STAT.TEC 0) + 8 ≤ 255 ∧ 255 < (hi.advance 0).fget (fldAt CAN_STAT.TEC 0) + 8 := by decide +kernel

theorem witness_FilterChain :
    let ch (c : SdfCh) (s : State) : State := { s with sdf := { s.sdf with ch := s.sdf.ch.set 4 (some c) } }
    let s := sdfUp true
    let last : SdfCh := { chan0 with n := 63, tEv := -1000000000, lastBit := some false, hiSet := 4095 }
    let thr := ch last (((s.fput (fldAt SDF_CH_THR_CFG.HI_EN 4) true).fset (fldAt SDF_CH_THR_HI.SET 4) 0x8000).fset (fldAt SDF_CH_THR_CFG.PERS_HI 4) 1) |>.fset (fldAt SDF_CH_CFG.SRC 4) 0
    let flt := (ch { chan0 with run := 127, lastBit := some true } s).fset (fldAt SDF_CH_CFG.SRC 4) 0
    let clr := ((ch { chan0 with quiet := 1023, lastBit := some false } s).fset (fldAt SDF_CH_CFG.SRC 4) 0).fput (fldAt SDF_CH_STAT.MOD_FAULT 4) true
    let u := thr.advance 0
    let r := chainBit (u.sch SDF_CH_CFG.ORDER 4) (u.sch SDF_CH_CFG.R 4) (u.gdf 4) (u.firOf 4) last 1
    let cap : State := { s with sdf := { s.sdf with caps := [[⟨1, 0, 0, 1, false⟩], [], [], []] } }
    ok s = true ∧ s.sdf.ch.length = 32 ∧ (s.advance 0).sdfCh 4 = some chan0 ∧ (bit (s.advance 0).sys.domOn 7 && !(s.advance 0).engDead 13) = true ∧ (s.advance 0).sdfCh 5 = none
      ∧ ok thr = true ∧ u.sdfCh 4 = some last ∧ r.2.1.any (fun y => decide (sx 16 (u.sch SDF_CH_THR_HI.SET 4) ≤ asr y 16)) = true ∧ u.sch SDF_CH_CFG.SRC 4 ≠ 2
      ∧ last.lastBit ≠ some true ∧ u.schb SDF_CH_STAT.MOD_FAULT 4 = false ∧ u.schb SDF_CH_THR_CFG.THR_SRC 4 = false
      ∧ u.inWindow 4 last (u.bitTime 0 (last.first + last.n + 1)) = false ∧ u.schb SDF_CH_THR_CFG.HI_EN 4 = true ∧ u.schb SDF_CH_STAT.HI 4 = false
      ∧ u.sch SDF_CH_THR_CFG.PERS_HI 4 ≤ last.hiSet + 1
      ∧ ok flt = true ∧ (flt.advance 0).sdfCh 4 = some { chan0 with run := 127, lastBit := some true } ∧ (flt.advance 0).schb SDF_CH_STAT.MOD_FAULT 4 = false
      ∧ ok clr = true ∧ (clr.advance 0).sdfCh 4 = some { chan0 with quiet := 1023, lastBit := some false } ∧ (clr.advance 0).schb SDF_CH_STAT.MOD_FAULT 4 = true
      ∧ (cap.advance 0).sdfCh 4 = some chan0 ∧ ((cap.advance 0).bitPos 0 1 ((cap.advance 0).sdfInst 4 1 0)).isSome = true
      ∧ (match resample (fun _ => []) [] 0 with | .wait => true | _ => false) = true := by decide +kernel

theorem witness_LogicCycles :
    let run (d : Bool) : LRun := ⟨0, d, [], [], []⟩
    let img : List Byte := zs 16 ++ [1, 0]
    let s (r : Option LRun) : State := ({ atNs 20000000 up with lgc := { up.lgc with img := some img, tasks := [{ taskOff with run := r, startAt := some 0 }, taskOff] } }).fset LOG_STATUS.STATE lgRunning
    let x : Taken := ⟨0x0603, 1, cmd [], true⟩
    let pend : State := { atNs 10000000 (s none) with time := { (inFrame up 0 false).time with ns := 10000000 }, hif := { up.hif with taken := [x] } }
    ok (s none) = true ∧ (s none).lgc.tasks.length = 2 ∧ ((s none).advance 0).lgcOn = true ∧ ((s none).advance 0).cycDue = [(0, 20000000)] ∧ (up.advance 0).lgcOn = false
      ∧ (((s none).advance 0).ltask 0).run = none ∧ (((s (some (run true))).advance 0).ltask 0).run.any (·.done) = true ∧ (((s (some (run false))).advance 0).ltask 0).run.any (fun r => !r.done) = true
      ∧ ok pend = true ∧ (pend.advance 0).hif.taken = [x] ∧ x.op = 0x0603 ∧ x.begun = true ∧ (pend.advance 0).atBound = true ∧ (pend.advance 0).lgcBusy = false ∧ (pend.advance 0).lgcOn = true
      ∧ (upTo 2).any (fun i => (((s (some (run false))).advance 0).ltask i).run.any (fun r => !r.done && decide (r.start + 8 * ((s none).advance 0).cycNs i ≤ ((s none).advance 0).now))) = true
      ∧ ((s none).advance 0).lgState = lgRunning ∧ (up.advance 0).lgState ≠ lgRunning := by decide +kernel

theorem witness_PanelDriver :
    let on : State := (({ atNs 20000000 up with cfg := { up.cfg with imgs := [⟨4, 0, []⟩] } } : State).fput PNL_CFG.EN true).fput PNL_CRK_CFG.CRK_EN true
    let q (hv : Bool) : State := { on with pnl := { on.pnl with hven := hv, pods := [(31, ⟨none, none, some [1], 0⟩)] } }
    let ref : State := { on with pnl := { on.pnl with ref := some 1000, beyond := 1 } }
    ok on = true ∧ (on.advance 0).pnlOn = true ∧ (on.advance 0).pnl.lastF < (on.advance 0).now / 20000000 ∧ (up.advance 0).now / 20000000 = 0
      ∧ (on.advance 0).fbit PNL_TEMP_CFG.TEMP_EN = false ∧ (on.advance 0).pnl.pods = [] ∧ ok (q true) = true
      ∧ [true, false].all (fun b => let u := (q b).advance 0; decide (u.pnl.pods = [(31, u.pod 31)]) && (u.pod 31).run.isNone && (u.pod 31).pend.isNone
        && decide ((u.pod 31).from_ ≤ 20000000) && (u.pod 31).queue.isSome && u.pnlFree && u.pnl.hven == b) = true
      ∧ (on.advance 0).fbit PNL_CRK_CFG.CRK_EN = true ∧ (on.advance 0).pnl.ref = none ∧ ok ref = true ∧ (ref.advance 0).pnl.ref = some 1000
      ∧ (some 30000).filter (fun y => decide (y ≤ 30000)) = some 30000 ∧ (some 30001).filter (fun y => decide (y ≤ 30000)) = none := by decide +kernel

/-- A channel in a state, with satellite 5 of system 0. -/
def chanIn (st : Nat) : GChan := { chanIdle with st := st, prn := 5 }

/-- The baseband on, with channel 127 in a state. -/
def gnsUp (st : Nat) : State :=
  let s := (((up.fput GNS_CFG.EN true).fput GNS_CFG.ANT_B_EN true).fset GNS_CFG.SYS_EN 15).fput (fldAt GNS_IF_STAT.ACTIVE 2) true
  { s with gns := { s.gns with chans := tabSet chanDflt s.gns.chans 127 (chanIn st) } }

theorem witness_SatelliteChannels :
    ok (gnsUp chTrack) = true ∧ ((gnsUp chTrack).advance 0).gnssOn = true ∧ (up.advance 0).gnssOn = false ∧ ((gnsUp chTrack).advance 0).chanKeep [] 127 (chanIn chTrack) = true ∧ ((gnsUp chTrack).advance 0).gns.allocSec = none
      ∧ ((gnsUp chSearch).advance 0).chanKeep [] 127 (chanIn chSearch) = false
      ∧ [chSearch, chPullIn, chTrack, chLost].all (fun st => decide (((gnsUp st).advance 0).chan 127 = chanIn st)) = true
      ∧ ((atNs 1000000001 (gnsUp chLost)).advance 0).chan 127 = chanIn chLost ∧ (chanIn chLost).lostAt + 1000000000 < ((atNs 1000000001 (gnsUp chLost)).advance 0).now
      ∧ ((gnsUp chTrack).advance 0).fbit (fldAt GNS_IF_STAT.ACTIVE 2) = true ∧ (up.advance 0).fbit (fldAt GNS_IF_STAT.ACTIVE 3) = false
      ∧ ((gnsUp chTrack).advance 0).fbit GNS_CFG.EN = true ∧ (up.advance 0).fbit GNS_CFG.EN = false := by decide +kernel

theorem witness_SolutionsAndPulse :
    let p : GnssPos := ⟨0, 0, 0, 0, 6, 1, 200, 100, true, 1, 1, 0, 40000, 5, 0⟩
    let on := gnsUp chTrack
    let l : State := { on.fset GNS_TP_STAT.STATE tpNone with gns := { on.gns with latch := some (1, 0) } }
    let rt := ((netUp on).fset GNS_RTCM_CFG.SRC 2).fset GNS_RTCM_CFG.UDP_PORT 9 |>.fput GNS_RTCM_BASE.ANY true
    let m (b : List Byte) : List Byte := [0xD3, 0, BitVec.ofNat 8 b.length] ++ b ++ beBytes 3 (crc24q ([0xD3, 0, BitVec.ofNat 8 b.length] ++ b))
    let tp (k : Nat) (f : GnsSt → GnsSt) : State := { atNs 3000000000 (on.fset GNS_TP_STAT.STATE k) with gns := f on.gns }
    let sn : State := { atNs 5000000 (on.fput GNS_SNAP_STAT.BUSY true) with gns := { on.gns with snap := some ⟨0, [5, 0, 0, 0], 0, 0⟩ } }
    let hb : State := { atNs 900000000000 on with pwr := .harbour, gns := { on.gns with eph := [(0, 5, 0)] } }
    posValid p = true ∧ ok l = true ∧ (l.advance 0).gns.latch = some (1, 0) ∧ (l.advance 0).gnssOn = true ∧ (l.advance 0).tp = tpNone ∧ (on.advance 0).gns.latch = none
      ∧ ok rt = true ∧ (rt.advance 0).fget GNS_RTCM_CFG.SRC = 2 ∧ (rt.advance 0).fget GNS_RTCM_CFG.UDP_PORT = 9 ∧ (rt.advance 0).ethOn 0 = true ∧ (rt.advance 0).vidOk 0 none = true ∧ (rt.advance 0).fbit GNS_RTCM_BASE.ANY = true
      ∧ byteAt (m [0x3E, 0xD0, 1]) 0 = 0xD3 ∧ (m [0x3E, 0xD0, 1]).length = beAt 2 (m [0x3E, 0xD0, 1]) 1 % 1024 + 6
      ∧ crc24q ((m [0x3E, 0xD0, 1]).take 6) = beAt 3 (m [0x3E, 0xD0, 1]) 6 ∧ rtcmKnown (beAt 2 (m [0x3E, 0xD0, 1]) 3 / 16) = true ∧ beAt 2 (m [0x3E, 0xD0, 1]) 3 / 16 = 1005
      ∧ rtcmKnown (beAt 2 (m [0, 0, 1]) 3 / 16) = false
      ∧ ok (tp tpLocked id) = true ∧ ((tp tpLocked id).advance 0).tp = tpLocked
      ∧ ((tp tpLocked (fun g => { g with lastValid := some 1 })).advance 0).gns.lastValid.all (fun t => decide (t + 1000000000 < 3000000000)) = true
      ∧ ((tp tpLocked (fun g => { g with lastValid := some 2000000000 })).advance 0).gns.lastValid.all (fun t => decide (t + 1000000000 < 3000000000)) = false
      ∧ ((tp tpHoldover (fun g => { g with stepSec := some 3 })).advance 0).gns.stepSec.any (fun x => decide (x ≤ 3)) = true
      ∧ ((tp tpHoldover (fun g => { g with stepSec := some 4 })).advance 0).gns.stepSec.all (fun x => decide (3 < x)) = true
      ∧ ((tp tpSlewing id).advance 0).tp = tpSlewing ∧ ((tp tpSlewing id).advance 0).tpDrives = true ∧ ((tp tpNone id).advance 0).tp ≠ tpOff ∧ ((tp tpOff id).advance 0).tp = tpOff ∧ ((tp tpNone id).advance 0).tpDrives = false
      ∧ ((tp tpNone id).advance 0).clocked = true ∧ ((tp tpHoldover id).advance 0).gns.tpAt ≠ some 3 ∧ (l.advance 0).time.moved = (l.advance 0).gns.latMoved
      ∧ ((tp tpLocked id).advance 0).gns.recd.length = 2 ∧ ((tp tpLocked id).advance 0).gns.skip = []
      ∧ ok sn = true ∧ (sn.advance 0).gns.snap.any (fun x => decide (x.t0 + maxN x.lens * 1000000 ≤ (sn.advance 0).now)) = true ∧ (sn.advance 0).fbit GNS_SNAP_STAT.BUSY = true
      ∧ ok hb = true ∧ (hb.advance 0).pwr = .harbour ∧ (hb.advance 0).fbit GNS_CFG.EN = true ∧ (hb.advance 0).gns.harbAt + (hb.advance 0).fget GNS_HARB_CFG.SNAP_INT * 1000000000 ≤ (hb.advance 0).now
      ∧ (hb.advance 0).gns.eph.any (fun e => decide ((hb.advance 0).now < e.2.2 + 14400000000000)) = true := by decide +kernel

theorem witness_SupplyDips :
    let dip (l : Nat) : State := { atNs 20000000 up with sys := { up.sys with low := l } }
    let back (m : Nat) : State := { (atNs 1000000000 up).fset PMU_SHED.SHED m with sys := { up.sys with domOn := 0xFFF - m } }
    ((atNs 0 up).advance 0).sys.held.isSome = false ∧ (up.advance 0).pwr = .run ∧ (up.advance 0).inDip = false ∧ ((dip 4).advance 0).inDip = true
      ∧ ((dip 33).advance 0).sys.low % 64 ≠ 2 ^ 5 ∧ bit ((dip 33).advance 0).sys.low 5 = true ∧ ((dip 32).advance 0).sys.low % 64 = 2 ^ 5
      ∧ ((dip 32).advance 0).sys.pwrReq = none ∧ ((dip 32).advance 0).hif.taken = [] ∧ ((dip 32).advance 0).sys.holdOk = true ∧ ((dip 32).advance 0).op ≠ .boot
      ∧ ((dip 32).advance 0).clocked = true ∧ ((dip 32).advance 0).sys.dipFrom + 20 * 1000000 ≤ ((dip 32).advance 0).now
      ∧ ((dip 32).advance 0).now < ((dip 32).advance 0).sys.dipFrom + 30 * 1000000 ∧ bit ((dip 32).advance 0).sys.domOn 11 = true
      ∧ [0x40, 0x140, 0x940, 0x800].all (fun m => let u := (back m).advance 0; !u.inDip && u.clocked && decide (u.sys.recovered + 1000000000 + u.sys.back * 100000000 ≤ u.now)
        && decide (u.now < u.sys.recovered + 1100000000 + u.sys.back * 100000000) && ([6, 8, 11].find? (bit (u.fget PMU_SHED.SHED))).isSome) = true
      ∧ ((back 0x800).advance 0).fget PMU_SHED.SHED = 2 ^ 11 ∧ ((back 0).advance 0).fget PMU_SHED.SHED = 0 := by decide +kernel

/-- A unit whose reset is held. -/
def heldAt (k : RstKind) (fails : Nat) : State := { up with sys := { up.sys with held := some k, seq := true, railFails := fails, domOn := 1 } }

theorem witness_PowerSequence :
    let off (b d : Bool) : State := { up with pwr := .off, sys := { up.sys with pmuStop := b, d0Lost := d } }
    ((off false false).advance 0).pwr = .off ∧ ((off false true).advance 0).sys.d0Lost = true ∧ ((off false false).advance 0).sys.pmuStop = false
      ∧ ((off true false).advance 0).sys.pmuStop = true ∧ (up.advance 0).pwr ≠ .off
      ∧ ((heldAt .por 0).advance 0).sys.held = some .por ∧ ((heldAt .bor 2).advance 0).sys.held = some .bor ∧ ((heldAt .bor 2).advance 0).sys.seq = true
      ∧ ((heldAt .bor 2).advance 0).sys.railFails = 2 ∧ ((heldAt .por 0).advance 0).d0.head < 110 ∧ ((heldAt .bor 2).advance 0).sys.pmuStop = false
      ∧ (up.advance 0).sys.held = none ∧ (up.advance 0).pwr ≠ .hibernate ∧ (up.advance 0).sys.seq = false := by decide +kernel

theorem witness_ResetKinds :
    let req (k : RstKind) (d : Nat) : State := { up with sys := { up.sys with rstReq := some (k, d) } }
    let trial : State := { State.reset with flash := { up.flash with trial := true, bootSlot := 1 }, time := { up.time with ticks := 1250000000 } }
    up.storesWf = true ∧ (up.advance 0).clocked = true ∧ (up.advance 0).sys.held = none ∧ (up.advance 0).flash.trial = false
      ∧ ({ up with pwr := .hibernate } : State).storesWf = true ∧ ({ up with pwr := .hibernate } : State).clocked = false
      ∧ [RstKind.srst, .drst, .safr].all (fun k => ((req k 11).advance 0).sys.rstReq.map (·.1) == some k && (req k 11).storesWf) = true
      ∧ [1, 2, 3, 8, 11].all (fun d => bit ((req .drst d).advance 0).sys.domOn d) = true ∧ bit ({ req .drst 11 with sys := { up.sys with domOn := 0x607 } } : State).sys.domOn 11 = false
      ∧ (up.advance 0).saf.latch.length = 2 ∧ (up.advance 0).retired 4 14 = false
      ∧ (trial.advance 0).op = .boot ∧ (trial.advance 0).flash.trial = true ∧ 1250000000 ≤ (trial.advance 0).time.ticks ∧ (trial.advance 0).flash.bootSlot = 1
      ∧ ({ trial with hif := up.hif } : State).clocked = true := by decide +kernel

theorem witness_WakeAndBoot :
    let at_ (p : PState) : State := { up.fput PMU_WAKE_CFG.WAKE_N_EN true with pwr := p }
    let b := State.reset
    let bad : State := { b with flash := { b.flash with fw0 := ⟨false, 0, 0, false⟩ } }
    let alt : State := { bad with flash := { bad.flash with fw1 := ⟨true, 1, 2, false⟩ } }
    let w : State := { b with sys := { b.sys with kind := .wdr, wdrAt := [0, 1, 2] } }
    let y : State := { b with sys := { b.sys with yd := true, strapYd := true } }
    [PState.hibernate, .sleep, .harbour].all (fun p => ((at_ p).advance 0).fbit PMU_WAKE_CFG.WAKE_N_EN && decide (((at_ p).advance 0).pwr = p) && !((at_ p).advance 0).sys.d0Lost) = true
      ∧ (up.fput PMU_WAKE_CFG.WAKE_N_EN false).fbit PMU_WAKE_CFG.WAKE_N_EN = false
      ∧ (b.advance 0).clocked = true ∧ (b.advance 0).op = .boot ∧ (b.advance 0).pwr = .run ∧ (b.advance 0).hif.ready = false ∧ (b.advance 0).fwOk 0 = true ∧ (b.advance 0).fwOk 1 = false
      ∧ (bad.advance 0).fwOk 0 = false ∧ (bad.advance 0).fwOk 1 = false ∧ (alt.advance 0).fwOk 1 = true ∧ (alt.advance 0).flash.bootSlot = 0
      ∧ (w.advance 0).sys.kind = .wdr ∧ (w.advance 0).sys.wdrAt.length = 3 ∧ (w.advance 0).sys.rtc / 125000000 ≤ (w.advance 0).sys.wdrAt.getD 0 0 + 60
      ∧ (y.advance 0).sys.yd = true ∧ (b.advance 0).sys.yd = false ∧ (b.advance 0).flash.objs = none ∧ (b.advance 0).retired 4 15 = false := by decide +kernel

theorem witness_YdRegisters :
    let lat : State := { ydUp with yd := { ydUp.yd with high := some (255, 65535) } }
    let low (a : Nat) : State := { ydUp with yd := { ydUp.yd with low := some (a, 65535) } }
    let booting : State := { ydUp with yd := { ydUp.yd with ready := false } }
    ydUp.ydOn = true ∧ booting.ydOn = false ∧ booting.sys.yd = true ∧ up.sys.yd = false ∧ lat.yd.high = some (255, 65535) ∧ ydUp.yd.high.map (·.1) ≠ some 255 ∧ ydLow 255 = false
      ∧ ydLow 0x08 = true ∧ ydPairRo 0x08 = false ∧ ydLow 0x10 = true ∧ ydPairRo 0x10 = true ∧ (low 0x08).yd.low = some (0x09 - 1, 65535) ∧ (low 0xC3).yd.low = some (0xC3, 65535)
      ∧ (low 0xC5).ydOn = true ∧ gives (.ydSpiWrite [0x19, 0x7F, 0xFF]) ydUp (fun t => t.ydReg 0x19 == 0x7FFF) = true ∧ gives (.ydSpiWrite [0x19, 0x80, 0]) ydUp (fun t => t == ydUp) = true
      ∧ gives (.ydSpiWrite [0x93, 0, 99]) ydUp (fun t => t == ydUp) = true ∧ gives (.ydSpiWrite [0x93, 0, 100]) ydUp (fun t => t.ydReg 0x93 == 100) = true
      ∧ gives (.ydSpiWrite [0xB3, 0x13, 0x88]) ydUp (fun t => t.ydReg 0xB3 == 5000) = true ∧ gives (.ydSpiWrite [0xB3, 0x13, 0x89]) ydUp (fun t => t == ydUp) = true
      ∧ gives (.ydSpiWrite [0x18, 0, 2]) ydUp (fun t => t == ydUp) = true ∧ gives (.ydSpiWrite [0x18, 0, 1]) ydUp (fun t => t.ydReg 0x18 == 1) = true := by decide +kernel

theorem witness_YdControl :
    let held : State := { ydUp with sys := { ydUp.sys with holdOk := false } }
    let ent : CanEnt := ⟨⟨1, false, false, false, 0, []⟩, 0, none, none, 0⟩
    let full : State := { ydUp with can := { ydUp.can with ctl := ydUp.can.ctl.set 0 { ydUp.ctl 0 with queue := List.replicate 64 ent } } }
    ydUp.ydOn = true ∧ 3 < 0x8004 % 8 ∧ ¬3 < 0x8093 % 8 ∧ bit 0x8093 15 = true ∧ ydUp.writesHeld = false ∧ held.writesHeld = true ∧ held.ydOn = true
      ∧ bit 0x4000 14 = true ∧ bit 0x4000 15 = false ∧ bit 0x0100 8 = true ∧ bit 0x0100 15 = false ∧ bit 0x0100 14 = false
      ∧ bit 0xE008 13 = true ∧ bit 0xE008 15 = true ∧ bit 0xE008 14 = true ∧ 0xE008 % 16 ≤ 8 ∧ 8 < 0xE009 % 16 ∧ bit (ydUp.ydBuf ydUp.ydSel).cfg 13 = false
      ∧ ydUp.can.ctl.length = 8 ∧ (ydUp.ctl (ydUp.ydSel / 16)).queue.length < 64 ∧ full.ydOn = true ∧ (full.ctl (full.ydSel / 16)).queue.length = 64 := by decide +kernel

theorem witness_YdCycle :
    let s := atNs 100000000 ydUp
    let run (md : Nat) (x : Nat) : State := { s with yd := { s.yd with regs := tabSet ydReset (tabSet ydReset s.yd.regs 2 (BitVec.ofNat 16 (0x90 + md))) 0xD0 (BitVec.ofNat 16 x), modeWr := true } }
    let o : YdOut := ⟨1, 101800000, [(0x91, 0)], [], 0⟩
    let out (n : Nat) : State := { atNs n ydUp with yd := { ydUp.yd with out := some o } }
    let clash : State := { out 101800000 with yd := { (out 101800000).yd with master := true, pinIn := true, regs := tabSet ydReset ydUp.yd.regs 0xD0 4 } }
    s.sys.yd = true ∧ s.clocked = true ∧ (s.advance 0).ydOn = true ∧ (s.advance 0).yd.cycleAt < (s.advance 0).now / 100000000 ∧ bit ((s.advance 0).ydReg 2) 4 = false
      ∧ bit (((run 1 0).advance 0).ydReg 2) 4 = true ∧ (!((run 1 0).advance 0).engDead 3 && bit ((run 1 0).advance 0).sys.domOn 3) = true ∧ bit (((run 1 0).advance 0).ydReg 2) 7 = true
      ∧ (let u := (run 0 0).advance 0; (ydMode u.yd u.ydVal (u.ydInputs u.ydVal 1)).1) = 0 ∧ (let u := (run 1 0).advance 0; (ydMode u.yd u.ydVal (u.ydInputs u.ydVal 1)).1) = 1
      ∧ ((run 1 0).advance 0).yd.fault = false ∧ bit (((run 1 0).advance 0).ydReg 0xD0) 2 = false ∧ bit (((run 1 5).advance 0).ydReg 0xD0) 2 = true ∧ bit (((run 1 5).advance 0).ydReg 0xD0) 0 = true
      ∧ ((run 1 5).advance 0).yd.pinIn = false
      ∧ (out 101800000).clocked = true ∧ ((out 101800000).advance 0).yd.out = some o ∧ o.at_ ≤ ((out 101800000).advance 0).now ∧ ((out 101799999).advance 0).now < o.at_
      ∧ ((out 101800000).advance 0).can.ctl.length = 8 ∧ o.words.all (fun w => w.1 != 5 && w.1 != 0xD0) = true ∧ ((out 101800000).advance 0).yd.master = false
      ∧ (((out 101800000).advance 0).ctl 0).queue.length + o.cmds.length < 64
      ∧ (clash.advance 0).yd.master = true ∧ (clash.advance 0).yd.fault = false ∧ bit ((clash.advance 0).ydReg 0xD0) 2 = true ∧ (clash.advance 0).yd.pinIn = true := by decide +kernel

/-- YD-22 mode with CAN controller `n` in traffic. -/
def ydCan (n : Nat) : State := ((ydUp.fset (fldAt CAN_CTRL.INIT n) 0).fput (fldAt CAN_STAT.SYNC n) true).fput (fldAt CAN_STAT.INIT_ACK n) false

theorem witness_YdInputs :
    let net := (ydUp.ydReg 0xB1) * 65536
    (ydCan 1).sys.yd = true ∧ (ydCan 1).clocked = true ∧ ((ydCan 1).advance 0).ydOn = true ∧ ((ydCan 1).advance 0).canOn 1 = true ∧ ((ydCan 0).advance 0).canOn 0 = true
      ∧ [0x200, 0x203, 0x180, 0x187].all (fun c => (net + c) / 65536 == ((ydCan 1).advance 0).ydReg 0xB1 && (net + c) % 65536 == c) = true
      ∧ ((ydCan 1).advance 0).yd.ins.length = 4 ∧ ((ydCan 0).advance 0).yd.fb.length = 8 ∧ ydCode 1 0x300 = false ∧ ydCode 0 0x188 = false := by decide +kernel

theorem witness_YdBufferStore :
    let buf (s : State) (k : Nat) (m : YdMb) : State := { s with yd := { s.yd with mb := tabSet ydMb0 s.yd.mb k m } }
    let s := buf (ydCan 1) 31 ⟨0x8000, 1, 5, 0x1FFFFFFF, []⟩
    let u := s.advance 0
    let hit (id : Nat) (b : Nat) : Bool := let m := u.ydBuf (16 + b)
      bit m.cfg 15 && !bit m.cfg 14 && bit m.id 31 == false && (id &&& m.mask) == (m.id % 2 ^ 29 &&& m.mask)
    s.sys.yd = true ∧ s.clocked = true ∧ u.ydOn = true ∧ u.canOn 1 = true ∧ (zs 8).length = min 8 15 ∧ (zs 0).length = min 8 0
      ∧ (upTo 16).find? (hit 5) = some 15 ∧ (upTo 16).find? (hit 6) = none ∧ (u.ydReg 0xB1 * 65536 + 0x2F1) / 65536 = u.ydReg 0xB1 := by decide +kernel


end Sys2Proof.Tests
end

section
/-!
The ring indexes of the mailbox (R380, R381, R389) and the SPI status byte (R379): what each operation does in each of its
cases, and from that the statements of the host interface.
-/

namespace Sys2Proof.Machine

/-! ## A field written alone, and a host error -/

/-- A field written changes its own register alone. -/
theorem State.fset_onlyRegs (s : State) (f : Fld) (v : Nat) : onlyRegs [f.addr] s (s.fset f v) :=
  ⟨rfl, fun a ha => s.reg_fset_other f v a (fun e => ha (e ▸ List.mem_singleton_self _))⟩

/-- A host error reports, and its bit of HIF_ERR reads one. -/
theorem State.hostErr_reported (s : State) (f : Fld) (hs : s.storesWf = true) (hf : f.addr = aHIF_ERR) (hw : f.lo + f.w ≤ 32)
    (h1 : 1 ≤ f.w) : Reports s (s.hostErr f) ∧ (s.hostErr f).fbit f = true :=
  ⟨s.hostErr_reports f hf, beq_iff_eq.mpr (s.hostErr_set f hf hw h1 (s.wf_regs hs))⟩

/-- An index field of 16 bits reads as the index written. -/
theorem State.fget_fset_index (s : State) (f : Fld) (v : Nat) (hlo : f.lo = 0) (hw : f.w = 16) :
    (s.fset f (v % 2 ^ 16)).fget f = v % 2 ^ 16 := by
  rw [s.fget_fset f _ (by omega), hw, Nat.mod_mod]

/-! ## Doorbells and consumer indexes, case by case (R381) -/

/-- Entries from index `c` up to index `p` of a ring: the indexes are free-running 16-bit counts (R380). -/
def ringDist (p c : Nat) : Nat := (p + 2 ^ 16 - c) % 2 ^ 16

/-- The 16 bits of an index in a word the host writes. -/
theorem index_of_word (v : Nat) : v % 2 ^ 32 % 2 ^ 16 = v % 2 ^ 16 := Nat.mod_mod_of_dvd v (by decide)

theorem State.doorbell_of_not_ready (s : State) (v : Nat) (hr : s.hif.ready = false) :
    s.doorbell v = s.hostErr HIF_ERR.NOT_READY := by
  simp [State.doorbell, hr]

theorem State.doorbell_of_out_of_range (s : State) (v : Nat) (hr : s.hif.ready = true)
    (h : ringDist (v % 2 ^ 16) (s.fget HIF_CMD_CI.IDX) < ringDist (s.fget HIF_CMD_PI.PI) (s.fget HIF_CMD_CI.IDX)
      ∨ 64 < ringDist (v % 2 ^ 16) (s.fget HIF_CMD_CI.IDX)) :
    s.doorbell v = s.hostErr HIF_ERR.DB_RANGE := by
  have hbad := h.symm
  unfold ringDist at hbad
  simp only [State.doorbell, hr, Bool.not_true, Bool.false_eq_true, if_false, if_pos hbad]

theorem State.doorbell_of_in_range (s : State) (v : Nat) (hr : s.hif.ready = true)
    (hback : ¬ringDist (v % 2 ^ 16) (s.fget HIF_CMD_CI.IDX) < ringDist (s.fget HIF_CMD_PI.PI) (s.fget HIF_CMD_CI.IDX))
    (hroom : ringDist (v % 2 ^ 16) (s.fget HIF_CMD_CI.IDX) ≤ 64) :
    s.doorbell v = s.fset HIF_CMD_PI.PI (v % 2 ^ 16) := by
  have hgood := not_or.mpr ⟨Nat.not_lt.mpr hroom, hback⟩
  unfold ringDist at hgood
  simp only [State.doorbell, hr, Bool.not_true, Bool.false_eq_true, if_false, if_neg hgood]

theorem State.ciWrite_of_out_of_range (s : State) (pi ci : Fld) (v : Nat)
    (h : ringDist (s.fget pi) (s.fget ci) < ringDist (s.fget pi) (v % 2 ^ 16)) :
    s.ciWrite pi ci v = s.hostErr HIF_ERR.DB_RANGE := if_pos h

theorem State.ciWrite_of_in_range (s : State) (pi ci : Fld) (v : Nat)
    (h : ringDist (s.fget pi) (v % 2 ^ 16) ≤ ringDist (s.fget pi) (s.fget ci)) :
    s.ciWrite pi ci v = s.fset ci (v % 2 ^ 16) := if_neg (Nat.not_lt.mpr h)

/-- A consumer index moved backwards or past PI is reported. -/
theorem State.ciWrite_reported (s : State) (pi ci : Fld) (v : Nat) (hs : s.storesWf = true)
    (h : ringDist (s.fget pi) (s.fget ci) < ringDist (s.fget pi) (v % 2 ^ 16)) :
    Reports s (s.ciWrite pi ci v) ∧ (s.ciWrite pi ci v).fbit HIF_ERR.DB_RANGE = true := by
  rw [s.ciWrite_of_out_of_range pi ci v h]
  exact s.hostErr_reported _ hs rfl (by decide) (by decide)

/-- A consumer index moved forward within the ring is written, and nothing else is. -/
theorem State.ciWrite_taken (s : State) (pi ci : Fld) (v : Nat) (hlo : ci.lo = 0) (hw : ci.w = 16)
    (h : ringDist (s.fget pi) (v % 2 ^ 16) ≤ ringDist (s.fget pi) (s.fget ci)) :
    onlyRegs [ci.addr] s (s.ciWrite pi ci v) ∧ (s.ciWrite pi ci v).fget ci = v % 2 ^ 16 := by
  rw [s.ciWrite_of_in_range pi ci v h]
  exact ⟨s.fset_onlyRegs ci _, s.fget_fset_index ci v hlo hw⟩

/-- What follows a write of HIF_EVT_CI, an EVENTS_LOST record, is a report (R389). -/
theorem State.evtCi_reports (s : State) (v : Nat) : Reports (s.ciWrite HIF_EVT_PI.IDX HIF_EVT_CI.CI v) (s.evtCi v) := by
  unfold State.evtCi
  refine Reports.ite (Reports.refl _) (Reports.trans ?_ (State.event_reports _ _ _ _ _))
  exact ⟨rfl, rfl, rfl, rfl, fun _ _ => rfl, fun _ _ => rfl⟩

/-- The EVENTS_LOST record leaves HIF_ERR alone. -/
theorem State.evtCi_err (s : State) (v : Nat) :
    (s.evtCi v).reg aHIF_ERR = (s.ciWrite HIF_EVT_PI.IDX HIF_EVT_CI.CI v).reg aHIF_ERR := by
  unfold State.evtCi
  dsimp only
  split
  · rfl
  · exact State.event_err _ _ _ _ _

theorem State.evtCi_fbit_err (s : State) (f : Fld) (v : Nat) (hf : f.addr = aHIF_ERR) :
    (s.evtCi v).fbit f = (s.ciWrite HIF_EVT_PI.IDX HIF_EVT_CI.CI v).fbit f := by
  unfold State.fbit State.fget
  rw [hf, s.evtCi_err v]

/-- With no record discarded, an accepted write of HIF_EVT_CI has nothing to add. -/
theorem State.evtCi_of_none_lost (s : State) (v : Nat) (hlost : s.hif.evtLost = 0)
    (h : ringDist (s.fget HIF_EVT_PI.IDX) (v % 2 ^ 16) ≤ ringDist (s.fget HIF_EVT_PI.IDX) (s.fget HIF_EVT_CI.CI)) :
    s.evtCi v = s.ciWrite HIF_EVT_PI.IDX HIF_EVT_CI.CI v :=
  if_pos (Or.inl (by rw [s.ciWrite_of_in_range _ _ v h]; exact hlost))

/-! ## The host's writes of the three index registers -/

theorem State.ciWrite_word (s : State) (pi ci : Fld) (v : Nat) : s.ciWrite pi ci (v % 2 ^ 32) = s.ciWrite pi ci v := by
  rw [State.ciWrite, index_of_word, State.ciWrite]

theorem State.hostWr_cmdPi (s : State) (v : Nat) (hon : s.hostOn = true) : s.hostWr aHIF_CMD_PI v = s.doorbell v := by
  have hroute : s.hostWr aHIF_CMD_PI v = s.doorbell (v % 2 ^ 32) := if_pos hon
  rw [hroute, State.doorbell, index_of_word, State.doorbell]

theorem State.hostWr_rspCi (s : State) (v : Nat) (hon : s.hostOn = true) :
    s.hostWr aHIF_RSP_CI v = s.ciWrite HIF_RSP_PI.IDX HIF_RSP_CI.CI v := by
  have hroute : s.hostWr aHIF_RSP_CI v = s.rspCi (v % 2 ^ 32) := if_pos hon
  rw [hroute, State.rspCi, State.ciWrite_word]

theorem State.hostWr_evtCi (s : State) (v : Nat) (hon : s.hostOn = true) : s.hostWr aHIF_EVT_CI v = s.evtCi v := by
  have hroute : s.hostWr aHIF_EVT_CI v = s.evtCi (v % 2 ^ 32) := if_pos hon
  rw [hroute, State.evtCi, State.ciWrite_word, State.evtCi]

/-- Settles O10: each write is routed to its index operation, and each case of that operation either reports a HIF_ERR bit or
writes the index alone; EVENTS_LOST, which a write of HIF_EVT_CI can add, is itself a report. -/
theorem ringIndexWrites : Obligations.RingIndexWrites := by
  intro s v hon hs
  refine ⟨⟨s.doorbell v, ?_, ?_, ?_⟩, ⟨s.ciWrite HIF_RSP_PI.IDX HIF_RSP_CI.CI v, ?_, ?_, ?_⟩, ⟨s.evtCi v, ?_, ?_, ?_⟩⟩
  · exact congrArg Host.Outcome.next (s.hostWr_cmdPi v hon)
  · intro hr
    rw [s.doorbell_of_not_ready v hr]
    exact s.hostErr_reported _ hs rfl (by decide) (by decide)
  · intro hr
    refine ⟨fun hbad => ?_, fun hback hroom => ?_⟩
    · rw [s.doorbell_of_out_of_range v hr hbad]
      exact s.hostErr_reported _ hs rfl (by decide) (by decide)
    · rw [s.doorbell_of_in_range v hr hback hroom]
      exact ⟨s.fset_onlyRegs _ _, s.fget_fset_index _ v rfl rfl⟩
  · exact congrArg Host.Outcome.next (s.hostWr_rspCi v hon)
  · exact s.ciWrite_reported _ _ v hs
  · exact fun _ hgood => s.ciWrite_taken _ _ v rfl rfl hgood
  · exact congrArg Host.Outcome.next (s.hostWr_evtCi v hon)
  · intro hbad
    obtain ⟨hrep, hbit⟩ := s.ciWrite_reported HIF_EVT_PI.IDX HIF_EVT_CI.CI v hs hbad
    exact ⟨hrep.trans (s.evtCi_reports v), (s.evtCi_fbit_err _ v rfl).trans hbit⟩
  · intro _ hgood
    obtain ⟨honly, hidx⟩ := s.ciWrite_taken HIF_EVT_PI.IDX HIF_EVT_CI.CI v rfl rfl hgood
    refine ⟨((s.evtCi_reports v).fget HIF_EVT_CI.CI rfl).trans hidx, fun hlost => ?_⟩
    rw [s.evtCi_of_none_lost v hlost hgood]
    exact honly

/-! ## The SPI status byte (R379) -/

/-- STATUS on the lines of the port's mode: the status byte goes out and ERR clears. -/
theorem State.spiTrans_status (s : State) (hon : s.hostOn = true) (hsel : s.sys.hostSel = true) :
    s.spiTrans s.hif.quad [0x05] 1
      = { s with out := s.out ++ [⟨s.now, .spi, [BitVec.ofNat 8 s.spiStat]⟩], hif := { s.hif with spiErr := false } } := by
  have hrun : s.spiTrans s.hif.quad [0x05] 1 = s.spiRun [0x05] 1 := by simp [State.spiTrans, hon, hsel]
  rw [hrun]
  rfl

/-- Four flags laid side by side in a byte stand in its bits 0 to 3, and the rest of it is zero. -/
theorem flagByte_bits (e i q r : Bool) :
    let b : Byte := BitVec.ofNat 8 (b2n e + 2 * b2n i + 4 * b2n q + 8 * b2n r)
    b.getLsbD 0 = e ∧ b.getLsbD 1 = i ∧ b.getLsbD 2 = q ∧ b.getLsbD 3 = r ∧ b >>> 4 = 0 := by
  revert e i q r
  decide

/-- HIF_STATUS shows READY in bit 31. -/
theorem State.view_ready (s : State) : bits (s.view aHIF_STATUS).toNat 31 1 = b2n s.hif.ready := by
  have hview : s.view aHIF_STATUS = BitVec.ofNat 32 s.hifStatus := rfl
  rw [hview, BitVec.toNat_ofNat, bits_mod _ _ _ (by decide)]
  refine (bits_putBits _ 31 1 _).trans ?_
  cases s.hif.ready <;> rfl

/-- READY as the status byte takes it and as HIF_STATUS shows it. -/
theorem State.ready_eq_view (s : State) : s.hif.ready = decide (bits (s.view aHIF_STATUS).toNat 31 1 = 1) := by
  rw [s.view_ready]
  cases s.hif.ready <;> rfl

theorem State.hostInt_eq (s : State) :
    s.hostInt = decide ((s.reg aHIF_INT_STAT).toNat &&& s.fget HIF_INT_EN.EN ≠ 0) := by
  rw [State.hostInt, Bool.eq_iff_iff, bne_iff_ne, decide_eq_true_iff]

/-- Settles O11: the byte is four flags side by side, with INT and READY as the registers show them. -/
theorem spiStatusByte : Obligations.SpiStatusByte := by
  intro s hon hsel
  obtain ⟨herr, hint, hquad, hready, hhigh⟩ := flagByte_bits s.hif.spiErr s.hostInt s.hif.quad s.hif.ready
  exact ⟨_, _, rfl, s.spiTrans_status hon hsel, herr, hint.trans s.hostInt_eq, hquad, hready.trans s.ready_eq_view, hhigh⟩

end Sys2Proof.Machine
end

section
/-!
The message buffers of YD-22 mode (R316, R433): to which buffer a received frame is offered, and what each way through YD_CAN_RX
leaves in the buffers.
-/

namespace Sys2Proof.Machine

/-! ## What a buffer has received, kept -/

/-- Buffer `k` holds in `t` the flags and the data it held in `s` (R316). -/
def BufKept (s t : State) (k : Nat) : Prop := (t.ydBuf k).stat = (s.ydBuf k).stat ∧ (t.ydBuf k).data = (s.ydBuf k).data

theorem BufKept.refl (s : State) (k : Nat) : BufKept s s k := ⟨rfl, rfl⟩

theorem BufKept.trans {s t u : State} {k : Nat} (h : BufKept s t k) (h' : BufKept t u k) : BufKept s u k :=
  ⟨h'.1.trans h.1, h'.2.trans h.2⟩

theorem BufKept.of_ydBuf_eq {s t : State} {k : Nat} (h : t.ydBuf k = s.ydBuf k) : BufKept s t k := by
  rw [BufKept, h]
  exact ⟨rfl, rfl⟩

/-- A buffer written reads back; every other reads as before. -/
theorem State.ydBuf_ydBufPut (s : State) (k j : Nat) (m : YdMb) :
    (s.ydBufPut k m).ydBuf j = if j = k then m else s.ydBuf j := by
  have hmb : (s.ydBufPut k m).yd.mb = tabSet ydMb0 s.yd.mb k m := rfl
  rw [State.ydBuf, hmb, tabGet_tabSet, State.ydBuf]

@[simp] theorem State.ydBuf_ydBufPut_same (s : State) (k : Nat) (m : YdMb) : (s.ydBufPut k m).ydBuf k = m := by
  rw [s.ydBuf_ydBufPut, if_pos rfl]

theorem State.ydBuf_ydBufPut_other (s : State) {k j : Nat} (m : YdMb) (h : j ≠ k) : (s.ydBufPut k m).ydBuf j = s.ydBuf j := by
  rw [s.ydBuf_ydBufPut, if_neg h]

/-- A change of the YD-22 state that leaves the table of buffers leaves each buffer. -/
theorem State.ydBuf_ydMod_of_mb (s : State) (f : YdSt → YdSt) (k : Nat) (h : (f s.yd).mb = s.yd.mb) :
    (s.ydMod f).ydBuf k = s.ydBuf k := by
  rw [State.ydBuf, State.ydMod_yd, h, State.ydBuf]

@[simp] theorem State.ydBuf_ydPut (s : State) (a v k : Nat) : (s.ydPut a v).ydBuf k = s.ydBuf k := rfl
@[simp] theorem State.ydBuf_ydAlarm (s : State) (v k : Nat) : (s.ydAlarm v).ydBuf k = s.ydBuf k := rfl
@[simp] theorem State.ydBuf_tick1 (s : State) (k : Nat) : s.tick1.ydBuf k = s.ydBuf k := rfl

/-- A frame counted as received leaves the YD-22 state alone. -/
theorem State.ydBuf_recOk (s : State) (n k : Nat) : (s.recOk n).ydBuf k = s.ydBuf k := by
  rw [State.ydBuf, (s.recOk_keeps n).same.yd rfl, State.ydBuf]

/-- A buffer rewritten in its configuration alone keeps what it has received. -/
theorem State.bufKept_ydBufPut_cfg (s : State) (k c j : Nat) : BufKept s (s.ydBufPut k { s.ydBuf k with cfg := c }) j := by
  by_cases hj : j = k
  · subst hj
    rw [BufKept, s.ydBuf_ydBufPut_same]
    exact ⟨rfl, rfl⟩
  · exact .of_ydBuf_eq (s.ydBuf_ydBufPut_other _ hj)

/-- Clearing TX_REQ touches the configurations of the buffers only (R434). -/
theorem State.bufKept_ydTxSync (s : State) (j : Nat) : BufKept s s.ydTxSync j := by
  refine List.foldlRecOn (motive := fun t => BufKept s t j) (upTo 32) _ (BufKept.refl s j) (fun t ht k _ => ht.trans ?_)
  dsimp only
  split
  · exact t.bufKept_ydBufPut_cfg k _ j
  · exact .refl t j

theorem State.bufKept_ydCanAfter (s s' : State) (j : Nat) : BufKept s' (s.ydCanAfter s') j := by
  unfold State.ydCanAfter
  split
  · exact .refl s' j
  · exact (BufKept.of_ydBuf_eq (State.ydBuf_ydAlarm s' _ j)).trans (State.bufKept_ydTxSync _ j)

/-! ## The message set takes its own codes (R432) -/

/-- Is a frame one of the message set: an extended identifier of the network, with a code of its bus (R432)? -/
def State.ydOwn (s : State) (n id : Nat) (ide : Bool) : Bool := ide && id / 65536 == s.ydReg 0xB1 && ydCode n (id % 65536)

/-- The two codes a unit may add its PRIO to. -/
theorem half_eq_iff (code h : Nat) : code / 2 = h ↔ code = 2 * h ∨ code = 2 * h + 1 := by omega

theorem ydCode_iff (n code : Nat) : ydCode n code = true ↔ if n = 0
    then 0x100 ≤ code ∧ code < 0x108 ∨ 0x180 ≤ code ∧ code < 0x188 ∨ code = 0x1F0 ∨ code = 0x1F1
    else 0x200 ≤ code ∧ code < 0x204 ∨ code = 0x2F0 ∨ code = 0x2F1 := by
  unfold ydCode
  split <;> simp [half_eq_iff, or_assoc]

theorem State.ydOwn_iff (s : State) (n id : Nat) (ide : Bool) : s.ydOwn n id ide = true ↔
    ide = true ∧ id / 65536 = s.ydReg 0xB1 ∧ (if n = 0
      then 0x100 ≤ id % 65536 ∧ id % 65536 < 0x108 ∨ 0x180 ≤ id % 65536 ∧ id % 65536 < 0x188 ∨ id % 65536 = 0x1F0 ∨ id % 65536 = 0x1F1
      else 0x200 ≤ id % 65536 ∧ id % 65536 < 0x204 ∨ id % 65536 = 0x2F0 ∨ id % 65536 = 0x2F1) := by
  rw [State.ydOwn, Bool.and_eq_true, Bool.and_eq_true, beq_iff_eq, ydCode_iff, and_assoc]

/-- The message set writes its inputs and registers, never a buffer. -/
theorem State.ydBuf_ydTake (s : State) (n code : Nat) (m : CanMsg) (k : Nat) : (s.ydTake n code m).ydBuf k = s.ydBuf k := by
  unfold State.ydTake
  extract_lets
  split
  next => split <;> simp [State.ydBuf_ydMod_of_mb]
  next =>
    split
    next => split <;> simp [State.ydBuf_ydMod_of_mb]
    next => rfl

/-! ## The ways through YD_CAN_RX (R433) -/

/-- Buffer `b` of controller `n` takes a frame: an enabled receive buffer whose identifier agrees under its mask, IDE too. -/
def State.ydHit (s : State) (n id : Nat) (ide : Bool) (b : Nat) : Bool :=
  let x := s.ydBuf (16 * n + b)
  bit x.cfg 15 && !bit x.cfg 14 && bit x.id 31 == ide && (id &&& x.mask) == (x.id % 2 ^ 29 &&& x.mask)

/-- A buffer with a frame stored: the data bytes up to the DLC, the open bytes `fill` past them, NEW_DATA, and MSGLOST where
NEW_DATA or MSGLOST stood. -/
def YdMb.stored (x : YdMb) (dlc : Nat) (data fill : List Byte) : YdMb :=
  { x with data := data.take (min 8 dlc) ++ fill.drop (data.take (min 8 dlc)).length,
           stat := 1 + 2 * b2n (x.stat % 2 == 1 || bit x.stat 1) }

/-- A frame offered to the buffers: the first that takes it stores it, and with none it is discarded. -/
def State.ydOffer (s : State) (n : Nat) (m : CanMsg) : State :=
  match (upTo 16).find? (s.ydHit n m.id m.ide) with
  | none => s.recOk n
  | some b => ((s.recOk n).ydBufPut (16 * n + b)
      ((s.ydBuf (16 * n + b)).stored m.dlc m.data (leBytes 8 (Config.freeWord s.free)))).tick1

/-- A classical data frame on a bus in traffic goes to the message set or to the buffers. -/
theorem State.ydCanRx_eq (s : State) (n : Nat) (m : CanMsg) (hn : n < 2) (hon : s.ydOn = true) (hcan : s.canOn n = true)
    (hfd : m.fdf = false) : s.ydCanRx n m false
      = if s.ydOwn n m.id m.ide then (s.recOk n).ydTake n (m.id % 65536) m else s.ydOffer n m := by
  have hn' : ¬n > 1 := by omega
  simp only [State.ydCanRx, hn', hon, hcan, hfd, Bool.not_true, decide_false, Bool.or_false, Bool.false_eq_true, if_false]
  rfl

theorem State.ydBuf_ydOffer_of_none {s : State} {n : Nat} {m : CanMsg} (hfind : (upTo 16).find? (s.ydHit n m.id m.ide) = none)
    (k : Nat) : (s.ydOffer n m).ydBuf k = s.ydBuf k := by
  rw [State.ydOffer, hfind]
  exact s.ydBuf_recOk n k

theorem State.ydBuf_ydOffer_of_some {s : State} {n b : Nat} {m : CanMsg}
    (hfind : (upTo 16).find? (s.ydHit n m.id m.ide) = some b) (k : Nat) : (s.ydOffer n m).ydBuf k
      = if k = 16 * n + b then (s.ydBuf (16 * n + b)).stored m.dlc m.data (leBytes 8 (Config.freeWord s.free)) else s.ydBuf k := by
  rw [State.ydOffer, hfind]
  dsimp only
  rw [State.ydBuf_tick1, State.ydBuf_ydBufPut, State.ydBuf_recOk]

/-! ## What a stored frame shows -/

theorem YdMb.stored_data_take (x : YdMb) (dlc : Nat) (data fill : List Byte) (h : data.length = min 8 dlc) :
    (x.stored dlc data fill).data.take (min 8 dlc) = data := by
  rw [← h]
  simp [YdMb.stored, ← h]

theorem YdMb.stored_new_data (x : YdMb) (dlc : Nat) (data fill : List Byte) : bit (x.stored dlc data fill).stat 0 = true := by
  simp [YdMb.stored, bit, Nat.add_mod]

theorem YdMb.stored_msglost (x : YdMb) (dlc : Nat) (data fill : List Byte) :
    bit (x.stored dlc data fill).stat 1 = (bit x.stat 0 || bit x.stat 1) := by
  have hbit1 : ∀ q : Bool, bit (1 + 2 * b2n q) 1 = q := by decide
  exact hbit1 _

/-! ## The command -/

/-- With the YD-22 personality running, YD_CAN_RX takes its frame at the advanced instant. -/
theorem exec_ydCanRx (s : State) (dt n id dlc : Nat) (ide fdf brs rtr : Bool) (data : List Byte) (hn : n < 2)
    (hon : (s.advance dt).ydOn = true) :
    exec (.ydCanRx dt n id ide fdf brs dlc data rtr) s
      = .next ((s.advance dt).ydCanAfter ((s.advance dt).ydCanRx n ⟨id, ide, fdf, brs, dlc, data⟩ rtr)) := by
  simp only [State.ydOn, Bool.and_eq_true] at hon
  obtain ⟨⟨_, hclk⟩, _⟩ := hon
  have harm : exec (.ydCanRx dt n id ide fdf brs dlc data rtr) s = execYdCanRx dt n id ide fdf brs dlc data rtr s := rfl
  rw [harm, execYdCanRx, State.timed]
  simp only [hn, hclk, decide_true, Bool.and_self, if_true]

/-- Settles O60: the message set's own frame and the frame that matches nothing leave every buffer as it was, and a match is
stored in the buffer found, the others kept; what follows the reception, TX_REQ and YD_ALARM, keeps what all of them hold. -/
theorem ydBufferStore : Obligations.YdBufferStore := by
  intro s dt n id dlc ide data _ _ hn hon hcan _ hlen
  dsimp only
  rw [← State.ydOwn_iff]
  generalize hu : s.advance dt = u at hon hcan ⊢
  let m : CanMsg := ⟨id, ide, false, false, dlc, data⟩
  have hexec := exec_ydCanRx s dt n id dlc ide false false false data hn (hu ▸ hon)
  rw [hu] at hexec
  have hafter : ∀ {k}, BufKept u (u.ydCanRx n m false) k → BufKept u (u.ydCanAfter (u.ydCanRx n m false)) k :=
    fun h => h.trans (u.bufKept_ydCanAfter _ _)
  have hrx := u.ydCanRx_eq n m hn hon hcan rfl
  refine ⟨_, hexec, fun hown k => hafter (.of_ydBuf_eq ?_), fun hown hfind k => hafter (.of_ydBuf_eq ?_), fun hown b hfind => ?_⟩
  · rw [hrx, if_pos hown, State.ydBuf_ydTake, State.ydBuf_recOk]
  · rw [hrx, if_neg hown, State.ydBuf_ydOffer_of_none (m := m) hfind]
  · have hoffer : u.ydCanRx n m false = u.ydOffer n m := hrx.trans (if_neg hown)
    have hbuf := State.ydBuf_ydOffer_of_some (m := m) hfind
    rw [← hoffer] at hbuf
    refine ⟨fun c hc => hafter (.of_ydBuf_eq ((hbuf c).trans (if_neg hc))), ?_⟩
    obtain ⟨hstat, hdata⟩ := u.bufKept_ydCanAfter (u.ydCanRx n m false) (16 * n + b)
    rw [hstat, hdata, hbuf, if_pos rfl]
    exact ⟨YdMb.stored_data_take _ _ _ _ hlen, YdMb.stored_new_data _ _ _ _, YdMb.stored_msglost _ _ _ _⟩

end Sys2Proof.Machine
end
